-- ==== Sys2Proof/Word.lean ====
section
/-! DEFINITION. The word types of the QTN-9640's window, messages and records, and the bank type that
holds a fixed family of like elements. Rules of spec/ cited by number. -/

namespace Sys2Proof

/-- A byte of a message, record or tile (R5). -/
abbrev Byte := BitVec 8

/-- A 32-bit word of the host window (R374). -/
abbrev Word := BitVec 32

/-- A bank of like elements keyed by their number, in rising order of the number.
An element that is not listed stands at the bank's default, which the reader names. -/
abbrev Tbl (α : Type) := List (Nat × α)

end Sys2Proof
end

