-- ==== Sys2Proof/Config.lean ====
section
/-! DEFINITION. The free values: constants without a body, of which nothing can be proved beyond what a
statement says for every value. What an implementation of the QTN-9640 fixes and software can read
(silicon revision, firmware build, rollback floor, eMMC size) stands in State, with a named reset value. Before them, the decoded configuration image (R427 to R429):
the parameters the owning chapters declare, which a command brings (assumption 2). -/

namespace Sys2Proof

/-! ## The configuration image: the parameters the owning chapters declare (Table 14-19) -/

/-- Verdicts on the container (R427, R428, checks 1 to 3) and its header fields (Table 14-17). All but the verdict on the signature are
read from the staged bytes (assumption 2). -/
structure Container where
  layoutOk : Bool := true
  crcOk : Bool := true
  sectionCrcOk : Bool := true
  signatureOk : Bool := true
  badSection : Nat := 0
  kind : Nat := 1
  variant : Nat := 255
  siMin : Nat := 0
  siMax : Nat := 255
  part : Nat := 38464
  ifaceLevel : Nat := 4
  imageId : Nat := 1
  version : Nat := 1
  size : Nat := 192
  keyId : List (BitVec 8) := []
deriving DecidableEq, Repr

/-- PACKAGE section: the defaults of Table 00-9 and the system membership (R14, R446, R51, R456). -/
structure PackageCfg where
  tSilentMs : Nat := 20
  standstillMs : Nat := 1000
  uncLimitMm : Nat := 150
  holdDistMm : Nat := 20000
  member : Bool := false
  pkgIndex : Nat := 0
  members : List Nat := []
  systemId : Nat := 0
  tokenPool : Nat := 0
  fixedTokens : List Nat := []
  silenceMs : Nat := 100
  reqLow : Nat := 100
  reqTarget : Nat := 300
  retHigh : Nat := 600
  busDelayNs : Nat := 0
deriving DecidableEq, Repr

/-- NAV section: antennas, tracking, RTK source, PPS, NMEA, keep-warm (R62 to R105). `allocation` serves both antennas (DESIGN CHOICE,
assumption 51: the spec does not say whether they may differ); `spacing` is d in 0.01 chip; `uartBaud` is UART0's rate. -/
structure NavCfg where
  ant0 : Int × Int × Int := (0, 0, 0)
  ant1 : Int × Int × Int := (0, 0, 0)
  cableNs : Nat × Nat := (0, 0)
  allocation : List Nat := [14, 12, 14, 14, 16, 16, 3, 3, 4]
  maskDeg : Nat := 10
  spacing : List Nat := [10, 50, 10, 50, 10, 50, 10, 50, 10]
  discriminator : List Nat := [1, 2, 1, 1, 0]
  pllHz : Nat := 15
  fllHz : Nat := 10
  osnmaKeyOk : Bool := true
  osnmaKey : List Byte := []
  osnmaRoot : List Byte := []
  osnmaRequire : Bool := false
  rtcmUart0 : Bool := true
  uartBaud : Nat := 115200
  ageLimitDs : Nat := 100
  imu : Bool := false
  wheelPair : Option (Nat × Nat × Nat) := none
  ppsWidthMs : Nat := 100
  nmeaHz : Nat := 1
  nmeaBaud : Nat := 38400
  nmeaReference : Bool := false
  keepWarm : Bool := false
  keepWarmMin : Nat := 30
deriving DecidableEq, Repr

/-- Sensor kinds of a fast channel (Table 04-1). -/
inductive ChannelType where
  | wheel | radar | shaft | flow
deriving DecidableEq, Repr

/-- Direction source of a single-channel input (R120). -/
inductive DirSource where
  | forward | gnss | input (fi : Nat)
deriving DecidableEq, Repr

/-- One fast odometry channel (R106 to R110). `scale` is pulses per 1000 measured units. -/
structure ChannelCfg where
  type : ChannelType := .wheel
  quad : Bool := false
  scale : Nat := 100000
  falling : Bool := false
  minEdgeUs : Nat := 5
  dir : DirSource := .forward
  product : Option Nat := none
deriving DecidableEq, Repr

/-- One SENT channel (Table 04-6, R125). -/
structure SentCfg where
  tickUs : Nat := 3
  nibbles : Nat := 6
  pause : Bool := false
  recommendedCrc : Bool := true
  slow : Nat := 0
  twoValues : Bool := false
  rotaryWrap : Option Nat := none
  periodUs : Nat := 1000
deriving DecidableEq, Repr

/-- A ground-speed source (R126). -/
inductive SpeedSource where
  | channel (n : Nat) | isoWheel | isoGround | gnss
deriving DecidableEq, Repr

/-- Emulation (R135, R136): 0 off, 1 SINGLE, 2 QUAD; `kMilli` is K in 0.001 pulses per metre. -/
structure EmulationCfg where
  mode : Nat := 0
  dirLevel : Bool := false
  channel : Option Nat := none
  kMilli : Nat := 130000
deriving DecidableEq, Repr

/-- ODO section. -/
structure OdoCfg where
  channels : Tbl ChannelCfg := []
  sent : Tbl SentCfg := []
  sources : List SpeedSource := [.gnss]
  emulation : EmulationCfg := {}
deriving DecidableEq, Repr

/-- A profile (Table 07-1) with the valve-type parameters of R522 and R208. Times in us, currents in mA. -/
structure ProfileCfg where
  boost : Bool := false
  iPeak : Nat := 500
  tPhUs : Nat := 0
  tTransUs : Nat := 0
  iHold : Nat := 200
  fChopKhz : Nat := 25
  offSlow : Bool := false
  /-- V_REF; none for its default (Table 07-1). -/
  vRefMv : Option Nat := none
  ttpMinUs : Nat := 10
  ttpMaxUs : Nat := 20000
  shotMs : Nat := 100
  lCoilUh : Nat := 100
  latMinUs : Nat × Nat := (100, 100)
  latMaxUs : Nat × Nat := (250000, 250000)
  seedOpenUs : List Nat := []
  seedCloseUs : List Nat := []
  alphaDiv : Nat := 16
  /-- OPEN_WIN and CLOSE_WIN; none for LAT_MAX of their direction (R240, R242). -/
  openWinUs : Option Nat := none
  closeWinUs : Option Nat := none
  dipDepthPm : Nat := 20
  dipDutyPm : Nat := 40
  kneeMv : Nat := 1000
  noMotionN : Nat := 3
  noReleaseN : Nat := 3
  res25MilliOhm : Option Nat := none
deriving DecidableEq, Repr

/-- Section parameters (Table 05-7) with the look-ahead of R195. -/
structure SectionCfg where
  product : Nat := 0
  wMm : Option Nat := none
  depthMm : Option Nat := none
  sectionIn : Option Nat := none
  laMm : Nat := 1000
  vMaxMmS : Nat := 8333
deriving DecidableEq, Repr

/-- The modes of a valve unit (R228). -/
inductive UnitMode where
  | onoff | pwm | prop | pairedMember
deriving DecidableEq, Repr

/-- One valve unit (R219, R228, R130, R188, Table 02-1). -/
structure UnitCfg where
  used : Bool := false
  mode : UnitMode := .onoff
  pairOwner : Bool := false
  pwmCapable : Bool := false
  profile : Option ProfileCfg := none
  iMax : Option Nat := none
  ditherHz : Nat := 50
  ditherMa : Nat := 0
  tTrMs : Nat := 0
  xMm : Int := 0
  yMm : Int := 0
  forwardOnly : Bool := true
  sec : Option SectionCfg := none
deriving DecidableEq, Repr

/-- UNITS section: units by number, PWM frequency per cluster (R229), BOOST_SET per valve die (R225). -/
structure UnitsCfg where
  units : Tbl UnitCfg := []
  fPwmHz : Tbl Nat := []
  boostSetV : Tbl Nat := []
deriving DecidableEq, Repr

/-- HEADLAND_MODE of Table 05-8. -/
inductive HeadlandMode where
  | normal | exclude | only
deriving DecidableEq, Repr

/-- One product (Table 05-8, R193, R273, R275). -/
structure ProductCfg where
  onThr : Nat := 10
  offThr : Nat := 60
  coveredAt : Nat := 1
  exclLimit : Nat := 50
  headlandMode : HeadlandMode := .normal
  provUncovered : Bool := false
  minSpeed : Nat := 300
  masterIn : Option Nat := none
  lateDiscard : Nat := 2500
  liquid : Bool := false
  kNozRaw : Nat := 0
  pressureAi : Nat := 0
  pValidMinKpa : Nat := 50
deriving DecidableEq, Repr

/-- Feedback bindings (Table 08-2). -/
inductive FeedbackBinding where
  | none
  | odo (channel : Nat)
  | sent (channel : Nat)
  | ai (input : Nat)
  | bus (ctrl ident offset width : Nat) (isSigned : Bool) (scaleRaw : Int) (ageMs : Nat)
  | current (unit : Nat)
deriving DecidableEq, Repr

/-- Output bindings (Table 08-3). -/
inductive OutputBinding where
  | none
  | prop (unit : Nat)
  | duty (unit : Nat)
  | swPwm (channel : Nat)
  | canSp (ctrl ident offset width : Nat) (scaleRaw : Int) (periodMs : Nat)
  | dutyTrim (product : Nat)
deriving DecidableEq, Repr

/-- The loop parameters that LOOP_COEF_WRITE can write (Tables 08-1, 08-5, 14-11). -/
structure LoopParams where
  kp : Int := 0
  ki : Int := 0
  kd : Int := 0
  tdFMs : Int := 10
  kff : Int := 0
  ffOffset : Int := 0
  outLo : Int := 0
  outHi : Int := 10000
  iLo : Int := -655360000
  iHi : Int := 655360000
  ramp : Int := 0
  outSafe : Int := 0
  fbHoldMs : Int := 200
  plausEnable : Int := 0
  kM : Int := 0
  y0 : Int := 0
  tauMs : Int := 10
  thetaMs : Int := 0
  tfMs : Int := 0
  rThr : Int := 1
  rTimeMs : Int := 10
  policy : Int := 0
deriving DecidableEq, Repr

/-- One loop slot (R254, R257). -/
structure LoopCfg where
  fb : FeedbackBinding := .none
  out : OutputBinding := .none
  rateHz : Nat := 500
  /-- Table 08-1, but for the four limits below. -/
  params : LoopParams := {}
  /-- OUT_LO, OUT_HI, I_LO and I_HI; none for their defaults (Table 08-1). -/
  outLo : Option Int := none
  outHi : Option Int := none
  iLo : Option Int := none
  iHi : Option Int := none
deriving DecidableEq, Repr

/-- Load kinds of a switch channel (Table 09-2). -/
inductive LoadKind where
  | resistive | lamp | inductive
deriving DecidableEq, Repr

/-- One switch channel (Table 09-2, R334). `inrushHalf` is INRUSH_MULT in halves. -/
structure SwitchCfg where
  used : Bool := false
  load : LoadKind := .resistive
  iLoad : Nat := 100
  inrushHalf : Option Nat := none
  inrushMs : Option Nat := none
  iInrush : Option Nat := none
  lLoadUh : Nat := 0
  extFreewheel : Bool := false
  olThr : Option Nat := none
  retryN : Nat := 3
  backoffMs : Nat := 100
  pwmHz : Nat := 0
  napOn : Bool := false
deriving DecidableEq, Repr

/-- Input functions (Table 10-1). -/
inductive InputMode where
  | unused | digital | operator | fast | sent
deriving DecidableEq, Repr

/-- One field input (Table 10-1). -/
structure InputCfg where
  mode : InputMode := .unused
  system12 : Bool := false
  type3 : Bool := false
  wb : Bool := false
  debounceMs : Nat := 20
  invert : Bool := false
  pushPull : Bool := false
  keyOn : Bool := false
deriving DecidableEq, Repr

/-- Analog modes (Table 10-4). -/
inductive AnalogMode where
  | v5 | v10 | ma20
deriving DecidableEq, Repr

/-- One analog input (R313): two-point scale and valid range, engineering values in Q16.16. -/
structure AnalogCfg where
  used : Bool := false
  mode : AnalogMode := .v5
  raw0 : Nat := 0
  eng0 : Int := 0
  raw1 : Nat := 4096
  eng1 : Int := 4096
  validLo : Int := 0
  validHi : Int := 2147483647
deriving DecidableEq, Repr

/-- One field output (R315, R316, R334). -/
structure FieldOutCfg where
  used : Bool := false
  iLoad : Nat := 100
  lLoadUh : Nat := 0
  extFreewheel : Bool := false
  napOn : Bool := false
deriving DecidableEq, Repr

/-- One line of a connector group (R317). -/
inductive Line where
  | unit (u : Nat) | switch (n : Nat) | fi (i : Nat) | fo (o : Nat) | ai (a : Nat)
deriving DecidableEq, Repr

/-- One connector group (R317, R319). -/
structure GroupCfg where
  lines : List Line := []
  rearmIn : Option Nat := none
deriving DecidableEq, Repr

/-- FIELD_IO section. -/
structure FieldIoCfg where
  inputs : Tbl InputCfg := []
  analogs : Tbl AnalogCfg := []
  outputs : Tbl FieldOutCfg := []
  groups : List GroupCfg := []
deriving DecidableEq, Repr

/-- Safe-state codes of Table 10-7 (the code 0b11 acts as OFF). -/
inductive SafeCode where
  | off | on | holdLast | reserved
deriving DecidableEq, Repr

/-- SAFE_STATES section: outputs not listed are OFF (R321). -/
structure SafeCfg where
  units : Tbl SafeCode := []
  switches : Tbl SafeCode := []
  outputs : Tbl SafeCode := []
deriving DecidableEq, Repr

/-- EVENTS section: PRIORITY and TARGET per source (R461), THRESHOLD, COUNT, TIME and WAKE_ON_QUEUE per target (R470). -/
structure EventsCfg where
  sources : Tbl (Nat × Nat) := []
  targets : Tbl (Nat × Nat × Nat × Bool) := []
deriving DecidableEq, Repr

/-- Host link (R405, R450). -/
inductive HostLink where
  | spi | isobus (ctrl : Nat) (name : Nat) | none
deriving DecidableEq, Repr

/-- HOST section (R395, R396, R398, R339, R340, R167). -/
structure HostCfg where
  link : HostLink := .spi
  heartbeatMs : Nat := 200
  autonomous : Bool := false
  autoField : Option Nat := none
  autoPark : Bool := false
  keyOffDelayS : Nat := 30
  wakeMask : Nat := 9
  sectionsHz : Nat := 5
deriving DecidableEq, Repr

/-- One CAN controller (Tables 15-1, 15-2, R446). -/
structure CanCfg where
  isobus : Bool := false
  zitherSystem : Bool := false
  zitherRow : Bool := false
  fd : Bool := false
  brs : Bool := false
  nominalKbit : Nat := 250
  dataKbit : Nat := 0
  gwRetry : Nat := 3
  /-- R431 sample points in %: nominal 80, data phase 75. -/
  samplePct : Nat := 80
  dataSamplePct : Nat := 75
deriving DecidableEq, Repr

/-- BUSES section (R442, R444). -/
structure BusesCfg where
  controllers : Tbl CanCfg := [(2, { fd := true, brs := true, nominalKbit := 500, dataKbit := 2000 }),
    (3, { fd := true, brs := true, nominalKbit := 500, dataKbit := 2000 })]
  name : Nat := 0
  preferredAddr : Nat := 128
  selfConfigurable : Bool := true
  tcEnabled : Bool := false
  tcFollow : Bool := false
  tcSections : List Nat := []
deriving DecidableEq, Repr

/-- The decoded configuration image: container verdicts and the sections of Table 14-19. -/
structure Image where
  container : Container := {}
  package : PackageCfg := {}
  nav : NavCfg := {}
  odo : OdoCfg := {}
  units : UnitsCfg := {}
  products : Tbl ProductCfg := []
  loops : Tbl LoopCfg := []
  switches : Tbl SwitchCfg := []
  fieldIo : FieldIoCfg := {}
  safe : SafeCfg := {}
  events : EventsCfg := {}
  host : HostCfg := {}
  buses : BusesCfg := {}
deriving DecidableEq, Repr

/-- A firmware image in a slot (R357): what the boot ROM's four checks look at. -/
structure Firmware where
  headerOk : Bool := true
  signatureOk : Bool := true
  version : Nat := 0
  siMin : Nat := 0
  siMax : Nat := 255
  size : Nat := 192
  imageId : Nat := 0
deriving DecidableEq, Repr

end Sys2Proof

namespace Sys2Proof.Config

/-- Whether a fret that falls due in the tick in which its cancel reaches the valve die fires (true) or is
cancelled (false), for the n-th such race (R423: "whichever the die sees first").
FREE VALUE (assumption 7). -/
opaque fretRace : Nat → Bool

/-- The n-th value that the spec leaves open in a computed result (a quotient by zero, a latency estimate
with an empty table): nothing constrains it.
FREE VALUE (assumption 8). -/
opaque freeValue : Nat → Int

/-- Whether an ECDSA P-256 signature over a message is the key's (R74, R427). FREE VALUE (assumption 52). -/
opaque ecdsaP256 : List Byte → List Byte → List Byte → Bool

/-- The TESLA key so many places earlier in the chain (R74). FREE VALUE (assumption 52). -/
opaque teslaBack : Nat → List Byte → List Byte

/-- The MACK tag that a TESLA key gives a satellite's data (R74). FREE VALUE (assumption 52). -/
opaque osnmaMac : List Byte → Nat → List Byte → List Byte

/-- The Merkle tree root that a renewed key and its proof lead to (R74). FREE VALUE (assumption 52). -/
opaque merkleRoot : List Byte → List Byte → List Byte

/-- The direct-path delay of the least-squares fit of MULTIPATH_EST, from seven tap magnitudes and the spacing (R68, Table 03-4): the spec
gives neither the replica nor the unit. FREE VALUE (assumption 52). -/
opaque multipathDelay : List Nat → Nat → Int

/-- The figures of NMEA sentences that the spec gives no rule for, by field and DEVTIME (R101). FREE VALUE (assumption 52). -/
opaque nmeaFigure : Nat → Nat → Nat

/-- What a converter of the device reads at a DEVTIME where no command of the model brings the reading: by quantity (0 a VBAT group's 1 ms
mean in mV, 1 a region's thermal grid in milli-degrees C, 2 a unit's chopping duty in ppm, 3 a unit's current in mA, 4 a switch channel's
in mA, 5 a field output's in mA, 6 a field input's in uA, 7 a unit's C_u − 1 at self-calibration in 2^-16), element and DEVTIME. FREE VALUE (assumption 57). -/
opaque reading : Nat → Nat → Nat → Int

/-- The parameters that the sections of staged bytes spell, when the request that verifies or commits them came as bytes of a ring.
FREE VALUE (assumption 2). -/
opaque decodeImage : List Byte → Option Image

end Sys2Proof.Config
end

