-- ==== Sys2Proof/Syntax.lean ====
section
/-! DEFINITION. The commands: one constructor of Instr per row of spec/opcode_table.json, and the operands each
carries. Every command carries the DEVTIME (us) at which it happens; a host request also carries the message
header of Table 13-7. What the device measures in the world outside it is an operand (assumption 1). -/

namespace Sys2Proof

/-- A host request as the device finds it at REQ_RD: when it is taken, its course, and the message header of
Table 13-7 (R385). `resv` is the sum of its reserved fields (R409); `len` is LENGTH. -/
structure Hdr where
  t : Nat := 0
  course : Nat := 0
  seq : Nat := 0
  ack : Nat := 0
  tag : Nat := 0
  epoch : Nat := 0
  len : Nat := 0
  crcOk : Bool := true
  resv : Nat := 0
deriving DecidableEq, Repr

/-- The clamp measurements of the switch channels that a command turns off (R290): channel, clamp energy in uJ,
and whether the current was at least OL_THR at the turn-off. A channel that is not listed clamps nothing. -/
abbrev Clamps := List (Nat × Nat × Bool)

/-- Present sense readings, mA or uA by element number, for the status words that carry them (R216, Tables 09-10,
10-5, 14-13), and the inputs whose last sample is at or above ON (Table 10-5). The reading of an element that is not listed is a free value
(assumption 57). -/
structure Sense where
  unit : Tbl Nat := []
  switch : Tbl Nat := []
  output : Tbl Nat := []
  input : Tbl Nat := []
  on : List Nat := []
deriving DecidableEq, Repr

/-- A fret as FRET_ARM and Zither carry it (Table 06-1). -/
structure FretWire where
  pos : Int := 0
  action : Nat := 0
  flags : Nat := 0
  tag : Nat := 1
  discard : Nat := 65535
  unit : Nat := 0
deriving DecidableEq, Repr

/-- One SPI transaction as it passes on the wire (R374 to R378): the header word, the data words (of a read that HCS_N ends early, as
many as were clocked out), the CRC word, and whether HCS_N rose at the end of the CRC word. -/
structure Spi where
  header : Word := 0
  words : List Word := []
  crc : Word := 0
  complete : Bool := true
deriving DecidableEq, Repr

/-- What one channel's correlation epoch gives (R66, R67, R87): C/N0 in dB-Hz, elevation, and the magnitudes of the seven taps, in the
order of Table 03-3. -/
structure ChannelMeas where
  ant : Nat := 0
  signal : Nat := 0
  svid : Nat := 0
  cn0 : Nat := 0
  elevDeg : Int := 0
  taps : List Nat := []
deriving DecidableEq, Repr

/-- What the OSNMA messages that a page completes bring (R74): a DSM-KROOT with its signature, a TESLA key at its position in the chain,
the MACK tag of a satellite made with the key of position `pos`, and a renewed public key with its Merkle proof. `p256` says that
the key announced is of type ECDSA P-256. -/
inductive OsnmaItem where
  | kroot (p256 : Bool) (message signature root : List Byte)
  | key (pos : Nat) (key : List Byte)
  | tag (svid pos : Nat) (mac : List Byte)
  | renewal (p256 : Bool) (key proof : List Byte)
deriving DecidableEq, Repr

/-- What a page's decoded message completes (R72, R100, Table 03-17): its satellite's ephemeris and clock data, an almanac, ionosphere
or UTC parameters, with whether they announce a leap second. -/
inductive NavDatum where
  | ephemeris (data : List Byte)
  | almanac (svid : Nat) (data : List Byte)
  | iono (data : List Byte)
  | utc (data : List Byte) (announced : Bool)
deriving DecidableEq, Repr

/-- A page, subframe or message after deinterleaving and FEC (R72, Table 03-7), with what it completes. `nbits` tells the two units of
B-CNAV1 apart; every other message has the length of Table 03-6. -/
structure NavPage where
  const : Nat := 0
  signal : Nat := 0
  svid : Nat := 0
  ant : Nat := 0
  msg : Nat := 255
  /-- DEVTIME of the first bit (Table 03-7). -/
  devtime : Nat := 0
  tow : Nat := 0
  nbits : Nat := 600
  bits : List Byte := []
  osnma : List OsnmaItem := []
  data : List NavDatum := []
deriving DecidableEq, Repr

/-- A complete RTCM 3 frame stands in the stream of one of the two sources (R77, R78): on UART0 `bytes` are those received since the last.
`epochUs` is the DEVTIME of the epoch of an MSM set. -/
structure RtcmFrame where
  uart0 : Bool := true
  bytes : List Byte := []
  epochUs : Nat := 0
deriving DecidableEq, Repr

/-- An RTK solution (R80 to R82): position of the phase centre of the antenna it is solved at, in the field frame and geodetic, the
horizontal variances in µm², east and north, and the Galileo satellites used. `fixedSats`, `ratioMilli`, `fixFloatMm`, `floatUncMm` are
the quantities of R81; `residualBad` says that a fixed residual exceeded 4 times its deviation. -/
structure RtkSolution where
  e : Int := 0
  n : Int := 0
  u : Int := 0
  lat : Int := 0
  lon : Int := 0
  height : Int := 0
  velE : Int := 0
  velN : Int := 0
  velU : Int := 0
  var : Nat × Nat := (25000000, 25000000)
  nsv : Nat := 12
  galileo : List Nat := []
  sbas : Bool := false
  fixedSats : Nat := 0
  ratioMilli : Nat := 0
  fixFloatMm : Nat := 0
  floatUncMm : Nat := 0
  residualBad : Bool := false
deriving DecidableEq, Repr

/-- What the fusion filter gives for one 1 kHz epoch (R85), before blending and the speed source: the position of the phase centre of the
antenna that position is solved at (R62, R87), in the field frame and geodetic, its horizontal variances in µm², east and north, none
while unknown (R89), heading, yaw rate, velocities in mm/s, angles in millidegrees, and the Doppler speed along the heading. `uncHdg` is the
uncertainty of a heading from the baseline, `hdgGrow` what a propagated heading's grows by in this epoch, 10^-6 millidegree (R87). `vbatMv`
holds the 1 ms means of the seven VBAT groups, `gridMc` the regions' thermal grids in milli-degrees C, and `dutyPpm` the mean
chopping duty of units in hold over the last 10 ms (R208). -/
structure Fusion where
  e : Int := 0
  n : Int := 0
  u : Int := 0
  heading : Int := 0
  headingValid : Bool := true
  yawRate : Int := 0
  velE : Int := 0
  velN : Int := 0
  velU : Int := 0
  pitch : Int := 0
  roll : Int := 0
  var : Option (Nat × Nat) := some (0, 0)
  uncHdg : Nat := 0
  hdgGrow : Nat := 0
  doppler : Option Int := none
  imuUsed : Bool := false
  imuYaw : Int := 0
  lat : Int := 0
  lon : Int := 0
  height : Int := 0
  vbatMv : Tbl Nat := []
  gridMc : Tbl Int := []
  dutyPpm : Tbl Nat := []
deriving DecidableEq, Repr

/-- A SENT frame as its pulses, in ns: the calibration pulse, then status, data and CRC nibbles, and the pause pulse if there was one
(R122). -/
structure SentFrame where
  calNs : Nat := 168000
  pulses : List Nat := []
  pauseNs : Option Nat := none
deriving DecidableEq, Repr

/-- A level change on a fast line (R109): `quarter` counts the 0.25 µs steps of its timestamp past the whole µs of DEVTIME, `lasts` those
that the new level has lasted when the line's filter passes it on or drops it. -/
structure FastEdge where
  input : Nat := 0
  quarter : Nat := 0
  lasts : Nat := 2
deriving DecidableEq, Repr

/-- The time solution behind a PPS pulse (R96 to R100). `errNs` is the pulse's error against the second as its signal arrives at the
receiver, before antenna delay (R62); `tcxo` is a point of the TCXO's offset against temperature, `biasNs` and `driftPpb` the clock's
(Table 03-17). -/
structure TimeSolution where
  locked : Bool := true
  subNs : Nat := 0
  gpsWeek : Nat := 0
  gpsTow : Nat := 0
  utcS : Nat := 0
  leap : Int := 18
  errBoundNs : Nat := 20
  errNs : Int := 0
  leapActive : Bool := false
  tcxo : Option (Nat × Int) := none
  biasNs : Int := 0
  driftPpb : Int := 0
deriving DecidableEq, Repr

/-- A CAN frame (Table 15-4, R431). -/
structure CanFrame where
  id : Nat := 0
  ext : Bool := false
  fdf : Bool := false
  brs : Bool := false
  esi : Bool := false
  remote : Bool := false
  data : List Byte := []
deriving DecidableEq, Repr

/-- The measured side of an audit: 10 ms average current in mA of each valve cluster, switch cluster and region
(R47), and the elements whose window holds a skip cause of R48. -/
structure AuditMeas where
  valveCluster : Tbl Nat := []
  switchCluster : Tbl Nat := []
  region : Tbl Nat := []
deriving DecidableEq, Repr

/-- The outcome of the self-tests of a start (R353 to R367): the elements that fail, and what the storage gives. -/
structure StartTests where
  emmcAnswers : Bool := true
  failUnits : List Nat := []
  failClusters : List Nat := []
  failSwitches : List Nat := []
  failOutputs : List Nat := []
  failInputs : List Nat := []
  failAnalogs : List Nat := []
  selftestSwitches : List Nat := []
  fuseMapOk : Bool := true
  /-- Power dies whose safe-state table fails its CRC at step 8. -/
  badTables : List Nat := []
  rfOk : Bool × Bool := (true, true)
  vddRf : Bool := true
  /-- R103 the retained position lies within 10 km of the true one. -/
  navNear : Bool := true
  tephraOk : Bool := true
  tornCommit : Bool := false
  elapsedUs : Nat := 180000
  activateUs : Nat := 0
deriving DecidableEq, Repr

/-- The histogram and extreme inputs of one 100 ms sample (R492, R493). -/
structure RecSample where
  vbatMv : Tbl Nat := []
  junctionDc : Tbl Int := []
  coldPlateDc : Int := 250
  packageMa : Nat := 0
deriving DecidableEq, Repr

/-- How far a gateway transmission has gone when its cancel arrives (Table 15-3). -/
structure TxPhase where
  sending : Bool := false
  afterArbitration : Bool := false
  completes : Bool := true
deriving DecidableEq, Repr

/-- A Zither header (R447, R448): source package, SEQ, SYS_EPOCH. -/
structure ZHdr where
  t : Nat := 0
  src : Nat := 0
  seq : Nat := 0
  epoch : Nat := 0
deriving DecidableEq, Repr

/-- The commands of the block: the rows of spec/opcode_table.json, in its order but for the Zither frames. -/
inductive Instr where
  -- SYS, CFG
  | sysInfo (h : Hdr)
  | sysResync (h : Hdr) (sense : Sense)
  | sysReplay (h : Hdr) (course first last : Nat)
  | sysOutputs (h : Hdr) (action : Nat) (clamps : Clamps)
  | sysPower (h : Hdr) (st alarm : Nat) (clamps : Clamps)
  | sysReset (h : Hdr) (key : Nat)
  | sysTimeSet (h : Hdr) (utcS utcMs boundMs : Nat)
  | cfgBegin (h : Hdr) (size : Nat)
  | cfgWrite (h : Hdr) (offset : Nat) (data : List Byte)
  | cfgVerify (h : Hdr) (img : Image)
  | cfgCommit (h : Hdr) (slot : Nat) (img : Image)
  | configurationActivationDone (t : Nat)
  | cfgRead (h : Hdr) (slot offset count : Nat)
  | cfgInfo (h : Hdr)
  -- NAV
  | navSubscribe (h : Hdr) (rate rtk : Nat)
  | navNavbitsSelect (h : Hdr) (constMask antMask : Nat)
  | navRtcm (h : Hdr) (data : List Byte)
  | navStatusRead (h : Hdr)
  | navRetentionClear (h : Hdr) (key : Nat)
  -- COV
  | covFieldOpen (h : Hdr) (fieldId : Nat) (lat lon height : Int) (cell flags : Nat)
  | fieldOpenScanDone (t : Nat)
  | covFieldClose (h : Hdr)
  | fieldCloseDone (t : Nat)
  | covFieldReset (h : Hdr) (fieldId : Nat)
  | covFieldDelete (h : Hdr) (fieldId : Nat)
  | covPolyLoad (h : Hdr) (offset : Nat) (data : List Byte)
  | covPolyCommit (h : Hdr) (size crc : Nat)
  | rerasterisationDone (t : Nat) (tcol trow : Int)
  | covMaster (h : Hdr) (mask st : Nat)
  | covSectionMode (h : Hdr) (unit mode : Nat)
  | covExport (h : Hdr) (fieldId flags : Nat) (tcLo tcHi trLo trHi : Int)
  | nExportChunk (t : Nat)
  | covReconcile (h : Hdr)
  | covCountersRead (h : Hdr) (scope product unit : Nat)
  -- FRET and UNIT
  | fretArm (h : Hdr) (frets : List FretWire)
  | fretCancel (h : Hdr) (unit tag : Nat)
  | unitCmd (h : Hdr) (unit cmd : Nat)
  | unitSetpoint (h : Hdr) (unit value : Nat)
  | unitMode (h : Hdr) (unit mode : Nat)
  | unitFaultClear (h : Hdr) (kind number : Nat) (stillUnits stillClusters : List Nat)
  | unitStatusRead (h : Hdr) (first count : Nat) (sense : Sense)
  | unitLatencyRead (h : Hdr) (unit : Nat)
  | unitLatencyReset (h : Hdr) (unit : Nat)
  -- LOOP
  | loopMode (h : Hdr) (loop mode flags : Nat) (manual : Int)
  | loopManual (h : Hdr) (loop : Nat) (value : Int)
  | loopSetpoint (h : Hdr) (loop : Nat) (sp : Int)
  | loopCoefWrite (h : Hdr) (loop param : Nat) (value : Int)
  | loopStatusRead (h : Hdr) (first count : Nat)
  | loopStream (h : Hdr) (rate count : Nat) (loops : List Nat)
  | nLoop (t : Nat)
  | loopRateSet (h : Hdr) (product rate : Nat)
  | loopRateFactors (h : Hdr) (product first count : Nat) (factors : List Nat)
  -- SW and IO
  | swSet (h : Hdr) (mask on : Nat) (clamps : Clamps)
  | swPwmDuty (h : Hdr) (channel duty : Nat)
  | swUnlock (h : Hdr) (channel : Nat)
  | swStatusRead (h : Hdr) (first count : Nat) (sense : Sense)
  | swVentRead (h : Hdr)
  | swLimpFuseProgram (h : Hdr) (entries : List Nat) (global confirm : Nat) (readBackOk : Bool)
  | swLimpFuseRead (h : Hdr)
  | ioOutputSet (h : Hdr) (mask on : Nat)
  | ioOutputRead (h : Hdr) (sense : Sense)
  | ioInputRead (h : Hdr) (sense : Sense)
  | ioAnalogRead (h : Hdr)
  | ioFaultClear (h : Hdr) (output : Nat) (causePersists : Bool)
  | ioGroupRearm (h : Hdr) (group : Nat)
  -- BUS, EVT, REC, MNT
  | busFilterSet (h : Hdr) (ctrl buffer flags id mask : Nat)
  | busStatusRead (h : Hdr) (ctrl : Nat)
  | busSystemRead (h : Hdr)
  | evtSourceSet (h : Hdr) (source priority type target : Nat)
  | evtTargetSet (h : Hdr) (target threshold count flags time : Nat)
  | evtReroute (h : Hdr) (src dst : Nat)
  | evtCountersRead (h : Hdr) (first count : Nat)
  | recRead (h : Hdr) (kind first count : Nat)
  | nRecChunk (t : Nat)
  | recFreeze (h : Hdr)
  | recThaw (h : Hdr)
  | recFaultsRead (h : Hdr) (first : Nat)
  | mntInfo (h : Hdr)
  | mntFwBegin (h : Hdr) (size : Nat)
  | mntFwWrite (h : Hdr) (offset : Nat) (data : List Byte)
  | mntFwCommit (h : Hdr) (fw : Firmware)
  | mntPartition (h : Hdr) (confirm tephraMib : Nat)
  | mntCfgKeyFuse (h : Hdr) (key : List Byte) (confirm : Nat)
  -- The host window
  | registerWrite (t : Nat) (x : Spi)
  | heartbeat (t value : Nat)
  | outDisable (t : Nat) (clamps : Clamps)
  | hqRd (t index : Nat)
  | ack (t restore : Nat)
  | devtimeLo (t : Nat)
  | take (t ns : Nat)
  | txReq (t ctrl buffer : Nat)
  | cancel (t ctrl buffer : Nat) (phase : TxPhase)
  | lock (t ctrl buffer : Nat) (set : Bool)
  | reqWrStall (t course : Nat)
  | notificationWrite (t course : Nat)
  | hostSilent (t : Nat) (clamps : Clamps)
  | autonomousReenable (t die : Nat)
  -- Zither frames
  | followUp (z : ZHdr) (tLeadNs tLocalNs : Nat)
  | state (z : ZHdr) (epoch : Nat) (v a omega alpha : Int) (flags : Nat)
  | odo (z : ZHdr) (epoch : Nat) (dist theta : Int)
  | fret (z : ZHdr) (op : Nat) (frets : List FretWire)
  | fretStatus (z : ZHdr) (entries : List (Nat × Nat × Nat × Nat))
  | stroke (z : ZHdr) (entries : List (Nat × Nat × Nat))
  | tokenReq (z : ZHdr) (count : Nat)
  | tokenGrant (z : ZHdr) (tseq count : Nat)
  | tokenReturn (z : ZHdr) (tseq count : Nat)
  | tokenAck (z : ZHdr) (tseq kind : Nat)
  | join (z : ZHdr) (systemId cfgId boots : Nat)
  | welcome (z : ZHdr) (systemId result : Nat)
  | control (z : ZHdr) (flags : Nat) (clamps : Clamps)
  | fwdReq (z : ZHdr) (rseq seg nseg : Nat) (data : List Byte)
  | fwdRpl (z : ZHdr) (rseq seg nseg : Nat) (data : List Byte)
  -- Bridge links, cores, supplies, ledger
  | bridgeFrame (t link : Nat) (atDie crcOk : Bool) (seq : Nat)
  | bridgeResend (t link : Nat) (atDie : Bool)
  | bridgeHeartbeatSend (t link : Nat) (fromDie : Bool)
  | bridgeDegraded (t link lane : Nat)
  | linkSilence (t die : Nat) (clamps : Clamps)
  | silenceAllOff (t die : Nat) (clamps : Clamps)
  | linkRestored (t die : Nat)
  | retrainTimeout (t die : Nat)
  | coreRestart (t core : Nat) (checkpointOk : Bool) (clamps : Clamps)
  | coreRestartDone (t core : Nat)
  | coreColdDone (t core : Nat)
  | vbatGroupLoss (t group mv : Nat) (clamps : Clamps)
  | vbatGroupReturn (t group mv : Nat)
  | ledgerAudit (t : Nat) (meas : AuditMeas) (clamps : Clamps)
  | derateEnter (t : Nat) (coldPlateDc : Int)
  | derateExit (t : Nat) (coldPlateDc : Int)
  -- Navigation and time
  | measurementEpoch (t : Nat) (meas : List ChannelMeas) (timeSats : List (Nat × Nat))
  | notchEngage (t antenna band freqKhz levelDb : Nat)
  | jammingUpdate (t antenna band : Nat) (dAgcMilliDb dNoiseMilliDb : Int)
  | navPage (t : Nat) (page : NavPage)
  | rtcmFrame (t : Nat) (frame : RtcmFrame)
  | correctionAgeExceeded (t : Nat)
  | rtkSolution (t : Nat) (sol : RtkSolution)
  | deadReckoning (t : Nat)
  -- the vector from ANT0 to ANT1, east, north and up, um, and the Galileo satellites used
  | baselineSolution (t : Nat) (vec : Int × Int × Int) (fixedAmbiguities : Bool) (galileo : List Nat)
  | baselineMismatch (t : Nat)
  | antennaLost (t antenna : Nat)
  | fusedEpoch (t : Nat) (f : Fusion)
  | holdDistanceUsedUp (t : Nat)
  | holdDistanceRestored (t : Nat)
  | nPos (t : Nat)
  | pps (t : Nat) (sol : TimeSolution)
  | nmeaEpoch (t : Nat)
  | navRetentionSave (t : Nat)
  | keepWarm (t : Nat)
  | refreshEnd (t : Nat)
  -- Odometry
  | odoEdge (t : Nat) (change : FastEdge) (levelA levelB : Bool)
  | odoNoisy (t channel : Nat)
  | odoNoisyClear (t channel : Nat)
  | standstill (t channel : Nat)
  | sentFrame (t channel : Nat) (frame : SentFrame)
  | sentLost (t channel : Nat)
  | speedImplausible (t : Nat)
  | sourceRejoin (t rank : Nat)
  | emulationPulse (t : Nat)
  -- Events, faults, recorder
  | coalescingTimeout (t target : Nat)
  | faultHandling (t : Nat)
  | rebuildScan (t : Nat)
  | oneshotClose (t cls instn : Nat)
  | hourChange (t : Nat)
  | histogramSample (t : Nat) (sample : RecSample)
  | autoThaw (t : Nat)
  | emmcError (t partition : Nat)
  -- Buses
  | canFrameReceived (t ctrl : Nat) (frame : CanFrame)
  | canTxEnd (t ctrl buffer : Nat) (ok : Bool)
  | canBusOff (t ctrl : Nat)
  | canBusBack (t ctrl : Nat)
  | canPassive (t ctrl : Nat)
  | canSpPeriod (t loop : Nat)
  | addressClaim (t ctrl : Nat) (won : Bool)
  | dm1 (t ctrl : Nat)
  | tcReport (t ddi sect : Nat)
  -- Coverage and frets
  | decisionCycle (t : Nat)
  | nSections (t : Nat)
  | tileLoadDone (t : Nat) (tcol trow : Int) (crcOk rebuilt : Bool)
  | journalCommit (t : Nat) (written : Bool)
  | fretFire (t unit : Nat)
  | odoStale (t : Nat)
  | suspendCancel (t unit tag : Nat)
  | slotWaitDecay (t cluster : Nat)
  | latencySave (t : Nat)
  -- Valve units
  | riseEnd (t unit railMv : Nat)
  | ttpLimit (t unit currentMa railMv : Nat)
  | peakHoldEnd (t unit : Nat)
  | transitionEnd (t unit : Nat)
  | shotEnd (t unit dutyPpm : Nat)
  | pwmCycleStart (t unit pressurePa : Nat) (pressureValid : Bool)
  | pwmOnTimeEnd (t unit dutyPpm : Nat)
  | dip (t unit : Nat)
  | openWinEnd (t unit : Nat)
  | knee (t unit : Nat)
  | closeWinEnd (t unit : Nat)
  | crowded (t unit : Nat)
  | boostFault (t die : Nat)
  | coilShort (t unit : Nat) (shuntCarries : Bool)
  | openLoad (t unit : Nat)
  | unitOvertemp (t unit : Nat)
  | propSaturated (t unit : Nat)
  | pairImbalance (t unit : Nat)
  | shortToGnd (t cluster : Nat)
  | hsOverload (t cluster : Nat)
  | hsOvertemp (t cluster : Nat)
  | hsStuck (t cluster : Nat)
  | offStateTest (t cluster : Nat)
  | offStateTestEnd (t cluster : Nat)
  | senseTrimSample (t cluster shuntMa : Nat) (currents : Tbl Nat)
  | senseTrimLimit (t unit : Nat)
  | clusterUngate (t cluster : Nat)
  | coilTemperatureTimeout (t unit : Nat) (gridMc : Int)
  -- Loops
  | loopSample (t loop : Nat) (feedback : Option Int)
  | fbHoldExpiry (t loop : Nat)
  | plausibilityUpdate (t loop : Nat)
  -- Switches
  | swShort (t channel : Nat) (clamps : Clamps)
  | swOvercurrent (t channel : Nat) (clamps : Clamps)
  | swOvertemp (t channel : Nat) (clamps : Clamps)
  -- channels 24 to 39 are field outputs 0 to 15
  | thermalLatchClear (t channel : Nat)
  | thermalHold (t channel : Nat)
  | inrushEnd (t channel : Nat)
  | retryReset (t channel : Nat)
  | backoffEnd (t channel : Nat)
  | restartRetry (t channel : Nat)
  | swOpenLoad (t channel : Nat)
  | openLoadClear (t channel : Nat)
  | ventUnlock (t channel : Nat)
  | disturbanceWindowEnd (t cluster : Nat)
  | swPwmPeriod (t channel : Nat) (clamps : Clamps)
  | limpEnter (t : Nat) (clamps : Clamps)
  | limpInput (t input : Nat) (high : Bool) (clamps : Clamps)
  | limpExit (t : Nat) (clamps : Clamps)
  -- Field I/O
  | inputStateChange (t input : Nat) (contactClosed : Bool)
  | fiWireBreak (t input cls : Nat) (lowR : Bool)
  | nOperator (t input : Nat) (contactClosed : Bool) (firstSampleUs : Nat)
  | aiOverload (t input : Nat)
  | burdenTest (t input currentUa : Nat)
  | aiInvalid (t input raw : Nat)
  | foOvercurrent (t output : Nat)
  | foOvertemp (t output : Nat)
  | foOpenLoad (t output : Nat)
  | harnessAway (t group : Nat) (lossLines : List Nat) (clamps : Clamps)
  | harnessBack (t group : Nat) (lossLines : List Nat)
  | safeTableCheck (t die : Nat) (crcOk : Bool)
  -- Start-up and power
  | suppliesValid (t : Nat) (tests : StartTests)
  | vddAonBrownout (t : Nat)
  | vddCoreBrownout (t : Nat)
  | vddRfLoss (t : Nat)
  | rstN (t : Nat)
  | watchdog (t : Nat)
  | regionCalibration (t region : Nat) (failUnits failClusters failSwitches failOutputs : List Nat)
  | calDeferred (t kind element : Nat) (pass : Bool)
  | rfCalFail (t antenna : Nat) (pass : Bool)
  | wakeSource (t source : Nat) (tests : StartTests)
  | tcxoStable (t : Nat)
  | clk32Fail (t : Nat)
  | crystalTemperatureRead (t : Nat) (milliC : Int)
  | keyOffDelay (t : Nat)
  | autoParkEntry (t : Nat) (clamps : Clamps)
  -- Zither
  | sync (t : Nat)
  | zitherTimeLost (t : Nat)
  | zitherStale (t pkg : Nat)
  | tokenRepeat (t pkg : Nat)
  | tokenRequestTimer (t : Nat)
  | tokenReturnTimer (t : Nat)
  | joinSend (t : Nat)
  | controlSend (t : Nat)
  | fwdTimeout (t rseq : Nat)
  | systemSilence (t : Nat) (clamps : Clamps)
  | followerSilence (t pkg : Nat)
  | escrowRelease (t pkg : Nat)
  -- Ends of long requests and waits
  | crystalStable (t : Nat)
  | entrySequenceDone (t : Nat)
  | cfgVerifyDone (t : Nat)
  | fwCommitDone (t : Nat)
  | partitionDone (t : Nat)
  | tpTimeout (t ctrl session : Nat)
  | tcConnectionLost (t : Nat)
deriving DecidableEq, Repr

end Sys2Proof
end

