-- ==== Sys2Proof/Decode.lean ====
section
/-! DEFINITION. The command that a word of the opcode table spells: none, because no row of spec/opcode_table.json gives bits
(assumption 6). -/

namespace Sys2Proof

/-- The command that `w`, of `nbits` bits, spells. The table's rows are named by OPCODE and by event and carry no bit patterns, so
no word spells a command. -/
def decodeTableWord (_nbits _w : Nat) : Option Instr := none

end Sys2Proof
end

