-- ==== Sys2Proof/Machine/Bits.lean ====
section
/-! DEFINITION. Helpers that every operation uses: banks of like elements, little-endian fields (R5), rounding,
integer square root and sine, the two CRCs of the host interface (R377, R385), and SHA-256 (R344, R427). -/

namespace Sys2Proof.Machine

/-! ## Banks -/

/-- The element numbered `k` of a bank, or `d` where none is listed. -/
def tget {α : Type} (t : Tbl α) (d : α) (k : Nat) : α :=
  match t with
  | [] => d
  | (j, a) :: r => if k = j then a else tget r d k

/-- Write element `k`, in rising order of the number. -/
def tset {α : Type} (t : Tbl α) (k : Nat) (a : α) : Tbl α :=
  match t with
  | [] => [(k, a)]
  | (j, b) :: r =>
    if k < j then (k, a) :: (j, b) :: r
    else if k = j then (k, a) :: r
    else (j, b) :: tset r k a

/-- Change element `k` by `f`. -/
def tmod {α : Type} (t : Tbl α) (d : α) (k : Nat) (f : α → α) : Tbl α :=
  tset t k (f (tget t d k))

/-- The element numbered `k`, if one is listed. -/
def tfind {α : Type} (t : Tbl α) (k : Nat) : Option α :=
  match t with
  | [] => none
  | (j, a) :: r => if k = j then some a else tfind r k

/-- The element at position `k` of a list, or `d` past its end. -/
def nth {α : Type} (l : List α) (d : α) (k : Nat) : α :=
  match l, k with
  | [], _ => d
  | a :: _, 0 => a
  | _ :: r, k + 1 => nth r d k

/-- Change position `k` of a list by `f`. -/
def modNth {α : Type} (l : List α) (k : Nat) (f : α → α) : List α :=
  match l, k with
  | [], _ => []
  | a :: r, 0 => f a :: r
  | a :: r, k + 1 => a :: modNth r k f

/-- Insert by `before`, keeping the order of equals: `a` goes in front of the first element it precedes. -/
def insertBy {α : Type} (before : α → α → Bool) (a : α) : List α → List α
  | [] => [a]
  | b :: r => if before a b then a :: b :: r else b :: insertBy before a r

/-- Stable sort by insertion. -/
def sortBy {α : Type} (before : α → α → Bool) (l : List α) : List α :=
  l.foldl (fun acc a => insertBy before a acc) []

/-- The numbers from `a`, `n` of them. -/
def upFrom (a n : Nat) : List Nat := (List.range n).map (· + a)

/-! ## Memory cells -/

/-- Canonical memory: addresses strictly rising and no byte equal to what an unlisted address reads as, 0. -/
def Memory.wf : List Host.Cell → Bool
  | [] => true
  | [(_, b)] => b != 0
  | (a, b) :: (a', b') :: r => b != 0 && decide (a < a') && Memory.wf ((a', b') :: r)

/-- The byte at address `a`; an unlisted address reads 0. -/
def Memory.read (m : List Host.Cell) (a : Nat) : Byte :=
  match m with
  | [] => 0
  | (j, b) :: r => if a = j then b else Memory.read r a

/-- Write the byte at address `a`, keeping the canonical form. -/
def Memory.write (m : List Host.Cell) (a : Nat) (b : Byte) : List Host.Cell :=
  match m with
  | [] => if b = 0 then [] else [(a, b)]
  | (j, c) :: r =>
    if a < j then (if b = 0 then (j, c) :: r else (a, b) :: (j, c) :: r)
    else if a = j then (if b = 0 then r else (a, b) :: r)
    else (j, c) :: Memory.write r a b

/-- Erase the bytes from `a` up to, not including, `z`. -/
def Memory.clear (m : List Host.Cell) (a z : Nat) : List Host.Cell :=
  m.filter fun c => c.1 < a || z ≤ c.1

/-! ## Numbers -/

/-- The smallest whole number not below `a / b` (R6). -/
def ceilDiv (a b : Nat) : Nat := (a + b - 1) / b

/-- `a / b` rounded to nearest, ties away from zero; `b` positive. -/
def roundDiv (a : Int) (b : Nat) : Int :=
  if a < 0 then -(((-a).toNat * 2 + b) / (2 * b) : Nat) else ((a.toNat * 2 + b) / (2 * b) : Nat)

/-- Clamp into `lo` to `hi`. -/
def clamp (lo hi x : Int) : Int := if x < lo then lo else if hi < x then hi else x

/-- A number reduced into the signed 32-bit range by saturation. -/
def sat32 (x : Int) : Int := clamp (-2147483648) 2147483647 x

/-- The magnitude of an integer. -/
def mag (x : Int) : Nat := x.natAbs

/-- One step of the binary square root: `k` bits still to try below the root found so far. -/
def isqrtFrom (n : Nat) : Nat → Nat → Nat
  | 0, acc => acc
  | k + 1, acc =>
    let t := acc + 2 ^ k
    if t * t ≤ n then isqrtFrom n k t else isqrtFrom n k acc

/-- The largest whole number whose square is not above `n` (n below 2^256). -/
def isqrt (n : Nat) : Nat := isqrtFrom n 128 0

/-- x − x³/6 + x⁵/120 − …, for `x` in 2^-30 radians up to a quarter turn, in 2^-30. -/
def sinSeries (x : Int) : Int :=
  let one : Int := 1073741824
  let q := x * x / one
  let t0 := one - q / 110
  let t1 := one - q * t0 / one / 72
  let t2 := one - q * t1 / one / 42
  let t3 := one - q * t2 / one / 20
  let t4 := one - q * t3 / one / 6
  x * t4 / one

/-- An angle in millidegrees reduced to 0 to 359,999. -/
def wrapDeg (a : Int) : Int := a % 360000

/-- An angle difference in millidegrees reduced to −180,000 to 179,999. -/
def angDiff (a : Int) : Int := (a + 180000) % 360000 - 180000

/-- The sine of an angle in millidegrees, in 2^-30. -/
def sinMdeg (a : Int) : Int :=
  let w := wrapDeg a
  if w = 0 || w = 180000 then 0 else if w = 90000 then 1073741824 else if w = 270000 then -1073741824 else
  -- radians in 2^-30 per millidegree: pi / 180000 × 2^30 = 18740.330..., held in 2^-16
  let rad (m : Int) : Int := m * 1228171259 / 65536
  if w ≤ 90000 then sinSeries (rad w)
  else if w ≤ 270000 then -sinSeries (rad (w - 180000))
  else sinSeries (rad (w - 360000))

/-- The cosine of an angle in millidegrees, in 2^-30. -/
def cosMdeg (a : Int) : Int := sinMdeg (a + 90000)

/-! ## Bytes -/

/-- `n` bytes of an integer, least significant first, two's complement (R5). -/
def le : Nat → Int → List Byte
  | 0, _ => []
  | n + 1, v => BitVec.ofInt 8 v :: le n (v / 256)

/-- The unsigned number that bytes spell, least significant first. -/
def leNat : List Byte → Nat
  | [] => 0
  | b :: r => b.toNat + 256 * leNat r

/-- A number out of bytes at an offset. -/
def fieldAt (p : List Byte) (o n : Nat) : Nat := leNat ((p.drop o).take n)

/-- The signed number that bytes spell, least significant first. -/
def leInt (bs : List Byte) : Int :=
  let n := leNat bs
  let m := 256 ^ bs.length
  if 2 * n < m then n else (n : Int) - m

/-- Bytes cut or padded with 0 to a length. -/
def padTo (n : Nat) (bs : List Byte) : List Byte := (bs ++ List.replicate (n - bs.length) 0).take n

/-- A Boolean as one bit. -/
def bit (b : Bool) : Nat := if b then 1 else 0

/-- Bits [lo + n − 1 : lo] of a number. -/
def bitsAt (x lo n : Nat) : Nat := x / 2 ^ lo % 2 ^ n

/-- Whether bit `i` of a number is set. -/
def bitAt (x i : Nat) : Bool := x / 2 ^ i % 2 == 1

/-- Packed fields: each value at its lowest bit. -/
def pack (fs : List (Nat × Nat)) : Nat := fs.foldl (fun acc f => acc + f.1 * 2 ^ f.2) 0

/-- A number saturated at the top of its field. -/
def capTo (top n : Nat) : Nat := if top < n then top else n

/-! ## CRCs -/

/-- One bit of the CRC-16 of R377: polynomial 0x1021, most significant bit first. -/
def crc16Bit (c : BitVec 16) (b : Bool) : BitVec 16 :=
  let top := c.getLsbD 15 != b
  let s := c <<< 1
  if top then s ^^^ 0x1021#16 else s

/-- One byte of the CRC-16, most significant bit first. -/
def crc16Byte (c : BitVec 16) (b : Byte) : BitVec 16 :=
  [7, 6, 5, 4, 3, 2, 1, 0].foldl (fun c i => crc16Bit c (b.getLsbD i)) c

/-- R377: initial value 0xFFFF, no final XOR. -/
def crc16 (bs : List Byte) : BitVec 16 := bs.foldl crc16Byte 0xFFFF#16

/-- A window word as it passes on the wire, most significant byte first (R374). -/
def wireBytes (w : Word) : List Byte :=
  [w.extractLsb' 24 8, w.extractLsb' 16 8, w.extractLsb' 8 8, w.extractLsb' 0 8]

/-- One byte of the reflected CRC-32C of R385. -/
def crc32cByte (c : BitVec 32) (b : Byte) : BitVec 32 :=
  [0, 1, 2, 3, 4, 5, 6, 7].foldl
    (fun c _ => if c.getLsbD 0 then (c >>> 1) ^^^ 0x82F63B78#32 else c >>> 1) (c ^^^ b.setWidth 32)

/-- R385: CRC-32C, Castagnoli, initial value and final XOR 0xFFFF_FFFF. -/
def crc32c (bs : List Byte) : BitVec 32 := bs.foldl crc32cByte 0xFFFFFFFF#32 ^^^ 0xFFFFFFFF#32

/-! ## SHA-256 (R344, R427: the published function) -/

/-- The round constants of SHA-256. -/
def shaK : List (BitVec 32) :=
  [0x428A2F98, 0x71374491, 0xB5C0FBCF, 0xE9B5DBA5, 0x3956C25B, 0x59F111F1, 0x923F82A4, 0xAB1C5ED5] ++
  [0xD807AA98, 0x12835B01, 0x243185BE, 0x550C7DC3, 0x72BE5D74, 0x80DEB1FE, 0x9BDC06A7, 0xC19BF174] ++
  [0xE49B69C1, 0xEFBE4786, 0x0FC19DC6, 0x240CA1CC, 0x2DE92C6F, 0x4A7484AA, 0x5CB0A9DC, 0x76F988DA] ++
  [0x983E5152, 0xA831C66D, 0xB00327C8, 0xBF597FC7, 0xC6E00BF3, 0xD5A79147, 0x06CA6351, 0x14292967] ++
  [0x27B70A85, 0x2E1B2138, 0x4D2C6DFC, 0x53380D13, 0x650A7354, 0x766A0ABB, 0x81C2C92E, 0x92722C85] ++
  [0xA2BFE8A1, 0xA81A664B, 0xC24B8B70, 0xC76C51A3, 0xD192E819, 0xD6990624, 0xF40E3585, 0x106AA070] ++
  [0x19A4C116, 0x1E376C08, 0x2748774C, 0x34B0BCB5, 0x391C0CB3, 0x4ED8AA4A, 0x5B9CCA4F, 0x682E6FF3] ++
  [0x748F82EE, 0x78A5636F, 0x84C87814, 0x8CC70208, 0x90BEFFFA, 0xA4506CEB, 0xBEF9A3F7, 0xC67178F2]

/-- The eight words of a SHA-256 state. -/
structure ShaSt where
  a : BitVec 32 := 0x6A09E667
  b : BitVec 32 := 0xBB67AE85
  c : BitVec 32 := 0x3C6EF372
  d : BitVec 32 := 0xA54FF53A
  e : BitVec 32 := 0x510E527F
  f : BitVec 32 := 0x9B05688C
  g : BitVec 32 := 0x1F83D9AB
  h : BitVec 32 := 0x5BE0CD19
deriving DecidableEq, Repr

/-- `n` more words of a block's schedule, newest first. -/
def shaExtend (n : Nat) (w : List (BitVec 32)) : List (BitVec 32) :=
  match n with
  | 0 => w
  | n + 1 =>
    let x := w.getD 1 0
    let y := w.getD 14 0
    shaExtend n (((x.rotateRight 17 ^^^ x.rotateRight 19 ^^^ (x >>> 10)) + w.getD 6 0
      + (y.rotateRight 7 ^^^ y.rotateRight 18 ^^^ (y >>> 3)) + w.getD 15 0) :: w)

/-- One round. -/
def shaRound (s : ShaSt) (k w : BitVec 32) : ShaSt :=
  let t1 := s.h + (s.e.rotateRight 6 ^^^ s.e.rotateRight 11 ^^^ s.e.rotateRight 25) + ((s.e &&& s.f) ^^^ (~~~s.e &&& s.g)) + k + w
  let t2 := (s.a.rotateRight 2 ^^^ s.a.rotateRight 13 ^^^ s.a.rotateRight 22) + ((s.a &&& s.b) ^^^ (s.a &&& s.c) ^^^ (s.b &&& s.c))
  { a := t1 + t2, b := s.a, c := s.b, d := s.c, e := s.d + t1, f := s.e, g := s.f, h := s.g }

/-- Big-endian words of a byte string. -/
def beWords (bs : List Byte) : List (BitVec 32) :=
  match bs with
  | p :: q :: r :: s :: rest => (p ++ q ++ r ++ s) :: beWords rest
  | _ => []

/-- One block of sixteen words. -/
def shaBlock (s : ShaSt) (block : List (BitVec 32)) : ShaSt :=
  let r := (shaK.zip (shaExtend 48 block.reverse).reverse).foldl (fun acc kw => shaRound acc kw.1 kw.2) s
  { a := s.a + r.a, b := s.b + r.b, c := s.c + r.c, d := s.d + r.d, e := s.e + r.e, f := s.f + r.f, g := s.g + r.g, h := s.h + r.h }

/-- The blocks of a padded message, at most `n` of them. -/
def shaBlocks (n : Nat) (s : ShaSt) (ws : List (BitVec 32)) : ShaSt :=
  match n with
  | 0 => s
  | n + 1 => if ws.isEmpty then s else shaBlocks n (shaBlock s (ws.take 16)) (ws.drop 16)

/-- R344, R427: the SHA-256 digest of a byte string. -/
def sha256 (bs : List Byte) : List Byte :=
  let n := bs.length
  let padded := bs ++ [0x80#8] ++ List.replicate ((119 - n % 64) % 64) 0#8 ++ wireBytes (BitVec.ofNat 32 (8 * n / 4294967296))
    ++ wireBytes (BitVec.ofNat 32 (8 * n))
  let s := shaBlocks (n / 64 + 2) {} (beWords padded)
  [s.a, s.b, s.c, s.d, s.e, s.f, s.g, s.h].flatMap wireBytes

end Sys2Proof.Machine
end

