-- ==== Sys2Proof/Machine/State.lean ====
section
/-! DEFINITION. The machine's state as plain data: every register, FIFO, buffer, counter, mode and pin that spec/
gives the QTN-9640, the state after reset, and the reasons a step can stop.
Each field's docstring names its rule and its reset value. "DESIGN CHOICE" and "PRESUMED" name the assumption row. -/

namespace Sys2Proof.Machine

/-- Reasons the machine stops.
`supplyUnspecified`: raised by VBAT_GROUP_RETURN and VBAT_GROUP_LOSS when a VBAT group is said to stand above 36 V, where
R506 specifies neither characteristics nor operation; safe, because nothing is proved of such a run. -/
inductive Fault where
  | supplyUnspecified (group : Nat)
deriving DecidableEq, Repr

/-- Reasons a command has no meaning.
`notModelled`: the arm has no meaning yet; safe. `noSuchElement`: raised by an event row whose operand names an element
that Table 01-6 does not give (unit 128, course 4, link 3); the device has no such event; safe. -/
inductive Refusal where
  | notModelled (mnemonic : String)
  | noSuchElement (kind : String) (number : Nat)
deriving DecidableEq, Repr

/-! ## Ledger -/

/-- The counts of one level element (R31). POOL follows from the element's key and the package's effective pool;
HELD is DRAWING + RESERVED. -/
structure LedgerEl where
  /-- R31; reset 0 (no output is on). -/
  drawing : Nat := 0
  /-- R31; reset 0. -/
  reserved : Nat := 0
  /-- R31, R523 (signed); reset POOL, held as FREE − POOL = 0. -/
  freeBelowPool : Int := 0
deriving DecidableEq, Repr

/-- Token counts of the lead for one package, or of the follower itself (R50, R51, R457). -/
structure TokenSt where
  /-- R51 FIXED; reset 0. -/
  fixed : Nat := 0
  /-- R51 GRANTED (lead), held non-FIXED tokens (follower); reset 0. -/
  granted : Nat := 0
  /-- R51 IN_TRANSIT: count and TSEQ of each unacknowledged grant or return; reset none. -/
  inTransit : List (Nat × Nat × Nat) := []
  /-- R51 ESCROW; reset 0. -/
  escrow : Nat := 0
  /-- R53, R457 last TSEQ sent; reset 0. -/
  tseqSent : Nat := 0
  /-- R53 the last 64 TSEQ applied from the other side; reset none. -/
  tseqApplied : List Nat := []
  /-- R54 DEVTIME of the last valid frame heard; reset 0. -/
  heardAt : Nat := 0
  /-- R54, R459 the silence timeout from which the 100 ms of ESCROW count; reset none. -/
  escrowAt : Option Nat := none
  /-- R449 present member; reset false. -/
  present : Bool := false
deriving DecidableEq, Repr

/-- The current ledger of the package (R31 to R54). -/
structure Ledger where
  /-- R31, R24 level elements by key; reset all FREE = POOL. -/
  els : Tbl LedgerEl := []
  /-- R50 effective package pool in credits; reset 2000 (R24). -/
  packagePool : Nat := 2000
  /-- R45 credits withheld for derating, counted in HELD; reset 0. -/
  withheld : Nat := 0
  /-- R45 credits still to be withheld from later releases; reset 0. -/
  withholdDue : Nat := 0
  /-- R2, R45 derated; reset false. -/
  derated : Bool := false
  /-- R48 AUDIT_SKIPPED per element key; reset 0. -/
  auditSkipped : Tbl Nat := []
  /-- R47 credit-microseconds of DRAWING in the running 10 ms window, per element key; reset 0. -/
  drawingUs : Tbl Nat := []
  /-- R47 DEVTIME at which the window began; reset 0. -/
  windowAt : Nat := 0
  /-- R48 element keys whose window holds a skip cause; reset none. -/
  windowSkips : List Nat := []
  /-- R49 element keys that refuse every request; reset none. -/
  broken : List Nat := []
  /-- R49, R399 broken elements whose outputs wait for SYS_OUTPUTS ENABLE; reset none. -/
  heldSafe : List Nat := []
  /-- R51 the lead's FREE tokens; reset 0. -/
  tokensFree : Nat := 0
  /-- R51 per-package token states (index 0 to 3); reset 0. -/
  tokens : Tbl TokenSt := []
deriving DecidableEq, Repr

/-! ## Frets, latency, valve units -/

/-- States of a fret that is in the plan (Table 06-2). -/
inductive FretState where
  | pending | armed | committed | suspended | fired
deriving DecidableEq, Repr

/-- One fret of a unit (R180, R183, R192). -/
structure Fret where
  state : FretState := .pending
  /-- The MODEL's own number of the fret within its unit, by which it is found again (several host frets may carry one TAG). -/
  id : Nat := 0
  /-- Command position, 0.1 mm. -/
  pos : Int := 0
  /-- Effect position, 0.1 mm. -/
  effect : Int := 0
  /-- 0 ON, 1 OFF, 2 PROFILE_START, 3 PWM_REPHASE. -/
  action : Nat := 0
  hasEffect : Bool := false
  notify : Bool := false
  backward : Bool := false
  tag : Nat := 0
  discard : Nat := 65535
  late : Bool := false
  lateness : Nat := 0
  /-- R200 its command position lay behind the odometer. -/
  clamped : Bool := false
  suspendedAt : Nat := 0
  /-- A refused reservation came before the grant (R213). -/
  waitedCredit : Bool := false
  /-- R199 its lateness has been judged, at its first arming. -/
  judged : Bool := false
  /-- It has asked for its reservation and needs none again (R40). -/
  granted : Bool := false
deriving DecidableEq, Repr

/-- One latency bin entry (Table 06-7). -/
structure LatBin where
  mean : Nat := 0
  var : Nat := 0
  count : Nat := 0
  runOut : Nat := 0
  range : Bool := false
  shifted : Bool := false
  seed : Nat := 0
deriving DecidableEq, Repr

/-- Phases of Table 07-5. -/
inductive Phase where
  | off | rise | peakHold | transition | hold | turnOff | slotWait | proportional
deriving DecidableEq, Repr

/-- The counters of Table 07-6 (R253). -/
structure ValveCounters where
  strokes : Nat := 0
  dipsMissed : Nat := 0
  kneesMissed : Nat := 0
  ttpShorts : Nat := 0
  ttpLongs : Nat := 0
  slotWaits : Nat := 0
  restrikes : Nat := 0
  dutyClamped : Nat := 0
  cmdIgnored : Nat := 0
  rateShort : Nat := 0
deriving DecidableEq, Repr

/-- The counters of Table 06-3 (R184). -/
structure FretCounters where
  fired : Nat := 0
  late : Nat := 0
  clamped : Nat := 0
  discarded : Nat := 0
  cancelled : Nat := 0
  creditWaits : Nat := 0
  suspendCancels : Nat := 0
  latExcluded : Nat := 0
  latOutliers : Nat := 0
deriving DecidableEq, Repr

/-- What is remembered of the edge that starts a sample (R206, R207, R213). -/
structure EdgeMark where
  /-- Tick in which the edge was applied. -/
  at_ : Nat := 0
  bin : Nat := 0
  /-- A reason of R213 already excludes the sample. -/
  excluded : Bool := false
  /-- A re-strike under R224: gives no sample and no missed dip. -/
  restrike : Bool := false
deriving DecidableEq, Repr

/-- The drive side of a valve unit (R216 to R251, Table 07-5, Table 02-2). -/
structure Drive where
  /-- R252; reset ONOFF until a configuration is active (Table 07-5 "from configuration"). -/
  mode : UnitMode := .onoff
  /-- R228 mode charge granted; reset false. -/
  modeEnabled : Bool := false
  /-- R228 its mode charge was refused at the activation and is asked for in every cycle; reset false. -/
  modeWait : Bool := false
  /-- R252, Table 07-5 PHASE; reset 0 off. -/
  phase : Phase := .off
  /-- R220 start of the present phase; reset 0. -/
  phaseAt : Nat := 0
  /-- R249 FAULT; reset 0. -/
  fault : Bool := false
  /-- R252 CAUSE; reset 0. -/
  cause : Nat := 0
  /-- R248 NO_MOTION; reset 0. -/
  noMotion : Bool := false
  /-- R248 NO_RELEASE; reset 0. -/
  noRelease : Bool := false
  /-- R252 BOOST_RISE; reset 0. -/
  boostRise : Bool := false
  /-- R252 TRIM_LIMIT; reset 0. -/
  trimLimit : Bool := false
  /-- R237 PAIR_IMBALANCE; reset 0. -/
  pairImbalance : Bool := false
  /-- R222 shot end; reset none. -/
  shotEnd : Option Nat := none
  /-- R239 tick at which the unit asked for the slot; reset 0. -/
  askedAt : Nat := 0
  /-- R239 the wait has counted as crowded; reset false. -/
  crowdedSeen : Bool := false
  /-- R223 an OFF reached the unit in SLOT_WAIT; reset false. -/
  offWaiting : Bool := false
  /-- R34 base credits held as DRAWING or RESERVED; reset 0. -/
  base : Nat := 0
  /-- R39 the base is RESERVED rather than DRAWING; reset false. -/
  baseReserved : Bool := false
  /-- R234 setpoint, mA; reset 0. -/
  setpoint : Nat := 0
  /-- R229 duty, 0.01 %; DESIGN CHOICE 0 (assumption 3). -/
  duty : Nat := 0
  /-- R229 the duty in force in the present cycle; reset 0. -/
  dutyNow : Nat := 0
  /-- R232 the unit cycles (was switched on and not off); reset false. -/
  cycling : Bool := false
  /-- R251 it cycled when its fault state began, and resumes after the clear; reset false. -/
  resume : Bool := false
  /-- R231 actual start of the present cycle; reset 0. -/
  cycleStart : Nat := 0
  /-- R230 next nominal cycle start; reset none. -/
  nextCycle : Option Nat := none
  /-- R230 moved by PWM_REPHASE until N changes; reset false. -/
  rephased : Bool := false
  /-- R231 end of the cycle's on-time; reset none. -/
  onTimeEnd : Option Nat := none
  /-- R240 end of the opening window; reset none. -/
  openWinEnd : Option Nat := none
  /-- R242 end of the closing window; reset none. -/
  closeWinEnd : Option Nat := none
  /-- R241 the stroke has its dip; reset false. -/
  dipSeen : Bool := false
  /-- R248 consecutive strokes with a missed dip; reset 0. -/
  missedDips : Nat := 0
  /-- R248 consecutive strokes with a missed knee; reset 0. -/
  missedKnees : Nat := 0
  /-- R244 last TTP_SHORT or TTP_LONG raised; reset none. -/
  ttpRaisedAt : Option Nat := none
  /-- R181, R232 the next cycle start of a unit of the duty stage is one that an ON or PWM_REPHASE made, not the grid's; reset false. -/
  forced : Bool := false
  /-- R213, R274 the edge that the next cycle start of a unit of the duty stage carries out was late or waited for credits; reset
  false. -/
  edgeMarked : Bool := false
  /-- R246 sense gain correction, parts in 2^16 of 1; reset 0 (gain 1, before self-calibration). -/
  gainQ16 : Int := 0
  /-- R246, R361 the gain correction as self-calibration set it; reset 0. -/
  calQ16 : Int := 0
  /-- R247 since when C_u stands at its clamp; reset none. -/
  clampSince : Option Nat := none
deriving DecidableEq, Repr

/-- The learning side of a valve unit (R206 to R215). -/
structure Learn where
  /-- R209 opening entries; reset SEED 0, COUNT 0. -/
  opening : Tbl LatBin := []
  /-- R209 closing entries; reset SEED 0, COUNT 0. -/
  closing : Tbl LatBin := []
  /-- R206 the edge of the stroke's opening; reset none. -/
  openEdge : Option EdgeMark := none
  /-- R206 the edge of the stroke's closing; reset none. -/
  closeEdge : Option EdgeMark := none
  /-- R208 coil temperature estimate, m°C; DESIGN CHOICE 25,000 (assumption 3). -/
  tempMc : Int := 25000
  /-- R208 end of the last hold of 20 ms or more; reset none. -/
  lastHold : Option Nat := none
deriving DecidableEq, Repr

/-- What the eMMC keeps of a unit's learning: its latency table (R215) with the valve type it was learned on, and its sense trim (R247). -/
structure SavedUnit where
  opening : Tbl LatBin := []
  closing : Tbl LatBin := []
  profile : Option ProfileCfg := none
  gainQ16 : Int := 0
deriving DecidableEq, Repr

/-- Motion of a unit (R130 to R134, R185). -/
structure Motion where
  /-- R132, R185 odometer: its exact integral, 10^-13 of 0.1 mm, of which the die's accumulator has 32 fractional bits (assumption 10); reset 0. -/
  odoFx : Int := 0
  /-- R130 v_unit, µm/s; reset 0. -/
  vUm : Int := 0
  /-- R131 a_unit, µm/s²; reset 0. -/
  aUm : Int := 0
  /-- R133 BACKWARD; reset false. -/
  backward : Bool := false
deriving DecidableEq, Repr

/-- One stroke of a section unit as the writer sweeps it (R168 to R170). Times are those at which the events take effect on
the ground, T_tr after their detection (R169). -/
structure Stroke where
  from_ : Nat := 0
  /-- R168, R170 its end, once it has one. -/
  to_ : Option Nat := none
  /-- R168 it is written no further than this until it is known to run on. -/
  limit : Option Nat := none
  /-- R170 that possible end was a closing window without a knee. -/
  unsure : Bool := false
  /-- R169 written up to here, once its writing has begun. -/
  swept : Option Nat := none
deriving DecidableEq, Repr

/-- Section side of a unit (R165 to R177, R191). -/
structure SectionSt where
  /-- R166 host mode 0 AUTO, 1 FORCE_OFF, 2 FORCE_ON, 3 MANUAL; reset AUTO (Table 14-8). -/
  hostMode : Nat := 0
  /-- R167 ON; reset off (R368). -/
  on : Bool := false
  /-- R167 REASON; reset 0 NONE. -/
  reason : Nat := 0
  /-- R166 held off by LOW_SPEED; reset false. -/
  lowSpeed : Bool := false
  /-- R196 in the LOOKAHEAD_SHORT condition; reset false. -/
  lookShort : Bool := false
  /-- R196 the condition was last present; reset none. -/
  lookShortAt : Option Nat := none
  /-- R191 the state the last command left; reset off. -/
  commanded : Bool := false
  /-- R191 the action of the last fired entry whose effect was reached and that has left the plan; reset none. -/
  reached : Option Bool := none
  /-- R191 that entry's effect position, 0.1 mm; reset 0. -/
  reachedPos : Int := 0
  /-- R213 an immediate ON was refused and is asked again; reset false. -/
  refusedOn : Bool := false
  /-- R184, R198 the decision cycle in which a reservation of the unit was last refused; reset none. -/
  refusedAt : Option Nat := none
  /-- R168 strokes not yet written to their end, oldest first; reset none. -/
  strokes : List Stroke := []
  /-- R167 APPLYING; reset false. -/
  applying : Bool := false
  /-- R170 UNCONFIRMED_CLOSE; reset 0. -/
  unconfirmed : Nat := 0
  /-- R42, R454 at a follower: an immediate ON from the lead that the ledger refused, asked again in every cycle; reset false. -/
  wanted : Bool := false
  /-- R42, R426 last N_CREDIT_SHORT; reset none. -/
  shortSentAt : Option Nat := none
deriving DecidableEq, Repr

/-- One valve unit. -/
structure UnitSt where
  drive : Drive := {}
  learn : Learn := {}
  motion : Motion := {}
  sect : SectionSt := {}
  frets : List Fret := []
  nextTag : Nat := 32768
  /-- The MODEL's own number of the next fret (assumption 17); reset 0. -/
  nextFret : Nat := 0
  valve : ValveCounters := {}
  fret : FretCounters := {}
  rateFactor : Nat := 65536
deriving DecidableEq, Repr

/-- One valve cluster (R217, R238, R239, R202, R250, R524, R350). -/
structure ClusterSt where
  /-- R36 unit holding the peak slot; reset none. -/
  holder : Option Nat := none
  /-- R238 queue for the slot, oldest first; reset empty. -/
  queue : List Nat := []
  /-- R35 credits of the slot while the cluster holds it; reset 0. -/
  slot : Nat := 0
  /-- R217 high-side switch closed; reset open. -/
  highSide : Bool := false
  /-- R218 rail is VBOOST; reset VBAT. -/
  boostRail : Bool := false
  /-- R250 cluster fault state; reset 0. -/
  fault : Bool := false
  /-- R250, R251 the cause: position among the k = 3 events, plus 1; reset 0. -/
  cause : Nat := 0
  /-- R239 CROWDED_EDGES; reset 0. -/
  crowdedEdges : Nat := 0
  /-- R239 last CROWDED raised; reset none. -/
  crowdedAt : Option Nat := none
  /-- R202 W_c, µs; reset 0. -/
  slotWaitUs : Nat := 0
  /-- R202 last wait; reset 0. -/
  lastWaitAt : Nat := 0
  /-- R524 off-state test running since; reset none. -/
  testAt : Option Nat := none
  /-- R524 last test; reset 0. -/
  lastTestAt : Nat := 0
  /-- R246 last sense trim sample; reset none. -/
  trimAt : Option Nat := none
  /-- R350 gated; reset false. -/
  gated : Bool := false
  /-- R350 gated since; reset 0. -/
  gatedAt : Nat := 0
  /-- R60 last unit fault of the cluster: unit and DEVTIME; reset none. -/
  lastFault : Option (Nat × Nat) := none
deriving DecidableEq, Repr

/-- One valve die's boost converter (R225, R227). -/
structure BoostSt where
  /-- R225 running; reset stopped. -/
  running : Bool := false
  /-- R227 BOOST_FAULT open; reset false. -/
  fault : Bool := false
deriving DecidableEq, Repr

/-! ## Switches, field I/O -/

/-- States of Table 09-3. -/
inductive SwState where
  | off | inrush | on | backoff | latchWait | exhausted | locked
deriving DecidableEq, Repr

/-- One switch channel (R282 to R305). -/
structure SwitchSt where
  /-- Table 09-10 STATE; reset 0. -/
  state : SwState := .off
  /-- Table 09-10 LIMP; reset 0. -/
  limp : Bool := false
  /-- R286 THERMAL_LATCH; reset 0. -/
  latch : Bool := false
  /-- R286 since when the latch is set; reset none. -/
  latchAt : Option Nat := none
  /-- R285 OPEN_LOAD; reset 0. -/
  openLoad : Bool := false
  /-- R285 when OPEN_LOAD was set; reset 0. -/
  openAt : Nat := 0
  /-- R294 VENT_LOCKED; reset 0. -/
  ventLocked : Bool := false
  /-- R288 VENT_WAIT; reset 0. -/
  ventWait : Bool := false
  /-- R288 CREDIT_WAIT; reset 0. -/
  creditWait : Bool := false
  /-- Table 09-10 LOCK_CAUSE; reset 0. -/
  lockCause : Nat := 0
  /-- Table 09-10 RETRY_LEFT; reset 0. -/
  retryLeft : Nat := 0
  /-- R282 end of the current limit's inrush window; reset none. -/
  inrushEnd : Option Nat := none
  /-- R298 the window has been extended; reset false. -/
  extended : Bool := false
  /-- R37 end of the declared inrush window (surcharge); reset none. -/
  surchargeEnd : Option Nat := none
  /-- R489 the position in Table 09-9 of the fault that last turned the channel off; reset 0. -/
  lastFault : Nat := 0
  /-- R288 trip time of the present BACKOFF; reset 0. -/
  tripAt : Nat := 0
  /-- R287 last turn-on or fault, for the 10 s of Table 09-3; reset 0. -/
  onSince : Nat := 0
  /-- R288 last restart attempt; reset 0. -/
  triedAt : Nat := 0
  /-- R284 duty, 0.01 %; DESIGN CHOICE 0 (assumption 3). -/
  duty : Nat := 0
  /-- R284 duty in force in the present period; reset 0. -/
  dutyNow : Nat := 0
  /-- R290 E_LAST, µJ; reset 0 (E_DECL from the activation on). -/
  eLast : Nat := 0
  /-- R293 the channel's reservation, µJ; reset 0. -/
  ventReserved : Nat := 0
  /-- R34 base credits held; reset 0. -/
  base : Nat := 0
  /-- R34 surcharge credits held; reset 0. -/
  surcharge : Nat := 0
  /-- R302 LIMP_INn commands the channel on; reset false. -/
  limpOn : Bool := false
  /-- Table 09-11 counters in table order; reset 0. -/
  counters : List Nat := [0, 0, 0, 0, 0, 0, 0, 0]
  /-- R291 total and largest clamp energy, mJ, and turn-offs; reset 0. -/
  clampTotal : Nat := 0
  clampMax : Nat := 0
  turnOffs : Nat := 0
deriving DecidableEq, Repr

/-- One switch cluster's vent budget and disturbance window (R293, R297). -/
structure VentSt where
  /-- R293 USED, µJ; reset 0. -/
  used : Nat := 0
  /-- R293 RESERVED, µJ; reset 0. -/
  reserved : Nat := 0
  /-- R293 FREE − CAPACITY, µJ; reset 0 (FREE = CAPACITY). -/
  freeBelowCap : Int := 0
  /-- R297 end of the disturbance window; reset none. -/
  disturbEnd : Option Nat := none
deriving DecidableEq, Repr

/-- One field input (R307, R309, R311, Table 10-5). -/
structure InputSt where
  /-- Table 10-5 STATE; reset 0. -/
  state : Bool := false
  /-- The contact as last taken, before INVERT (R307, R310, R311); reset 0. -/
  raw : Bool := false
  /-- Table 10-5 CLASS; reset 0. -/
  cls : Nat := 0
  /-- Table 10-5 LOW_R; reset 0. -/
  lowR : Bool := false
  /-- Table 10-5 AWAY; reset 0. -/
  away : Bool := false
  /-- R318 wire breaks counted while away too; reset 0. -/
  breaks : Nat := 0
deriving DecidableEq, Repr

/-- One field output (R315, Table 14-13). -/
structure OutputSt where
  /-- Table 14-13 STATE: 0 off, 1 on, 2 fault state, 3 emulation; reset 0. -/
  st : Nat := 0
  /-- Table 14-13 OPEN_LOAD; reset 0. -/
  openLoad : Bool := false
  /-- Table 14-13 THERMAL_LATCH; reset 0. -/
  latch : Bool := false
  /-- Table 14-13 CAUSE; reset 0. -/
  cause : Nat := 0
  /-- Table 14-13 AWAY; reset 0. -/
  away : Bool := false
  /-- R34 credits held; reset 0. -/
  base : Nat := 0
  /-- R135, R137 level of the emulation output; reset low. -/
  level : Bool := false
  /-- R315 when the output came on; reset 0. -/
  onAt : Nat := 0
deriving DecidableEq, Repr

/-- One analog input (R313, R314). -/
structure AnalogSt where
  /-- IO_ANALOG_READ RAW; DESIGN CHOICE 0 (assumption 3). -/
  raw : Nat := 0
  /-- IO_ANALOG_READ VALUE; DESIGN CHOICE 0 (assumption 3). -/
  value : Int := 0
  /-- FLAGS [0]; DESIGN CHOICE set (assumption 3). -/
  valid : Bool := true
  /-- FLAGS [1]; reset 0. -/
  wireBreak : Bool := false
  /-- FLAGS [2]; reset 0. -/
  overRange : Bool := false
  /-- FLAGS [3]; reset 0. -/
  burdenOpen : Bool := false
  /-- R314 when the burden opened or was last tested; reset 0. -/
  burdenAt : Nat := 0
deriving DecidableEq, Repr

/-- One connector group (R318, R319). -/
inductive GroupSt where
  | present | away | back
deriving DecidableEq, Repr

/-- One power die (R16, R21, R322 to R324, R399, R479). -/
structure DieSt where
  /-- R16 last valid frame; reset 0. -/
  lastFrameAt : Nat := 0
  /-- R16, R368 the link has carried a frame since power-on; reset false. -/
  linked : Bool := false
  /-- R19 parked; reset false. -/
  parked : Bool := false
  /-- R322 the link is silent; reset false. -/
  silent : Bool := false
  /-- R322 onset of the silence; reset 0. -/
  silentAt : Nat := 0
  /-- R399 waits for the re-enable after silence or a cold start; reset false. -/
  heldSafe : Bool := false
  /-- R399 since when its core is back or its link retrained; reset none. -/
  backAt : Option Nat := none
  /-- R323 everything off; reset false. -/
  allOff : Bool := false
  /-- R321 table CRC holds; reset true. -/
  tableOk : Bool := true
  /-- R15 sequence number of the next frame, D0 side; reset 0. -/
  seqD0 : Nat := 0
  /-- R15 sequence number of the next frame, die side; reset 0. -/
  seqDie : Nat := 0
  /-- R15 BRIDGE_CRC of the link, frames discarded at either end; reset 0. -/
  crc : Nat := 0
  /-- R15 the die, D0, has discarded a frame and asks in its next heartbeat; reset false. -/
  wantDie : Bool := false
  wantD0 : Bool := false
  /-- R15 the resend that a heartbeat of the die, of D0, has asked for; reset false. -/
  askDie : Bool := false
  askD0 : Bool := false
  /-- R19 DEVTIME of the wake since which the link retrains; reset none. -/
  retrain : Option Nat := none
  /-- R18 lanes of the link taken out of service; reset none. -/
  lanesOut : List Nat := []
  /-- R523 the die acts alone since its charges (drawing, reserved) stood so; reset none. -/
  solo : Option (Nat × Nat) := none
  /-- R479 latched events: source, code, instance, severity, time; reset none. -/
  latched : List (Nat × Nat × Nat × Nat × Nat) := []
  /-- R479 excess counters per source; reset 0. -/
  excess : Tbl Nat := []
deriving DecidableEq, Repr

/-! ## Loops -/

/-- Modes of Table 08-4. -/
inductive LoopMode where
  | off | manual | auto | hold
deriving DecidableEq, Repr

/-- One loop slot (R257 to R277). Terms are held in 2^-32 of the output unit (R263). -/
structure LoopSt where
  /-- R264; reset OFF. -/
  mode : LoopMode := .off
  /-- R264 mode to take effect at the next sample; reset none. -/
  newMode : Option LoopMode := none
  /-- R265 manual output; DESIGN CHOICE 0 (assumption 3). -/
  manual : Int := 0
  /-- R267 setpoint in force and written; DESIGN CHOICE 0 (assumption 3). -/
  sp : Int := 0
  /-- R263 sp_r, 2^-32; reset 0. -/
  spR : Int := 0
  /-- R258 pv; reset 0. -/
  pv : Int := 0
  /-- R263 pv_prev; reset 0. -/
  pvPrev : Int := 0
  /-- R263 integrator, 2^-32; reset 0. -/
  i : Int := 0
  /-- R263 derivative term, 2^-32; reset 0. -/
  d : Int := 0
  /-- R260 output last applied; reset 0 (OUT_SAFE from the activation on). -/
  u : Int := 0
  /-- R263 limits; reset false. -/
  satHi : Bool := false
  satLo : Bool := false
  /-- Table 08-7 I_CLAMPED; reset 0. -/
  iClamped : Bool := false
  /-- R266 BUMP and its size; reset 0. -/
  bump : Int := 0
  bumpSet : Bool := false
  /-- R266 a preset is due at the next AUTO sample: 0 none, 1 after MANUAL or OFF, 2 after HOLD; reset 0. -/
  preset : Nat := 0
  /-- R259 FB_INVALID; reset 0. -/
  fbInvalid : Bool := false
  /-- R259 FB_HOLDING; reset 0. -/
  fbHolding : Bool := false
  /-- R259 since when; reset 0. -/
  fbInvalidAt : Nat := 0
  /-- R258 latest value of a BUS binding, unscaled, and when it came; reset none. -/
  bus : Option (Int × Nat) := none
  /-- R260 last CAN_SP frame sent; reset none. -/
  spAt : Option Nat := none
  /-- R259 consecutive valid samples; reset 0. -/
  fbValidRun : Nat := 0
  /-- R262 OUT_FAULT; reset 0. -/
  outFault : Bool := false
  /-- R276 DEVICE_HOLD; reset 0. -/
  deviceHold : Bool := false
  /-- R268 queued writes (parameter, value), oldest first; reset empty. -/
  writes : List (Nat × Int) := []
  /-- R270 y_m, r_f, 2^-16; reset 0. -/
  yM : Int := 0
  rF : Int := 0
  /-- R270 output history at 100 Hz, newest first; reset empty. -/
  uHist : List Int := []
  /-- R271 last restart of the model; reset 0. -/
  plausAt : Nat := 0
  /-- R255 its last sample, one at an instant; reset none. -/
  sampledAt : Option Nat := none
  /-- R270 the model's last step; reset none. -/
  plausStepAt : Option Nat := none
  /-- R272 since when |r_f| is above R_THR, below R_THR/2; reset none. -/
  overSince : Option Nat := none
  underSince : Option Nat := none
  /-- R272 PLAUS_FAULT; reset 0. -/
  plausFault : Bool := false
  /-- R263 the loop's parameters in force; reset Table 08-1 defaults. -/
  params : LoopParams := {}
deriving DecidableEq, Repr

/-! ## Host interface -/

/-- One device message as it stands in a reply ring (Table 13-7). -/
structure DevMsg where
  seq : Nat := 0
  ack : Nat := 0
  opcode : Nat := 0
  tag : Nat := 0
  epoch : Nat := 0
  payload : List Byte := []
deriving DecidableEq, Repr

/-- One course: its control block (Table 13-6), rings, caches (R383 to R392). -/
structure Course where
  /-- R383 REQ_WR; reset 0. -/
  reqWr : Nat := 0
  /-- R383 REQ_RD; reset 0. -/
  reqRd : Nat := 0
  /-- R383 RPL_WR; reset 0. -/
  rplWr : Nat := 0
  /-- R383 RPL_RD; reset 0. -/
  rplRd : Nat := 0
  /-- Table 13-6 HOST_LAST_ACCEPTED; reset 0xFFFF. -/
  lastAccepted : Nat := 65535
  /-- Table 13-6 DEV_LAST_SENT; reset 0xFFFF. -/
  lastSent : Nat := 65535
  /-- Table 13-6 HOST_ACKED; reset 0xFFFF. -/
  hostAcked : Nat := 65535
  /-- R387 next expected number; reset 0 (R404). -/
  expected : Nat := 0
  /-- R391 next device number; reset 0 (R404). -/
  nextDev : Nat := 0
  /-- Table 13-6 BAD_FRAMES; reset 0. -/
  badFrames : Nat := 0
  /-- Table 13-6 NAKS; reset 0. -/
  naks : Nat := 0
  /-- Table 13-6 DUPLICATES; reset 0. -/
  duplicates : Nat := 0
  /-- Table 13-6 STALE; reset 0. -/
  stale : Nat := 0
  /-- Table 13-6 NOTIF_DROPPED; reset 0. -/
  notifDropped : Nat := 0
  /-- R391 pending notifications (opcode, payload), oldest first; reset empty. -/
  pendingNotif : List (Nat × List Byte) := []
  /-- R383 messages in the reply ring, oldest first, not yet passed by RPL_RD; reset empty. -/
  ring : List DevMsg := []
  /-- R388 replay cache: request SEQ and its reply, newest first; reset empty. -/
  cache : List (Nat × DevMsg) := []
  /-- R392 last 64 device messages, newest first; reset empty. -/
  kept : List DevMsg := []
  /-- R389 number last NAKed and when; reset none. -/
  nakAt : Option (Nat × Nat) := none
  /-- R383 REQ_WR as far as whole messages reach; reset 0. -/
  reqEnd : Nat := 0
  /-- R384 since when REQ_WR stays inside a message; reset none. -/
  stallAt : Option Nat := none
  /-- R353, R373, R384, R390 requests that wait to be taken, oldest first; reset empty. -/
  held : List Instr := []
  /-- The MODEL's own mark that the request now executed is the one at REQ_RD (assumption 5); reset false. -/
  taking : Bool := false
  /-- R22 the request at REQ_RD waits for Seq2; reset false. -/
  paused : Bool := false
  /-- R390, R412 the long request being carried out: its header and opcode; reset none. -/
  long : Option (Hdr × Nat) := none
deriving DecidableEq, Repr

/-- The registers of the window and the host's session (Tables 13-3, 13-5; R393 to R399). -/
structure HostSt where
  /-- Table 13-3 OUTPUTS_ENABLED; reset 0. -/
  outputsEnabled : Bool := false
  /-- Table 13-3 HOST_SILENT; reset 0. -/
  silent : Bool := false
  /-- Table 13-3 SPI_ERR; reset 0. -/
  spiErr : Bool := false
  /-- Table 13-3 SEQ; reset 0. -/
  statusSeq : Nat := 0
  /-- Table 13-3 IRQ_EN; reset 0. -/
  irqEn : Bool := false
  /-- Table 13-3 BAD_XFERS; reset 0. -/
  badXfers : Nat := 0
  /-- Table 13-3 BEAT; reset 0. -/
  beat : Nat := 0
  /-- R395 start of the running heartbeat timeout; reset none (it starts at READY). -/
  beatAt : Option Nat := none
  /-- R368 the host has written HEARTBEAT since READY; reset false. -/
  beatSeen : Bool := false
  /-- Table 13-5 DEVTIME_HI as latched; reset 0. -/
  devtimeHi : Nat := 0
  /-- Table 13-5 SNAP_LO/HI as one count; reset 0. -/
  snap : Nat := 0
  /-- Table 13-5 SNAP_NS; reset 0. -/
  snapNs : Nat := 0
  /-- Table 13-5 SNAP_COUNT; reset 0. -/
  snapCount : Nat := 0
  /-- Table 13-6 EPOCH, one for all four blocks; reset 0. -/
  epoch : Nat := 0
  /-- Courses 0 to 3; reset as Table 13-6. -/
  courses : Tbl Course := []
  /-- R166 host master per product; DESIGN CHOICE clear (assumption 3). -/
  master : Tbl Bool := []
  /-- R397 the master counts as set by the autonomous policy; reset false. -/
  masterAuto : Bool := false
  /-- R397 outputs stand as the SAFE policy left them until SYS_OUTPUTS; reset false. -/
  safeLeft : Bool := false
  /-- Table 13-2 request ring bytes that REGISTER_WRITE stored, by window address; reset 0. -/
  ringBytes : List Host.Cell := []
  /-- R375, R376, R378 the words that the device drove on HMISO in the last transaction; reset none. -/
  hmiso : List Nat := []
  /-- R390 the course served last in the running round, 2 with none running; reset 2. -/
  served : Nat := 2
deriving DecidableEq, Repr

/-! ## Events, faults, recorder -/

/-- One event source (R461 to R474). -/
structure EvtSource where
  /-- Table 16-1 PRIORITY; reset 0. -/
  priority : Nat := 0
  /-- Table 16-1 TARGET; reset 0. -/
  target : Nat := 0
  /-- Table 16-4 DELIVERED; reset 0. -/
  delivered : Nat := 0
  /-- Table 16-4 LOST; reset 0. -/
  lost : Nat := 0
  /-- Table 16-4 VANISHED; reset 0. -/
  vanished : Nat := 0
  /-- R462 level source active; reset false. -/
  active : Bool := false
  /-- R471 a record is in service; reset false. -/
  inService : Bool := false
  /-- R463 last payload of a level source, for its re-delivery; reset 0. -/
  payload : Nat := 0
deriving DecidableEq, Repr

/-- One event record (Table 16-3). -/
structure EvtRecord where
  source : Nat := 0
  level : Nat := 0
  levelType : Bool := false
  late : Bool := false
  overflowed : Bool := false
  seq : Nat := 0
  time : Nat := 0
  payload : Nat := 0
  lostSnap : Nat := 0
  target : Nat := 0
  /-- R470 DEVTIME at which it was written. -/
  writtenAt : Nat := 0
deriving DecidableEq, Repr

/-- One event target (R466 to R470, R477). -/
structure EvtTarget where
  /-- R467 THRESHOLD; DESIGN CHOICE 0 until configured (assumption 3). -/
  threshold : Nat := 0
  /-- R467 RUNNING; reset 0. -/
  running : Nat := 0
  /-- R470 COUNT; reset 8 (R14). -/
  count : Nat := 8
  /-- R470 TIME; reset 1000 (R14). -/
  timeUs : Nat := 1000
  /-- R477 WAKE_ON_QUEUE; DESIGN CHOICE clear (assumption 3). -/
  wake : Bool := false
  /-- R466 unclaimed records, oldest first; reset empty. -/
  queue : List EvtRecord := []
  /-- R468 claimed records in service; reset empty. -/
  claimed : List EvtRecord := []
  /-- Table 16-4 DROPPED; reset 0. -/
  dropped : Nat := 0
  /-- R466 the next record carries OVERFLOWED; reset false. -/
  overflow : Bool := false
  /-- R466 level sources whose assertion was dropped; reset none. -/
  redo : List Nat := []
  /-- R470 non-empty signal; reset false. -/
  ne : Bool := false
deriving DecidableEq, Repr

/-- The event controller (R461 to R479). -/
structure Events where
  sources : Tbl EvtSource := []
  targets : Tbl EvtTarget := []
  /-- Table 13-4 HQ_WR; reset 0. -/
  hqWr : Nat := 0
  /-- Table 13-4 HQ_RD; reset 0. -/
  hqRd : Nat := 0
  /-- R466, R476 bytes of the host queue's slots: slot and record; reset 0. -/
  hostSlots : Tbl EvtRecord := []
  /-- R478 the controller is stopped; reset false. -/
  stopped : Bool := false
deriving DecidableEq, Repr

/-- One error intake entry (R482). -/
structure IntakeEntry where
  cls : Nat := 0
  inst : Nat := 0
  severity : Nat := 0
  source : Nat := 0
  time : Nat := 0
  context : Nat := 0
deriving DecidableEq, Repr

/-- One open fault (Table 17-3). -/
structure OpenFault where
  cls : Nat := 0
  inst : Nat := 0
  severity : Nat := 0
  /-- 0 element, 1 condition, 2 one-shot (Table 17-4). -/
  kind : Nat := 2
  rebuilt : Bool := false
  count : Nat := 1
  first : Nat := 0
  last : Nat := 0
deriving DecidableEq, Repr

/-- One Caldera entry (Table 17-10). -/
structure CalderaEntry where
  cls : Nat := 0
  inst : Nat := 0
  devtime : Nat := 0
  utcS : Nat := 0
  utcMs : Nat := 0
  utcValid : Bool := false
  context : List Int := []
  status : Nat := 0
  cfgId : Nat := 0
  fwBuild : Nat := 0
  pos : List Byte := []
  opened : List OpenFault := []
deriving DecidableEq, Repr

/-- One extreme entry (R493). -/
structure Extreme where
  quantity : Nat := 0
  isMax : Bool := true
  inst : Nat := 0
  value : Int := 0
  utcS : Nat := 0
  utcMs : Nat := 0
  utcValid : Bool := false
deriving DecidableEq, Repr

/-- One recorder record (Table 17-5). -/
structure RecRecord where
  /-- 0 hourly, 1 session, 2 lifetime. -/
  kind : Nat := 0
  number : Nat := 0
  isOpen : Bool := false
  isPartial : Bool := false
  resumed : Bool := false
  utcValid : Bool := false
  closedByReset : Bool := false
  fieldId : Nat := 0
  startUtc : Nat × Nat := (0, 0)
  endUtc : Nat × Nat := (0, 0)
  startDev : Nat := 0
  endDev : Nat := 0
  maxSev : Nat := 0
  frozenMs : Nat := 0
  lostS : Nat := 0
  /-- TOTALS in the order of R491. -/
  totals : Tbl Nat := []
  /-- HIST_VBAT: 32 × group + bin. -/
  histVbat : Tbl Nat := []
  /-- HIST_TJ: 32 × die + bin. -/
  histTj : Tbl Nat := []
  histSpeed : Tbl Nat := []
  extremes : List Extreme := []
  /-- CLAMP per channel: total mJ, largest mJ, turn-offs. -/
  clamp : Tbl (Nat × Nat × Nat) := []
  /-- LATENCY: 64 × unit + 32 × direction + bin. -/
  latency : Tbl Nat := []
  /-- FAULTS: class, source, count, in order of first count. -/
  faults : List (Nat × Nat × Nat) := []
deriving DecidableEq, Repr

/-- The fault manager (R482 to R489, R501). -/
structure Faults where
  /-- R482 error intake, oldest first; reset empty. -/
  intake : List IntakeEntry := []
  /-- R483 OVF by 256 × class + source; reset 0. -/
  ovf : Tbl Nat := []
  /-- R483 OVF_TOTAL; reset 0. -/
  ovfTotal : Nat := 0
  /-- R486 open faults; reset none. -/
  opened : List OpenFault := []
  /-- R487 last 32 closed faults, newest first; reset none. -/
  closed : List OpenFault := []
  /-- R489 DEVTIME of the INTAKE_OVERFLOW that a scan is due for; reset none. -/
  rebuildDue : Option Nat := none
  /-- R501 Caldera entries waiting for the next commit; reset none. -/
  calderaQueue : List CalderaEntry := []
  /-- R482 context values that the owning rule names for a severity-4 fault, newest first; reset none. -/
  contexts : List (Nat × Nat × List Int) := []
deriving DecidableEq, Repr

/-- The open records and their shadows as one commit holds them (R498). -/
structure RecImage where
  hourly : Option RecRecord := none
  session : Option RecRecord := none
  lifetime : RecRecord := { kind := 2, isOpen := true }
  shHourly : Option RecRecord := none
  shSession : Option RecRecord := none
  shLifetime : Option RecRecord := none
deriving DecidableEq, Repr

/-- The recorder (R490 to R503). -/
structure Recorder where
  hourly : Option RecRecord := none
  session : Option RecRecord := none
  lifetime : RecRecord := { kind := 2, isOpen := true }
  /-- R500 stored hourly records, oldest first; reset none. -/
  hourlies : List RecRecord := []
  /-- R500 stored session records, oldest first; reset none. -/
  sessions : List RecRecord := []
  /-- R490 next NUMBER per kind; reset 0. -/
  nextHourly : Nat := 0
  nextSession : Nat := 0
  /-- R495 frozen since; reset none. -/
  frozenAt : Option Nat := none
  /-- R495 shadows of the hourly, session and lifetime records; reset none. -/
  shHourly : Option RecRecord := none
  shSession : Option RecRecord := none
  shLifetime : Option RecRecord := none
  /-- R495 pending records, at most 8; reset none. -/
  pending : List RecRecord := []
  /-- R501 the Caldera region; reset empty. -/
  caldera : List CalderaEntry := []
  /-- R503 stream in progress: kind, chunks left to send as (record, chunk), sent records; reset none. -/
  stream : Option (Nat × List (Nat × Nat) × Nat) := none
  /-- R503 COPY of the records being streamed; reset none. -/
  streamRecords : List RecRecord := []
  /-- R498 number of the last commit; reset 0. -/
  commitNo : Nat := 0
  /-- R498 last commit; reset 0. -/
  committedAt : Nat := 0
  /-- R56 DEVTIME of the last commit that stands, or of the start; reset 0. -/
  heldAt : Nat := 0
  /-- R56 intervals, and ms, of accumulation lost by a reset and not yet counted; reset 0. -/
  lostIntervals : Nat := 0
  lostMs : Nat := 0
  /-- R498, R499 last 10 s commit of histograms; reset 0. -/
  histAt : Nat := 0
  /-- R492 last histogram sample; reset none. -/
  sampledAt : Option Nat := none
  /-- R498 the records as of the last commit, and as of the last 10 s commit; reset empty. -/
  committed : RecImage := {}
  tenSeconds : RecImage := {}
  /-- R491 DEVTIME to which the seconds of the power states are counted; reset 0. -/
  timedTo : Nat := 0
  /-- R490 UTC hour in which the hourly record runs; reset none. -/
  hour : Option Nat := none
  /-- R56 UNJOURNALLED: intervals and their total length in ms; reset 0. -/
  unjournalled : Nat := 0
  unjournalledMs : Nat := 0
deriving DecidableEq, Repr

/-! ## Navigation, odometry, coverage -/

/-- One tracking channel in use (R65 to R68). -/
structure NavChannel where
  ant : Nat := 0
  signal : Nat := 0
  svid : Nat := 0
  /-- R66 DEVTIME at which it was last tracked, or was assigned. -/
  last : Nat := 0
  /-- R66, Table 03-18 tracked in the latest epoch; reset false. -/
  tracked : Bool := false
  /-- R67, Table 03-3 offsets of the seven taps, 1/400 chip, and their magnitudes. -/
  offsets : List Int := []
  taps : List Nat := []
  /-- R68, Table 03-4 the code discriminator, as a quotient's two parts; reset none yet. -/
  code : Int × Int := (0, 0)
  /-- R68 bandwidths of the carrier loops, Hz: PLL, and FLL for pull-in. -/
  loopHz : Nat × Nat := (15, 10)
deriving DecidableEq, Repr

/-- The events of the jamming indicator of one antenna and band (R71). -/
structure JamSt where
  /-- J with which JAMMING_WARN, JAMMED was raised, while it stands; reset none. -/
  warn : Option Nat := none
  jammed : Option Nat := none
  /-- Since when J is below the clearing level of each; reset none. -/
  warnBelow : Option Nat := none
  jammedBelow : Option Nat := none
deriving DecidableEq, Repr

/-- Ephemeris and clock data in use of one satellite (R75, Table 03-17). -/
structure Ephemeris where
  data : List Byte := []
  /-- DEVTIME at which it came (R103). -/
  at_ : Nat := 0
  /-- R75 a check on it has FAILED. -/
  failed : Bool := false
deriving DecidableEq, Repr

/-- OSNMA on chip (R74). -/
structure OsnmaSt where
  /-- The public key of the configuration that it began with, and the one in force; reset none. -/
  from_ : List Byte := []
  key : List Byte := []
  /-- The chain announces a key type other than ECDSA P-256; reset false. -/
  unsupported : Bool := false
  /-- The latest verified TESLA key and its position in the chain; reset none. -/
  chain : Option (Nat × List Byte) := none
  /-- Tags that wait for their key: satellite, position of the key, the data that they cover, and the tag; reset none. -/
  waiting : List (Nat × Nat × List Byte × List Byte) := []
deriving DecidableEq, Repr

/-- The navigation data that retention keeps, beside the last state (Table 03-17). -/
structure NavData where
  /-- TCXO frequency offset against temperature, 16 points, ppb; clock bias, ns, and drift, ppb; reset 0. -/
  tcxo : List Int := List.replicate 16 0
  clockBias : Int := 0
  clockDrift : Int := 0
  /-- UTC parameters; reset none. -/
  utc : List Byte := []
  /-- Ionosphere parameters by constellation; reset none. -/
  iono : Tbl (List Byte) := []
  /-- R74 the OSNMA state; reset as OsnmaSt. -/
  osnma : OsnmaSt := {}
  /-- Almanacs and ephemerides by 256 × constellation + satellite; reset none. -/
  almanacs : Tbl (List Byte) := []
  ephemerides : Tbl Ephemeris := []
deriving DecidableEq, Repr

/-- The navigation part of retention (R102, Table 03-17). -/
structure NavKept where
  savedAt : Nat := 0
  utcMs : Nat := 0
  lat : Int := 0
  lon : Int := 0
  height : Int := 0
  heading : Int := 0
  uncH : Nat := 4294967295
  fix : Nat := 0
  leap : Int := 0
  leapPending : Bool := false
  data : NavData := {}
deriving DecidableEq, Repr

/-- The fused state as published (R85, Table 03-12). Positions in mm, before the blend remainder. -/
structure NavSt where
  /-- R85 DEVTIME of the latest fused epoch; reset none. -/
  epoch : Option Nat := none
  e : Int := 0
  n : Int := 0
  u : Int := 0
  lat : Int := 0
  lon : Int := 0
  height : Int := 0
  velE : Int := 0
  velN : Int := 0
  velU : Int := 0
  heading : Int := 0
  headingValid : Bool := false
  yawRate : Int := 0
  pitch : Int := 0
  roll : Int := 0
  /-- R88 UNC_H; reset unknown (0xFFFF_FFFF). -/
  uncH : Nat := 4294967295
  uncHdg : Nat := 0
  /-- R87 what the propagated heading, and its uncertainty, have gained below a millidegree, 10^-6 millidegree; reset 0. -/
  headingAcc : Int := 0
  uncHdgAcc : Nat := 0
  /-- R89 horizontal variances behind UNC_H, µm², east and north; reset 0. -/
  var : Nat × Nat := (0, 0)
  /-- R95 remaining blend, east and north, µm, added to the filter's position; reset 0. -/
  blendE : Int := 0
  blendN : Int := 0
  /-- R95 the correction, mm, east, north and up, that a solution has brought and the next epoch takes up; reset none. -/
  correction : Option (Int × Int × Int) := none
  /-- R95 travel not yet used for blending, µm; reset 0. -/
  blendAcc : Nat := 0
  /-- R80 fix type; reset 0 NO_FIX. -/
  fix : Nat := 0
  /-- R80 fix of the last solution; reset 0. -/
  lastSolAt : Option Nat := none
  /-- R493 since when the fix is DEAD_RECKONING; reset none. -/
  drSince : Option Nat := none
  /-- R92 a fix has been obtained since READY; reset false. -/
  everFix : Bool := false
  nsv : Nat := 0
  /-- Table 03-13 UNCERTAIN; reset 1. -/
  uncertain : Bool := true
  /-- R92 the first epoch after activation is still to come; reset true. -/
  firstEpoch : Bool := true
  /-- Table 03-13 HOLD_ACTIVE; reset 0. -/
  holdActive : Bool := false
  /-- R92 hold distance left, µm; reset 0 (used up until a fix). -/
  holdLeft : Nat := 0
  /-- R94 travel within the limit since it was met, µm; reset 0. -/
  withinUm : Nat := 0
  /-- Table 03-13 OSNMA_AUTH; reset 0. -/
  osnmaAuth : Bool := false
  /-- R75 satellites excluded after FAILED; reset none. -/
  osnmaExcluded : List Nat := []
  /-- R75 Galileo satellites whose data in use is AUTHENTICATED; reset none. -/
  osnmaAuthed : List Nat := []
  /-- Table 03-13 ANT0_LOST, ANT1_LOST; reset 0. -/
  antLost : Bool × Bool := (false, false)
  imuUsed : Bool := false
  /-- R87 channels tracked above 25 and above 30 dB-Hz per antenna; reset 0. -/
  tracked25 : Nat × Nat := (0, 0)
  tracked30 : Nat × Nat := (0, 0)
  /-- R87 since when the loss condition of each antenna holds; reset none. -/
  lossSince : Option Nat × Option Nat := (none, none)
  /-- R65 to R68 channels in use; reset none. -/
  channels : List NavChannel := []
  /-- R62 delay taken off each antenna's epochs: cable and group delay, ns; reset 0. -/
  delayNs : Nat × Nat := (0, 0)
  /-- NAV_STATUS_READ TRACKED: ANT0 L1, ANT0 L5, ANT1 L1, ANT1 L5; reset 0. -/
  trackedBand : List Nat := [0, 0, 0, 0]
  /-- R69 notch filters engaged per antenna and band: frequency, level; reset none. -/
  notches : Tbl (List (Nat × Nat)) := []
  /-- R70 J per antenna and band (2 × antenna + band); reset 0. -/
  jam : Tbl Nat := []
  /-- R71 events per antenna and band; reset none. -/
  jamBand : Tbl JamSt := []
  /-- R73 selected constellations and antennas; reset 0. -/
  bitsConst : Nat := 0
  bitsAnt : Nat := 0
  /-- R88 last N_POS; reset none. -/
  posAt : Option Nat := none
  /-- R88 N_POS and its FLAGS as of the latest fused epoch; reset none. -/
  posMsg : List Byte := []
  posFlags : Nat := 0
  /-- R88 N_POS rate and N_RTK subscription; reset 20 and 0 (Table 14-6). -/
  posRate : Nat := 20
  rtk : Bool := false
  /-- R88 latest RTK solution; reset none. -/
  sol : Option RtkSolution := none
  solFix : Nat := 0
  solAt : Nat := 0
  /-- R81 consecutive bad epochs; reset 0. -/
  badEpochs : Nat := 0
  /-- R79 epoch of the latest MSM set; reset none. -/
  corrAt : Option Nat := none
  /-- R79 the RTK state is NONE for age; reset true. -/
  rtkNone : Bool := true
  /-- R82 antenna reference point, earth-centred, 0.1 mm; reset none. -/
  arp : Option (Int × Int × Int) := none
  /-- R77, R78 RTCM counters; reset 0. -/
  rtcmCrc : Nat := 0
  rtcmIgnored : Nat := 0
  rtcmWrongSource : Nat := 0
  /-- R77 mailbox bytes, UART0 bytes not yet decoded; reset empty. -/
  rtcmStream : List Byte := []
  uartStream : List Byte := []
  /-- R78 receiver and antenna descriptors of 1033; reset none. -/
  descriptors : List Byte := []
  /-- R83 the vector from ANT0 to ANT1, µm; reset 0. -/
  baseVec : Int × Int × Int := (0, 0, 0)
  /-- R83 baseline heading and its validity; reset invalid. -/
  baseHeading : Int := 0
  baseFixed : Bool := false
  /-- R84 since when the length disagrees, agrees; the mark; reset none. -/
  baseBadSince : Option Nat := none
  baseGoodSince : Option Nat := none
  baseMark : Bool := false
  /-- R96, R97 time quality 0 NONE, 1 LOCKED, 2 HOLDOVER; reset 0. -/
  quality : Nat := 0
  /-- R416 the quality has been LOCKED since READY; reset false. -/
  everLocked : Bool := false
  /-- R98 error bound, ns; reset 0. -/
  errBound : Nat := 0
  /-- R76, R349 the device has slept since the last LOCKED pulse, so that the bound is the RTC's; reset false. -/
  boundFromRtc : Bool := false
  /-- R99 slew, step announced; reset 0. -/
  slew : Int := 0
  stepNs : Int := 0
  stepNext : Bool := false
  /-- R97 last pulse: DEVTIME, SUB_US, STEP, LEAP_ACTIVE and UTC second; reset none. -/
  ppsAt : Option Nat := none
  subNs : Nat := 0
  stepNow : Bool := false
  leapNow : Bool := false
  utcS : Nat := 0
  gpsWeek : Nat := 0
  gpsTow : Nat := 0
  leap : Int := 0
  /-- R100 leap flags; reset 0. -/
  leapPending : Bool := false
  /-- R101 the latest epoch whose sentences UART1 sent, and their bytes; reset none. -/
  nmea : Option (Nat × List Byte) := none
  /-- R102 the navigation data in use (Table 03-17); reset none. -/
  data : NavData := {}
  /-- R102 the navigation part of retention with the CRC-32C of its header, and when saved; reset none. -/
  retention : Option (NavKept × BitVec 32) := none
  retentionAt : Nat := 0
  /-- R103 how navigation started: 0 not yet, 1 hot, 2 warm, 3 cold; reset 0. -/
  startKind : Nat := 0
  /-- R130, R131 recent epochs for a and α: DEVTIME, v µm/s, ω mdeg/s, newest first; reset empty. -/
  recent : List (Nat × Int × Int) := []
  /-- R131 package acceleration µm/s² and yaw acceleration mdeg/s²; reset 0. -/
  accUm : Int := 0
  alpha : Int := 0
  /-- R173 fused history for the writer, newest first: epoch, e, n, heading, uncertain; reset empty. -/
  history : List (Nat × Int × Int × Int × Bool) := []
  /-- R171 epochs that carry an N_POS_STEP; reset none. -/
  steps : List Nat := []
  /-- R187 ODO_STALE holds; reset false. -/
  odoStale : Bool := false
  /-- R187 since when the 20 ms run; reset 0. -/
  staleBase : Nat := 0
  /-- R187 on-kind frets may fire (an epoch has been published since activation or RUN); reset false. -/
  fretsLive : Bool := false
  /-- R207 1 ms means of the VBAT groups, mV; DESIGN CHOICE 0 (assumption 3). -/
  vbatMv : Tbl Nat := []
  /-- R208 thermal grids of the regions, m°C; DESIGN CHOICE 25,000 (assumption 3). -/
  gridMc : Tbl Int := []
  /-- R208 mean chopping duty over the last 10 ms of units in hold, ppm; DESIGN CHOICE 0 (assumption 3). -/
  dutyPpm : Tbl Nat := []
  /-- R208 when a duty was last read; reset 0. -/
  dutyAt : Nat := 0
deriving DecidableEq, Repr

/-- One fast channel (R108 to R121). -/
structure ChannelSt where
  /-- Table 04-5 flags; reset as the table. -/
  standstill : Bool := true
  starting : Bool := false
  reversal : Bool := false
  negative : Bool := false
  dirUnknown : Bool := false
  noisy : Bool := false
  wireBreak : Bool := false
  /-- R115 history: times of counted edges of one direction, newest first, in steps of 0.25 µs (R109); reset empty. -/
  edges : List Nat := []
  /-- R110 last counted edge, in steps of 0.25 µs; reset none. -/
  lastEdge : Option Nat := none
  /-- R111 levels of lines A and B; reset low. -/
  lineA : Bool := false
  lineB : Bool := false
  /-- R115 v_meas with sign, µ-units/s; reset 0. -/
  vMeas : Int := 0
  /-- Table 04-2 counters; reset 0. -/
  edgeCount : Nat := 0
  /-- Table 04-2 DIST, whole milli-units; reset 0. -/
  dist : Int := 0
  /-- R108 what DIST holds above `dist`, in parts of a milli-unit divided by SCALE × E; reset 0. -/
  distPart : Nat := 0
  /-- Table 04-2 EDGE_FAST and QUAD_ERROR; reset 0. -/
  edgeFast : Nat := 0
  quadError : Nat := 0
  /-- R112 times of recent refused edges; reset empty. -/
  refused : List Nat := []
deriving DecidableEq, Repr

/-- One SENT channel (R122 to R125). -/
structure SentSt where
  crc : Nat := 0
  format : Nat := 0
  loss : Nat := 0
  lost : Bool := false
  badRun : Nat := 0
  goodRun : Nat := 0
  lastAt : Option Nat := none
  value : Nat := 0
  /-- Table 04-6 the second 12-bit value of a frame with two; reset 0. -/
  value2 : Nat := 0
  /-- R123 status nibble of the newest valid frame; reset 0. -/
  status : Nat := 0
  /-- Table 04-6 status nibbles that carry the slow channel, newest first: 16 of a short message, 18 of an enhanced one; reset empty. -/
  slow : List Nat := []
  /-- R122 calibration pulse of the frame before, ns; reset none. -/
  lastCal : Option Nat := none
  speed : Int := 0
deriving DecidableEq, Repr

/-- A ground-speed source's standing (R127). -/
structure SourceSt where
  excluded : Bool := false
  /-- Since when it has agreed with the primary. -/
  agreeSince : Option Nat := none
  /-- Since when it reports standstill against another's 500 mm/s. -/
  stoppedSince : Option Nat := none
deriving DecidableEq, Repr

/-- Odometry (R106 to R140). -/
structure OdoSt where
  channels : Tbl ChannelSt := []
  sent : Tbl SentSt := []
  sources : Tbl SourceSt := []
  /-- R127 disagreeing pairs of ranks (16 × lower + higher): since when, raised; reset none. -/
  pairs : Tbl (Nat × Bool) := []
  /-- R127 rank of the primary; reset none. -/
  primary : Option Nat := none
  /-- R127 some source has been primary since the activation; reset false. -/
  primarySeen : Bool := false
  /-- R127 blend: start DEVTIME and the speed blended from, µm/s; reset none. -/
  blendFrom : Option (Nat × Int) := none
  /-- R127 package ground speed, µm/s; reset 0. -/
  speed : Int := 0
  /-- R128 package at standstill; DESIGN CHOICE true at reset (assumption 3). -/
  standstill : Bool := true
  /-- R443 wheel-based and ground-based speeds of ISO 11783: µm/s and DEVTIME; reset none. -/
  isoWheel : Option (Int × Nat) := none
  isoGround : Option (Int × Nat) := none
  /-- R126 GNSS Doppler speed, µm/s; reset none. -/
  doppler : Option Int := none
  /-- R120 held sign of the Doppler direction, negative; reset false. -/
  dopplerNeg : Bool := false
  /-- R137 distance of the emulation source since enable, pm, at DEVTIME `emuAt`; reset 0. -/
  emuDist : Nat := 0
  emuAt : Nat := 0
  /-- R137 rate of the generator since then, µm/s; reset 0. -/
  emuRate : Nat := 0
  /-- R137 where the source stood when it last moved on, pm; reset 0. -/
  emuFrom : Int := 0
  /-- R137 steps given since enable: two a pulse in SINGLE, four in QUAD; reset 0. -/
  emuDone : Nat := 0
  /-- R138 EMU_DROPPED, pulses; reset 0. -/
  emuDropped : Nat := 0
  /-- R138 EMU_CLAMPED was raised since enable; reset false. -/
  emuClamped : Bool := false
  /-- R138 last step; reset none. -/
  emuLast : Option Nat := none
  /-- R140 generator stopped; reset false. -/
  emuStopped : Bool := false
  /-- R139 direction in force, reverse; reset false. -/
  emuReverse : Bool := false
  /-- R453 S in half femtometres and THETA in half 10^-15 degrees of the package, exact; reset 0. -/
  distS : Int := 0
  theta : Int := 0
  /-- R128 package along-track distance, signed pm; reset 0. -/
  along : Int := 0
deriving DecidableEq, Repr

/-- The seven area counters of Table 05-12 in mm². -/
abbrev Area := List Nat

/-- A ring of a polygon set (Table 05-6): kind and vertices. -/
structure Ring where
  kind : Nat := 0
  verts : List (Int × Int) := []
deriving DecidableEq, Repr

/-- One field entry of FIELD_DIR (Table 05-2). -/
structure FieldEntry where
  fieldId : Nat := 0
  lat : Int := 0
  lon : Int := 0
  height : Int := 0
  cell : Nat := 50
  polyGen : Nat := 0
  coverEpoch : Nat := 0
  /-- Polygon sets by generation, newest first; the current one is that of POLY_GEN. -/
  polys : List (Nat × List Ring) := []
  /-- R174 counters per product of the session, of the field's lifetime, and of the session per system unit, in the order of
  Table 05-12. -/
  session : Tbl Area := []
  lifetime : Tbl Area := []
  units : Tbl Area := []
  /-- R155 PAGE_MISS of the session; reset 0. -/
  pageMiss : Nat := 0
deriving DecidableEq, Repr

/-- One tile (Table 05-3, R155). -/
structure Tile where
  fieldId : Nat := 0
  tcol : Int := 0
  trow : Int := 0
  slot : Nat := 0
  polyGen : Nat := 0
  coverEpoch : Nat := 0
  writeGen : Nat := 0
  /-- Table 05-3 CRC over the slot's cells; reset 0. -/
  crc : BitVec 32 := 0
  /-- R151 the slot that the next journal commit moves the tile to; reset none. -/
  moveTo : Option Nat := none
  cached : Bool := false
  changed : Bool := false
  /-- R153 last decision or write that touched it. -/
  touched : Nat := 0
deriving DecidableEq, Repr

/-- One run of writes waiting in the miss buffer (R155): unit, product, first cell, number of cells running east,
provisional. -/
structure MissRun where
  unit : Nat := 0
  product : Nat := 0
  col : Int := 0
  row : Int := 0
  len : Nat := 1
  prov : Bool := false
deriving DecidableEq, Repr

/-- One delta record (Table 05-4); `len` is the number of cells less 1. -/
structure DeltaRun where
  slot : Nat := 0
  row : Nat := 0
  col : Nat := 0
  len : Nat := 0
  product : Nat := 0
  prov : Bool := false
deriving DecidableEq, Repr

/-- The Tephra map and the coverage pipeline (R141 to R179). -/
structure CovSt where
  fields : List FieldEntry := []
  /-- R142 the open field; reset none. -/
  opened : Option Nat := none
  /-- R149 the field whose index scan runs; reset none. -/
  scanning : Option Nat := none
  /-- R142 the field being opened resumes its session; reset false. -/
  scanResume : Bool := false
  /-- R177 the field is closing since; reset none. -/
  closingAt : Option Nat := none
  tiles : List Tile := []
  /-- R145, R148 cells by slot × 65536 + offset: bits [3:0] and [7]; reset 0. -/
  cells : List Host.Cell := []
  /-- R153 working set and ahead set of the last decision cycle, as tile columns and rows; reset empty. -/
  working : List (Int × Int) := []
  ahead : List (Int × Int) := []
  /-- R155 miss buffer; reset empty. -/
  miss : List MissRun := []
  /-- R155 last COVERAGE_UNWRITTEN; reset none. -/
  unwrittenAt : Option Nat := none
  /-- R420 staged polygon bytes; reset none. -/
  polyStage : Option (List Byte) := none
  /-- R152 delta records since the last commit, newest first; reset empty. -/
  delta : List DeltaRun := []
  /-- Table 05-2 DELTA_LOG since the checkpoint: commits, newest first, with their records as words; reset empty. -/
  log : List (Nat × List Nat) := []
  /-- Table 05-2 checkpoint commit numbers of SUPER_A and SUPER_B; reset 0. -/
  supers : Nat × Nat := (0, 0)
  /-- Table 05-2 FIELD_DIR and POLYGONS as the last journal commit left them; reset empty. -/
  dir : List FieldEntry := []
  /-- Table 05-2 TILE_INDEX as the last journal commit left it; reset empty. -/
  index : List Tile := []
  /-- Table 05-2 TILE_SLOTS, by slot × 65536 + offset; reset 0. -/
  store : List Host.Cell := []
  /-- R149 number of tile slots; DESIGN CHOICE 525,312 (assumption 3). -/
  slots : Nat := 525312
  /-- R367 partition unreadable; reset false. -/
  unreadable : Bool := false
  /-- R178 export running: field, tiles left as (tcol, trow), next chunk, tiles sent; reset none. -/
  exporting : Option (Nat × List (Int × Int) × Nat × Nat) := none
  /-- R178 the copy of the tile being exported: cells by offset and WRITE_GEN; reset empty. -/
  exportCopy : List Host.Cell × Nat := ([], 0)
  /-- R167 last N_SECTIONS and whether a change waits; reset none. -/
  sectionsAt : Option Nat := none
  sectionsDue : Bool := false
  /-- R168 cells written by the open strokes of each unit: unit × 2^64 + cell key; reset empty. -/
  strokeCells : List (Nat × Int × Int) := []
  /-- R167 DEVTIME of the last decision cycle; reset 0. -/
  decidedAt : Nat := 0
deriving DecidableEq, Repr

/-! ## Power, start-up, storage -/

/-- Power states of Table 11-2. -/
inductive PowerState where
  | run | doze | nap | park | entering | refresh
deriving DecidableEq, Repr

/-- Supplies, clocks and sleep (R325 to R351). -/
structure PowerSt where
  /-- Table 13-3 POWER; reset 0 RUN. -/
  state : PowerState := .run
  /-- R335 target and origin of a running entry sequence; reset none. -/
  entry : Option (PowerState × PowerState) := none
  /-- R333 the state NAP was entered from; reset RUN. -/
  from_ : PowerState := .run
  /-- R340 WAKE bits asserted; reset 0. -/
  wakeBits : Nat := 0
  /-- R345 DEVTIME spent asleep since the last N_POWER; reset 0. -/
  slept : Nat := 0
  sleptFrom : Option Nat := none
  /-- R327 CORE_PWR_EN; reset high once VDD_AON is up. DESIGN CHOICE high (assumption 3). -/
  corePwrEn : Bool := true
  /-- R329 TCXO_EN; reset low until step 2. -/
  tcxoEn : Bool := false
  /-- R330 PLL source: 0 off, 1 fast RC, 2 TCXO; reset 0. -/
  pll : Nat := 0
  /-- R328 the Fumarole domain runs on its RC oscillator; reset true. -/
  onRc : Bool := true
  /-- R328 CLK32_FAIL to be raised at the next wake; reset false. -/
  clk32Fail : Bool := false
  /-- R348 TRIM_VALID; reset false. -/
  trim : Bool := false
  /-- R348 last sensor reading, m°C; DESIGN CHOICE 25,000 (assumption 3). -/
  crystalMc : Int := 25000
  /-- R349 RTC: UTC in ms at DEVTIME `rtcAt`, set at least once, error bound in µs; reset 1970-01-01 (R490). -/
  rtcMs : Nat := 0
  rtcAt : Nat := 0
  rtcSet : Bool := false
  rtcErrUs : Nat := 0
  /-- R414 alarm, UTC s; reset none. -/
  alarm : Option Nat := none
  /-- R339 KEY_OFF timer end, and expired waiting for standstill; reset none. -/
  keyOffEnd : Option Nat := none
  keyOffDue : Bool := false
  /-- R104 end of the running refresh; reset none. -/
  refreshEnd : Option Nat := none
  /-- R104 DEVTIME from which the keep-warm period counts; a refresh has ended since PARK entry; reset 0, false. -/
  warmFrom : Nat := 0
  refreshed : Bool := false
  /-- R346 retention of events and ledger: valid, DEVTIME of the save; reset invalid. -/
  retention : Option (Nat × Tbl EvtSource × Tbl EvtTarget) := none
  /-- R344 digests kept at PARK entry: firmware and configuration; reset none. -/
  digests : Option (List Byte × List Byte) := none
  /-- Table 11-1 VBAT groups present; reset absent. -/
  groups : Tbl Bool := []
  /-- R365 VDD_RF valid; reset false. -/
  vddRf : Bool := false
  /-- R325 supplies valid; reset false. -/
  supplies : Bool := false
deriving DecidableEq, Repr

/-- Start-up, self-calibration, READY (R352 to R373). -/
structure StartSt where
  /-- Table 13-3 READY and the READY pin; reset 0. -/
  ready : Bool := false
  readyPin : Bool := false
  /-- R366 DEVTIME of READY; reset 0. -/
  readyAt : Nat := 0
  /-- Table 13-3 MAINT; reset 0. -/
  maint : Bool := false
  /-- R359 the eMMC answered; reset true. -/
  emmc : Bool := true
  /-- Table 12-4 CAUSE of the next start; reset 0 POWER_ON. -/
  cause : Nat := 0
  /-- R358 counted resets before READY; reset 0. -/
  tries : Nat := 0
  /-- R361 unavailable elements; reset none. -/
  badUnits : List Nat := []
  badSwitches : List Nat := []
  badOutputs : List Nat := []
  badInputs : List Nat := []
  badAnalogs : List Nat := []
  /-- R362 regions that wait for their calibration; reset none. -/
  uncalibrated : List Nat := []
  /-- R363 elements held on through a reset and deferred: kind, number; reset none. -/
  deferred : List (Nat × Nat) := []
  /-- R364 the limp-home fuse map passes its check; reset true. -/
  fuseOk : Bool := true
  /-- R365 front ends that failed; reset none. -/
  rfBad : List Nat := []
  /-- Table 13-3 CONFIG_ACTIVE; reset 0. -/
  configActive : Bool := false
  /-- R373 an activation runs, its image and slot; reset none. -/
  activating : Option (Image × Nat) := none
  /-- R356 DEVTIME at which the supplies became valid or the start began; reset 0. -/
  begunAt : Nat := 0
  /-- R17, R356 Keeper pair out of service since; reset none. -/
  keeperOut : Option Nat := none
  /-- R20, R21 cores out of service: target number, true for a cold start, since; reset none. -/
  coresOut : List (Nat × Bool × Nat) := []
  /-- R22 work that waits for a core out of service, oldest first: the core and the command; reset empty. -/
  coreQueue : List (Nat × Instr) := []
  /-- The MODEL's own mark that the command now executed waited for its core (assumption 5); reset false. -/
  coreTaking : Bool := false
deriving DecidableEq, Repr

/-- A configuration slot (CFG_INFO). -/
structure CfgSlot where
  /-- 0 empty, 1 staging, 2 valid, 3 invalid. -/
  st : Nat := 0
  image : Option Image := none
  bytes : List Byte := []
  size : Nat := 0
deriving DecidableEq, Repr

/-- A firmware slot. -/
structure FwSlot where
  /-- MNT_INFO STATE (R357): 0 empty, 1 staging, 2 valid, 3 invalid; reset 0. -/
  st : Nat := 0
  /-- R357 what its header says, with the verdict on its signature; reset none. -/
  image : Option Firmware := none
  /-- R418 its bytes as staged; reset none. -/
  bytes : List Byte := []
  /-- R357 SIZE; reset 0. -/
  size : Nat := 0
deriving DecidableEq, Repr

/-- Non-volatile storage and fuses (R357, R427, R497, R300). -/
structure StorageSt where
  cfgA : CfgSlot := {}
  cfgB : CfgSlot := {}
  /-- 0 A, 1 B, 255 none; reset none. -/
  activeCfg : Nat := 255
  /-- R357 firmware slots; DESIGN CHOICE slot A holds a valid image (assumption 4). -/
  fwA : FwSlot := { st := 2, image := some {}, size := 192 }
  fwB : FwSlot := {}
  /-- R357 active slot 0 A, 1 B; running slot; DESIGN CHOICE A (assumption 4). -/
  activeFw : Nat := 0
  runningFw : Nat := 0
  /-- R358 slots treated as failing at the next start; reset none. -/
  failedFw : List Nat := []
  /-- R418 staging of a configuration: size, bytes so far; reset none. -/
  staging : Option (Nat × List Byte) := none
  /-- R418 staging of firmware: size, bytes so far; reset none. -/
  fwStaging : Option (Nat × List Byte) := none
  /-- R412 running long CFG_VERIFY or MNT_FW_COMMIT with its image; reset none. -/
  verifying : Option Image := none
  fwCommitting : Option Firmware := none
  /-- R497 running MNT_PARTITION with TEPHRA_MIB; reset none. -/
  partitioning : Option Nat := none
  /-- R497 partition table valid, TEPHRA_MIB; DESIGN CHOICE valid, 32,946 (assumption 4). -/
  tableOk : Bool := true
  tephraMib : Nat := 32946
  /-- R497 capacity of the fitted eMMC, MiB; DESIGN CHOICE 33,267 (assumption 4). -/
  capacityMib : Nat := 33267
  /-- R357 rollback floor; DESIGN CHOICE 0 (assumption 4). -/
  floor : Nat := 0
  /-- R427 fused key hash; reset none. -/
  keyHash : Option (List Byte) := none
  /-- R300 fuse map: entries 0 to 7 and global byte; reset 0. -/
  fuses : List Nat := [0, 0, 0, 0, 0, 0, 0, 0]
  fuseGlobal : Nat := 0
  /-- R502 consecutive failed commits; partitions whose writes stopped; reset none. -/
  failedCommits : Nat := 0
  /-- R502 the partition of the last EMMC_ERROR among those that a commit writes; reset 5. -/
  failing : Nat := 5
  stopped : List Nat := []
  /-- R498 content of failed commits waits; reset false. -/
  carried : Bool := false
  /-- Table 13-3 SI_LETTER, SI_DIGIT; DESIGN CHOICE 0x20, B0 (assumption 4). -/
  siRev : Nat := 32
  /-- Table 13-3 FW_BUILD; DESIGN CHOICE 0 (assumption 4). -/
  fwBuild : Nat := 0
  /-- R1 ordered variant: 0 E, 1 H; DESIGN CHOICE E (assumption 4). -/
  variant : Nat := 0
  /-- R215 saved latency tables and trims; reset none. -/
  savedLatency : Tbl SavedUnit := []
  latencySavedAt : Nat := 0
  /-- R459 SYS_EPOCH kept in retention; reset 0. -/
  sysEpoch : Nat := 0
deriving DecidableEq, Repr

/-! ## Buses -/

/-- One gateway buffer (Table 15-4). -/
structure GwBuffer where
  enable : Bool := false
  tx : Bool := false
  lock : Bool := false
  full : Bool := false
  pending : Bool := false
  transmitted : Bool := false
  txFailed : Bool := false
  cancelled : Bool := false
  cancelLate : Bool := false
  refused : Bool := false
  frame : CanFrame := {}
  filterId : Nat := 0
  filterMask : Nat := 0
  filterExt : Bool := false
  length : Nat := 0
  timeStamp : Nat := 0
  frames : Nat := 0
  lost : Nat := 0
  shadow : Option (CanFrame × Nat) := none
  retries : Nat := 0
deriving DecidableEq, Repr

/-- One transport session that a controller receives (R441): sender, PGN, size of the message, its bytes so far, the packet offset of
an ETP session, and the DEVTIME of its last frame. -/
structure TpSession where
  src : Nat := 0
  pgn : Nat := 0
  size : Nat := 0
  data : List Byte := []
  offset : Nat := 0
  /-- It is a broadcast (BAM). -/
  bam : Bool := false
  /-- It is an ETP session. -/
  ext : Bool := false
  last : Nat := 0
deriving DecidableEq, Repr

/-- One CAN controller (R430 to R436, R441, R442). -/
structure CanSt where
  /-- BUS_STATUS_READ STATE 0 active, 1 passive, 2 bus-off; reset 0. -/
  st : Nat := 0
  /-- R435 transmit and receive error counters; reset 0. -/
  tec : Nat := 0
  recCnt : Nat := 0
  /-- BUS_STATUS_READ counters; reset 0. -/
  txFrames : Nat := 0
  rxFrames : Nat := 0
  errors : Nat := 0
  discarded : Nat := 0
  /-- R442 claimed address; reset none (0xFE). -/
  addr : Option Nat := none
  /-- R442 address being claimed, and when; reset none. -/
  claiming : Option (Nat × Nat) := none
  /-- R442 no address could be claimed; reset false. -/
  cannotClaim : Bool := false
  /-- R437, Table 15-4 the gateway buffers; reset as GwBuffer. -/
  buffers : Tbl GwBuffer := []
  /-- R433 the gateway buffer whose frame the controller offers to the bus; reset none. -/
  offered : Option Nat := none
  /-- R437 bindings that wait for the next bus idle: buffer, FLAGS, ID, MASK, oldest first; reset none. -/
  binds : List (Nat × Nat × Nat × Nat) := []
  /-- R432 frames and messages handed to the bus by the firmware, and gateway frames that were sent, oldest first; reset empty. -/
  sent : List CanFrame := []
  /-- R441 transport sessions received, at most 4, in order of their beginning; reset none. -/
  sessions : List TpSession := []
  /-- R445 last DM1; reset none. -/
  dm1At : Option Nat := none
  /-- R406 host address that NAME has claimed; reset none. -/
  hostAddr : Option Nat := none
deriving DecidableEq, Repr

/-- Zither and the system (R446 to R459). -/
structure ZitherSt where
  /-- R448 the last 64 SEQ taken per source, newest first; reset none. -/
  seqTaken : Tbl (List Nat) := []
  /-- R448 SEQ of the next frame sent; reset 0. -/
  seqOut : Nat := 0
  /-- R448, R459 epoch joined (follower) or in force (lead); reset none. -/
  joined : Option Nat := none
  /-- R449 a member (follower): welcomed; reset false. -/
  welcomed : Bool := false
  /-- R449 last JOIN sent; reset none. -/
  joinAt : Option Nat := none
  /-- R449 the lead answered with RESULT 1; reset false. -/
  turnedAway : Bool := false
  /-- R449 BOOTS of JOIN; DESIGN CHOICE 0 (assumption 3). -/
  boots : Nat := 0
  /-- R451 the next FOLLOW_UP sets the offset in one step; reset false. -/
  stepOffset : Bool := false
  /-- R451 offset to system time, ns; set once; reset none. -/
  offsetNs : Option Int := none
  /-- R451 last FOLLOW_UP; SYNC_SEQ and the lead's captured time; reset none. -/
  followAt : Option Nat := none
  timeLost : Bool := false
  syncSeq : Nat := 0
  syncAt : Nat := 0
  /-- R450 last CONTROL sent; flags last received; reset none. -/
  controlAt : Option Nat := none
  controlFlags : Nat := 0
  /-- R447 FLAGS of the last STATE; reset 0. -/
  stateFlags : Nat := 0
  /-- R452, R453 motion of the last STATE applied: EPOCH in system time, V, A, OMEGA, ALPHA; reset none. -/
  motion : Option (Nat × Int × Int × Int × Int) := none
  /-- R453 per follower: epoch, S, THETA, received at; reset none. -/
  odo : Tbl (Nat × Int × Int × Nat) := []
  stale : List Nat := []
  /-- R446 system frames sent, newest first: TYPE, destination, body; reset empty. -/
  sent : List (Nat × Nat × List Int) := []
  /-- R434 errors of the newest system frame's transmission; reset 0. -/
  txErrors : Nat := 0
  /-- R454 FRET frames that failed and go out again in the next decision cycle; reset none. -/
  resend : List (Nat × List Int) := []
  /-- R458 forwarded requests waiting at the lead: RSEQ, header, opcode, sent at; reset none. -/
  fwd : List (Nat × Hdr × Nat × Nat) := []
  /-- R458 the follower's last 16 replies by RSEQ; reset none. -/
  fwdReplies : List (Nat × List Byte) := []
  /-- R458 segments received so far: RSEQ, bytes; reset none. -/
  fwdParts : List (Nat × Nat × List Byte) := []
  rseq : Nat := 0
  /-- R456 a package-level request has been refused since the last token request; reset false. -/
  tokenShort : Bool := false
  /-- R456 token request outstanding since; FREE above RET_HIGH since; reset none. -/
  tokenAskedAt : Option Nat := none
  highSince : Option Nat := none
  /-- R444 task controller: connected, reports sent (DDI, section, value), oldest first; reset none. -/
  tcConnected : Bool := false
  tcReports : List (Nat × Nat × Nat) := []
  /-- R444 per DDI and section: the value last reported and when; time intervals that the task controller has set, in ms; reset none. -/
  tcLast : List ((Nat × Nat) × (Nat × Nat)) := []
  tcIntervals : List ((Nat × Nat) × Nat) := []
  /-- R444 per section: the setpoint last received; reset none. -/
  tcSetpoints : Tbl Nat := []
  /-- R445 last DM1 content: open fault classes, lamps; reset none. -/
  dm1 : List Nat := []
  dm1Lamps : Nat := 0
deriving DecidableEq, Repr

/-- The state of the block, and the queue of commands that wait for it, first in, first out. -/
structure State where
  /-- R347 DEVTIME, µs; reset 0 (Table 11-1). -/
  devtime : Nat := 0
  /-- The active configuration (R371); reset: none active, its parameters at their defaults (R14). -/
  cfg : Image := {}
  power : PowerSt := {}
  start : StartSt := {}
  storage : StorageSt := {}
  host : HostSt := {}
  ledger : Ledger := {}
  units : Tbl UnitSt := []
  clusters : Tbl ClusterSt := []
  boost : Tbl BoostSt := []
  switches : Tbl SwitchSt := []
  vents : Tbl VentSt := []
  ventHeld : List Nat := []
  inputs : Tbl InputSt := []
  outputs : Tbl OutputSt := []
  analogs : Tbl AnalogSt := []
  groups : Tbl GroupSt := []
  dies : Tbl DieSt := []
  loops : Tbl LoopSt := []
  /-- R277 N_LOOP subscription: rate and loops; reset none. -/
  loopStream : Nat × List Nat := (0, [])
  /-- R277 last N_LOOP; reset none. -/
  loopSentAt : Option Nat := none
  /-- R273 target rate per product; R276 trim factor per product, Q16.16; R275 last RATE_UNREACHABLE. -/
  rates : Tbl Nat := []
  trims : Tbl Nat := []
  rateRaisedAt : Tbl Nat := []
  pressureBad : List Nat := []
  /-- R230 PWM reference of the clusters: end of the activation; reset 0. -/
  pwmRef : Nat := 0
  nav : NavSt := {}
  odo : OdoSt := {}
  cov : CovSt := {}
  events : Events := {}
  faults : Faults := {}
  recorder : Recorder := {}
  /-- R301 limp home active, since; LIMP_EN low since; reset none. -/
  limp : Option Nat := none
  can : Tbl CanSt := []
  zither : ZitherSt := {}
  /-- The MODEL's own count of free values drawn (assumption 8); DESIGN CHOICE 0. -/
  freeCount : Nat := 0
  /-- The commands that wait, first in, first out; reset empty. -/
  pending : List Instr := []
deriving DecidableEq, Repr

/-- The machine right after reset: power-on, before the supplies are valid (R325, R352). -/
def State.reset : State := {}

end Sys2Proof.Machine
end

