-- ==== Sys2Proof/Machine/Access.lean ====
section
/-! DEFINITION. One read and one update per bank of State, the configuration's entries, and the element numbering of
Table 01-6. Every other file reads and writes elements through these. -/

namespace Sys2Proof.Machine

/-- What a meaning answers. -/
abbrev Out := Host.Outcome State Fault Refusal

/-! ## Numbering (R26, R24, R25) -/

/-- Table 01-6: the cluster of a valve unit. -/
def clusterOf (u : Nat) : Nat := u / 8
/-- Table 01-6: the region of a valve cluster. -/
def regionOf (c : Nat) : Nat := c / 4
/-- Table 01-6: the valve die of a unit, 2 or 3. -/
def dieOfUnit (u : Nat) : Nat := 2 + u / 64
/-- Table 01-6: the valve die of a cluster. -/
def dieOfCluster (c : Nat) : Nat := 2 + c / 8
/-- Table 01-6: the switch cluster of a channel. -/
def swClusterOf (n : Nat) : Nat := n / 4
/-- Table 01-6: the region of a switch channel. -/
def swRegionOf (n : Nat) : Nat := if n < 16 then 4 else 5
/-- The die of a region (R24). -/
def dieOfRegion (r : Nat) : Nat := if r < 2 then 2 else if r < 4 then 3 else 4
/-- R29: the VBAT groups of a power die. -/
def groupsOfDie (d : Nat) : List Nat := if d = 2 then [0, 1] else if d = 3 then [2, 3] else [4, 5, 6]
/-- V_REF of a profile of unit `u`, mV: 13.5 V for BATTERY and BOOST_SET of the die for BOOST where the image gives none (Table 07-1). -/
def vRefOf (c : UnitsCfg) (u : Nat) (p : ProfileCfg) : Nat :=
  p.vRefMv.getD (if p.boost then 1000 * tget c.boostSetV 0 (dieOfUnit u) else 13500)
/-- The units of a cluster. -/
def unitsOfCluster (c : Nat) : List Nat := upFrom (8 * c) 8
/-- The switch channels of a switch cluster. -/
def channelsOfCluster (c : Nat) : List Nat := upFrom (4 * c) 4
/-- The clusters of a valve die. -/
def clustersOfDie (d : Nat) : List Nat := if d = 2 then upFrom 0 8 else if d = 3 then upFrom 8 8 else []
/-- The units of a valve die. -/
def unitsOfDie (d : Nat) : List Nat := if d = 2 then upFrom 0 64 else if d = 3 then upFrom 64 64 else []

/-! ## Banks of State -/

namespace State

/-- Valve unit `u`. -/
def unit (s : State) (u : Nat) : UnitSt := tget s.units {} u
/-- Change valve unit `u`. -/
def modUnit (s : State) (u : Nat) (f : UnitSt → UnitSt) : State := { s with units := tmod s.units {} u f }
/-- Change the drive side of unit `u`. -/
def modDrive (s : State) (u : Nat) (f : Drive → Drive) : State := s.modUnit u fun x => { x with drive := f x.drive }
/-- Change the learning side of unit `u`. -/
def modLearn (s : State) (u : Nat) (f : Learn → Learn) : State := s.modUnit u fun x => { x with learn := f x.learn }
/-- Change the section side of unit `u`. -/
def modSect (s : State) (u : Nat) (f : SectionSt → SectionSt) : State := s.modUnit u fun x => { x with sect := f x.sect }
/-- Change the counters of Table 07-6 of unit `u`. -/
def modValve (s : State) (u : Nat) (f : ValveCounters → ValveCounters) : State :=
  s.modUnit u fun x => { x with valve := f x.valve }
/-- Change the counters of Table 06-3 of unit `u`. -/
def modFretCnt (s : State) (u : Nat) (f : FretCounters → FretCounters) : State :=
  s.modUnit u fun x => { x with fret := f x.fret }
/-- Valve cluster `c`. -/
def cluster (s : State) (c : Nat) : ClusterSt := tget s.clusters {} c
/-- Change valve cluster `c`. -/
def modCluster (s : State) (c : Nat) (f : ClusterSt → ClusterSt) : State := { s with clusters := tmod s.clusters {} c f }
/-- Boost converter of valve die `d`. -/
def boostOf (s : State) (d : Nat) : BoostSt := tget s.boost {} d
/-- Change the boost converter of valve die `d`. -/
def modBoost (s : State) (d : Nat) (f : BoostSt → BoostSt) : State := { s with boost := tmod s.boost {} d f }
/-- Switch channel `n`. -/
def sw (s : State) (n : Nat) : SwitchSt := tget s.switches {} n
/-- Change switch channel `n`. -/
def modSw (s : State) (n : Nat) (f : SwitchSt → SwitchSt) : State := { s with switches := tmod s.switches {} n f }
/-- Vent budget of switch cluster `c`. -/
def vent (s : State) (c : Nat) : VentSt := tget s.vents {} c
/-- Change the vent budget of switch cluster `c`. -/
def modVent (s : State) (c : Nat) (f : VentSt → VentSt) : State := { s with vents := tmod s.vents {} c f }
/-- Field input `i`. -/
def fi (s : State) (i : Nat) : InputSt := tget s.inputs {} i
/-- Change field input `i`. -/
def modFi (s : State) (i : Nat) (f : InputSt → InputSt) : State := { s with inputs := tmod s.inputs {} i f }
/-- Field output `o`. -/
def fo (s : State) (o : Nat) : OutputSt := tget s.outputs {} o
/-- Change field output `o`. -/
def modFo (s : State) (o : Nat) (f : OutputSt → OutputSt) : State := { s with outputs := tmod s.outputs {} o f }
/-- Analog input `a`. -/
def ai (s : State) (a : Nat) : AnalogSt := tget s.analogs {} a
/-- Change analog input `a`. -/
def modAi (s : State) (a : Nat) (f : AnalogSt → AnalogSt) : State := { s with analogs := tmod s.analogs {} a f }
/-- Connector group `g`. -/
def group (s : State) (g : Nat) : GroupSt := tget s.groups .present g
/-- Power die `d`. -/
def die (s : State) (d : Nat) : DieSt := tget s.dies {} d
/-- Change power die `d`. -/
def modDie (s : State) (d : Nat) (f : DieSt → DieSt) : State := { s with dies := tmod s.dies {} d f }
/-- Loop `l`. -/
def loop (s : State) (l : Nat) : LoopSt := tget s.loops {} l
/-- Change loop `l`. -/
def modLoop (s : State) (l : Nat) (f : LoopSt → LoopSt) : State := { s with loops := tmod s.loops {} l f }
/-- Course `n`. -/
def course (s : State) (n : Nat) : Course := tget s.host.courses {} n
/-- Change the host's registers. -/
def modHost (s : State) (f : HostSt → HostSt) : State := { s with host := f s.host }
/-- Change course `n`. -/
def modCourse (s : State) (n : Nat) (f : Course → Course) : State :=
  s.modHost fun x => { x with courses := tmod x.courses {} n f }
/-- Change the event controller. -/
def modEvents (s : State) (f : Events → Events) : State := { s with events := f s.events }
/-- Event source `n`. -/
def src (s : State) (n : Nat) : EvtSource := tget s.events.sources {} n
/-- Change event source `n`. -/
def modSrc (s : State) (n : Nat) (f : EvtSource → EvtSource) : State :=
  s.modEvents fun e => { e with sources := tmod e.sources {} n f }
/-- Event target `n`. -/
def tgt (s : State) (n : Nat) : EvtTarget := tget s.events.targets {} n
/-- Change event target `n`. -/
def modTgt (s : State) (n : Nat) (f : EvtTarget → EvtTarget) : State :=
  s.modEvents fun e => { e with targets := tmod e.targets {} n f }
/-- Change the fault manager. -/
def modFaults (s : State) (f : Faults → Faults) : State := { s with faults := f s.faults }
/-- Change the recorder. -/
def modRec (s : State) (f : Recorder → Recorder) : State := { s with recorder := f s.recorder }
/-- Change the ledger. -/
def modLedger (s : State) (f : Ledger → Ledger) : State := { s with ledger := f s.ledger }
/-- Change navigation. -/
def modNav (s : State) (f : NavSt → NavSt) : State := { s with nav := f s.nav }
/-- Change odometry. -/
def modOdo (s : State) (f : OdoSt → OdoSt) : State := { s with odo := f s.odo }
/-- Change coverage. -/
def modCov (s : State) (f : CovSt → CovSt) : State := { s with cov := f s.cov }
/-- Change power and clocks. -/
def modPower (s : State) (f : PowerSt → PowerSt) : State := { s with power := f s.power }
/-- Change start-up. -/
def modStart (s : State) (f : StartSt → StartSt) : State := { s with start := f s.start }
/-- Change storage. -/
def modStore (s : State) (f : StorageSt → StorageSt) : State := { s with storage := f s.storage }
/-- Change Zither. -/
def modZ (s : State) (f : ZitherSt → ZitherSt) : State := { s with zither := f s.zither }
/-- CAN controller `n`. -/
def canOf (s : State) (n : Nat) : CanSt := tget s.can {} n
/-- Change CAN controller `n`. -/
def modCan (s : State) (n : Nat) (f : CanSt → CanSt) : State := { s with can := tmod s.can {} n f }
/-- Gateway buffer `b` of controller `n`. -/
def gw (s : State) (n b : Nat) : GwBuffer := tget (s.canOf n).buffers {} b
/-- Change gateway buffer `b` of controller `n`. -/
def modGw (s : State) (n b : Nat) (f : GwBuffer → GwBuffer) : State :=
  s.modCan n fun x => { x with buffers := tmod x.buffers {} b f }
/-- Fast odometry channel `n`. -/
def chan (s : State) (n : Nat) : ChannelSt := tget s.odo.channels {} n
/-- Change fast odometry channel `n`. -/
def modChan (s : State) (n : Nat) (f : ChannelSt → ChannelSt) : State :=
  s.modOdo fun o => { o with channels := tmod o.channels {} n f }
/-- SENT channel `n`. -/
def sentOf (s : State) (n : Nat) : SentSt := tget s.odo.sent {} n
/-- Change SENT channel `n`. -/
def modSent (s : State) (n : Nat) (f : SentSt → SentSt) : State :=
  s.modOdo fun o => { o with sent := tmod o.sent {} n f }
/-- Change the field entry with identity `f`. -/
def modField (s : State) (fid : Nat) (f : FieldEntry → FieldEntry) : State :=
  s.modCov fun c => { c with fields := c.fields.map fun e => if e.fieldId = fid then f e else e }
/-- The field entry with identity `f`. -/
def fieldEntry (s : State) (fid : Nat) : Option FieldEntry := s.cov.fields.find? fun e => e.fieldId == fid

/-! ## The configuration in force -/

/-- Configuration of valve unit `u`. -/
def unitCfg (s : State) (u : Nat) : UnitCfg := tget s.cfg.units.units {} u
/-- Profile of valve unit `u` (R219). -/
def profile (s : State) (u : Nat) : ProfileCfg := (s.unitCfg u).profile.getD {}
/-- V_REF in force of valve unit `u`, mV: 13.5 V or BOOST_SET of its die where the image gives none (Table 07-1). -/
def vRef (s : State) (u : Nat) : Nat := vRefOf s.cfg.units u (s.profile u)
/-- OPEN_WIN in force of valve unit `u`, us (R240). -/
def openWin (s : State) (u : Nat) : Nat := (s.profile u).openWinUs.getD (s.profile u).latMaxUs.1
/-- CLOSE_WIN in force of valve unit `u`, us (R242). -/
def closeWin (s : State) (u : Nat) : Nat := (s.profile u).closeWinUs.getD (s.profile u).latMaxUs.2
/-- Section parameters of valve unit `u`, if it is a section unit (R160). -/
def secOf (s : State) (u : Nat) : Option SectionCfg := (s.unitCfg u).sec
/-- Configuration of switch channel `n`. -/
def swCfg (s : State) (n : Nat) : SwitchCfg := tget s.cfg.switches {} n
/-- Configuration of field input `i`. -/
def fiCfg (s : State) (i : Nat) : InputCfg := tget s.cfg.fieldIo.inputs {} i
/-- Configuration of field output `o`. -/
def foCfg (s : State) (o : Nat) : FieldOutCfg := tget s.cfg.fieldIo.outputs {} o
/-- Configuration of analog input `a`. -/
def aiCfg (s : State) (a : Nat) : AnalogCfg := tget s.cfg.fieldIo.analogs {} a
/-- Configuration of loop `l`. -/
def loopCfg (s : State) (l : Nat) : LoopCfg := tget s.cfg.loops {} l
/-- Configuration of product `p`. -/
def productCfg (s : State) (p : Nat) : ProductCfg := tget s.cfg.products {} p
/-- Configuration of CAN controller `n`. -/
def canCfg (s : State) (n : Nat) : CanCfg := tget s.cfg.buses.controllers {} n
/-- Configuration of fast channel `n`. -/
def chanCfg (s : State) (n : Nat) : ChannelCfg := tget s.cfg.odo.channels {} n
/-- The package's own valve units that the configuration uses, in rising order. The lead's image also lists the section units
of its followers by system unit number, from 128 on (R26, R179). -/
def usedUnits (s : State) : List Nat :=
  s.cfg.units.units.filterMap fun p => if p.2.used && decide (p.1 < 128) then some p.1 else none
/-- The section units in rising order (R160), at the lead those of the whole system (R179). -/
def sectionUnits (s : State) : List Nat :=
  s.cfg.units.units.filterMap fun p => if p.2.used && p.2.sec.isSome then some p.1 else none
/-- The section units of product `p`. -/
def productUnits (s : State) (p : Nat) : List Nat :=
  s.sectionUnits.filter fun u => (s.secOf u).any fun x => x.product == p
/-- Whether the package is a follower of a system (R446). -/
def follower (s : State) : Bool := s.cfg.package.member && s.cfg.package.pkgIndex != 0
/-- Whether the package is the lead of a system. -/
def lead (s : State) : Bool := s.cfg.package.member && s.cfg.package.pkgIndex == 0
/-- The system unit number of unit `u` of this package (R26). -/
def sysUnit (s : State) (u : Nat) : Nat := (if s.cfg.package.member then 128 * s.cfg.package.pkgIndex else 0) + u
/-- Whether the host link is ISOBUS (R405); in maintenance mode it is SPI. -/
def isobusLink (s : State) : Option Nat :=
  if s.start.configActive && !s.start.maint then
    match s.cfg.host.link with
    | .isobus c _ => some c
    | _ => none
  else none
/-- Draw the next free value (assumption 8). -/
def free (s : State) : Int × State := (Config.freeValue s.freeCount, { s with freeCount := s.freeCount + 1 })

end State

end Sys2Proof.Machine
end

