-- ==== Sys2Proof/Machine/MapOps.lean ====
section
/-! DEFINITION. The Tephra partition (R148 to R152, R355): delta records, write-back copy-on-write, journal commits with the checkpoint of
the log, and the replay at a start. -/

namespace Sys2Proof.Machine

/-! ## Delta records (Table 05-4) -/

/-- Count bits of a product in a cell (Table 05-1). -/
def countOf (b p : Nat) : Nat := bitsAt b (2 * p) 2

/-- The stored byte after an increment (R145, R146, R172). -/
def incremented (stored p : Nat) (prov : Bool) : Byte :=
  let n := countOf stored p
  let rest := if p = 0 then 4 * bitsAt stored 2 2 else bitsAt stored 0 2
  BitVec.ofNat 8 (rest + min 3 (n + 1) * 4 ^ p + 128 * bit prov)

/-- A delta record's 64 bits. -/
def DeltaRun.word (r : DeltaRun) : Nat :=
  pack [(r.slot, 0), (r.row, 20), (r.col, 28), (r.len, 36), (r.product, 44), (bit r.prov, 45)]

/-- The record that 64 bits spell. -/
def runOfWord (w : Nat) : DeltaRun :=
  { slot := bitsAt w 0 20, row := bitsAt w 20 8, col := bitsAt w 28 8, len := bitsAt w 36 8, product := bitsAt w 44 1, prov := bitAt w 45 }

/-- R152: one cell change more: the newest record runs on to the east, or a new one begins. -/
def addDelta (slot off p : Nat) (prov : Bool) (l : List DeltaRun) : List DeltaRun :=
  let fresh : DeltaRun := { slot := slot, row := off / 256, col := off % 256, product := p, prov := prov }
  match l with
  | [] => [fresh]
  | r :: rest =>
    if r.slot = slot && r.row = off / 256 && r.col + r.len + 1 = off % 256 && r.product = p && r.prov == prov then
      { r with len := r.len + 1 } :: rest
    else fresh :: l

/-- R152: replaying a record increments the count of each cell in its run and sets or clears PROVISIONAL. -/
def replayRun (m : List Host.Cell) (r : DeltaRun) : List Host.Cell :=
  (upFrom (r.slot * 65536 + r.row * 256 + r.col) (r.len + 1)).foldl (fun m k =>
    Memory.write m k (incremented (Memory.read m k).toNat r.product r.prov)) m

/-- R152: the cells at a start: the slots, with the records of commits numbered above each tile's WRITE_GEN, oldest first. -/
def replayed (c : CovSt) : List Host.Cell :=
  c.log.reverse.foldl (fun m e => e.2.foldl (fun m w =>
    let r := runOfWord w
    if c.index.any fun t => t.slot == r.slot && decide (t.writeGen < e.1) then replayRun m r else m) m) c.store

/-! ## Slots -/

/-- The slots that SLOT_MAP marks in use, with those that a move has taken (Table 05-2, R151). -/
def usedSlots (c : CovSt) : List Nat := c.tiles.map (·.slot) ++ c.tiles.filterMap (·.moveTo)

/-- The lowest free slot. -/
def freeSlotNo (c : CovSt) : Nat :=
  let used := usedSlots c
  ((List.range (used.length + 1)).find? fun k => !used.contains k).getD used.length

/-- The cells of slot `a` of one memory, in slot `b` of another. -/
def copySlot (src : List Host.Cell) (a b : Nat) (dst : List Host.Cell) : List Host.Cell :=
  (src.filter fun x => x.1 / 65536 == a).foldl (fun m x => Memory.write m (b * 65536 + x.1 % 65536) x.2)
    (Memory.clear dst (b * 65536) ((b + 1) * 65536))

/-- Slot `a` of a memory moves to slot `b`. -/
def moveSlot (a b : Nat) (m : List Host.Cell) : List Host.Cell :=
  if a = b then m else Memory.clear (copySlot m a b m) (a * 65536) ((a + 1) * 65536)

/-- Table 05-3 CRC of a slot's 64 KiB. -/
def slotCrc (m : List Host.Cell) (a : Nat) : BitVec 32 := crc32c ((upFrom (a * 65536) 65536).map (Memory.read m))

/-- R151: the tiles that `p` picks are copied to free slots, to which the next commit moves them. -/
def markBack (p : Tile → Bool) (c : CovSt) : CovSt :=
  c.tiles.foldl (fun c t =>
    if p t && t.moveTo.isNone then
      { c with tiles := c.tiles.map fun x => if x.slot = t.slot then { x with moveTo := some (freeSlotNo c) } else x }
    else c) c

/-! ## Commits -/

/-- R151: a tile as a commit `no` leaves it: one that moves has its cells in the new slot. -/
def landed (no : Nat) (cells : List Host.Cell) (t : Tile) : Tile :=
  match t.moveTo with
  | none => t
  | some n => { t with slot := n, moveTo := none, changed := false, writeGen := no, crc := slotCrc cells t.slot }

/-- The same tile of the same field. -/
def sameTile (a b : Tile) : Bool := a.fieldId == b.fieldId && a.tcol == b.tcol && a.trow == b.trow

/-- The index entry that a commit leaves for a tile: the new one of a tile that moves, else the one it had. -/
def indexEntry (no : Nat) (c : CovSt) (t : Tile) : Option Tile :=
  if t.moveTo.isSome then some { landed no c.cells t with cached := false, touched := 0 } else c.index.find? (sameTile t)

/-- DELTA_LOG once commit `no` has added its records; empty after a checkpoint. -/
def logAfter (no : Nat) (check : Bool) (c : CovSt) : List (Nat × List Nat) :=
  if check then [] else if c.delta.isEmpty then c.log else (no, (c.delta.map DeltaRun.word).reverse) :: c.log

/-- Table 05-2: the superblock copies are written alternately: the older takes the checkpoint. -/
def superAfter (no : Nat) (check : Bool) (s : Nat × Nat) : Nat × Nat :=
  if !check then s else if s.1 ≤ s.2 then (no, s.2) else (s.1, no)

/-- R151, R152: what journal commit `no` does to the map; `check` advances the checkpoint. -/
def storeCommit (no : Nat) (check : Bool) (c : CovSt) : CovSt :=
  let moving := c.tiles.filterMap fun t => t.moveTo.map fun n => (t.slot, n)
  { c with tiles := c.tiles.map (landed no c.cells),
           cells := moving.foldl (fun m p => moveSlot p.1 p.2 m) c.cells,
           store := moving.foldl (fun m p => copySlot c.cells p.1 p.2 m) c.store,
           index := c.tiles.filterMap (indexEntry no c), dir := c.fields, delta := [], log := logAfter no check c,
           supers := superAfter no check c.supers }

/-- Bytes of DELTA_LOG since the checkpoint, with the records that wait for the next commit. -/
def logBytes (c : CovSt) : Nat := 8 * (c.log.foldl (fun n e => n + e.2.length) 0 + c.delta.length)

/-- A tile with changes in the log. -/
def inLog (c : CovSt) (t : Tile) : Bool :=
  (c.delta.any fun r => r.slot == t.slot) || c.log.any fun e => decide (t.writeGen < e.1) && e.2.any fun w => (runOfWord w).slot == t.slot

/-- R152, R355: one commit. Before the log exceeds 8 MiB, which lies below 75 % of DELTA_LOG, the tiles with changes in it are written
back and the checkpoint advances. -/
def commitMap (no : Nat) (c : CovSt) : CovSt :=
  let full := decide (8388608 < logBytes c)
  storeCommit no full (if full then markBack (inLog c) c else c)

/-- R56, R152: the map as a start finds it. -/
def restartMap (c : CovSt) : CovSt := { c with fields := c.dir, tiles := c.index, cells := replayed c, delta := [] }

end Sys2Proof.Machine
end

