-- ==== Sys2Proof/Machine/NavBits.lean ====
section
/-! DEFINITION. The arithmetic of navigation: the checks of navigation bits (Table 03-6) and of RTCM 3 frames (R78), the seven taps and
the code discriminators (Tables 03-3, 03-4), bearings and lever arms (R63, R83), and the text of NMEA sentences (R101). What is taken
from the published interface documents stands in assumption 53. -/

namespace Sys2Proof.Machine

/-! ## Bits -/

/-- The number that bytes spell, most significant first. -/
def beNat (bs : List Byte) : Nat := bs.foldl (fun a b => 256 * a + b.toNat) 0

/-- Bits `pos` to `pos` + `n` − 1 of a string of `total` bits, the first of them bit 0. -/
def bitField (x total pos n : Nat) : Nat := bitsAt x (total - pos - n) n

/-- A field as a two's complement number. -/
def signedField (x n : Nat) : Int := if 2 ^ n ≤ 2 * x then (x : Int) - 2 ^ n else x

/-- CRC-24Q over the lowest `n` bits of a number, most significant first, from `c`: polynomial 0x1864CFB. -/
def crc24q (x : Nat) : Nat → Nat → Nat
  | 0, c => c
  | n + 1, c =>
    let c2 := c * 2 % 16777216
    crc24q x n (if bitAt c 23 != bitAt x n then Nat.xor c2 8801531 else c2)

/-- Whether the lowest `n` bits of a number are even in number. -/
def evenBits (x : Nat) : Nat → Bool
  | 0 => true
  | n + 1 => bitAt x n != evenBits x n

/-- The parity of one LNAV word of 30 bits after a word that ended in `p29` and `p30` (assumption 53). -/
def lnavWordOk (p29 p30 : Bool) (w : Nat) : Bool :=
  let d := if p30 then Nat.xor (w / 64) 16777215 else w / 64
  let one (mask : Nat) (p : Bool) (i : Nat) : Bool := ((!evenBits (Nat.land d mask) 24) != p) == bitAt w i
  one 15498450 p29 5 && one 7749225 p30 4 && one 12263220 p29 3 && one 6131610 p30 2 && one 11454413 p30 1 && one 3009063 p29 0

/-- The parity of the ten words of an LNAV subframe, whose words before end in 0 (assumption 53). -/
def lnavOk (x : Nat) : Bool :=
  (List.range 10).all fun i =>
    let before := if i = 0 then 0 else bitField x 300 (30 * i - 30) 30
    lnavWordOk (bitAt before 1) (bitAt before 0) (bitField x 300 (30 * i) 30)

/-- Table 03-6: the bits of the unit that a page delivers. -/
def pageBits (p : NavPage) : Nat :=
  match p.signal with
  | 2 => 240
  | 3 => 238
  | 4 => if p.nbits = 264 then 264 else 600
  | 5 => 288
  | 8 => 250
  | _ => 300

/-- The page's bits as one number. -/
def pageNumber (p : NavPage) : Nat :=
  let n := pageBits p
  let bytes := (n + 7) / 8
  beNat (padTo bytes p.bits) / 2 ^ (8 * bytes - n)

/-- Table 03-6: whether a page passes its check: LNAV its parity, I/NAV the CRC over both parts without their tails, every other message
the CRC over all its bits (assumption 53). -/
def pageOk (p : NavPage) : Bool :=
  let n := pageBits p
  let x := pageNumber p
  match p.signal with
  | 0 | 6 => lnavOk x
  | 2 => crc24q (bitField x 240 0 114 * 2 ^ 106 + bitField x 240 120 106) 220 0 == 0
  | _ => crc24q x n 0 == 0

/-! ## RTCM 3 -/

/-- R78: the first complete frame of a byte stream: its payload, whether its CRC-24Q holds, and the bytes after it (assumption 53). -/
def rtcmNext (bs : List Byte) : Option (List Byte × Bool × List Byte) :=
  match bs.dropWhile fun b => b != 0xD3#8 with
  | p :: h :: l :: rest =>
    let n := h.toNat % 4 * 256 + l.toNat
    if rest.length < n + 3 then none
    else some (rest.take n, crc24q (beNat (p :: h :: l :: rest.take (n + 3))) (8 * (n + 6)) 0 == 0, rest.drop (n + 3))
  | _ => none

/-- The message number of a frame's payload, its first twelve bits (assumption 53). -/
def rtcmMsg (payload : List Byte) : Nat := if payload.length < 2 then 0 else bitsAt (beNat (payload.take 2)) 4 12

/-- Table 03-9: the antenna reference point of 1005 or 1006, earth-centred, in 0.1 mm (assumption 53). -/
def rtcmArp (payload : List Byte) : Int × Int × Int :=
  let x := beNat (padTo 19 payload)
  let at_ (pos : Nat) : Int := signedField (bitField x 152 pos 38) 38
  (at_ 34, at_ 74, at_ 114)

/-! ## Correlators -/

/-- Table 03-3: the offsets of the seven taps from prompt, in 1/400 chip, for a spacing in 0.01 chip. -/
def tapOffsets (d : Nat) : List Int := [-(4 * d : Nat), -(2 * d : Nat), -(d : Nat), 0, (d : Nat), (2 * d : Nat), (4 * d : Nat)]

/-- Table 03-4: the code discriminator of seven tap magnitudes, as a quotient's two parts. -/
def discriminate (kind d : Nat) (taps : List Nat) : Int × Int :=
  let x (k : Nat) : Int := (nth taps 0 k : Nat)
  match kind with
  | 0 => (x 1 - x 5, x 1 + x 5)
  | 1 => (2 * (x 1 - x 5) - (x 0 - x 6), 2 * x 3)
  | _ => (Config.multipathDelay taps d, 1)

/-- The constellation of a signal code (Tables 03-1, 03-7). -/
def constOf (signal : Nat) : Nat := signal / 2

/-! ## Geometry -/

/-- The largest angle below `a` + 2^`k` millidegrees whose direction does not pass that of `x` along the sine and `y` along the
cosine. -/
def angleFrom (x y : Int) : Nat → Int → Int
  | 0, a => a
  | k + 1, a =>
    let t := a + 2 ^ k
    if t ≤ 90000 && sinMdeg t * y ≤ cosMdeg t * x then angleFrom x y k t else angleFrom x y k a

/-- The direction of a vector east and north, millidegrees clockwise from north, to nearest. -/
def bearing (e n : Int) : Int :=
  let x : Int := mag e
  let y : Int := mag n
  let a := angleFrom x y 17 0
  let off (t : Int) : Nat := mag (sinMdeg t * y - cosMdeg t * x)
  let q := if off (a + 1) < off a then a + 1 else a
  wrapDeg (if 0 ≤ e then (if 0 ≤ n then q else 180000 - q) else if n < 0 then 180000 + q else 360000 - q)

/-- A body-frame offset (forward, right, up) levelled: roll, right side down, about the forward axis, then pitch, nose up (assumption
53). -/
def levelled (pitch roll : Int) (a : Int × Int × Int) : Int × Int × Int :=
  let q (x : Int) : Int := roundDiv x 1073741824
  let r := q (a.2.1 * cosMdeg roll + a.2.2 * sinMdeg roll)
  let u := q (a.2.2 * cosMdeg roll - a.2.1 * sinMdeg roll)
  (q (a.1 * cosMdeg pitch - u * sinMdeg pitch), r, q (a.1 * sinMdeg pitch + u * cosMdeg pitch))

/-- R63: a body-frame offset in the field frame: east, north, up. -/
def toField (heading pitch roll : Int) (a : Int × Int × Int) : Int × Int × Int :=
  let b := levelled pitch roll a
  let sn := sinMdeg heading
  let cs := cosMdeg heading
  (roundDiv (b.1 * sn + b.2.1 * cs) 1073741824, roundDiv (b.1 * cs - b.2.1 * sn) 1073741824, b.2.2)

/-- The square root of 1 − e² sin² of a latitude in 10^-9 degree, on the WGS 84 ellipsoid, in 10^-12. -/
def wgsRoot (lat : Int) : Nat :=
  let s := mag (sinMdeg (lat / 1000000))
  isqrt ((1000000000000000 * 2 ^ 60 - 6694379990141 * (s * s)) * 1000000000 / 2 ^ 60)

/-- A latitude moved `n` mm north, 10^-9 degree. -/
def latMoved (lat n : Int) : Int :=
  let w := wgsRoot lat
  -- meridian radius a (1 − e²) / w³, in mm
  let m := 6378137000 * 993305620009859 * 1000000000000 / 1000000000000000 * 1000000000000 / w * 1000000000000 / (w * w) 
  lat + roundDiv (n * 180000000000 * 1000000000000) (3141592653590 * max 1 m)

/-- A longitude at a latitude, moved `e` mm east, 10^-9 degree. -/
def lonMoved (lat lon e : Int) : Int :=
  let p := 6378137000 * 1000000000000 / wgsRoot lat
  lon + roundDiv (e * 180000000000 * 1000000000000 * 1073741824)
    (max 1 (3141592653590 * p * mag (cosMdeg (lat / 1000000))))

/-! ## NMEA 0183 (R101; assumption 53) -/

/-- `w` decimal digits of a number. -/
def digits : Nat → Nat → List Byte
  | 0, _ => []
  | w + 1, n => digits w (n / 10) ++ [BitVec.ofNat 8 (48 + n % 10)]

/-- A number in decimal with no leading zeros, up to 10 digits. -/
def decimal (n : Nat) : List Byte := digits (1 + (List.range 9).foldl (fun m k => if 10 ^ (k + 1) ≤ n then k + 1 else m) 0) n

/-- ASCII codes. -/
def ascii (cs : List Nat) : List Byte := cs.map fun c => BitVec.ofNat 8 c

/-- A number of thousandths with `k` decimals, truncated, its sign kept. -/
def thousandths (k : Nat) (x : Int) : List Byte :=
  (if x < 0 then ascii [45] else []) ++ decimal (mag x / 1000) ++ ascii [46] ++ digits k (mag x % 1000 / 10 ^ (3 - k))

/-- One hexadecimal digit. -/
def hexDigit (n : Nat) : Byte := BitVec.ofNat 8 (if n < 10 then 48 + n else 55 + n)

/-- A sentence from its fields: talker and type first, commas between, the checksum after. -/
def nmeaSentence (fields : List (List Byte)) : List Byte :=
  let body := match fields with
    | [] => []
    | f :: r => f ++ r.flatMap fun g => ascii [44] ++ g
  let sum := body.foldl (fun a b => Nat.xor a b.toNat) 0
  ascii [36] ++ body ++ ascii [42] ++ [hexDigit (sum / 16), hexDigit (sum % 16)] ++ ascii [13, 10]

/-- Talker GN and a sentence type. -/
def nmeaType (a b c : Nat) : List Byte := ascii [71, 78, a, b, c]

/-- A latitude or longitude in 10^-9 degree, degrees in `w` digits, minutes with seven decimals, and its hemisphere. -/
def nmeaAngle (w : Nat) (pos neg : Nat) (x : Int) : List (List Byte) :=
  let m := (mag x * 6 + 5) / 10
  [digits w (m / 600000000) ++ digits 2 (m % 600000000 / 10000000) ++ ascii [46] ++ digits 7 (m % 10000000),
   ascii [if x < 0 then neg else pos]]

/-- The civil date of a number of days since 1970-01-01: year, month, day. -/
def civil (days : Nat) : Nat × Nat × Nat :=
  let z := days + 719468
  let era := z / 146097
  let doe := z % 146097
  let yoe := (doe - doe / 1460 + doe / 36524 - doe / 146096) / 365
  let doy := doe - (365 * yoe + yoe / 4 - yoe / 100)
  let mp := (5 * doy + 2) / 153
  let m := if mp < 10 then mp + 3 else mp - 9
  (yoe + era * 400 + (if m ≤ 2 then 1 else 0), m, doy - (153 * mp + 2) / 5 + 1)

/-- hhmmss.ss of a UTC time in ms. -/
def nmeaTime (ms : Nat) : List Byte :=
  let s := ms / 1000 % 86400
  digits 2 (s / 3600) ++ digits 2 (s / 60 % 60) ++ digits 2 (s % 60) ++ ascii [46] ++ digits 2 (ms % 1000 / 10)

end Sys2Proof.Machine
end

