-- ==== Sys2Proof/Machine/Flags.lean ====
section
/-! DEFINITION. Status: the STATUS register (Table 13-3), the status words of units, loops, switch channels, field inputs
and field outputs, and the window as a read returns it (Table 13-2). All are computed from State. -/

namespace Sys2Proof.Machine

/-! ## STATUS (Table 13-3) -/

/-- SEVERITY: the highest severity of the open faults; 0 with none open. -/
def severityOf (s : State) : Nat := s.faults.opened.foldl (fun m f => max m f.severity) 0

/-- Table 11-2: the code of a power state. -/
def powerCode : PowerState → Nat
  | .run => 0
  | .doze => 1
  | .nap => 2
  | .park => 3
  | .entering => 4
  | .refresh => 5

/-- STATUS bits [11:0] and [18:16], whose changes SEQ counts. -/
def statusBits (s : State) : Nat :=
  pack [(bit s.start.ready, 0), (bit s.start.configActive, 1), (bit s.host.outputsEnabled, 2),
    (bit (decide (2 ≤ severityOf s)), 3), (bit (s.tgt 9).ne, 4), (bit s.limp.isSome, 5), (bit s.start.maint, 6),
    (bit s.host.silent, 7), (powerCode s.power.state, 8), (severityOf s, 16)]

/-- The STATUS word. -/
def statusWord (s : State) : Nat :=
  statusBits s + pack [(bit s.host.spiErr, 12), (s.host.statusSeq, 24)]

/-- Whether D0 answers on the host link: awake, and past step 3 of a start (R353, R341). -/
def awake (s : State) : Bool :=
  s.power.supplies && match s.power.state with
    | .run | .doze | .entering | .refresh => true
    | .nap | .park => false

/-- HOST_IRQ_N is low (Table 13-3, R477). -/
def hostIrqLow (s : State) : Bool :=
  if s.host.silent then (s.tgt 9).wake && (s.tgt 9).ne else s.host.irqEn && (s.tgt 9).ne

/-! ## Status words of elements -/

/-- Table 07-5 PHASE. -/
def phaseCode : Phase → Nat
  | .off => 0
  | .rise => 1
  | .peakHold => 2
  | .transition => 3
  | .hold => 4
  | .turnOff => 5
  | .slotWait => 6
  | .proportional => 7

/-- Table 07-5 MODE. -/
def modeCode : UnitMode → Nat
  | .onoff => 0
  | .pwm => 1
  | .prop => 2
  | .pairedMember => 3

/-- A present reading that the command brings, else a free value (assumption 57). -/
def readingOf (s : State) (t : Tbl Nat) (kind n : Nat) : Nat := (tfind t n).getD (Config.reading kind n s.devtime).toNat

/-- R216: I_NOW, the sum of both members for a pair; one converter's full scale is 5,118 mA. -/
def unitMa (s : State) (sense : Sense) (u : Nat) : Nat :=
  let one (v : Nat) : Nat := min 5118 (readingOf s sense.unit 3 v)
  let o := if (s.unitCfg u).mode == .pairedMember && u % 2 == 1 then u - 1 else u
  if (s.unitCfg o).pairOwner && o % 2 == 0 then one o + one (o + 1) else one u

/-- Table 07-5: the unit status word. -/
def unitWord (s : State) (sense : Sense) (u : Nat) : Nat :=
  let d := (s.unit u).drive
  pack [(phaseCode d.phase, 0), (modeCode d.mode, 3), (bit d.fault, 5), (d.cause, 6), (bit d.noMotion, 10),
    (bit d.noRelease, 11), (bit d.boostRise, 12), (bit d.trimLimit, 13), (bit d.shotEnd.isSome, 14),
    (bit d.pairImbalance, 15), (unitMa s sense u, 16)]

/-- Table 09-10 STATE. -/
def swCode : SwState → Nat
  | .off => 0
  | .inrush => 1
  | .on => 2
  | .backoff => 3
  | .latchWait => 4
  | .exhausted => 5
  | .locked => 6

/-- Whether the channel's cluster is inside a disturbance window (R297). -/
def disturbed (s : State) (n : Nat) : Bool := (s.vent (swClusterOf n)).disturbEnd.isSome

/-- Table 09-10: the channel status word. -/
def swWord (s : State) (sense : Sense) (n : Nat) : Nat :=
  let x := s.sw n
  pack [(swCode x.state, 0), (bit x.limp, 3), (bit x.latch, 4), (bit x.openLoad, 5), (bit x.ventLocked, 6),
    (bit x.ventWait, 7), (bit x.creditWait, 8), (bit (disturbed s n), 9), (x.lockCause, 10), (x.retryLeft, 12),
    (capTo 65535 (readingOf s sense.switch 4 n), 16)]

/-- Table 14-13: the field output status word. -/
def foWord (s : State) (sense : Sense) (o : Nat) : Nat :=
  let x := s.fo o
  pack [(x.st, 0), (bit x.openLoad, 2), (bit x.latch, 3), (x.cause, 4), (bit x.away, 6),
    (capTo 65535 (readingOf s sense.output 5 o), 16)]

/-- Table 10-5: the field input status word. An input with WB that no class has been confirmed of shows OPEN. -/
def fiWord (s : State) (sense : Sense) (i : Nat) : Nat :=
  let x := s.fi i
  let wb := (s.fiCfg i).wb
  pack [(bit x.state, 0), (bit (sense.on.contains i), 1), (if wb then max 1 x.cls else 0, 2), (bit (wb && x.lowR), 4), (bit x.away, 5),
    (capTo 65535 (readingOf s sense.input 6 i), 16)]

/-- Table 08-4: the code of a loop mode. -/
def loopModeCode : LoopMode → Nat
  | .off => 0
  | .manual => 1
  | .auto => 2
  | .hold => 3

/-- 2^32: terms of a loop are held in 2^-32 of their unit (R263). -/
def q32 : Int := 4294967296

/-- Table 08-7: the loop status word. -/
def loopWord (s : State) (l : Nat) : Nat :=
  let x := s.loop l
  pack [(loopModeCode x.mode, 0), (bit x.fbInvalid, 2), (bit x.fbHolding, 3), (bit x.outFault, 4), (bit x.satHi, 5),
    (bit x.satLo, 6), (bit x.iClamped, 7), (bit (x.spR != x.sp * q32), 8), (bit x.plausFault, 9), (bit x.bumpSet, 10),
    (bit x.deviceHold, 11), (capTo 15 x.writes.length, 12)]

/-! ## The window (Table 13-2) -/

/-- A message's size in a ring (R383): 16 bytes of header and the payload padded to 4. -/
def msgSize (len : Nat) : Nat := 16 + (len + 3) / 4 * 4

/-- The first three words of a device message and its payload, over which its CRC runs (R385). -/
def DevMsg.body (m : DevMsg) : List Byte :=
  le 2 m.seq ++ le 2 m.ack ++ le 2 m.opcode ++ le 2 m.payload.length ++ le 3 m.tag ++ le 1 m.epoch

/-- Table 13-7: a device message as it stands in the ring, padding included. -/
def DevMsg.bytes (m : DevMsg) : List Byte :=
  m.body ++ le 4 (crc32c (m.body ++ m.payload)).toNat ++ m.payload
    ++ List.replicate ((m.payload.length + 3) / 4 * 4 - m.payload.length) 0

/-- Table 16-3: an event record as 16 bytes. -/
def EvtRecord.bytes (r : EvtRecord) : List Byte :=
  le 4 (pack [(r.source, 0), (r.level, 8), (bit r.levelType, 12), (bit r.late, 13), (bit r.overflowed, 14), (r.seq, 16)])
    ++ le 4 r.time ++ le 4 r.payload ++ le 4 (pack [(r.lostSnap, 0), (r.target, 16)])

/-- Table 13-6: word `off` of course `n`'s control block. -/
def courseWord (s : State) (n off : Nat) : Nat :=
  let c := s.course n
  match off with
  | 0 => c.reqWr
  | 4 => c.reqRd
  | 8 => c.rplWr
  | 12 => c.rplRd
  | 16 => c.lastAccepted
  | 20 => c.lastSent
  | 24 => s.host.epoch
  | 28 => c.hostAcked
  | 32 => c.badFrames
  | 36 => c.naks
  | 40 => c.duplicates
  | 44 => c.stale
  | 48 => c.notifDropped
  | 52 => c.pendingNotif.length
  | _ => 0

/-- Table 15-4: word `off` of gateway buffer `b` of controller `n`. -/
def gwWord (s : State) (n b off : Nat) : Nat :=
  let g := s.gw n b
  if off = 0 then
    pack [(bit g.enable, 0), (bit g.tx, 1), (bit g.lock, 2), (bit g.full, 3), (bit g.pending, 6), (bit g.transmitted, 8),
      (bit g.txFailed, 9), (bit g.cancelled, 10), (bit g.cancelLate, 11), (bit g.refused, 12)]
  else if off = 4 then pack [(g.frame.id, 0), (bit g.frame.ext, 29), (bit g.frame.fdf, 30), (bit g.frame.brs, 31)]
  else if off = 8 then g.filterId
  else if off = 12 then g.filterMask
  else if off = 16 then pack [(g.length, 0), (bit g.frame.esi, 7)]
  else if off = 20 then g.timeStamp % 4294967296
  else if off = 24 then g.timeStamp / 4294967296 % 256
  else if off = 28 then pack [(g.frames, 0), (g.lost, 16)]
  else if 64 ≤ off then leNat ((g.frame.data.drop (off - 64)).take 4)
  else 0

/-- What one window word returns to a read (R379, R380); write-only fields and unlisted addresses read 0. The reply rings
hold each unread message from the offset at which it was written. Maintenance mode serves ID to HEARTBEAT, the courses and their
rings (R360). -/
def windowWord (s : State) (a : Nat) : Nat :=
  if !s.power.supplies then 0
  else if a = 0 then 38464 * 65536 + 41758
  else if a = 4 then pack [(s.storage.siRev, 0), (4, 8), (if s.start.maint then 0 else s.storage.fwBuild, 16)]
  else if a = 8 then statusWord s
  else if s.start.configActive && !s.start.maint && s.cfg.host.link == .none then 0
  else if a = 12 then pack [(bit s.host.irqEn, 0), (s.host.badXfers, 24)]
  else if a = 16 then s.host.beat
  else if s.start.maint && !((256 ≤ a && a < 512) || (4096 ≤ a && a < 36864)) then 0
  else if a = 32 then pack [(s.events.hqWr, 0), ((s.tgt 9).queue.length, 16)]
  else if a = 36 then s.events.hqRd
  else if a = 40 then pack [((s.tgt 9).count, 0), ((s.tgt 9).timeUs, 16)]
  else if a = 44 then pack [((s.tgt 9).threshold, 0), ((s.tgt 9).running, 4), (bit (s.tgt 9).wake, 13)]
  else if 256 ≤ a && a < 512 then courseWord s ((a - 256) / 64) ((a - 256) % 64)
  else if 4096 ≤ a && a < 20480 then
    leNat (upFrom a 4 |>.map (Memory.read s.host.ringBytes))
  else if 20480 ≤ a && a < 36864 then
    let n := (a - 20480) / 4096
    let c := s.course n
    let bytes := c.ring.flatMap DevMsg.bytes
    let base := c.rplWr + 4096 - bytes.length % 4096
    leNat (((upFrom ((a - 20480) % 4096) 4).map fun o => nth bytes 0 ((o + 8192 - base) % 4096)))
  else if 36864 ≤ a && a < 40960 then
    let r := tget s.events.hostSlots {} ((a - 36864) / 16)
    leNat ((r.bytes.drop ((a - 36864) % 16)).take 4)
  else if 40960 ≤ a && a < 49152 then
    gwWord s ((a - 40960) / 2048) ((a - 40960) % 2048 / 128) ((a - 40960) % 128)
  else if a = 49152 then s.devtime % 4294967296
  else if a = 49156 then s.host.devtimeHi
  else if a = 49168 then s.host.snap % 4294967296
  else if a = 49172 then s.host.snap / 4294967296
  else if a = 49176 then s.host.snapNs
  else if a = 49180 then s.host.snapCount
  else 0

end Sys2Proof.Machine
end

