-- ==== Sys2Proof/Machine/LedgerOps.lean ====
section
/-! DEFINITION. The current ledger's operations (R31 to R37, R45, R523): pools, the walk up the levels, request, release,
and the move between RESERVED and DRAWING. Level elements are keyed by one number per element. -/

namespace Sys2Proof.Machine

/-! ## Element keys: units 0 to 127, then each other kind from its own base -/

def vclKey (c : Nat) : Nat := 128 + c
def swKey (n : Nat) : Nat := 160 + n
def sclKey (c : Nat) : Nat := 190 + c
def foKey (o : Nat) : Nat := 200 + o
def regKey (r : Nat) : Nat := 220 + r
def dieKey (d : Nat) : Nat := 230 + d
def pkgKey : Nat := 240
/-- The system level (R50): the lead's tokens. -/
def sysKey : Nat := 241

/-- The level code of an element key (Table 14-2). -/
def levelOfKey (k : Nat) : Nat :=
  if k < 128 then 0
  else if k < 144 then 1
  else if k < 184 then 0
  else if k < 196 then 1
  else if k < 216 then 0
  else if k < 227 then 2
  else if k < 235 then 3
  else if k = pkgKey then 4
  else 5

/-- Every level element of the package, by key. -/
def allKeys : List Nat :=
  upFrom 0 144 ++ upFrom 160 24 ++ upFrom 190 6 ++ upFrom 200 16 ++ upFrom 220 7 ++ upFrom 232 3 ++ [pkgKey]

/-- R26: unit `u` owns a pair: only an even unit does. -/
def ownsPair (s : State) (u : Nat) : Bool := (s.unitCfg u).pairOwner && u % 2 == 0

/-- POOL of an element (Table 01-5); a unit that owns a pair has 160, a switch channel its rating, the package its effective
pool (R50). -/
def poolOf (s : State) (k : Nat) : Nat :=
  if k < 128 then (if ownsPair s k then 160 else 80)
  else if k < 144 then 200
  else if k < 176 then 120
  else if k < 184 then 300
  else if k < 194 then 360
  else if k < 196 then 800
  else if k < 216 then 10
  else if k < 224 then 560
  else if k = 224 then 800
  else if k = 225 then 1000
  else if k = 226 then 160
  else if k < 234 then 960
  else if k = 234 then 1400
  else s.ledger.packagePool

/-- The counts of an element. -/
def ledgerEl (s : State) (k : Nat) : LedgerEl := tget s.ledger.els {} k

/-- Change the counts of an element. -/
def modEl (s : State) (k : Nat) (f : LedgerEl → LedgerEl) : State :=
  s.modLedger fun l => { l with els := tmod l.els {} k f }

/-- HELD of an element (R31); the package's counts what derating withholds (R45). -/
def heldOf (s : State) (k : Nat) : Nat :=
  (ledgerEl s k).drawing + (ledgerEl s k).reserved + (if k = pkgKey then s.ledger.withheld else 0)

/-- FREE of an element, signed (R31). -/
def freeOf (s : State) (k : Nat) : Int := poolOf s k + (ledgerEl s k).freeBelowPool

/-- One charge: an element key and a number of credits. -/
abbrev Charge := Nat × Nat

/-- The die and the levels above it: a die that acts alone debits its own counts only (R523). -/
def aboveDie (s : State) (d : Nat) : List Nat := if (s.die d).solo.isSome then [dieKey d] else [dieKey d, pkgKey]
/-- The chain above a valve cluster: its region, die and package (R24). -/
def aboveCluster (s : State) (c : Nat) : List Nat := regKey (regionOf c) :: aboveDie s (dieOfCluster c)
/-- The chain of a valve unit. -/
def chainUnit (s : State) (u : Nat) : List Nat := u :: vclKey (clusterOf u) :: aboveCluster s (clusterOf u)
/-- The chain of a cluster's peak slot (R35). -/
def chainSlot (s : State) (c : Nat) : List Nat := vclKey c :: aboveCluster s c
/-- The chain of a switch channel. -/
def chainSw (s : State) (n : Nat) : List Nat := swKey n :: sclKey (swClusterOf n) :: regKey (swRegionOf n) :: aboveDie s 4
/-- The chain of a field output: no cluster step (R25). -/
def chainFo (s : State) (o : Nat) : List Nat := foKey o :: regKey 6 :: aboveDie s 4

/-- The same credits along a chain. -/
def along (chain : List Nat) (n : Nat) : List Charge := chain.map fun k => (k, n)

/-- Credits asked of one key by a request that may name it twice. -/
def needOf (cs : List Charge) (k : Nat) : Nat := cs.foldl (fun m c => if c.1 = k then m + c.2 else m) 0

/-- The level that refuses a charge at one element, if any: a broken element refuses all below it (R49); tokens short of the
package's own pool are the system level (R50, Table 14-2). -/
def refusesAt (s : State) (k n : Nat) : Option Nat :=
  if s.ledger.broken.contains k then some (levelOfKey k)
  else if k = pkgKey && s.ledger.broken.contains sysKey then some (levelOfKey sysKey)
  else if (n : Int) ≤ freeOf s k then none
  else if k = pkgKey && s.cfg.package.member && decide ((n : Int) ≤ 2000 + (ledgerEl s k).freeBelowPool) then some 5
  else some (levelOfKey k)

/-- The lowest level that refuses a request (R32). -/
def refusal (s : State) (cs : List Charge) : Option Nat :=
  cs.foldl (fun r c => match refusesAt s c.1 (needOf cs c.1), r with
    | some l, some m => some (min l m)
    | some l, none => some l
    | none, r => r) none

/-- Debit one element. -/
def debit (reserved : Bool) (s : State) (c : Charge) : State :=
  modEl s c.1 fun e =>
    if reserved then { e with reserved := e.reserved + c.2, freeBelowPool := e.freeBelowPool - c.2 }
    else { e with drawing := e.drawing + c.2, freeBelowPool := e.freeBelowPool - c.2 }

/-- Credit one element back. At the package, credits still to be withheld are taken from the release first (R45). -/
def credit (reserved : Bool) (s : State) (c : Charge) : State :=
  let taken := if c.1 = pkgKey then min c.2 s.ledger.withholdDue else 0
  let s1 := modEl s c.1 fun e =>
    if reserved then { e with reserved := e.reserved - c.2, freeBelowPool := e.freeBelowPool + c.2 - taken }
    else { e with drawing := e.drawing - c.2, freeBelowPool := e.freeBelowPool + c.2 - taken }
  if taken = 0 then s1
  else s1.modLedger fun l => { l with withheld := l.withheld + taken, withholdDue := l.withholdDue - taken }

/-- R32: grant every charge or none, answering the lowest level that refused. -/
def ledgerRequest (reserved : Bool) (cs : List Charge) (s : State) : Except Nat State :=
  match refusal s cs with
  | some l => .error l
  | none => .ok (cs.foldl (debit reserved) s)

/-- R456: a refusal at the package or the system level makes a member ask for tokens. -/
def noteShort (level : Nat) (s : State) : State :=
  if level < 4 || !s.cfg.package.member then s else s.modZ fun z => { z with tokenShort := true }

/-- R33: a release is never refused. -/
def ledgerRelease (reserved : Bool) (cs : List Charge) (s : State) : State := cs.foldl (credit reserved) s

/-- R39: credits promised to an armed edge become current that may be drawn at once, or the reverse. -/
def ledgerMove (toDrawing : Bool) (cs : List Charge) (s : State) : State :=
  cs.foldl (fun s c => modEl s c.1 fun e =>
    if toDrawing then { e with drawing := e.drawing + c.2, reserved := e.reserved - c.2 }
    else { e with drawing := e.drawing - c.2, reserved := e.reserved + c.2 }) s

/-- R523: a die begins to act alone; the package keeps the die's charges as they stood. -/
def soloBegin (d : Nat) (s : State) : State :=
  if (s.die d).solo.isSome then s
  else
    let e := ledgerEl s (dieKey d)
    s.modDie d fun x => { x with solo := some (e.drawing, e.reserved) }

/-- R523: the die's counts are read, and the difference enters the package level as one operation that is never refused. Where the die
has given credits back, what is still to be withheld is taken from them first (R45). -/
def soloEnd (d : Nat) (s : State) : State :=
  match (s.die d).solo with
  | none => s
  | some (dr, rs) =>
    let e := ledgerEl s (dieKey d)
    let net : Int := ((dr : Int) - e.drawing) + ((rs : Int) - e.reserved)
    let taken := min net.toNat s.ledger.withholdDue
    let s1 := modEl s pkgKey fun p =>
      { p with drawing := p.drawing + e.drawing - dr, reserved := p.reserved + e.reserved - rs,
               freeBelowPool := p.freeBelowPool + net - taken }
    let s2 := s1.modLedger fun l => { l with withheld := l.withheld + taken, withholdDue := l.withholdDue - taken }
    s2.modDie d fun x => { x with solo := none }

/-! ## The package's pool (R2, R45, R50) -/

/-- R2: the package pool while the device is derated. -/
def deratedPool : Nat := 1400

/-- R50: the effective pool of a package before derating: 2000 credits, in a system at most 20 for each token it holds. -/
def poolOfTokens (member : Bool) (n : Nat) : Nat := if member then min 2000 (20 * n) else 2000

/-- R2, R45, R50: the package's effective pool and the derating, as one operation: what the pool has beyond 1400 credits is withheld
while derated, from FREE at once as far as it reaches and from later releases for the rest; what is no longer to be withheld returns
to FREE. -/
def setPool (pool : Nat) (derated : Bool) (s : State) : State :=
  let s1 := s.modLedger fun l => { l with packagePool := pool, derated := derated }
  let want := if derated then pool - deratedPool else 0
  let l := s1.ledger
  let more := want - (l.withheld + l.withholdDue)
  let now := min more (freeOf s1 pkgKey).toNat
  let fewer := l.withheld + l.withholdDue - want
  let undue := min fewer l.withholdDue
  let back := fewer - undue
  (modEl s1 pkgKey fun e => { e with freeBelowPool := e.freeBelowPool - now + back }).modLedger fun l =>
    { l with withheld := l.withheld + now - back, withholdDue := l.withholdDue + (more - now) - undue }

/-! ## What each element is charged (R34, Table 02-1) -/

/-- Base charge of a valve unit in the mode given. -/
def baseOf (s : State) (u : Nat) (m : UnitMode) : Nat :=
  match m with
  | .prop => ceilDiv ((s.unitCfg u).iMax.getD 0) 50
  | .pairedMember => 0
  | .onoff | .pwm => ceilDiv (s.profile u).iHold 50

/-- The surcharge of one unit's peak phase (R35). -/
def peakOf (s : State) (u : Nat) : Nat :=
  if (s.unitCfg u).profile.isSome then ceilDiv (s.profile u).iPeak 50 - ceilDiv (s.profile u).iHold 50 else 0

/-- R35: the size of a cluster's peak slot, the largest among its configured units and pairs. -/
def slotOf (s : State) (c : Nat) : Nat :=
  (unitsOfCluster c).foldl (fun m u =>
    if (s.unitCfg u).used && (s.unitCfg u).mode != .pairedMember then max m (peakOf s u) else m) 0

/-- Base charge of a switch channel. -/
def swBaseOf (s : State) (n : Nat) : Nat := ceilDiv (s.swCfg n).iLoad 50

/-- Table 09-2: INRUSH_MULT of a channel in halves; its default is that of the load kind. -/
def multHalfOf (c : SwitchCfg) : Nat := c.inrushHalf.getD (if c.load == .lamp then 10 else 3)
/-- Table 09-2: INRUSH_T of a channel, ms; its default is that of the load kind. -/
def inrushMsOf (c : SwitchCfg) : Nat := c.inrushMs.getD (if c.load == .lamp then 40 else 0)

/-- Inrush surcharge of a switch channel (Table 02-1). -/
def swSurchargeOf (s : State) (n : Nat) : Nat :=
  if inrushMsOf (s.swCfg n) = 0 then 0 else ceilDiv ((s.swCfg n).iInrush.getD (s.swCfg n).iLoad) 50 - swBaseOf s n

/-! ## Valve unit charges (R34 to R36, R39) -/

/-- Whether some unit of a cluster holds a base charge. -/
def clusterCharged (s : State) (c : Nat) : Bool := (unitsOfCluster c).any fun u => (s.unit u).drive.base != 0

/-- The charges of a first base charge: the unit's own and, if its cluster has no slot yet, the slot (R35, R40). -/
def firstCharge (s : State) (u base : Nat) : List Charge :=
  let c := clusterOf u
  along (chainUnit s u) base ++ (if (s.cluster c).slot = 0 && !clusterCharged s c then along (chainSlot s c) (slotOf s c) else [])

/-- Acquire a unit's base charge, with the peak slot if the cluster has none; the slot rests as RESERVED (R35). -/
def acquireBase (u base : Nat) (reserved : Bool) (s : State) : Except Nat State :=
  let c := clusterOf u
  let slot := if (s.cluster c).slot = 0 && !clusterCharged s c then slotOf s c else 0
  match refusal s (firstCharge s u base) with
  | some l => .error l
  | none =>
    let s1 := (along (chainUnit s u) base).foldl (debit reserved) s
    let s2 := (along (chainSlot s c) slot).foldl (debit true) s1
    let s3 := s2.modDrive u fun d => { d with base := base, baseReserved := reserved }
    .ok (if slot = 0 then s3 else s3.modCluster c fun x => { x with slot := slot })

/-- Give up a unit's base charge; the cluster returns its slot with its last base charge (R35, R33). -/
def releaseBase (u : Nat) (s : State) : State :=
  let c := clusterOf u
  let d := (s.unit u).drive
  if d.base = 0 then s
  else
    let s1 := ledgerRelease d.baseReserved (along (chainUnit s u) d.base) s
    let s2 := s1.modDrive u fun d => { d with base := 0, baseReserved := false }
    if clusterCharged s2 c then s2
    else (ledgerRelease true (along (chainSlot s c) (s2.cluster c).slot) s2).modCluster c fun x => { x with slot := 0 }

/-- R39: the base charge from RESERVED to DRAWING at an on-edge, or back at an off-edge with an on-fret armed. -/
def drawBase (u : Nat) (toDrawing : Bool) (s : State) : State :=
  let d := (s.unit u).drive
  if d.base = 0 || d.baseReserved != toDrawing then s
  else (ledgerMove toDrawing (along (chainUnit s u) d.base) s).modDrive u fun d => { d with baseReserved := !toDrawing }

/-- R36, Table 02-2: the unit takes the cluster's slot for its peak phase: the slot's credits draw, and the unit's own level
holds them beside its base charge. -/
def takeSlot (u : Nat) (s : State) : State :=
  let c := clusterOf u
  let s1 := ledgerMove true (along (chainSlot s c) (s.cluster c).slot) s
  (debit false s1 (u, (s.cluster c).slot)).modCluster c fun x => { x with holder := some u }

/-- R36: the end of the peak phase; the surcharge returns to the slot and not to the pool. -/
def freeSlot (u : Nat) (s : State) : State :=
  let c := clusterOf u
  if (s.cluster c).holder = some u then
    let s1 := ledgerMove false (along (chainSlot s c) (s.cluster c).slot) s
    (credit false s1 (u, (s.cluster c).slot)).modCluster c fun x => { x with holder := none }
  else s

/-! ## Switch and field output charges (R37, R44) -/

/-- A channel's base and surcharge, as one request (R37). -/
def acquireSw (n : Nat) (s : State) : Except Nat State :=
  let b := swBaseOf s n
  let x := swSurchargeOf s n
  (ledgerRequest false (along (chainSw s n) (b + x)) s).map fun s =>
    s.modSw n fun w => { w with base := b, surcharge := x }

/-- The surcharge returns at the end of the declared inrush window (R37). -/
def releaseSurcharge (n : Nat) (s : State) : State :=
  (ledgerRelease false (along (chainSw s n) (s.sw n).surcharge) s).modSw n fun w => { w with surcharge := 0 }

/-- A channel's charges return at a turn-off or a fault (Table 02-1). -/
def releaseSw (n : Nat) (s : State) : State :=
  (ledgerRelease false (along (chainSw s n) ((s.sw n).base + (s.sw n).surcharge)) s).modSw n
    fun w => { w with base := 0, surcharge := 0 }

/-- A field output's 10 credits (Table 02-1). -/
def acquireFo (o : Nat) (s : State) : Except Nat State :=
  (ledgerRequest false (along (chainFo s o) 10) s).map fun s => s.modFo o fun x => { x with base := 10 }

/-- A field output's credits return at a turn-off or a fault. -/
def releaseFo (o : Nat) (s : State) : State :=
  (ledgerRelease false (along (chainFo s o) (s.fo o).base) s).modFo o fun x => { x with base := 0 }

/-! ## The audit's skips -/

/-- R48: the running audit window of these elements holds a skip cause. -/
def skipDrift (ks : List Nat) (s : State) : State :=
  s.modLedger fun l => { l with windowSkips := l.windowSkips ++ ks.filter fun k => !l.windowSkips.contains k }

/-- The drift-compared elements above a valve unit, and above a switch channel. -/
def driftOfUnit (u : Nat) : List Nat := [vclKey (clusterOf u), regKey (regionOf (clusterOf u))]
def driftOfSw (n : Nat) : List Nat := [sclKey (swClusterOf n), regKey (swRegionOf n)]
/-- The drift-compared elements of a region: itself and its clusters. -/
def driftOfRegion (r : Nat) : List Nat :=
  regKey r :: (if r < 4 then (upFrom (4 * r) 4).map vclKey else if r = 4 then (upFrom 0 4).map sclKey
    else if r = 5 then (upFrom 4 2).map sclKey else [])
/-- The drift-compared elements above an output. -/
def driftOfLine : Line → List Nat
  | .unit u => driftOfUnit u
  | .switch n => driftOfSw n
  | .fi _ | .fo _ | .ai _ => [regKey 6]

end Sys2Proof.Machine
end

