-- ==== Sys2Proof/Machine/Ops.lean ====
section
/-! DEFINITION. The operations every family shares: time, events (R461 to R479), the error intake (R482, R483), device
messages (R383, R391), the taking of a request (R387, R411), and the end of a step. -/

namespace Sys2Proof.Machine

/-! ## Time -/

/-- The sum over ticks 0 to `k` − 1 of (middle of the tick − `te`), each held between 0 and 2 ms (R185), in µs. -/
def tickSum (te k : Int) : Int :=
  let z := max 0 ((te + 4) / 10)
  let w := max 0 ((te + 1995) / 10 + 1)
  let e := min k w
  let lin := if e ≤ z then 0 else 10 * ((e - 1) * e / 2 - (z - 1) * z / 2) + (5 - te) * (e - z)
  lin + (if w < k then 2000 * (k - w) else 0)

/-- R185: the odometer after the 10 µs ticks that end in the interval, in 10^-13 of 0.1 mm. -/
def odometerAfter (m : Motion) (te : Nat) (t0 t1 : Nat) : Int :=
  let k0 : Int := t0 / 10
  let k1 : Int := t1 / 10
  m.odoFx + (k1 - k0) * m.vUm * 1000000 + (tickSum te k1 - tickSum te k0) * m.aUm

/-- R185: the valve die's odometer accumulator, 0.1 mm with 32 fractional bits: the exact integral, so that nothing drifts. -/
def odoBits (m : Motion) : Int := m.odoFx * 4294967296 / 10000000000000

/-- A unit's odometer in 0.1 mm, rounded down. -/
def odometer (s : State) (u : Nat) : Int := odoBits (s.unit u).motion / 4294967296

/-- R293: the energy a switch cluster leaks between two instants, µJ: 1.5 W or 3.0 W (Table 09-1). -/
def leakBetween (c t0 t1 : Nat) : Nat := if c < 4 then 3 * t1 / 2 - 3 * t0 / 2 else 3 * t1 - 3 * t0

/-- R293: leaked energy goes from USED to FREE. -/
def VentSt.leak (v : VentSt) (e : Nat) : VentSt :=
  let x := min v.used e
  { v with used := v.used - x, freeBelowCap := v.freeBelowCap + x }

/-- What runs by itself until DEVTIME `t`: odometers (R185), vent leak (R293), the audit's time average of DRAWING (R47).
DEVTIME never decreases (R347). -/
def State.advance (s : State) (t : Nat) : State :=
  if t ≤ s.devtime then s
  else
    let te := s.nav.epoch.getD 0
    { s with
      devtime := t
      units := s.units.map fun p =>
        (p.1, if p.1 < 128 then
            { p.2 with motion := { p.2.motion with odoFx := odometerAfter p.2.motion te s.devtime t } } else p.2)
      vents := s.vents.map fun p => (p.1, p.2.leak (leakBetween p.1 s.devtime t))
      ledger := { s.ledger with
        drawingUs := s.ledger.els.filterMap fun p =>
          if p.2.drawing = 0 && tget s.ledger.drawingUs 0 p.1 = 0 then none
          else some (p.1, tget s.ledger.drawingUs 0 p.1 + p.2.drawing * (t - s.devtime)) } }

/-- UTC in ms as the RTC reads it (R349). -/
def rtcNow (s : State) : Nat := s.power.rtcMs + (s.devtime - s.power.rtcAt) / 1000

/-- The RTC's error bound in µs: it grows at the rate error in force (R348, R349). -/
def rtcBoundUs (s : State) : Nat :=
  let dt := s.devtime - s.power.rtcAt
  s.power.rtcErrUs + (if s.power.onRc then 3 * dt / 100 else if s.power.trim then dt * 5 / 1000000 else dt * 200 / 1000000)

/-! ## Events -/

/-- R463: PAYLOAD of a record: INSTANCE, CODE, SEVERITY. -/
def evtWord (inst code sev : Nat) : Nat := pack [(inst % 65536, 0), (code % 256, 16), (sev % 256, 24)]

/-- Table 16-2: whether a source is a level source. -/
def levelSource (n : Nat) : Bool :=
  (7 ≤ n && n ≤ 13) || (16 ≤ n && n ≤ 19) || n == 33 || n == 37 || n == 38 || n == 45 || (208 ≤ n && n ≤ 215)
    || (228 ≤ n && n ≤ 231) || n == 247

/-- Table 16-2: reserved sources. -/
def reservedSource (n : Nat) : Bool :=
  (25 ≤ n && n ≤ 31) || (47 ≤ n && n ≤ 63) || (75 ≤ n && n ≤ 95) || n == 191 || (220 ≤ n && n ≤ 223) || 250 ≤ n

/-- The power die that owns a source, if any (R479); of a VBAT group, the die that draws on it (R29). -/
def dieOfSource (n : Nat) : Option Nat :=
  if n == 7 || n == 8 then some 2
  else if n == 9 || n == 10 then some 3
  else if 11 ≤ n && n ≤ 13 then some 4
  else if 96 ≤ n && n < 128 then some 2
  else if 128 ≤ n && n < 160 then some 3
  else if (160 ≤ n && n < 191) || (192 ≤ n && n < 202) || (204 ≤ n && n < 217) then some 4
  else none

/-- R466: records a queue holds. -/
def queueSize (t : Nat) : Nat := if t = 9 then 256 else 128

/-- Write one record of source `n` into its target's queue, or drop it (R464 to R466). -/
def writeRecord (n payload : Nat) (late : Bool) (time : Nat) (s : State) : State :=
  let so := s.src n
  let tg := s.tgt so.target
  if queueSize so.target ≤ tg.queue.length then
    (s.modSrc n fun x => { x with lost := x.lost + 1 }).modTgt so.target fun x =>
      { x with dropped := x.dropped + 1, overflow := true, redo := if levelSource n then x.redo ++ [n] else x.redo }
  else
    let r : EvtRecord :=
      { source := n, level := so.priority, levelType := levelSource n, late := late, overflowed := tg.overflow,
        seq := so.delivered % 65536, time := time % 4294967296, payload := payload, lostSnap := so.lost % 65536,
        target := so.target, writtenAt := s.devtime }
    let s1 := s.modSrc n fun x => { x with delivered := x.delivered + 1, inService := true, payload := payload }
    let s2 := s1.modTgt so.target fun x => { x with queue := x.queue ++ [r], overflow := false }
    if so.target = 9 then
      s2.modEvents fun e => { e with hostSlots := tset e.hostSlots e.hqWr r, hqWr := (e.hqWr + 1) % 256 }
    else s2

/-- One assertion (R462, R472, R474): lost when the source is disabled or its record is in service. -/
def assertSource (n payload : Nat) (late : Bool) (time : Nat) (s : State) : State :=
  let so := s.src n
  if so.priority = 0 || so.inService then s.modSrc n fun x => { x with lost := x.lost + 1 }
  else writeRecord n payload late time s

/-- R479: while the controller is stopped a power die latches its events, up to 16; other assertions of it count as excess. A level
source whose record is in service does not assert (R473). SAFE_TABLE_CRC comes from the die that its INSTANCE names. -/
def latchEvent (d n code inst sev : Nat) (s : State) : State :=
  s.modDie (if n = 216 then inst else d) fun x =>
    if x.latched.length < 16 then { x with latched := x.latched ++ [(n, code, inst, sev, s.devtime)] }
    else if levelSource n && (s.src n).inService then x
    else { x with excess := tmod x.excess 0 n (· + 1) }

/-- An edge source's event, without a severity (R463). -/
def edgeAt (time n inst code sev : Nat) (late : Bool) (s : State) : State :=
  if s.events.stopped then
    match dieOfSource n with
    | some d => latchEvent d n code inst sev s
    | none => s.modSrc n fun x => { x with lost := x.lost + 1 }
  else assertSource n (evtWord inst code sev) late time s

/-- An edge source's event now. -/
def edge (n inst code : Nat) (s : State) : State := edgeAt s.devtime n inst code 0 false s

/-- A level source becomes active or inactive (R462, R473). -/
def setLevel (n payload : Nat) (on : Bool) (s : State) : State :=
  if !on then s.modSrc n fun x => { x with active := false }
  else if (s.src n).active then s
  else
    let s1 := s.modSrc n fun x => { x with active := true, payload := payload }
    if (s.src n).inService then s1 else assertSource n payload false s.devtime s1

/-- R468: the target claims its first `k` records; the first claim that frees room asserts dropped level sources again
(R466). -/
def claimRecords (t k : Nat) (s : State) : State :=
  let tg := s.tgt t
  let got := tg.queue.take k
  let top := got.foldl (fun m r => max m r.level) 0
  let s1 := s.modTgt t fun x =>
    { x with queue := x.queue.drop k, claimed := x.claimed ++ got, running := max x.running top,
             redo := if got.isEmpty then x.redo else [] }
  if got.isEmpty then s1
  else tg.redo.foldl (fun s n =>
    if (s.src n).active && !(s.src n).inService then assertSource n (s.src n).payload false s.devtime s else s) s1

/-- R469: acknowledge every claimed record above RESTORE, re-delivering active level sources. -/
def acknowledge (t restore : Nat) (s : State) : State :=
  let done := (s.tgt t).claimed.filter fun r => decide (restore < r.level)
  let s1 := s.modTgt t fun x =>
    { x with claimed := x.claimed.filter (fun r => decide (r.level ≤ restore)), running := min x.running restore }
  done.foldl (fun s r =>
    let s1 := s.modSrc r.source fun x => { x with inService := false }
    if levelSource r.source then
      if (s1.src r.source).active then assertSource r.source (s1.src r.source).payload false s1.devtime s1
      else s1.modSrc r.source fun x => { x with vanished := x.vanished + 1 }
    else s1) s1

/-- Records of a target that are eligible (R467). -/
def eligible (tg : EvtTarget) : List EvtRecord :=
  tg.queue.filter fun r => decide (tg.threshold < r.level) && decide (tg.running < r.level)

/-- R470: whether the signal's rising condition holds at DEVTIME `now`. -/
def signalDue (tg : EvtTarget) (now : Nat) : Bool :=
  let es := eligible tg
  !es.isEmpty && (decide (tg.count ≤ es.length) || es.any fun r => decide (r.writtenAt + tg.timeUs ≤ now))

/-- R470: the non-empty signal rises by COUNT or TIME and falls when no eligible record remains. -/
def signalOf (tg : EvtTarget) (now : Nat) : Bool :=
  !(eligible tg).isEmpty && (tg.ne || signalDue tg now)

/-! ## Faults -/

/-- R481: S0, the lowest source number of a source's row. -/
def s0Of (n : Nat) : Nat :=
  if 4 ≤ n && n ≤ 6 then 4
  else if 7 ≤ n && n ≤ 13 then 7
  else if 16 ≤ n && n ≤ 19 then 16
  else if n = 38 then 37
  else if 39 ≤ n && n ≤ 42 then 39
  else if 96 ≤ n && n < 160 then 96 + (n - 96) % 4
  else if 160 ≤ n && n < 184 then 160
  else if 184 ≤ n && n < 190 then 184
  else if 192 ≤ n && n < 200 then 192
  else if n = 201 then 200
  else if 208 ≤ n && n < 216 then 208
  else if 224 ≤ n && n < 228 then 224
  else if 228 ≤ n && n < 232 then 228
  else if 232 ≤ n && n < 236 then 232
  else if 240 ≤ n && n < 245 then 240
  else n

/-- R481: the class of a fault. -/
def classOf (n code : Nat) : Nat := 16 * s0Of n + code

/-- R482, R483: one entry into the intake of 64, or into the overflow counters. -/
def intakePut (e : IntakeEntry) (s : State) : State :=
  s.modFaults fun f =>
    if f.intake.length < 64 then { f with intake := f.intake ++ [e] }
    else { f with ovf := tmod f.ovf 0 (256 * e.cls + e.source) (· + 1), ovfTotal := f.ovfTotal + 1 }

/-- A fault: its edge event and its intake entry with the owning rule's context word. -/
def fault (n inst code sev : Nat) (ctx : Nat) (s : State) : State :=
  let s1 := edgeAt s.devtime n inst code sev false s
  if s.events.stopped && (dieOfSource n).isSome then s1
  else intakePut { cls := classOf n code, inst := inst, severity := sev, source := n, time := s.devtime, context := ctx } s1

/-- A fault on a level source, which stays active while the condition lasts. -/
def faultLevel (n inst code sev : Nat) (s : State) : State :=
  let s1 := if s.events.stopped && (dieOfSource n).isSome then
      latchEvent ((dieOfSource n).getD 4) n code inst sev (s.modSrc n fun x => { x with active := true, payload := evtWord inst code sev })
    else setLevel n (evtWord inst code sev) true s
  if s.events.stopped && (dieOfSource n).isSome then s1
  else intakePut { cls := classOf n code, inst := inst, severity := sev, source := n, time := s.devtime } s1

/-- A severity-4 fault with the values its rule names for the Caldera entry (R501, CONTEXT); those of a fault that the intake cannot take are
lost (R483). -/
def faultCritical (n inst code : Nat) (vals : List Int) (s : State) : State :=
  let s1 := s.modFaults fun f =>
    if f.intake.length < 64 then { f with contexts := (classOf n code, inst, vals) :: f.contexts } else f
  fault n inst code 4 ((vals.headD 0).natAbs % 4294967296) s1

/-- R487: an open fault closes and joins the list of the last 32; source 246 asserts with the class. -/
def closeFault (cls inst : Nat) (s : State) : State :=
  match s.faults.opened.find? fun f => f.cls == cls && f.inst == inst with
  | none => s
  | some f =>
    let s1 := s.modFaults fun x =>
      { x with opened := x.opened.filter (fun g => !(g.cls == cls && g.inst == inst)), closed := (f :: x.closed).take 32 }
    edge 246 cls 0 s1

/-- Table 17-4: of an element or a condition fault, its kind (0 element, 1 condition) and whether the element's status still
shows it; none for a one-shot. -/
def faultShows (s : State) (cls inst : Nat) : Option (Nat × Bool) :=
  let code := cls % 16
  let u := inst % 128
  let swBad := match (s.sw inst).state with
    | .backoff | .latchWait | .exhausted | .locked => true
    | .off | .inrush | .on => false
  match cls / 16 with
  | 7 => some (1, !tget s.power.groups false inst)
  | 15 => if code = 5 then
        some (1, s.start.badUnits.contains inst || s.start.badSwitches.contains inst || s.start.badOutputs.contains inst
          || s.start.badInputs.contains inst || s.start.badAnalogs.contains inst)
      else if code = 6 then some (1, s.start.badSwitches.contains inst)
      else if code = 7 then some (1, s.start.rfBad.contains inst)
      else if code = 8 then some (1, !s.start.fuseOk)
      else none
  | 20 => some (1, s.host.silent)
  | 33 => some (1, s.nav.uncertain)
  | 37 => some (1, s.nav.antLost.1 || s.nav.antLost.2)
  | 39 => some (1, s.nav.jamBand.any fun p => (if code = 0 then p.2.warn else p.2.jammed) == some inst)
  | 44 => if code = 1 then some (1, s.nav.baseMark) else none
  | 73 => if code = 0 then some (1, (s.unit u).learn.opening.any (fun p => p.2.range)
        || (s.unit u).learn.closing.any fun p => p.2.range) else none
  | 74 => some (1, s.nav.odoStale)
  | 96 => some (0, (s.unit u).drive.fault)
  | 97 => if code = 3 then some (1, (s.unit u).drive.noMotion)
      else if code = 4 then some (1, (s.unit u).drive.noRelease)
      else none
  | 98 => if code = 1 then some (1, (s.unit u).drive.trimLimit) else none
  | 99 => if code = 5 then some (1, (s.boostOf (if inst = 0 then 2 else 3)).fault) else some (0, (s.cluster inst).fault)
  | 160 => if code = 3 then some (1, (s.sw inst).openLoad) else some (0, swBad)
  | 184 => if code = 0 then some (1, (s.sw inst).ventLocked) else none
  | 192 => some (1, s.odo.channels.any fun p => p.2.noisy)
  | 200 => some (1, s.odo.sent.any fun p => p.2.lost)
  | 205 => some (1, (s.fi inst).cls == 3)
  | 206 => if code = 0 then some (1, (s.ai inst).burdenOpen) else some (1, !(s.ai inst).valid)
  | 207 => if code = 2 then some (1, (s.fo inst).openLoad) else some (0, (s.fo inst).st == 2)
  | 208 => if code = 0 then some (1, s.groups.any fun p => p.2 == .away) else none
  | 217 => if code = 0 then some (1, (s.loop inst).fbInvalid) else some (1, (s.loop inst).outFault)
  | 218 => some (1, (s.loop inst).plausFault)
  | 219 => if code = 1 then some (1, s.pressureBad.contains inst) else none
  | _ => none

/-- R487: every open element or condition fault whose element no longer shows it closes. -/
def closeCleared (s : State) : State :=
  s.faults.opened.foldl (fun s f =>
    match faultShows s f.cls f.inst with
    | some (_, false) => closeFault f.cls f.inst s
    | _ => s) s

/-! ## Device messages -/

/-- Bytes unread in a reply ring (R383). -/
def Course.used (c : Course) : Nat := (c.rplWr + 4096 - c.rplRd) % 4096

/-- Whether a course's reply ring has room for a message of `len` payload bytes and `keep` bytes more (R383; over ISOBUS a
queue of 4 messages, R407). -/
def hasRoom (s : State) (n len keep : Nat) : Bool :=
  match s.isobusLink with
  | some _ => (s.course n).ring.length < 4
  | none => msgSize len + keep + 4 ≤ 4096 - (s.course n).used

/-- Write one device message into a course's ring under the next device number (R391), and keep it (R392). -/
def putMsg (n op tag : Nat) (payload : List Byte) (s : State) : State :=
  let spi := s.isobusLink.isNone
  s.modCourse n fun c =>
    let m : DevMsg :=
      { seq := c.nextDev, ack := c.lastAccepted, opcode := op, tag := tag, epoch := s.host.epoch, payload := payload }
    { c with ring := c.ring ++ [m], nextDev := (c.nextDev + 1) % 65536, lastSent := c.nextDev,
             kept := (m :: c.kept).take 64,
             rplWr := if spi then (c.rplWr + msgSize payload.length) % 4096 else c.rplWr }

/-- R391: a notification that finds no room waits among at most 64; on course 1 it replaces a pending one of its opcode. -/
def addPending (n op : Nat) (payload : List Byte) (s : State) : State :=
  let ps := (s.course n).pendingNotif
  if n = 1 && ps.any (fun p => p.1 == op) then
    s.modCourse n fun c => { c with pendingNotif := ps.map fun p => if p.1 = op then (op, payload) else p }
  else if 64 ≤ ps.length then
    edge 23 n 0 (s.modCourse n fun c =>
      { c with pendingNotif := ps.drop 1 ++ [(op, payload)], notifDropped := (c.notifDropped + 1) % 4294967296 })
  else s.modCourse n fun c => { c with pendingNotif := ps ++ [(op, payload)] }

/-- Bytes a course keeps free for the reply of a long request in progress (assumption 11). -/
def keptFree (s : State) (n : Nat) : Nat := if (s.course n).long.isSome then 1040 else 0

/-- Send a notification on a course (R391). A follower without a host link sends none (R450), and none is sent before the
host can receive (R345). -/
def notify (n op : Nat) (payload : List Byte) (s : State) : State :=
  if s.start.configActive && s.cfg.host.link == .none && s.follower then s
  else if (s.course n).pendingNotif.isEmpty && hasRoom s n payload.length (keptFree s n) then putMsg n op 0 payload s
  else addPending n op payload s

/-- Table 15-7: the PRIO of a frame type. -/
def zPrio (type : Nat) : Nat :=
  if type = 1 || type = 3 then 0 else if type = 2 || type = 4 || type = 14 then 1 else if 5 ≤ type && type ≤ 7 then 2 else 3

/-- Table 15-6: the identifier of a system frame; destination 4 is every member. -/
def zIdent (type src dst : Nat) : Nat :=
  pack [(zPrio type, 26), (10, 22), (type, 16), (src, 14), (dst % 4, 12), (bit (dst == 4), 11)]

/-- Table 15-7: a body's bytes from its numbers. -/
def zBody (type : Nat) (body : List Int) : List Byte :=
  match type, body with
  | 1, [q] => le 2 q ++ le 2 0
  | 2, [q, ns, us] => le 2 q ++ le 2 ns ++ le 8 us
  | 3, [epoch, v, a, w, b, fl] => le 8 epoch ++ le 4 v ++ le 4 a ++ le 4 w ++ le 4 b ++ le 2 fl ++ le 2 0
  | 4, [epoch, dist, theta] => le 8 epoch ++ le 8 dist ++ le 8 theta
  | 5, [0, pos, action, flags, tag, discard, u] =>
    le 1 0 ++ le 1 1 ++ le 2 0 ++ le 8 pos ++ le 1 action ++ le 1 flags ++ le 2 tag ++ le 2 discard ++ le 2 u
  | 5, [1, u, tag] => le 1 1 ++ le 1 1 ++ le 2 0 ++ le 8 0 ++ le 1 0 ++ le 1 0 ++ le 2 tag ++ le 2 0 ++ le 2 u
  | 5, [2, u, action] => le 1 2 ++ le 1 1 ++ le 2 0 ++ le 8 0 ++ le 1 action ++ le 1 0 ++ le 2 0 ++ le 2 0 ++ le 2 u
  | 6, [tag, u, outcome, lateness] => le 1 1 ++ le 3 0 ++ le 2 tag ++ le 2 u ++ le 1 outcome ++ le 3 0 ++ le 4 lateness
  | 7, [u, kind, at_] => le 1 1 ++ le 3 0 ++ le 2 u ++ le 1 kind ++ le 1 0 ++ le 8 at_
  | 8, [n] => le 2 n ++ le 2 0
  | 9, [q, n] => le 2 q ++ le 2 n
  | 10, [q, n] => le 2 q ++ le 2 n
  | 11, [q, kind] => le 2 q ++ le 1 kind ++ le 1 0
  | 12, [system, cfg, boots] => le 4 system ++ le 4 cfg ++ le 4 boots
  | 13, [system, result] => le 4 system ++ le 1 result ++ le 3 0
  | 14, [flags] => le 4 flags
  | _, rseq :: seg :: nseg :: bs => le 2 rseq ++ le 1 seg ++ le 1 nseg ++ bs.flatMap (le 1)
  | _, _ => []

/-- R447, R448: the CAN frame of a system frame: SEQ, SYS_EPOCH, a reserved byte and the body. -/
def zFrame (s : State) (type dst : Nat) (body : List Int) : CanFrame :=
  { id := zIdent type s.cfg.package.pkgIndex dst, ext := true, fdf := true, brs := true,
    data := le 2 ((s.zither.seqOut : Nat) : Int) ++ le 1 ((s.zither.joined.getD 0 : Nat) : Int) ++ le 1 0 ++ zBody type body }

/-- R446 to R448: send one Zither system frame on every bus declared for system frames: its TYPE, the package it goes to (4 for all), the
numbers of its body. -/
def sendZ (type dst : Nat) (body : List Int) (s : State) : State :=
  let f := zFrame s type dst body
  (([2, 3].filter fun n => (s.canCfg n).zitherSystem).foldl (fun s n => s.modCan n fun c => { c with sent := c.sent ++ [f] }) s).modZ
    fun z => { z with seqOut := (z.seqOut + 1) % 65536, sent := (type, dst, body) :: z.sent }

/-! ## Results and replies (Tables 13-8, 13-9) -/

/-- What a request answers: RESULT, DETAIL and the payload after the result word. -/
structure Reply where
  result : Nat := 0
  detail : Nat := 0
  data : List Byte := []
deriving DecidableEq, Repr

/-- Table 13-9, by name. -/
def resOk : Nat := 0
def resBusy : Nat := 1
def resBadLength : Nat := 2
def resBadCrc : Nat := 3
def resUnknown : Nat := 4
def resBadState : Nat := 5
def resRange : Nat := 6
def resNoCredit : Nat := 7
def resLocked : Nat := 8
def resNotReady : Nat := 9
def resDuplicate : Nat := 10
def resStale : Nat := 11
def resStorage : Nat := 12
def resMismatch : Nat := 13
def resDenied : Nat := 14

/-- A refusal: the result word only (R409). -/
def refuse (r : Nat) (detail : Nat := 0) : Option Reply := some { result := r, detail := detail }

/-- Table 13-8: the payload of a reply. -/
def Reply.payload (r : Reply) (replayed : Bool) : List Byte :=
  le 4 (pack [(r.result, 0), (bit replayed, 8), (r.detail % 65536, 16)]) ++ r.data

/-- Write a reply to a request into its course's ring, and keep it in the replay cache (R386, R388). -/
def sendReply (h : Hdr) (op : Nat) (r : Reply) (cache : Bool) (s : State) : State :=
  let s1 := putMsg h.course op h.tag (r.payload false) s
  if cache then
    s1.modCourse h.course fun c =>
      { c with cache := ((h.seq, { opcode := op, tag := h.tag, payload := r.payload false : DevMsg }) :: c.cache).take 64 }
  else s1

/-- R389: N_NAK naming the first missing number, at most once per 10 ms for one number. -/
def sendNak (n reason : Nat) (s : State) : State :=
  let c := s.course n
  let recent := match c.nakAt with
    | some (q, t) => q == c.expected && s.devtime < t + 10000
    | none => false
  if recent then s
  else
    let s1 := s.modCourse n fun c => { c with nakAt := some (c.expected, s.devtime), naks := (c.naks + 1) % 4294967296 }
    edge 22 n 0 (notify n 33025 (le 1 n ++ le 1 reason ++ le 2 0 ++ le 2 c.expected ++ le 2 0) s1)

/-- R388: the original reply again, with REPLAYED set and a new header; one no longer cached answers DUPLICATE. -/
def replayReply (h : Hdr) (op : Nat) (s : State) : State :=
  match (s.course h.course).cache.find? fun p => p.1 == h.seq with
  | some p =>
    let word := leNat (p.2.payload.take 4)
    let word := if bitAt word 8 then word else word + 256
    putMsg h.course p.2.opcode p.2.tag (le 4 word ++ p.2.payload.drop 4) s
  | none => sendReply h op { result := resDuplicate } false s

/-! ## Taking a request -/

/-- One request row of Tables 14-3 to 14-15: its opcode, whether level 4 has it, permitted courses as a mask, lengths, whether it
changes state, its own checks (steps 6 to 10 of Table 14-1) and its effect. No reply means that it is long and replies when done. `after` is
what follows the reply. -/
structure Req where
  op : Nat
  known : Bool := true
  courses : Nat := 15
  lenOk : Nat → Bool
  changes : Bool := true
  judge : State → Option Reply := fun _ => none
  effect : State → State × Option Reply
  after : State → State := fun s => s

/-- Whether a core is out of service (R20, R21). -/
def coreOut (s : State) (n : Nat) : Bool := s.start.coresOut.any fun x => x.1 == n

/-- Whether a core is in a checkpoint restart (R20, R22). -/
def restarting (s : State) (n : Nat) : Bool := s.start.coresOut.any fun x => x.1 == n && !x.2.1

/-- R22: work of a core that is out of service, or that follows such work, waits for the core in order; the rest is done. -/
def byCore (k : Nat) (self : Instr) (f : State → State) (s : State) : State :=
  if s.start.coreTaking then f s
  else if coreOut s k || s.start.coreQueue.any (fun x => x.1 == k) then
    s.modStart fun x => { x with coreQueue := x.coreQueue ++ [(k, self)] }
  else f s

/-- The first check that fails gives the result (R411). -/
def firstFail (cs : List (Bool × Nat)) : Option Reply :=
  match cs.find? fun c => c.1 with
  | some c => refuse c.2
  | none => none

/-- The group of an opcode (R408). -/
def groupOf (op : Nat) : Nat := op / 256 % 128

/-- R371: groups that need an active configuration. -/
def needsConfig (g : Nat) : Bool := 3 ≤ g && g ≤ 7

/-- R412: a long request of this group is running on some course. A forwarded request (R458) is not one. -/
def groupBusy (s : State) (g : Nat) : Bool :=
  g != 5 && [0, 1, 2, 3].any fun n => match (s.course n).long with
    | some l => groupOf l.2 == g
    | none => false

/-- R450: groups that a follower with a host link refuses. -/
def followerRefuses (s : State) (g : Nat) : Bool := s.follower && (g == 3 || g == 4 || g == 5)

/-- Table 14-1: the first step that fails, for a request that has been accepted. -/
def Req.fails (r : Req) (h : Hdr) (s : State) : Option Reply :=
  let g := groupOf r.op
  if s.start.maint && decide (h.course < 3) then refuse resNotReady
  else if s.start.maint && g != 1 && g != 11 then refuse resBadState
  else if !r.known then refuse resUnknown
  else if !bitAt r.courses h.course then refuse resBadState r.courses
  else if !r.lenOk h.len then refuse resBadLength
  else if needsConfig g && !s.start.configActive then refuse resNotReady
  else if h.resv != 0 then refuse resRange
  else if followerRefuses s g then refuse resBadState
  else match r.judge s with
    | some x => some x
    | none => if r.changes && groupBusy s g then refuse resBusy else none

/-- Carry out an accepted request: a refusal has no effect. -/
def Req.run (r : Req) (h : Hdr) (s : State) : State :=
  match r.fails h s with
  | some x => sendReply h r.op x true s
  | none =>
    match r.effect s with
    | (s1, some x) => r.after (sendReply h r.op x true s1)
    | (s1, none) => s1.modCourse h.course fun c => { c with long := some (h, r.op) }

/-- R387 check 1: discard to REQ_WR, count BAD_FRAMES, send N_NAK. -/
def corrupt (n : Nat) (s : State) : State :=
  sendNak n 2 (s.modCourse n fun c =>
    { c with reqRd := c.reqWr, reqEnd := c.reqWr, held := [], stallAt := none, badFrames := (c.badFrames + 1) % 4294967296 })

/-- Table 13-10: how far ahead of the next expected number a request is. -/
def seqAhead (e q : Nat) : Nat := (q + 65536 - e % 65536) % 65536

/-- R387: the request at REQ_RD through checks 1 to 5. -/
def take (r : Req) (h : Hdr) (s : State) : State :=
  if 1024 < h.len || !h.crcOk then corrupt h.course s
  else
    let s0 := s.modCourse h.course fun c =>
      { c with reqRd := if s.isobusLink.isNone then (c.reqRd + msgSize h.len) % 4096 else c.reqRd, hostAcked := h.ack }
    if r.op = 258 && h.course = 0 && h.seq = 0 then r.run h s0
    else if h.epoch != s.host.epoch then
      edge 22 h.course 1 (sendReply h r.op { result := resStale } false
        (s0.modCourse h.course fun c => { c with stale := (c.stale + 1) % 4294967296 }))
    else
      let a := seqAhead (s.course h.course).expected h.seq
      if a = 0 then
        r.run h (s0.modCourse h.course fun c => { c with expected := (h.seq + 1) % 65536, lastAccepted := h.seq })
      else if a ≤ 1023 then sendNak h.course 0 s0
      else if a ≤ 64511 then sendNak h.course 1 s0
      else
        let s1 := s0.modCourse h.course fun c => { c with duplicates := (c.duplicates + 1) % 4294967296 }
        if a ≤ 65471 then sendReply h r.op { result := resDuplicate } false s1 else replayReply h r.op s1

/-- Whether the device takes the next request of a course now: past READY or in maintenance mode (R353), no activation
running (R373), the Keeper in service (R22), every link retrained since the last wake (R19), no long request on the course (R390),
1,040 bytes free in the reply ring (R384), D0 awake, and Seq2 in service where the request at REQ_RD waits for it (R22). -/
def canTake (s : State) (n : Nat) : Bool :=
  awake s && (s.start.ready || s.start.maint) && s.start.activating.isNone && s.start.keeperOut.isNone
    && !coreOut s 0 && !([2, 3, 4].any fun d => (s.die d).retrain.isSome)
    && (s.course n).long.isNone && hasRoom s n 1024 0 && !((s.course n).paused && restarting s 8)

/-- R22: new switch and output commands pause while Seq2 restarts from its checkpoint. -/
def waitsSeq2 (r : Req) (s : State) : Bool := groupOf r.op == 7 && r.changes && restarting s 8

/-- The length of a request as its header gives it, as far as a ring can hold it. -/
def reqSize (h : Hdr) : Nat := msgSize (min h.len 1024)

/-- R450: HOST_LINK is NONE: the window serves ID, REVISION and STATUS only. -/
def courseless (s : State) : Bool := s.start.configActive && !s.start.maint && s.cfg.host.link == .none

/-- The device takes a request that stands whole in its ring now, or holds it (R353, R373, R384, R390). -/
def takeOrHold (r : Req) (self : Instr) (h : Hdr) (s : State) : State :=
  if (s.course h.course).held.isEmpty && canTake s h.course then
    if waitsSeq2 r s then s.modCourse h.course fun c => { c with held := [self], paused := true } else take r h s
  else s.modCourse h.course fun c => { c with held := c.held ++ [self] }

/-- A request arrives: the host writes it and advances REQ_WR; the device takes it now or holds it in its ring. Behind a cut-off
message it is part of that one (R384). -/
def arrive (r : Req) (self : Instr) (h : Hdr) (s : State) : State :=
  let c := s.course h.course
  if courseless s then s
  else if c.taking then
    if waitsSeq2 r s then s.modCourse h.course fun c => { c with taking := false, held := self :: c.held, paused := true }
    else take r h (s.modCourse h.course fun c => { c with taking := false, paused := false })
  else if s.isobusLink.isSome then takeOrHold r self h s
  else
    let wr := (c.reqWr + reqSize h) % 4096
    if c.stallAt.isSome then s.modCourse h.course fun c => { c with reqWr := wr }
    else takeOrHold r self h (s.modCourse h.course fun c => { c with reqWr := wr, reqEnd := wr })

/-! ## The end of a step -/

/-- Reply rings drive their level sources (R400). -/
def ringLevels (s : State) : State :=
  if s.events.stopped then s
  else [0, 1, 2, 3].foldl (fun s n =>
    let on := match s.isobusLink with
      | some _ => false
      | none => decide ((s.course n).used ≠ 0)
    if on == (s.src (16 + n)).active then s else setLevel (16 + n) 0 on s) s

/-- R460: source 228 + n is active while a gateway receive buffer of controller n has FULL set. -/
def gatewayLevels (s : State) : State :=
  if s.events.stopped then s
  else [0, 1, 2, 3].foldl (fun s n =>
    let on := (s.canOf n).buffers.any fun b => b.2.enable && !b.2.tx && b.2.full
    if on == (s.src (228 + n)).active then s else setLevel (228 + n) n on s) s

/-- Every target's signal at the present DEVTIME. -/
def signals (s : State) : State :=
  if s.events.stopped then s
  else s.modEvents fun e => { e with targets := e.targets.map fun p => (p.1, { p.2 with ne := signalOf p.2 s.devtime }) }

/-- An ISO 11783 identifier: priority 6, PGN, destination (or the low byte of a broadcast PGN) and source address (assumption 23). -/
def isoId (pgn dst src : Nat) : Nat :=
  6 * 67108864 + (pgn / 256 % 1024) * 65536 + (if pgn / 256 % 256 < 240 then dst % 256 else pgn % 256) * 256 + src % 256

/-- R442: a controller may send other traffic: it holds an address, claimed 250 ms ago. -/
def isoMaySend (s : State) (n : Nat) : Bool :=
  (s.canOf n).addr.isSome && match (s.canOf n).claiming with
    | some (_, t) => decide (t + 250000 ≤ s.devtime)
    | none => false

/-- R406: a host-link message goes to the bus, from the claimed address to the host's. -/
def sendIsobus (c kind course : Nat) (bs : List Byte) (s : State) : State :=
  match (s.canOf c).addr, (s.canOf c).hostAddr with
  | some a, some d =>
    s.modCan c fun x =>
      { x with sent := x.sent ++ [{ id := isoId 61184 d a, ext := true, data := le 1 (16 * kind + course : Nat) ++ le 3 0 ++ bs }] }
  | _, _ => s

/-- R407: over ISOBUS, KIND 4 carries the host queue's records when the signal is raised, and claims them without raising
RUNNING. -/
def isobusRecords (s : State) : State :=
  match s.isobusLink with
  | none => s
  | some c =>
    if (s.tgt 9).ne && isoMaySend s c && (s.canOf c).hostAddr.isSome then
      let rs := (s.tgt 9).queue.take 16
      let run := (s.tgt 9).running
      let s1 := (claimRecords 9 rs.length s).modTgt 9 fun t => { t with running := run }
      let s2 := s1.modEvents fun e => { e with hqRd := (e.hqRd + rs.length) % 256 }
      signals (sendIsobus c 4 0 (rs.flatMap EvtRecord.bytes) s2)
    else s

/-- Table 15-7: FLAGS of the lead's CONTROL: OUTPUTS_ENABLED, HOST_SILENT, and FORCE_SAFE while the SAFE policy stands. -/
def controlNow (s : State) : Nat := pack [(bit s.host.outputsEnabled, 0), (bit s.host.silent, 1), (bit s.host.safeLeft, 2)]

/-- R450: the lead sends CONTROL. -/
def sendControl (s : State) : State :=
  sendZ 14 4 [((controlNow s : Nat) : Int)] (s.modZ fun z => { z with controlAt := some s.devtime, controlFlags := controlNow s })

/-- R450: CONTROL goes out at every change, once the lead has sent one. -/
def controlChange (s : State) : State :=
  if s.lead && s.start.configActive && awake s && s.zither.controlAt.isSome && controlNow s != s.zither.controlFlags then sendControl s else s

/-- R456: since when a follower's package FREE stands above RET_HIGH. -/
def tokenWatch (s : State) : State :=
  let high := if s.follower && decide ((s.cfg.package.retHigh : Int) < freeOf s pkgKey) then some (s.zither.highSince.getD s.devtime) else none
  if high == s.zither.highSince then s else s.modZ fun z => { z with highSince := high }

/-- The end of a step that began in `s0`: faults that show no more close, levels and the non-empty signals follow (R400, R460, R470),
and SEQ of STATUS counts a change of the bits it watches since `s0` (Table 13-3). A step in which READY falls resets the host interface, SEQ with it. -/
def settle (s0 s : State) : State :=
  let s1 := isobusRecords (signals (gatewayLevels (ringLevels (closeCleared (tokenWatch (controlChange s))))))
  if statusBits s1 = statusBits s0 || (s0.start.ready && !s1.start.ready) then s1
  else s1.modHost fun x => { x with statusSeq := (x.statusSeq + 1) % 256 }

/-- A step at DEVTIME `t`: what runs by itself until then, the command's effect, the end of the step. -/
def at_ (t : Nat) (f : State → State) (s : State) : Out := .next (settle s (f (s.advance t)))

/-- A step that resets D0: SEQ of STATUS starts from its reset value. -/
def atReset (t : Nat) (f : State → State) (s : State) : Out :=
  let s1 := f (s.advance t)
  .next (settle s1 s1)

/-- A host request. -/
def request (r : Req) (self : Instr) (h : Hdr) (s : State) : Out :=
  if h.course < 4 then at_ h.t (arrive r self h) s else .refused (.noSuchElement "course" h.course)

/-- An event about one element of a kind with `n` elements. -/
def about (kind : String) (k n t : Nat) (f : State → State) (s : State) : Out :=
  if k < n then at_ t f s else .refused (.noSuchElement kind k)

end Sys2Proof.Machine
end

