-- ==== Sys2Proof/Machine/RecOps.lean ====
section
/-! DEFINITION. Accumulation into the recorder (R490 to R496): every quantity goes into every open record at once, or into
the shadows while the recorder is frozen. -/

namespace Sys2Proof.Machine

/-- Accumulate into every open record, or into the shadows while frozen (R490, R495). -/
def accumulate (f : RecRecord → RecRecord) (s : State) : State :=
  s.modRec fun r =>
    if r.frozenAt.isSome then
      { r with shHourly := r.shHourly.map f, shSession := r.shSession.map f, shLifetime := r.shLifetime.map f }
    else { r with hourly := r.hourly.map f, session := r.session.map f, lifetime := f r.lifetime }

/-- R491: add to one counter of TOTALS. Times are held in µs, distance in µm, product in nL;
`RecRecord.bytes` converts. -/
def addTotal (i n : Nat) (s : State) : State :=
  if n = 0 then s else accumulate (fun r => { r with totals := tmod r.totals 0 i (· + n) }) s

/-- Positions in TOTALS, in the order of R491. -/
def totRun : Nat := 0
def totDoze : Nat := 1
def totNap : Nat := 2
def totPark : Nat := 3
def totDist : Nat := 4
def totProduct : Nat := 5
def totArea : Nat := 7
def totStrokes : Nat := 9
def totSwOns : Nat := 10
def totStarts : Nat := 11
def totUnjournalled : Nat := 18
def totEvicted : Nat := 19
def totCalderaFull : Nat := 20
def totOverflowed : Nat := 21

/-- R493: whether `v` lies strictly beyond an entry's value. -/
def beyond (isMax : Bool) (v old : Int) : Bool := if isMax then decide (old < v) else decide (v < old)

/-- R493: one value offered to an extreme entry. -/
def offerExtreme (q : Nat) (isMax : Bool) (key inst : Nat) (v : Int) (s : State) : State :=
  let utc := rtcNow s
  let e : Extreme :=
    { quantity := q, isMax := isMax, inst := inst, value := v, utcS := utc / 1000, utcMs := utc % 1000,
      utcValid := s.power.rtcSet }
  -- quantities 1, 2 and 6 keep one entry per instance; the others keep one, whatever instance it names
  let same (x : Extreme) : Bool := x.quantity == q && x.isMax == isMax && (key == 256 || x.inst == key)
  accumulate (fun r =>
    match r.extremes.find? same with
    | none => { r with extremes := r.extremes ++ [e] }
    | some old =>
      if beyond isMax v old.value then { r with extremes := r.extremes.map fun x => if same x then e else x } else r) s

/-- R493: an extreme with one entry in all. -/
def offerOne (q inst : Nat) (v : Int) (s : State) : State := offerExtreme q true 256 inst v s

/-- R492: the bin of a latency sample. -/
def latencyBin (x lo hi : Nat) : Nat :=
  if x < lo then 0 else if hi ≤ x then 31 else 1 + 30 * (x - lo) / (hi - lo)

/-- R492, R493: a latency sample, excluded strokes included, into histogram and extreme. -/
def recordLatency (u : Nat) (closing : Bool) (x : Nat) (s : State) : State :=
  let p := s.profile u
  let range := if closing then p.latMaxUs.2 else p.latMaxUs.1
  let low := if closing then p.latMinUs.2 else p.latMinUs.1
  let b := 64 * u + 32 * bit closing + latencyBin x low range
  offerOne (8 + bit closing) u x (accumulate (fun r => { r with latency := tmod r.latency 0 b (· + 1) }) s)

/-- R494: count a fault of a class and source pair in every open record, the 2,048th entry catching the rest. -/
def countFault (cls source n sev : Nat) (s : State) : State :=
  if n = 0 then s
  else accumulate (fun r =>
    let bump (l : List (Nat × Nat × Nat)) : List (Nat × Nat × Nat) :=
      if l.any (fun x => x.1 == cls && x.2.1 == source) then
        l.map fun x => if x.1 == cls && x.2.1 == source then (x.1, x.2.1, x.2.2 + n) else x
      else if l.length < 2047 then l ++ [(cls, source, n)]
      else if l.length = 2047 then l ++ [(65535, 255, n)]
      else l.map fun x => if x.1 == 65535 then (x.1, x.2.1, x.2.2 + n) else x
    { r with faults := bump r.faults, maxSev := max r.maxSev sev }) s

end Sys2Proof.Machine
end

