-- ==== Sys2Proof/Machine/ValveOps.lean ====
section
/-! DEFINITION. Valve units and clusters: phases (Table 07-2), commands during a profile (Table 07-3), the peak slot (R36,
R238), fault states (R249, R250), latency in use and its learning (R206 to R213). -/

namespace Sys2Proof.Machine

/-! ## Latency in use -/

/-- VB of Table 06-6, from the 1 ms mean of the unit's VBAT group, mV. -/
def vbOf (mv : Nat) : Nat := if mv < 11000 then 0 else if mv < 13000 then 1 else if mv ≤ 26000 then 2 else 3

/-- TB of Table 06-6, from the coil temperature estimate, m°C. -/
def tbOf (mc : Int) : Nat := if mc < 0 then 0 else if mc < 40000 then 1 else if mc ≤ 80000 then 2 else 3

/-- Fused epochs bring the supply, grid and duty readings; a follower and a device in DOZE have none (R187, R452). -/
def epochSensed (s : State) : Bool := !s.follower && s.power.state != .doze

/-- The 1 ms mean of a VBAT group, mV (R207): as the last epoch brought it, else a free value (assumption 57). -/
def groupMv (s : State) (g : Nat) : Nat :=
  match tfind s.nav.vbatMv g with
  | some v => if epochSensed s then v else (Config.reading 0 g s.devtime).toNat
  | none => (Config.reading 0 g s.devtime).toNat

/-- The 1 ms mean of a unit's VBAT group, mV (R207). -/
def vbatOf (s : State) (u : Nat) : Nat := groupMv s (regionOf (clusterOf u))

/-- The thermal grid of a unit's region, m°C (R208): as the last epoch brought it, else a free value (assumption 57). -/
def gridOf (s : State) (u : Nat) : Int :=
  let r := regionOf (clusterOf u)
  match tfind s.nav.gridMc r with
  | some v => if epochSensed s then v else Config.reading 1 r s.devtime
  | none => Config.reading 1 r s.devtime

/-- The mean chopping duty of the last 10 ms of a unit's hold, ppm (R208): as the last epoch or the command of this tick brought it, else
a free value (assumption 57). -/
def dutyOf (s : State) (u : Nat) : Nat :=
  match tfind s.nav.dutyPpm u with
  | some v => if epochSensed s || s.nav.dutyAt = s.devtime then v else (Config.reading 2 u s.devtime).toNat
  | none => (Config.reading 2 u s.devtime).toNat

/-- R208: the coil temperature estimate as it stands now: the grid reading while no hold is younger than 60 s. -/
def coilTemp (s : State) (u : Nat) : Int :=
  let l := (s.unit u).learn
  match l.lastHold with
  | some h => if h + 60000000 ≤ s.devtime || (s.profile u).res25MilliOhm.isNone then gridOf s u else l.tempMc
  | none => gridOf s u

/-- The latency bin of a unit now (R207). -/
def binNow (s : State) (u : Nat) : Nat := 4 * vbOf (vbatOf s u) + tbOf (coilTemp s u)

/-- R210: the electrical latency of a bin, µs. -/
def latencyOf (b : LatBin) : Nat :=
  if b.range then b.seed
  else if b.count < 20 then (roundDiv (b.count * b.mean + (20 - b.count) * b.seed) 20).toNat
  else b.mean

/-- A unit's entry of a direction and bin. -/
def latEntry (s : State) (u : Nat) (closing : Bool) (b : Nat) : LatBin :=
  tget (if closing then (s.unit u).learn.closing else (s.unit u).learn.opening) {} b

/-- Change a unit's entry of a direction and bin. -/
def modLat (u : Nat) (closing : Bool) (b : Nat) (f : LatBin → LatBin) (s : State) : State :=
  s.modLearn u fun l =>
    if closing then { l with closing := tmod l.closing {} b f } else { l with opening := tmod l.opening {} b f }

/-- R188: total latency L of an action in µs: electrical, transport, and the slot wait for on-kind actions. -/
def totalLatency (s : State) (u : Nat) (onKind : Bool) : Nat :=
  latencyOf (latEntry s u (!onKind) (binNow s u)) + 1000 * (s.unitCfg u).tTrMs
    + (if onKind then (s.cluster (clusterOf u)).slotWaitUs else 0)

/-! ## Learning (R206 to R213) -/

/-- R211: one accepted sample. -/
def LatBin.accept (b : LatBin) (x alphaDiv : Nat) : LatBin :=
  let n := b.count + 1
  let k := if n ≤ 16 then n else alphaDiv
  let d : Int := (x : Int) - b.mean
  let mean := roundDiv ((b.mean : Int) * k + d) k
  let var := roundDiv (((k : Int) - 1) * ((b.var : Int) * k + d * d)) (k * k)
  { b with mean := mean.toNat, var := capTo 4294967295 var.toNat, count := capTo 65535 n, runOut := 0 }

/-- R212: whether a sample is an outlier of its bin. -/
def LatBin.outlier (b : LatBin) (x : Nat) : Bool :=
  let d := mag ((x : Int) - b.mean)
  20 ≤ b.count && decide (500 < d) && decide (16 * b.var < d * d)

/-- R210: judge a bin's mean after an accepted sample. -/
def judgeRange (u : Nat) (closing : Bool) (bin : Nat) (s : State) : State :=
  let p := s.profile u
  let b := latEntry s u closing bin
  let lo := if closing then p.latMinUs.2 else p.latMinUs.1
  let hi := if closing then p.latMaxUs.2 else p.latMaxUs.1
  let outside := decide (b.mean < lo) || decide (hi < b.mean)
  if outside == b.range then s
  else
    let s1 := modLat u closing bin (fun b => { b with range := outside }) s
    if outside then fault 73 (s.sysUnit u) 0 2 (bin + 16 * bit closing) s1 else s1

/-- R212: the 8th consecutive outlier resets the bin. -/
def shiftBin (u : Nat) (closing : Bool) (bin : Nat) (s : State) : State :=
  let s1 := modLat u closing bin (fun b =>
    { b with count := 0, mean := 0, var := 0, runOut := 0, range := false, shifted := true }) s
  fault 73 (s.sysUnit u) 1 2 (bin + 16 * bit closing) s1

/-- R206 to R212: file one sample that is not excluded. -/
def learnSample (u : Nat) (closing : Bool) (bin x : Nat) (s : State) : State :=
  let b := latEntry s u closing bin
  if b.outlier x then
    let s1 := s.modFretCnt u fun f => { f with latOutliers := f.latOutliers + 1 }
    if 7 ≤ b.runOut then shiftBin u closing bin s1
    else modLat u closing bin (fun b => { b with runOut := b.runOut + 1 }) s1
  else judgeRange u closing bin (modLat u closing bin (fun b => b.accept x (s.profile u).alphaDiv) s)

/-- R213: count one excluded sample. -/
def excludeSample (u : Nat) (s : State) : State := s.modFretCnt u fun f => { f with latExcluded := f.latExcluded + 1 }

/-- A detection at DEVTIME `now` ends the sample that `m` began: recorder, then learning or its exclusion. -/
def endSample (u : Nat) (closing : Bool) (m : EdgeMark) (s : State) : State :=
  let x := s.devtime - m.at_
  let s1 := recordLatency u closing x s
  if m.excluded || binNow s u != m.bin then excludeSample u s1 else learnSample u closing m.bin x s1

/-- R213: a fault between an edge and its detection excludes the sample. -/
def spoilSamples (u : Nat) (s : State) : State :=
  s.modLearn u fun l =>
    { l with openEdge := l.openEdge.map fun m => { m with excluded := true },
             closeEdge := l.closeEdge.map fun m => { m with excluded := true } }

/-- R208: the end of a hold of at least 20 ms with mean duty `ppm` updates the coil temperature estimate. -/
def endHold (u ppm : Nat) (s : State) : State :=
  let d := (s.unit u).drive
  if d.phase != .hold || s.devtime < d.phaseAt + 20000 then s
  else
    let p := s.profile u
    match p.res25MilliOhm with
    | none => s.modLearn u fun l => { l with lastHold := some s.devtime }
    | some r25 =>
      -- RES in mOhm = VBAT (mV) × D (ppm) / I_hold (mA) / 1000
      let res : Int := (vbatOf s u * ppm : Nat) / (1000 * p.iHold : Nat)
      let raw : Int := 25000 + roundDiv ((res - r25) * 100000000) (393 * r25)
      let t0 := coilTemp s u
      s.modLearn u fun l => { l with tempMc := t0 + roundDiv (raw - t0) 4, lastHold := some s.devtime }

/-! ## Rails and the high-side switch -/

/-- Whether a unit drives current or waits for its turn-off (R217). -/
def driven (d : Drive) : Bool :=
  match d.phase with
  | .rise | .peakHold | .transition | .hold | .turnOff | .proportional => true
  | .off | .slotWait => false

/-- R217, R218, R227: the cluster's switch and rail follow its units, the boost rail only while the converter runs; without its VBAT group the switch stays open (R527). -/
def updateRail (c : Nat) (s : State) : State :=
  let closed := (unitsOfCluster c).any (fun u => driven (s.unit u).drive) || (s.cluster c).testAt.isSome
  let boost := match (s.cluster c).holder with
    | some u => (s.unit u).drive.phase == .rise && (s.unit u).drive.boostRise && (s.boostOf (dieOfUnit u)).running
    | none => false
  let fed := tget s.power.groups false (regionOf c)
  s.modCluster c fun x =>
    { x with highSide := closed && !x.fault && fed, boostRail := boost,
             gated := if closed then false else x.gated }

/-- Whether a rise of this unit comes from VBOOST (R218, R227). -/
def boostPlanned (s : State) (u : Nat) : Bool :=
  (s.profile u).boost && (s.boostOf (dieOfUnit u)).running && !(s.boostOf (dieOfUnit u)).fault

/-- R220, R221, R235: the current to which a unit is regulated now, mA; `high` picks the half of the dither's square in which it is added. A
rise and a turn-off regulate nothing. -/
def setpointNow (s : State) (u : Nat) (high : Bool) : Nat :=
  let d := (s.unit u).drive
  let p := s.profile u
  let a := (s.unitCfg u).ditherMa / 2
  match d.phase with
  | .peakHold => p.iPeak
  | .transition => p.iPeak - (p.iPeak - p.iHold) * min (s.devtime - d.phaseAt) p.tTransUs / max 1 p.tTransUs
  | .hold => p.iHold
  | .proportional => if d.setpoint = 0 then 0 else if high then min 3000 (d.setpoint + a) else d.setpoint - a
  | .off | .rise | .turnOff | .slotWait => 0

/-! ## Strokes -/

/-- The event source of a unit's diagnostics (R248). -/
def diagSrc (u k : Nat) : Nat := 96 + 4 * clusterOf u + k

/-- T_tr of a unit, µs. -/
def transportUs (s : State) (u : Nat) : Nat := 1000 * (s.unitCfg u).tTrMs

/-- R168: the open stroke of a cycling PWM unit may turn out to have ended at `t`; KIND 2 says that its closing was not confirmed. -/
def strokeMayEnd (u kind t : Nat) (s : State) : State :=
  s.modSect u fun x =>
    { x with strokes := x.strokes.map fun k =>
        if k.to_.isNone then { k with limit := some (max k.from_ (t + transportUs s u)), unsure := kind == 2 } else k }

/-- R168, R170: a PWM stroke that stood at a possible end has ended there; without a confirmed closing it counts in UNCONFIRMED_CLOSE. -/
def strokeEndedThere (u : Nat) (s : State) : State :=
  s.modSect u fun x =>
    { x with strokes := x.strokes.map fun k => match k.to_, k.limit with
        | none, some l => { k with to_ := some l, limit := none }
        | _, _ => k,
             unconfirmed := x.unconfirmed + (x.strokes.filter fun k => k.to_.isNone && k.limit.isSome && k.unsure).length }

/-- R168, R224: the open stroke runs on. -/
def strokeRunsOn (u : Nat) (s : State) : State :=
  s.modSect u fun x => { x with strokes := x.strokes.map fun k => if k.to_.isNone then { k with limit := none, unsure := false } else k }

/-- A stroke whose opening window closes without a dip (R241, R248); a PWM cycle without a dip ends
the stroke at the cycle's start (R168). -/
def missDip (u : Nat) (s : State) : State :=
  let d := (s.unit u).drive
  let restrike := match (s.unit u).learn.openEdge with
    | some m => m.restrike
    | none => false
  let s1 := (s.modDrive u fun d => { d with openWinEnd := none }).modLearn u fun l =>
    { l with openEdge := none, closeEdge := l.closeEdge.map fun m => { m with excluded := true } }
  if restrike then s1
  else
    let n := d.missedDips + 1
    let s1 := if d.mode == .pwm then strokeEndedThere u s1 else s1
    let s2 := excludeSample u ((s1.modValve u fun v => { v with dipsMissed := v.dipsMissed + 1 }).modDrive u
      fun d => { d with missedDips := n })
    if n = (s.profile u).noMotionN then
      fault (diagSrc u 1) u 3 2 0 (s2.modDrive u fun d => { d with noMotion := true })
    else s2

/-- A stroke whose closing window ends without a knee (R242, R170, R248). -/
def missKnee (u : Nat) (s : State) : State :=
  let n := (s.unit u).drive.missedKnees + 1
  let s0 := s.modDrive u fun d =>
    { d with closeWinEnd := none, missedKnees := n, phase := if d.phase == .turnOff then .off else d.phase }
  let s1 := s0.modLearn u fun l => { l with closeEdge := none }
  let s2 := excludeSample u (s1.modValve u fun v => { v with kneesMissed := v.kneesMissed + 1 })
  let s3 := updateRail (clusterOf u) s2
  if n = (s.profile u).noReleaseN then
    fault (diagSrc u 1) u 4 3 0 (s3.modDrive u fun d => { d with noRelease := true })
  else s3

/-- The rise begins (R220): the unit takes the slot, its base draws, the stroke counts. -/
def enterRise (u : Nat) (s : State) : State :=
  let boost := boostPlanned s u
  let s1 := takeSlot u (drawBase u true s)
  let s2 := s1.modDrive u fun d => { d with phase := .rise, phaseAt := s.devtime, boostRise := boost, offWaiting := false }
  updateRail (clusterOf u) (addTotal totStrokes 1 (s2.modValve u fun v => { v with strokes := v.strokes + 1 }))

/-- R202: an on-edge that waited `w` µs updates the cluster's slot-wait estimate. -/
def learnWait (c w : Nat) (s : State) : State :=
  s.modCluster c fun x =>
    { x with slotWaitUs := ((x.slotWaitUs : Int) + roundDiv ((w : Int) - x.slotWaitUs) 8).toNat, lastWaitAt := s.devtime }

/-- R39: where the base charge goes when a stroke ends: kept in a mode that holds it, RESERVED with an on-fret armed,
released otherwise. -/
def settleBase (u : Nat) (s : State) : State :=
  let x := s.unit u
  let held := x.drive.modeEnabled && x.drive.mode != .onoff
  if held then s
  else if x.frets.any fun f => f.action != 1 && f.granted && f.state != .fired then drawBase u false s
  else releaseBase u s

/-- F_PWM of a cluster (R229), default 10 Hz. -/
def pwmHz (s : State) (c : Nat) : Nat := tget s.cfg.units.fPwmHz 10 c

/-- Table 07-6 SLOT_WAITS: a stroke that waited for the slot begins. -/
def strokeWaited (u : Nat) (s : State) : State := s.modValve u fun v => { v with slotWaits := v.slotWaits + 1 }

/-- A stroke's end ends its shot; a PWM unit's shot goes on while it cycles (R181). -/
def keptShot (d : Drive) : Option Nat := if d.mode == .pwm && d.cycling then d.shotEnd else none

/-- R238: the slot passes down the queue to the first unit still wanted; R223: one that was told OFF while waiting passes
through and makes no stroke. R231: a PWM cycle that waited ends its on-time counted from its actual start, no later than the next
nominal start. -/
def passSlot (c : Nat) : List Nat → State → State
  | [], s => s.modCluster c fun x => { x with queue := [] }
  | u :: rest, s =>
    let d := (s.unit u).drive
    let s1 := (learnWait c (s.devtime - d.askedAt) s).modCluster c fun x => { x with queue := rest }
    if d.offWaiting then
      let s2 := (drawBase u true s1).modDrive u fun d =>
        { d with phase := .off, offWaiting := false, openWinEnd := none, shotEnd := keptShot d, onTimeEnd := none }
      passSlot c rest (settleBase u (s2.modLearn u fun l => { l with openEdge := none }))
    else if d.mode == .pwm && decide (d.dutyNow < 10000) then
      let stop := s.devtime + d.dutyNow * (1000000 / pwmHz s c) / 10000
      enterRise u (strokeWaited u s1 |>.modDrive u fun d =>
        { d with cycleStart := s.devtime, onTimeEnd := some (match d.nextCycle with
                                                            | some e => min stop e
                                                            | none => stop) })
    else enterRise u (strokeWaited u s1)

/-- The holder gives the slot up and the next waiting unit takes it in the same tick (R238). -/
def yieldSlot (u : Nat) (s : State) : State :=
  let c := clusterOf u
  if (s.cluster c).holder = some u then
    let s1 := freeSlot u s
    updateRail c (passSlot c (s1.cluster c).queue s1)
  else s

/-- A unit leaves the slot's queue (R238). -/
def leaveQueue (u : Nat) (s : State) : State :=
  s.modCluster (clusterOf u) fun x =>
    if x.queue.contains u then { x with queue := x.queue.filter fun v => v != u, lastWaitAt := s.devtime } else x

/-- How an on-kind edge reached a unit (R213). -/
structure EdgeInfo where
  late : Bool := false
  credit : Bool := false
  cycle : Bool := false
deriving DecidableEq, Repr

/-- R238: a unit joins the queue behind those that asked in earlier ticks and the lower numbers of this one. -/
def queued (s : State) (u : Nat) : List Nat → List Nat
  | [] => [u]
  | v :: r => if u < v && decide ((s.unit v).drive.askedAt = s.devtime) then u :: v :: r else v :: queued s u r

/-- Table 07-3, "profile starts": phase 1, or SLOT_WAIT while the slot is in use (R36). A stroke that starts inside the
opening window of the one before closes that window with the dip missed. -/
def startStroke (u : Nat) (i : EdgeInfo) (restrike : Bool) (s : State) : State :=
  let c := clusterOf u
  let s0 := if (s.unit u).drive.openWinEnd.isSome && !(s.unit u).drive.dipSeen then missDip u s else s
  let free := (s0.cluster c).holder.isNone && (s0.cluster c).queue.isEmpty
  let m : EdgeMark :=
    { at_ := s.devtime, bin := binNow s u, restrike := restrike,
      excluded := i.late || i.credit || !free || restrike || (i.cycle && (s0.unit u).drive.missedKnees != 0) }
  let s1 := (s0.modLearn u fun l => { l with openEdge := some m, closeEdge := if restrike then none else l.closeEdge }).modDrive
    u fun d => { d with dipSeen := false, openWinEnd := some (s.devtime + s.openWin u),
                        closeWinEnd := if restrike then none else d.closeWinEnd }
  if free then enterRise u s1
  else
    (drawBase u true s1).modCluster c (fun x => { x with queue := queued s0 u x.queue })
      |>.modDrive u fun d => { d with phase := .slotWait, askedAt := s.devtime, crowdedSeen := false, offWaiting := false }

/-- Table 07-2 phase 5: turn-off, which opens the closing window (R242); the slot is released. -/
def turnOff (u : Nat) (s : State) : State :=
  let d := (s.unit u).drive
  let s1 := endHold u (dutyOf s u) s
  let m : EdgeMark :=
    { at_ := s.devtime, bin := binNow s u,
      excluded := !d.dipSeen && d.openWinEnd.isNone }
  let s2 := (s1.modDrive u fun d =>
      { d with phase := .turnOff, phaseAt := s.devtime, shotEnd := keptShot d, onTimeEnd := none,
               closeWinEnd := some (s.devtime + s.closeWin u) }).modLearn u
    fun l => { l with closeEdge := some m }
  updateRail (clusterOf u) (settleBase u (yieldSlot u s2))

/-- Table 07-3, row OFF or a shot end. -/
def applyOff (u : Nat) (s : State) : State :=
  match (s.unit u).drive.phase with
  | .off | .turnOff => s
  | .slotWait => (s.modDrive u fun d => { d with offWaiting := true, openWinEnd := none }).modLearn u fun l => { l with openEdge := none }
  | .rise | .peakHold | .transition | .hold => turnOff u s
  | .proportional => s.modValve u fun v => { v with cmdIgnored := v.cmdIgnored + 1 }

/-- R224: a start in phase 5 is a re-strike. -/
def restrike (u : Nat) (i : EdgeInfo) (s : State) : State :=
  startStroke u i true (s.modValve u fun v => { v with restrikes := v.restrikes + 1 })

/-- Table 07-3, row ON. -/
def applyOn (u : Nat) (i : EdgeInfo) (s : State) : State :=
  match (s.unit u).drive.phase with
  | .off => startStroke u i false s
  | .slotWait => s
  | .rise | .peakHold | .transition | .hold => s.modDrive u fun d => { d with shotEnd := none }
  | .turnOff => restrike u i s
  | .proportional => s.modValve u fun v => { v with cmdIgnored := v.cmdIgnored + 1 }

/-- Table 07-3, row PROFILE_START. -/
def applyShot (u : Nat) (i : EdgeInfo) (s : State) : State :=
  let shot := s.devtime + 1000 * (s.profile u).shotMs
  match (s.unit u).drive.phase with
  | .off | .turnOff => (applyOn u i s).modDrive u fun d => { d with shotEnd := some shot }
  | .slotWait => s.modDrive u fun d => { d with shotEnd := some shot }
  | .rise | .peakHold | .transition | .hold =>
    s.modDrive u fun d => { d with shotEnd := d.shotEnd.map fun e => max e shot }
  | .proportional => s.modValve u fun v => { v with cmdIgnored := v.cmdIgnored + 1 }

/-! ## PWM (R229 to R232) -/

/-- R273: the duty stage computes the duty of the PWM units of a liquid product's sections; a unit that its safe-state code holds takes
its duty from the code (Table 10-7). -/
def rateStaged (s : State) (u : Nat) : Bool :=
  (s.unit u).drive.mode == .pwm && s.host.outputsEnabled && !(s.die (dieOfUnit u)).heldSafe
    && (s.secOf u).any fun x => (s.productCfg x.product).liquid

/-- The cluster's running PWM units, in rising order (R230). A unit of the duty stage runs while it cycles, whatever its duty is now
(assumption 21). -/
def runningPwm (s : State) (c : Nat) : List Nat :=
  (unitsOfCluster c).filter fun u =>
    (s.unit u).drive.cycling && ((s.unit u).drive.duty != 0 || rateStaged s u) && (s.unit u).drive.modeEnabled
      && (s.unit u).drive.mode == .pwm

/-- Position of an element in a list. -/
def rankOf (l : List Nat) (u : Nat) : Nat :=
  match l with
  | [] => 0
  | v :: r => if v = u then 0 else 1 + rankOf r u

/-- The 10 µs tick nearest to `base` + `num`/`den` µs. -/
def nearestTick (base num den : Nat) : Nat := 10 * ((2 * (base * den + num) + 10 * den) / (20 * den))

/-- R230: the first grid start of the unit strictly after `now`. -/
def nextGrid (s : State) (u now : Nat) : Nat :=
  let c := clusterOf u
  let f := pwmHz s c
  let l := runningPwm s c
  let n := max 1 l.length
  let r := rankOf l u
  -- start k at pwmRef + (k + r/n) × 1,000,000 / f
  let at_ (k : Nat) : Nat := nearestTick s.pwmRef ((k * n + r) * 1000000) (n * f)
  let k0 := (now - s.pwmRef) * f / 1000000
  let k := k0 - 1
  if now < at_ k then at_ k else if now < at_ (k + 1) then at_ (k + 1) else if now < at_ (k + 2) then at_ (k + 2)
  else at_ (k + 3)

/-- The duty in force of a PWM unit, raised to 5 % (R229). -/
def effDuty (d : Nat) : Nat := if d = 0 then 0 else if d < 500 then 500 else min d 10000

/-- Whether a time that may be set has come. -/
def timeDue (at? : Option Nat) (now : Nat) : Bool :=
  match at? with
  | some t => decide (t ≤ now)
  | none => false

/-- Every running unit of the cluster takes its place in the grid afresh after N changed (R230); a start that is due now stays due. -/
def regrid (c : Nat) (s : State) : State :=
  (runningPwm s c).foldl (fun s u => s.modDrive u fun d =>
    { d with rephased := false, nextCycle := if timeDue d.nextCycle s.devtime then d.nextCycle else some (nextGrid s u s.devtime) }) s

/-- A stroke that starts inside the opening window of the one before closes that window with the dip missed. -/
def dipOverdue (u : Nat) (s : State) : State :=
  if (s.unit u).drive.openWinEnd.isSome && !(s.unit u).drive.dipSeen then missDip u s else s

/-- R229: a cycle whose duty is raised to 5 %. -/
def countClamped (u : Nat) (s : State) : State :=
  if 0 < (s.unit u).drive.duty && decide ((s.unit u).drive.duty < 500) then s.modValve u fun v => { v with dutyClamped := v.dutyClamped + 1 }
  else s

/-- R231: one cycle starts now with duty `duty`, ending no later than the next nominal start if it waits. -/
def startCycle (u duty : Nat) (i : EdgeInfo) (s : State) : State :=
  let p := 1000000 / pwmHz s (clusterOf u)
  let onUs := duty * p / 10000
  let s1 := (countClamped u s).modDrive u fun d =>
    { d with dutyNow := duty, cycleStart := s.devtime, onTimeEnd := if duty < 10000 then some (s.devtime + onUs) else none }
  match (s.unit u).drive.phase with
  | .off => startStroke u { i with cycle := true } false (strokeMayEnd u 0 s.devtime (dipOverdue u s1))
  | .turnOff => restrike u { i with cycle := true } (strokeRunsOn u s1)
  | _ => s1

/-- A cycle of a unit of the duty stage is due now: PWM_CYCLE_START brings it about with its pressure (R274). -/
def cycleDue (u : Nat) (i : EdgeInfo) (s : State) : State :=
  s.modDrive u fun d => { d with nextCycle := some s.devtime, edgeMarked := i.late || i.credit, forced := true }

/-- R232: ON to a PWM unit: a cycle at once if it is not cycling; one that cycles is held by it, with no shot end (Table 07-3). -/
def pwmOn (u : Nat) (i : EdgeInfo) (s : State) : State :=
  let d := (s.unit u).drive
  if d.cycling then s.modDrive u fun d => { d with shotEnd := none }
  else
    let s1 := s.modDrive u fun d => { d with cycling := true }
    if rateStaged s u then cycleDue u i (regrid (clusterOf u) s1)
    else if d.duty = 0 then s1
    else regrid (clusterOf u) (startCycle u (effDuty d.duty) i s1)

/-- R232: OFF to a PWM unit ends the running cycle and stops cycling. -/
def pwmOff (u : Nat) (s : State) : State :=
  if !(s.unit u).drive.cycling then s.modDrive u fun d => { d with resume := false }
  else
    let s1 := s.modDrive u fun d =>
      { d with cycling := false, resume := false, nextCycle := none, rephased := false, forced := false, shotEnd := none }
    regrid (clusterOf u) (applyOff u s1)

/-! ## Commands to a unit, by mode -/

/-- R134: a forward-only unit stays off until it leaves BACKWARD. -/
def staysOff (s : State) (u : Nat) : Bool := (s.unitCfg u).forwardOnly && (s.unit u).motion.backward

/-- R181: PROFILE_START to a PWM unit: it cycles until the shot time has passed (DEDUCED, assumption 57). -/
def pwmShot (u : Nat) (i : EdgeInfo) (s : State) : State :=
  let shot := s.devtime + 1000 * (s.profile u).shotMs
  if (s.unit u).drive.cycling then s.modDrive u fun d => { d with shotEnd := d.shotEnd.map fun e => max e shot }
  else (pwmOn u i s).modDrive u fun d => { d with shotEnd := some shot }

/-- ON to a unit in any mode (R222, R232), but for one that stays off under R134. A PWM unit that is not yet enabled cycles once it is
(R228). -/
def commandOn (u : Nat) (i : EdgeInfo) (s : State) : State :=
  match (s.unit u).drive.mode with
  | .pwm => if staysOff s u then s
    else if (s.unit u).drive.modeEnabled then pwmOn u i s
    else s.modDrive u fun d => { d with resume := true }
  | .onoff => if staysOff s u then s else applyOn u i s
  | .prop => s.modValve u fun v => { v with cmdIgnored := v.cmdIgnored + 1 }
  | .pairedMember => s

/-- OFF to a unit in any mode. -/
def commandOff (u : Nat) (s : State) : State :=
  match (s.unit u).drive.mode with
  | .pwm => pwmOff u s
  | .onoff => applyOff u s
  | .prop => s.modValve u fun v => { v with cmdIgnored := v.cmdIgnored + 1 }
  | .pairedMember => s

/-- PROFILE_START to a unit in any mode. -/
def commandShot (u : Nat) (i : EdgeInfo) (s : State) : State :=
  match (s.unit u).drive.mode with
  | .onoff => if staysOff s u then s else applyShot u i s
  | .pwm => if (s.unit u).drive.modeEnabled && !staysOff s u then pwmShot u i s else s
  | .prop => s.modValve u fun v => { v with cmdIgnored := v.cmdIgnored + 1 }
  | .pairedMember => s

/-! ## Frets leaving the plan -/

/-- A fret that has neither fired nor left. -/
def Fret.live (f : Fret) : Bool := f.state != .fired

/-- R454: a follower reports the fate of a device fret to the lead (OUTCOME 0 FIRED, 1 FIRED_LATE, 2 DISCARDED,
3 CANCELLED). -/
def reportFret (u : Nat) (f : Fret) (outcome : Nat) (s : State) : State :=
  if s.follower && 32768 ≤ f.tag then
    sendZ 6 0 [f.tag, s.sysUnit u, outcome, f.lateness] s
  else s

/-- Cancel the live frets of a unit that `p` picks; a reservation that no fret needs any more is released (R183). -/
def cancelFrets (u : Nat) (p : Fret → Bool) (s : State) : State :=
  let gone := (s.unit u).frets.filter fun f => f.live && p f
  if gone.isEmpty then s
  else
    let s1 := s.modUnit u fun x =>
      { x with frets := x.frets.filter (fun f => !(f.live && p f)),
               fret := { x.fret with cancelled := x.fret.cancelled + gone.length } }
    let s2 := gone.foldl (fun s f => reportFret u f 3 s) s1
    let d := (s2.unit u).drive
    if d.baseReserved && !((s2.unit u).frets.any fun f => f.live && f.granted && f.action != 1) then releaseBase u s2 else s2

/-! ## Fault states (R249, R250) and forced off -/

/-- The unit goes off whatever its mode: frets cancelled, slot and queue left, every credit released (R249, R394, R527). A
mode charge that is released is asked for again later (R228, assumption 12). -/
def forceOff (u : Nat) (s : State) : State :=
  let d := (s.unit u).drive
  let s1 := leaveQueue u (cancelFrets u (fun _ => true) s)
  let s2 := match d.phase with
    | .rise | .peakHold | .transition | .hold => turnOff u s1
    | .slotWait => (s1.modDrive u fun d => { d with phase := .off, openWinEnd := none, offWaiting := false }).modLearn u
        fun l => { l with openEdge := none }
    | .proportional => s1.modDrive u fun d => { d with phase := .off }
    | .off | .turnOff => s1
  let s3 := releaseBase u (s2.modDrive u fun d =>
    { d with modeEnabled := false, modeWait := false, cycling := false, resume := false, nextCycle := none, onTimeEnd := none, shotEnd := none, setpoint := 0,
             rephased := false, forced := false })
  updateRail (clusterOf u) (if d.cycling then regrid (clusterOf u) s3 else s3)

/-- The other member of a unit's pair, if it is in one (R26, R236). -/
def partner? (s : State) (u : Nat) : Option Nat :=
  if ownsPair s u then some (u + 1)
  else if (s.unitCfg u).mode == .pairedMember && u % 2 == 1 then some (u - 1)
  else none

/-- R213, Table 02-8: a fault excludes the samples that the disturbed units are taking. -/
def spoilUnits (us : List Nat) (s : State) : State := us.foldl (fun s u => spoilSamples u s) s

/-- A unit's fault state without its pair (R249). The turn-off that the fault itself makes gives no sample either (R213). -/
def unitFaultOne (u cause : Nat) (s : State) : State :=
  let s1 := spoilSamples u (skipDrift (driftOfUnit u) (forceOff u (spoilUnits (unitsOfCluster (clusterOf u)) s)))
  let back := (s.unit u).drive.cycling || (s.unit u).drive.resume
  s1.modDrive u fun d => { d with fault := true, cause := if d.fault then d.cause else cause, resume := back }

/-- R249, R236: the unit fault state; a pair member's fault takes the pair. -/
def unitFault (u cause : Nat) (s : State) : State :=
  let s1 := unitFaultOne u cause s
  match partner? s u with
  | some v => unitFaultOne v 6 s1
  | none => s1

/-- R250: the cluster fault state. -/
def clusterFault (c cause : Nat) (s : State) : State :=
  let s0 := ((upFrom (4 * regionOf c) 4).flatMap unitsOfCluster |> spoilUnits) s
  let s1 := (unitsOfCluster c).foldl (fun s u => unitFaultOne u 5 s) s0
  updateRail c (s1.modCluster c fun x =>
    { x with fault := true, cause := if x.fault then x.cause else cause, queue := [], holder := none, testAt := none })

/-- A valve unit is in a state in which it can be told to drive (R249, R250). -/
def faulted (s : State) (u : Nat) : Bool := (s.unit u).drive.fault || (s.cluster (clusterOf u)).fault

/-- Whether a unit is off: no phase, no cycle, no wait. -/
def unitOff (d : Drive) : Bool :=
  match d.phase with
  | .off => !d.cycling
  | .turnOff => !d.cycling
  | .proportional => d.setpoint == 0
  | _ => false

/-- Request a PWM or PROP unit's mode charge and enable it (R228, R34); a PWM unit back from a fault resumes (R251). -/
def enableMode (u : Nat) (s : State) : Except Nat State :=
  let m := (s.unit u).drive.mode
  match acquireBase u (baseOf s u m) false s with
  | .error l => .error l
  | .ok s1 =>
    let back := m == UnitMode.pwm && (s.unit u).drive.resume && !staysOff s u
    let s2 := s1.modDrive u fun d =>
      { d with modeEnabled := true, modeWait := false, phase := if m == .prop then .proportional else d.phase,
               cycling := d.cycling || back, resume := false }
    .ok (updateRail (clusterOf u) (if back then regrid (clusterOf u) s2 else s2))

end Sys2Proof.Machine
end

