-- ==== Sys2Proof/Machine/FretOps.lean ====
section
/-! DEFINITION. Frets: from effect to command (R188), predicted due time (R189), arming with its reservation and lateness
(R183, R197 to R199), firing (R186), and their notifications (R201, R426). -/

namespace Sys2Proof.Machine

/-- R188: the command position of an effect position, 0.1 mm. -/
def commandPos (s : State) (u : Nat) (onKind : Bool) (effect : Int) : Int :=
  let l : Int := totalLatency s u onKind
  let m := (s.unit u).motion
  roundDiv (effect * 200000000000000 - m.vUm * l * 2000000 - m.aUm * l * l) 200000000000000

/-- The effect position of a command applied at the present odometer (R191). -/
def effectPos (s : State) (u : Nat) (onKind : Bool) : Int :=
  let l : Int := totalLatency s u onKind
  let m := (s.unit u).motion
  roundDiv (odometer s u * 200000000000000 + m.vUm * l * 2000000 + m.aUm * l * l) 200000000000000

/-- On-kind actions (R181). -/
def Fret.onKind (f : Fret) : Bool := f.action != 1

/-- Whether a fret occupies a slot of the valve die (R182). -/
def Fret.inDie (f : Fret) : Bool :=
  match f.state with
  | .armed | .committed | .suspended => true
  | .pending | .fired => false

/-- R189: µs until the odometer, advancing under R185 with the current speed and acceleration, reaches the command position;
none when it never does. A fret already reached is due now. While the unit stands or runs opposite to its DIR it has no due time (R197). -/
def dueIn (s : State) (u : Nat) (f : Fret) : Option Nat :=
  let m := (s.unit u).motion
  let sg : Int := if f.backward then -1 else 1
  let v := sg * m.vUm
  let a := sg * m.aUm
  let dist := sg * (f.pos * 10000000000000 - m.odoFx)
  if m.vUm = 0 || f.backward != m.backward then none
  else if dist ≤ 0 then some 0
  else
    let te : Int := s.nav.epoch.getD 0
    let o := clamp 0 2000 ((s.devtime : Int) - te)
    let r := 2000 - o
    let near := r * v * 100000 + a * (2 * o * r + r * r) / 20
    let vh := v + a * 2000 / 1000000
    if v ≤ 0 then none
    else if dist ≤ near then some (min r.toNat (ceilDiv dist.toNat (v * 100000).toNat))
    else if vh ≤ 0 then none
    else some (r.toNat + ceilDiv (dist - near).toNat (vh * 100000).toNat)

/-- How far the odometer has passed a fret's command position in its DIR, 0.1 mm; 0 or less when it has not. -/
def passedBy (s : State) (u : Nat) (f : Fret) : Int :=
  if f.backward then f.pos - odometer s u else odometer s u - f.pos

/-- Table 06-5: the payload of N_FRET_FIRED and N_FRET_DISCARD. -/
def fretPayload (s : State) (u : Nat) (f : Fret) (outcome : Nat) : List Byte :=
  le 8 s.devtime ++ le 8 (odometer s u) ++ le 8 f.pos ++ le 2 (s.sysUnit u) ++ le 2 f.tag ++ le 1 f.action ++ le 1 outcome
    ++ le 2 0 ++ le 4 f.lateness ++ le 4 0

/-- R199: discard a fret: reported in N_FRET_DISCARD on course 1, its reservation released if no fret needs it. -/
def discardFret (u : Nat) (f : Fret) (s : State) : State :=
  let s1 := s.modUnit u fun x =>
    { x with frets := x.frets.filter (fun g => g.id != f.id || !g.live),
             fret := { x.fret with discarded := x.fret.discarded + 1 } }
  let s2 := edgeAt s.devtime 70 (s.sysUnit u) 0 0 f.late (reportFret u f 2 (notify 1 34050 (fretPayload s u f 2) s1))
  if (s2.unit u).drive.baseReserved && !((s2.unit u).frets.any fun g => g.live && g.granted && g.onKind) then releaseBase u s2
  else s2

/-- A fret joins a unit's list, under its own number. -/
def putFret (u : Nat) (f : Fret) (s : State) : State :=
  s.modUnit u fun x => { x with frets := x.frets ++ [{ f with id := x.nextFret }], nextFret := x.nextFret + 1 }

/-- Change the live fret of a unit that has a number. -/
def modFret (u k : Nat) (g : Fret → Fret) (s : State) : State :=
  s.modUnit u fun x => { x with frets := x.frets.map fun f => if f.live && f.id = k then g f else f }

/-- R426, R42: a refused reservation is reported, at most once per 100 ms for a unit. -/
def creditShort (u level need : Nat) (s : State) : State :=
  let due := match (s.unit u).sect.shortSentAt with
    | some t => decide (t + 100000 ≤ s.devtime)
    | none => true
  if !due then s
  else
    let key := match level with
      | 0 => u
      | 1 => vclKey (clusterOf u)
      | 2 => regKey (regionOf (clusterOf u))
      | 3 => dieKey (dieOfUnit u)
      | _ => pkgKey
    let free := clamp 0 65535 (freeOf s key)
    let payload := le 8 s.devtime ++ le 2 (s.sysUnit u) ++ le 1 level ++ le 1 0 ++ le 2 need ++ le 2 free
    edge 72 (s.sysUnit u) 0 (notify 0 34051 payload (s.modSect u fun x => { x with shortSentAt := some s.devtime }))

/-- Whether a reservation of the unit was already refused in this cycle: it is asked for once per cycle (R42, R198). -/
def refusedNow (s : State) (u : Nat) : Bool := (s.unit u).sect.refusedAt == some s.devtime

/-- One refused cycle of a unit's reservation (R184, R198). -/
def countRefusal (u level need : Nat) (s : State) : State :=
  if refusedNow s u then s
  else
    creditShort u level need ((noteShort level s |>.modFretCnt u fun f => { f with creditWaits := f.creditWaits + 1 }).modSect u
      fun x => { x with refusedAt := some s.devtime })

/-- R199: put a fret into the valve die, judging lateness once; a clamped fret is neither late nor discardable (R200). Arming
order is list order. -/
def armFret (u : Nat) (f : Fret) (s : State) : State :=
  let p := passedBy s u f
  let late := decide (0 < p) && !f.clamped && !f.judged
  let lateness := p.toNat
  let f1 := { f with late := late, lateness := if late then capTo 4294967295 lateness else 0, granted := true, judged := true }
  if late && f1.onKind && f1.discard != 65535 && decide (f1.discard < lateness) then discardFret u f1 s
  else
    let back := (s.unit u).motion.backward
    let f2 := { f1 with state := if f1.backward != back then .suspended else .armed,
                        suspendedAt := s.devtime }
    s.modUnit u fun x => { x with frets := x.frets.filter (fun g => !(g.live && g.id == f.id)) ++ [f2] }

/-- The ARMED fret of a unit that is due last, if it is due later than `d` (R183). -/
def latestArmed (s : State) (u d : Nat) : Option Fret :=
  ((s.unit u).frets.filter fun f => f.state == .armed).foldl (fun m f =>
    let key (f : Fret) : Nat := (dueIn s u f).getD 18446744073709551615
    if key f ≤ d then m
    else match m with
      | none => some f
      | some g => if key g < key f then some f else some g) none

/-- R183: give a pending fret a slot of the die if one is free or a later fret can be returned to PENDING. -/
def slotFor (u : Nat) (f : Fret) (d : Nat) (s : State) : State :=
  if ((s.unit u).frets.filter Fret.inDie).length < 8 then armFret u f s
  else match latestArmed s u d with
    | some g => armFret u f (modFret u g.id (fun x => { x with state := .pending }) s)
    | none => s

/-- R183, R197, R198: try to arm one pending fret: within 500 ms of due, and for an on-kind fret of an IDLE unit only with
its reservation granted, which waits while the Keeper pair restarts (R22). -/
def tryArm (u k : Nat) (s : State) : State :=
  match (s.unit u).frets.find? fun f => f.state == .pending && f.id == k with
  | none => s
  | some f =>
    match dueIn s u f with
    | none => s
    | some d =>
      if 500000 < d then s
      else if f.action = 1 || f.action = 3 || (s.unit u).drive.base != 0 then
        slotFor u { f with granted := true } d s
      else if coreOut s 0 || refusedNow s u then s
      else
        match acquireBase u (baseOf s u (s.unit u).drive.mode) true s with
        | .ok s1 => slotFor u { f with granted := true } d (s1.modSect u fun x => { x with shortSentAt := none })
        | .error l =>
          countRefusal u l (baseOf s u (s.unit u).drive.mode)
            (modFret u k (fun x => { x with waitedCredit := true }) s)

/-- The live pending frets of a unit in order of predicted due time (R183). -/
def pendingByDue (s : State) (u : Nat) : List Nat :=
  let key (f : Fret) : Nat := (dueIn s u f).getD 18446744073709551615
  (sortBy (fun a b => decide (key a < key b)) ((s.unit u).frets.filter fun f => f.state == .pending)).map (·.id)

/-- R183, R191: whether a fired fret has reached its effect, and leaves the plan. -/
def leaves (s : State) (u : Nat) (f : Fret) : Bool :=
  f.state == .fired && (!f.hasEffect ||
    (if f.backward then decide (odometer s u ≤ f.effect) else decide (f.effect ≤ odometer s u)))

/-- Fired entries whose effect is reached leave the plan; the last of them stays remembered with its effect (R191). -/
def pruneUnit (u : Nat) (s : State) : State :=
  let gone := (s.unit u).frets.filter (leaves s u)
  s.modUnit u fun x =>
    { x with frets := x.frets.filter (fun f => !leaves s u f),
             sect := match gone.reverse.find? fun f => f.action != 3 with
               | some f => { x.sect with reached := some (f.action != 1), reachedPos := f.effect }
               | none => x.sect }

/-- R189: a fret's command position recomputed from its unchanged effect position until it is COMMITTED. One that was clamped and still
waits stays at the odometer (R200). -/
def placed (s : State) (u : Nat) (f : Fret) : Fret :=
  if f.hasEffect && (f.state == .pending || f.state == .armed || f.state == .suspended) && !f.late then
    let g := { f with pos := commandPos s u f.onKind f.effect }
    if f.state == .pending && f.clamped && decide (0 < passedBy s u g) then { g with pos := odometer s u } else g
  else f

/-- Recompute every fret of a unit (R189). -/
def placeUnit (u : Nat) (s : State) : State := s.modUnit u fun x => { x with frets := x.frets.map (placed s u) }

/-- R200: a device fret joins its unit's plan; an on-kind one whose command lies behind the odometer as the window finds it is clamped to
the odometer, and counted. -/
def putFound (u : Nat) (f : Fret) (s : State) : State :=
  if f.onKind && decide (0 < passedBy s u f) then
    putFret u { f with pos := odometer s u, clamped := true } (s.modFretCnt u fun c => { c with clamped := c.clamped + 1 })
  else putFret u f s

/-- R189: armed frets 5 ms or less from due are COMMITTED. -/
def commitSoon (u : Nat) (s : State) : State :=
  s.modUnit u fun x =>
    { x with frets := x.frets.map fun f =>
        match f.state, dueIn s u f with
        | .armed, some d => if d ≤ 5000 then { f with state := .committed } else f
        | _, _ => f }

/-- R189: one decision cycle of a unit's frets: positions recomputed until COMMITTED, commitment at 5 ms before and after pending frets
are armed in order of due time, reached effects leaving the plan (R183). -/
def scheduleUnit (u : Nat) (s : State) : State :=
  let s1 := commitSoon u (placeUnit u (pruneUnit u s))
  commitSoon u ((pendingByDue s1 u).foldl (fun s k => tryArm u k s) s1)

/-! ## Firing -/

/-- R186, R187: whether a fret in the die fires at this tick's end. -/
def firesNow (s : State) (u : Nat) (f : Fret) : Bool :=
  let m := (s.unit u).motion
  let live := s.nav.fretsLive && !s.nav.odoStale && s.power.state != .doze
  let reached := if f.backward then decide (odoBits m ≤ f.pos * 4294967296) else decide (f.pos * 4294967296 ≤ odoBits m)
  (f.state == .armed || f.state == .committed) && (f.late || reached) && (!f.onKind || live)

/-- R199, R213: a turn-off that a late OFF begins gives no closing sample. -/
def lateOff (u : Nat) (late : Bool) (s t : State) : State :=
  if late && (t.unit u).drive.phase == .turnOff && (s.unit u).drive.phase != .turnOff then
    t.modLearn u fun l => { l with closeEdge := l.closeEdge.map fun m => { m with excluded := true } }
  else t

/-- R181: a fired fret's action. -/
def applyFret (u : Nat) (f : Fret) (s : State) : State :=
  let i : EdgeInfo := { late := f.late, credit := f.waitedCredit }
  match f.action with
  | 0 => commandOn u i s
  | 1 => lateOff u f.late s (commandOff u s)
  | 2 => commandShot u i s
  | _ =>
    let d := (s.unit u).drive
    if d.mode == .pwm && d.cycling && rateStaged s u then
      cycleDue u { late := f.late } (s.modDrive u fun d => { d with rephased := true })
    else if d.mode == .pwm && d.cycling && d.duty != 0 then
      let p := 1000000 / pwmHz s (clusterOf u)
      startCycle u (effDuty d.duty) { late := f.late } (s.modDrive u fun d =>
        { d with rephased := true, nextCycle := some (s.devtime + p) })
    else s

/-- One fret fires (R184, R201, R454, sources 69 and 71). A fret with an effect position stays in the plan until the odometer
reaches it (Table 06-2). -/
def fireFret (u : Nat) (f : Fret) (s : State) : State :=
  let s1 := s.modUnit u fun x =>
    { x with frets := (x.frets.map fun g => if g.live && g.id = f.id then { g with state := .fired } else g).filter
               (fun g => g.live || g.hasEffect),
             fret := { x.fret with fired := x.fret.fired + 1, late := x.fret.late + bit f.late } }
  let s2 := applyFret u f s1
  let s3 := if f.action = 0 || f.action = 2 then s2.modSect u fun x => { x with commanded := true }
    else if f.action = 1 then s2.modSect u fun x => { x with commanded := false } else s2
  let s4 := if f.notify then
      edgeAt s.devtime 71 (s.sysUnit u) 0 0 f.late (notify 1 34049 (fretPayload s u f (bit f.late)) s3)
    else s3
  let s5 := if 32768 ≤ f.tag && f.late then edgeAt s.devtime 69 (s.sysUnit u) 0 0 true s4 else s4
  reportFret u f (bit f.late) s5

/-- R186: every fret of a unit due in this tick, in the order in which they were armed. -/
def fireDue (u : Nat) (s : State) : State :=
  let due := (s.unit u).frets.filter (firesNow s u)
  due.foldl (fun s f => if (s.unit u).frets.any (fun g => g.id == f.id && g.live) then fireFret u f s else s) s

/-- R191: an immediate command enters the plan as a fired fret at the present odometer. -/
def planImmediate (u action : Nat) (s : State) : State :=
  let f : Fret :=
    { state := .fired, pos := odometer s u, effect := effectPos s u (action != 1), action := action, hasEffect := true,
      backward := (s.unit u).motion.backward }
  putFret u f s

/-- R454: frets of a follower's unit that leave the plan are cancelled there by tag. -/
def cancelRemote (u : Nat) (p : Fret → Bool) (s : State) : State :=
  if u < 128 then s
  else ((s.unit u).frets.filter fun f => f.live && p f).foldl (fun s f => sendZ 5 (u / 128) [1, u, f.tag] s) s

/-- Cancel device frets of a section unit, wherever it is. -/
def dropDevice (u : Nat) (p : Fret → Bool) (s : State) : State :=
  let q (f : Fret) : Bool := decide (32768 ≤ f.tag) && p f
  cancelFrets u q (cancelRemote u q s)

/-! ## Suspension (R203) -/

/-- R203: a unit's frets follow its direction: opposite ones are suspended, COMMITTED ones too (DEDUCED, assumption 57), the others compared
again. Of a follower's frets the lead does not know which are armed: it counts them all as suspended. -/
def followDirection (u : Nat) (s : State) : State :=
  let back := (s.unit u).motion.backward
  s.modUnit u fun x =>
    { x with frets := x.frets.map fun f =>
        let turned := if f.backward != back then { f with state := .suspended, suspendedAt := s.devtime } else f
        match f.state with
        | .armed | .committed => turned
        | .pending => if u < 128 then f else turned
        | .suspended => if f.backward = back then { f with state := if u < 128 then .armed else .pending } else f
        | .fired => f }

end Sys2Proof.Machine
end

