-- ==== Sys2Proof/Machine/Operands.lean ====
section
/-! DEFINITION. Operands: the outputs and lines a request names, whether each can be driven now (R361, R393, R526, R527,
R319), what holds it, and the element numbering of requests (R413). -/

namespace Sys2Proof.Machine

/-! ## Outputs as lines -/

/-- The region of a line (Table 01-6). -/
def regionOfLine : Line → Nat
  | .unit u => regionOf (clusterOf u)
  | .switch n => swRegionOf n
  | .fi _ | .fo _ | .ai _ => 6

/-- The power die of a line. -/
def dieOfLine : Line → Nat
  | .unit u => dieOfUnit u
  | .switch _ | .fi _ | .fo _ | .ai _ => 4

/-- The ledger elements above a line, its own first. -/
def elementsOf (s : State) : Line → List Nat
  | .unit u => chainUnit s u ++ [pkgKey, sysKey]
  | .switch n => chainSw s n ++ [pkgKey, sysKey]
  | .fo o => chainFo s o ++ [pkgKey, sysKey]
  | .fi _ | .ai _ => []

/-- The output's bridge link is silent (R322). -/
def linkDown (s : State) (l : Line) : Bool := (s.die (dieOfLine l)).silent

/-- The output is held in its safe state (R526): its die waits for the re-enable of R399, or R49 or R295 brought it there. -/
def lineHeld (s : State) (l : Line) : Bool :=
  (s.die (dieOfLine l)).heldSafe || (elementsOf s l).any (fun k => s.ledger.heldSafe.contains k)
    || match l with
      | .switch n => s.ventHeld.contains (swClusterOf n)
      | _ => false

/-- R160: W of a section unit; one that the configuration does not set is a cell of the open field, with none open the smaller cell
(DESIGN CHOICE, assumption 56). -/
def widthOf (s : State) (u : Nat) : Nat :=
  ((s.secOf u).bind (·.wMm)).getD (((s.cov.opened.bind s.fieldEntry).map (·.cell)).getD 50)

/-- R29: a power die's logic is fed while one of its VBAT groups is there. -/
def dieFed (s : State) (d : Nat) : Bool := (groupsOfDie d).any fun g => tget s.power.groups false g

/-- R527: D4 samples its inputs while its logic is fed. -/
def sampled (f : State → State) (s : State) : State := if dieFed s 4 then f s else s

/-- The line's region is without its VBAT group (R527). -/
def regionOff (s : State) (l : Line) : Bool := !tget s.power.groups false (regionOfLine l)

/-- The connector group of a line, if it is in one (R317). -/
def groupOfLine (s : State) (l : Line) : Option Nat :=
  (s.cfg.fieldIo.groups.zipIdx.find? fun g => g.1.lines.contains l).map (·.2)

/-- The line's group is away, or back and not re-armed (R318, R319). -/
def lineAway (s : State) (l : Line) : Bool :=
  match groupOfLine s l with
  | some g => s.group g != .present
  | none => false

/-- R318: the individual wire-break and open-load events of a line are not raised while its group is away. -/
def muted (s : State) (l : Line) : Bool :=
  match groupOfLine s l with
  | some g => s.group g == .away
  | none => false

/-- The element is unavailable (R361, R362). -/
def unavailable (s : State) (l : Line) : Bool :=
  s.start.uncalibrated.contains (regionOfLine l) || match l with
    | .unit u => s.start.badUnits.contains u
    | .switch n => s.start.badSwitches.contains n
    | .fo o => s.start.badOutputs.contains o
    | .fi i => s.start.badInputs.contains i
    | .ai a => s.start.badAnalogs.contains a

/-- Whether a loop's output binding is this output (R261). -/
def binds (b : OutputBinding) (l : Line) : Bool :=
  match b, l with
  | .prop u, .unit v => u == v
  | .duty u, .unit v => u == v
  | .swPwm n, .switch m => n == m
  | _, _ => false

/-- The loop that drives an output, if any. -/
def boundLoop (s : State) (l : Line) : Option Nat := (s.cfg.loops.find? fun p => binds p.2.out l).map (·.1)

/-- The output a loop drives, as a line. -/
def outputOf (b : OutputBinding) : Option Line :=
  match b with
  | .prop u | .duty u => some (.unit u)
  | .swPwm n => some (.switch n)
  | .none | .canSp .. | .dutyTrim _ => none

/-- Whether outputs may be driven at all (R368, R393). -/
def enabled (s : State) : Bool := s.host.outputsEnabled

/-- Steps 7 and 8 of Table 14-1 for a request that would turn an output on, change its setpoint, duty or mode, or arm a fret
on it: outputs enabled, region present, group present; then held, silent or bound; then unavailable. -/
def driveChecks (s : State) (l : Line) : List (Bool × Nat) :=
  [(!enabled s || regionOff s l || lineAway s l, resBadState),
   (lineHeld s l || linkDown s l || (boundLoop s l).isSome, resLocked),
   (unavailable s l, resDenied)]

/-- Whether the device itself may drive an output: the same conditions, without the binding. -/
def drivable (s : State) (l : Line) : Bool :=
  enabled s && !regionOff s l && !lineAway s l && !lineHeld s l && !linkDown s l && !unavailable s l

/-! ## Unit numbers of requests (R413) -/

/-- Where the unit that a request names stands. -/
inductive UnitRef where
  | own (u : Nat) | follower (pkg u : Nat) | beyond
deriving DecidableEq, Repr

/-- R413: system unit numbers; a package outside a system has 0 to 127, and a follower names its own units. -/
def unitRef (s : State) (n : Nat) : UnitRef :=
  if n < 128 && !s.follower then .own n
  else if s.lead then
    if s.cfg.package.members.contains (n / 128) && decide (n / 128 ≠ 0) then .follower (n / 128) (n % 128) else .beyond
  else if s.follower && n / 128 == s.cfg.package.pkgIndex then .own (n % 128)
  else .beyond

/-- The own unit a request names, or 128 where it names none. -/
def ownUnit (s : State) (n : Nat) : Nat :=
  match unitRef s n with
  | .own u => u
  | .follower .. | .beyond => 128

/-- Whether a request's unit number is out of range. -/
def unitBeyond (s : State) (n : Nat) : Bool := unitRef s n == .beyond

/-- A pair member (R26). -/
def pairMember (s : State) (u : Nat) : Bool := (s.unitCfg u).mode == .pairedMember

/-- A unit that the configuration leaves unused (R228). -/
def unusedUnit (s : State) (u : Nat) : Bool := !(s.unitCfg u).used

/-! ## Field frame, positions -/

/-- A unit's reference point in the field frame, mm (R188, R168): the package's fused position and heading with the unit's
offsets, forward along the heading and right across it. -/
def unitPos (s : State) (e n hdg : Int) (u : Nat) : Int × Int :=
  let sn := sinMdeg hdg
  let cs := cosMdeg hdg
  let c := s.unitCfg u
  (e + roundDiv (c.xMm * sn + c.yMm * cs) 1073741824, n + roundDiv (c.xMm * cs - c.yMm * sn) 1073741824)

/-! ## Clamps and readings of a command -/

/-- The clamp energy in uJ and the OL_THR verdict of a channel's turn-off (R290). -/
def clampOf (cs : Clamps) (n : Nat) : Nat × Bool :=
  match cs.find? fun c => c.1 == n with
  | some c => c.2
  | none => (0, false)

end Sys2Proof.Machine
end

