-- ==== Sys2Proof/Machine/SwitchOps.lean ====
section
/-! DEFINITION. Switch channels: turn-on, turn-off, faults and restarts (Table 09-3), clamp energy (R290 to R292), the vent
budget (R293, R294), disturbance windows (R297, R298) and N_SW_LOCKED (R296). -/

namespace Sys2Proof.Machine

/-! ## Ratings and parameters -/

/-- Table 09-1: single-event clamp limit, uJ. -/
def clampLimit (n : Nat) : Nat := if n < 16 then 150000 else 400000
/-- Table 09-1: vent capacity of a switch cluster, uJ. -/
def ventCapacity (c : Nat) : Nat := if c < 4 then 1000000 else 2000000
/-- Table 09-1: vent leak of a switch cluster in uJ per 2 us. -/
def ventLeak2 (c : Nat) : Nat := if c < 4 then 3 else 6
/-- R293: FREE of a switch cluster, uJ, signed. -/
def ventFree (s : State) (c : Nat) : Int := ventCapacity c + (s.vent c).freeBelowCap
/-- The limp fuse entry that drives a channel: entry number and RETRY (Table 09-7). -/
def limpEntry (s : State) (n : Nat) : Option (Nat × Nat) :=
  (s.storage.fuses.zipIdx.find? fun e => bitAt e.1 5 && e.1 % 32 == n).map fun e => (e.2, bitsAt e.1 6 2)
/-- RETRY_N in force (R302). -/
def retryN (s : State) (n : Nat) : Nat :=
  match limpEntry s n with
  | some e => if (s.sw n).limp then e.2 else (s.swCfg n).retryN
  | none => (s.swCfg n).retryN
/-- R302: whether D4 runs limp home on defaults, its copy of the configuration failing its CRC. -/
def limpDefaults (s : State) (n : Nat) : Bool := (s.sw n).limp && !(s.die 4).tableOk
/-- INRUSH_T in us. -/
def inrushUs (s : State) (n : Nat) : Nat := if limpDefaults s n then 40000 else 1000 * inrushMsOf (s.swCfg n)
/-- BACKOFF in us. -/
def backoffUs (s : State) (n : Nat) : Nat := if limpDefaults s n then 100000 else 1000 * (s.swCfg n).backoffMs
/-- R282, R297: I_LIM of a channel, mA: the multiple of its inrush window, at least 3.0 × I_LOAD inside a disturbance window, and
1.5 × I_LOAD at all other times. R302: I_R and 5.0 in limp home on defaults. -/
def iLim (s : State) (n : Nat) : Nat :=
  let i := if limpDefaults s n then (if n < 16 then 6000 else 15000) else (s.swCfg n).iLoad
  let m := if limpDefaults s n then 10 else multHalfOf (s.swCfg n)
  (if disturbed s n then max m 6 else if (s.sw n).inrushEnd.isSome then m else 3) * i / 2
/-- Table 09-2, R285: the open-load threshold of a channel in mA; a PWM channel's is scaled by the duty of the period. -/
def openThreshold (s : State) (n : Nat) : Nat :=
  let c := s.swCfg n
  let thr := c.olThr.getD (max 50 (c.iLoad / 10))
  if c.pwmHz = 0 then thr else thr * (s.sw n).dutyNow / 10000
/-- Whether a channel's output is on. -/
def swOn (x : SwitchSt) : Bool :=
  match x.state with
  | .inrush | .on => true
  | .off | .backoff | .latchWait | .exhausted | .locked => false
/-- Whether a channel is in a fault state (R283, R287). -/
def swFaulted (x : SwitchSt) : Bool :=
  match x.state with
  | .backoff | .latchWait | .exhausted | .locked => true
  | .off | .inrush | .on => false

/-- R290: E_DECL in uJ at a VBAT group of `mv`: half L I squared × 44 / (44 − V); mA² × uH is 10^-12 J. -/
def eDecl (s : State) (n mv : Nat) : Nat :=
  let c := s.swCfg n
  if c.extFreewheel then 0
  else (roundDiv ((c.lLoadUh * c.iLoad * c.iLoad * 44000 : Nat) : Int) (2000000 * (44000 - min mv 43999))).toNat

/-! ## Notifications -/

/-- Table 09-4: N_SW_LOCKED on course 0. -/
def swLocked (n reason : Nat) (cleared : Bool) (need : Nat) (free : Int) (eta : Nat) (s : State) : State :=
  notify 0 34561 (le 8 s.devtime ++ le 1 n ++ le 1 reason ++ le 1 (bit cleared) ++ le 1 0 ++ le 4 need ++ le 4 free ++ le 4 eta) s

/-- ETA for reasons that need a command (R296). -/
def etaNever : Nat := 4294967295

/-- R296: the vent reason with its figures; ETA at the leak rate, in whole ms rounded up, never where leaking cannot free
enough. -/
def ventNotice (n : Nat) (cleared : Bool) (s : State) : State :=
  let c := swClusterOf n
  let f := ventFree s c
  let need := (s.sw n).eLast
  let short := ((need : Int) - f).toNat
  let eta := if (s.vent c).used < short then etaNever else ceilDiv (2 * short) (1000 * ventLeak2 c)
  swLocked n 0 cleared (ceilDiv need 1000) (f / 1000) (if cleared then 0 else eta) s

/-- Count one of the counters of Table 09-11. -/
def countSw (n i k : Nat) (s : State) : State :=
  s.modSw n fun x => { x with counters := modNth x.counters i fun v => (v + k) % 4294967296 }

/-! ## Clamp energy and vent budget -/

/-- R293: the channel's reservation returns to FREE. -/
def releaseVent (n : Nat) (s : State) : State :=
  let r := (s.sw n).ventReserved
  (s.modVent (swClusterOf n) fun v =>
    { v with reserved := v.reserved - r, freeBelowCap := v.freeBelowCap + r }).modSw n fun x => { x with ventReserved := 0 }

/-- R293: E_LAST moves from FREE to RESERVED. -/
def reserveVent (n : Nat) (s : State) : State :=
  let r := (s.sw n).eLast
  (s.modVent (swClusterOf n) fun v =>
    { v with reserved := v.reserved + r, freeBelowCap := v.freeBelowCap - r }).modSw n fun x => { x with ventReserved := r }

/-- R290, R291, R293: one clamp interval: E to USED, E_LAST, the counters and the recorder. -/
def clampEnergy (n : Nat) (cs : Clamps) (s : State) : State :=
  let e := (clampOf cs n).1
  let mj := ceilDiv e 1000
  let s1 := s.modVent (swClusterOf n) fun v => { v with used := v.used + e, freeBelowCap := v.freeBelowCap - e }
  let s2 := countSw n 7 mj (s1.modSw n fun x =>
    { x with eLast := if (clampOf cs n).2 then e else x.eLast, clampTotal := x.clampTotal + mj,
             clampMax := max x.clampMax mj, turnOffs := x.turnOffs + 1 })
  let s3 := if mj = 0 then s2 else offerOne 10 n ((mj : Nat) : Int) s2
  accumulate (fun r => { r with clamp := tmod r.clamp (0, 0, 0) n fun t => (t.1 + mj, max t.2.1 mj, t.2.2 + 1) }) s3

/-- A channel becomes LOCKED (R286, R292); any output it had is already off. -/
def lockSw (n cause : Nat) (s : State) : State :=
  swLocked n cause false 0 0 etaNever (s.modSw n fun x =>
    { x with state := .locked, lockCause := cause, ventWait := false, creditWait := false, inrushEnd := none })

/-- R292: the verdict on a turn-off's clamp energy. -/
def judgeClamp (n : Nat) (cs : Clamps) (s : State) : State :=
  let e := (clampOf cs n).1
  if clampLimit n < e then lockSw n 2 (fault (160 + n) n 5 3 e s)
  else if (s.swCfg n).extFreewheel && decide (5000 < e) then lockSw n 3 (fault (160 + n) n 6 3 e s)
  else s

/-- The output of a channel that is on goes off and the channel enters `next`: credits, vent budget and clamp. -/
def cutSw (n : Nat) (next : SwState) (cs : Clamps) (s : State) : State :=
  let s1 := clampEnergy n cs (releaseVent n (releaseSw n s))
  let s2 := s1.modSw n fun x =>
    { x with state := next, inrushEnd := none, surchargeEnd := none, extended := false, dutyNow := 0 }
  judgeClamp n cs s2

/-- A channel's waits end and it goes to OFF, whatever its state but LOCKED and EXHAUSTED (R394, R527). -/
def offSw (n : Nat) (cs : Clamps) (s : State) : State :=
  match (s.sw n).state with
  | .inrush | .on => cutSw n .off cs s
  | .backoff | .latchWait => s.modSw n fun x => { x with state := .off, ventWait := false, creditWait := false }
  | .off | .exhausted | .locked => s

/-! ## Turn-on and restart -/

/-- Charges of a turn-on: limp home on defaults uses I_R (R302). -/
def swCharge (s : State) (n : Nat) : Nat :=
  if limpDefaults s n then (if n < 16 then 120 else 300) else swBaseOf s n + swSurchargeOf s n

/-- The ledger's answer to a turn-on: base and surcharge together (R37). -/
def chargeSw (n : Nat) (s : State) : Except Nat State :=
  if limpDefaults s n then
    (ledgerRequest false (along (chainSw s n) (swCharge s n)) s).map fun s =>
      s.modSw n fun w => { w with base := swCharge s n, surcharge := 0 }
  else acquireSw n s

/-- The vent check of R293. -/
def ventOk (s : State) (n : Nat) : Bool := decide (((s.sw n).eLast : Int) ≤ ventFree s (swClusterOf n))

/-- The channel turns on, charges and vent check granted: INRUSH, or ON where INRUSH_T is 0 (Table 09-3). -/
def startSw (n : Nat) (restart : Bool) (s : State) : State :=
  let t := inrushUs s n
  let s1 := (reserveVent n s).modSw n fun x =>
    { x with state := if t = 0 then .on else .inrush, inrushEnd := if t = 0 then none else some (s.devtime + t),
             surchargeEnd := if x.surcharge = 0 then none else some (s.devtime + t), extended := false,
             retryLeft := if restart then x.retryLeft - 1 else retryN s n, onSince := s.devtime,
             ventWait := false, creditWait := false, lockCause := 0, dutyNow := x.duty }
  let s2 := countSw n 0 1 (if restart then countSw n 1 1 s1 else s1)
  addTotal totSwOns 1 (if t = 0 then s2 else skipDrift (driftOfSw n) s2)

/-- R288: an automatic restart, when BACKOFF has passed: LATCH_WAIT while the latch is set, VENT_WAIT and CREDIT_WAIT while
the budget or the credit is short. Its request waits while the Keeper pair restarts (R22). -/
def tryRestart (n : Nat) (s : State) : State :=
  let x := s.sw n
  if x.latch then s.modSw n fun x => { x with state := .latchWait, triedAt := s.devtime }
  else if x.retryLeft = 0 then s
  else if !ventOk s n then s.modSw n fun x => { x with ventWait := true, creditWait := false, triedAt := s.devtime }
  else if coreOut s 0 && !x.limp then s.modSw n fun x => { x with ventWait := false, creditWait := false, triedAt := s.devtime }
  else match chargeSw n s with
    | .error l => (noteShort l s).modSw n fun x => { x with ventWait := false, creditWait := true, triedAt := s.devtime }
    | .ok s1 => startSw n true s1

/-- An EXHAUSTED channel that a command takes out sends its clearing notification (R296). -/
def leaveExhausted (n : Nat) (s : State) : State :=
  if (s.sw n).state == .exhausted then swLocked n 4 true 0 0 etaNever s else s

/-- R294: a turn-on refused for the vent budget. -/
def ventRefuse (n : Nat) (s : State) : State :=
  let s1 := countSw n 6 1 (s.modSw n fun x => { x with ventLocked := true })
  ventNotice n false (fault (184 + swClusterOf n) n 0 1 (s.sw n).eLast s1)

/-- R294: VENT_LOCKED clears once FREE has reached E_LAST. -/
def clearVentLock (n : Nat) (s : State) : State :=
  if (s.sw n).ventLocked && ventOk s n then ventNotice n true (s.modSw n fun x => { x with ventLocked := false }) else s

/-! ## Faults of a channel -/

/-- R287, R288: a fault of a channel that is on. `code` is 0 SW_SHORT, 1 SW_OVERCURRENT, 2 SW_OVERTEMP; its counter follows
at `code` + 2. -/
def swFault (n code : Nat) (cs : Clamps) (s : State) : State :=
  let left := (s.sw n).retryLeft
  let s1 := fault (160 + n) n code 3 0 (countSw n (code + 2) 1 (skipDrift (driftOfSw n) s))
  let s2 := (if 0 < left then s1 else swLocked n 4 false 0 0 etaNever (fault (160 + n) n 4 2 0 s1)).modSw n fun x =>
    { x with lastFault := code, tripAt := s.devtime, triedAt := s.devtime, onSince := s.devtime }
  cutSw n (if 0 < left then .backoff else .exhausted) cs s2

/-- R297, R298: the disturbance window of a cluster opens at a short of channel `n`; neighbours in their inrush window have
it extended once. -/
def disturb (n : Nat) (s : State) : State :=
  let c := swClusterOf n
  let s1 := s.modVent c fun v => { v with disturbEnd := some (s.devtime + 500) }
  (channelsOfCluster c).foldl (fun s m =>
    if m = n || (s.sw m).state != .inrush || (s.sw m).extended then s
    else s.modSw m fun x => { x with extended := true, inrushEnd := x.inrushEnd.map (· + 500) }) s1

/-! ## Duty of a PWM channel -/

/-- R284, R260: the duty of a channel, from its next period. -/
def setSwDuty (n duty : Nat) (s : State) : State := s.modSw n fun x => { x with duty := duty }

end Sys2Proof.Machine
end

