-- ==== Sys2Proof/Machine/LoopOps.lean ====
section
/-! DEFINITION. Rate loops: parameters and their ranges (R257, R268), feedback validity (R259), output application (R260,
R262), modes and transfer (R264 to R266), the loop equation (R263), plausibility (R270 to R272) and the duty stage's
arithmetic (R274 to R276). Terms are held in 2^-32 of their unit, fractions rounded down (assumption 13). -/

namespace Sys2Proof.Machine

/-! ## Parameters -/

/-- The range of a loop's output (Table 08-3); a PROP output ends at the unit's I_MAX (R261). -/
def outputRange (s : State) (b : OutputBinding) : Int × Int :=
  match b with
  | .prop u => (0, ((s.unitCfg u).iMax.getD 0 : Nat))
  | .duty _ | .swPwm _ => (0, 10000)
  | .dutyTrim _ => (32768, 98304)
  | .canSp .. | .none => (-2147483648, 2147483647)

/-- Table 08-1: a loop's parameters as the image gives them: OUT_LO and OUT_HI default to the output's range, I_LO and I_HI to plus and minus
the span of the output (Q16.16). -/
def imageParams (s : State) (c : LoopCfg) : LoopParams :=
  let r := outputRange s c.out
  let lo := c.outLo.getD r.1
  let hi := c.outHi.getD r.2
  { c.params with outLo := lo, outHi := hi, iLo := c.iLo.getD ((lo - hi) * 65536), iHi := c.iHi.getD ((hi - lo) * 65536) }

/-- Tables 08-2 and 08-3: what a binding declares is in its range. -/
def bindingOk (s : State) (c : LoopCfg) : Bool :=
  let field (offset width : Nat) : Bool := decide (8 ≤ width) && decide (width ≤ 32) && decide (8 * offset + width ≤ 512)
  (match c.fb with
    | .none => true
    | .odo k => decide (k < 8)
    | .sent k => decide (k < 2)
    | .ai a => decide (a < 8)
    | .bus n _ offset width _ _ age => decide (n < 4) && field offset width && decide (10 ≤ age) && decide (age ≤ 1000)
    | .current u => decide (u < 128))
  && match c.out with
    | .none => true
    | .prop u | .duty u => decide (u < 128)
    | .swPwm n => decide (n < 24) && decide (100 ≤ (s.swCfg n).pwmHz) && decide ((s.swCfg n).pwmHz ≤ 400)
    | .canSp n _ offset width _ period => decide (n < 4) && field offset width && decide (1 ≤ period) && decide (period ≤ 1000)
    | .dutyTrim p => decide (p < 2)

/-- R257, R268: every parameter of Tables 08-1 and 08-5 in its range. -/
def paramsOk (r : Int × Int) (p : LoopParams) : Bool :=
  let within (lo hi x : Int) : Bool := decide (lo ≤ x) && decide (x ≤ hi)
  within 0 1000 p.tdFMs && within r.1 r.2 p.outLo && within r.1 r.2 p.outHi && decide (p.outLo ≤ p.outHi)
    && decide (p.iLo ≤ p.iHi) && within 0 2147483647 p.ramp && within r.1 r.2 p.outSafe && within 0 5000 p.fbHoldMs
    && within 0 1 p.plausEnable && within 10 10000 p.tauMs && within 0 2550 p.thetaMs && p.thetaMs % 10 == 0
    && within 0 5000 p.tfMs && within 1 2147483647 p.rThr && within 10 60000 p.rTimeMs && within 0 1 p.policy

/-- Table 14-11: write one parameter; none for any other code. -/
def setParam (code : Nat) (v : Int) (p : LoopParams) : Option LoopParams :=
  match code with
  | 0 => some { p with kp := v }
  | 1 => some { p with ki := v }
  | 2 => some { p with kd := v }
  | 3 => some { p with tdFMs := v }
  | 4 => some { p with kff := v }
  | 5 => some { p with ffOffset := v }
  | 6 => some { p with outLo := v }
  | 7 => some { p with outHi := v }
  | 8 => some { p with iLo := v }
  | 9 => some { p with iHi := v }
  | 10 => some { p with ramp := v }
  | 11 => some { p with outSafe := v }
  | 12 => some { p with fbHoldMs := v }
  | 13 => some { p with plausEnable := v }
  | 14 => some { p with kM := v }
  | 15 => some { p with y0 := v }
  | 16 => some { p with tauMs := v }
  | 17 => some { p with thetaMs := v }
  | 18 => some { p with tfMs := v }
  | 19 => some { p with rThr := v }
  | 20 => some { p with rTimeMs := v }
  | 21 => some { p with policy := v }
  | _ => none

/-- The parameters as they will be once every queued write has taken effect (R268). -/
def paramsAhead (x : LoopSt) : LoopParams :=
  x.writes.foldl (fun p w => (setParam w.1 w.2 p).getD p) x.params

/-- Parameters whose write restarts the plausibility model (R271). -/
def restartsPlaus (code : Nat) : Bool := 14 ≤ code && code ≤ 17

/-- R271: restart the plausibility model at DEVTIME `now`. -/
def LoopSt.restartPlaus (x : LoopSt) (now : Nat) : LoopSt :=
  { x with yM := x.pv * 65536, rF := 0, uHist := List.replicate 256 x.u, plausAt := now, overSince := none, underSince := none }

/-- One coefficient write takes effect (R268). -/
def LoopSt.write (x : LoopSt) (code : Nat) (v : Int) (now : Nat) : LoopSt :=
  let y := { x with params := (setParam code v x.params).getD x.params }
  if restartsPlaus code then y.restartPlaus now else y

/-! ## Outputs -/

/-- The output unit's setpoint is written: clamped to I_MAX (R234). -/
def setProp (u : Nat) (ma : Nat) (s : State) : State :=
  s.modDrive u fun d => { d with setpoint := min ma ((s.unitCfg u).iMax.getD 0) }

/-- A PWM unit's duty changes; the running units of its cluster take their places afresh if their number changed (R230). -/
def setDuty (u duty : Nat) (s : State) : State :=
  let s1 := s.modDrive u fun d => { d with duty := duty }
  if runningPwm s1 (clusterOf u) = runningPwm s (clusterOf u) then s1 else regrid (clusterOf u) s1

/-- R260: a loop's output reaches a PWM unit: its duty, and its cycles, which start at the next grid start (assumption 14). -/
def applyDuty (u duty : Nat) (s : State) : State :=
  let s1 := setDuty u duty s
  if (s1.unit u).drive.cycling || duty = 0 then s1
  else regrid (clusterOf u) (s1.modDrive u fun d => { d with cycling := true })

/-- R260: a loop's output reaches a PWM switch channel: its duty from the next period; a channel in OFF turns on under the
channel rules (assumption 14). -/
def applySwDuty (n duty : Nat) (s : State) : State :=
  let s1 := setSwDuty n duty s
  if duty = 0 || (s1.sw n).state != .off || (s1.sw n).latch || !ventOk s1 n then s1
  else match chargeSw n s1 with
    | .ok s2 => startSw n false s2
    | .error _ => s1

/-- R260: apply a loop's output, if its output may be driven. -/
def applyLoop (l : Nat) (s : State) : State :=
  let u := (s.loop l).u
  match (s.loopCfg l).out with
  | .prop v => if drivable s (.unit v) && !faulted s v && (s.unit v).drive.modeEnabled then setProp v u.toNat s else s
  | .duty v => if drivable s (.unit v) && !faulted s v then applyDuty v u.toNat s else s
  | .swPwm n => if drivable s (.switch n) && !(s.sw n).limp then applySwDuty n u.toNat s else s
  | .dutyTrim p => { s with trims := tset s.trims p u.toNat }
  | .canSp .. | .none => s

/-- R262: whether a loop's output is in a fault state or in its safe state. -/
def outputBad (s : State) (l : Nat) : Bool :=
  match outputOf (s.loopCfg l).out with
  | none => false
  | some o => regionOff s o || lineAway s o || lineHeld s o || linkDown s o || match o with
      | .unit u => faulted s u
      | .switch n => swFaulted (s.sw n)
      | .fi _ | .fo _ | .ai _ => false

/-- R262: a loop's OUT_FAULT follows its output: it is raised, or the loop enters MANUAL at OUT_SAFE. -/
def followOutput (l : Nat) (s : State) : State :=
  let x := s.loop l
  let bad := outputBad s l
  if bad == x.outFault then s
  else if bad then fault 217 l 1 2 0 (s.modLoop l fun x => { x with outFault := true })
  else s.modLoop l fun x =>
    ({ x with outFault := false, mode := .manual, newMode := none, manual := x.params.outSafe,
              bump := 0, bumpSet := false, deviceHold := false }).restartPlaus s.devtime

/-- R262 for every loop. -/
def followLoops (s : State) : State := s.cfg.loops.foldl (fun s p => followOutput p.1 s) s

/-- A step that may put outputs into a fault or safe state, with the loops bound to them (R262). -/
def atOut (t : Nat) (f : State → State) (s : State) : Out := at_ t (fun s => followLoops (f s)) s

/-! ## Modes -/

/-- R264: a mode takes effect; R266 presets are due at the first AUTO sample, and BUMP ends. -/
def setMode (l : Nat) (m : LoopMode) (s : State) : State :=
  let s1 := s.modLoop l fun x =>
    let y := { x with mode := m, newMode := none, bump := 0, bumpSet := false,
                      i := if m == LoopMode.off then 0 else x.i,
                      u := if m == LoopMode.off then x.params.outSafe else x.u,
                      preset := if m == LoopMode.auto && x.mode != LoopMode.auto then (if x.mode == LoopMode.hold then 2 else 1) else 0 }
    y.restartPlaus s.devtime
  if m == LoopMode.off then applyLoop l s1 else s1

/-- Every loop goes to OFF (R394). -/
def loopsOff (s : State) : State := s.cfg.loops.foldl (fun s p => setMode p.1 .off s) s

/-! ## Feedback -/

/-- R259: one sample's verdict: invalid feedback is held and reported; three valid samples resume with a preset. -/
def judgeFeedback (l : Nat) (ok : Bool) (s : State) : State :=
  let x := s.loop l
  if !ok then
    let s1 := s.modLoop l fun x => { x with fbValidRun := 0 }
    if x.fbInvalid then s1
    else fault 217 l 0 2 0 (s1.modLoop l fun x =>
      { x with fbInvalid := true, fbHolding := true, fbInvalidAt := s.devtime })
  else if !x.fbInvalid then s
  else if x.fbValidRun < 2 then s.modLoop l fun x => { x with fbValidRun := x.fbValidRun + 1 }
  else s.modLoop l fun x =>
    ({ x with fbInvalid := false, fbHolding := false, fbValidRun := 0,
              preset := if x.mode == LoopMode.auto then 2 else x.preset }).restartPlaus s.devtime

/-! ## The loop equation -/

/-- Products are formed in 64 bits and saturated (R263). -/
def sat64 (x : Int) : Int := clamp (-9223372036854775808) 9223372036854775807 x

/-- R263: sp_r moved toward sp by at most RAMP × ts. -/
def ramped (x : LoopSt) (rate : Nat) : Int :=
  let goal := x.sp * q32
  if x.params.ramp = 0 then goal
  else
    let d := x.params.ramp * q32 / rate
    if goal ≤ x.spR then max goal (x.spR - d) else min goal (x.spR + d)

/-- R263, R266: one sample of the equation in MANUAL or AUTO, without its application. -/
def LoopSt.sample (x : LoopSt) (rate : Nat) (pv : Int) : LoopSt :=
  let p := x.params
  let spR := if x.mode == LoopMode.auto && x.preset = 1 then pv * q32
    else if x.mode == LoopMode.auto && x.preset = 2 then x.spR else ramped x rate
  let e := spR - pv * q32
  let pt := sat64 (p.kp * e / 65536)
  let d := sat64 ((p.tdFMs * x.d + p.kd * (x.pvPrev - pv) * 65536000) * rate / (p.tdFMs * rate + 1000))
  let ff := sat64 (p.kff * spR / 65536 + p.ffOffset * 65536)
  let iLo := p.iLo * 65536
  let iHi := p.iHi * 65536
  let want := if x.preset != 0 then x.u * q32 - ff - pt - d
    else if (x.satHi && decide (0 < e)) || (x.satLo && decide (e < 0)) then x.i
    else sat64 (x.i + p.ki * e / 65536 / rate)
  let auto := x.mode == LoopMode.auto
  let i := if auto then clamp iLo iHi want else x.i
  let raw := if auto then ff + pt + i + d else x.manual * q32
  let u := roundDiv (clamp (p.outLo * q32) (p.outHi * q32) raw) 4294967296
  { x with spR := spR, pv := pv, pvPrev := pv, d := d, i := i, u := u, satHi := decide (p.outHi * q32 < raw),
           satLo := decide (raw < p.outLo * q32), iClamped := i == iLo || i == iHi,
           bump := if auto && x.preset != 0 then roundDiv (i - want) 4294967296 else x.bump,
           bumpSet := if auto && x.preset != 0 then i != want else x.bumpSet,
           preset := if auto then 0 else x.preset }

/-! ## The duty stage -/

/-- R274: q × 655,360,000,000,000,000 in mL/s, from R, F_u, |v_unit| and W. -/
def flowScaled (s : State) (p u : Nat) : Nat :=
  tget s.rates 0 p * (s.unit u).rateFactor * mag (s.unit u).motion.vUm * widthOf s u

/-- One mL/s in the scale of `flowScaled`. -/
def flowOne : Nat := 655360000000000000

/-- R274: the duty in 0.01 % at a pressure in Pa, rounded to nearest with halves away from zero; none where the quotient has a
zero divisor. -/
def stageDuty (s : State) (p u pressurePa : Nat) : Option Nat :=
  let k := (s.productCfg p).kNozRaw
  let t := tget s.trims 65536 p
  let num := 10000 * flowScaled s p u * 4294967296
  let den := flowOne * k * t
  if den = 0 || pressurePa = 0 then none
  else some ((isqrt (4 * num * num * 1000 / (den * den * pressurePa)) + 1) / 2)

/-- R276: the trim loop's setpoint: the product's total flow over its applying units, mL/s. -/
def trimSetpoint (s : State) (p : Nat) : Int :=
  roundDiv ((s.productUnits p).foldl (fun a u => if (s.unit u).sect.applying then a + flowScaled s p u else a) 0 : Nat) flowOne

/-- R276: the stage writes a trim loop's setpoint, and holds the loop while no unit applies. -/
def trimLoop (l : Nat) (s : State) : State :=
  match (s.loopCfg l).out with
  | .dutyTrim p =>
    let any := (s.productUnits p).any fun u => (s.unit u).sect.applying
    let x := s.loop l
    let s1 := s.modLoop l fun x => { x with sp := trimSetpoint s p }
    if !any && x.mode == LoopMode.auto then (setMode l .hold s1).modLoop l fun x => { x with deviceHold := true }
    else if any && x.deviceHold then (setMode l .auto s1).modLoop l fun x => { x with deviceHold := false }
    else s1
  | _ => s

/-! ## Reads -/

/-- Table 14-10: one LOOP_STATUS_READ entry. -/
def loopEntry (s : State) (l : Nat) : List Byte :=
  let x := s.loop l
  le 4 (loopWord s l) ++ le 4 x.sp ++ le 4 (roundDiv x.spR 4294967296) ++ le 4 x.pv ++ le 4 x.u
    ++ le 4 (sat32 (x.i / 65536)) ++ le 4 (roundDiv x.rF 65536) ++ le 4 x.bump

end Sys2Proof.Machine
end

