-- ==== Sys2Proof/Machine/IoOps.lean ====
section
/-! DEFINITION. Field outputs (R315, R135), connector groups (R317 to R319), operator inputs (R311) and the section and
master switches they carry (Table 05-9). -/

namespace Sys2Proof.Machine

/-! ## Field outputs -/

/-- FO14, and in QUAD or with a direction level FO15, belong to the emulation (R135, Table 04-7). -/
def emulated (s : State) (o : Nat) : Bool :=
  let e := s.cfg.odo.emulation
  s.start.configActive && ((o = 14 && e.mode != 0) || (o = 15 && (e.mode == 2 || (e.mode == 1 && e.dirLevel))))

/-- A field output goes off: its credits return (Table 02-1); OPEN_LOAD clears with it. One in its fault state stays there. -/
def offFo (o : Nat) (s : State) : State :=
  if (s.fo o).st = 1 || (s.fo o).st = 3 then
    (releaseFo o s).modFo o fun x => { x with st := 0, openLoad := false, level := false }
  else s

/-- A field output turns on, its 10 credits granted; the refusing level otherwise. -/
def onFo (o : Nat) (s : State) : Except Nat State :=
  if (s.fo o).st = 1 then .ok s else (acquireFo o s).map fun s => s.modFo o fun x => { x with st := 1, onAt := s.devtime }

/-- R315: a field output enters its fault state. -/
def faultFo (o code : Nat) (s : State) : State :=
  fault 207 o code 3 0 ((releaseFo o (skipDrift [regKey 6] s)).modFo o fun x => { x with st := 2, cause := code + 1, openLoad := false, level := false })

/-! ## One output off, whatever it is -/

/-- An output goes off: frets cancelled, credits released (R318, R394, R527). Channels that limp home drives are not touched. -/
def offLine (cs : Clamps) (s : State) : Line → State
  | .unit u => forceOff u s
  | .switch n => if (s.sw n).limp then s else offSw n cs s
  | .fo o => offFo o s
  | .fi _ | .ai _ => s

/-- Every output that the configuration uses. -/
def usedOutputs (s : State) : List Line :=
  s.usedUnits.map Line.unit
    ++ s.cfg.switches.filterMap (fun p => if p.2.used then some (Line.switch p.1) else none)
    ++ s.cfg.fieldIo.outputs.filterMap (fun p => if p.2.used then some (Line.fo p.1) else none)
    ++ [14, 15].filterMap fun o => if emulated s o && !(s.foCfg o).used then some (Line.fo o) else none

/-- The outputs of a power die. -/
def outputsOfDie (s : State) (d : Nat) : List Line := (usedOutputs s).filter fun l => dieOfLine l == d

/-- Whether an output is off (R373, R300, R334). -/
def lineOff (s : State) : Line → Bool
  | .unit u => unitOff (s.unit u).drive
  | .switch n => !swOn (s.sw n)
  | .fo o => (s.fo o).st != 1 && (s.fo o).st != 3
  | .fi _ | .ai _ => true

/-- Every output is off. -/
def allOff (s : State) : Bool := (usedOutputs s).all (lineOff s)

/-! ## Safe-state codes (Table 10-7) -/

/-- The code of an output in its die's safe-state table (R321). -/
def safeCode (s : State) : Line → SafeCode
  | .unit u => tget s.cfg.safe.units .off u
  | .switch n => tget s.cfg.safe.switches .off n
  | .fo o => tget s.cfg.safe.outputs .off o
  | .fi _ | .ai _ => .off

/-- Code ON for a unit: on in hold through its profile, a PWM unit at duty 10,000 (Table 10-7); refused credit keeps it off. -/
def safeOnUnit (u : Nat) (s : State) : State :=
  if faulted s u || unavailable s (.unit u) || regionOff s (.unit u) || lineAway s (.unit u) then s
  else match (s.unit u).drive.mode with
    | .pwm =>
      let s1 := setDuty u 10000 s
      if (s1.unit u).drive.modeEnabled then pwmOn u {} s1
      else match enableMode u s1 with
        | .ok s2 => pwmOn u {} s2
        | .error _ => s1
    | .onoff =>
      if (s.unit u).drive.base != 0 then applyOn u {} s
      else match acquireBase u (baseOf s u .onoff) false s with
        | .ok s1 => applyOn u {} s1
        | .error _ => s
    | .prop | .pairedMember => s

/-- Code ON for a switch channel. -/
def safeOnSw (n : Nat) (s : State) : State :=
  if (s.sw n).state != .off || (s.sw n).latch || unavailable s (.switch n) || regionOff s (.switch n) || lineAway s (.switch n)
    || !ventOk s n then s
  else match chargeSw n s with
    | .ok s1 => startSw n false s1
    | .error _ => s

/-- Code ON for a field output. -/
def safeOnFo (o : Nat) (s : State) : State :=
  if (s.fo o).st != 0 || unavailable s (.fo o) || regionOff s (.fo o) || lineAway s (.fo o) then s
  else match onFo o s with
    | .ok s1 => s1
    | .error _ => s

/-- R321, R396: an output takes its safe-state code; its frets are discarded. Emulation outputs stop and hold their levels
(R322). -/
def safeLine (cs : Clamps) (s : State) (l : Line) : State :=
  let s0 := match l with
    | .unit u => cancelFrets u (fun _ => true) s
    | _ => s
  match safeCode s l, l with
  | .on, .unit u => safeOnUnit u s0
  | .on, .switch n => if (s0.sw n).limp then s0 else safeOnSw n s0
  | .on, .fo o => safeOnFo o s0
  | .holdLast, _ => s0
  | _, l => offLine cs s0 l

/-- Every output of a die takes its code, or goes off when the table fails its CRC (R322, R323). -/
def safeDie (d : Nat) (cs : Clamps) (s : State) : State :=
  if (s.die d).tableOk then (outputsOfDie s d).foldl (safeLine cs) s else (outputsOfDie s d).foldl (offLine cs) s

/-- R394, Table 09-3: the disable is a host off for a channel in EXHAUSTED. -/
def offExhausted (s : State) : State :=
  s.cfg.switches.foldl (fun s p =>
    if (s.sw p.1).state == SwState.exhausted && !(s.sw p.1).limp && !linkDown s (.switch p.1) then
      (leaveExhausted p.1 s).modSw p.1 fun x => { x with state := .off }
    else s) s

/-- R394: every valve unit, switch channel and field output that D0 can reach goes off, and every loop goes to OFF. -/
def disableOutputs (cs : Clamps) (s : State) : State :=
  let s1 := offExhausted ((usedOutputs s).foldl (fun s l => if linkDown s l then s else offLine cs s l) s)
  loopsOff (s1.modHost fun h => { h with outputsEnabled := false })

/-! ## Connector groups -/

/-- The sentinels of a group (R317). -/
def sentinels (s : State) (g : GroupCfg) : List Line :=
  g.lines.filter fun l => match l with
    | .fi i => (s.fiCfg i).wb
    | .ai a => (s.aiCfg a).mode == .ma20
    | .unit _ | .switch _ | .fo _ => false

/-- Lines of a group that are observable now (R318); lines that limp home drives take no part (R320). -/
def observable (s : State) (g : GroupCfg) : List Line :=
  g.lines.filter fun l => match l with
    | .fi i => (s.fiCfg i).wb
    | .ai a => (s.aiCfg a).mode == .ma20
    | .switch n => swOn (s.sw n) && !(s.sw n).limp
    | .unit _ | .fo _ => !lineOff s l

/-- The group numbered `g`. -/
def groupCfg (s : State) (g : Nat) : GroupCfg := nth s.cfg.fieldIo.groups {} g

/-- Mark the inputs and field outputs of a group as away or not. -/
def markAway (g : GroupCfg) (v : Bool) (s : State) : State :=
  g.lines.foldl (fun s l => match l with
    | .fi i => s.modFi i fun x => { x with away := v }
    | .fo o => s.modFo o fun x => { x with away := v }
    | .unit _ | .switch _ | .ai _ => s) s

/-- Set a group's state. -/
def setGroup (g : Nat) (v : GroupSt) (s : State) : State := { s with groups := tset s.groups g v }

/-- R319: a group that is back is armed again. -/
def rearm (g : Nat) (s : State) : State := setGroup g .present s

/-! ## Operator inputs -/

/-- R319: groups whose re-arm input goes from open to closed. -/
def rearmBy (i : Nat) (s : State) : State :=
  (List.range s.cfg.fieldIo.groups.length).foldl (fun s g =>
    if (groupCfg s g).rearmIn = some i && s.group g == .back then rearm g s else s) s

/-- R311: an operator input's change is taken and reported in N_OPERATOR; an opening key input is KEY_OFF (R312). The payload ends
in the DEVTIME of the first sample of the stable run. -/
def operatorChange (i : Nat) (v : Bool) (firstUs : Nat) (s : State) : State :=
  let s1 := s.modFi i fun x => { x with state := v }
  let s2 := edge 204 i 0 (notify 0 34562 (le 1 i ++ le 1 (bit v) ++ le 2 0 ++ le 8 firstUs) s1)
  if v then rearmBy i s2 else s2

end Sys2Proof.Machine
end

