-- ==== Sys2Proof/Machine/OdoOps.lean ====
section
/-! DEFINITION. Odometry: counted edges and channel speed (R108 to R120), ground-speed sources (R126 to R128), per-unit speed
and acceleration (R130 to R134), emulation (R136 to R140). Speeds are held in µm/s. -/

namespace Sys2Proof.Machine

/-! ## Fast channels -/

/-- The channel that an input belongs to: a quadrature channel takes its even input and the next (R106). -/
def channelOf (s : State) (i : Nat) : Option Nat :=
  if i % 2 = 1 && ((tfind s.cfg.odo.channels (i - 1)).any fun c => c.quad) then some (i - 1)
  else (tfind s.cfg.odo.channels i).map fun _ => i

/-- R310, R311: the logical state that a contact state gives: a BROKEN input reads open, and INVERT turns it round. -/
def logical (s : State) (i : Nat) (closed : Bool) : Bool :=
  ((closed && (s.fi i).cls != 3) != (s.fiCfg i).invert)

/-- E of R108: edges counted per pulse. -/
def edgesPer (c : ChannelCfg) : Nat := if c.quad then 4 else 1

/-- The speed of `n` edges in `dt` steps of 0.25 µs, in 10^-6 of the channel's speed unit × 1000: µm/s for a wheel (R115). -/
def edgeSpeed (c : ChannelCfg) (n dt : Nat) : Nat := n * 4000000000000000 / (max 1 (c.scale * edgesPer c) * max 1 dt)

/-- R115: the speed from a history of edge times, newest first. -/
def measured (c : ChannelCfg) (hist : List Nat) : Nat :=
  match hist with
  | [] => 0
  | t0 :: rest =>
    let n := max 1 (rest.take 64 |>.filter fun t => decide (t0 ≤ t + 4000)).length
    edgeSpeed c n (t0 - nth rest t0 (n - 1))

/-- R116: the reported speed at DEVTIME `now`. -/
def reported (s : State) (ch : Nat) : Int :=
  let x := s.chan ch
  if x.standstill || x.starting || x.reversal then 0
  else
    let cap := edgeSpeed (s.chanCfg ch) 1 (4 * s.devtime - x.lastEdge.getD 0)
    let v := min (mag x.vMeas) cap
    if x.negative then -(v : Int) else v

/-- R120: the direction a single-channel input has now, negative for reverse, and whether it is unknown. -/
def dirOf (s : State) (ch : Nat) : Bool × Bool :=
  if (s.chanCfg ch).type == .flow then (false, false)
  else match (s.chanCfg ch).dir with
    | .forward => (false, false)
    | .gnss => (s.odo.dopplerNeg, s.odo.doppler.isNone)
    | .input i => ((s.fi i).state, false)

/-- R108, R114: DIST grows or falls by D = 10^6 / (SCALE × E) milli-units; the part below one is kept exactly. -/
def ChannelSt.moved (c : ChannelCfg) (neg : Bool) (x : ChannelSt) : ChannelSt :=
  let den : Int := max 1 (c.scale * edgesPer c)
  let acc : Int := x.distPart + (if neg then -1000000 else 1000000)
  { x with dist := x.dist + acc / den, distPart := (acc % den).toNat }

/-- One counted edge in a direction, at a time in steps of 0.25 µs (R114, R115, R118, R119). -/
def ChannelSt.edge (c : ChannelCfg) (t : Nat) (neg : Bool) (x : ChannelSt) : ChannelSt :=
  let y := { x.moved c neg with edgeCount := (x.edgeCount + 1) % 4294967296, lastEdge := some t, negative := neg }
  if x.standstill then { y with standstill := false, starting := true, edges := [t], vMeas := 0 }
  else if x.negative != neg then
    { y with reversal := !x.starting, edges := [t], vMeas := 0 }
  else
    let hist := (t :: x.edges).take 65
    let v := measured c hist
    { y with starting := false, reversal := false, edges := hist, vMeas := if neg then -(v : Int) else v }

/-- R110, R111: a refused edge counts, and is remembered for 100 ms (R112). -/
def ChannelSt.refuse (t : Nat) (quad : Bool) (x : ChannelSt) : ChannelSt :=
  { x with edgeFast := if quad then x.edgeFast else (x.edgeFast + 1) % 4294967296,
           quadError := if quad then (x.quadError + 1) % 4294967296 else x.quadError,
           refused := t :: x.refused.filter fun u => decide (t < u + 100000) }

/-- The levels of a channel's lines change, `q` steps of 0.25 µs past DEVTIME (R108 to R111). -/
def lineChange (ch q : Nat) (a b : Bool) (s : State) : State :=
  let c := s.chanCfg ch
  let x := s.chan ch
  let t := s.devtime
  let s1 := s.modChan ch fun x => { x with lineA := a, lineB := b }
  let early := match x.lastEdge with
    | some e => decide (4 * t + q < e + 4 * c.minEdgeUs)
    | none => false
  let count (neg : Bool) (s : State) : State :=
    if early then s.modChan ch (ChannelSt.refuse t false)
    else
      let s2 := s.modChan ch (ChannelSt.edge c (4 * t + q) neg)
      match c.type, c.product with
      | .flow, some p => addTotal (totProduct + p) (1000000000000 / max 1 c.scale) s2
      | _, _ => s2
  if c.quad then
    if x.lineA != a && x.lineB != b then s1.modChan ch (ChannelSt.refuse t true)
    else if x.lineA != a then count (a == b) s1
    else if x.lineB != b then count (b != a) s1
    else s1
  else if x.lineA != a && a != c.falling then
    let d := dirOf s ch
    count d.1 (s1.modChan ch fun x => { x with dirUnknown := d.2 })
  else s1

/-! ## Ground-speed sources -/

/-- The ranked sources, GNSS Doppler last where the configuration does not rank it (R126). A list beyond eight, or one that names a SHAFT
or FLOW channel, is used as it stands (DESIGN CHOICE, assumption 54). -/
def speedSources (s : State) : List SpeedSource :=
  if s.cfg.odo.sources.contains .gnss then s.cfg.odo.sources else s.cfg.odo.sources ++ [.gnss]

/-- The INSTANCE of a source (Table 16-2, row 202). -/
def sourceId : SpeedSource → Nat
  | .channel n => n
  | .isoWheel | .isoGround => 254
  | .gnss => 255

/-- GNSS Doppler is available (R126). -/
def dopplerOk (s : State) : Bool := decide (1 ≤ s.nav.fix) && decide (s.nav.fix < 5) && decide (5 ≤ s.nav.nsv)

/-- A source's speed while it is available (R126), µm/s. -/
def sourceSpeed (s : State) : SpeedSource → Option Int
  | .channel n => if (tfind s.cfg.odo.channels n).isSome then some (reported s n) else none
  | .isoWheel => s.odo.isoWheel.bind fun v => if s.devtime < v.2 + 300000 then some v.1 else none
  | .isoGround => s.odo.isoGround.bind fun v => if s.devtime < v.2 + 300000 then some v.1 else none
  | .gnss => if dopplerOk s then s.odo.doppler else none

/-- A source reports STANDSTILL or STARTING (R127, R128); an ISO 11783 speed, which has no such flags, while it is 0 (DESIGN CHOICE,
assumption 54). -/
def sourceStopped (s : State) : SpeedSource → Bool
  | .channel n => (s.chan n).standstill || (s.chan n).starting
  | .isoWheel => (sourceSpeed s .isoWheel) == some 0
  | .isoGround => (sourceSpeed s .isoGround) == some 0
  | .gnss => false

/-- Excluded under R112 or R113. -/
def noisyChannel (s : State) : SpeedSource → Bool
  | .channel n => (s.chan n).noisy || (s.chan n).wireBreak
  | _ => false

/-- Sources available now, with their ranks (from 0) and speeds. -/
def availableSources (s : State) : List (Nat × SpeedSource × Int) :=
  (speedSources s).zipIdx.filterMap fun p =>
    if noisyChannel s p.1 then none else (sourceSpeed s p.1).map fun v => (p.2, p.1, v)

/-- Whether two speeds lie apart (R127). -/
def apart (a b : Int) : Bool := decide (max 300000 (max (mag a) (mag b) / 10) < mag (a - b))

/-- Every pair of ranks, lower first. -/
def rankPairs (l : List (Nat × SpeedSource × Int)) : List (Nat × Int × Nat × Int) :=
  match l with
  | [] => []
  | a :: r => r.map (fun b => (a.1, a.2.2, b.1, b.2.2)) ++ rankPairs r

/-- R127: disagreements are timed from their onset and end with the first agreement. A pair that was raised stays so while one of the
two is unavailable, its 2 s beginning anew. -/
def trackPairs (s : State) : State :=
  let old := s.odo.pairs
  let now := rankPairs (availableSources s)
  let step (t : Tbl (Nat × Bool)) (p : Nat × Int × Nat × Int) : Tbl (Nat × Bool) :=
    if apart p.2.1 p.2.2.2 then tset t (16 * p.1 + p.2.2.1) (tget old (s.devtime, false) (16 * p.1 + p.2.2.1)) else t
  let away := old.filter fun q => q.2.2 && !now.any fun p => 16 * p.1 + p.2.2.1 == q.1
  s.modOdo fun o => { o with pairs := away.foldl (fun t q => tset t q.1 (s.devtime, true)) (now.foldl step []) }

/-- R127: agreement of an excluded source with the primary, and standstill against another's motion, are timed while the source is
available. One that stands still for 300 ms against 500 mm/s of another is excluded. -/
def trackStop (av : List (Nat × SpeedSource × Int)) (prim : Option Int) (s : State) (p : SpeedSource × Nat) : State :=
  let x := tget s.odo.sources {} p.2
  match av.find? fun a => a.1 == p.2 with
  | none => s.modOdo fun o => { o with sources := tset o.sources p.2 { x with stoppedSince := none, agreeSince := none } }
  | some a =>
    let other := av.any fun b => b.1 != p.2 && decide (500000 ≤ mag b.2.2)
    let since := if sourceStopped s p.1 && other then some (x.stoppedSince.getD s.devtime) else none
    let agree := match prim with
      | some v => if x.excluded && !apart v a.2.2 then some (x.agreeSince.getD s.devtime) else none
      | none => none
    let out := match since with
      | some t => decide (t + 300000 ≤ s.devtime)
      | none => false
    let s1 := s.modOdo fun o =>
      { o with sources := tset o.sources p.2 { x with stoppedSince := since, agreeSince := agree, excluded := x.excluded || out } }
    if out && !x.excluded then fault 202 (sourceId p.1) 1 2 0 s1 else s1

/-- R127: every source. -/
def trackStops (s : State) : State :=
  let av := availableSources s
  let prim := (s.odo.primary.bind fun r => av.find? fun a => a.1 == r).map fun a => a.2.2
  (speedSources s).zipIdx.foldl (trackStop av prim) s

/-- The source that R127 picks now, with its rank and speed. -/
def pickSource (s : State) : Option (Nat × SpeedSource × Int) :=
  (availableSources s).find? fun a => !(tget s.odo.sources {} a.1).excluded

/-- R127: the primary; a change is blended over 100 ms and raises SPEED_SOURCE, but for the first primary after an activation. -/
def changePrimary (s : State) : State :=
  let rank := (pickSource s).map fun a => a.1
  let src (r : Option Nat) : Nat := (r.map fun r => sourceId (nth (speedSources s) .gnss r)).getD 255
  if rank = s.odo.primary then s
  else if !s.odo.primarySeen then s.modOdo fun o => { o with primary := rank, primarySeen := true, blendFrom := none }
  else fault 202 (src (if rank.isSome then rank else s.odo.primary)) 0 1 0
    (s.modOdo fun o => { o with primary := rank, blendFrom := some (s.devtime, s.odo.speed) })

/-- R127, R128: the primary, the package ground speed at this epoch and its standstill. -/
def choosePrimary (s : State) : State :=
  let pick := pickSource s
  let now := (pick.map fun a => a.2.2).getD 0
  let s1 := changePrimary s
  let v := match s1.odo.blendFrom with
    | none => now
    | some (t, from_) =>
      if t + 100000 ≤ s1.devtime then now else from_ + roundDiv ((now - from_) * (s1.devtime - t : Nat)) 100000
  let doppler := if dopplerOk s1 then s1.odo.doppler else none
  let stop := match pick with
    | none => false
    | some (_, .gnss, v) => decide (mag v < 100000)
    | some (_, x, _) => sourceStopped s1 x && (match doppler with
        | some d => decide (mag d < 100000)
        | none => true)
  s1.modOdo fun o =>
    { o with speed := v, standstill := stop,
             blendFrom := match o.blendFrom with
               | some (t, f) => if t + 100000 ≤ s1.devtime then none else some (t, f)
               | none => none }

/-- R120: a single-channel input that takes its direction from GNSS. -/
def gnssDir (c : ChannelCfg) : Bool := !c.quad && c.type != .flow && c.dir == .gnss

/-- R120: the Doppler speed along the heading, the sign that DIR takes from it, and DIR_UNKNOWN without it. -/
def takeDoppler (d : Option Int) (s : State) : State :=
  let s1 := s.modOdo fun o =>
    { o with doppler := d.map (· * 1000),
             dopplerNeg := match d with
               | some v => if v < -100 then true else if 100 < v then false else o.dopplerNeg
               | none => o.dopplerNeg }
  s1.cfg.odo.channels.foldl (fun s p =>
    if gnssDir p.2 && (s.chan p.1).dirUnknown != d.isNone then s.modChan p.1 fun x => { x with dirUnknown := d.isNone } else s) s1

/-- Excluded from the package ground speed under R127 (Table 04-5 EXCLUDED). -/
def excludedChannel (s : State) (n : Nat) : Bool :=
  (speedSources s).zipIdx.any fun p => p.1 == SpeedSource.channel n && (tget s.odo.sources {} p.2).excluded

/-- Table 04-5 VALID: configured and not excluded. -/
def validChannel (s : State) (n : Nat) : Bool :=
  (tfind s.cfg.odo.channels n).isSome && !noisyChannel s (.channel n) && !excludedChannel s n

/-- Table 04-5: the status word of a fast channel. -/
def channelWord (s : State) (n : Nat) : Nat :=
  let x := s.chan n
  pack [(bit (validChannel s n), 0), (bit x.standstill, 1), (bit x.starting, 2), (bit x.reversal, 3), (bit x.negative, 4),
    (bit x.dirUnknown, 5), (bit x.noisy, 6), (bit x.wireBreak, 7), (bit (excludedChannel s n), 8)]

/-- Table 04-5: the status word of a SENT channel, which is never a ground-speed source (R125); STANDSTILL keeps its reset value. -/
def sentWord (s : State) (n : Nat) : Nat :=
  pack [(bit (tfind s.cfg.odo.sent n).isSome, 0), (1, 1), (bit (s.sentOf n).lost, 9)]

/-- R129: the yaw rate of the declared wheel pair, millidegrees/s, while both channels are VALID. -/
def wheelYaw (s : State) : Option Int :=
  match s.cfg.nav.wheelPair with
  | none => none
  | some (l, r, b) =>
    if !validChannel s l || !validChannel s r then none
    else some (roundDiv ((reported s l - reported s r) * 180000000000000) (max 1 b * 3141592653590))

/-! ## Per-unit motion -/

/-- ω × y × π / 180,000 in µm/s for ω in millidegrees/s and y in mm (R130, R131). -/
def lateral (w y : Int) : Int := roundDiv (w * y * 3141592653590) 180000000000000

/-- R133: BACKWARD with its hysteresis. -/
def backwardNow (was : Bool) (v : Int) : Bool := if v ≤ -20000 then true else if 20000 ≤ v then false else was

/-- R130 to R133: one unit's speed, acceleration and direction from the package's, with R203 for its frets and R134, R204 for
a forward-only unit that turns backward; a unit in proportional mode ignores the OFF (R222). Of a follower's unit the lead keeps the
plan; the follower turns it off itself. -/
def moveUnit (v a w alpha : Int) (still : Bool) (u : Nat) (s : State) : State :=
  let y := (s.unitCfg u).yMm
  let vu := if still then 0 else v - lateral w y
  let au := if still then 0 else a - lateral alpha y
  let was := (s.unit u).motion.backward
  let back := backwardNow was vu
  let s1 := s.modUnit u fun x => { x with motion := { x.motion with vUm := vu, aUm := au, backward := back } }
  if back == was then s1
  else
    let s2 := followDirection u s1
    if back && (s.unitCfg u).forwardOnly then
      let s3 := s2.modUnit u fun x =>
        { x with frets := x.frets.filter Fret.live, 
                 sect := { x.sect with commanded := false, reached := some false, reachedPos := odometer s u } }
      if u < 128 then commandOff u s3 else s3
    else s2

/-- Every used unit at a fused epoch, at the lead its followers' section units too, for its own decisions (R179). -/
def moveUnits (v a w alpha : Int) (still : Bool) (s : State) : State :=
  (s.cfg.units.units.filterMap fun p => if p.2.used then some p.1 else none).foldl (fun s u => moveUnit v a w alpha still u s) s

/-- R131: the change of speed and yaw rate over the last 50 ms of epochs, per second; 0 until 50 ms exist. The change since the newest
epoch at least 50 ms old counts as one of 50 ms, after a time without epochs too (DESIGN CHOICE, assumption 54). -/
def accelerations (t : Nat) (v w : Int) (recent : List (Nat × Int × Int)) : Int × Int :=
  match recent.find? fun r => decide (r.1 + 50000 ≤ t) with
  | some (_, v0, w0) => ((v - v0) * 20, (w - w0) * 20)
  | none => (0, 0)

/-- Keep the epochs of the last 50 ms and the one that closes the span. -/
def keepRecent (t : Nat) (v w : Int) (recent : List (Nat × Int × Int)) : List (Nat × Int × Int) :=
  let young := recent.filter fun r => decide (t < r.1 + 50000)
  (t, v, w) :: young ++ (recent.find? fun r => decide (r.1 + 50000 ≤ t)).toList

/-! ## Emulation -/

/-- D of a fast channel, pm (R108). -/
def edgePm (c : ChannelCfg) : Nat := 1000000000000000 / max 1 (c.scale * edgesPer c)

/-- R137: where a fast channel stands, pm: its DIST, and since the last edge what its reported speed has covered, at most D (DEDUCED,
assumption 54). -/
def channelPos (s : State) (ch : Nat) : Int :=
  let x := s.chan ch
  let c := s.chanCfg ch
  let run := if x.standstill || x.starting || x.reversal then 0
    else min (edgePm c) (mag x.vMeas * (4 * s.devtime - x.lastEdge.getD 0) / 4)
  x.dist * 1000000000 + x.distPart * 1000000000 / max 1 (c.scale * edgesPer c) + (if x.negative then -(run : Int) else run)

/-- R136, R140: the emulation source's speed, µm/s, and where it stands, pm, while it is available. -/
def emuSource (s : State) : Option (Int × Int) :=
  match s.cfg.odo.emulation.channel with
  | some c => if noisyChannel s (.channel c) then none else some (reported s c, channelPos s c)
  | none => if s.odo.primary.isSome || s.follower then some (s.odo.speed, s.odo.along) else none

/-- Steps per pulse: a rise and a fall, or four in QUAD (Table 04-7). -/
def emuSteps (e : EmulationCfg) : Nat := if e.mode = 2 then 4 else 2

/-- R135, R140: the emulation has its outputs, and their die takes orders. -/
def emuDrives (s : State) : Bool :=
  let e := s.cfg.odo.emulation
  e.mode != 0 && (s.fo 14).st == 3 && (e.mode != 2 || (s.fo 15).st == 3) && !linkDown s (.fo 14) && !lineHeld s (.fo 14)

/-- R137: distance since the emulation was enabled, at DEVTIME, pm. -/
def emuDistance (s : State) : Nat := s.odo.emuDist + s.odo.emuRate * (s.devtime - s.odo.emuAt)

/-- R137: steps that the distance calls for. -/
def emuDue (s : State) : Nat := emuDistance s * s.cfg.odo.emulation.kMilli * emuSteps s.cfg.odo.emulation / 1000000000000000

/-- R138: steps given, those of dropped pulses with them. -/
def emuGiven (s : State) : Nat := s.odo.emuDone + s.odo.emuDropped * emuSteps s.cfg.odo.emulation

/-- R135: the emulation takes its outputs, each with its charge, when outputs are enabled (R368), and counts distance from
then on (R137). -/
def startEmulation (s0 : State) : State :=
  let s := if emulated s0 14 && (s0.fo 14).st != 3 then
      s0.modOdo fun o => { o with emuDist := 0, emuRate := 0, emuAt := s0.devtime, emuFrom := ((emuSource s0).map (·.2)).getD 0, emuDone := 0,
                                  emuDropped := 0, emuClamped := false, emuLast := none, emuStopped := (emuSource s0).isNone }
    else s0
  [14, 15].foldl (fun s o =>
    if !emulated s o || (s.fo o).st = 3 then s
    else match acquireFo o s with
      | .ok s1 => s1.modFo o fun x => { x with st := 3, onAt := s1.devtime }
      | .error _ => s) s

/-- R137, R139, R140: the emulation follows an epoch: its distance becomes the source's, its rate the source's speed, and in SINGLE the
direction level follows the sign. Without its source it stops. -/
def emuEpoch (s : State) : State :=
  let e := s.cfg.odo.emulation
  if e.mode = 0 || (s.fo 14).st != 3 then s
  else match if emuDrives s then emuSource s else none with
    | none => s.modOdo fun o => { o with emuStopped := true, emuDist := emuDistance s, emuRate := 0, emuAt := s.devtime }
    | some (v, pos) =>
      let gained := if s.odo.emuStopped || v = 0 then 0 else mag (pos - s.odo.emuFrom)
      let s1 := s.modOdo fun o =>
        { o with emuStopped := false, emuDist := o.emuDist + gained, emuRate := mag v, emuAt := s.devtime,
                 emuFrom := if v = 0 && !o.emuStopped then o.emuFrom else pos,
                 emuReverse := if v = 0 then o.emuReverse else decide (v < 0) }
      if e.mode = 1 && e.dirLevel && v != 0 && (s.fo 15).st = 3 then s1.modFo 15 fun x => { x with level := decide (0 < v) } else s1

/-- R139, Table 04-7: one step of the quadrature pair, line A leading forward. -/
def quadStep (a b reverse : Bool) : Bool × Bool :=
  if reverse then (if a == b then (a, !b) else (!a, b)) else if a == b then (!a, b) else (a, !b)

/-- R138: the last step is younger than a step of 20 kHz. -/
def emuFast (s : State) : Bool :=
  match s.odo.emuLast with
  | some l => decide ((s.devtime - l) * 20000 * emuSteps s.cfg.odo.emulation < 1000000)
  | none => false

/-- R137, R138: one step; beyond 20 kHz it waits, and a whole pulse more than the outputs can give is dropped. -/
def emuPulse (s : State) : State :=
  let e := s.cfg.odo.emulation
  if !emuDrives s || s.odo.emuStopped || s.odo.emuRate = 0 || emuDue s ≤ emuGiven s then s
  else if emuFast s then
    if emuDue s < emuGiven s + emuSteps e then s
    else
      let s1 := s.modOdo fun o => { o with emuDropped := o.emuDropped + 1, emuClamped := true }
      if s.odo.emuClamped then s1 else fault 203 0 0 1 0 s1
  else
    let s1 := s.modOdo fun o => { o with emuDone := o.emuDone + 1, emuLast := some s.devtime }
    if e.mode = 1 then s1.modFo 14 fun x => { x with level := s.odo.emuDone % 2 == 0 }
    else
      let n := quadStep (s.fo 14).level (s.fo 15).level s.odo.emuReverse
      (s1.modFo 14 fun x => { x with level := n.1 }).modFo 15 fun x => { x with level := n.2 }

end Sys2Proof.Machine
end

