-- ==== Sys2Proof/Machine/NavOps.lean ====
section
/-! DEFINITION. Navigation and time: the notifications of Tables 03-7, 03-12, 03-14 and 03-15, channels and antennas (R66,
R87), jamming (R70, R71), the fix (R80, R81), return and blend (R95), the fused epoch's own part (R85 to R94), and time
(R96 to R100). -/

namespace Sys2Proof.Machine

/-! ## Reported quantities -/

/-- Length of a vector, rounded to nearest. -/
def hyp (a b : Int) : Nat := (isqrt (4 * (mag a * mag a + mag b * mag b)) + 1) / 2

/-- R95, Table 03-12: BLEND, mm. -/
def blendMm (s : State) : Nat := (hyp s.nav.blendE s.nav.blendN + 500) / 1000

/-- The reported position, mm: the filter's with the remaining blend. -/
def reportedE (s : State) : Int := s.nav.e + roundDiv s.nav.blendE 1000
def reportedN (s : State) : Int := s.nav.n + roundDiv s.nav.blendN 1000

/-- UNC_H while unknown (Table 03-12). -/
def uncUnknown : Nat := 4294967295

/-- R89: 2.45 × the root of half the sum of the two variances in µm², mm to nearest. -/
def uncOf (v : Nat × Nat) : Nat := min 4294967294 ((isqrt (60025 * (v.1 + v.2) / 5000 / 1000000) + 1) / 2)

/-! ## Antennas (R62, R63, R87) -/

/-- R62, Table 01-4: the delay of an antenna: its cable's and the fixed group delay of 1.5 µs, ns. -/
def antennaDelay (c : NavCfg) (a : Nat) : Nat := (if a = 0 then c.cableNs.1 else c.cableNs.2) + 1500

/-- R87: the antenna that position is solved at: ANT0, or ANT1 with ANT0 lost. -/
def solveAnt (s : State) : Nat := if s.nav.antLost.1 then 1 else 0

/-- R63: the lever arm of an antenna in the field frame, mm, rotated by the fused heading, and by pitch and roll where an IMU is
declared. -/
def leverArm (s : State) (a : Nat) : Int × Int × Int :=
  toField s.nav.heading s.nav.pitch s.nav.roll (if a = 0 then s.cfg.nav.ant0 else s.cfg.nav.ant1)

/-- R84: the length of the baseline that R62 declares, µm. -/
def declaredBaseline (c : NavCfg) : Nat :=
  let d := (c.ant1.1 - c.ant0.1, c.ant1.2.1 - c.ant0.2.1, c.ant1.2.2 - c.ant0.2.2)
  isqrt (1000000 * (mag d.1 * mag d.1 + mag d.2.1 * mag d.2.1 + mag d.2.2 * mag d.2.2))

/-- R83: the heading of the forward axis: the vector's bearing less that of the declared mounting, levelled. -/
def baselineHeading (s : State) (v : Int × Int × Int) : Int :=
  let c := s.cfg.nav
  let b := levelled s.nav.pitch s.nav.roll (c.ant1.1 - c.ant0.1, c.ant1.2.1 - c.ant0.2.1, c.ant1.2.2 - c.ant0.2.2)
  wrapDeg (bearing v.1 v.2.1 - bearing b.2.1 b.1)

/-- R90: whether the effective uncertainty is above the limit. -/
def aboveLimit (s : State) : Bool :=
  decide (s.cfg.package.uncLimitMm < s.nav.uncH + blendMm s)

/-- R88: CORR_AGE at DEVTIME `now`, 0.1 s. -/
def corrAge (s : State) (now : Nat) : Nat :=
  match s.nav.corrAt with
  | none => 65535
  | some e => min 65534 ((now - e) / 100000)

/-- The PPS pin (R96): high for the configured width from each pulse. -/
def ppsPin (s : State) : Bool :=
  match s.nav.ppsAt with
  | some t => decide (s.devtime < t + 1000 * s.cfg.nav.ppsWidthMs)
  | none => false

/-- Table 03-13: the flags of a fused epoch. -/
def posFlags (s : State) : Nat :=
  let n := s.nav
  pack [(bit s.cov.opened.isSome, 0), (bit n.headingValid, 1), (bit n.uncertain, 2), (bit (blendMm s != 0), 3),
    (bit n.holdActive, 4), (bit n.osnmaAuth, 5), (bit n.antLost.1, 6), (bit n.antLost.2, 7), (bit n.imuUsed, 8)]

/-- Table 03-12, from its position fields to its end. -/
def posBytes (s : State) (raw : Bool) (epoch : Nat) (e n u lat lon height : Int) (vel : Int × Int × Int) (uncH nsv fix flags : Nat) :
    List Byte :=
  let on := s.cov.opened.isSome
  let at_ (x : Int) : Int := if on then x else 0
  le 8 epoch ++ le 4 (at_ e) ++ le 4 (at_ n) ++ le 4 (at_ u) ++ le 8 lat ++ le 8 lon ++ le 4 height ++ le 4 vel.1
    ++ le 4 vel.2.1 ++ le 4 vel.2.2 ++ le 4 (if raw then 0 else roundDiv s.odo.speed 1000) ++ le 4 s.nav.heading
    ++ le 4 (if raw then 0 else s.nav.yawRate) ++ le 4 uncH ++ le 4 s.nav.uncHdg ++ le 4 (if raw then 0 else blendMm s)
    ++ le 1 fix ++ le 1 nsv ++ le 2 flags ++ le 2 (corrAge s epoch) ++ le 2 0

/-- R63, R95: latitude and longitude of the reported position. -/
def reportedLat (s : State) : Int := latMoved s.nav.lat (roundDiv s.nav.blendN 1000)
def reportedLon (s : State) : Int := lonMoved s.nav.lat s.nav.lon (roundDiv s.nav.blendE 1000)

/-- R88: the payload of N_POS for the fused epoch that the state holds. -/
def posPayload (s : State) : List Byte :=
  let n := s.nav
  posBytes s false (n.epoch.getD 0) (reportedE s) (reportedN s) n.u (reportedLat s) (reportedLon s) n.height
    (n.velE, n.velN, n.velU) n.uncH n.nsv n.fix (posFlags s)

/-- R88: the payload of N_RTK, at the ANT0 phase centre, with the flags of the latest fused epoch, RAW set and IMU_USED clear. -/
def rtkPayload (s : State) (sol : RtkSolution) (fix : Nat) : List Byte :=
  let a := leverArm s 0
  let b := leverArm s (solveAnt s)
  let d := (a.1 - b.1, a.2.1 - b.2.1, a.2.2 - b.2.2)
  posBytes s true s.devtime (sol.e + d.1) (sol.n + d.2.1) (sol.u + d.2.2) (latMoved sol.lat d.2.1) (lonMoved sol.lat sol.lon d.1)
    (sol.height + d.2.2) (sol.velE, sol.velN, sol.velU) (uncOf sol.var) sol.nsv fix (s.nav.posFlags % 256 + 512)

/-- The fix type changes (source 32); the length of a DEAD_RECKONING interval is an extreme (R493). -/
def setFix (fix : Nat) (s : State) : State :=
  if s.nav.fix = fix then s
  else
    let s1 := edge 32 fix 0 (s.modNav fun n => { n with fix := fix, drSince := if fix = 5 then some s.devtime else none })
    match s.nav.drSince with
    | some t => offerOne 13 0 ((s.devtime - t) / 1000 : Nat) s1
    | none => s1

/-! ## Channels and antennas -/

/-- Whether a signal is of the L5 band, whose satellite needs its L1 signal tracked (R66). -/
def lowBand (sig : Nat) : Bool := sig % 2 == 1

/-- R66 to R68: a channel after an epoch that measured it: tracked at 25 dB-Hz (Table 03-18), with its taps and its code
discriminator. -/
def NavChannel.measured (cfg : NavCfg) (t : Nat) (m : ChannelMeas) (c : NavChannel) : NavChannel :=
  let on := decide (25 ≤ m.cn0)
  { c with last := if on then t else c.last, tracked := on, taps := m.taps,
           code := discriminate (nth cfg.discriminator 0 (constOf m.signal)) (nth cfg.spacing 10 m.signal) m.taps }

/-- R65 to R68: a satellite's signal takes a channel. -/
def takeChannel (cfg : NavCfg) (t : Nat) (m : ChannelMeas) : NavChannel :=
  NavChannel.measured cfg t m
    { ant := m.ant, signal := m.signal, svid := m.svid, last := t, offsets := tapOffsets (nth cfg.spacing 10 m.signal),
      loopHz := (cfg.pllHz, cfg.fllHz) }

/-- Whether a channel tracks this signal of this satellite on this antenna. -/
def NavChannel.is (c : NavChannel) (ant signal svid : Nat) : Bool := c.ant == ant && c.signal == signal && c.svid == svid

/-- R66: channels after one measurement epoch at DEVTIME `t`: those whose satellite fell 2° below the mask or was lost for 10 s
are freed, then each signal's free channels go to the highest satellites above the mask, an L5-band signal's only while the
satellite's L1-band signal is tracked on the same antenna. -/
def assignChannels (cfg : NavCfg) (t : Nat) (meas : List ChannelMeas) (chs : List NavChannel) : List NavChannel :=
  let kept := chs.filterMap fun c =>
    match meas.find? fun m => c.is m.ant m.signal m.svid with
    | some m =>
      let d := c.measured cfg t m
      if m.elevDeg ≤ (cfg.maskDeg : Int) - 2 || d.last + 10000000 ≤ t then none else some d
    | none => if c.last + 10000000 ≤ t then none else some { c with tracked := false }
  let byElev := sortBy (fun a b => decide (b.elevDeg < a.elevDeg)) (meas.filter fun m => decide ((cfg.maskDeg : Int) < m.elevDeg))
  let add (acc : List NavChannel) (m : ChannelMeas) : List NavChannel :=
    let used := (acc.filter fun c => c.ant == m.ant && c.signal == m.signal).length
    let aided := !lowBand m.signal || acc.any fun c => c.is m.ant (m.signal - 1) m.svid && c.tracked
    if acc.any (fun c => c.is m.ant m.signal m.svid) || !aided || nth cfg.allocation 0 m.signal ≤ used then acc
    else acc ++ [takeChannel cfg t m]
  let step1 := (byElev.filter fun m => !lowBand m.signal).foldl add kept
  (byElev.filter fun m => lowBand m.signal).foldl add step1

/-- R87: satellites that an antenna tracks above a level. -/
def trackedAbove (chs : List NavChannel) (meas : List ChannelMeas) (ant level : Nat) : Nat :=
  (meas.foldl (fun acc m =>
    if m.ant = ant && decide (level < m.cn0) && chs.any (fun c => c.is ant m.signal m.svid)
      && !acc.contains (constOf m.signal, m.svid) then (constOf m.signal, m.svid) :: acc else acc)
    ([] : List (Nat × Nat))).length

/-- NAV_STATUS_READ TRACKED: channels of an antenna and band that are tracked now. -/
def trackedIn (chs : List NavChannel) (ant : Nat) (low : Bool) : Nat :=
  (chs.filter fun c => c.ant == ant && lowBand c.signal == low && c.tracked).length

/-- R87: an antenna's loss ends with its condition. -/
def antennaBack (ant : Nat) (s : State) : State :=
  setLevel (37 + ant) 0 false (s.modNav fun n =>
    { n with antLost := if ant = 0 then (false, n.antLost.2) else (n.antLost.1, false) })

/-- Table 03-13 OSNMA_AUTH: every Galileo satellite of the latest solution is AUTHENTICATED, and there is one (assumption 51). -/
def osnmaAll (n : NavSt) : Bool :=
  match n.sol with
  | some x => !x.galileo.isEmpty && x.galileo.all fun v => n.osnmaAuthed.contains v
  | none => false

/-- R75: whether a satellite may be used: under REQUIRE a Galileo satellite only while its data in use are AUTHENTICATED and it is not
excluded. -/
def usable (s : State) (const svid : Nat) : Bool :=
  const != 1 || !s.cfg.nav.osnmaRequire || (s.nav.osnmaAuthed.contains svid && !s.nav.osnmaExcluded.contains svid)

/-! ## Jamming -/

/-- R70: J from ΔAGC and ΔN in 0.001 dB. -/
def jamIndex (dAgc dNoise : Int) : Nat := min 255 (roundDiv (8 * max 0 (max dAgc dNoise)) 1000).toNat

/-- R71: one antenna and band after a new J: an event is raised on entry to its band unless it still stands, and clears after 5 s below its
band's lower edge minus 16. -/
def judgeJam (idx j : Nat) (s : State) : State :=
  let old := tget s.nav.jamBand {} idx
  let t := s.devtime
  let below (edge_ : Nat) (since : Option Nat) : Option Nat := if j + 16 < edge_ then some (since.getD t) else none
  let b1 := below 64 old.warnBelow
  let b2 := below 160 old.jammedBelow
  let held (x : Option Nat) : Bool := match x with
    | some u => decide (u + 5000000 ≤ t)
    | none => false
  let warn := if held b1 then none else old.warn
  let jammed := if held b2 then none else old.jammed
  let newWarn := decide (64 ≤ j) && decide (j < 160) && warn.isNone
  let newJam := decide (160 ≤ j) && jammed.isNone
  let s1 := s.modNav fun n =>
    { n with jam := tset n.jam idx j,
             jamBand := tset n.jamBand idx { warn := if newWarn then some j else warn, jammed := if newJam then some j else jammed,
                                             warnBelow := b1, jammedBelow := b2 } }
  let s1 := offerExtreme 6 true idx idx ((j : Nat) : Int) s1
  if newJam then fault (39 + idx) j 1 2 0 s1
  else if newWarn then fault (39 + idx) j 0 1 0 s1
  else s1

/-! ## Fix and return -/

/-- R81: the three conditions of a fix. -/
def fixable (sol : RtkSolution) : Bool :=
  decide (5 ≤ sol.fixedSats) && decide (3000 ≤ sol.ratioMilli) && decide (sol.fixFloatMm ≤ 3 * sol.floatUncMm)

/-- R79, R80, R81: the fix type of a solution, and the run of bad epochs that goes with it. -/
def solutionFix (s : State) (sol : RtkSolution) : Nat × Nat :=
  let fresh := match s.nav.corrAt with
    | some e => decide (s.devtime ≤ e + 100000 * s.cfg.nav.ageLimitDs)
    | none => false
  if !fresh then (if sol.sbas then 2 else 1, 0)
  else if s.nav.solFix = 4 then
    if sol.residualBad then (if 1 ≤ s.nav.badEpochs then (3, 0) else (4, 1)) else (4, 0)
  else (if fixable sol then 4 else 3, 0)

/-- The dead-reckoned position at DEVTIME `t`, mm: the reported one carried on by the fused velocity. -/
def carried (s : State) (t : Nat) : Int × Int × Int :=
  let dt : Int := (t : Int) - (s.nav.epoch.getD t : Nat)
  (reportedE s + roundDiv (s.nav.velE * dt) 1000000, reportedN s + roundDiv (s.nav.velN * dt) 1000000,
   s.nav.u + roundDiv (s.nav.velU * dt) 1000000)

/-- R95: the correction that a solution brings, at the reference point; the next epoch takes it up. -/
def noteReturn (sol : RtkSolution) (s : State) : State :=
  let p := carried s s.devtime
  let a := leverArm s (solveAnt s)
  let c := if !s.nav.everFix || s.nav.epoch.isNone then (0, 0, 0)
    else (p.1 - (sol.e - a.1), p.2.1 - (sol.n - a.2.1), p.2.2 - (sol.u - a.2.2))
  s.modNav fun n => { n with correction := some c }

/-- R95: a correction replaces the blend's remainder. -/
def takeReturn (s : State) : State :=
  match s.nav.correction with
  | none => s
  | some c => s.modNav fun n => { n with blendE := 1000 * c.1, blendN := 1000 * c.2.1, blendAcc := 0, correction := none }

/-! ## The fused epoch -/

/-- R86, R87: heading and yaw rate of an epoch `dt` µs after the last, in order: a valid baseline, the IMU, the wheel pair, held. At
standstill the heading is the baseline's while it is valid, else held. UNC_HDG grows whenever no baseline heading is valid. -/
def fuseHeading (f : Fusion) (dt : Nat) (s : State) : State :=
  let n := s.nav
  let base := n.baseFixed && !n.baseMark && n.fix != 5 && !n.antLost.1 && !n.antLost.2
  let turn (w : Int) : State :=
    let a := n.headingAcc + w * dt
    let g := n.uncHdgAcc + max 1 f.hdgGrow
    s.modNav fun n => { n with heading := wrapDeg (n.heading + a / 1000000), headingAcc := a % 1000000, yawRate := w,
                               uncHdg := capTo 4294967295 (n.uncHdg + g / 1000000), uncHdgAcc := g % 1000000 }
  if base then
    s.modNav fun n => { n with heading := if s.odo.standstill then n.baseHeading else wrapDeg f.heading, headingAcc := 0,
                               yawRate := f.yawRate, uncHdg := f.uncHdg, uncHdgAcc := 0 }
  else if s.odo.standstill then turn 0
  else if s.cfg.nav.imu then turn f.imuYaw
  else turn ((wheelYaw s).getD 0)

/-- R95: a remainder above 500 mm is applied at once, with N_POS_STEP, whose up step is `up`; a smaller one shrinks by 20 mm per metre of
travel. -/
def blendEpoch (up : Int) (dist : Nat) (uncH : Nat) (s : State) : State :=
  let n := s.nav
  let m := hyp n.blendE n.blendN
  if m = 0 then s
  else if 500000 < m then
    let p := le 8 s.devtime ++ le 4 (-(roundDiv n.blendE 1000)) ++ le 4 (-(roundDiv n.blendN 1000)) ++ le 4 up ++ le 4 uncH
    edge 34 0 0 (notify 0 33539 p (s.modNav fun n =>
      { n with blendE := 0, blendN := 0, blendAcc := 0, steps := (s.devtime :: n.steps).take 1024 }))
  else
    let a := n.blendAcc + dist
    let k := a / 50
    let r := m - k
    s.modNav fun n =>
      { n with blendE := if r = 0 then 0 else roundDiv (n.blendE * r) m,
               blendN := if r = 0 then 0 else roundDiv (n.blendN * r) m, blendAcc := a % 50 }

/-- R91: the effective uncertainty rises above the limit: on-kind device frets of section units are cancelled, at followers too
(R454), POS_UNCERTAIN is raised, and the hold runs while some of its distance is left. -/
def crossing (s : State) : State :=
  let s1 := s.sectionUnits.foldl (fun s u => dropDevice u Fret.onKind s) s
  faultLevel 33 0 0 1 (s1.modNav fun n => { n with uncertain := true, withinUm := 0, holdActive := decide (n.holdLeft ≠ 0) })

/-- R90 to R94: the uncertain-position policy of one epoch that has travelled `dist` µm. -/
def uncertaintyPolicy (dist : Nat) (s : State) : State :=
  let s1 := s.modNav fun n =>
    if n.uncertain then (if n.holdActive then { n with holdLeft := n.holdLeft - dist } else n)
    else { n with withinUm := n.withinUm + dist }
  let above := aboveLimit s1
  if above && (!s1.nav.uncertain || s1.nav.firstEpoch) then crossing s1
  else if !above && s1.nav.uncertain then
    setLevel 33 0 false (s1.modNav fun n => { n with uncertain := false, holdActive := false, withinUm := 0 })
  else s1

/-- R85, R63, R86, R89: the fused state of an epoch at the reference point, before the policy; `s` holds its heading. -/
def publish (f : Fusion) (s : State) : State :=
  let still := s.odo.standstill
  let s1 := s.modNav fun n => { n with pitch := if s.cfg.nav.imu then f.pitch else 0, roll := if s.cfg.nav.imu then f.roll else 0 }
  let a := leverArm s1 (solveAnt s1)
  s1.modNav fun n =>
    let dr := n.fix == 5
    let stay := dr && still
    let unc := match f.var with
      | some v => uncOf v
      | none => uncUnknown
    { n with e := if stay then n.e else f.e - a.1, n := if stay then n.n else f.n - a.2.1, u := if stay then n.u else f.u - a.2.2,
             lat := if stay then n.lat else latMoved f.lat (-a.2.1), lon := if stay then n.lon else lonMoved f.lat f.lon (-a.1),
             height := if stay then n.height else f.height - a.2.2,
             velE := if still then 0 else f.velE, velN := if still then 0 else f.velN, velU := f.velU,
             headingValid := f.headingValid && !n.baseMark, imuUsed := f.imuUsed && s.cfg.nav.imu,
             var := f.var.getD n.var, uncH := if dr then max n.uncH unc else unc }

/-- R85 to R95, R126 to R133: one fused epoch up to the units' motion. -/
def fuse (f : Fusion) (s : State) : State :=
  let t := s.devtime
  let dt := match s.nav.epoch with
    | some e => t - e
    | none => 0
  let s1 := s.modNav fun n => { n with vbatMv := f.vbatMv, gridMc := f.gridMc, dutyPpm := f.dutyPpm, dutyAt := s.devtime }
  let s2 := choosePrimary (trackStops (trackPairs (takeDoppler f.doppler s1)))
  let up := -((s.nav.correction.map fun c => c.2.2).getD 0)
  let s3 := publish f (fuseHeading f dt (takeReturn s2))
  let along := s3.odo.along + s3.odo.speed * (dt : Nat)
  let dist := mag (along / 1000000 - s3.odo.along / 1000000)
  let s4 := blendEpoch up dist s3.nav.uncH s3
  let s5 := (uncertaintyPolicy dist s4).modNav fun n => { n with firstEpoch := false }
  let v := if s5.odo.standstill then 0 else s5.odo.speed
  let w := s5.nav.yawRate
  let acc := accelerations t v w s5.nav.recent
  let s6 := s5.modNav fun n =>
    { n with epoch := some t, accUm := acc.1, alpha := acc.2, recent := keepRecent t v w n.recent, odoStale := false,
             staleBase := t, fretsLive := true,
             history := ((t, reportedE s5, reportedN s5, n.heading, n.uncertain) :: n.history).take 1024 }
  let s7 := s6.modOdo fun o => { o with along := along }
  let s8 := if s7.cov.opened.isSome then offerOne 11 0 ((s7.nav.uncH : Nat) : Int) s7 else s7
  let s9 := s8.modNav fun n => { n with posMsg := posPayload s8, posFlags := posFlags s8 }
  addTotal totDist dist (moveUnits v acc.1 w acc.2 (s9.odo.standstill || s9.odo.primary.isNone) s9)

/-! ## Time -/

/-- R98: ERR_BOUND at DEVTIME `now`: it grows by 0.5 µs a second without a LOCKED pulse; after a sleep it is the RTC's (R349). -/
def errBound (s : State) (now : Nat) : Nat :=
  if s.nav.boundFromRtc then min 4294967295 (1000 * rtcBoundUs s)
  else match s.nav.ppsAt, s.nav.quality with
    | some t, 2 => min 4294967295 (s.nav.errBound + (now - t) / 2000)
    | _, _ => min 4294967295 s.nav.errBound

/-- Table 03-15: the payload of N_TIME for the last pulse. -/
def timePayload (s : State) : List Byte :=
  let n := s.nav
  le 8 (n.ppsAt.getD 0) ++ le 2 n.subNs ++ le 2 n.gpsWeek ++ le 4 n.gpsTow ++ le 4 n.utcS ++ le 2 0 ++ le 1 n.leap
    ++ le 1 n.quality ++ le 4 (errBound s s.devtime) ++ le 4 n.slew ++ le 4 n.stepNs
    ++ le 2 (pack [(bit n.stepNext, 0), (bit n.stepNow, 1), (bit n.leapPending, 2), (bit n.leapNow, 3), (bit n.everLocked, 4)])
    ++ le 2 0

/-- R97: the time quality changes, with an N_TIME of its own, which repeats the last pulse (assumption 37). -/
def setQuality (q : Nat) (s : State) : State :=
  if s.nav.quality = q then s
  else
    let s1 := s.modNav fun n => { n with quality := q, everLocked := n.everLocked || q == 1 }
    edge 36 q 0 (notify 1 33540 (timePayload s1) s1)

/-- R76: the GNSS time error bound that OSNMA may use, in ns: of N_TIME, or of the RTC, if that has been set; none while there is no
bound. -/
def timeBoundNs (s : State) : Option Nat :=
  if s.nav.quality != 0 && !s.nav.boundFromRtc then some (errBound s s.devtime)
  else if s.power.rtcSet then some (1000 * rtcBoundUs s) else none

/-- R76: the bound is above 15 s. -/
def timeUnsafe (s : State) : Bool :=
  match timeBoundNs s with
  | some b => decide (15000000000 < b)
  | none => true

/-! ## Retention (R102, R103) -/

/-- Table 03-17 EPHEMERIS: the slot of a satellite: GPS, Galileo, BeiDou, QZSS, SBAS. -/
def ephemerisSlot (k : Nat) : Nat := nth [0, 32, 68, 131, 141] 160 (k / 256) + (k % 256 - 1)

/-- Table 03-17 from LAST_STATE on: the data that the header's CRC covers; the layout inside each part is the model's (assumption 51). -/
def NavKept.bytes (k : NavKept) : List Byte :=
  let d := k.data
  padTo 64 (le 8 k.lat ++ le 8 k.lon ++ le 4 k.height ++ le 4 k.heading ++ le 4 k.uncH ++ le 1 k.fix)
    ++ padTo 256 (d.tcxo.flatMap (le 8) ++ le 8 d.clockBias ++ le 8 d.clockDrift)
    ++ padTo 64 (le 1 k.leap ++ le 1 (bit k.leapPending) ++ d.utc)
    ++ padTo 128 (d.iono.flatMap fun p => le 1 p.1 ++ p.2)
    ++ padTo 512 (le 1 (bit d.osnma.unsupported) ++ d.osnma.key ++ (match d.osnma.chain with
        | some (p, b) => le 4 p ++ b
        | none => []))
    ++ padTo 8192 (d.almanacs.flatMap fun p => le 2 p.1 ++ p.2)
    ++ (List.range 160).flatMap (fun i => match d.ephemerides.find? fun p => ephemerisSlot p.1 == i with
        | some p => padTo 312 p.2.data ++ le 8 p.2.at_
        | none => padTo 320 [])
    ++ padTo 5056 []

/-- R102: what a save keeps. -/
def navKept (s : State) : NavKept :=
  let n := s.nav
  { savedAt := s.devtime, utcMs := rtcNow s, lat := reportedLat s, lon := reportedLon s, height := n.height, heading := n.heading,
    uncH := n.uncH, fix := n.fix, leap := n.leap, leapPending := n.leapPending, data := n.data }

/-- R102: navigation data go into retention. -/
def saveNav (s : State) : State :=
  let k := navKept s
  s.modNav fun n => { n with retention := some (k, crc32c k.bytes), retentionAt := s.devtime }

/-- R102: the retained data where the header's CRC-32C checks. -/
def keptNav (n : NavSt) : Option NavKept :=
  match n.retention with
  | some (k, c) => if crc32c k.bytes == c then some k else none
  | none => none

/-- R103, R104: how navigation starts: 1 hot, 2 warm, 3 cold. Four ephemerides younger than 4 h are enough, and valid retention without a
hot start's other conditions is warm (assumption 51). -/
def navStartKind (near : Bool) (s : State) : Nat :=
  match keptNav s.nav with
  | none => 3
  | some k =>
    let young := (k.data.ephemerides.filter fun p => decide (s.devtime < p.2.at_ + 14400000000)).length
    if s.power.refreshed || (decide (4 ≤ young) && near && s.power.rtcSet) then 1 else 2

/-- R102: navigation takes up what retention kept. -/
def loadNav (s : State) : State :=
  match keptNav s.nav with
  | none => s
  | some k => s.modNav fun n => { n with data := k.data, leap := k.leap, leapPending := k.leapPending }

/-! ## NMEA -/

/-- R101: GGA quality of a fix type. -/
def ggaQuality (fix : Nat) : Nat :=
  match fix with
  | 0 => 0
  | 1 => 1
  | 2 => 2
  | 3 => 5
  | 4 => 4
  | _ => 6

/-- UTC in ms at the present, as the last pulse dates it. -/
def utcNow (s : State) : Option Nat :=
  match s.nav.ppsAt with
  | some p => if s.nav.quality = 0 then none else some (1000 * s.nav.utcS + (s.devtime - p) / 1000)
  | none => none

/-- The mode letter of a fix type: N, A, D, F, R, E. -/
def nmeaMode (fix : Nat) : List Byte := ascii [nth [78, 65, 68, 70, 82] 69 fix]

/-- R101: GGA, RMC, VTG, ZDA and GST of one epoch, in this order, at ANT0 or the reference point; a field without a value is empty, and
figures that the spec gives no rule for are free (assumption 53). -/
def nmeaBlock (s : State) : List Byte :=
  let n := s.nav
  let t := s.devtime
  let a := if s.cfg.nav.nmeaReference then (0, 0, 0) else leverArm s 0
  let has := n.fix != 0
  let ang := if has then nmeaAngle 2 78 83 (latMoved (reportedLat s) a.2.1) ++ nmeaAngle 3 69 87 (lonMoved (reportedLat s) (reportedLon s) a.1)
    else [[], [], [], []]
  let time := match utcNow s with
    | some u => nmeaTime u
    | none => []
  let date := (utcNow s).map fun u => civil (u / 86400000)
  let v : Nat := hyp n.velE n.velN
  let cog := if v = 0 then [] else thousandths 2 (bearing n.velE n.velN)
  let knots := thousandths 3 ((v * 900 / 463 : Nat) : Int)
  let fig (k : Nat) : List Byte := thousandths 2 ((Config.nmeaFigure k t : Nat) : Int)
  let geoid : Int := Config.nmeaFigure 1 t
  let diff := decide (2 ≤ n.fix) && decide (n.fix ≤ 4)
  nmeaSentence ([nmeaType 71 71 65, time] ++ ang ++ [decimal (ggaQuality n.fix), digits 2 n.nsv, fig 0]
    ++ (if has then [thousandths 3 (n.height + a.2.2 - geoid)] else [[]]) ++ [ascii [77], thousandths 3 geoid, ascii [77],
      if diff then thousandths 1 ((100 * corrAge s t : Nat) : Int) else [], []])
  ++ nmeaSentence ([nmeaType 82 77 67, time, ascii [if has then 65 else 86]] ++ ang ++ [knots, cog, (match date with
      | some (y, m, d) => digits 2 d ++ digits 2 m ++ digits 2 (y % 100)
      | none => []), [], [], nmeaMode n.fix])
  ++ nmeaSentence [nmeaType 86 84 71, cog, ascii [84], [], ascii [77], knots, ascii [78], thousandths 3 ((v * 18 / 5 : Nat) : Int), ascii [75],
      nmeaMode n.fix]
  ++ nmeaSentence ([nmeaType 90 68 65, time] ++ (match date with
      | some (y, m, d) => [digits 2 d, digits 2 m, digits 4 y]
      | none => [[], [], []]) ++ [ascii [48, 48], ascii [48, 48]])
  ++ nmeaSentence [nmeaType 71 83 84, time, fig 2, fig 3, fig 4, fig 5, thousandths 3 ((isqrt n.var.2 / 1000 : Nat) : Int),
      thousandths 3 ((isqrt n.var.1 / 1000 : Nat) : Int), fig 6]

end Sys2Proof.Machine
end

