-- ==== Sys2Proof/Machine/CovOps.lean ====
section
/-! DEFINITION. Coverage: fields, tiles and cells (R141 to R159), the decision window (R162 to R165), and the writer of
strokes with its counters (R168 to R174). Geometry runs in fixed point: positions in 2^-30 mm, directions in 2^-30. -/

namespace Sys2Proof.Machine

/-- 2^30: the scale of positions and directions. -/
def q30 : Int := 1073741824

/-! ## Cells and tiles -/

/-- Offset of cell (i, j) in its tile (R147). -/
def cellOffset (i j : Int) : Nat := (256 * (j % 256) + i % 256).toNat

/-- The tile column and row of cell (i, j) (R147). -/
def tileOfCell (i j : Int) : Int × Int := (i / 256, j / 256)

/-- R143: whether a field has cells at a centre, mm. -/
def inSpan (c i j : Int) : Bool :=
  decide (mag (c * i + c / 2) < 20480000) && decide (mag (c * j + c / 2) < 20480000)

/-- R143: a tile within the span of a field of cells of `c` mm. -/
def tileInSpan (c : Nat) (t : Int × Int) : Bool :=
  let m : Int := 20480000 / (256 * max 1 c)
  decide (-m ≤ t.1) && decide (t.1 < m) && decide (-m ≤ t.2) && decide (t.2 < m)

/-- The tile of a field at a column and row, if it has one. -/
def tileAt (s : State) (fid : Nat) (tc tr : Int) : Option Tile :=
  s.cov.tiles.find? fun t => t.fieldId == fid && t.tcol == tc && t.trow == tr

/-- R155: neither absent nor stale. -/
def tileReady (fe : FieldEntry) (t : Tile) : Bool :=
  t.cached && t.polyGen == fe.polyGen && t.coverEpoch == fe.coverEpoch

/-- Change the tile of a field at a column and row. -/
def modTile (fid : Nat) (tc tr : Int) (f : Tile → Tile) (s : State) : State :=
  s.modCov fun c =>
    { c with tiles := c.tiles.map fun t => if t.fieldId = fid && t.tcol = tc && t.trow = tr then f t else t }

/-- R157: whether the edge from `a` to `b` crosses to the east of the centre, in whole numbers. -/
def crosses (a b : Int × Int) (px py : Int) : Bool :=
  (decide (a.2 ≤ py) != decide (b.2 ≤ py)) &&
    let l := (px - a.1) * (b.2 - a.2)
    let r := (py - a.2) * (b.1 - a.1)
    if 0 < b.2 - a.2 then decide (l < r) else decide (r < l)

/-- R157: an odd number of the ring's edges cross to the east; `prev` is the vertex before the list. -/
def oddCrossings (px py : Int) (prev : Int × Int) : List (Int × Int) → Bool
  | [] => false
  | v :: r => crosses prev v px py != oddCrossings px py v r

/-- R157: whether a centre is inside a ring. -/
def insideRing (r : Ring) (px py : Int) : Bool :=
  oddCrossings px py (r.verts.getLast?.getD (0, 0)) r.verts

/-- R158: bits [6:4] of a cell under a polygon set, at their places. -/
def rasterBits (rings : List Ring) (c i j : Int) : Nat :=
  let px := c * i + c / 2
  let py := c * j + c / 2
  let inKind (k : Nat) : Bool := rings.any fun r => r.kind == k && insideRing r px py
  let bounded := rings.any fun r => r.kind == 0
  pack [(bit (inKind 2), 4), (bit (inKind 3), 5), (bit (bounded && (!inKind 0 || inKind 1)), 6)]

/-- The polygon set of a field at a generation (R159). -/
def ringsOf (fe : FieldEntry) (gen : Nat) : List Ring :=
  ((fe.polys.find? fun p => p.1 == gen).map (·.2)).getD []

/-- Table 05-1: the byte of a cell in a tile, the rasterised bits from the tile's own generation. -/
def cellByte (s : State) (fe : FieldEntry) (t : Tile) (i j : Int) : Nat :=
  (Memory.read s.cov.cells (t.slot * 65536 + cellOffset i j)).toNat + rasterBits (ringsOf fe t.polyGen) fe.cell i j

/-! ## Session counters (R174) -/

/-- Seven zero counters. -/
def area0 : Area := [0, 0, 0, 0, 0, 0, 0]

/-- Add to the counters of Table 05-12. -/
def addArea (a d : Area) : Area := (upFrom 0 7).map fun k => nth a 0 k + nth d 0 k

/-- R174: credit one unit, its product's session and the field's lifetime in one operation. APPLIED goes to the recorder
too. -/
def credit7 (fid u p : Nat) (d : Area) (s : State) : State :=
  addTotal (totArea + p) (nth d 0 0) (s.modField fid fun e =>
    { e with session := tmod e.session area0 p fun a => addArea a d,
             lifetime := tmod e.lifetime area0 p fun a => addArea a d,
             units := tmod e.units area0 u fun a => addArea a d })

/-- R155, R173: area that a stroke should have covered and could not. -/
def unwritten (fid u p mm2 : Nat) (s : State) : State := credit7 fid u p [0, 0, 0, 0, 0, 0, mm2] s

/-! ## Writing one cell -/

/-- The area that an increment credits (Table 05-12), from the byte before it. -/
def increments (area at_ before p : Nat) (prov : Bool) : Area :=
  let n := countOf before p
  let m := min 3 (n + 1)
  let w (c : Bool) : Nat := if c then area else 0
  [area, w (n + 1 == at_), w (decide (at_ ≤ n)), w (decide (m < at_)), w (bitAt before 6 || bitAt before 4), w prov, 0]

/-- R169, R172, R174: increment one cell of a ready tile: cell, counters and delta record together. -/
def applyCell (fe : FieldEntry) (t : Tile) (u p : Nat) (i j : Int) (prov : Bool) (s : State) : State :=
  let off := cellOffset i j
  let key := t.slot * 65536 + off
  let d := increments (fe.cell * fe.cell) (s.productCfg p).coveredAt (cellByte s fe t i j) p prov
  let b := incremented (Memory.read s.cov.cells key).toNat p prov
  credit7 fe.fieldId u p d (s.modCov fun c =>
    { c with cells := Memory.write c.cells key b, delta := addDelta t.slot off p prov c.delta,
             tiles := c.tiles.map fun x => if x.slot = t.slot then { x with changed := true, touched := s.devtime } else x })

/-- A run in the miss buffer that one more cell extends to the east, if the newest is one. -/
def extendRun (u p : Nat) (i j : Int) (prov : Bool) : List MissRun → Option (List MissRun)
  | [] => none
  | r :: rest =>
    if r.unit = u && r.product = p && r.row = j && r.col + r.len = i && r.prov = prov then some ({ r with len := r.len + 1 } :: rest)
    else none

/-- R155: a write to a tile that is not ready waits in the miss buffer of 4,096 runs, or its area is UNWRITTEN. The newest run
stands first. -/
def missCell (fe : FieldEntry) (u p : Nat) (i j : Int) (prov : Bool) (s : State) : State :=
  match extendRun u p i j prov s.cov.miss with
  | some m => s.modCov fun c => { c with miss := m }
  | none =>
    if s.cov.miss.length < 4096 then
      s.modCov fun c => { c with miss := { unit := u, product := p, col := i, row := j, prov := prov } :: c.miss }
    else
      let s1 := unwritten fe.fieldId u p (fe.cell * fe.cell) s
      let due := match s.cov.unwrittenAt with
        | some t => decide (t + 1000000 ≤ s.devtime)
        | none => true
      if due then fault 66 0 2 2 0 (s1.modCov fun c => { c with unwrittenAt := some s.devtime }) else s1

/-- One cell of a stroke: written, or held for its tile; nothing beyond the span (R143). -/
def writeCell (fe : FieldEntry) (u p : Nat) (prov : Bool) (s : State) (ij : Int × Int) : State :=
  if !inSpan fe.cell ij.1 ij.2 then s
  else
    let tk := tileOfCell ij.1 ij.2
    match tileAt s fe.fieldId tk.1 tk.2 with
    | some t => if tileReady fe t then applyCell fe t u p ij.1 ij.2 prov s else missCell fe u p ij.1 ij.2 prov s
    | none => missCell fe u p ij.1 ij.2 prov s

/-- R146, R155: the waiting writes of a tile are applied, oldest first, once it is ready. -/
def drainMiss (fe : FieldEntry) (tc tr : Int) (s : State) : State :=
  let mine (r : MissRun) : Bool := r.col / 256 == tc && r.row / 256 == tr && (r.col + r.len - 1) / 256 == tc
  let cross (r : MissRun) : Bool := !mine r && r.row / 256 == tr && (r.col / 256 == tc || (r.col + r.len - 1) / 256 == tc)
  let all := s.cov.miss.reverse
  let s1 := s.modCov fun c => { c with miss := c.miss.filter fun r => !(mine r || cross r) }
  (all.filter fun r => mine r || cross r).foldl (fun s r =>
    (List.range r.len).foldl (fun s (k : Nat) => writeCell fe r.unit r.product r.prov s (r.col + (k : Int), r.row)) s) s1

/-! ## Tiles -/

/-- R149: tiles that the map may hold, and those of one field. -/
def mapTiles (s : State) : Nat := s.cov.slots - 1024

/-- R154: a tile without a slot is created, its cells 0 and rasterised; TEPHRA_FULL when no slot outside the spares is left, or
the field holds its 65,536 tiles. -/
def createTile (fe : FieldEntry) (tc tr : Int) (s : State) : State :=
  if mapTiles s ≤ s.cov.tiles.length || 65536 ≤ (s.cov.tiles.filter fun t => t.fieldId == fe.fieldId).length then
    fault 66 0 0 3 0 s
  else
    let n := freeSlotNo s.cov
    s.modCov fun c =>
      { c with tiles := c.tiles ++ [{ fieldId := fe.fieldId, tcol := tc, trow := tr, slot := n, polyGen := fe.polyGen,
                                      coverEpoch := fe.coverEpoch, moveTo := some n, cached := true, touched := s.devtime }],
               cells := Memory.clear c.cells (n * 65536) ((n + 1) * 65536) }

/-- R146, R176: the epoch clear of a tile that is older than its field. It is written back at once, so that a replay never meets cells of an
older epoch (DEDUCED, assumption 56). -/
def epochClear (fe : FieldEntry) (t : Tile) (s : State) : State :=
  if t.coverEpoch = fe.coverEpoch then s
  else
    let s1 := modTile fe.fieldId t.tcol t.trow (fun x => { x with coverEpoch := fe.coverEpoch, changed := true })
      (s.modCov fun c => { c with cells := Memory.clear c.cells (t.slot * 65536) ((t.slot + 1) * 65536) })
    s1.modCov (markBack fun x => x.slot == t.slot)

/-- R159: a tile takes its field's polygon generation. -/
def rerasterise (fe : FieldEntry) (tc tr : Int) (s : State) : State :=
  modTile fe.fieldId tc tr (fun x => { x with polyGen := fe.polyGen, changed := x.changed || x.polyGen != fe.polyGen }) s

/-- R153: the working set: the tiles of the decision windows, and those that writes wait for. -/
def workingSet (s : State) : List (Int × Int) :=
  let held (r : MissRun) : List (Int × Int) := [(r.col / 256, r.row / 256), ((r.col + r.len - 1) / 256, r.row / 256)]
  (s.cov.working ++ s.cov.miss.flatMap held).foldl (fun l t => if l.contains t then l else l ++ [t]) []

/-- R153: the tiles to be cached, in the order in which they are loaded: the working set, then the ahead set from its near end, as far as
128 tiles go. -/
def wantedTiles (s : State) : List (Int × Int) :=
  let w := workingSet s
  w ++ (s.cov.ahead.filter fun t => !w.contains t).take (128 - w.length)

/-- Tiles in the cache. -/
def cachedTiles (s : State) : List Tile := s.cov.tiles.filter fun t => t.cached

/-- R153: make room in the cache of 128 tiles: the least recently touched tile in neither set leaves it, a changed one written back
(R151). -/
def evict (s : State) : State :=
  if (cachedTiles s).length < 128 then s
  else
    let out := (cachedTiles s).filter fun t => !(wantedTiles s).contains (t.tcol, t.trow)
    match out.foldl (fun m t => match m with
      | none => some t
      | some x => if t.touched < x.touched then some t else some x) (none : Option Tile) with
    | some x => s.modCov fun c =>
        let b := markBack (fun t => t.slot == x.slot && t.changed) c
        { b with tiles := b.tiles.map fun t => if t.slot = x.slot then { t with cached := false, changed := false } else t }
    | none => s

/-- R151: a tile that cannot be rebuilt is recreated empty, its covered area added to UNWRITTEN of the field's lifetime; to no session, whose
counters are the sums of its units' (DESIGN CHOICE, assumption 56). -/
def loseTile (fe : FieldEntry) (t : Tile) (s : State) : State :=
  let cells := (List.range 65536).map fun k => (Memory.read s.cov.cells (t.slot * 65536 + k)).toNat
  let lost (p : Nat) : Nat := fe.cell * fe.cell * (cells.filter fun b => countOf b p != 0).length
  let add (p : Nat) (s : State) : State :=
    s.modField fe.fieldId fun e =>
      { e with lifetime := tmod e.lifetime area0 p fun a => addArea a [0, 0, 0, 0, 0, 0, lost p] }
  fault 66 0 1 3 0 (add 1 (add 0 (s.modCov fun c =>
    { c with cells := Memory.clear c.cells (t.slot * 65536) ((t.slot + 1) * 65536) })))

/-! ## Poses -/

/-- A place in 2^-30 mm and a direction in 2^-30 (east, north). -/
structure Pose where
  e : Int := 0
  n : Int := 0
  fe : Int := 0
  fn : Int := 0
deriving DecidableEq, Repr

/-- The forward axis of a heading. -/
def axisE (h : Int) : Int := sinMdeg h
def axisN (h : Int) : Int := cosMdeg h

/-- The point (x, y) of the body frame at a reference point in 2^-30 mm and a heading. -/
def bodyPoint (e n h x y : Int) : Int × Int :=
  (e + x * axisE h + y * axisN h, n + x * axisN h - y * axisE h)

/-- R162: the unit's pose `d` mm along its own path, ahead of its travel or, with `rev` −1, behind it: speed, yaw rate and heading held.
The reference point follows its chord; the footprint points along the unit's travel there. -/
def poseAt (v w vu hdg e n x y rev : Int) (d : Nat) : Pose :=
  let a : Int := max 1 (mag vu)
  -- heading gained, millidegrees: w × d / |v_unit|
  let turn := if vu = 0 then 0 else roundDiv (rev * w * d * 1000) a.toNat
  let mid := hdg + roundDiv turn 2
  let chord : Int :=
    if vu = 0 then 0
    else if turn = 0 then roundDiv (rev * v * d * q30) a.toNat
    else roundDiv ((if w < 0 then -1 else 1) * v * 360 * 1000000000000 * sinMdeg (roundDiv turn 2)) (mag w * 3141592653590)
  let re := e * q30 + roundDiv (chord * axisE mid) 1073741824
  let rn := n * q30 + roundDiv (chord * axisN mid) 1073741824
  let h := hdg + turn
  let p := bodyPoint re rn h x y
  if vu = 0 then { e := p.1, n := p.2, fe := axisE h, fn := axisN h }
  else
    let b := lateral w x
    let m := max 1 (isqrt (mag vu * mag vu + mag b * mag b))
    { e := p.1, n := p.2, fe := roundDiv (vu * axisE h + b * axisN h) m, fn := roundDiv (vu * axisN h - b * axisE h) m }

/-! ## Footprints -/

/-- The whole numbers from `a` to `b`. -/
def intsFrom (a b : Int) : List Int := (List.range (b - a + 1).toNat).map fun (k : Nat) => a + (k : Int)

/-- R164: the cells of a footprint of width `w` and depth `d` mm: centres in the half-open rectangle, or the cell that holds its
centre. -/
def footprint (c : Int) (w d : Nat) (p : Pose) : List (Int × Int) :=
  let ex := (w * mag p.fn + d * mag p.fe : Nat)
  let ey := (w * mag p.fe + d * mag p.fn : Nat)
  let g := c * q30
  let cells := (intsFrom ((2 * p.n - ey) / (2 * g)) ((2 * p.n + ey) / (2 * g))).flatMap fun j =>
    (intsFrom ((2 * p.e - ex) / (2 * g)) ((2 * p.e + ex) / (2 * g))).filterMap fun i =>
      let de := (c * i + c / 2) * q30 - p.e
      let dn := (c * j + c / 2) * q30 - p.n
      let across := de * p.fn - dn * p.fe
      let along := de * p.fe + dn * p.fn
      let hw := w * q30 * q30
      let hd := d * q30 * q30
      if decide (-hw ≤ 2 * across) && decide (2 * across < hw) && decide (-hd ≤ 2 * along) && decide (2 * along < hd) then
        some (i, j) else none
  if cells.isEmpty then [(p.e / g, p.n / g)] else cells

/-- The tiles that cells touch. -/
def tilesTouched (cs : List (Int × Int)) : List (Int × Int) :=
  cs.foldl (fun acc ij => let t := tileOfCell ij.1 ij.2; if acc.contains t then acc else t :: acc) []

/-! ## The window (R163, R165) -/

/-- What the decision needs of one section unit. -/
structure Sweep where
  fe : FieldEntry := {}
  product : Nat := 0
  cfg : ProductCfg := {}
  w : Nat := 50
  d : Nat := 200
  step : Nat := 50
  last : Nat := 0
deriving DecidableEq, Repr

/-- R162, R163: step length and number of steps of a section unit. -/
def sweepOf (s : State) (fe : FieldEntry) (u : Nat) : Sweep :=
  let x := (s.secOf u).getD {}
  let c := fe.cell
  let per := 32768 / max 1 s.sectionUnits.length
  let step := c * max 1 (ceilDiv x.laMm (c * max 1 per))
  { fe := fe, product := x.product, cfg := s.productCfg x.product, w := x.wMm.getD c, d := x.depthMm.getD (4 * c), step := step,
    last := if (s.unit u).motion.vUm = 0 then 0 else ceilDiv x.laMm step }

/-- The footprint of step `k`: a unit in BACKWARD sweeps behind itself, whatever the sign of its speed now (R133, R162). -/
def stepCells (s : State) (sw : Sweep) (u k : Nat) : List (Int × Int) :=
  let c := s.unitCfg u
  let m := (s.unit u).motion
  let v := if s.odo.standstill then 0 else s.odo.speed
  footprint sw.fe.cell sw.w sw.d
    (poseAt v s.nav.yawRate m.vUm s.nav.heading (reportedE s) (reportedN s) c.xMm c.yMm (if m.backward == decide (m.vUm < 0) then 1 else -1)
      (k * sw.step))

/-- One cell as the decision sees it: none while its tile is absent or stale, ground beyond the span as outside (R143). -/
def seenCell (s : State) (fe : FieldEntry) (ij : Int × Int) : Option Nat :=
  if !inSpan fe.cell ij.1 ij.2 then some 64
  else
    let tk := tileOfCell ij.1 ij.2
    match tileAt s fe.fieldId tk.1 tk.2 with
    | some t => if tileReady fe t then some (cellByte s fe t ij.1 ij.2) else none
    | none => none

/-- R165: the class of an excluded cell: 0 OUTSIDE, 1 EXCLUDED, 2 HEADLAND; none for an eligible one. A cell excluded on several grounds
counts in the first of them only (DESIGN CHOICE, assumption 56). -/
def exclusionOf (m : HeadlandMode) (b : Nat) : Option Nat :=
  if bitAt b 6 then some 0
  else if bitAt b 4 then some 1
  else match m with
    | .exclude => if bitAt b 5 then some 2 else none
    | .only => if bitAt b 5 then none else some 2
    | .normal => none

/-- R165: whether an eligible cell is covered for a product. -/
def coveredCell (cfg : ProductCfg) (p b : Nat) : Bool :=
  if bitAt b 7 && cfg.provUncovered then false else decide (cfg.coveredAt ≤ countOf b p)

/-- R167: the reason of the largest class of excluded cells, ties in the order OUTSIDE, EXCLUDED, HEADLAND. -/
def excludedReason (o x h : Nat) : Nat := if x ≤ o && h ≤ o then 4 else if h ≤ x then 3 else 5

/-- R165, R167: what one footprint wants, given the state before it, and its reason. -/
def judgeStep (cfg : ProductCfg) (p : Nat) (bytes : List Nat) (state : Bool) : Bool × Nat :=
  let cls (k : Nat) : Nat := (bytes.filter fun b => exclusionOf cfg.headlandMode b == some k).length
  let nAll := bytes.length
  let elig := bytes.filter fun b => (exclusionOf cfg.headlandMode b).isNone
  let nExcl := nAll - elig.length
  if cfg.exclLimit * nAll < nExcl * 100 then (false, excludedReason (cls 0) (cls 1) (cls 2))
  else
    let nCov := (elig.filter fun b => coveredCell cfg p b).length
    if nCov * 100 < cfg.onThr * elig.length then (true, 1)
    else if cfg.offThr * elig.length < nCov * 100 then (false, 2)
    else (state, 6)

/-- What a window gives: its transitions as wanted state and step, the last step evaluated, the reason of step 0, and whether a
tile was missing. -/
structure Window where
  trans : List (Bool × Nat) := []
  last : Option Nat := none
  reason : Nat := 9
  missed : Bool := false
deriving DecidableEq, Repr

/-- R165: the window from step `k`, at most `n` more steps. -/
def windowFrom (s : State) (sw : Sweep) (u : Nat) : Nat → Nat → Bool → Window → Window
  | 0, _, _, w => w
  | n + 1, k, state, w =>
    match (stepCells s sw u k).mapM (seenCell s sw.fe) with
    | none => { w with missed := true }
    | some bytes =>
      let j := judgeStep sw.cfg sw.product bytes state
      let w1 := { w with last := some k, reason := if k = 0 then j.2 else w.reason }
      let w2 := if j.1 == state then w1 else { w1 with trans := w1.trans ++ [(j.1, k)] }
      if w2.trans.length = 4 then w2 else windowFrom s sw u n (k + 1) j.1 w2

/-- R165: the whole window of a section unit. -/
def windowOf (s : State) (sw : Sweep) (u : Nat) (start : Bool) : Window := windowFrom s sw u (sw.last + 1) 0 start {}

/-! ## The ahead set (R153) -/

/-- The lateral extent of the implement's declared width, mm. -/
def declaredWidth (s : State) : Int × Int :=
  s.sectionUnits.foldl (fun m u =>
    let y := (s.unitCfg u).yMm
    let w : Int := widthOf s u
    (min m.1 (y - w / 2), max m.2 (y + w / 2))) (0, 0)

/-- R153: the ahead set along the predicted path, nearest first: the tiles of the boxes that the implement's width spans, one
every half tile, to the horizon. -/
def aheadSet (s : State) (fe : FieldEntry) : List (Int × Int) :=
  let c := fe.cell
  let v := if s.odo.standstill then 0 else s.odo.speed
  let h := max 20000 (4 * mag v / 1000)
  let half := 128 * c
  let w := declaredWidth s
  let at_ (k : Nat) (y : Int) : Int × Int :=
    let p := poseAt v s.nav.yawRate v s.nav.heading (reportedE s) (reportedN s) 0 y 1 (k * half)
    (p.e / (256 * c * q30), p.n / (256 * c * q30))
  (List.range (h / half + 2)).foldl (fun acc k =>
    let a := at_ k w.1
    let b := at_ k w.2
    let box := (intsFrom (min a.1 b.1) (max a.1 b.1)).flatMap fun i => (intsFrom (min a.2 b.2) (max a.2 b.2)).map fun j => (i, j)
    box.foldl (fun acc t => if acc.contains t || !tileInSpan c t then acc else acc ++ [t]) acc) []

/-! ## The writer (R168 to R173) -/

/-- A fused epoch as the writer keeps it: time, position in 2^-30 mm, heading, UNCERTAIN. -/
structure Track where
  t : Nat := 0
  e : Int := 0
  n : Int := 0
  hdg : Int := 0
  prov : Bool := false
deriving DecidableEq, Repr

/-- The history as tracks, newest first. -/
def tracks (s : State) : List Track :=
  s.nav.history.map fun h => { t := h.1, e := h.2.1 * q30, n := h.2.2.1 * q30, hdg := h.2.2.2.1, prov := h.2.2.2.2 }

/-- R169: the implement between two epochs, linear in time. -/
def between (a b : Track) (t : Nat) : Track :=
  if b.t ≤ a.t then a
  else
    let d := b.t - a.t
    let k : Int := (t : Int) - a.t
    { t := t, e := a.e + roundDiv ((b.e - a.e) * k) d, n := a.n + roundDiv ((b.n - a.n) * k) d,
      hdg := wrapDeg (a.hdg + roundDiv (angDiff (b.hdg - a.hdg) * k) d), prov := b.prov }

/-- R169: the cells whose centres lie in the area that a unit's lateral segment sweeps from `a` to `b`: those that the line passes over
forward, the start line included and the end line excluded, or backward, between the paths of the segment's two ends. A segment that pivots
inside itself passes over some cells forward and over others backward. -/
def sweptCells (c : Int) (x y : Int) (w : Nat) (a b : Track) : List (Int × Int) :=
  let p (t : Track) (dy : Int) : Int × Int := bodyPoint (2 * t.e) (2 * t.n) t.hdg (2 * x) (2 * y + dy)
  let ca := p a 0
  let cb := p b 0
  let la := p a (-w)
  let lb := p b (-w)
  let ra := p a w
  let rb := p b w
  let way (o z : Int × Int) : Int :=
    let k := (z.1 - o.1) * axisE a.hdg + (z.2 - o.2) * axisN a.hdg
    if k < 0 then -1 else if k = 0 then 0 else 1
  let es := [la.1, lb.1, ra.1, rb.1]
  let ns := [la.2, lb.2, ra.2, rb.2]
  let g := 2 * c * q30
  let lo (l : List Int) : Int := l.foldl min (l.headD 0)
  let hi (l : List Int) : Int := l.foldl max (l.headD 0)
  if way la lb = 0 && way ra rb = 0 then []
  else
    (intsFrom (lo ns / g) (hi ns / g)).flatMap fun j => (intsFrom (lo es / g) (hi es / g)).filterMap fun i =>
      let qe := 2 * (c * i + c / 2) * q30
      let qn := 2 * (c * j + c / 2) * q30
      let dot (o : Int × Int) (h : Int) : Int := (qe - o.1) * axisE h + (qn - o.2) * axisN h
      let cross (o z : Int × Int) : Int := way o z * ((z.1 - o.1) * (qn - o.2) - (z.2 - o.2) * (qe - o.1))
      let d0 := dot ca a.hdg
      let d1 := dot cb b.hdg
      let over_ := (decide (0 ≤ d0) && decide (d1 < 0)) || (decide (d0 ≤ 0) && decide (0 < d1))
      if over_ && decide (cross la lb ≤ 0) && (way ra rb == 0 || decide (0 < cross ra rb)) then some (i, j) else none

/-- Sweep one interval of a stroke: each cell once per stroke. -/
def sweepInterval (fe : FieldEntry) (u : Nat) (a b : Track) (s : State) : State :=
  let x := (s.secOf u).getD {}
  let c := s.unitCfg u
  (sweptCells fe.cell c.xMm c.yMm (widthOf s u) a b).foldl (fun s ij =>
    if s.cov.strokeCells.contains (u, ij.1, ij.2) then s
    else writeCell fe u x.product b.prov (s.modCov fun c => { c with strokeCells := (u, ij.1, ij.2) :: c.strokeCells }) ij) s

/-- Sweep along tracks, oldest first, from `a`; never across a position step (R171). -/
def sweepAlong (fe : FieldEntry) (u : Nat) : Track → List Track → State → State
  | _, [], s => s
  | a, b :: r, s => sweepAlong fe u b r (if s.nav.steps.contains b.t then s else sweepInterval fe u a b s)

/-- The track at time `t` by the history, newest first. Within an interval that ends at a position step a sweep ends at the epoch before it
and begins at the stepped position (R171). -/
def trackAt (steps : List Nat) (ending : Bool) (t : Nat) : List Track → Option Track
  | [] => none
  | [a] => if a.t = t then some a else none
  | b :: a :: r =>
    if b.t = t then some b
    else if a.t ≤ t && t < b.t then
      some (if a.t = t then a else if steps.contains b.t then (if ending then a else b) else between a b t)
    else trackAt steps ending t (a :: r)

/-- R173: ground that the history no longer reaches: the segment's width times the distance of the time lost. -/
def lostArea (s : State) (u us : Nat) : Nat := widthOf s u * (mag (s.unit u).motion.vUm * us / 1000000000)

/-- R169 to R173: one stroke carried on to the newest epoch; the second answer says that it is written to its end. -/
def advanceStroke (fe : FieldEntry) (u : Nat) (k : Stroke) (s : State) : State × Stroke × Bool :=
  let now := s.nav.epoch.getD 0
  let stop := match k.to_, k.limit with
    | some e, _ => min now e
    | none, some l => min now l
    | none, none => now
  let from_ := k.swept.getD k.from_
  if now < k.from_ || stop ≤ from_ then
    (s, k, k.to_.any fun e => decide (e ≤ from_) && decide (e ≤ now))
  else
    let h := tracks s
    let oldest := (h.getLast?.map (·.t)).getD now
    let lost := min oldest stop
    let s1 := if from_ < lost then unwritten fe.fieldId u ((s.secOf u).getD {}).product (lostArea s u (lost - from_)) s else s
    let start := max from_ oldest
    match trackAt s.nav.steps false start h, trackAt s.nav.steps true stop h with
    | some a, some b =>
      let mid := (h.filter fun x => decide (start < x.t) && decide (x.t < stop)).reverse
      (sweepAlong fe u a (mid ++ [b]) s1, { k with swept := some stop }, k.to_.any fun e => decide (e ≤ stop))
    | _, _ => (s1, { k with swept := some stop }, k.to_.any fun e => decide (e ≤ stop))

/-- The strokes of a unit, oldest first; a finished one leaves with its cells. A PWM unit that has stopped cycling between cycles ended
its stroke at its last closing (R168); of a follower's unit the lead knows its command. -/
def advanceStrokes (fe : FieldEntry) (u : Nat) (s : State) : State :=
  let d := (s.unit u).drive
  let idle := if u < 128 then !d.cycling && d.openWinEnd.isNone && d.closeWinEnd.isNone && !driven d else !(s.unit u).sect.commanded
  let s0 := if idle then strokeEndedThere u s else s
  let r := (s0.unit u).sect.strokes.foldl (fun (acc : State × List Stroke) k =>
    let x := advanceStroke fe u k acc.1
    if x.2.2 then (x.1.modCov fun c => { c with strokeCells := c.strokeCells.filter fun m => m.1 != u }, acc.2)
    else (x.1, acc.2 ++ [x.2.1])) (s0, [])
  r.1.modSect u fun x => { x with strokes := r.2, applying := r.2.any fun k => k.swept.isSome }

/-- R169: the writer at a fused epoch. Followers keep no map (R179). -/
def writeCoverage (s : State) : State :=
  match s.cov.opened.bind s.fieldEntry with
  | none => s
  | some fe => if s.follower then s else s.sectionUnits.foldl (fun s u => advanceStrokes fe u s) s

/-! ## Stroke events -/

/-- R168: a stroke of a section unit opens at a dip detected at `t`; in a running PWM stroke the dip says that it runs on. With no
field open nothing is written (R177). -/
def strokeOpen (u t : Nat) (s : State) : State :=
  if s.cov.opened.isNone then s
  else if (s.unit u).sect.strokes.any fun k => k.to_.isNone then strokeRunsOn u s
  else s.modSect u fun x => { x with strokes := x.strokes ++ [{ from_ := t + transportUs s u }] }

/-- R168, R170: the open stroke of a unit closes at `t`; one that closes without a knee is counted in UNCONFIRMED_CLOSE. -/
def strokeClose (u kind t : Nat) (s : State) : State :=
  s.modSect u fun x =>
    { x with strokes := x.strokes.map fun k =>
        if k.to_.isNone then { k with to_ := some (max k.from_ (t + transportUs s u)), limit := none } else k,
             unconfirmed := x.unconfirmed + if kind = 2 && x.strokes.any fun k => k.to_.isNone then 1 else 0 }

/-- R455, R168: a stroke event of a section unit: at the package's own writer, or to the lead in system time. KIND 0 OPEN, 1 CLOSE,
2 CLOSE_UNCONFIRMED. A PWM unit that goes on cycling only may end there; a closing in a cycle without a dip leaves the possible end at that
cycle's start. -/
def strokeEvent (u kind : Nat) (s : State) : State :=
  if (s.secOf u).isNone then s
  else if s.follower then
    let sys : Int := (s.devtime : Int) + (s.zither.offsetNs.getD 0) / 1000
    sendZ 7 0 [(s.sysUnit u : Nat), kind, sys] s
  else if kind = 0 then strokeOpen u s.devtime s
  else if (s.unit u).drive.mode == .pwm && (s.unit u).drive.cycling then
    if (s.unit u).drive.dipSeen then strokeMayEnd u kind s.devtime s else s
  else strokeClose u kind s.devtime s

/-! ## Reconcile (R175) -/

/-- The covered area of the open field for a product, and its lifetime FIRST. -/
def coveredArea (s : State) (fe : FieldEntry) (p : Nat) : Nat × Nat :=
  let at_ := (s.productCfg p).coveredAt
  let n := (s.cov.tiles.filter fun t => t.fieldId == fe.fieldId && t.coverEpoch == fe.coverEpoch).foldl (fun n t =>
    n + (s.cov.cells.filter fun c => c.1 / 65536 == t.slot && decide (at_ ≤ countOf c.2.toNat p)).length) 0
  (n * fe.cell * fe.cell, nth (tget fe.lifetime area0 p) 0 1)

/-- R175: compare both products; a difference is AREA_MISMATCH with both values. -/
def reconcile (fe : FieldEntry) (s : State) : State :=
  [0, 1].foldl (fun s p =>
    let r := coveredArea s fe p
    if r.1 = r.2 then s else faultCritical 67 p 0 [(r.1 : Int), (r.2 : Int)] s) s

end Sys2Proof.Machine
end

