-- ==== Sys2Proof/Machine/DecideOps.lean ====
section
/-! DEFINITION. Section decisions: gates (Table 05-9), immediate commands (R166, R194), the merge of the window into the plan
(R191 to R193), N_SECTIONS (R167), and the 1 ms cycle of decisions and frets (R162, R189, R196). -/

namespace Sys2Proof.Machine

/-! ## Masters and gates -/

/-- The host master of a product as gate 3 takes it (R166, R396, R397). -/
def masterOn (s : State) (p : Nat) : Bool := s.host.masterAuto || tget s.host.master false p

/-- Whether an operator input is closed; none counts as closed (Tables 05-7, 05-8). -/
def inputClosed (s : State) (i : Option Nat) : Bool :=
  match i with
  | some i => (s.fi i).state
  | none => true

/-- Gate 1 (Table 05-9). Of a follower's unit the lead knows its enable and the follower's presence. -/
def unitDisabled (s : State) (u : Nat) : Bool :=
  if 128 ≤ u then !enabled s || !(tget s.ledger.tokens {} (u / 128)).present
  else faulted s u || !drivable s (.unit u)

/-- R453: the decisions of a follower's unit are frozen while its ODO is 5 ms old or older. -/
def frozenUnit (s : State) (u : Nat) : Bool :=
  decide (128 ≤ u) && match tfind s.zither.odo (u / 128) with
    | some (_, _, _, at_) => decide (at_ + 5000 ≤ s.devtime)
    | none => true

/-- Gate 8 with its hysteresis (R166). -/
def tooSlow (s : State) (u p : Nat) : Bool :=
  let m := (s.productCfg p).minSpeed
  let v := mag (s.unit u).motion.vUm
  m != 0 && (decide (v < 1000 * m) || ((s.unit u).sect.lowSpeed && decide (v < 1000 * (m + 50))))

/-- What a gate says: its reason and the state it commands, none for unchanged. -/
abbrev GateVerdict := Nat × Option Bool

/-- Table 05-9: the first gate that applies; none leaves the window to decide. -/
def gateOf (s : State) (u : Nat) : Option GateVerdict :=
  let x := (s.secOf u).getD {}
  let m := (s.unit u).sect.hostMode
  if unitDisabled s u then some (15, some false)
  else if m = 1 then some (13, some false)
  else if !masterOn s x.product || !inputClosed s (s.productCfg x.product).masterIn then some (12, some false)
  else if !inputClosed s x.sectionIn then some (12, some false)
  else if (s.unitCfg u).forwardOnly && (s.unit u).motion.backward then some (11, some false)
  else if m = 2 || m = 3 then some (13, some true)
  else if s.cov.opened.isNone || s.cov.closingAt.isSome then some (14, some false)
  else if tooSlow s u x.product then some (10, some false)
  else if s.nav.holdActive then some (7, none)
  else if s.nav.uncertain then some (8, some false)
  else none

/-! ## Immediate commands -/

/-- R191: the plan's entry furthest along that has not fired and whose effect position the odometer has reached. -/
def reachedEntry (s : State) (u : Nat) : Option Fret :=
  ((s.unit u).frets.filter fun f => f.live && f.hasEffect && f.action != 3 && decide (32768 ≤ f.tag)
    && (if f.backward then decide (odometer s u ≤ f.effect) else decide (f.effect ≤ odometer s u))).foldl (fun m f =>
      match m with
      | none => some f
      | some g => if (if f.backward then decide (g.effect < f.effect) else decide (f.effect < g.effect)) then some g else some f) none

/-- The state that a unit was in before the fired entries of its plan: the last reached one's, else, with none ahead, that of its last
command (R191). -/
def leftState (s : State) (u : Nat) : Bool :=
  match (s.unit u).sect.reached with
  | some b => b
  | none => (s.unit u).sect.commanded && !(s.unit u).frets.any fun f => f.state == .fired && f.action != 3

/-- The state that a unit's fired entries lead to: the newest one's, else the last reached (R191). -/
def planState (s : State) (u : Nat) : Bool :=
  match ((s.unit u).frets.filter fun f => f.state == .fired && f.action != 3).getLast? with
  | some f => f.action != 1
  | none => leftState s u

/-- R191: the start state: that of the last entry of the plan whose effect position is reached, fired or not; without one, what the
last command left. Fired entries that are reached have left the plan and are remembered. -/
def startState (s : State) (u : Nat) : Bool :=
  let x := (s.unit u).sect
  match reachedEntry s u with
  | some f =>
    if x.reached.isSome && (if f.backward then decide (x.reachedPos < f.effect) else decide (f.effect < x.reachedPos)) then leftState s u
    else f.action != 1
  | none => leftState s u

/-- Give a section unit its command; an ON that the ledger refuses, or that finds the
Keeper pair restarting (R22), is asked again in the next cycle (R42); once refused, its edge gives no sample (R213). -/
def giveCommand (u : Nat) (on : Bool) (s : State) : State :=
  let i : EdgeInfo := { credit := (s.unit u).sect.refusedOn }
  let set (s : State) : State := s.modSect u fun x => { x with commanded := on, refusedOn := false }
  if 128 ≤ u then set (sendZ 5 (u / 128) [2, u, if on then 0 else 1] s)
  else if !on then set (commandOff u s)
  else if (s.unit u).drive.mode == UnitMode.onoff && (s.unit u).drive.base = 0 then
    if coreOut s 0 || refusedNow s u then s
    else match acquireBase u (baseOf s u .onoff) false s with
    | .ok s1 => set (commandOn u i s1)
    | .error l => (countRefusal u l (baseOf s u .onoff) s).modSect u fun x => { x with refusedOn := true }
  else set (commandOn u i s)

/-- R166, R194, R191: a gate's command: device frets cancelled but for suspended ones, the command given where it differs, and
the plan told of it. -/
def immediate (u : Nat) (on : Bool) (s : State) : State :=
  let before := planState s u
  let s1 := dropDevice u (fun f => f.state != .suspended) s
  let s2 := if (s1.unit u).sect.commanded == on then s1 else giveCommand u on s1
  if before == on || (s2.unit u).sect.commanded != on then s2 else planImmediate u (if on then 0 else 1) s2

/-! ## The merge (R192, R193) -/

/-- The next device tag of a unit (Table 06-1). -/
def nextTagOf (t : Nat) : Nat := if t < 32768 || 65535 ≤ t then 32768 else t + 1

/-- Where the merge stands: which entries of the plan are kept, by position, and where it stopped. -/
structure Merge where
  kept : List Nat := []
  stop : Option Int := none
deriving DecidableEq, Repr

/-- The first plan entry not yet kept with this action within a step of the effect. -/
def matchEntry (fs : List Fret) (kept : List Nat) (want : Bool) (effect step : Int) : Option Nat :=
  (fs.zipIdx.find? fun p =>
    !kept.contains p.2 && p.1.action != 3 && (p.1.state == .fired || decide (32768 ≤ p.1.tag)) && p.1.hasEffect
      && (p.1.action != 1) == want && decide (mag (p.1.effect - effect) < mag step)).map (·.2)

/-- R193: a new device fret. At the lead a follower's goes out at once with EFFECT set (R454). -/
def newFret (u : Nat) (want : Bool) (effect : Int) (s : State) : State :=
  let x := s.unit u
  let p := ((s.secOf u).getD {}).product
  let tag := nextTagOf x.nextTag
  let f : Fret :=
    { pos := if u < 128 then commandPos s u want effect else effect, effect := effect, action := if want then 0 else 1,
      hasEffect := true, backward := decide (x.motion.vUm < 0), tag := tag, discard := (s.productCfg p).lateDiscard }
  let s1 := (if u < 128 then putFound u f s else putFret u f s).modUnit u fun x => { x with nextTag := tag }
  if u < 128 then s1
  else sendZ 5 (u / 128) [0, effect, f.action, 1 + 4 * bit f.backward, tag, f.discard, u] s1

/-- One transition merged (R192). `back` says that the window sweeps behind. -/
def mergeOne (u : Nat) (step : Int) (back : Bool) (acc : State × Merge) (t : Bool × Int) : State × Merge :=
  let s := acc.1
  let m := acc.2
  if m.stop.isSome then acc
  else match matchEntry (s.unit u).frets m.kept t.1 t.2 step with
    | some i => (s, { m with kept := i :: m.kept })
    | none =>
      if 32 ≤ ((s.unit u).frets.filter Fret.live).length then
        (s, { m with stop := some (if back then t.2 + step else t.2 - step) })
      else (newFret u t.1 t.2 s, { m with kept := (s.unit u).frets.length :: m.kept })

/-- R192: merge a window's transitions, whose effects are on the unit's odometer, and cancel what is inside it and not kept. -/
def merge (u : Nat) (trans : List (Bool × Int)) (windowEnd step : Int) (s : State) : State :=
  let odo := odometer s u
  let back := decide (windowEnd < odo)
  let r := trans.foldl (mergeOne u step back) (s, {})
  let stop := r.2.stop.getD windowEnd
  let tags := (r.1.unit u).frets.zipIdx.filterMap fun p =>
    let inside := decide (min odo stop ≤ p.1.effect) && decide (p.1.effect ≤ max odo stop)
    if !r.2.kept.contains p.2 && inside && p.1.hasEffect && decide (32768 ≤ p.1.tag)
      && (p.1.state == .pending || p.1.state == .armed || p.1.state == .suspended) then some p.1.tag else none
  if tags.isEmpty then r.1 else dropDevice u (fun f => f.live && tags.contains f.tag) r.1

/-! ## N_SECTIONS -/

/-- Table 05-11: one package's section states. -/
def sectionsPayload (s : State) (pkg : Nat) : List Byte :=
  let base := if s.lead then 128 * pkg else 0
  let bits (f : SectionSt → Bool) : Nat := (List.range 128).foldl (fun a u => a + bit (f (s.unit (base + u)).sect) * 2 ^ u) 0
  let reasons := (List.range 128).foldl (fun a u => a + (s.unit (base + u)).sect.reason * 16 ^ u) 0
  le 8 s.cov.decidedAt ++ le 1 pkg ++ le 3 0 ++ le 16 (bits (·.on)) ++ le 16 (bits (·.applying)) ++ le 64 reasons

/-- R167, R179: N_SECTIONS, one per package. -/
def sendSections (s : State) : State :=
  let pkgs := if s.lead then 0 :: s.cfg.package.members.filter (· != 0) else [s.cfg.package.pkgIndex]
  (pkgs.foldl (fun s p => notify 1 33793 (sectionsPayload s p) s) s).modCov fun c =>
    { c with sectionsAt := some s.devtime, sectionsDue := false }

/-- Whether the last N_SECTIONS is at least `us` old. -/
def sectionsOld (s : State) (us : Nat) : Bool :=
  match s.cov.sectionsAt with
  | some t => decide (t + us ≤ s.devtime)
  | none => true

/-! ## The cycle -/

/-- R167: what a decision leaves in ON and REASON; a change is due for N_SECTIONS. -/
def noteDecision (u reason : Nat) (s : State) : State :=
  let x := (s.unit u).sect
  if x.reason = reason && x.on == x.commanded then s
  else (s.modSect u fun x => { x with reason := reason, on := x.commanded }).modCov fun c => { c with sectionsDue := true }

/-- Tiles that this cycle touches: remembered as the working set (R153). -/
def touchTiles (fe : FieldEntry) (ts : List (Int × Int)) (s : State) : State :=
  s.modCov fun c =>
    { c with working := ts.foldl (fun acc t => if acc.contains t then acc else acc ++ [t]) c.working,
             tiles := c.tiles.map fun t =>
               if t.fieldId = fe.fieldId && ts.contains (t.tcol, t.trow) then { t with touched := s.devtime } else t }

/-- R165, R192: a section unit's window and its merge; the second answer says that it reached a missing tile. -/
def windowUnit (fe : FieldEntry) (u : Nat) (s : State) : State × Bool :=
  let sw := sweepOf s fe u
  let ts := (List.range (sw.last + 1)).foldl (fun acc k => tilesTouched (stepCells s sw u k) ++ acc) []
  let s0 := touchTiles fe (ts.filter (tileInSpan fe.cell)) s
  let w := windowOf s0 sw u (startState s u)
  let back := (s.unit u).motion.backward
  let odo := odometer s u
  let at_ (k : Nat) : Int := if back then odo - (k * sw.step * 10 : Nat) else odo + (k * sw.step * 10 : Nat)
  let s1 := match w.last with
    | none => s0
    | some l => merge u (w.trans.map fun t => (t.1, at_ t.2)) (at_ l) (10 * sw.step) s0
  (noteDecision u w.reason s1, w.missed)

/-- R166: one section unit's decision. -/
def decideUnit (u : Nat) (acc : State × Bool) : State × Bool :=
  let s := pruneUnit u acc.1
  if frozenUnit s u then (noteDecision u 9 s, acc.2)
  else
    let g := gateOf s u
    let s1 := s.modSect u fun x => { x with lowSpeed := (g.map (·.1)) == some 10 }
    match g with
    | some (r, some on) => (noteDecision u r (if s.host.safeLeft then s1 else immediate u on s1), acc.2)
    | some (r, none) => (noteDecision u r s1, acc.2)
    | none => match s1.cov.opened.bind s1.fieldEntry with
      | some fe => let r := windowUnit fe u s1; (r.1, acc.2 || r.2)
      | none => (s1, acc.2)

/-- R196: LOOKAHEAD_SHORT of an own section unit. -/
def judgeLookahead (u : Nat) (s : State) : State :=
  let x := (s.secOf u).getD {}
  let short := decide (x.laMm * 1000000000 < mag (s.unit u).motion.vUm * (totalLatency s u true + 6000))
  let q := (s.unit u).sect
  if !short then (if q.lookShort then s.modSect u fun x => { x with lookShort := false } else s)
  else
    let fresh := !q.lookShort && match q.lookShortAt with
      | some t => decide (t + 1000000 < s.devtime)
      | none => true
    let s1 := s.modSect u fun x => { x with lookShort := true, lookShortAt := some s.devtime }
    if fresh then fault 68 (s.sysUnit u) 0 2 0 s1 else s1

/-- R228: a mode charge that was refused, or released when outputs were disabled or the unit failed, is asked for again in every
cycle in which the unit can be driven (assumption 12). -/
def retryMode (u : Nat) (s : State) : State :=
  let d := (s.unit u).drive
  let l := Line.unit u
  if d.mode == UnitMode.onoff || d.mode == UnitMode.pairedMember || d.modeEnabled || faulted s u || !(d.modeWait || enabled s)
    || coreOut s 0 || refusedNow s u || regionOff s l || lineAway s l || lineHeld s l || linkDown s l || unavailable s l then s
  else match enableMode u s with
    | .ok s1 => s1
    | .error l => countRefusal u l (baseOf s u d.mode) s

/-- The decisions of one cycle: every section unit in rising order, then PAGE_MISS and N_SECTIONS. -/
def decideAll (s : State) : State :=
  let s0 := s.modCov fun c =>
    { c with sectionsDue := false, decidedAt := s.devtime, working := [], ahead := match c.opened.bind s.fieldEntry with
        | some fe => aheadSet s fe
        | none => [] }
  let r := s.sectionUnits.foldl (fun acc u => decideUnit u acc) (s0, false)
  let s1 := if r.2 then r.1.modField (r.1.cov.opened.getD 0) fun e => { e with pageMiss := (e.pageMiss + 1) % 4294967296 } else r.1
  let s2 := (if s1.cov.sectionsDue then edge 64 0 0 s1 else s1).modCov fun c =>
    { c with sectionsDue := c.sectionsDue || s.cov.sectionsDue }
  if s2.cov.sectionsDue && sectionsOld s2 10000 then sendSections s2 else s2

/-- R454, R42: an immediate ON from the lead that was refused or could not be driven is tried again in every cycle. -/
def tryWanted (u : Nat) (s : State) : State :=
  if !(s.unit u).sect.wanted || faulted s u || !drivable s (.unit u) then s
  else
    let s1 := giveCommand u true s
    if (s1.unit u).sect.commanded then s1.modSect u fun x => { x with wanted := false } else s1

/-- R454: FRET frames that failed go out again. -/
def resendFrets (s : State) : State :=
  s.zither.resend.foldl (fun s f => sendZ 5 f.1 f.2 s) (s.modZ fun z => { z with resend := [] })

/-- The sequencers' part of one cycle: mode charges, look-ahead, positions, commitment and arming (R22, R189, R196). -/
def sequence (s : State) : State :=
  s.usedUnits.foldl (fun s u =>
    if coreOut s (if u < 64 then 6 else 7) then s
    else
      let s1 := tryWanted u (retryMode u s)
      scheduleUnit u (if (s.secOf u).isSome then judgeLookahead u s1 else s1)) s

/-! ## Gating (R350) -/

/-- Every unit of the cluster is off and outside its closing window (R350, R524). -/
def clusterIdle (s : State) (c : Nat) : Bool :=
  (unitsOfCluster c).all fun u => (s.unit u).drive.phase == .off && (s.unit u).drive.closeWinEnd.isNone

/-- R350: nothing of the cluster is due within 2 ms. -/
def gateable (s : State) (c : Nat) : Bool :=
  clusterIdle s c && (s.cluster c).testAt.isNone && (unitsOfCluster c).all fun u =>
    (match (s.unit u).drive.nextCycle with
      | some t => decide (s.devtime + 2000 < t)
      | none => true)
    && (s.unit u).frets.all fun f => !f.inDie || match dueIn s u f with
      | some d => decide (2000 < d)
      | none => true

/-- R350: an ungated cluster that may be gated is gated, unless its off-state test is due. -/
def gateClusters (s : State) : State :=
  (upFrom 0 16).foldl (fun s c =>
    let x := s.cluster c
    if x.gated || !gateable s c || (!x.fault && decide (x.lastTestAt + 1000000 ≤ s.devtime)) then s
    else s.modCluster c fun x => { x with gated := true, gatedAt := s.devtime }) s

/-- R162: one 1 ms cycle. -/
def cycle (s : State) : State :=
  let silent := s.host.silent && !s.cfg.host.autonomous
  let s1 := if s.lead && !s.zither.resend.isEmpty then resendFrets s else s
  sequence (if coreOut s 3 || s.follower || silent then s1 else decideAll s1)

end Sys2Proof.Machine
end

