-- ==== Sys2Proof/Machine/RecordOps.lean ====
section
/-! DEFINITION. The recorder's records: opening, closing, freeze and thaw (R490, R495, R496), storage of closed records (R500),
time counted per power state (R491), and the byte layouts of Tables 17-3, 17-5, 17-10 and 17-11. -/

namespace Sys2Proof.Machine

/-! ## Layouts -/

/-- Table 17-3: an open-fault entry. -/
def OpenFault.bytes (f : OpenFault) : List Byte :=
  le 2 f.cls ++ le 2 f.inst ++ le 1 f.severity ++ le 1 (pack [(bit (f.kind == 2), 0), (bit (f.kind == 0), 1), (bit f.rebuilt, 2)])
    ++ le 2 f.count ++ le 5 f.first ++ le 3 0

/-- R486: open faults by severity, highest first, then by FIRST, oldest first. -/
def openSorted (s : State) : List OpenFault :=
  sortBy (fun a b => decide (b.severity < a.severity) || (a.severity == b.severity && decide (a.first < b.first))) s.faults.opened

/-- Table 17-10: a Caldera entry. -/
def CalderaEntry.bytes (e : CalderaEntry) (index : Nat) : List Byte :=
  let body := le 4 1128352836 ++ le 4 index ++ le 2 e.cls ++ le 2 e.inst ++ le 1 4 ++ le 3 0 ++ le 8 e.devtime ++ le 4 e.utcS
    ++ le 2 e.utcMs ++ le 2 (bit e.utcValid) ++ padTo 64 (e.context.flatMap (le 8)) ++ le 4 e.status ++ le 4 e.cfgId
    ++ le 4 e.fwBuild ++ le 4 0 ++ padTo 84 e.pos ++ padTo 256 ((e.opened.take 16).flatMap OpenFault.bytes) ++ padTo 56 []
  body ++ le 4 (crc32c body).toNat

/-- Table 17-7: the place of an extreme entry. -/
def extremeSlot (e : Extreme) : Nat :=
  match e.quantity with
  | 1 => 2 * e.inst + bit e.isMax
  | 2 => 14 + 2 * e.inst + bit e.isMax
  | 3 => 24 + bit e.isMax
  | 4 => 26
  | 5 => 27
  | 6 => 28 + e.inst
  | q => 25 + q

/-- R493: one extreme entry, or an unused one. -/
def extremeBytes (e : Option Extreme) : List Byte :=
  match e with
  | some e => le 1 e.quantity ++ le 1 (bit e.isMax) ++ le 2 e.inst ++ le 4 e.value ++ le 4 e.utcS ++ le 2 e.utcMs
      ++ le 1 (bit e.utcValid) ++ le 1 0
  | none => padTo 16 []

/-- R491: a counter of TOTALS in the unit of the record: seconds, mm and mL from µs, µm and nL. -/
def totalOut (i v : Nat) : Nat :=
  if i < 4 then v / 1000000 else if i = 4 then v / 1000 else if i < 7 then v / 1000000 else v

/-- A table of 4-byte counters. -/
def counts4 (n : Nat) (t : Tbl Nat) : List Byte := (List.range n).flatMap fun b => le 4 ((tget t 0 b : Nat) : Int)

/-- Table 17-5: a record with a given CRC field. -/
def RecRecord.layout (r : RecRecord) (crc : Nat) : List Byte :=
  let flags := pack [(bit r.isOpen, 0), (bit r.isPartial, 1), (bit r.resumed, 2), (bit r.utcValid, 3), (bit r.closedByReset, 4)]
  let head := le 4 1380270930 ++ le 1 r.kind ++ le 1 flags ++ le 2 1 ++ le 4 r.number ++ le 4 r.fieldId ++ le 4 r.startUtc.1
    ++ le 2 r.startUtc.2 ++ le 1 r.maxSev ++ le 1 0 ++ le 4 r.endUtc.1 ++ le 2 r.endUtc.2 ++ le 2 0 ++ le 8 r.startDev
    ++ le 8 r.endDev ++ le 4 r.frozenMs ++ le 4 r.lostS ++ le 4 0 ++ le 4 crc
  let totals := (List.range 32).flatMap fun i => le 8 (totalOut i (tget r.totals 0 i))
  let extremes := (List.range 64).flatMap fun i => extremeBytes (r.extremes.find? fun e => extremeSlot e == i)
  let clamps := (List.range 24).flatMap fun n =>
    let c := tget r.clamp (0, 0, 0) n
    le 8 c.1 ++ le 4 c.2.1 ++ le 4 c.2.2
  let faults := r.faults.flatMap fun f => le 2 f.1 ++ le 1 f.2.1 ++ le 1 (bit (f.1 == 65535)) ++ le 4 f.2.2
  head ++ totals ++ counts4 224 r.histVbat ++ counts4 160 r.histTj ++ counts4 32 r.histSpeed ++ extremes ++ clamps
    ++ padTo 704 [] ++ counts4 8192 r.latency ++ padTo 16384 faults ++ padTo 12288 []

/-- Table 17-5: a record, its CRC over the record with the field taken as 0. -/
def RecRecord.bytes (r : RecRecord) : List Byte := r.layout (crc32c (r.layout 0)).toNat

/-! ## Time per power state (R491) -/

/-- The TOTALS counter of the present power state; PARK is counted at the wake. -/
def stateTotal (s : State) : Option Nat :=
  match s.power.state with
  | .run => some totRun
  | .doze => some totDoze
  | .nap => some totNap
  | .entering => match s.power.entry with
      | some (_, .doze) => some totDoze
      | _ => some totRun
  | .park | .refresh => none

/-- Count the time since the last call to the present state. -/
def countTime (s : State) : State :=
  let us := s.devtime - s.recorder.timedTo
  let s1 := match stateTotal s with
    | some i => addTotal i us s
    | none => s
  s1.modRec fun r => { r with timedTo := s.devtime }

/-! ## Opening and closing -/

/-- A record of a kind that opens now. -/
def freshRecord (s : State) (kind number : Nat) : RecRecord :=
  let utc := rtcNow s
  { kind := kind, number := number, isOpen := true, utcValid := s.power.rtcSet, startUtc := (utc / 1000, utc % 1000),
    endUtc := (utc / 1000, utc % 1000), startDev := s.devtime, endDev := s.devtime }

/-- A record that ends now. -/
def ended (s : State) (isPartial byReset : Bool) (r : RecRecord) : RecRecord :=
  let utc := rtcNow s
  { r with isOpen := false, isPartial := r.isPartial || isPartial, closedByReset := r.closedByReset || byReset,
           utcValid := s.power.rtcSet, endUtc := (utc / 1000, utc % 1000), endDev := s.devtime,
           frozenMs := r.frozenMs + (if s.recorder.frozenAt.isSome then (s.devtime - r.startDev) / 1000 else 0) }

/-- R500: which of a kind's stored records gives up its slot: the lowest MAX_SEV among the 64 oldest, the oldest of those. -/
def victim (rs : List RecRecord) : Nat :=
  ((rs.take 64).zipIdx.foldl (fun (m : Nat × Nat) p => if p.1.maxSev < m.1 then (p.1.maxSev, p.2) else m) (256, 0)).2

/-- R502: the partition code of Table 17-8 of a kind whose writes have stopped. -/
def partitionStopped (s : State) (p : Nat) : Bool := s.storage.stopped.contains p

/-- R500: stored records with a slot free of `cap`. -/
def roomFor (cap : Nat) (rs : List RecRecord) : List RecRecord := if rs.length < cap then rs else rs.eraseIdx (victim rs)

/-- R500: a record that opens takes a free slot, and where none is free, an older record's. -/
def makeRoom (kind : Nat) (r : Recorder) : Recorder :=
  if kind = 0 then { r with hourlies := roomFor 2992 r.hourlies } else { r with sessions := roomFor 1024 r.sessions }

/-- R500: store a closed record in its slot; none is written once writes to the partition have stopped (R502). -/
def store (r : RecRecord) (s : State) : State :=
  if partitionStopped s 6 then s
  else s.modRec fun x =>
    let y := makeRoom r.kind x
    if r.kind = 0 then { y with hourlies := y.hourlies ++ [r] } else { y with sessions := y.sessions ++ [r] }

/-- R496: a shadow added into its record. -/
def addShadow (r sh : RecRecord) : RecRecord :=
  let sum (a b : Tbl Nat) : Tbl Nat := b.foldl (fun t p => tmod t 0 p.1 (· + p.2)) a
  let ext := sh.extremes.foldl (fun l e =>
    match l.find? fun x => x.quantity == e.quantity && x.isMax == e.isMax && extremeSlot x == extremeSlot e with
    | none => l ++ [e]
    | some o => if beyond e.isMax e.value o.value then l.map fun x => if x = o then e else x else l) r.extremes
  let flt := sh.faults.foldl (fun l f =>
    if l.any (fun x => x.1 == f.1 && x.2.1 == f.2.1) then
      l.map fun x => if x.1 == f.1 && x.2.1 == f.2.1 then (x.1, x.2.1, x.2.2 + f.2.2) else x
    else if l.length < 2047 then l ++ [f]
    else if l.any (fun x => x.1 == 65535) then l.map fun x => if x.1 == 65535 then (x.1, x.2.1, x.2.2 + f.2.2) else x
    else l ++ [(65535, 255, f.2.2)]) r.faults
  { r with isOpen := sh.isOpen, isPartial := r.isPartial || sh.isPartial, closedByReset := r.closedByReset || sh.closedByReset,
           utcValid := r.utcValid || sh.utcValid, endUtc := sh.endUtc, endDev := sh.endDev, maxSev := max r.maxSev sh.maxSev,
           frozenMs := r.frozenMs + sh.frozenMs, lostS := r.lostS + sh.lostS, totals := sum r.totals sh.totals,
           histVbat := sum r.histVbat sh.histVbat, histTj := sum r.histTj sh.histTj, histSpeed := sum r.histSpeed sh.histSpeed,
           extremes := ext, latency := sum r.latency sh.latency, faults := flt,
           clamp := sh.clamp.foldl (fun t p => tmod t (0, 0, 0) p.1 fun c => (c.1 + p.2.1, max c.2.1 p.2.2.1, c.2.2 + p.2.2.2))
             r.clamp }

/-- R496: add the shadows, write the pending records in order of NUMBER, and hold no freeze. -/
def thaw (s : State) : State :=
  match s.recorder.frozenAt with
  | none => s
  | some _ =>
    let s0 := countTime s
    let r := s0.recorder
    let frozen (p : RecRecord) : RecRecord := { p with frozenMs := p.frozenMs + (s0.devtime - p.startDev) / 1000 }
    let join (o : Option RecRecord) (sh : Option RecRecord) : Option RecRecord := match o, sh with
      | some o, some sh => if o.number = sh.number then some (addShadow o (frozen sh)) else some (frozen sh)
      | none, some sh => some (frozen sh)
      | o, none => o
    let done (p : RecRecord) : RecRecord :=
      match (if p.kind = 0 then r.hourly else r.session) with
      | some o => if o.number = p.number then addShadow o p else p
      | none => p
    let gone (o : Option RecRecord) : Option RecRecord := match o with
      | some x => if r.pending.any (fun p => p.kind == x.kind && p.number == x.number) then none else some x
      | none => none
    let closedNow := (sortBy (fun a b => decide (a.number < b.number)) r.pending).map done
    let s1 := s0.modRec fun x =>
      { x with hourly := join (gone x.hourly) x.shHourly, session := join (gone x.session) x.shSession,
               lifetime := match x.shLifetime with
                 | some sh => addShadow x.lifetime (frozen sh)
                 | none => x.lifetime,
               frozenAt := none, shHourly := none, shSession := none, shLifetime := none, pending := [] }
    let s2 := (closedNow.foldl (fun s p => store p s) s1).modRec fun x =>
      let y := if x.hourly.isSome && decide (x.hourlies.length = 2992) then makeRoom 0 x else x
      if y.session.isSome && decide (y.sessions.length = 1024) then makeRoom 1 y else y
    setLevel 247 0 false s2

/-- R495: freeze, with shadows that start at zero. -/
def freeze (s : State) : State :=
  if s.recorder.frozenAt.isSome then s
  else
    let s0 := countTime s
    let sh (r : RecRecord) : RecRecord :=
      { freshRecord s0 r.kind r.number with resumed := r.resumed, fieldId := r.fieldId }
    setLevel 247 0 true (s0.modRec fun x =>
      { x with frozenAt := some s0.devtime, shHourly := x.hourly.map sh, shSession := x.session.map sh,
               shLifetime := some (sh x.lifetime) })

/-- Close a record of a kind: stored, or pending while frozen; a 9th pending record thaws first (R495, R496). -/
def closeRecord (kind : Nat) (isPartial byReset : Bool) (s : State) : State :=
  let s0 := countTime s
  let s1 := if s0.recorder.frozenAt.isSome && decide (8 ≤ s0.recorder.pending.length) then thaw s0 else s0
  let r := s1.recorder
  let live := if r.frozenAt.isSome then (if kind = 0 then r.shHourly else r.shSession) else if kind = 0 then r.hourly else r.session
  match live with
  | none => s1
  | some x =>
    let e := ended s1 isPartial byReset x
    if r.frozenAt.isSome then
      s1.modRec fun r => if kind = 0 then { r with pending := r.pending ++ [e], shHourly := none }
        else { r with pending := r.pending ++ [e], shSession := none }
    else store e (s1.modRec fun r => if kind = 0 then { r with hourly := none } else { r with session := none })

/-- R490: open the hourly record of the present UTC hour. -/
def openHourly (s : State) : State :=
  let s0 := countTime s
  s0.modRec fun r =>
    let x := freshRecord s0 0 r.nextHourly
    let y := { r with nextHourly := r.nextHourly + 1, hour := some (rtcNow s0 / 3600000) }
    if r.frozenAt.isSome then { y with shHourly := some x } else { makeRoom 0 y with hourly := some x }

/-- R490: open the record of a field session. -/
def openSession (fid : Nat) (resumed : Bool) (s : State) : State :=
  let s0 := countTime s
  s0.modRec fun r =>
    let x := { freshRecord s0 1 r.nextSession with fieldId := fid, resumed := resumed }
    let y := { r with nextSession := r.nextSession + 1 }
    if r.frozenAt.isSome then { y with shSession := some x } else { makeRoom 1 y with session := some x }

/-- R490: the UTC hour has changed, by time or by a setting. -/
def newHour (s : State) : State := openHourly (closeRecord 0 false false s)

/-! ## Commits (R498, R499) -/

/-- A record as a 100 ms commit holds it: TOTALS and FAULTS now, the rest as the last 10 s commit had it. -/
def withOld (old : Option RecRecord) (r : RecRecord) : RecRecord :=
  let o := match old with
    | some x => if x.number = r.number then x else {}
    | none => {}
  { r with histVbat := o.histVbat, histTj := o.histTj, histSpeed := o.histSpeed, extremes := o.extremes, clamp := o.clamp,
           latency := o.latency }

/-- The open records as they stand. -/
def recImage (r : Recorder) : RecImage :=
  { hourly := r.hourly, session := r.session, lifetime := r.lifetime, shHourly := r.shHourly, shSession := r.shSession,
    shLifetime := r.shLifetime }

/-- The open records as a 100 ms commit holds them. -/
def commitImage (r : Recorder) : RecImage :=
  let t := r.tenSeconds
  { hourly := r.hourly.map (withOld t.hourly), session := r.session.map (withOld t.session),
    lifetime := withOld (some t.lifetime) r.lifetime, shHourly := r.shHourly.map (withOld t.shHourly),
    shSession := r.shSession.map (withOld t.shSession), shLifetime := r.shLifetime.map (withOld t.shLifetime) }

/-- R498: one journal commit that is written, `full` with the histograms, extremes and clamp data: records, map and Caldera entries
(R501). Its parts in a partition whose writes have stopped wait (R502). -/
def commitWith (full : Bool) (s : State) : State :=
  let s0 := countTime s
  let r0 := s0.recorder
  let room := 8192 - r0.caldera.length
  let waits := partitionStopped s 6
  let s1 := if waits then s0 else addTotal totCalderaFull (s0.faults.calderaQueue.length - room) s0
  let s2 := s1.modRec fun r =>
    let y := if full then { r with tenSeconds := recImage r, histAt := s1.devtime } else r
    { y with committed := if full then recImage r else commitImage r, commitNo := r.commitNo + 1, committedAt := s1.devtime,
             heldAt := s1.devtime, caldera := if waits then r.caldera else r.caldera ++ s0.faults.calderaQueue.take room }
  let s3 := if waits then s2 else s2.modFaults fun f => { f with calderaQueue := [] }
  let s4 := if partitionStopped s 7 then s3 else s3.modCov (commitMap (r0.commitNo + 1))
  s4.modStore fun x => { x with failedCommits := 0, carried := false }

/-- R498: whether the last commit of histograms, extremes and clamp data is 10 s old. -/
def histDue (s : State) : Bool := decide (s.recorder.histAt + 10000000 ≤ s.devtime)

/-- R498: one journal commit that is written. -/
def commit (s : State) : State := commitWith (histDue s) s

/-- R502: a commit that cannot be written. After ten in a row, writes to the failing partition stop: the one of the last EMMC_ERROR among
those that a commit writes, else the journal's. -/
def commitFailed (s : State) : State :=
  let n := s.storage.failedCommits + 1
  fault 248 0 1 3 0 (s.modStore fun x =>
    { x with failedCommits := n, carried := true, stopped := if n = 10 && !x.stopped.contains x.failing then x.stopped ++ [x.failing] else x.stopped })

/-- R56, R499: what the last commits hold is all that a reset of D0 leaves of records, map and counters. The accumulation since the
last commit that stands is lost, in intervals of at most 100 ms. While frozen, only the shadows change (R495). -/
def lossyRestart (lostS : Nat) (s : State) : State :=
  let c := s.recorder.committed
  let hurt (r : RecRecord) : RecRecord := { r with lostS := r.lostS + lostS }
  let held (r : RecRecord) : RecRecord := if s.recorder.frozenAt.isSome then r else hurt r
  let lost := if s.start.ready && awake s then s.devtime - s.recorder.heldAt else 0
  let s1 := s.modRec fun r =>
    { r with hourly := c.hourly.map held, session := c.session.map held, lifetime := held c.lifetime,
             shHourly := c.shHourly.map hurt, shSession := c.shSession.map hurt, shLifetime := c.shLifetime.map hurt,
             heldAt := s.devtime, lostIntervals := r.lostIntervals + ceilDiv lost 100000, lostMs := r.lostMs + ceilDiv lost 1000 }
  s1.modCov restartMap

/-! ## Streams (R503, R421) -/

/-- Table 17-11: one chunk. -/
def recChunk (kind flags chunk record : Nat) (data : List Byte) : List Byte :=
  le 1 kind ++ le 1 flags ++ le 2 chunk ++ le 4 record ++ le 2 data.length ++ le 2 0 ++ data

/-- The records that a REC_READ of a kind streams, oldest first, the open one last as of its last 10 s commit. -/
def recordsOf (s : State) (kind first count : Nat) : List RecRecord :=
  let r := s.recorder
  let held := if kind = 0 then r.hourlies else r.sessions
  let opened := if kind = 0 then r.tenSeconds.hourly.filter fun x => r.hourly.any fun y => y.number == x.number
    else r.tenSeconds.session.filter fun x => r.session.any fun y => y.number == x.number
  let all := if kind = 2 then [r.tenSeconds.lifetime]
    else (sortBy (fun a b => decide (a.number < b.number)) (held ++ opened.toList)).filter fun x => decide (first ≤ x.number)
  if count = 0 then all else all.take count

end Sys2Proof.Machine
end

