-- ==== Sys2Proof/Machine/FaultOps.lean ====
section
/-! DEFINITION. The fault manager: handling order and steps (R484, R485), the open-fault table (R486 to R488), the rebuild scan
(R489), the software reactions of LEDGER_BROKEN and VENT_BROKEN (R49, R295), and the audit (R46 to R48). -/

namespace Sys2Proof.Machine

/-! ## Intake -/

/-- R484: the oldest entry of the highest severity present. -/
def nextEntry (es : List IntakeEntry) : Option IntakeEntry :=
  es.foldl (fun m e => match m with
    | none => some e
    | some x => if x.severity < e.severity then some e else some x) none

/-- Remove the first entry equal to one. -/
def removeEntry (e : IntakeEntry) : List IntakeEntry → List IntakeEntry
  | [] => []
  | x :: r => if x = e then r else x :: removeEntry e r

/-- R483: a slot that frees while overflows are counted takes INTAKE_OVERFLOW. -/
def reportOverflow (s : State) : State :=
  if s.faults.ovfTotal = 0 || 64 ≤ s.faults.intake.length then s
  else
    let n := s.faults.ovfTotal
    let e : IntakeEntry :=
      { cls := classOf 245 0, inst := min 65535 n, severity := 3, source := 245, time := s.devtime, context := n % 4294967296 }
    edgeAt s.devtime 245 (min 65535 n) 0 3 false (s.modFaults fun f => { f with intake := f.intake ++ [e], ovfTotal := 0 })

/-! ## Open faults -/

/-- The kind that Table 17-4 gives a fault: 0 element, 1 condition, 2 one-shot. -/
def kindOf (s : State) (cls inst : Nat) : Nat :=
  match faultShows s cls inst with
  | some (k, _) => k
  | none => 2

/-- R488: the entry that a new fault replaces in a full table. -/
def replaced (os : List OpenFault) (sev : Nat) : Option OpenFault :=
  let low := os.foldl (fun m f => match m with
    | none => some f
    | some x => if f.severity < x.severity || (f.severity = x.severity && decide (f.first < x.first)) then some f else some x)
    (none : Option OpenFault)
  low.filter fun f => decide (f.severity < sev) || (sev == 4 && f.severity == 4)

/-- Put a new open fault into the table of 256 (R486, R488). -/
def putOpen (f : OpenFault) (s : State) : State :=
  if s.faults.opened.length < 256 then s.modFaults fun x => { x with opened := x.opened ++ [f] }
  else
    let s1 := addTotal totEvicted 1 s
    match replaced s1.faults.opened f.severity with
    | some g => (closeFault g.cls g.inst s1).modFaults fun x => { x with opened := x.opened ++ [f] }
    | none => s1

/-- R486: one occurrence in the open-fault table; INFO never opens (Table 17-1). -/
def noteOpen (e : IntakeEntry) (s : State) : State :=
  if e.severity = 0 then s
  else if s.faults.opened.any fun f => f.cls == e.cls && f.inst == e.inst then
    s.modFaults fun x => { x with opened := x.opened.map fun f =>
      if f.cls = e.cls && f.inst = e.inst then { f with count := min 65535 (f.count + 1), last := e.time } else f }
  else putOpen { cls := e.cls, inst := e.inst, severity := e.severity, kind := kindOf s e.cls e.inst, first := e.time, last := e.time } s

/-! ## The Caldera region (R501) -/

/-- Queue the Caldera entry of one severity-4 occurrence. -/
def queueCaldera (e : IntakeEntry) (s : State) : State :=
  let named := s.faults.contexts.reverse.find? fun c => c.1 == e.cls && c.2.1 == e.inst
  let utc := s.power.rtcMs + (e.time - s.power.rtcAt) / 1000
  let c : CalderaEntry :=
    { cls := e.cls, inst := e.inst, devtime := e.time, utcS := utc / 1000, utcMs := utc % 1000, utcValid := s.power.rtcSet,
      context := (named.map (·.2.2)).getD [], status := statusWord s, cfgId := s.cfg.container.imageId, fwBuild := s.storage.fwBuild,
      pos := posPayload s, opened := openSorted s }
  s.modFaults fun f => { f with calderaQueue := f.calderaQueue ++ [c],
                                contexts := match named with
                                  | some n => (f.contexts.reverse.erase n).reverse
                                  | none => f.contexts }

/-! ## The ledger's own check (R46, R49) -/

/-- Elements at and below one of the package's level elements. -/
def belowOf (k : Nat) : List Nat :=
  if k = pkgKey || k = sysKey then allKeys
  else if 232 ≤ k && k < 235 then
    let d := k - 230
    allKeys.filter fun j => j == k || (if j < 128 then dieOfUnit j == d else if j < 144 then dieOfCluster (j - 128) == d
      else if 160 ≤ j && j < 216 then d == 4 else if 220 ≤ j && j < 227 then dieOfRegion (j - 220) == d else false)
  else if 220 ≤ k && k < 227 then
    let r := k - 220
    allKeys.filter fun j => j == k || (if j < 128 then regionOf (clusterOf j) == r else if j < 144 then regionOf (j - 128) == r
      else if 160 ≤ j && j < 184 then swRegionOf (j - 160) == r
      else if 190 ≤ j && j < 196 then swRegionOf (4 * (j - 190)) == r
      else if 200 ≤ j && j < 216 then r == 6 else false)
  else if 128 ≤ k && k < 144 then k :: unitsOfCluster (k - 128)
  else if 190 ≤ k && k < 196 then k :: (channelsOfCluster (k - 190)).map swKey
  else [k]

/-- R31: whether HELD + FREE = POOL holds at an element. -/
def balanced (s : State) (k : Nat) : Bool := (heldOf s k : Int) + freeOf s k == poolOf s k

/-- The charges that stand against the elements, from the unit charges: keys with credits drawing and reserved. -/
def unitCharges (s : State) : List (List Nat × Nat × Nat) :=
  (upFrom 0 128).map (fun u =>
    let d := (s.unit u).drive
    (chainUnit s u, if d.baseReserved then 0 else d.base, if d.baseReserved then d.base else 0))
  ++ (upFrom 0 16).map (fun c =>
    let x := s.cluster c
    (chainSlot s c, if x.holder.isSome then x.slot else 0, if x.holder.isSome then 0 else x.slot))
  ++ (upFrom 0 24).map (fun n => (chainSw s n, (s.sw n).base + (s.sw n).surcharge, 0))
  ++ (upFrom 0 16).map (fun o => (chainFo s o, (s.fo o).base, 0))

/-- DRAWING and RESERVED of one element as the unit charges give them. -/
def chargesOf (s : State) (k : Nat) : Nat × Nat :=
  let cs := (unitCharges s).filter fun c => c.1.contains k
  let own := if k < 128 then (match (s.cluster (clusterOf k)).holder with
      | some u => if u = k then (s.cluster (clusterOf k)).slot else 0
      | none => 0) else 0
  (cs.foldl (fun a c => a + c.2.1) own, cs.foldl (fun a c => a + c.2.2) 0)

/-- R49 step 3: HELD of one element from the unit charges. -/
def rebuildEl (k : Nat) (s : State) : State :=
  let c := chargesOf s k
  modEl s k fun e => { e with drawing := c.1, reserved := c.2 }

/-- R363: the counts of one element at a start, from the unit charges. -/
def startEl (k : Nat) (s : State) : State :=
  let c := chargesOf s k
  modEl s k fun _ => { drawing := c.1, reserved := c.2, freeBelowPool := -((c.1 + c.2 : Nat) : Int) }

/-- The outputs at and below an element. -/
def outputsBelow (s : State) (k : Nat) : List Line :=
  (usedOutputs s).filter fun l => (elementsOf s l).contains k

/-- R51: the lead's tokens add up to the declared pool. -/
def tokensBalanced (s : State) : Bool :=
  s.ledger.tokensFree + s.ledger.tokens.foldl (fun a p =>
    a + p.2.fixed + p.2.granted + p.2.escrow + p.2.inTransit.foldl (fun a x => a + x.2.1) 0) 0 == s.cfg.package.tokenPool

/-- The conservation check of an element: HELD + FREE = POOL (R31), at the system level the lead's tokens (R51). -/
def conserves (s : State) (k : Nat) : Bool := if k = sysKey then !s.lead || tokensBalanced s else balanced s k

/-- R49 steps 1 and 2: refuse below the element and bring its outputs to their safe state. -/
def ledgerBroken (k : Nat) (cs : Clamps) (s : State) : State :=
  let s1 := s.modLedger fun l => { l with broken := if l.broken.contains k then l.broken else l.broken ++ [k],
                                          heldSafe := if l.heldSafe.contains k then l.heldSafe else l.heldSafe ++ [k] }
  (outputsBelow s1 k).foldl (safeLine cs) s1

/-- R49 steps 3 and 4, when LEDGER_BROKEN is handled (R485): rebuild and check again; an element that fails again stays refused until the
next reset. -/
def ledgerRebuilt (k : Nat) (s : State) : State :=
  if !s.ledger.broken.contains k then s
  else
    let s1 := (belowOf k).foldl (fun s j => rebuildEl j s) s
    if conserves s1 k then s1.modLedger fun l => { l with broken := l.broken.filter (· != k) } else s1

/-- R293: the conservation of a switch cluster's vent budget. -/
def ventBalanced (s : State) (c : Nat) : Bool :=
  ((s.vent c).used : Int) + (s.vent c).reserved + ventFree s c == ventCapacity c

/-- R295: a broken vent budget: the cluster's channels go to their safe state. -/
def ventBroken (c : Nat) (cs : Clamps) (s : State) : State :=
  (channelsOfCluster c).foldl (fun s n => safeLine cs s (.switch n))
    { s with ventHeld := if s.ventHeld.contains c then s.ventHeld else s.ventHeld ++ [c] }

/-- R295, when VENT_BROKEN is handled (R485): USED at CAPACITY, RESERVED from the channels that are on, FREE from both. -/
def ventReset (c : Nat) (s : State) : State :=
  let rs := (channelsOfCluster c).foldl (fun a n => a + (if swOn (s.sw n) then (s.sw n).ventReserved else 0)) 0
  s.modVent c fun v => { v with used := ventCapacity c, reserved := rs, freeBelowCap := -((ventCapacity c + rs : Nat) : Int) }

/-- The INSTANCE of an element in LEDGER events. DESIGN CHOICE (log 51): the spec says that they name the element and not how. Bits
[11:8] carry its kind (0 unit, 1 valve cluster, 2 switch channel, 3 switch cluster, 4 field output, 5 region, 6 die, 7 package,
8 system), bits [7:0] its number within the kind. -/
def elementNo (k : Nat) : Nat :=
  if k < 128 then k else if k < 144 then 256 + (k - 128) else if k < 184 then 512 + (k - 160) else if k < 196 then 768 + (k - 190)
  else if k < 216 then 1024 + (k - 200) else if k < 227 then 1280 + (k - 220) else if k < 235 then 1536 + (k - 230)
  else if k = pkgKey then 1792 else 2048

/-- The element that an INSTANCE of a LEDGER event names. -/
def elementOfNo (n : Nat) : Nat :=
  let i := n % 256
  match n / 256 with
  | 0 => i
  | 1 => 128 + i
  | 2 => 160 + i
  | 3 => 190 + i
  | 4 => 200 + i
  | 5 => 220 + i
  | 6 => 230 + i
  | 7 => pkgKey
  | _ => sysKey

/-! ## Handling (R485) -/

/-- R483: handling an INTAKE_OVERFLOW reads and clears every OVF counter. -/
def readOvf (e : IntakeEntry) (s : State) : State :=
  let all := s.faults.ovf
  let sum := all.foldl (fun a p => a + p.2) 0
  let s1 := all.foldl (fun s p => countFault (p.1 / 256) (p.1 % 256) p.2 0 s) s
  addTotal totOverflowed sum (s1.modFaults fun f => { f with ovf := [], rebuildDue := some e.time })

/-- R485 step 5: the software reaction to a severity-4 fault: the rebuild of R49, the reset of the vent budget of R295. -/
def reactTo (e : IntakeEntry) (s : State) : State :=
  if e.cls = classOf 14 2 then ledgerRebuilt (elementOfNo e.inst) s
  else if e.cls = classOf 184 1 then ventReset (e.inst / 4) s
  else s

/-- R485: the steps of one entry's handling. -/
def handleEntry (e : IntakeEntry) (s : State) : State :=
  let s1 := countFault e.cls e.source 1 e.severity (noteOpen e s)
  let s2 := if e.cls = 3920 then readOvf e s1 else s1
  let s3 := edge (240 + e.severity) e.cls 0 s2
  if e.severity = 4 then reactTo e (queueCaldera e s3) else s3

/-- R484: handle the next entry; it leaves the intake, and its slot reports any overflow (R483). -/
def handleNext (s : State) : State :=
  match nextEntry s.faults.intake with
  | none => s
  | some e =>
    let s1 := s.modFaults fun f => { f with intake := removeEntry e f.intake }
    handleEntry e (reportOverflow s1)

/-! ## The rebuild scan (R489) -/

/-- Class, INSTANCE and severity of every fault that a status word shows. -/
def shownFaults (s : State) : List (Nat × Nat × Nat) :=
  (upFrom 0 128).flatMap (fun u =>
    let d := (s.unit u).drive
    (if d.fault && decide (d.cause ≠ 0) && decide (d.cause ≤ 4) then [(classOf 96 (d.cause - 1), u, if d.cause = 3 then 2 else 3)] else [])
      ++ (if d.noMotion then [(classOf 97 3, u, 2)] else []) ++ (if d.noRelease then [(classOf 97 4, u, 3)] else [])
      ++ (if d.pairImbalance then [(classOf 97 5, u, 2)] else []) ++ (if d.trimLimit then [(classOf 98 1, u, 2)] else []))
  ++ (upFrom 0 16).flatMap (fun c =>
    let x := s.cluster c
    if x.fault && decide (x.cause ≠ 0) then [(classOf 99 (x.cause - 1), c, 3)] else [])
  ++ (upFrom 0 24).flatMap (fun n =>
    let x := s.sw n
    (match x.state with
      | .backoff | .latchWait => [(classOf 160 x.lastFault, n, 3)]
      | .exhausted => [(classOf 160 4, n, 2)]
      | .locked => [(classOf 160 (match x.lockCause with
          | 2 => 5
          | 3 => 6
          | _ => 2), n, 3)]
      | .off | .inrush | .on => [])
      ++ (if x.openLoad then [(classOf 160 3, n, 2)] else []) ++ (if x.ventLocked then [(classOf 184 0, n, 1)] else []))
  ++ (upFrom 0 32).flatMap (fun i => if (s.fi i).cls = 3 then [(classOf 205 0, i, 2)] else [])
  ++ (upFrom 0 16).flatMap (fun o =>
    let x := s.fo o
    (if x.st = 2 && decide (x.cause ≠ 0) then [(classOf 207 (x.cause - 1), o, 3)] else [])
      ++ (if x.openLoad then [(classOf 207 2, o, 2)] else []))
  ++ s.cfg.loops.flatMap (fun p =>
    let x := s.loop p.1
    (if x.fbInvalid then [(classOf 217 0, p.1, 2)] else []) ++ (if x.outFault then [(classOf 217 1, p.1, 2)] else [])
      ++ (if x.plausFault then [(classOf 218 0, p.1, 3)] else []))
  ++ (if s.groups.any fun g => g.2 == .away then [(classOf 208 0, 0, 2)] else [])

/-- R489: open, with REBUILT and COUNT 1, every shown fault that has no entry. -/
def rebuild (first : Nat) (s : State) : State :=
  (shownFaults s).foldl (fun s x =>
    if s.faults.opened.any fun f => f.cls == x.1 && f.inst == x.2.1 then s
    else putOpen { cls := x.1, inst := x.2.1, severity := x.2.2, kind := kindOf s x.1 x.2.1, rebuilt := true, first := first,
                   last := first } s) (s.modFaults fun f => { f with rebuildDue := none })

/-! ## The audit (R46 to R48) -/

/-- Table 02-3: drift threshold of an element, credits; none for elements that are not compared. -/
def driftThreshold (k : Nat) : Option Nat :=
  if 128 ≤ k && k < 144 then some 20
  else if 190 ≤ k && k < 194 then some 36
  else if 194 ≤ k && k < 196 then some 80
  else if 220 ≤ k && k < 224 then some 56
  else if k = 224 then some 80
  else if k = 225 then some 100
  else if k = 226 then some 16
  else none

/-- R47, R48: compare one element's averages over the window of `us` µs. -/
def compareDrift (us : Nat) (meas : AuditMeas) (s : State) (k : Nat) : State :=
  match driftThreshold k with
  | none => s
  | some th =>
    if s.ledger.windowSkips.contains k then s.modLedger fun l => { l with auditSkipped := tmod l.auditSkipped 0 k (· + 1) }
    else
      let ma := if k < 144 then tfind meas.valveCluster (k - 128) else if k < 196 then tfind meas.switchCluster (k - 190)
        else tfind meas.region (k - 220)
      match ma with
      | none => s
      | some ma =>
        -- credits of 50 mA; compared in credit-µs × 50 so that nothing is rounded
        let d : Int := (tget s.ledger.drawingUs 0 k * 50 : Nat) - (ma * us : Nat)
        if mag d ≤ th * 50 * us then s
        else fault 14 (elementNo k) 0 2 ((roundDiv d (50 * max 1 us) % 4294967296).toNat) s

/-- R46, R49: an element whose conservation check fails. -/
def checkBalance (cs : Clamps) (s : State) (k : Nat) : State :=
  if conserves s k || s.ledger.broken.contains k then s
  else ledgerBroken k cs (faultCritical 14 (elementNo k) 2 (if k = sysKey then [] else [(heldOf s k : Int), freeOf s k, (poolOf s k : Int)]) s)

/-- R46: one audit pass: conservation at every element, the lead's tokens, the vent budgets, then drift. -/
def audit (meas : AuditMeas) (cs : Clamps) (s : State) : State :=
  let us := s.devtime - s.ledger.windowAt
  let s2 := (allKeys ++ [sysKey]).foldl (checkBalance cs) s
  let s3 := (List.range 6).foldl (fun s c =>
    if ventBalanced s c then s
    else ventBroken c cs (faultCritical (184 + c) (4 * c) 1 [((s.vent c).used : Int), ((s.vent c).reserved : Int), ventFree s c] s)) s2
  let s4 := allKeys.foldl (compareDrift us meas) s3
  let inrush := ((upFrom 0 24).filter fun n => (s4.sw n).state == SwState.inrush).flatMap driftOfSw
  s4.modLedger fun l => { l with drawingUs := [], windowAt := s.devtime, windowSkips := inrush }

end Sys2Proof.Machine
end

