-- ==== Sys2Proof/Machine/CfgOps.lean ====
section
/-! DEFINITION. The checks of a configuration image (R429, Table 14-20) in code order, judged on the decoded image, and the
configuration slots (R371, R418). -/

namespace Sys2Proof.Machine

/-- A failed check: its code, the section TYPE and the element's number within its kind (R419), and the result. -/
structure CheckFail where
  code : Nat
  sect : Nat
  item : Nat
  result : Nat
deriving DecidableEq, Repr

/-- One verdict of a check: bad, in a section, at an element. -/
abbrev Verdict := Bool × Nat × Nat

/-- The first bad verdict of a check with its code and result. -/
def verdictOf (code result : Nat) (vs : List Verdict) : Option CheckFail :=
  (vs.find? fun v => v.1).map fun v => { code := code, sect := v.2.1, item := v.2.2, result := result }

/-- Outside `lo` to `hi`. -/
def outside (lo hi x : Nat) : Bool := decide (x < lo) || decide (hi < x)

/-! ## The container's bytes (R427, R428) -/

/-- A section entry (Table 14-18). -/
structure SectEntry where
  type : Nat
  opt : Bool
  off : Nat
  size : Nat
  crc : Nat
deriving DecidableEq, Repr

/-- The section table of a container. -/
def sectTable (bs : List Byte) : List SectEntry :=
  (List.range (fieldAt bs 36 2)).map fun k =>
    let o := fieldAt bs 32 4 + 16 * k
    { type := fieldAt bs o 2 % 32768, opt := bitAt (fieldAt bs o 2) 15, off := fieldAt bs (o + 4) 4, size := fieldAt bs (o + 8) 4,
      crc := fieldAt bs (o + 12) 4 }

/-- Whether two sections share a byte. -/
def sectsOverlap (a b : SectEntry) : Bool := decide (a.off < b.off + b.size) && decide (b.off < a.off + a.size)

/-- R428: ascending TYPE with none repeated, and no overlap. -/
def sectsOrdered : List SectEntry → Bool
  | [] => true
  | a :: r => r.all (fun b => decide (a.type < b.type) && !sectsOverlap a b) && sectsOrdered r

/-- R427: a header of Table 14-17 in `n` bytes, whatever its KIND. -/
def headerLaid (bs : List Byte) (n : Nat) : Bool :=
  decide (192 ≤ n) && fieldAt bs 0 4 == 1498169672 && fieldAt bs 4 2 == 1 && fieldAt bs 6 2 == 128 && fieldAt bs 28 4 == n
    && decide (1 ≤ fieldAt bs 36 2) && decide (fieldAt bs 36 2 ≤ 64) && decide (128 ≤ fieldAt bs 32 4)
    && decide (fieldAt bs 32 4 + 16 * fieldAt bs 36 2 + 64 ≤ n)

/-- R428, Table 14-19: the section table of a configuration. -/
def sectsLaid (bs : List Byte) (n : Nat) : Bool :=
  let ts := sectTable bs
  let first := fieldAt bs 32 4 + 16 * fieldAt bs 36 2
  sectsOrdered ts && ts.all (fun x =>
      x.off % 64 == 0 && decide (first ≤ x.off) && decide (x.off + x.size + 64 ≤ n) && (x.opt || (decide (1 ≤ x.type) && decide (x.type ≤ 13))))
    && [1, 2, 3, 4, 5, 7, 8, 9, 10, 11, 12].all fun k => ts.any fun x => x.type == k

/-- R427: CRC of the header, over all but the signature with the field itself taken as 0. -/
def headerCrc (bs : List Byte) : Nat :=
  (crc32c (bs.take 40 ++ List.replicate 4 0 ++ (bs.drop 44).take (bs.length - 108))).toNat

/-- The first section whose CRC fails (Table 14-18). -/
def badSect (bs : List Byte) : Option SectEntry :=
  (sectTable bs).find? fun x => (crc32c ((bs.drop x.off).take x.size)).toNat != x.crc

/-- R427, R428: what the bytes of a configuration container say; the verdict on the signature is given (assumption 2). -/
def readContainer (bs : List Byte) (signatureOk : Bool) : Container :=
  let n := bs.length
  let laid := headerLaid bs n && sectsLaid bs n
  let whole := laid && fieldAt bs 40 4 == headerCrc bs
  { layoutOk := laid, crcOk := whole, sectionCrcOk := whole && (badSect bs).isNone,
    badSection := if whole then ((badSect bs).map (·.type)).getD 0 else 0,
    signatureOk := signatureOk, kind := fieldAt bs 8 1, variant := fieldAt bs 9 1, siMin := fieldAt bs 10 1, siMax := fieldAt bs 11 1,
    part := fieldAt bs 12 2, ifaceLevel := fieldAt bs 14 1, imageId := fieldAt bs 16 4, version := fieldAt bs 20 4, size := n,
    keyId := (bs.drop 44).take 8 }

/-- An image whose container is read from its bytes. -/
def imageOf (bs : List Byte) (i : Image) : Image := { i with container := readContainer bs i.container.signatureOk }

/-- R357, R427: what the bytes of a firmware image say; the verdict on the signature is given (assumption 2). -/
def readFirmware (bs : List Byte) (f : Firmware) : Firmware :=
  { headerOk := headerLaid bs bs.length && fieldAt bs 8 1 == 2 && fieldAt bs 12 2 == 38464, signatureOk := f.signatureOk,
    version := fieldAt bs 20 4, siMin := fieldAt bs 10 1, siMax := fieldAt bs 11 1, size := bs.length, imageId := fieldAt bs 16 4 }

/-- The signature of a container over all its bytes before it (R427), against a key's hash. -/
def signedBy (key bs : List Byte) : Bool :=
  Config.ecdsaP256 key (bs.take (bs.length - 64)) (bs.drop (bs.length - 64))

/-- Whether the container names the fused key: KEY_ID is the first 8 bytes of the SHA-256 of the signing key (Table 14-17). -/
def keyNamed (s : State) (c : Container) : Bool := s.storage.keyHash.any fun k => k.take 8 == c.keyId

/-- Checks 1 to 5: container, CRCs, signature, package, interface level (R427, R428, R371). -/
def checkContainer (s : State) (c : Container) : Option CheckFail :=
  if !c.layoutOk then some ⟨1, 0, 0, resMismatch⟩
  else if !c.crcOk || !c.sectionCrcOk then some ⟨2, c.badSection, 0, resBadCrc⟩
  else if !c.signatureOk || !keyNamed s c then some ⟨3, 0, 0, resDenied⟩
  else if c.kind != 1 || c.part != 38464 || decide (s.storage.siRev < c.siMin) || decide (c.siMax < s.storage.siRev)
      || (c.variant != 255 && c.variant != 0 && !(c.variant == 1 && s.storage.variant == 1)) then some ⟨4, 0, 0, resMismatch⟩
  else if c.ifaceLevel != 4 then some ⟨5, 0, 0, resMismatch⟩
  else none

/-- Check 6: the defaults of Table 00-9 within range (R14); the thresholds are check 11. -/
def checkDefaults (i : Image) : List Verdict :=
  [(outside 2 100 i.package.tSilentMs, 1, 0), (outside 100 10000 i.package.standstillMs, 1, 1),
   (outside 20 1000 i.package.uncLimitMm, 1, 2), (outside 0 200000 i.package.holdDistMm, 1, 3),
   (outside 50 1000 i.package.silenceMs, 1, 4), (outside 50 10000 i.host.heartbeatMs, 11, 0)]
  ++ i.events.targets.map fun t => (outside 1 255 t.2.2.1 || outside 0 65535 t.2.2.2.1, 10, t.1)

/-- R430, R431, Table 15-2: whether a controller's use, frames, bit rates, sample points or retries are a combination that Table 15-1 does
not list. -/
def controllerBad (n : Nat) (c : CanCfg) : Bool :=
  let zither := c.zitherSystem || c.zitherRow
  outside 60 90 c.samplePct || outside 60 90 c.dataSamplePct || outside 0 15 c.gwRetry || (c.brs && !c.fd) ||
    (if n = 0 then zither || c.fd || c.nominalKbit != 250
     else if n = 1 then
      zither || !([125, 250, 500, 1000].contains c.nominalKbit) || (c.brs && !([1000, 2000, 4000, 5000].contains c.dataKbit))
     else if n < 4 then
      c.isobus || !c.brs || !([500, 1000].contains c.nominalKbit) || !([2000, 4000, 5000].contains c.dataKbit)
     else true)

/-- R430: the controllers of the BUSES section. Table 14-20 has no code for this check; code 6 is the model's choice (assumption 58). -/
def checkBuses (i : Image) : List Verdict := i.buses.controllers.map fun p => (controllerBad p.1 p.2, 12, p.1)

/-- Check 7: channel allocation and OSNMA key type (R65, R74). -/
def checkNav (i : Image) : List Verdict :=
  [(i.nav.allocation.foldl (· + ·) 0 != 96 || i.nav.allocation.length != 9, 2, 0), (!i.nav.osnmaKeyOk, 2, 1)]

/-- Check 8: SCALE and quadrature by type (R108), SENT options (Table 04-6). MIN_EDGE, K and the emulation's channel are taken as the
image gives them (R110, R136; DESIGN CHOICE, assumption 54). -/
def checkOdo (i : Image) : List Verdict :=
  (i.odo.channels.map fun p =>
    let c := p.2
    let top := match c.type with
      | .wheel | .radar => 10000000
      | .shaft | .flow => 100000000
    (outside 1000 top c.scale || (c.quad && (c.type == .radar || c.type == .flow)), 3, p.1))
  ++ i.odo.sent.map fun p => (outside 3 90 p.2.tickUs || outside 1 6 p.2.nibbles || outside 0 3 p.2.slow, 3, 8 + p.1)

/-- R107: the roles that an image gives its inputs, each role of an input once: 0 odometry line, 1 SENT, 2 key-on, 3 SECTION_IN,
4 MASTER_IN, 5 re-arm, 6 direction. -/
def inputRoles (i : Image) : List (Nat × Nat) :=
  let all : List (List (Nat × Nat)) :=
    [i.odo.channels.flatMap fun p => (p.1, 0) :: (if p.2.quad then [(p.1 + 1, 0)] else []),
     i.odo.sent.map fun p => (8 + p.1, 1),
     i.fieldIo.inputs.filterMap fun p => if p.2.keyOn then some (p.1, 2) else none,
     i.units.units.filterMap fun p => (p.2.sec.bind fun x => x.sectionIn).map fun k => (k, 3),
     i.products.filterMap fun p => p.2.masterIn.map fun k => (k, 4),
     i.fieldIo.groups.filterMap fun g => g.rearmIn.map fun k => (k, 5),
     i.odo.channels.filterMap fun p => match p.2.dir with
        | .input k => if p.2.quad || p.2.type == .flow then none else some (k, 6)
        | _ => none]
  all.flatten.foldl (fun l r => if l.contains r then l else l ++ [r]) []

/-- Check 9: one role per input (R107), and the modes that only some inputs have (R306). -/
def checkRoles (i : Image) : List Verdict :=
  let mode (n : Nat) : InputMode := (tget i.fieldIo.inputs {} n).mode
  let key := (tget i.fieldIo.inputs {} 0).keyOn
  (i.fieldIo.inputs.map fun p =>
    (((p.2.mode == .fast) && decide (7 < p.1)) || (p.2.mode == .sent && p.1 != 8 && p.1 != 9)
      || (p.2.wb && (p.2.mode == .fast || p.2.mode == .sent) && p.2.pushPull) || (p.2.keyOn && p.1 != 0)
      || decide (31 < p.1), 8, p.1))
  ++ (i.odo.channels.map fun p =>
    (decide (7 < p.1) || mode p.1 != .fast || (key && (p.1 == 0 || (p.1 == 1 && p.2.quad)))
      || (p.2.quad && (p.1 % 2 == 1 || mode (p.1 + 1) != .fast || (tfind i.odo.channels (p.1 + 1)).isSome)), 8, p.1))
  ++ (i.odo.sent.map fun p => (decide (1 < p.1) || mode (8 + p.1) != .sent, 8, 8 + p.1))
  ++ (inputRoles i).map fun r => ((inputRoles i).any fun q => q.1 == r.1 && q.2 != r.2, 8, r.1)

/-- Check 10: field input and analog ranges (R306, R313). -/
def checkInputs (i : Image) : List Verdict :=
  (i.fieldIo.inputs.map fun p => (p.2.mode == .operator && outside 5 50 p.2.debounceMs, 8, p.1))
  ++ i.fieldIo.analogs.map fun p =>
    (p.2.used && (decide (7 < p.1) || p.2.raw0 == p.2.raw1 || decide (4096 < p.2.raw0) || decide (4096 < p.2.raw1)
      || decide (p.2.validHi < p.2.validLo)), 8, p.1)

/-- Check 11: product parameters (R161). -/
def checkProducts (i : Image) : List Verdict :=
  i.products.map fun p =>
    (decide (1 < p.1) || outside 0 100 p.2.onThr || outside 0 100 p.2.offThr || decide (p.2.offThr < p.2.onThr)
      || outside 1 3 p.2.coveredAt || outside 0 99 p.2.exclLimit || outside 0 5000 p.2.minSpeed, 5, p.1)

/-- The largest seed of a profile, µs. -/
def largestSeed (p : ProfileCfg) : Nat := (p.seedOpenUs ++ p.seedCloseUs).foldl max 0

/-- Check 12: look-ahead (R195); a follower's unit adds 2 ms. -/
def checkLookahead (i : Image) : List Verdict :=
  i.units.units.filterMap fun p =>
    match p.2.used, p.2.sec with
    | true, some x =>
      let far := decide (128 ≤ p.1) || (i.package.member && i.package.pkgIndex != 0)
      let us := largestSeed (p.2.profile.getD {}) + 1000 * p.2.tTrMs + 9000 + (if far then 2000 else 0)
      some (outside 100 25600 x.laMm || decide (x.laMm * 1000000 < x.vMaxMmS * us), 4, p.1)
    | _, _ => none

/-- Check 13, one profile: Table 07-1 with the pair's ranges, and R522. -/
def profileBad (pair : Bool) (p : ProfileCfg) : Bool :=
  let m := if pair then 2 else 1
  outside (500 * m) (4000 * m) p.iPeak || p.iPeak % 10 != 0 || outside 0 20000 p.tPhUs || p.tPhUs % 10 != 0
    || outside 0 5000 p.tTransUs || p.tTransUs % 10 != 0 || outside (200 * m) (1500 * m) p.iHold || p.iHold % 10 != 0
    || decide (p.iPeak < p.iHold) || outside 20 40 p.fChopKhz || p.vRefMv.any (outside 8000 60000) || outside 10 20000 p.ttpMinUs
    || outside 10 20000 p.ttpMaxUs || decide (p.ttpMaxUs ≤ p.ttpMinUs) || outside 1 10000 p.shotMs
    || outside 100 200000 p.lCoilUh
    || outside 100 250000 p.latMinUs.1 || outside 100 250000 p.latMaxUs.1 || decide (p.latMaxUs.1 ≤ p.latMinUs.1)
    || outside 100 250000 p.latMinUs.2 || outside 100 250000 p.latMaxUs.2 || decide (p.latMaxUs.2 ≤ p.latMinUs.2)
    || p.seedOpenUs.length != 16 || p.seedCloseUs.length != 16
    || (p.seedOpenUs ++ p.seedCloseUs).any (outside 100 250000)
    || !([8, 16, 32, 64].contains p.alphaDiv) || p.openWinUs.any (outside 1000 250000)
    || p.closeWinUs.any (outside 1000 250000)
    || outside 5 100 p.dipDepthPm || outside 10 200 p.dipDutyPm || outside 200 5000 p.kneeMv
    || outside 1 255 p.noMotionN || outside 1 255 p.noReleaseN || (p.res25MilliOhm.any (outside 500 500000))

/-- Check 13: profiles and valve-type parameters (R219, R522). -/
def checkProfiles (i : Image) : List Verdict :=
  i.units.units.filterMap fun p =>
    if !p.2.used || p.2.mode == .pairedMember then none
    else match p.2.profile with
      | some x => some (profileBad (p.2.pairOwner && p.1 % 2 == 0) x, 4, p.1)
      | none => some (p.2.mode != .prop, 4, p.1)

/-- Units declared PWM-capable. -/
def pwmCapable (c : UnitCfg) : Bool := c.used && (c.pwmCapable || c.mode == .pwm)

/-- Check 14: boost power per die at most 40 W (R226), and BOOST_SET where a boost profile is declared (R225). -/
def checkBoost (i : Image) : List Verdict :=
  [2, 3].map fun d =>
    let us := i.units.units.filter fun p => decide (p.1 < 128) && dieOfUnit p.1 == d && p.2.used
      && (p.2.profile.any fun x => x.boost)
    let sum := us.foldl (fun a p =>
      let x := p.2.profile.getD {}
      if pwmCapable p.2 then a + 625 * x.lCoilUh * x.iPeak * x.iPeak * tget i.units.fPwmHz 10 (clusterOf p.1) else a) 0
    (decide (40000000000000000 < sum)
      || (us.any (fun p => p.2.mode != .prop) && outside 24 60 (tget i.units.boostSetV 0 d)), 4, d)

/-- Check 15: PWM slot time per cluster (R233), and F_PWM (R229). Times are scaled by 7,200,000 × BOOST_SET. -/
def checkSlots (i : Image) : List Verdict :=
  (List.range 16).map fun c =>
    let f := tget i.units.fPwmHz 10 c
    let b := max 1 (tget i.units.boostSetV 0 (dieOfCluster c))
    let us := i.units.units.filter fun p => decide (p.1 < 128) && clusterOf p.1 == c && pwmCapable p.2
    let sum := us.foldl (fun a p =>
      let x := p.2.profile.getD {}
      a + x.ttpMaxUs * vRefOf i.units p.1 x * (if x.boost then 8000 else 900 * b)
        + (x.tPhUs + x.tTransUs) * 7200000 * b) 0
    (outside 10 100 f || decide (1000000 * 7200000 * b < f * sum), 4, c)

/-- Check 16: proportional maximum and dither (R234, R235). -/
def checkProp (i : Image) : List Verdict :=
  i.units.units.map fun p =>
    let m := p.2.iMax.getD 0
    (p.2.used && ((p.2.mode == .prop && p.2.iMax.isNone) || decide (3000 < m) || decide (500 < p.2.ditherMa)
      || (p.2.ditherMa != 0 && outside 50 500 p.2.ditherHz) || decide (6000 < 2 * m + p.2.ditherMa)), 4, p.1)

/-- R38: whether some level of a chain, or the system's (R50), can never hold `need` credits; the package level's own pool is that of R24
before derating. -/
def overPool (t : State) (chain : List Nat) (need : Nat) : Bool :=
  chain.any (fun k => decide ((if k = pkgKey then 2000 else poolOf t k) < need))
    || (t.cfg.package.member && decide (20 * t.cfg.package.tokenPool < need))

/-- Check 17: one element's base and largest surcharge against the pools of its chain (R38); the surcharge of a valve unit is its
cluster's peak slot (Table 02-1). -/
def checkPools (t : State) : List Verdict :=
  (t.usedUnits.map fun u =>
    let c := t.unitCfg u
    let need := if c.mode == .prop then baseOf t u .prop else baseOf t u c.mode + slotOf t (clusterOf u)
    (c.mode != .pairedMember && overPool t (chainUnit t u) need, 4, u))
  ++ (t.cfg.switches.map fun p =>
    (p.2.used && overPool t (chainSw t p.1) (swBaseOf t p.1 + swSurchargeOf t p.1), 7, p.1))
  ++ t.cfg.fieldIo.outputs.map fun p => (p.2.used && overPool t (chainFo t p.1) 10, 8, p.1)

/-- Credits of the outputs whose safe state is on or hold last (R52). -/
def safeCredits (t : State) : Nat :=
  let on (c : SafeCode) : Bool := c == .on || c == .holdLast
  t.cfg.safe.units.foldl (fun a p => if on p.2 then a + baseOf t p.1 (t.unitCfg p.1).mode else a) 0
    + t.cfg.safe.switches.foldl (fun a p => if on p.2 then a + swBaseOf t p.1 else a) 0
    + t.cfg.safe.outputs.foldl (fun a p => if on p.2 then a + 10 else a) 0

/-- Check 18: FIXED tokens cover what safe states may draw (R52); the pool of R50 and R51 holds them. -/
def checkTokens (t : State) : List Verdict :=
  let p := t.cfg.package
  let fixed := p.fixedTokens.foldl (· + ·) 0
  [(p.member && (decide (20 * nth p.fixedTokens 0 p.pkgIndex < safeCredits t) || decide (400 < p.tokenPool)
      || decide (p.tokenPool < fixed)), 1, p.pkgIndex)]

/-- Check 19: loop rates, bindings and parameters (R254, R257). -/
def checkLoops (t : State) : List Verdict :=
  t.cfg.loops.map fun p =>
    (decide (127 < p.1) || !([100, 200, 250, 500, 1000, 2000].contains p.2.rateHz)
      || !bindingOk t p.2 || !paramsOk (outputRange t p.2.out) (imageParams t p.2), 6, p.1)

/-- Check 20: loop bindings (R261). -/
def checkBindings (t : State) : List Verdict :=
  t.cfg.loops.map fun p =>
    let twice := p.2.out != .none && t.cfg.loops.any fun q => decide (q.1 < p.1) &&
      (q.2.out == p.2.out || ((outputOf q.2.out).isSome && outputOf q.2.out == outputOf p.2.out))
    let unfit := match outputOf p.2.out with
      | some (.unit u) => (t.secOf u).isSome || pairMember t u
      | _ => false
    (twice || unfit, 6, p.1)

/-- I_R of a switch channel, mA (Table 09-1: pool of 50 mA credits). -/
def ratedMa (n : Nat) : Nat := if n < 16 then 6000 else 15000

/-- Check 21: switch parameters (R280). -/
def checkSwitches (i : Image) : List Verdict :=
  i.switches.map fun p =>
    let c := p.2
    (c.used && (decide (23 < p.1) || outside 100 (ratedMa p.1) c.iLoad || c.iLoad % 10 != 0 || outside 3 10 (multHalfOf c)
      || decide (40 < inrushMsOf c) || (c.iInrush.any fun x => decide (x < c.iLoad) || decide (multHalfOf c * c.iLoad < 2 * x))
      || decide (10000000 < c.lLoadUh) || (c.load == .inductive && c.lLoadUh == 0)
      || (c.olThr.any fun x => outside 10 (c.iLoad / 2) x) || decide (15 < c.retryN) || outside 10 1000 c.backoffMs
      || c.backoffMs % 10 != 0 || (c.pwmHz != 0 && outside 100 400 c.pwmHz)), 7, p.1)

/-- Check 22: freewheel (R281). -/
def checkFreewheel (i : Image) : List Verdict :=
  i.switches.map fun p =>
    let c := p.2
    (c.used && c.load == .inductive && !c.extFreewheel
      && (decide (2000000 * clampLimit p.1 < c.lLoadUh * c.iLoad * c.iLoad) || c.pwmHz != 0), 7, p.1)

/-- Check 23: inductive field outputs (R316). -/
def checkFieldOutputs (i : Image) : List Verdict :=
  i.fieldIo.outputs.map fun p =>
    (p.2.used && !p.2.extFreewheel && decide (2 * 38 * 50000 * 1000000 < p.2.lLoadUh * p.2.iLoad * p.2.iLoad * 70), 8, p.1)

/-- Check 24: connector groups (R317). -/
def checkGroups (t : State) : List Verdict :=
  t.cfg.fieldIo.groups.zipIdx.map fun g =>
    let shared := t.cfg.fieldIo.groups.zipIdx.any fun h => decide (h.2 < g.2) && g.1.lines.any fun l => h.1.lines.contains l
    (decide (7 < g.2) || decide ((sentinels t g.1).length < 2) || shared || !decide g.1.lines.Nodup, 8, g.2)

/-- Check 25: safe states (R321). -/
def checkSafe (t : State) : List Verdict :=
  (t.cfg.safe.units.map fun p =>
    (p.2 == .on && ((t.unitCfg p.1).mode == .prop || (boundLoop t (.unit p.1)).isSome), 9, p.1))
  ++ t.cfg.safe.switches.map fun p => (p.2 == .on && (boundLoop t (.switch p.1)).isSome, 9, p.1)

/-- Check 26: NAP codes (R334). -/
def checkNap (t : State) : List Verdict :=
  (t.cfg.switches.map fun p => (p.2.napOn && (boundLoop t (.switch p.1)).isSome, 7, p.1))
  ++ t.cfg.fieldIo.outputs.map fun p =>
    let e := t.cfg.odo.emulation
    (p.2.napOn && ((p.1 = 14 && e.mode != 0) || (p.1 = 15 && (e.mode == 2 || (e.mode == 1 && e.dirLevel)))), 8, p.1)

/-- Check 27: heartbeat timeout over ISOBUS (R407). -/
def checkHeartbeat (i : Image) : List Verdict :=
  match i.host.link with
  | .isobus _ _ => [(decide (i.host.heartbeatMs < 100), 11, 0)]
  | _ => []

/-- Check 28: section units and operator inputs (R160, R311). -/
def checkSections (i : Image) : List Verdict :=
  let operator (n : Nat) : Bool := (tget i.fieldIo.inputs {} n).mode == .operator
  (i.units.units.map fun p =>
    match p.2.sec with
    | none => (false, 4, p.1)
    | some x =>
      (p.2.used && (!(p.2.mode == .onoff || p.2.mode == .pwm) || decide (1 < x.product)
        || x.wMm.any (outside 50 12800) || x.depthMm.any (outside 50 2000) || x.sectionIn.any (fun n => !operator n)), 4, p.1))
  ++ (i.products.map fun p => (p.2.masterIn.any fun n => !operator n, 5, p.1))
  ++ i.fieldIo.groups.zipIdx.map fun g => (g.1.rearmIn.any fun n => !operator n, 8, g.2)

/-- The first some of two. -/
def orElse (a : Option CheckFail) (b : Option CheckFail) : Option CheckFail :=
  match a with
  | some x => some x
  | none => b

/-- R429: every check in code order; the first that fails. -/
def checkImage (s : State) (i : Image) : Option CheckFail :=
  let t := { s with cfg := i }
  [verdictOf 6 resRange (checkDefaults i ++ checkBuses i), verdictOf 7 resRange (checkNav i), verdictOf 8 resRange (checkOdo i),
   verdictOf 9 resMismatch (checkRoles i), verdictOf 10 resRange (checkInputs i), verdictOf 11 resRange (checkProducts i),
   verdictOf 12 resRange (checkLookahead i), verdictOf 13 resRange (checkProfiles i), verdictOf 14 resRange (checkBoost i),
   verdictOf 15 resRange (checkSlots i), verdictOf 16 resRange (checkProp i), verdictOf 17 resMismatch (checkPools t),
   verdictOf 18 resMismatch (checkTokens t), verdictOf 19 resRange (checkLoops t), verdictOf 20 resMismatch (checkBindings t),
   verdictOf 21 resRange (checkSwitches i), verdictOf 22 resMismatch (checkFreewheel i),
   verdictOf 23 resMismatch (checkFieldOutputs i), verdictOf 24 resMismatch (checkGroups t),
   verdictOf 25 resMismatch (checkSafe t), verdictOf 26 resMismatch (checkNap t), verdictOf 27 resRange (checkHeartbeat i),
   verdictOf 28 resMismatch (checkSections i)].foldl orElse (checkContainer s i.container)

/-- R419: the fields that a failed check's reply carries. -/
def CheckFail.bytes (f : CheckFail) : List Byte := le 2 f.code ++ le 2 f.sect ++ le 4 f.item

/-- The reply of a failed check. -/
def CheckFail.reply (f : CheckFail) : Reply := { result := f.result, data := f.bytes }

/-! ## Slots -/

/-- A configuration slot: 0 A, 1 B. -/
def cfgSlot (s : State) (k : Nat) : CfgSlot := if k = 0 then s.storage.cfgA else s.storage.cfgB

/-- Change a configuration slot. -/
def setCfgSlot (k : Nat) (c : CfgSlot) (s : State) : State :=
  s.modStore fun x => if k = 0 then { x with cfgA := c } else { x with cfgB := c }

/-- The slot that is not active; with none active, slot A. -/
def otherSlot (s : State) : Nat := if s.storage.activeCfg = 0 then 1 else 0

/-- A firmware slot. -/
def fwSlot (s : State) (k : Nat) : FwSlot := if k = 0 then s.storage.fwA else s.storage.fwB

/-- Change a firmware slot. -/
def setFwSlot (k : Nat) (c : FwSlot) (s : State) : State :=
  s.modStore fun x => if k = 0 then { x with fwA := c } else { x with fwB := c }

/-- R357: the four conditions of a firmware slot. -/
def fwPasses (s : State) (f : Firmware) : Bool :=
  f.headerOk && f.signatureOk && decide (s.storage.floor ≤ f.version) && decide (f.siMin ≤ s.storage.siRev)
    && decide (s.storage.siRev ≤ f.siMax)

/-- R357: a slot passes at a start: it holds an image that does, and is not treated as failing (R358). -/
def fwSlotPasses (s : State) (k : Nat) : Bool :=
  !s.storage.failedFw.contains k && match (fwSlot s k).image with
    | some f => (fwSlot s k).st == 2 && fwPasses s f
    | none => false

end Sys2Proof.Machine
end

