-- ==== Sys2Proof/Machine/StartOps.lean ====
section
/-! DEFINITION. Activation of a configuration (R373, R461, R132), the start sequence to READY (Table 12-1, R352 to R373), the
reset of D0, and the moves between power states (R331 to R349). -/

namespace Sys2Proof.Machine

/-! ## Activation -/

/-- R209, R215: a table of one direction that starts from its seeds. -/
def seedTable (seeds : List Nat) : Tbl LatBin := seeds.zipIdx.map fun p => (p.2, { seed := p.1 : LatBin })

/-- Whether a table was learned on these seeds. -/
def sameSeeds (t : Tbl LatBin) (seeds : List Nat) : Bool := seeds.zipIdx.all fun p => (tget t {} p.2).seed == p.1 && (tfind t p.2).isSome

/-- R215: a unit's tables at an activation: kept where valve type and seeds are unchanged. SHIFTED counts from here (Table 06-7),
and T starts at the grid reading (R208). -/
def activateLearn (was is_ : Option ProfileCfg) (l : Learn) : Learn :=
  let p := is_.getD {}
  let keep := was == is_ && sameSeeds l.opening p.seedOpenUs && sameSeeds l.closing p.seedCloseUs
  let clear (t : Tbl LatBin) : Tbl LatBin := t.map fun b => (b.1, { b.2 with shifted := false })
  { l with opening := if keep then clear l.opening else seedTable p.seedOpenUs,
           closing := if keep then clear l.closing else seedTable p.seedCloseUs,
           openEdge := none, closeEdge := none, lastHold := none }

/-- A unit's drive at an activation: its configured mode, or what a die still holds on (R363). -/
def activateDrive (m : UnitMode) (d : Drive) : Drive :=
  if unitOff d then
    { d with mode := m, modeEnabled := false, modeWait := false, phase := if d.phase == .turnOff then .turnOff else .off,
             base := 0, baseReserved := false, setpoint := 0, duty := 0, dutyNow := 0, cycling := false, resume := false, nextCycle := none,
             rephased := false, missedDips := 0, missedKnees := 0, noMotion := false, noRelease := false, trimLimit := false,
             edgeMarked := false, forced := false, clampSince := none }
  else d

/-- One unit at an activation: odometer 0 (R132), section mode AUTO, factor 1.0, no frets. -/
def activateUnit (s : State) (img : Image) (u : Nat) (x : UnitSt) : UnitSt :=
  let c := tget img.units.units {} u
  { x with drive := activateDrive c.mode x.drive,
           learn := activateLearn (tget s.cfg.units.units {} u).profile c.profile x.learn,
           motion := {}, sect := {}, frets := [], nextTag := 32768, rateFactor := 65536 }

/-- R225: the converter runs while a unit of the die has a boost profile and a mode other than proportional. -/
def boostWanted (s : State) (d : Nat) : Bool :=
  (unitsOfDie d).any fun u => (s.unitCfg u).used && (s.profile u).boost && (s.unit u).drive.mode != .prop

/-- The sources in the order in which assertions of one cycle are written: the highest LEVEL first, then the lowest number (R465). -/
def byLevel (s : State) : List Nat :=
  (upFrom 0 16).reverse.flatMap fun p => (List.range 256).filter fun n => (s.src n).priority == p

/-- R461: the EVENTS section sets every source and target; R462: a level source that is active asserts once. -/
def activateEvents (s : State) : State :=
  let was := s.events.sources
  let s1 := s.modEvents fun e =>
    { e with sources := (List.range 256).foldl (fun t n =>
               let c := tget s.cfg.events.sources (0, 0) n
               if c = (0, 0) && (tfind t n).isNone then t
               else tset t n { tget t {} n with priority := c.1, target := c.2 }) was,
             targets := (List.range 10).foldl (fun t n =>
               let c := tget s.cfg.events.targets (0, 8, 1000, false) n
               tset t n { tget t {} n with threshold := c.1, count := c.2.1, timeUs := c.2.2.1, wake := c.2.2.2 }) e.targets }
  (byLevel s1).foldl (fun s n =>
    if levelSource n && (s.src n).active && !(s.src n).inService then assertSource n (s.src n).payload false s.devtime s else s) s1

/-- R478: on a wake from PARK the settings of sources and targets come back from retention, before the configuration sets them anew. -/
def restoreSettings (s : State) : State :=
  match s.power.retention with
  | some (_, so, ta) =>
    ta.foldl (fun s p => s.modTgt p.1 fun x =>
      { x with threshold := p.2.threshold, count := p.2.count, timeUs := p.2.timeUs, wake := p.2.wake })
      (so.foldl (fun s p => s.modSrc p.1 fun x => { x with priority := p.2.priority, target := p.2.target }) s)
  | none => s

/-- Tokens of one package as the lead counts them, FIXED ones apart. -/
def TokenSt.moving (t : TokenSt) : Nat := t.granted + t.escrow + t.inTransit.foldl (fun a x => a + x.2.1) 0

/-- R51: what the lead knows of a package under a new declaration: a declared one keeps its tokens, another one's go into ESCROW. -/
def redeclare (p : PackageCfg) (now i : Nat) (t : TokenSt) : TokenSt :=
  if i = 0 || p.members.contains i then { t with fixed := nth p.fixedTokens 0 i, present := t.present || i == 0 }
  else { escrow := t.moving, escrowAt := some (now + 1000 * p.silenceMs) }

/-- R50, R51, R459: tokens at an activation. Where the package enters its system anew, a lead holds every non-FIXED token in ESCROW and a
follower its FIXED ones only; where it stays in the same system under the same index (a CFG_COMMIT at run time), tokens stay where
they are. -/
def activateTokens (anew : Bool) (s : State) : State :=
  let p := s.cfg.package
  let fixed := p.fixedTokens.foldl (· + ·) 0
  let free := p.tokenPool - fixed
  let old : Tbl TokenSt := if anew then [] else s.ledger.tokens
  let s1 :=
    if !p.member then s.modLedger fun l => { l with tokens := [], tokensFree := 0 }
    else if p.pkgIndex = 0 then
      let base : Tbl TokenSt := ((0 :: p.members.filter (· != 0)) ++ old.map (·.1)).foldl (fun t i =>
        tset t i (redeclare p s.devtime i (tget old {} i))) []
      let all := if anew then tmod base {} 0 (fun x => { x with escrow := free, escrowAt := some (s.devtime + 1000 * p.silenceMs) }) else base
      s.modLedger fun l => { l with tokens := all, tokensFree := free - all.foldl (fun a x => a + x.2.moving) 0 }
    else
      let mine := { tget old {} p.pkgIndex with fixed := nth p.fixedTokens 0 p.pkgIndex }
      s.modLedger fun l => { l with tokensFree := 0, tokens := [(p.pkgIndex, mine)] }
  let own := tget s1.ledger.tokens {} p.pkgIndex
  setPool (poolOfTokens p.member (own.fixed + own.granted)) s1.ledger.derated s1

/-- The parts of State that an activation starts anew, the loops at OUT_SAFE in OFF (Table 08-1, R264) and E_LAST at E_DECL (R290). -/
def activateParts (img : Image) (s : State) : State :=
  { s with
    cfg := img
    units := (img.units.units.foldl (fun t p => if p.2.used then tset t p.1 (tget s.units {} p.1) else t) s.units).map fun p =>
      (p.1, activateUnit s img p.1 p.2)
    loops := img.loops.map fun p => (p.1, { params := imageParams { s with cfg := img } p.2, u := p.2.params.outSafe : LoopSt })
    clusters := s.clusters.map fun p => (p.1, { p.2 with slotWaitUs := 0, lastWaitAt := 0, crowdedEdges := 0, crowdedAt := none })
    groups := []
    dies := s.dies.map fun p => (p.1, { p.2 with tableOk := true })
    loopStream := (0, [])
    loopSentAt := none
    rates := []
    trims := []
    rateRaisedAt := []
    pressureBad := []
    pwmRef := s.devtime }

/-- R74: OSNMA at an activation: with another public key it begins anew. -/
def activateOsnma (key : List Byte) (o : OsnmaSt) : OsnmaSt := if o.from_ == key then o else { from_ := key, key := key }

/-- What an activation does to the fast channels: their counters stand (R114); one whose parameters change begins to measure anew, and the
part of DIST below a milli-unit goes (DESIGN CHOICE, assumption 54). -/
def activateChannels (img : Image) (s : State) : Tbl ChannelSt :=
  s.odo.channels.map fun p =>
    if tfind img.odo.channels p.1 = tfind s.cfg.odo.channels p.1 then p
    else (p.1, { p.2 with distPart := 0, edges := [], vMeas := 0, standstill := true, starting := false, reversal := false,
                          dirUnknown := (tfind img.odo.channels p.1).any gnssDir && s.odo.doppler.isNone })

/-- R373, R132: a configuration becomes active. -/
def activate (img : Image) (slot : Nat) (start : Bool) (s : State) : State :=
  let s1 := activateParts img s
  let was := s.cfg.package
  let now := img.package
  let stays := !start && was.member && now.member && was.pkgIndex == now.pkgIndex && was.systemId == now.systemId
  let s2 := { s1 with
    start := { s1.start with configActive := true, activating := none }
    storage := { s1.storage with activeCfg := slot }
    host := { s1.host with outputsEnabled := false }
    nav := { s1.nav with posRate := 20, rtk := false, bitsConst := 0, bitsAnt := 0, recent := [], accUm := 0, alpha := 0,
                         firstEpoch := true, staleBase := s1.devtime, fretsLive := false, odoStale := false, steps := [],
                         history := [], data := { s1.nav.data with osnma := activateOsnma img.nav.osnmaKey s1.nav.data.osnma } }
    odo := { s1.odo with channels := activateChannels img s, sources := [], pairs := [], primary := none, primarySeen := false, blendFrom := none, distS := 0, theta := 0 }
    switches := img.switches.foldl (fun t p =>
      if p.2.used then tset t p.1 { tget t {} p.1 with eLast := eDecl s1 p.1 (groupMv s1 (swRegionOf p.1)), duty := 0 }
      else t) s1.switches
    inputs := s1.inputs.map fun p => (p.1, { p.2 with cls := if (s1.fiCfg p.1).wb then p.2.cls else 0, away := false })
    outputs := s1.outputs.map fun p => (p.1, { p.2 with away := false })
    can := s1.can.map fun p =>
      (p.1, { p.2 with addr := none, claiming := none, cannotClaim := false, sessions := [], hostAddr := none })
    zither := { s1.zither with joined := if s1.lead then some s1.storage.sysEpoch else if stays then s.zither.joined else none,
                               welcomed := stays && s.zither.welcomed, turnedAway := false,
                               odo := [], stale := [], motion := none, fwd := [], fwdParts := [], resend := [],
                               tokenAskedAt := none, highSince := none, tcConnected := false } }
  let s3 := [2, 3].foldl (fun s d => s.modBoost d fun b => { b with running := boostWanted s d && !b.fault }) s2
  activateEvents (activateTokens (!stays) s3)

/-- R228, R34: at an activation each PWM or PROP unit asks for its mode charge; a refused one asks again in every cycle. -/
def requestModes (s : State) : State :=
  s.usedUnits.foldl (fun s u =>
    let d := (s.unit u).drive
    if d.mode == UnitMode.onoff || d.mode == UnitMode.pairedMember || d.modeEnabled || faulted s u then s
    else match enableMode u s with
      | .ok s1 => s1
      | .error l => countRefusal u l (baseOf s u d.mode) (s.modDrive u fun d => { d with modeWait := true })) s

/-- R102, R103: navigation begins at a start: hot, warm or cold, with what retention kept. -/
def beginNav (near : Bool) (s : State) : State := (loadNav s).modNav fun n => { n with startKind := navStartKind near s }

/-! ## N_POWER and N_START -/

/-- Table 11-7: N_POWER, after which SLEPT starts anew. -/
def sendPower (from_ to_ : PowerState) (aborted : Bool) (wake : Nat) (s : State) : State :=
  let utc := rtcNow s
  let flags := pack [(bit aborted, 0), (bit (s.power.trim && !s.power.onRc), 1), (bit s.power.clk32Fail, 2)]
  let body := le 8 s.devtime ++ le 1 (powerCode from_) ++ le 1 (powerCode to_) ++ le 1 flags ++ le 1 0 ++ le 2 wake ++ le 2 0
    ++ le 8 s.power.slept ++ le 4 (utc / 1000 : Nat) ++ le 2 (utc % 1000 : Nat) ++ le 2 0
  edge 1 (powerCode to_) (bit aborted) (notify 0 33028 body (s.modPower fun p => { p with slept := 0 }))

/-- The device enters a power state, counted and reported (R331, R345, R491). -/
def enterState (to_ : PowerState) (aborted : Bool) (wake : Nat) (s : State) : State :=
  let s1 := countTime s
  sendPower s1.power.state to_ aborted wake (s1.modPower fun p => { p with state := to_ })

/-- Table 12-4: the payload of N_START. -/
def startPayload (s : State) (fwBack cfgBack retLost held : Bool) (tries startUs failed intervals : Nat) : List Byte :=
  le 8 s.devtime ++ le 1 s.start.cause ++ le 1 s.storage.runningFw
    ++ le 1 (if s.start.configActive then s.storage.activeCfg else 255 : Nat)
    ++ le 1 (pack [(bit fwBack, 0), (bit cfgBack, 1), (bit retLost, 2), (bit held, 3), (bit s.cov.unreadable, 4)])
    ++ le 2 tries ++ le 2 0 ++ le 4 startUs ++ le 2 failed ++ le 2 s.start.deferred.length ++ le 4 intervals ++ le 4 0

/-! ## Losing D0 -/

/-- R478: counters of the event controller as retention holds them; settings come with the activation. -/
def eventsAfterReset (s : State) : Events :=
  match s.power.retention with
  | some (_, so, ta) =>
    { sources := so.map fun p => (p.1, { delivered := p.2.delivered, lost := p.2.lost, vanished := p.2.vanished,
                                         active := levelSource p.1 && p.1 < 16 && (s.src p.1).active, payload := p.2.payload })
      targets := ta.map fun p => (p.1, { dropped := p.2.dropped }), stopped := true }
  | none => { sources := (upFrom 7 7).filterMap fun n =>
                if (s.src n).active then some (n, { active := true, payload := (s.src n).payload }) else none,
              stopped := true }

/-- Navigation with nothing but its retention and the supplies' readings. -/
def navAfterReset (n : NavSt) : NavSt :=
  { retention := n.retention, retentionAt := n.retentionAt, vbatMv := n.vbatMv, gridMc := n.gridMc }

/-- Storage after a reset of D0: staging is discarded (R418), an interrupted long request has done nothing. -/
def storageAfterReset (x : StorageSt) : StorageSt :=
  let slot (c : CfgSlot) : CfgSlot := if c.st = 1 then {} else c
  let fw (c : FwSlot) : FwSlot := if c.st = 1 then {} else c
  { x with cfgA := slot x.cfgA, cfgB := slot x.cfgB, fwA := fw x.fwA, fwB := fw x.fwB, staging := none, fwStaging := none,
           verifying := none, fwCommitting := none, partitioning := none, failedCommits := 0, stopped := [], carried := false }

/-- What a reset of D0, or PARK, takes with it: the host interface, navigation, decisions, loops, frets, fault tables. Records and
map stand as the journal left them (R56, R499); the power dies go on (R326). -/
def dropD0 (s : State) : State :=
  { s with
    host := {}
    events := eventsAfterReset s
    faults := {}
    nav := navAfterReset s.nav
    odo := { channels := s.odo.channels, sent := s.odo.sent }
    cov := { fields := s.cov.fields, cells := s.cov.cells, slots := s.cov.slots, log := s.cov.log, supers := s.cov.supers,
             dir := s.cov.dir, index := s.cov.index, store := s.cov.store, delta := s.cov.delta,
             tiles := s.cov.tiles.map fun t => { t with cached := false, changed := false } }
    loops := []
    loopStream := (0, [])
    loopSentAt := none
    rates := []
    trims := []
    rateRaisedAt := []
    pressureBad := []
    can := []
    zither := {}
    storage := storageAfterReset s.storage
    start := { s.start with ready := false, readyPin := false, maint := false, configActive := false, activating := none,
                            keeperOut := none, coresOut := [], coreQueue := [], coreTaking := false }
    units := s.units.map fun p =>
      (p.1, { p.2 with frets := [], sect := {}, motion := {}, nextTag := 32768,
                       learn := { tempMc := p.2.learn.tempMc } }) }

/-- Hourly and session records end at a reset (R490). -/
def closeAtReset (s : State) : State := closeRecord 1 false true (closeRecord 0 true true s)

/-- A reset of D0 with its cause (Table 12-4). The start that follows is the SUPPLIES_VALID command's (assumption 16). -/
def resetD0 (cause : Nat) (s : State) : State :=
  let lostS := if s.start.ready && awake s then (s.devtime - s.recorder.histAt) / 1000000 else 0
  let s1 := dropD0 (closeAtReset (lossyRestart lostS s))
  { s1 with
    start := { s1.start with cause := cause }
    power := { s1.power with state := .run, entry := none, from_ := .run, wakeBits := 0, tcxoEn := false, pll := 0, refreshed := false,
                             keyOffEnd := none, keyOffDue := false, refreshEnd := none, supplies := false } }

/-! ## The start sequence -/

/-- R357: the slot that boots and whether it is the fall-back. -/
def bootSlot (s : State) : Option (Nat × Bool) :=
  let a := s.storage.activeFw
  if !s.storage.tableOk then none
  else if fwSlotPasses s a then some (a, false)
  else if fwSlotPasses s (1 - a) then some (1 - a, true)
  else none

/-- The digests of the running firmware and the active configuration (R344). -/
def digestsNow (s : State) : List Byte × List Byte :=
  (sha256 (fwSlot s s.storage.runningFw).bytes, sha256 (cfgSlot s s.storage.activeCfg).bytes)

/-- R371, R344: the configuration that step 6 loads, its slot, and whether it is the fall-back. After PARK a matching digest stands
for the checks. -/
def loadConfig (wake : Bool) (s : State) : Option (Image × Nat × Bool) :=
  let a := if s.storage.activeCfg = 1 then 1 else 0
  let good (k : Nat) : Option Image :=
    let c := cfgSlot s k
    match c.image with
    | some i => if c.st == 2 && (checkImage s i).isNone then some i else none
    | none => none
  let kept := wake && match s.power.digests with
    | some d => d.2 == (digestsNow s).2
    | none => false
  if kept && (cfgSlot s a).image.isSome then (cfgSlot s a).image.map fun i => (i, a, false)
  else match good a with
    | some i => some (i, a, false)
    | none => (good (1 - a)).map fun i => (i, 1 - a, true)

/-- What a die still holds of a unit at step 5: a unit that is off holds no charge. -/
def readDrive (d : Drive) : Drive :=
  if d.baseReserved || unitOff d then { d with base := 0, baseReserved := false, modeEnabled := false, modeWait := false } else d

/-- R363, step 5: links retrain, dies are read; the charges of outputs that are on enter the ledger as DRAWING. No fret is left
(R372). -/
def readDies (s : State) : State :=
  let s0 : State := { s with
    dies := [2, 3, 4].foldl (fun t d =>
      let x := tget t {} d
      tset t d { x with lastFrameAt := s.devtime, linked := true, parked := false, silent := false, allOff := false, solo := none,
                        backAt := if x.heldSafe then some s.devtime else none }) s.dies
    units := s.units.map fun p => (p.1, { p.2 with drive := readDrive p.2.drive }) }
  let s1 : State := { s0 with
    clusters := s0.clusters.map fun p => (p.1, if clusterCharged s0 p.1 then p.2 else { p.2 with slot := 0 })
    ledger := { s.ledger with els := [], broken := [], heldSafe := [], auditSkipped := [], drawingUs := [], windowAt := s.devtime,
                              windowSkips := [], withheld := 0, withholdDue := 0, packagePool := 2000,
                              tokens := [], tokensFree := 0 }
    ventHeld := [] }
  setPool 2000 s.ledger.derated (allKeys.foldl (fun s k => startEl k s) s1)

/-- R479: the dies deliver what they latched, in order, and their excess goes to LOST; a level source whose record is in service does not
assert (R473). -/
def deliverLatched (d : Nat) (s : State) : State :=
  let x := s.die d
  let s1 := s.modDie d fun y => { y with latched := [], excess := [] }
  let s2 := x.latched.foldl (fun s e =>
    let n := e.1
    let code := e.2.1
    let inst := e.2.2.1
    let sev := e.2.2.2.1
    let s1 := if levelSource n && (s.src n).inService then s else assertSource n (evtWord inst code sev) false e.2.2.2.2 s
    if sev = 0 then s1
    else intakePut { cls := classOf n code, inst := inst, severity := sev, source := n, time := e.2.2.2.2 } s1) s1
  x.excess.foldl (fun s p => s.modSrc p.1 fun y => { y with lost := y.lost + p.2 }) s2

/-- R361: a unit, switch, output, input or analog input that failed is unavailable, and named. -/
def calFail (inst : Nat) (s : State) : State := fault 15 inst 5 3 0 s

/-- R246, R247, R361: self-calibration sets a unit's gain correction: the journalled one where it agrees with the measured one, a free
value, within 1 %, and after PARK (R344); else the measured one. -/
def setGain (wake : Bool) (s : State) (u : Nat) : State :=
  let m := Config.reading 7 u s.devtime
  let g := match tfind s.storage.savedLatency u with
    | some x => if wake || decide (100 * mag (x.gainQ16 - m) ≤ mag (65536 + m)) then x.gainQ16 else m
    | none => m
  s.modDrive u fun d => { d with gainQ16 := g, calQ16 := g }

/-- The units of a region that is calibrated now: used, and off (R362, R363). -/
def measuredUnits (s : State) (r : Nat) : List Nat :=
  s.usedUnits.filter fun u => regionOf (clusterOf u) == r && lineOff s (.unit u)

/-- R361 to R364: steps 7 and 8. Elements that are on are deferred (R363), regions without supply wait (R362). -/
def calibrate (wake : Bool) (tests : StartTests) (s : State) : State :=
  let present (r : Nat) : Bool := tget s.power.groups false r
  let held (l : Line) : Bool := !lineOff s l
  let units := (tests.failUnits ++ tests.failClusters.flatMap unitsOfCluster).eraseDups.filter fun u =>
    present (regionOf (clusterOf u)) && !held (.unit u)
  let sws := tests.failSwitches.eraseDups.filter fun n => present (swRegionOf n) && !held (.switch n)
  let fos := tests.failOutputs.eraseDups.filter fun o => present 6 && !held (.fo o)
  let self := tests.selftestSwitches.eraseDups
  let fis := if present 6 then tests.failInputs else []
  let ais := if present 6 then tests.failAnalogs else []
  let deferred := ((upFrom 0 128).filter fun u => held (.unit u)).map (fun u => (0, u))
    ++ ((upFrom 0 24).filter fun n => held (.switch n)).map (fun n => (1, n))
    ++ ((upFrom 0 16).filter fun o => held (.fo o)).map (fun o => (2, o))
  let s0 := (((upFrom 0 4).filter present).flatMap (measuredUnits s)).foldl (setGain wake) s
  let s1 := s0.modStart fun x =>
    { x with badUnits := units, badSwitches := (sws ++ self).eraseDups, badOutputs := fos, badInputs := fis, badAnalogs := ais,
             deferred := deferred, uncalibrated := (upFrom 0 7).filter fun r => !present r,
             fuseOk := tests.fuseMapOk }
  let s2 := (units ++ sws ++ fos ++ fis ++ ais).foldl (fun s k => calFail k s)
    (skipDrift ((upFrom 0 7).flatMap driftOfRegion) s1)
  let s3 := self.foldl (fun s n => fault 15 n 6 3 0 s) s2
  let s4 := if tests.fuseMapOk then s3 else fault 15 0 8 3 0 s3
  tests.badTables.foldl (fun s d => fault 216 d 0 3 0 (s.modDie d fun x => { x with tableOk := true })) s4

/-- Elements unavailable after steps 7 and 8 (Table 12-4). -/
def unavailableCount (s : State) : Nat :=
  ((upFrom 0 128).filter fun u => unavailable s (.unit u)).length + ((upFrom 0 24).filter fun n => unavailable s (.switch n)).length
    + ((upFrom 0 16).filter fun o => unavailable s (.fo o)).length + (if s.start.uncalibrated.contains 6 then 40 else s.start.badInputs.length + s.start.badAnalogs.length)

/-- An antenna counts as lost (R87, R365). -/
def loseAntenna (a : Nat) (s : State) : State :=
  faultLevel (37 + a) 0 0 2 (s.modNav fun n => { n with antLost := if a = 0 then (true, n.antLost.2) else (n.antLost.1, true) })

/-- R365: step 9. -/
def calibrateRf (tests : StartTests) (s : State) : State :=
  let s0 := (s.modPower fun p => { p with vddRf := tests.vddRf }).modStart fun x => { x with rfBad := [] }
  if !tests.vddRf then loseAntenna 1 (loseAntenna 0 (s0.modStart fun x => { x with rfBad := [0, 1] }))
  else
    let one (ok : Bool) (a : Nat) (s : State) : State :=
      if ok then s else loseAntenna a (fault 15 a 7 2 0 (s.modStart fun x => { x with rfBad := x.rfBad ++ [a] }))
    one tests.rfOk.2 1 (one tests.rfOk.1 0 s0)

/-- Step 10: Tephra index (R367), latency tables and trims (R215, R247), the journal's losses (R56). -/
def restore (tests : StartTests) (s : State) : State :=
  let s1 := if tests.tephraOk then s.modCov fun c => { c with unreadable := false }
    else fault 66 0 3 3 0 (s.modCov fun c => { c with unreadable := true })
  let s2 := if tests.tornCommit then fault 248 0 0 2 0 s1 else s1
  addTotal totUnjournalled s2.recorder.lostIntervals (s2.modRec fun r =>
    { r with unjournalled := r.unjournalled + r.lostIntervals, unjournalledMs := r.unjournalledMs + r.lostMs })

/-- R215: saved tables, before the activation judges them; a table of another valve type is not restored. -/
def restoreLearning (s : State) : State :=
  s.storage.savedLatency.foldl (fun s p =>
    let same := p.2.profile == (s.unitCfg p.1).profile
    s.modLearn p.1 fun l => if same then { l with opening := p.2.opening, closing := p.2.closing } else l) s

/-- R360: maintenance mode. -/
def enterMaintenance (emmc : Bool) (s : State) : State :=
  { s with start := { s.start with maint := true, emmc := emmc },
           storage := { s.storage with failedFw := [] },
           events := { s.events with stopped := false },
           power := { s.power with supplies := true, corePwrEn := true, tcxoEn := true, pll := 2, state := .run } }

/-- Step 11: READY, N_START, and what is raised at READY (R346, R357, R366, R371). -/
def becomeReady (fwBack cfgBack retLost wake : Bool) (tests : StartTests) (s : State) : State :=
  let s1 := { s with start := { s.start with ready := true, readyPin := true, readyAt := s.devtime, tries := 0 },
                     host := { s.host with beatAt := some s.devtime, beatSeen := false },
                     recorder := { s.recorder with timedTo := s.devtime, heldAt := s.devtime, histAt := s.devtime, sampledAt := none,
                                                    lostIntervals := 0, lostMs := 0 } }
  let payload := startPayload s1 fwBack cfgBack retLost (!s1.start.deferred.isEmpty) s.start.tries tests.elapsedUs
    (unavailableCount s1) s.recorder.lostIntervals
  let s2 := edge 0 0 0 (notify 0 33027 payload s1)
  let raise (on : Bool) (code sev : Nat) (s : State) : State := if on then fault 15 0 code sev 0 s else s
  let s3 := raise (!s.start.configActive) 4 3 (raise cfgBack 3 2 (raise fwBack 2 2 (raise retLost 1 2
    (raise (wake && s2.power.clk32Fail) 0 2 s2))))
  requestModes s3

/-- Steps 5 to 11 on a booted slot. -/
def runStart (slot : Nat) (fwBack wake : Bool) (tests : StartTests) (s : State) : State :=
  let s1 := { s with storage := { s.storage with runningFw := slot, failedFw := [] },
                     events := { s.events with stopped := false },
                     start := { s.start with emmc := true },
                     power := { s.power with supplies := true, corePwrEn := true, tcxoEn := true, pll := 2, state := .run } }
  let s2 := addTotal (totStarts + s.start.cause) 1 (openHourly (thaw (readDies (if wake then restoreSettings s1 else s1))))
  let s3 := beginNav tests.navNear ([2, 3, 4].foldl (fun s d => deliverLatched d s) s2)
  let retLost := s.power.retention.isNone
  let load := loadConfig wake s3
  let s4 := match load with
    | some (i, k, _) => activate i k true (restoreLearning { s3 with cfg := i })
    | none => s3
  let s5 := if s4.lead then
      { s4 with storage := { s4.storage with sysEpoch := (s4.storage.sysEpoch + 1) % 256 },
                zither := { s4.zither with joined := some ((s4.storage.sysEpoch + 1) % 256) } }
    else s4
  let cfgBack := match load with
    | some (_, _, b) => b
    | none => false
  becomeReady fwBack cfgBack retLost wake tests (restore tests (calibrateRf tests (calibrate wake tests s5)))

/-- R352, R344: the start sequence, from supplies valid or from a wake out of PARK, to READY or to maintenance mode; one that takes
more than 1 s is still on its way (R356). -/
def startUp (wake : Bool) (tests : StartTests) (s : State) : State :=
  let s0 := { s with start := { s.start with begunAt := s.devtime, cause := if wake then 6 else s.start.cause },
                     power := { s.power with supplies := true, tcxoEn := true, corePwrEn := true } }
  if !tests.emmcAnswers then enterMaintenance false s0
  else match bootSlot s0 with
    | none => enterMaintenance true s0
    | some (slot, back) =>
      if 1000000 < tests.elapsedUs then s0
      else runStart slot back wake tests (s0.advance (s0.devtime + tests.elapsedUs))

/-! ## Sleep -/

/-- Every output that goes off for good: units, channels that limp does not drive, field outputs; loops to OFF. -/
def everythingOff (cs : Clamps) (s : State) : State := loopsOff ((usedOutputs s).foldl (offLine cs) s)

/-- R215, R247: latency tables and sense trims go to the eMMC. -/
def saveTables (s : State) : State :=
  s.modStore fun x =>
    { x with savedLatency := s.units.map fun p =>
               (p.1, { opening := p.2.learn.opening, closing := p.2.learn.closing, profile := (s.unitCfg p.1).profile, gainQ16 := p.2.drive.gainQ16 }),
             latencySavedAt := s.devtime }

/-- Saves of NAP and PARK entry (R335 step 1): journal, with the histograms (DEDUCED, assumption 58), latency tables and trims, navigation
retention. -/
def saveAll (s : State) : State :=
  saveNav (saveTables (commitWith true s))

/-- R335 step 2, R346, R478: events and ledger into retention; the controller stops. -/
def saveRetention (s : State) : State :=
  { s with power := { s.power with retention := some (s.devtime, s.events.sources, s.events.targets) },
           events := { s.events with stopped := true } }

/-- R335 step 4, R19: link-park frames. -/
def parkLinks (s : State) : State :=
  { s with dies := [2, 3, 4].foldl (fun t d => tset t d { tget t {} d with parked := true }) s.dies }

/-- R177, R174: what still waits in the miss buffer when the field closes is not written. -/
def dropMiss (fe : FieldEntry) (s : State) : State :=
  s.cov.miss.foldl (fun s r => unwritten fe.fieldId r.unit r.product (r.len * fe.cell * fe.cell) s) s

/-- R177: the field closes: writes end, changed tiles are written back, the journal is committed, the counters compared (R175), the
session's record closes (R490). -/
def finishClose (s : State) : State :=
  match s.cov.opened.bind s.fieldEntry with
  | none => s.modCov fun c => { c with opened := none, closingAt := none }
  | some fe =>
    let s1 := reconcile fe (closeRecord 1 false false (dropMiss fe s))
    let s2 := commit (s1.modCov fun c =>
      { markBack (fun t => t.changed) c with opened := none, closingAt := none, miss := [], polyStage := none, working := [], ahead := [],
                                             strokeCells := [] })
    let s3 := { s2 with units := s2.units.map fun p => (p.1, { p.2 with sect := { p.2.sect with strokes := [], applying := false } }) }
    edge 65 0 1 s3

/-- R53, R336: a member returns its non-FIXED tokens to the lead. -/
def returnTokens (s : State) : State :=
  if !s.follower then s
  else
    let k := s.cfg.package.pkgIndex
    let x := tget s.ledger.tokens {} k
    if x.granted = 0 then s
    else
      let q := (x.tseqSent + 1) % 65536
      let y := { x with granted := 0, tseqSent := q, inTransit := x.inTransit ++ [(q, x.granted, s.devtime)] }
      sendZ 10 0 [q, x.granted] (setPool (poolOfTokens s.cfg.package.member x.fixed) s.ledger.derated (s.modLedger fun l =>
        { l with tokens := tset l.tokens k y }))

/-- R335, R336: an entry sequence begins: the state is ENTERING, the heartbeat timeout stops (R338), and the first steps are done:
PARK thaws the recorder (R496), closes an open field and puts every output off. -/
def beginEntry (target : PowerState) (cs : Clamps) (s : State) : State :=
  let from_ := s.power.state
  let s1 := enterState .entering false 0 s
  let s2 := s1.modPower fun p => { p with entry := some (target, from_), wakeBits := 0, keyOffEnd := none, keyOffDue := false }
  let s3 := s2.modHost fun h => { h with beatAt := none }
  if target == .park then
    let s4 := if partitionStopped s3 6 then s3 else thaw s3
    returnTokens (everythingOff cs (if s4.cov.opened.isSome then finishClose s4 else s4))
  else s3

/-- R337: a wake source ends an entry sequence; the step in progress is done at once (assumption 22). -/
def abortEntry (s : State) : State :=
  match s.power.entry with
  | none => s
  | some (_, from_) =>
    let s1 := enterState from_ true s.power.wakeBits s
    { s1 with power := { s1.power with entry := none, wakeBits := 0 },
              host := { s1.host with beatAt := some s1.devtime },
              nav := if from_ == .run then { s1.nav with staleBase := s1.devtime, fretsLive := false } else s1.nav }

/-- Table 11-2: the correlators stop, and no channel tracks. -/
def stopTracking (s : State) : State := s.modNav fun n => { n with channels := [], trackedBand := [0, 0, 0, 0] }

/-- R348: the crystal is measured at each entry, unless the domain runs on its RC oscillator. -/
def trimNow (s : State) : State := s.modPower fun p => { p with trim := p.trim || !p.onRc, rtcErrUs := rtcBoundUs s, rtcMs := rtcNow s,
                                                                rtcAt := s.devtime }

/-- The last step of a NAP entry; the emulation outputs are off in NAP (R334). -/
def enterNap (s : State) : State :=
  let from_ := match s.power.entry with
    | some (_, f) => f
    | none => .run
  let s0 := [14, 15].foldl (fun s o => if (s.fo o).st = 3 then offFo o s else s) s
  let s1 := enterState .nap false 0 (stopTracking (parkLinks (trimNow (saveAll s0))))
  let s2 := saveRetention s1
  { s2 with power := { s2.power with entry := none, from_ := from_, sleptFrom := some s2.devtime, pll := 0, tcxoEn := false } }

/-- The last step of a PARK entry: SRAM outside retention is lost (Table 11-2). -/
def enterPark (s : State) : State :=
  let s1 := parkLinks (trimNow (saveAll (closeRecord 0 true false (countTime s))))
  let s2 := saveRetention { s1 with events := { s1.events with sources := s1.events.sources.map fun p =>
    (p.1, { p.2 with inService := false }) } }
  let dig := digestsNow s2
  let s3 := dropD0 s2
  { s3 with power := { s3.power with state := .park, entry := none, from_ := .run, sleptFrom := some s3.devtime, pll := 0,
                                     warmFrom := s3.devtime, refreshed := false, tcxoEn := false, corePwrEn := false, digests := some dig, wakeBits := 0 } }

/-- SLEPT grows by the time asleep until now (R345). -/
def wakeClock (s : State) : State :=
  let slept := match s.power.sleptFrom with
    | some t => s.devtime - t
    | none => 0
  s.modPower fun p => { p with slept := p.slept + slept, sleptFrom := none }

/-- R19, R343, R479: a link has retrained: its die delivers what it latched, and the audit's window counts from here. -/
def retrained (d : Nat) (s : State) : State :=
  if (s.die d).retrain.isNone then s
  else deliverLatched d ((s.modDie d fun x => { x with retrain := none }).modLedger fun l =>
    { l with windowAt := s.devtime, drawingUs := [], windowSkips := [] })

/-- R343, R19: NAP ends: the controller goes on from retention and the links retrain; the device is in DOZE on its fast RC oscillator
(R330), its time in holdover on the RTC's bound (R76, R349). -/
def wakeNap (s : State) : State :=
  let s1 := wakeClock s
  let s2 := { s1 with events := { s1.events with stopped := false },
                      dies := [2, 3, 4].foldl (fun t d =>
                        tset t d { tget t {} d with parked := false, lastFrameAt := s1.devtime, retrain := some s1.devtime }) s1.dies,
                      ledger := { s1.ledger with windowAt := s1.devtime, drawingUs := [], windowSkips := [] },
                      recorder := { s1.recorder with heldAt := s1.devtime, histAt := s1.devtime },
                      power := { s1.power with pll := 1, tcxoEn := true } }
  let s2 := s2.modNav fun n => { n with boundFromRtc := true }
  let s2 := if s2.nav.quality = 1 then setQuality 2 s2 else s2
  let s3 := if s2.power.clk32Fail then fault 15 0 0 2 0 s2 else s2
  enterState .doze false s3.power.wakeBits s3

/-- The end of a wake: the links have retrained within it (R19, R343), RUN where NAP was entered from RUN, and the heartbeat timeout
anew (R338). -/
def endWake (s : State) : State :=
  let s0 := [2, 3, 4].foldl (fun s d => retrained d s) s
  let s1 := if s0.power.from_ == .run && s0.power.state == .doze then enterState .run false s0.power.wakeBits s0 else s0
  let s2 := { s1 with power := { s1.power with wakeBits := 0, clk32Fail := false },
                      host := { s1.host with beatAt := some s1.devtime },
                      nav := { s1.nav with staleBase := s1.devtime, fretsLive := false, startKind := 1 } }
  if enabled s2 then startEmulation s2 else s2

/-- R344: a wake from PARK or REFRESH: the start sequence, then N_POWER; PARK_S goes to the lifetime record (R491). -/
def wakePark (tests : StartTests) (s : State) : State :=
  let bits := s.power.wakeBits
  let s1 := wakeClock s
  let sleptS := s1.power.slept
  let s2 := startUp true tests (s1.modPower fun p => { p with state := .run, refreshEnd := none })
  let s2 := s2.modPower fun p => { p with refreshed := false }
  let s3 := s2.modRec fun r =>
    if r.frozenAt.isSome then { r with shLifetime := r.shLifetime.map fun x => { x with totals := tmod x.totals 0 totPark (· + sleptS) } }
    else { r with lifetime := { r.lifetime with totals := tmod r.lifetime.totals 0 totPark (· + sleptS) } }
  if s3.start.ready then (sendPower .park .run false bits s3).modPower fun p => { p with wakeBits := 0, clk32Fail := false }
  else s3

/-- Table 11-4: the calendar has reached the alarm that SYS_POWER set. -/
def alarmDue (s : State) : Bool := s.power.alarm.any fun a => decide (1000 * a ≤ rtcNow s)

/-- Whether an enabled wake source acts in a state (Table 11-4). -/
def wakeActs (s : State) (src : Nat) : Bool :=
  let on := src == 0 || src == 3 || bitAt s.cfg.host.wakeMask src
  let target := match s.power.entry with
    | some (t, _) => t
    | none => s.power.state
  let acts := match target with
    | .nap => decide (src ≤ 5)
    | .park | .refresh => decide (src ≤ 4)
    | .run | .doze | .entering => false
  on && acts && (src != 1 || (s.fiCfg 0).keyOn) && (src != 2 || alarmDue s)

end Sys2Proof.Machine
end

