-- ==== Sys2Proof/Machine/ReqOps.lean ====
section
/-! DEFINITION. What several request rows share: lengths, a request that may change outputs (R262), requests for an output
(R393, R413), the enable of outputs (R393, R398, R399), and the snapshot of SYS_RESYNC (R417). -/

namespace Sys2Proof.Machine

/-- A fixed payload length (R410). -/
def exactly (n : Nat) : Nat → Bool := fun len => len == n

/-- A payload length within bounds (R410). -/
def between' (lo hi : Nat) : Nat → Bool := fun len => decide (lo ≤ len) && decide (len ≤ hi)

/-- A host request whose effect may bring outputs out of or into a fault state or a safe state: the loops follow (R262). -/
def requestOut (r : Req) (self : Instr) (h : Hdr) (s : State) : Out :=
  if h.course < 4 then atOut h.t (arrive r self h) s else .refused (.noSuchElement "course" h.course)

/-- OK with no payload. -/
def okReply : Option Reply := some {}

/-- OK with a payload. -/
def okData (bs : List Byte) : Option Reply := some { data := bs }

/-- Courses of a request as Table 14-1 step 3 takes them. -/
def onCourse0 : Nat := 1
def onCourse1 : Nat := 2
def onCourse2 : Nat := 4
def onCourse3 : Nat := 8

/-! ## Long requests -/

/-- A long request of opcode `op` is done: its reply, on the course that runs it. -/
def endLong (op : Nat) (r : Reply) (s : State) : State :=
  [0, 1, 2, 3].foldl (fun s n =>
    match (s.course n).long with
    | some (h, o) => if o = op then sendReply h op r true (s.modCourse n fun c => { c with long := none }) else s
    | none => s) s

/-! ## Enabling outputs -/

/-- The sequencer of a power die (R21). -/
def seqOfDie (d : Nat) : Nat := d + 4

/-- R399: whether a held die can take its enable frame: its link is back and its core is in service. -/
def enableable (s : State) (d : Nat) : Bool := (s.die d).heldSafe && !(s.die d).silent && !coreOut s (seqOfDie d)

/-- R324, R399: the enable frame to a held die. -/
def enableDie (d : Nat) (s : State) : State :=
  if enableable s d then s.modDie d fun x => { x with heldSafe := false, allOff := false, backAt := none } else s

/-- R393, R399: outputs may be driven; every held die, and what R49 and R295 brought to its safe state, is enabled again. -/
def enableOutputs (s : State) : State :=
  let s1 := s.modHost fun h => { h with outputsEnabled := true, safeLeft := false }
  let s2 := { [2, 3, 4].foldl (fun s d => enableDie d s) s1 with ventHeld := [] }
  startEmulation (s2.modLedger fun l => { l with heldSafe := [] })

/-! ## The snapshot (R401, R402, R417) -/

/-- Words of 4 bytes for elements 0 to `n` − 1. -/
def words4 (n : Nat) (f : Nat → Nat) : List Byte := (List.range n).flatMap fun k => le 4 ((f k : Nat) : Int)

/-- Open-fault entries in parts of 63, at least one part. -/
def faultParts (fs : List OpenFault) : List (List OpenFault) :=
  (List.range (max 1 (ceilDiv fs.length 63))).map fun k => (fs.drop (63 * k)).take 63

/-- Packages of which the snapshot carries SECTIONS (R417). -/
def snapshotPackages (s : State) : List Nat :=
  if s.lead then 0 :: s.cfg.package.members.filter (· != 0) else [s.cfg.package.pkgIndex]

/-- Table 14-4: the COUNTERS part. -/
def countersPart (s : State) : List Byte :=
  let fe := (s.cov.opened.bind s.fieldEntry).getD {}
  let area (p : Nat) : List Byte := (List.range 7).flatMap fun k => le 8 ((nth (tget fe.session area0 p) 0 k : Nat) : Int)
  let held := heldOf s pkgKey
  let tok := s.ledger.tokens.foldl (fun a t => if t.1 = s.cfg.package.pkgIndex then a + t.2.fixed + t.2.granted else a) 0
  le 4 ((s.cov.opened.getD 0 : Nat) : Int) ++ area 0 ++ area 1 ++ le 2 ((held : Nat) : Int) ++ le 2 (clamp 0 65535 (freeOf s pkgKey))
    ++ le 2 ((tok : Nat) : Int) ++ le 2 0

/-- Table 14-4: the parts, each with its KIND. -/
def snapshotParts (sense : Sense) (s : State) : List (Nat × List Byte) :=
  [(1, words4 128 (unitWord s sense)),
   (2, words4 24 (swWord s sense) ++ words4 16 (foWord s sense) ++ words4 32 (fiWord s sense)),
   (3, words4 128 (loopWord s))]
  ++ (snapshotPackages s).map (fun p => (4, sectionsPayload s p))
  ++ (faultParts (openSorted s)).map (fun fs => (5, fs.flatMap OpenFault.bytes))
  ++ [(6, countersPart s)]

/-- R417: the N_SNAPSHOT notifications on course 0, in order. -/
def sendSnapshot (parts : List (Nat × List Byte)) (s : State) : State :=
  parts.zipIdx.foldl (fun s p =>
    notify 0 33026 (le 2 ((p.2 + 1 : Nat) : Int) ++ le 2 ((parts.length : Nat) : Int) ++ le 1 ((p.1.1 : Nat) : Int) ++ le 3 0 ++ p.1.2) s) s

/-- R401: what carrying out a SYS_RESYNC does to the four courses; running streams end (R421, R503). -/
def resync (epoch : Nat) (s : State) : State :=
  let fresh (n : Nat) (c : Course) : Course :=
    { c with expected := if n = 0 then 1 else 0, nextDev := 0, lastAccepted := if n = 0 then 0 else 65535, cache := [], kept := [],
             pendingNotif := [] }
  let s1 := [0, 1, 2, 3].foldl (fun s n => s.modCourse n (fresh n)) (s.modHost fun h => { h with epoch := epoch })
  (s1.modRec fun r => { r with stream := none, streamRecords := [] }).modCov fun c => { c with exporting := none, exportCopy := ([], 0) }

/-- R402: the snapshot header. -/
def snapshotHeader (k : Nat) (s : State) : List Byte :=
  let id := if s.start.configActive then s.cfg.container.imageId else 0
  let ver := if s.start.configActive then s.cfg.container.version else 0
  le 4 ((id : Nat) : Int) ++ le 4 ((ver : Nat) : Int) ++ le 4 ((statusWord s : Nat) : Int)
    ++ (List.range 4).flatMap (fun n =>
      let c := s.course n
      le 4 ((c.reqWr : Nat) : Int) ++ le 4 ((c.reqRd : Nat) : Int) ++ le 4 ((c.rplWr : Nat) : Int) ++ le 4 ((c.rplRd : Nat) : Int))
    ++ le 2 ((k : Nat) : Int) ++ le 2 0

end Sys2Proof.Machine
end

