-- ==== Sys2Proof/Machine/ReqBus.lean ====
section
/-! DEFINITION. The BUS and EVT requests (Table 14-14, R437, R461, R462, R474 to R476). -/

namespace Sys2Proof.Machine

/-! ## BUS -/

/-- R437: a gateway buffer is bound; FULL, LOCK and the status bits clear, the counters stay (assumption 20). -/
def bindBuffer (ctrl buf flags id mask : Nat) (s : State) : State :=
  s.modGw ctrl buf fun g =>
    { g with enable := bitAt flags 0, filterExt := bitAt flags 1, tx := bitAt flags 2, filterId := id, filterMask := mask,
             lock := false, full := false, pending := false, transmitted := false, txFailed := false, cancelled := false,
             cancelLate := false, refused := false, shadow := none, retries := 0 }

/-- R437: a binding takes effect at the next bus idle: at once while no frame of the controller is on its way
and no earlier binding waits. -/
def requestBinding (ctrl buf flags id mask : Nat) (s : State) : State :=
  if (s.canOf ctrl).offered.isSome || !(s.canOf ctrl).binds.isEmpty then s.modCan ctrl fun c => { c with binds := c.binds ++ [(buf, flags, id, mask)] }
  else bindBuffer ctrl buf flags id mask s

/-- BUS_FILTER_SET: R437. -/
def reqBusFilterSet (ctrl buf flags id mask : Nat) : Req :=
  { op := 2049, courses := onCourse0, lenOk := exactly 12,
    judge := fun _ => firstFail [(decide (3 < ctrl) || decide (15 < buf) || decide (7 < flags) || decide (536870912 ≤ id)
      || decide (536870912 ≤ mask), resRange)],
    effect := fun s => (requestBinding ctrl buf flags id mask s, okReply) }

def execBusFilterSet (h : Hdr) (ctrl buffer flags id mask : Nat) (s : State) : Out :=
  request (reqBusFilterSet ctrl buffer flags id mask) (.busFilterSet h ctrl buffer flags id mask) h s

/-- BUS_STATUS_READ. -/
def reqBusStatusRead (ctrl : Nat) : Req :=
  { op := 2050, lenOk := exactly 4, changes := false,
    judge := fun _ => firstFail [(decide (3 < ctrl), resRange)],
    effect := fun s =>
      let c := s.canOf ctrl
      (s, okData (le 1 ((c.st : Nat) : Int) ++ le 1 ((c.addr.getD 254 : Nat) : Int) ++ le 2 0 ++ le 2 ((c.tec : Nat) : Int)
        ++ le 2 ((c.recCnt : Nat) : Int) ++ le 4 ((c.txFrames : Nat) : Int) ++ le 4 ((c.rxFrames : Nat) : Int)
        ++ le 4 ((c.errors : Nat) : Int) ++ le 4 ((c.discarded : Nat) : Int))) }

def execBusStatusRead (h : Hdr) (ctrl : Nat) (s : State) : Out := request (reqBusStatusRead ctrl) (.busStatusRead h ctrl) h s

/-- The packages heard: at the lead its present members, at a follower itself and the lead that welcomed it. -/
def heardMembers (s : State) : Nat :=
  if s.lead then s.ledger.tokens.foldl (fun a t => a + (if t.2.present then 2 ^ t.1 else 0)) 0
  else if s.follower then 2 ^ s.cfg.package.pkgIndex + bit s.zither.welcomed
  else 0

/-- Tokens of a state over all packages, at the lead only. -/
def tokenSum (s : State) (f : TokenSt → Nat) : Nat := if s.lead then s.ledger.tokens.foldl (fun a t => a + f t.2) 0 else 0

/-- BUS_SYSTEM_READ: Table 02-4, R51. -/
def reqBusSystemRead : Req :=
  { op := 2051, lenOk := exactly 0, changes := false,
    effect := fun s =>
      let p := s.cfg.package
      let own := tget s.ledger.tokens {} p.pkgIndex
      let role : Nat := if s.lead then 1 else if s.follower then 2 else 0
      (s, okData (le 1 ((role : Nat) : Int) ++ le 1 (((if p.member then p.pkgIndex else 255) : Nat) : Int)
        ++ le 1 ((heardMembers s : Nat) : Int) ++ le 1 0 ++ le 2 (((if p.member then p.tokenPool else 0) : Nat) : Int)
        ++ le 2 ((tokenSum s (·.fixed) : Nat) : Int) ++ le 2 (((if s.lead then s.ledger.tokensFree else 0) : Nat) : Int)
        ++ le 2 ((tokenSum s (·.granted) : Nat) : Int)
        ++ le 2 ((tokenSum s (fun t => t.inTransit.foldl (fun a x => a + x.2.1) 0) : Nat) : Int)
        ++ le 2 ((tokenSum s (·.escrow) : Nat) : Int) ++ le 2 (((if p.member then own.fixed + own.granted else 0) : Nat) : Int)
        ++ le 2 0)) }

def execBusSystemRead (h : Hdr) (s : State) : Out := request reqBusSystemRead (.busSystemRead h) h s

/-! ## EVT -/

/-- R461, R462, R475: a source's setting; a level source enabled from PRIORITY 0 while active asserts once. -/
def setSource (n priority target : Nat) (s : State) : State :=
  let was := s.src n
  let s1 := s.modSrc n fun x => { x with priority := priority, target := target }
  if levelSource n && was.priority = 0 && priority != 0 && was.active && !was.inService then
    assertSource n was.payload false s.devtime s1
  else s1

/-- EVT_SOURCE_SET: R461, R475. -/
def reqEvtSourceSet (n priority type target : Nat) : Req :=
  { op := 2305, courses := onCourse0, lenOk := exactly 4,
    judge := fun _ => firstFail [(decide (255 < n) || decide (15 < priority) || decide (9 < target) || type != bit (levelSource n)
      || reservedSource n, resRange)],
    effect := fun s => (setSource n priority target s, okReply) }

def execEvtSourceSet (h : Hdr) (source priority type target : Nat) (s : State) : Out :=
  request (reqEvtSourceSet source priority type target) (.evtSourceSet h source priority type target) h s

/-- EVT_TARGET_SET: R467, R470, R477. -/
def reqEvtTargetSet (t threshold count flags time : Nat) : Req :=
  { op := 2306, courses := onCourse0, lenOk := exactly 8,
    judge := fun _ => firstFail [(decide (9 < t) || decide (15 < threshold) || outside 1 255 count || decide (1 < flags)
      || decide (65535 < time), resRange)],
    effect := fun s => (s.modTgt t fun x =>
      { x with threshold := threshold, count := count, timeUs := time, wake := bitAt flags 0 }, okReply) }

def execEvtTargetSet (h : Hdr) (target threshold count flags time : Nat) (s : State) : Out :=
  request (reqEvtTargetSet target threshold count flags time) (.evtTargetSet h target threshold count flags time) h s

/-- R476: records moved to the host are written at HQ_WR in order. -/
def writeHostSlots (rs : List EvtRecord) (s : State) : State :=
  rs.foldl (fun s r => s.modEvents fun e => { e with hostSlots := tset e.hostSlots e.hqWr r, hqWr := (e.hqWr + 1) % 256 }) s

/-- R476: every unclaimed record of one target moves to the end of another's queue. -/
def reroute (a b : Nat) (s : State) : State :=
  let rs := (s.tgt a).queue.map fun r => { r with target := b }
  let s1 := (s.modTgt a fun x => { x with queue := [] }).modTgt b fun x => { x with queue := x.queue ++ rs }
  let s2 := if a = 9 then s1.modEvents fun e => { e with hqWr := e.hqRd } else s1
  if b = 9 then writeHostSlots rs s2 else s2

/-- EVT_REROUTE: R476. -/
def reqEvtReroute (a b : Nat) : Req :=
  { op := 2307, courses := onCourse0, lenOk := exactly 4,
    judge := fun s => firstFail [(decide (9 < a) || decide (9 < b) || a == b, resRange),
      (decide (queueSize b < (s.tgt b).queue.length + (s.tgt a).queue.length), resBusy)],
    effect := fun s => (reroute a b s, okReply) }

def execEvtReroute (h : Hdr) (src dst : Nat) (s : State) : Out := request (reqEvtReroute src dst) (.evtReroute h src dst) h s

/-- EVT_COUNTERS_READ: Table 16-4. -/
def reqEvtCountersRead (first count : Nat) : Req :=
  { op := 2308, lenOk := exactly 4, changes := false,
    judge := fun _ => firstFail [(outside 1 60 count || decide (256 < first + count), resRange)],
    effect := fun s =>
      let entry (n : Nat) : List Byte :=
        let x := s.src n
        le 4 ((x.delivered : Nat) : Int) ++ le 4 ((x.lost : Nat) : Int) ++ le 4 ((x.vanished : Nat) : Int)
          ++ le 2 ((x.delivered : Nat) : Int) ++ le 2 0
      (s, okData ((upFrom first count).flatMap entry ++ words4 10 (fun t => (s.tgt t).dropped))) }

def execEvtCountersRead (h : Hdr) (first count : Nat) (s : State) : Out :=
  request (reqEvtCountersRead first count) (.evtCountersRead h first count) h s

end Sys2Proof.Machine
end

