-- ==== Sys2Proof/Machine/ReqCfg.lean ====
section
/-! DEFINITION. The CFG requests (Table 14-5, R371, R373, R418, R419) and the end of an activation. -/

namespace Sys2Proof.Machine

/-- The partition of a configuration slot (Table 17-8). -/
def cfgPartition (k : Nat) : Nat := 3 + k

/-- Largest configuration image, 8 MiB, and largest firmware image, 16 MiB (R418, Table 14-16). -/
def cfgMax : Nat := 8388608

/-- CFG_BEGIN: R418. -/
def reqCfgBegin (size : Nat) : Req :=
  { op := 513, courses := onCourse3, lenOk := exactly 4,
    judge := fun s => firstFail [(outside 192 cfgMax size, resRange), (s.start.activating.isSome, resBadState)],
    effect := fun s =>
      let k := otherSlot s
      if partitionStopped s (cfgPartition k) then (s, refuse resStorage)
      else (setCfgSlot k { st := 1 } (s.modStore fun x => { x with staging := some (size, []) }), okReply) }

def execCfgBegin (h : Hdr) (size : Nat) (s : State) : Out := request (reqCfgBegin size) (.cfgBegin h size) h s

/-- R418: whether a staging write keeps the rules, `done` bytes of `size` being staged. -/
def stageOk (size done offset len : Nat) : Bool :=
  offset == done && decide (done + len ≤ size) && (len % 4 == 0 || done + len == size)

/-- CFG_WRITE: R418. -/
def reqCfgWrite (offset : Nat) (data : List Byte) : Req :=
  { op := 514, courses := onCourse3, lenOk := between' 5 1024,
    judge := fun s => match s.storage.staging with
      | none => refuse resBadState
      | some (size, done) => firstFail [(!stageOk size done.length offset data.length, resRange)],
    effect := fun s =>
      if partitionStopped s (cfgPartition (otherSlot s)) then (s, refuse resStorage)
      else (s.modStore fun x => { x with staging := x.staging.map fun p => (p.1, p.2 ++ data) }, okReply) }

def execCfgWrite (h : Hdr) (offset : Nat) (data : List Byte) (s : State) : Out :=
  request (reqCfgWrite offset data) (.cfgWrite h offset data) h s

/-- Staging is complete (R418). -/
def staged (s : State) : Bool :=
  match s.storage.staging with
  | some (size, done) => done.length == size
  | none => false

/-- The image that is staged: `img` holds its sections decoded (assumption 2), its container is read from the staged bytes. -/
def stagedImage (img : Image) (s : State) : Image := imageOf ((s.storage.staging.map (·.2)).getD []) img

/-- CFG_VERIFY: R419. Long: CFG_VERIFY_DONE replies. -/
def reqCfgVerify (img : Image) : Req :=
  { op := 515, courses := onCourse3, lenOk := exactly 0,
    judge := fun s => firstFail [(!staged s, resBadState)],
    effect := fun s => (s.modStore fun x => { x with verifying := some (stagedImage img s) }, none) }

def execCfgVerify (h : Hdr) (img : Image) (s : State) : Out := request (reqCfgVerify img) (.cfgVerify h img) h s

/-- Whether an activation may take place now (R373). -/
def commitAllowed (s : State) : Bool :=
  allOff s && s.units.all (fun p => !p.2.frets.any Fret.live) && (s.cfg.loops.all fun p => (s.loop p.1).mode == LoopMode.off)
    && s.cov.opened.isNone && s.odo.standstill && s.limp.isNone

/-- The image that CFG_COMMIT names: the staged one, or the one of the other slot. -/
def commitImg (slot : Nat) (img : Image) (s : State) : Option Image :=
  if slot = 0 then (if staged s then some (stagedImage img s) else none)
  else if (cfgSlot s (otherSlot s)).st = 2 then (cfgSlot s (otherSlot s)).image else none

/-- CFG_COMMIT: R373, R419. Long: CONFIGURATION_ACTIVATION_DONE replies; CONFIG_ACTIVE is clear meanwhile. -/
def reqCfgCommit (slot : Nat) (img : Image) : Req :=
  { op := 516, courses := onCourse0 + onCourse3, lenOk := exactly 4,
    judge := fun s => firstFail [(decide (1 < slot), resRange), ((commitImg slot img s).isNone || !commitAllowed s, resBadState)],
    effect := fun s => match commitImg slot img s with
      | none => (s, refuse resBadState)
      | some i => match checkImage s i with
        | some f => (s, some f.reply)
        | none =>
          (s.modStart fun x => { x with activating := some (i, otherSlot s), configActive := false }, none) }

def execCfgCommit (h : Hdr) (slot : Nat) (img : Image) (s : State) : Out :=
  request (reqCfgCommit slot img) (.cfgCommit h slot img) h s

/-- R373: the activation ends: the image is the active slot's, charges of the old modes are released, and CFG_COMMIT replies. -/
def finishActivation (s : State) : State :=
  match s.start.activating with
  | none => s
  | some (img, k) =>
    let s1 := (upFrom 0 128).foldl (fun s u => releaseBase u s) s
    let s2 := match s1.storage.staging with
      | some (size, bytes) =>
        setCfgSlot k { st := 2, image := some img, bytes := bytes, size := size } (s1.modStore fun x => { x with staging := none })
      | none => s1
    endLong 516 {} (requestModes (activate img k false s2))

def execConfigurationActivationDone (t : Nat) (s : State) : Out := at_ t finishActivation s

/-- The slot that CFG_READ names: 0 active, 1 other. -/
def readSlot (s : State) (slot : Nat) : CfgSlot :=
  if slot = 0 then (if s.storage.activeCfg = 255 then {} else cfgSlot s s.storage.activeCfg) else cfgSlot s (otherSlot s)

/-- CFG_READ. -/
def reqCfgRead (slot offset count : Nat) : Req :=
  { op := 517, courses := onCourse2 + onCourse3, lenOk := exactly 12, changes := false,
    judge := fun s => firstFail [(decide (1 < slot) || outside 4 1020 count || decide ((readSlot s slot).size < offset + count), resRange)],
    effect := fun s => (s, okData (padTo count ((readSlot s slot).bytes.drop offset))) }

def execCfgRead (h : Hdr) (slot offset count : Nat) (s : State) : Out :=
  request (reqCfgRead slot offset count) (.cfgRead h slot offset count) h s

/-- One entry of CFG_INFO: STATE 3 is a stored image that fails its checks now. -/
def cfgEntry (s : State) (k : Nat) : List Byte :=
  let c := cfgSlot s k
  let st := match c.image with
    | some i => if c.st == 2 && (checkImage s i).isSome then 3 else c.st
    | none => c.st
  let i := c.image.getD {}
  let id := if c.image.isSome then i.container.imageId else 0
  let ver := if c.image.isSome then i.container.version else 0
  le 1 ((st : Nat) : Int) ++ le 1 ((bit (s.storage.activeCfg == k) : Nat) : Int) ++ le 2 0 ++ le 4 ((id : Nat) : Int)
    ++ le 4 ((ver : Nat) : Int) ++ le 4 ((c.size : Nat) : Int)

/-- CFG_INFO: slot A first. -/
def reqCfgInfo : Req :=
  { op := 518, lenOk := exactly 0, changes := false, effect := fun s => (s, okData (cfgEntry s 0 ++ cfgEntry s 1)) }

def execCfgInfo (h : Hdr) (s : State) : Out := request reqCfgInfo (.cfgInfo h) h s

end Sys2Proof.Machine
end

