-- ==== Sys2Proof/Machine/ReqNav.lean ====
section
/-! DEFINITION. The NAV requests (Table 14-6, R73, R77, R88, R102). -/

namespace Sys2Proof.Machine

/-- In DOZE a request that needs position is refused (R332). -/
def dozing (s : State) : Bool := s.power.state == PowerState.doze

/-- R88: the rates of N_POS. -/
def posRates : List Nat := [0, 1, 5, 10, 20, 50, 100]

/-- NAV_SUBSCRIBE: R88. -/
def reqNavSubscribe (rate rtk : Nat) : Req :=
  { op := 769, courses := onCourse1, lenOk := exactly 4,
    judge := fun s => firstFail [(!posRates.contains rate || decide (1 < rtk), resRange), (dozing s, resBadState)],
    effect := fun s => (s.modNav fun n => { n with posRate := rate, rtk := rtk == 1 }, okReply) }

def execNavSubscribe (h : Hdr) (rate rtk : Nat) (s : State) : Out := request (reqNavSubscribe rate rtk) (.navSubscribe h rate rtk) h s

/-- NAV_NAVBITS_SELECT: R73; CONST has five values and there are two antennas. -/
def reqNavNavbitsSelect (constMask antMask : Nat) : Req :=
  { op := 770, courses := onCourse1, lenOk := exactly 4,
    judge := fun s => firstFail [(decide (31 < constMask) || decide (3 < antMask), resRange), (dozing s, resBadState)],
    effect := fun s => (s.modNav fun n => { n with bitsConst := constMask, bitsAnt := antMask }, okReply) }

def execNavNavbitsSelect (h : Hdr) (constMask antMask : Nat) (s : State) : Out :=
  request (reqNavNavbitsSelect constMask antMask) (.navNavbitsSelect h constMask antMask) h s

/-- NAV_RTCM: R77. Bytes of the configured source wait for their frame; others count as RTCM_WRONG_SOURCE. -/
def reqNavRtcm (data : List Byte) : Req :=
  { op := 771, courses := onCourse0 + onCourse1, lenOk := between' 1 1024,
    effect := fun s =>
      if s.cfg.nav.rtcmUart0 then
        (s.modNav fun n => { n with rtcmWrongSource := (n.rtcmWrongSource + data.length) % 4294967296 }, some { detail := 1 })
      else (s.modNav fun n => { n with rtcmStream := n.rtcmStream ++ data }, okReply) }

def execNavRtcm (h : Hdr) (data : List Byte) (s : State) : Out := request (reqNavRtcm data) (.navRtcm h data) h s

/-- NAV_STATUS_READ: J and TRACKED per antenna and band; OSNMA says that the policy is REQUIRE. -/
def reqNavStatusRead : Req :=
  { op := 772, lenOk := exactly 0, changes := false,
    effect := fun s =>
      let n := s.nav
      (s, okData (le 1 ((n.fix : Nat) : Int) ++ le 1 ((n.nsv : Nat) : Int) ++ le 1 ((bit s.cfg.nav.osnmaRequire : Nat) : Int) ++ le 1 0
        ++ (List.range 4).flatMap (fun k => le 1 ((tget n.jam 0 k : Nat) : Int))
        ++ (List.range 4).flatMap (fun k => le 1 ((nth n.trackedBand 0 k : Nat) : Int))
        ++ le 4 ((n.rtcmCrc : Nat) : Int) ++ le 4 ((n.rtcmIgnored : Nat) : Int) ++ le 4 ((n.rtcmWrongSource : Nat) : Int))) }

def execNavStatusRead (h : Hdr) (s : State) : Out := request reqNavStatusRead (.navStatusRead h) h s

/-- NAV_RETENTION_CLEAR: the next start is cold (R103). -/
def reqNavRetentionClear (key : Nat) : Req :=
  { op := 773, courses := onCourse0, lenOk := exactly 4,
    judge := fun _ => firstFail [(key != 2520819109, resRange)],
    effect := fun s => (s.modNav fun n => { n with retention := none }, okReply) }

def execNavRetentionClear (h : Hdr) (key : Nat) (s : State) : Out := request (reqNavRetentionClear key) (.navRetentionClear h key) h s

end Sys2Proof.Machine
end

