-- ==== Sys2Proof/Machine/ReqCov.lean ====
section
/-! DEFINITION. The COV requests (Table 14-8, R141, R142, R159, R166, R175 to R178, R420, R421) with the ends of their long work and
the export stream. -/

namespace Sys2Proof.Machine

/-- Partition of the Tephra map (Table 17-8). -/
def tephraPartition : Nat := 7

/-- Whether the map can be written (R367, R502). -/
def mapClosed (s : State) : Bool := s.cov.unreadable || partitionStopped s tephraPartition

/-! ## Fields -/

/-- R142: a section unit whose set W or DEPTH is below 100 mm. -/
def narrowSection (s : State) : Bool :=
  s.sectionUnits.any fun u => (s.secOf u).any fun x => x.wMm.any (fun w => decide (w < 100)) || x.depthMm.any fun d => decide (d < 100)

/-- R141, R142: the field's scan begins, its entry created where it is new; without RESUME its session counters start at zero. -/
def beginField (fid : Nat) (lat lon height : Int) (cell : Nat) (resume : Bool) (s : State) : State :=
  let s1 := match s.fieldEntry fid with
    | some _ => s
    | none =>
      let e : FieldEntry := { fieldId := fid, lat := lat, lon := lon, height := height, cell := cell }
      s.modCov fun c => { c with fields := c.fields ++ [e] }
  let s2 := if resume then s1 else s1.modField fid fun e => { e with session := [], units := [], pageMiss := 0 }
  s2.modCov fun c => { c with scanning := some fid, scanResume := resume }

/-- R142: why a field cannot be opened: other origin or cell size, or no entry left. -/
def fieldRefusal (fid : Nat) (lat lon height : Int) (cell : Nat) (s : State) : Option Nat :=
  if mapClosed s then some resStorage
  else match s.fieldEntry fid with
    | some e => if e.lat = lat && e.lon = lon && e.height = height && e.cell = cell then none else some resMismatch
    | none => if 256 ≤ s.cov.fields.length then some resStorage else none

/-- COV_FIELD_OPEN: R141 to R143. Long: FIELD_OPEN_SCAN_DONE replies. -/
def reqCovFieldOpen (fid : Nat) (lat lon height : Int) (cell flags : Nat) : Req :=
  { op := 1025, courses := onCourse0, lenOk := exactly 28,
    judge := fun s => firstFail [(fid == 0 || !(cell == 50 || cell == 100) || decide (1 < flags) || (cell == 100 && narrowSection s), resRange),
      (s.cov.opened.isSome || s.cov.scanning.isSome || dozing s, resBadState)],
    effect := fun s => match fieldRefusal fid lat lon height cell s with
      | some r => (s, refuse r)
      | none => (beginField fid lat lon height cell (flags == 1) s, none) }

def execCovFieldOpen (h : Hdr) (fieldId : Nat) (lat lon height : Int) (cell flags : Nat) (s : State) : Out :=
  request (reqCovFieldOpen fieldId lat lon height cell flags) (.covFieldOpen h fieldId lat lon height cell flags) h s

/-- R149, R177: the scan is done: the field is open, its session record begins (R490), and COV_FIELD_OPEN replies. -/
def openScanned (s : State) : State :=
  match s.cov.scanning with
  | none => s
  | some fid =>
    let s1 := s.modCov fun c =>
      { c with opened := some fid, scanning := none, closingAt := none, miss := [], polyStage := none, strokeCells := [],
               tiles := c.tiles.map fun t => { t with cached := false } }
    endLong 1025 {} (edge 65 0 0 (openSession fid s.cov.scanResume s1))

def execFieldOpenScanDone (t : Nat) (s : State) : Out := at_ t openScanned s

/-- R177 step 1: the section units that a close commands off. -/
def closeUnits (s : State) : List Nat := s.sectionUnits.filter fun u => decide ((s.unit u).sect.hostMode ≤ 1)

/-- COV_FIELD_CLOSE: R177. Long: FIELD_CLOSE_DONE replies. -/
def reqCovFieldClose : Req :=
  { op := 1026, courses := onCourse0, lenOk := exactly 0,
    judge := fun s => firstFail [(s.cov.opened.isNone || s.cov.closingAt.isSome, resBadState)],
    effect := fun s =>
      ((closeUnits s).foldl (fun s u => immediate u false s) (s.modCov fun c => { c with closingAt := some s.devtime }), none) }

def execCovFieldClose (h : Hdr) (s : State) : Out := request reqCovFieldClose (.covFieldClose h) h s

/-- R177 step 2: the strokes of the units commanded off are written, or 1 s has passed. -/
def closeDue (s : State) : Bool :=
  match s.cov.closingAt with
  | none => false
  | some t => decide (t + 1000000 ≤ s.devtime) || ((closeUnits s).all fun u =>
    (s.unit u).sect.strokes.isEmpty && !s.cov.miss.any fun r => r.unit == u)

def execFieldCloseDone (t : Nat) (s : State) : Out :=
  at_ t (fun s => if closeDue s then endLong 1026 {} (finishClose s) else s) s

/-- COV_FIELD_RESET: R176. -/
def reqCovFieldReset (fid : Nat) : Req :=
  { op := 1027, courses := onCourse0, lenOk := exactly 4,
    judge := fun s => firstFail [(s.cov.opened != some fid, resRange),
      (s.sectionUnits.any fun u => (s.unit u).sect.commanded, resBadState)],
    effect := fun s =>
      (edge 65 0 2 (s.modField fid fun e => { e with coverEpoch := (e.coverEpoch + 1) % 4294967296, lifetime := [] }), okReply) }

def execCovFieldReset (h : Hdr) (fieldId : Nat) (s : State) : Out := request (reqCovFieldReset fieldId) (.covFieldReset h fieldId) h s

/-- A deleted field leaves with its tiles, their cells and its polygons. -/
def deleteField (fid : Nat) (s : State) : State :=
  let gone := s.cov.tiles.filter fun t => t.fieldId == fid
  s.modCov fun c =>
    { c with fields := c.fields.filter (fun e => e.fieldId != fid), tiles := c.tiles.filter (fun t => t.fieldId != fid),
             cells := gone.foldl (fun m t => Memory.clear m (t.slot * 65536) ((t.slot + 1) * 65536)) c.cells }

/-- COV_FIELD_DELETE. -/
def reqCovFieldDelete (fid : Nat) : Req :=
  { op := 1028, courses := onCourse0, lenOk := exactly 4,
    judge := fun s => firstFail [((s.fieldEntry fid).isNone, resRange),
      (s.cov.opened == some fid || s.cov.scanning == some fid, resBadState)],
    effect := fun s => if mapClosed s then (s, refuse resStorage) else (deleteField fid s, okReply) }

def execCovFieldDelete (h : Hdr) (fieldId : Nat) (s : State) : Out := request (reqCovFieldDelete fieldId) (.covFieldDelete h fieldId) h s

/-! ## Polygons -/

/-- The largest polygon set (Table 14-7). -/
def polyMax : Nat := 66568

/-- R420, R418: whether a polygon write keeps the rules. -/
def polyStageOk (done : Option (List Byte)) (offset len : Nat) : Bool :=
  decide (offset + len ≤ polyMax) && (offset == 0 || match done with
    | some d => offset == d.length && offset % 4 == 0
    | none => true)

/-- COV_POLY_LOAD: R420. -/
def reqCovPolyLoad (offset : Nat) (data : List Byte) : Req :=
  { op := 1029, courses := onCourse0 + onCourse2, lenOk := between' 8 1024,
    judge := fun s => firstFail [(!polyStageOk s.cov.polyStage offset data.length, resRange),
      (s.cov.opened.isNone || (offset != 0 && s.cov.polyStage.isNone), resBadState)],
    effect := fun s =>
      (s.modCov fun c => { c with polyStage := some (if offset = 0 then data else c.polyStage.getD [] ++ data) }, okReply) }

def execCovPolyLoad (h : Hdr) (offset : Nat) (data : List Byte) (s : State) : Out :=
  request (reqCovPolyLoad offset data) (.covPolyLoad h offset data) h s

/-- `n` vertices of 8 bytes and the bytes behind them. -/
def readVerts : Nat → List Byte → List (Int × Int) × List Byte
  | 0, bs => ([], bs)
  | n + 1, bs =>
    let r := readVerts n (bs.drop 8)
    ((leInt (bs.take 4), leInt ((bs.drop 4).take 4)) :: r.1, r.2)

/-- `n` rings of Table 14-7, none where one breaks a rule of R420. -/
def readRings : Nat → List Byte → Option (List Ring × List Byte)
  | 0, bs => some ([], bs)
  | n + 1, bs =>
    let kind := leNat (bs.take 1)
    let nv := leNat ((bs.drop 2).take 2)
    if bs.length < 4 + 8 * nv || 3 < kind || nv < 3 || leNat ((bs.drop 1).take 1) ≠ 0 then none
    else
      let v := readVerts nv (bs.drop 4)
      (readRings n v.2).map fun r => ({ kind := kind, verts := v.1 } :: r.1, r.2)

/-- R420: the polygon set that an image spells, if it keeps the rules. -/
def readPolys (bs : List Byte) : Option (List Ring) :=
  let n := leNat (bs.take 2)
  let v := leNat ((bs.drop 2).take 2)
  if bs.length < 8 || 256 < n || 8192 < v || leNat ((bs.drop 4).take 4) ≠ 0 then none
  else match readRings n (bs.drop 8) with
    | some (rs, []) => if rs.foldl (fun a r => a + r.verts.length) 0 = v then some rs else none
    | _ => none

/-- R159: a new polygon set is current; sets that no tile needs any more leave. -/
def commitPolys (fid : Nat) (rings : List Ring) (s : State) : State :=
  let used := (s.cov.tiles.filter fun t => t.fieldId == fid).map (·.polyGen)
  (s.modField fid fun e =>
    { e with polyGen := e.polyGen + 1,
             polys := (e.polyGen + 1, rings) :: e.polys.filter fun p => used.contains p.1 }).modCov fun c => { c with polyStage := none }

/-- COV_POLY_COMMIT: R420, R159. -/
def reqCovPolyCommit (size crc : Nat) : Req :=
  { op := 1030, courses := onCourse0, lenOk := exactly 8,
    judge := fun s => firstFail [((s.cov.polyStage.any fun d => d.length != size), resRange),
      (s.cov.opened.isNone || s.cov.polyStage.isNone, resBadState)],
    effect := fun s => match s.cov.opened, s.cov.polyStage with
      | some fid, some d =>
        if (crc32c d).toNat ≠ crc then (s, refuse resBadCrc)
        else match readPolys d with
          | none => (s, refuse resRange)
          | some rings => if mapClosed s then (s, refuse resStorage) else (commitPolys fid rings s, okReply)
      | _, _ => (s, refuse resBadState) }

def execCovPolyCommit (h : Hdr) (size crc : Nat) (s : State) : Out := request (reqCovPolyCommit size crc) (.covPolyCommit h size crc) h s

/-- R159: one cached tile has taken its field's polygon set and takes the writes that wait for it (R146); the last of them is reported
(source 65). -/
def rasterised (tc tr : Int) (s : State) : State :=
  match s.cov.opened.bind s.fieldEntry with
  | none => s
  | some fe => match tileAt s fe.fieldId tc tr with
    | none => s
    | some t =>
      if !t.cached || t.polyGen = fe.polyGen then s
      else
        let s1 := drainMiss fe tc tr (rerasterise fe tc tr s)
        if s1.cov.tiles.any fun x => x.fieldId == fe.fieldId && x.cached && x.polyGen != fe.polyGen then s1
        else edge 65 0 3 s1

def execRerasterisationDone (t : Nat) (tcol trow : Int) (s : State) : Out := at_ t (rasterised tcol trow) s

/-! ## Masters and modes -/

/-- COV_MASTER: gate 3 of Table 05-9; it ends the master that the AUTONOMOUS policy has set (R397). -/
def reqCovMaster (mask st : Nat) : Req :=
  { op := 1031, courses := onCourse0, lenOk := exactly 4,
    judge := fun _ => firstFail [(decide (3 < mask) || decide (1 < st), resRange)],
    effect := fun s =>
      (s.modHost fun h =>
        { h with masterAuto := false,
                 master := [0, 1].foldl (fun t p =>
                   if bitAt mask p then tset t p (st == 1) else if h.masterAuto then tset t p true else t) h.master }, okReply) }

def execCovMaster (h : Hdr) (mask st : Nat) (s : State) : Out := request (reqCovMaster mask st) (.covMaster h mask st) h s

/-- COV_SECTION_MODE: R166; unit 0xFFFF names every section unit. -/
def reqCovSectionMode (unit mode : Nat) : Req :=
  { op := 1032, courses := onCourse0, lenOk := exactly 4,
    judge := fun s => firstFail [(decide (3 < mode) || (unit != 65535 && !s.sectionUnits.contains unit), resRange)],
    effect := fun s =>
      ((s.sectionUnits.filter fun u => unit == 65535 || u == unit).foldl
        (fun s u => s.modSect u fun x => { x with hostMode := mode }) s, okReply) }

def execCovSectionMode (h : Hdr) (unit mode : Nat) (s : State) : Out :=
  request (reqCovSectionMode unit mode) (.covSectionMode h unit mode) h s

/-! ## Export (R178, R421) -/

/-- The field's tiles that an export sends, by TROW, then TCOL. -/
def exportTiles (fid flags : Nat) (cLo cHi rLo rHi : Int) (s : State) : List (Int × Int) :=
  let mine := s.cov.tiles.filter fun t => t.fieldId == fid
    && (flags == 0 || (decide (cLo ≤ t.tcol) && decide (t.tcol ≤ cHi) && decide (rLo ≤ t.trow) && decide (t.trow ≤ rHi)))
  (sortBy (fun (a b : Tile) => decide (a.trow < b.trow) || (a.trow == b.trow && decide (a.tcol < b.tcol))) mine).map
    fun t => (t.tcol, t.trow)

/-- COV_EXPORT: R178, R421. -/
def reqCovExport (fid flags : Nat) (cLo cHi rLo rHi : Int) : Req :=
  { op := 1033, courses := onCourse2, lenOk := exactly 16, changes := false,
    judge := fun s => firstFail [((s.fieldEntry fid).isNone || decide (1 < flags), resRange), (s.cov.exporting.isSome, resBusy)],
    effect := fun s =>
      if s.cov.unreadable then (s, refuse resStorage)
      else (s.modCov fun c => { c with exporting := some (fid, exportTiles fid flags cLo cHi rLo rHi s, 0, 0) }, okReply) }

def execCovExport (h : Hdr) (fieldId flags : Nat) (tcLo tcHi trLo trHi : Int) (s : State) : Out :=
  request (reqCovExport fieldId flags tcLo tcHi trLo trHi) (.covExport h fieldId flags tcLo tcHi trLo trHi) h s

/-- The copy of a tile that its chunks are taken from, loaded as any tile is (R176, R159). -/
def copyTile (fe : FieldEntry) (t : Tile) (s : State) : List Host.Cell :=
  let fresh := t.coverEpoch == fe.coverEpoch
  let rings := ringsOf fe fe.polyGen
  (List.range 65536).filterMap fun o =>
    let i := t.tcol * 256 + (o % 256 : Nat)
    let j := t.trow * 256 + (o / 256 : Nat)
    let b := (if fresh then (Memory.read s.cov.cells (t.slot * 65536 + o)).toNat else 0) + rasterBits rings fe.cell i j
    if b = 0 then none else some (o, BitVec.ofNat 8 b)

/-- The counters that end an export: session and lifetime of product A, then of B. -/
def exportEnd (fid tiles : Nat) (s : State) : List Byte :=
  let fe := (s.fieldEntry fid).getD {}
  let area (a : Area) : List Byte := (List.range 7).flatMap fun k => le 8 ((nth a 0 k : Nat) : Int)
  le 4 ((fid : Nat) : Int) ++ le 4 ((tiles : Nat) : Int)
    ++ [0, 1].flatMap fun p => area (tget fe.session area0 p) ++ area (tget fe.lifetime area0 p)

/-- The device writes a message of a stream on course 2, outside the pending list (R421). -/
def streamMsg (op : Nat) (payload : List Byte) (s : State) : State := putMsg 2 op 0 payload s

/-- One chunk of the running export, whose copy holds every commit made so far (Table 05-13 WRITE_GEN), when the course 2 ring has room for it; after the last, N_EXPORT_END. -/
def exportChunk (s : State) : State :=
  match s.cov.exporting with
  | none => s
  | some (fid, [], _, sent) =>
    let bs := exportEnd fid sent s
    if hasRoom s 2 bs.length (keptFree s 2) then
      streamMsg 33795 bs (s.modCov fun c => { c with exporting := none, exportCopy := ([], 0) })
    else s
  | some (fid, (tc, tr) :: rest, k, sent) =>
    if !hasRoom s 2 528 (keptFree s 2) then s
    else match s.fieldEntry fid, tileAt s fid tc tr with
      | some fe, some t =>
        let copy := if k = 0 then (copyTile fe t s, s.recorder.commitNo) else s.cov.exportCopy
        let cells := (upFrom (512 * k) 512).map fun o => Memory.read copy.1 o
        let head := le 4 ((fid : Nat) : Int) ++ le 2 tc ++ le 2 tr ++ le 4 ((copy.2 : Nat) : Int) ++ le 1 ((k : Nat) : Int) ++ le 3 0
        streamMsg 33794 (head ++ cells) (s.modCov fun c =>
          { c with exporting := some (if k = 127 then (fid, rest, 0, sent + 1) else (fid, (tc, tr) :: rest, k + 1, sent)),
                   exportCopy := copy })
      | _, _ => s.modCov fun c => { c with exporting := some (fid, rest, 0, sent) }

def execNExportChunk (t : Nat) (s : State) : Out := at_ t exportChunk s

/-! ## Reads -/

/-- COV_RECONCILE: R175. -/
def reqCovReconcile : Req :=
  { op := 1034, courses := onCourse0, lenOk := exactly 0,
    judge := fun s => firstFail [(s.cov.opened.isNone, resBadState)],
    effect := fun s => match s.cov.opened.bind s.fieldEntry with
      | none => (s, refuse resBadState)
      | some fe =>
        let a := coveredArea s fe 0
        let b := coveredArea s fe 1
        (reconcile fe s, okData (le 8 ((a.1 : Nat) : Int) ++ le 8 ((a.2 : Nat) : Int) ++ le 8 ((b.1 : Nat) : Int) ++ le 8 ((b.2 : Nat) : Int))) }

def execCovReconcile (h : Hdr) (s : State) : Out := request reqCovReconcile (.covReconcile h) h s

/-- The seven counters that COV_COUNTERS_READ names; 0 with no field open. -/
def countersOf (s : State) (scope product unit : Nat) : Area :=
  let fe := (s.cov.opened.bind s.fieldEntry).getD {}
  match scope with
  | 0 => tget fe.session area0 product
  | 1 => tget fe.lifetime area0 product
  | _ => if (s.secOf unit).any (fun x => x.product == product) then tget fe.units area0 unit else area0

/-- COV_COUNTERS_READ: R174, Table 05-12. -/
def reqCovCountersRead (scope product unit : Nat) : Req :=
  { op := 1035, lenOk := exactly 4, changes := false,
    judge := fun s => firstFail [(decide (2 < scope) || decide (1 < product) || (scope == 2 && !s.sectionUnits.contains unit), resRange)],
    effect := fun s =>
      (s, okData ((List.range 7).flatMap (fun k => le 8 ((nth (countersOf s scope product unit) 0 k : Nat) : Int))
        ++ le 4 ((((s.cov.opened.bind s.fieldEntry).map (·.pageMiss)).getD 0 : Nat) : Int))) }

def execCovCountersRead (h : Hdr) (scope product unit : Nat) (s : State) : Out :=
  request (reqCovCountersRead scope product unit) (.covCountersRead h scope product unit) h s

end Sys2Proof.Machine
end

