-- ==== Sys2Proof/Machine/ReqLoop.lean ====
section
/-! DEFINITION. The LOOP requests (Table 14-10, R264 to R268, R273, R276, R277) and N_LOOP. -/

namespace Sys2Proof.Machine

/-- A loop that a request names and the configuration does not have. -/
def noLoop (s : State) (l : Nat) : Bool := decide (127 < l) || (tfind s.cfg.loops l).isNone

/-- Table 08-4: the mode that a MODE field names. -/
def loopModeOf (m : Nat) : LoopMode :=
  match m with
  | 0 => .off
  | 1 => .manual
  | 2 => .auto
  | _ => .hold

/-- R264, R265: the mode to take effect at the next sample, with the manual output given or the last one applied. -/
def askMode (l mode flags : Nat) (manual : Int) (s : State) : State :=
  s.modLoop l fun x =>
    { x with newMode := some (loopModeOf mode),
             manual := if mode = 1 then (if bitAt flags 0 then manual else x.u) else x.manual }

/-- LOOP_MODE: R264 to R266, R276. -/
def reqLoopMode (l mode flags : Nat) (manual : Int) : Req :=
  { op := 1537, courses := onCourse0, lenOk := exactly 8,
    judge := fun s => firstFail [(noLoop s l || decide (3 < mode) || decide (1 < flags) || (bitAt flags 0 && mode != 1), resRange),
      ((s.loop l).deviceHold && decide (2 ≤ mode), resLocked)],
    effect := fun s => (askMode l mode flags manual s, okReply) }

def execLoopMode (h : Hdr) (loop mode flags : Nat) (manual : Int) (s : State) : Out :=
  request (reqLoopMode loop mode flags manual) (.loopMode h loop mode flags manual) h s

/-- LOOP_MANUAL: R265. -/
def reqLoopManual (l : Nat) (v : Int) : Req :=
  { op := 1538, courses := onCourse0 + onCourse1, lenOk := exactly 8,
    judge := fun s => firstFail [(noLoop s l, resRange), ((s.loop l).mode != LoopMode.manual, resBadState)],
    effect := fun s => (s.modLoop l fun x => { x with manual := v }, okReply) }

def execLoopManual (h : Hdr) (loop : Nat) (value : Int) (s : State) : Out :=
  request (reqLoopManual loop value) (.loopManual h loop value) h s

/-- Whether a loop trims the duty stage (R276). -/
def trimming (s : State) (l : Nat) : Bool :=
  match (s.loopCfg l).out with
  | .dutyTrim _ => true
  | .none | .prop _ | .duty _ | .swPwm _ | .canSp .. => false

/-- LOOP_SETPOINT: R267, R276. -/
def reqLoopSetpoint (l : Nat) (sp : Int) : Req :=
  { op := 1539, courses := onCourse0 + onCourse1, lenOk := exactly 8,
    judge := fun s => firstFail [(noLoop s l, resRange), (trimming s l, resLocked)],
    effect := fun s => (s.modLoop l fun x => { x with sp := sp }, okReply) }

def execLoopSetpoint (h : Hdr) (loop : Nat) (sp : Int) (s : State) : Out :=
  request (reqLoopSetpoint loop sp) (.loopSetpoint h loop sp) h s

/-- R268, R261: whether a write keeps every range, judged on the values that will be in force; OUT_HI of a PROP loop is not raised. -/
def writeOk (s : State) (l code : Nat) (v : Int) : Bool :=
  let ahead := paramsAhead (s.loop l)
  match setParam code v ahead with
  | none => false
  | some p => paramsOk (outputRange s (s.loopCfg l).out) p && match (s.loopCfg l).out with
      | .prop _ => decide (p.outHi ≤ ahead.outHi)
      | .none | .duty _ | .swPwm _ | .canSp .. | .dutyTrim _ => true

/-- R268: a write waits for its sample; in OFF it takes effect at once. -/
def queueWrite (l code : Nat) (v : Int) (s : State) : State :=
  s.modLoop l fun x =>
    if x.mode == LoopMode.off then x.write code v s.devtime else { x with writes := x.writes ++ [(code, v)] }

/-- LOOP_COEF_WRITE: R268, Table 14-11. -/
def reqLoopCoefWrite (l code : Nat) (v : Int) : Req :=
  { op := 1540, courses := onCourse0, lenOk := exactly 8,
    judge := fun s => firstFail [(noLoop s l || !writeOk s l code v, resRange), (decide (16 ≤ (s.loop l).writes.length), resBusy)],
    effect := fun s => (queueWrite l code v s, okReply) }

def execLoopCoefWrite (h : Hdr) (loop param : Nat) (value : Int) (s : State) : Out :=
  request (reqLoopCoefWrite loop param value) (.loopCoefWrite h loop param value) h s

/-- LOOP_STATUS_READ: R277. -/
def reqLoopStatusRead (first count : Nat) : Req :=
  { op := 1541, lenOk := exactly 4, changes := false,
    judge := fun _ => firstFail [(outside 1 31 count || decide (128 < first + count), resRange)],
    effect := fun s => (s, okData ((upFrom first count).flatMap (loopEntry s))) }

def execLoopStatusRead (h : Hdr) (first count : Nat) (s : State) : Out :=
  request (reqLoopStatusRead first count) (.loopStatusRead h first count) h s

/-- LOOP_STREAM: R277; it replaces the subscription before it. -/
def reqLoopStream (rate count : Nat) (loops : List Nat) : Req :=
  { op := 1542, courses := onCourse1, lenOk := exactly 12,
    judge := fun s => firstFail [(decide (100 < rate) || decide (8 < count) || (loops.take count).any (noLoop s)
      || (loops.drop count).any (· != 255), resRange)],
    effect := fun s => ({ s with loopStream := (rate, loops.take count), loopSentAt := none }, okReply) }

def execLoopStream (h : Hdr) (rate count : Nat) (loops : List Nat) (s : State) : Out :=
  request (reqLoopStream rate count loops) (.loopStream h rate count loops) h s

/-- R277: whether the subscription is due. -/
def loopStreamDue (s : State) : Bool :=
  s.loopStream.1 != 0 && !s.loopStream.2.isEmpty && match s.loopSentAt with
    | some t => decide (t + 1000000 / s.loopStream.1 ≤ s.devtime)
    | none => true

/-- N_LOOP: R277, Table 14-16. -/
def sendLoops (s : State) : State :=
  if !loopStreamDue s then s
  else
    let body := le 8 s.devtime ++ s.loopStream.2.flatMap fun l => le 1 ((l : Nat) : Int) ++ le 3 0 ++ loopEntry s l
    notify 1 34305 body { s with loopSentAt := some s.devtime }

def execNLoop (t : Nat) (s : State) : Out := at_ t sendLoops s

/-- LOOP_RATE_SET: R273. -/
def reqLoopRateSet (p rate : Nat) : Req :=
  { op := 1543, courses := onCourse0 + onCourse1, lenOk := exactly 8,
    judge := fun _ => firstFail [(decide (1 < p), resRange)],
    effect := fun s => ({ s with rates := tset s.rates p rate }, okReply) }

def execLoopRateSet (h : Hdr) (product rate : Nat) (s : State) : Out :=
  request (reqLoopRateSet product rate) (.loopRateSet h product rate) h s

/-- LOOP_RATE_FACTORS: R273; the factors of own units `first` and up, taking effect together. -/
def reqLoopRateFactors (p first count : Nat) (fs : List Nat) : Req :=
  { op := 1544, courses := onCourse0 + onCourse1, lenOk := fun n => n == 8 + 4 * count && decide (12 ≤ n),
    judge := fun s => firstFail [(decide (1 < p) || outside 1 128 count || decide (127 < ownUnit s first)
      || decide (127 < ownUnit s (first + count - 1)) || fs.any (fun f => decide (262144 < f)), resRange)],
    effect := fun s =>
      (fs.zipIdx.foldl (fun s f => s.modUnit (ownUnit s first + f.2) fun x => { x with rateFactor := f.1 }) s, okReply) }

def execLoopRateFactors (h : Hdr) (product first count : Nat) (factors : List Nat) (s : State) : Out :=
  request (reqLoopRateFactors product first count factors) (.loopRateFactors h product first count factors) h s

end Sys2Proof.Machine
end

