-- ==== Sys2Proof/Machine/ReqMnt.lean ====
section
/-! DEFINITION. The MNT requests (Table 14-15, R357, R360, R418, R427, R497) and the ends of the long ones among them. -/

namespace Sys2Proof.Machine

/-- R360: no eMMC answered. -/
def noEmmc (s : State) : Bool := s.start.maint && !s.start.emmc

/-- The firmware slot that is not running. -/
def spareFw (s : State) : Nat := 1 - s.storage.runningFw

/-- The partition of a firmware slot (Table 17-8). -/
def fwPartition (k : Nat) : Nat := 1 + k

/-- One firmware entry of MNT_INFO, as CFG_INFO. -/
def fwEntry (s : State) (k : Nat) : List Byte :=
  let c := fwSlot s k
  let st := match c.image with
    | some f => if c.st == 2 && !fwPasses s f then 3 else c.st
    | none => c.st
  let f := c.image.getD { imageId := 0, version := 0 }
  le 1 ((st : Nat) : Int) ++ le 1 ((bit (s.storage.activeFw == k) : Nat) : Int) ++ le 2 0 ++ le 4 ((f.imageId : Nat) : Int)
    ++ le 4 ((f.version : Nat) : Int) ++ le 4 ((c.size : Nat) : Int)

/-- MNT_INFO. -/
def reqMntInfo : Req :=
  { op := 2817, courses := onCourse3, lenOk := exactly 0, changes := false,
    effect := fun s =>
      if noEmmc s then (s, refuse resStorage)
      else
        (s, okData (fwEntry s 0 ++ fwEntry s 1 ++ cfgEntry s 0 ++ cfgEntry s 1 ++ le 4 ((s.storage.capacityMib : Nat) : Int)
          ++ le 4 ((s.storage.floor : Nat) : Int)
          ++ le 4 ((pack [(bit s.storage.keyHash.isSome, 0), (bit s.storage.tableOk, 1)] : Nat) : Int))) }

def execMntInfo (h : Hdr) (s : State) : Out := request reqMntInfo (.mntInfo h) h s

/-- MNT_FW_BEGIN: R418 for the firmware slot that is not running. -/
def reqMntFwBegin (size : Nat) : Req :=
  { op := 2818, courses := onCourse3, lenOk := exactly 4,
    judge := fun _ => firstFail [(outside 192 16777216 size, resRange)],
    effect := fun s =>
      if noEmmc s || partitionStopped s (fwPartition (spareFw s)) then (s, refuse resStorage)
      else (setFwSlot (spareFw s) { st := 1 } (s.modStore fun x => { x with fwStaging := some (size, []) }), okReply) }

def execMntFwBegin (h : Hdr) (size : Nat) (s : State) : Out := request (reqMntFwBegin size) (.mntFwBegin h size) h s

/-- MNT_FW_WRITE: R418. -/
def reqMntFwWrite (offset : Nat) (data : List Byte) : Req :=
  { op := 2819, courses := onCourse3, lenOk := between' 5 1024,
    judge := fun s => match s.storage.fwStaging with
      | none => refuse resBadState
      | some (size, done) => firstFail [(!stageOk size done.length offset data.length, resRange)],
    effect := fun s =>
      if noEmmc s || partitionStopped s (fwPartition (spareFw s)) then (s, refuse resStorage)
      else (s.modStore fun x => { x with fwStaging := x.fwStaging.map fun p => (p.1, p.2 ++ data) }, okReply) }

def execMntFwWrite (h : Hdr) (offset : Nat) (data : List Byte) (s : State) : Out :=
  request (reqMntFwWrite offset data) (.mntFwWrite h offset data) h s

/-- Firmware staging is complete. -/
def fwStaged (s : State) : Bool :=
  match s.storage.fwStaging with
  | some (size, done) => done.length == size
  | none => false

/-- MNT_FW_COMMIT: R357; `fw` brings the verdict on the signature (assumption 2), and the rest is read from the staged bytes. Long:
FW_COMMIT_DONE replies. -/
def reqMntFwCommit (fw : Firmware) : Req :=
  { op := 2820, courses := onCourse3, lenOk := exactly 0,
    judge := fun s => firstFail [(!fwStaged s, resBadState)],
    effect := fun s => (s.modStore fun x => { x with fwCommitting := some (readFirmware ((x.fwStaging.map (·.2)).getD []) fw) }, none) }

def execMntFwCommit (h : Hdr) (fw : Firmware) (s : State) : Out := request (reqMntFwCommit fw) (.mntFwCommit h fw) h s

/-- R357: the checks of a staged firmware image end: the slot is active at the next start, or DENIED. -/
def finishFw (s : State) : State :=
  match s.storage.fwCommitting with
  | none => s
  | some f =>
    let k := spareFw s
    let bytes := (s.storage.fwStaging.map (·.2)).getD []
    let ok := fwPasses s f
    let s1 := setFwSlot k { st := if ok then 2 else 3, image := some f, bytes := bytes, size := bytes.length } (s.modStore fun x =>
      { x with fwCommitting := none, fwStaging := none, activeFw := if ok then k else x.activeFw })
    endLong 2820 { result := if ok then resOk else resDenied } s1

def execFwCommitDone (t : Nat) (s : State) : Out := at_ t finishFw s

/-- MNT_PARTITION: R497. Long: PARTITION_DONE replies. -/
def reqMntPartition (confirm mib : Nat) : Req :=
  { op := 2821, courses := onCourse3, lenOk := exactly 8,
    judge := fun s => firstFail [(confirm != 1346458196 || outside 256 32946 mib || decide (s.storage.capacityMib < 321 + mib), resRange),
      (!s.start.maint, resBadState)],
    effect := fun s =>
      if noEmmc s then (s, refuse resStorage) else (s.modStore fun x => { x with partitioning := some mib }, none) }

def execMntPartition (h : Hdr) (confirm tephraMib : Nat) (s : State) : Out :=
  request (reqMntPartition confirm tephraMib) (.mntPartition h confirm tephraMib) h s

/-- R149: tile slots of a Tephra partition. -/
def slotsOf (mib : Nat) : Nat := min 525312 (16 * mib - 1824)

/-- R497: the table is written and every partition erased. -/
def finishPartition (s : State) : State :=
  match s.storage.partitioning with
  | none => s
  | some mib =>
    let s1 := s.modStore fun x =>
      { x with partitioning := none, tableOk := true, tephraMib := mib, cfgA := {}, cfgB := {}, activeCfg := 255, fwA := {}, fwB := {},
               staging := none, fwStaging := none, savedLatency := [], latencySavedAt := 0, stopped := [] }
    let s2 : State := { s1 with recorder := {}, cov := { slots := slotsOf mib } }
    endLong 2821 {} s2

def execPartitionDone (t : Nat) (s : State) : Out := at_ t finishPartition s

/-- MNT_CFG_KEY_FUSE: R427. -/
def reqMntCfgKeyFuse (key : List Byte) (confirm : Nat) : Req :=
  { op := 2822, courses := onCourse3, lenOk := exactly 68,
    judge := fun s => firstFail [(confirm != 1262836038, resRange), (!allOff s, resBadState), (s.storage.keyHash.isSome, resDenied)],
    effect := fun s => (s.modStore fun x => { x with keyHash := some (sha256 key) }, okReply) }

def execMntCfgKeyFuse (h : Hdr) (key : List Byte) (confirm : Nat) (s : State) : Out :=
  request (reqMntCfgKeyFuse key confirm) (.mntCfgKeyFuse h key confirm) h s

end Sys2Proof.Machine
end

