-- ==== Sys2Proof/Machine/ReqRec.lean ====
section
/-! DEFINITION. The REC requests (Table 14-14, R421, R486, R495, R496, R503) and N_REC_CHUNK. -/

namespace Sys2Proof.Machine

/-- The partition of the recorder (Table 17-8). -/
def recorderPartition : Nat := 6

/-- R503: the chunks of one record, 128 of 512 bytes. -/
def chunksOf (number : Nat) : List (Nat × Nat) := (List.range 128).map fun k => (number, k)

/-- R503: the Caldera entries from INDEX `first`, at most `count` of them, 0 for all. -/
def calderaChunks (s : State) (first count : Nat) : List (Nat × Nat) :=
  let n := s.recorder.caldera.length - first
  (upFrom first (if count = 0 then n else min n count)).map fun k => (k, 0)

/-- A stream of records or Caldera entries begins (R503). -/
def beginStream (kind first count : Nat) (s : State) : State :=
  if kind = 3 then
    let cs := calderaChunks s first count
    s.modRec fun r => { r with stream := some (3, cs, cs.length), streamRecords := [] }
  else
    let rs := recordsOf s kind first count
    s.modRec fun r => { r with stream := some (kind, rs.flatMap fun x => chunksOf x.number, rs.length), streamRecords := rs }

/-- REC_READ: R421, R503. -/
def reqRecRead (kind first count : Nat) : Req :=
  { op := 2561, courses := onCourse2, lenOk := exactly 12, changes := false,
    judge := fun s => firstFail [(decide (3 < kind) || (kind == 2 && first != 0), resRange), (s.recorder.stream.isSome, resBusy)],
    effect := fun s => (beginStream kind first count s, okReply) }

def execRecRead (h : Hdr) (kind first count : Nat) (s : State) : Out := request (reqRecRead kind first count) (.recRead h kind first count) h s

/-- The 512 bytes of a chunk and whether its record is open (Table 17-11). -/
def chunkData (s : State) (kind number k : Nat) : List Byte × Bool :=
  if kind = 3 then
    (padTo 512 ((s.recorder.caldera[number]?).map (fun e => e.bytes number) |>.getD []), false)
  else
    let x := (s.recorder.streamRecords.find? fun x => x.number == number).getD {}
    (padTo 512 (x.bytes.drop (512 * k)), x.isOpen)

/-- One N_REC_CHUNK of the running stream, when the course 2 ring has room for it; after the last, the one with END (R503). -/
def recordChunk (s : State) : State :=
  match s.recorder.stream with
  | none => s
  | some (kind, [], sent) =>
    if hasRoom s 2 12 (keptFree s 2) then
      putMsg 2 35329 0 (recChunk kind 1 0 sent []) (s.modRec fun r => { r with stream := none, streamRecords := [] })
    else s
  | some (kind, (number, k) :: rest, sent) =>
    if !hasRoom s 2 524 (keptFree s 2) then s
    else
      let d := chunkData s kind number k
      putMsg 2 35329 0 (recChunk kind (2 * bit d.2) k number d.1) (s.modRec fun r => { r with stream := some (kind, rest, sent) })

def execNRecChunk (t : Nat) (s : State) : Out := at_ t recordChunk s

/-- REC_FREEZE: R495. -/
def reqRecFreeze : Req :=
  { op := 2562, courses := onCourse0, lenOk := exactly 0, effect := fun s => (freeze s, okReply) }

def execRecFreeze (h : Hdr) (s : State) : Out := request reqRecFreeze (.recFreeze h) h s

/-- REC_THAW: R496; the pending records go to the recorder partition (R502). -/
def reqRecThaw : Req :=
  { op := 2563, courses := onCourse0, lenOk := exactly 0,
    effect := fun s => if s.recorder.frozenAt.isSome && partitionStopped s recorderPartition then (s, refuse resStorage) else (thaw s, okReply) }

def execRecThaw (h : Hdr) (s : State) : Out := request reqRecThaw (.recThaw h) h s

/-- REC_FAULTS_READ: R486; up to 63 entries from position `first` on. -/
def reqRecFaultsRead (first : Nat) : Req :=
  { op := 2564, lenOk := exactly 4, changes := false,
    effect := fun s =>
      (s, some { detail := s.faults.opened.length, data := ((openSorted s).drop first |>.take 63).flatMap OpenFault.bytes }) }

def execRecFaultsRead (h : Hdr) (first : Nat) (s : State) : Out := request (reqRecFaultsRead first) (.recFaultsRead h first) h s

end Sys2Proof.Machine
end

