-- ==== Sys2Proof/Machine/ReqSwIo.lean ====
section
/-! DEFINITION. The SW and IO requests (Table 14-12, R289, R293, R294, R300, R303, R315, R319, R425). -/

namespace Sys2Proof.Machine

/-! ## Requests by element (R425) -/

/-- What one element answers: RESULT and DETAIL. -/
abbrev Verdict2 := Nat × Nat

/-- The first check that fails, as a verdict. -/
def firstBad (cs : List (Bool × Nat)) : Option Verdict2 := (cs.find? fun c => c.1).map fun c => (c.2, 0)

/-- R425: the elements named in MASK, upwards; RESULTS by element, 0xFF for those not named. -/
def eachElement (n mask : Nat) (act : Nat → State → State × Verdict2) (s : State) : State × List (Option Verdict2) :=
  (List.range n).foldl (fun acc k =>
    if bitAt mask k then
      let r := act k acc.1
      (r.1, acc.2 ++ [some r.2])
    else (acc.1, acc.2 ++ [none])) (s, [])

/-- R425: the reply: the lowest-numbered refused element gives RESULT and DETAIL. -/
def eachReply (rs : List (Option Verdict2)) : Reply :=
  let bad := (rs.filterMap id).find? fun v => v.1 != resOk
  { result := (bad.map (·.1)).getD resOk, detail := (bad.map (·.2)).getD 0,
    data := rs.map fun v => match v with
      | some v => BitVec.ofNat 8 v.1
      | none => 255 }

/-- The reply to a MASK that names elements that do not exist. -/
def noElements (n : Nat) : Reply := { result := resRange, data := List.replicate n 255 }

/-! ## SW_SET -/

/-- R303: limp is active and drives the channel. -/
def limpMapped (s : State) (n : Nat) : Bool := s.limp.isSome && (limpEntry s n).isSome

/-- A channel that the configuration leaves unused. -/
def unusedSwitch (s : State) (n : Nat) : Bool := !(s.swCfg n).used

/-- Host off to a channel (Table 09-3). -/
def swOffCommand (n : Nat) (cs : Clamps) (s : State) : State × Verdict2 :=
  let l := Line.switch n
  match firstBad [(unusedSwitch s n, resBadState), (linkDown s l || limpMapped s n || (boundLoop s l).isSome, resLocked)] with
  | some v => (s, v)
  | none =>
    match (s.sw n).state with
    | .exhausted => ((leaveExhausted n s).modSw n fun x => { x with state := .off }, (resOk, 0))
    | .off | .inrush | .on | .backoff | .latchWait | .locked => (offSw n cs s, (resOk, 0))

/-- Host on to a channel in OFF or EXHAUSTED whose locks are clear: vent check, then credit (R293, R294, R37). -/
def swStart (n : Nat) (s : State) : State × Verdict2 :=
  if !ventOk s n then (ventRefuse n s, (resLocked, 0))
  else match chargeSw n s with
    | .error l => (noteShort l s, (resNoCredit, l))
    | .ok s1 => (startSw n false (leaveExhausted n s1), (resOk, 0))

/-- Host on to a channel (Table 09-3): a channel that is on or waits for its restart does not change. -/
def swOnCommand (n : Nat) (s : State) : State × Verdict2 :=
  let l := Line.switch n
  let rest := (s.sw n).state == SwState.off || (s.sw n).state == SwState.exhausted
  match firstBad [(unusedSwitch s n || !enabled s || regionOff s l || lineAway s l || (rest && (s.sw n).latch), resBadState),
      (lineHeld s l || linkDown s l || (boundLoop s l).isSome || limpMapped s n || (s.sw n).state == SwState.locked, resLocked),
      (unavailable s l, resDenied)] with
  | some v => (s, v)
  | none => if rest then swStart n s else (s, (resOk, 0))

/-- SW_SET: R425, Table 09-3. -/
def reqSwSet (mask on : Nat) (cs : Clamps) : Req :=
  { op := 1793, courses := onCourse0, lenOk := exactly 8,
    judge := fun _ => if 16777216 ≤ mask then some (noElements 24) else none,
    effect := fun s =>
      let r := eachElement 24 mask (fun n s => if bitAt on n then swOnCommand n s else swOffCommand n cs s) s
      (r.1, some (eachReply r.2)) }

def execSwSet (h : Hdr) (mask on : Nat) (clamps : Clamps) (s : State) : Out :=
  requestOut (reqSwSet mask on clamps) (.swSet h mask on clamps) h s

/-- SW_PWM_DUTY: R284, R303, R526. -/
def reqSwPwmDuty (n duty : Nat) : Req :=
  { op := 1794, courses := onCourse0 + onCourse1, lenOk := exactly 4,
    judge := fun s =>
      let l := Line.switch n
      firstFail [(decide (23 < n) || decide (10000 < duty), resRange),
        (unusedSwitch s n || (s.swCfg n).pwmHz == 0, resBadState),
        (lineHeld s l || linkDown s l || (boundLoop s l).isSome || limpMapped s n, resLocked), (unavailable s l, resDenied)],
    effect := fun s => (setSwDuty n duty s, okReply) }

def execSwPwmDuty (h : Hdr) (channel duty : Nat) (s : State) : Out := request (reqSwPwmDuty channel duty) (.swPwmDuty h channel duty) h s

/-- R289, R296: a channel leaves LOCKED. -/
def unlockSw (n : Nat) (s : State) : State :=
  swLocked n (s.sw n).lockCause true 0 0 etaNever (s.modSw n fun x => { x with state := .off, lockCause := 0 })

/-- SW_UNLOCK: R289. A channel that is not LOCKED has no lock to end. -/
def reqSwUnlock (n : Nat) : Req :=
  { op := 1795, courses := onCourse0, lenOk := exactly 4,
    judge := fun s => firstFail [(decide (23 < n), resRange), ((s.sw n).state != SwState.locked || (s.sw n).latch, resBadState),
      (linkDown s (.switch n) || limpMapped s n, resLocked)],
    effect := fun s => (unlockSw n s, okReply) }

def execSwUnlock (h : Hdr) (channel : Nat) (s : State) : Out := requestOut (reqSwUnlock channel) (.swUnlock h channel) h s

/-- SW_STATUS_READ: R305. -/
def reqSwStatusRead (first count : Nat) (sense : Sense) : Req :=
  { op := 1796, lenOk := exactly 4, changes := false,
    judge := fun _ => firstFail [(outside 1 24 count || decide (24 < first + count), resRange)],
    effect := fun s => (s, okData ((upFrom first count).flatMap fun n =>
      le 4 ((swWord s sense n : Nat) : Int) ++ (s.sw n).counters.flatMap fun c => le 4 ((c : Nat) : Int))) }

def execSwStatusRead (h : Hdr) (first count : Nat) (sense : Sense) (s : State) : Out :=
  request (reqSwStatusRead first count sense) (.swStatusRead h first count sense) h s

/-- SW_VENT_READ: R293, mJ. -/
def reqSwVentRead : Req :=
  { op := 1797, lenOk := exactly 0, changes := false,
    effect := fun s => (s, okData ((List.range 6).flatMap fun c =>
      le 4 ((ventCapacity c / 1000 : Nat) : Int) ++ le 4 (((s.vent c).used / 1000 : Nat) : Int)
        ++ le 4 (((s.vent c).reserved / 1000 : Nat) : Int) ++ le 4 (ventFree s c / 1000))) }

def execSwVentRead (h : Hdr) (s : State) : Out := request reqSwVentRead (.swVentRead h) h s

/-! ## The limp-home fuse map (R300) -/

/-- R300: two enabled entries name one channel; channels 24 to 31 disable an entry. -/
def sharedChannel : List Nat → Bool
  | [] => false
  | e :: r => (bitAt e 5 && decide (e % 32 < 24) && r.any fun f => bitAt f 5 && f % 32 == e % 32) || sharedChannel r

/-- SW_LIMP_FUSE_PROGRAM: R300. A read-back mismatch leaves the map as it was read back, unlocked contents unknown: assumption 19. -/
def reqSwLimpFuseProgram (entries : List Nat) (global confirm : Nat) (readBackOk : Bool) : Req :=
  { op := 1798, courses := onCourse0, lenOk := exactly 16,
    judge := fun s => firstFail [(confirm != 1279872336 || sharedChannel entries || decide (4 ≤ global), resRange),
      (!allOff s || s.odo.speed != 0 || bitAt s.storage.fuseGlobal 1, resDenied)],
    effect := fun s =>
      let s1 := s.modStore fun x => { x with fuses := entries, fuseGlobal := 2 + global % 2 }
      if readBackOk then (s1, okReply)
      else (fault 15 0 8 3 0 (s1.modStart fun x => { x with fuseOk := false }), refuse resDenied) }

def execSwLimpFuseProgram (h : Hdr) (entries : List Nat) (global confirm : Nat) (readBackOk : Bool) (s : State) : Out :=
  request (reqSwLimpFuseProgram entries global confirm readBackOk) (.swLimpFuseProgram h entries global confirm readBackOk) h s

/-- SW_LIMP_FUSE_READ: Tables 09-7 and 09-8. -/
def reqSwLimpFuseRead : Req :=
  { op := 1799, lenOk := exactly 0, changes := false,
    effect := fun s => (s, okData (padTo 8 (s.storage.fuses.map fun e => BitVec.ofNat 8 e) ++ le 1 ((s.storage.fuseGlobal : Nat) : Int) ++ le 3 0)) }

def execSwLimpFuseRead (h : Hdr) (s : State) : Out := request reqSwLimpFuseRead (.swLimpFuseRead h) h s

/-! ## IO -/

/-- One field output of IO_OUTPUT_SET (R425, R315, R135). -/
def foCommand (o : Nat) (on : Bool) (s : State) : State × Verdict2 :=
  let l := Line.fo o
  let bad := if on then
      firstBad [(!(s.foCfg o).used && !emulated s o || !enabled s || regionOff s l || lineAway s l || (s.fo o).st == 2, resBadState),
        (lineHeld s l || linkDown s l || emulated s o, resLocked), (unavailable s l, resDenied)]
    else firstBad [(!(s.foCfg o).used && !emulated s o, resBadState), (linkDown s l || emulated s o, resLocked)]
  match bad with
  | some v => (s, v)
  | none =>
    if !on then (offFo o s, (resOk, 0))
    else match onFo o s with
      | .ok s1 => (s1, (resOk, 0))
      | .error v => (noteShort v s, (resNoCredit, v))

/-- IO_OUTPUT_SET: R425. -/
def reqIoOutputSet (mask on : Nat) : Req :=
  { op := 1809, courses := onCourse0, lenOk := exactly 4,
    effect := fun s =>
      let r := eachElement 16 mask (fun o s => foCommand o (bitAt on o) s) s
      (r.1, some (eachReply r.2)) }

def execIoOutputSet (h : Hdr) (mask on : Nat) (s : State) : Out := request (reqIoOutputSet mask on) (.ioOutputSet h mask on) h s

/-- IO_OUTPUT_READ: Table 14-13. -/
def reqIoOutputRead (sense : Sense) : Req :=
  { op := 1810, lenOk := exactly 0, changes := false, effect := fun s => (s, okData (words4 16 (foWord s sense))) }

def execIoOutputRead (h : Hdr) (sense : Sense) (s : State) : Out := request (reqIoOutputRead sense) (.ioOutputRead h sense) h s

/-- IO_INPUT_READ: Table 10-5. -/
def reqIoInputRead (sense : Sense) : Req :=
  { op := 1811, lenOk := exactly 0, changes := false, effect := fun s => (s, okData (words4 32 (fiWord s sense))) }

def execIoInputRead (h : Hdr) (sense : Sense) (s : State) : Out := request (reqIoInputRead sense) (.ioInputRead h sense) h s

/-- IO_ANALOG_READ: R313, R314. -/
def reqIoAnalogRead : Req :=
  { op := 1812, lenOk := exactly 0, changes := false,
    effect := fun s => (s, okData ((List.range 8).flatMap fun a =>
      let x := s.ai a
      le 4 x.value ++ le 2 ((x.raw : Nat) : Int)
        ++ le 2 ((pack [(bit x.valid, 0), (bit x.wireBreak, 1), (bit x.overRange, 2), (bit x.burdenOpen, 3)] : Nat) : Int))) }

def execIoAnalogRead (h : Hdr) (s : State) : Out := request reqIoAnalogRead (.ioAnalogRead h) h s

/-- IO_FAULT_CLEAR: R315. `persists` says that the cause does; an output in no fault state does not change. -/
def reqIoFaultClear (o : Nat) (persists : Bool) : Req :=
  { op := 1813, courses := onCourse0, lenOk := exactly 4,
    judge := fun s => firstFail [(decide (15 < o), resRange), (persists || (s.fo o).latch, resBadState),
      (linkDown s (.fo o), resLocked)],
    effect := fun s => (if (s.fo o).st = 2 then s.modFo o fun x => { x with st := 0, cause := 0 } else s, okReply) }

def execIoFaultClear (h : Hdr) (output : Nat) (causePersists : Bool) (s : State) : Out :=
  request (reqIoFaultClear output causePersists) (.ioFaultClear h output causePersists) h s

/-- IO_GROUP_REARM: R319. -/
def reqIoGroupRearm (g : Nat) : Req :=
  { op := 1814, courses := onCourse0, lenOk := exactly 4,
    judge := fun s => firstFail [(decide (s.cfg.fieldIo.groups.length ≤ g), resRange), (s.group g != GroupSt.back, resBadState)],
    effect := fun s => (rearm g s, okReply) }

def execIoGroupRearm (h : Hdr) (group : Nat) (s : State) : Out := requestOut (reqIoGroupRearm group) (.ioGroupRearm h group) h s

end Sys2Proof.Machine
end

