-- ==== Sys2Proof/Machine/ReqSys.lean ====
section
/-! DEFINITION. The SYS requests (Table 14-3, R393, R394, R401 to R403, R414 to R417). -/

namespace Sys2Proof.Machine

/-- SYS_INFO: identity of part, configuration and package; without an active configuration CFG_ID is 0 and CFG_SLOT 0xFF. -/
def reqSysInfo : Req :=
  { op := 257, lenOk := exactly 0, changes := false,
    effect := fun s =>
      let a := s.start.configActive
      let rev := windowWord s 4
      (s, okData (le 2 41758 ++ le 2 38464 ++ le 4 ((rev : Nat) : Int)
        ++ le 4 (((if a then s.cfg.container.imageId else 0) : Nat) : Int) ++ le 4 (((if a then s.cfg.container.version else 0) : Nat) : Int)
        ++ le 1 (((if a then s.storage.activeCfg else 255) : Nat) : Int)
        ++ le 1 (((if a && s.cfg.package.member then s.cfg.package.pkgIndex else 255) : Nat) : Int)
        ++ le 1 ((s.storage.variant : Nat) : Int) ++ le 1 0)) }

def execSysInfo (h : Hdr) (s : State) : Out := request reqSysInfo (.sysInfo h) h s

/-- SYS_RESYNC: R401 to R403, R417. -/
def reqSysResync (h : Hdr) (sense : Sense) : Req :=
  { op := 258, courses := onCourse0, lenOk := exactly 0,
    effect := fun s =>
      let s1 := resync h.epoch s
      (s1, okData (snapshotHeader (snapshotParts sense s).length s1))
    after := fun s => sendSnapshot (snapshotParts sense s) s }

def execSysResync (h : Hdr) (sense : Sense) (s : State) : Out := request (reqSysResync h sense) (.sysResync h sense) h s

/-- R392: one kept message written again, unchanged, while the ring has room beyond what the reply needs. -/
def rewriteMsg (n keep : Nat) (m : DevMsg) (s : State) : Option State :=
  if hasRoom s n m.payload.length keep then
    some (s.modCourse n fun c =>
      { c with ring := c.ring ++ [m],
               rplWr := if s.isobusLink.isNone then (c.rplWr + msgSize m.payload.length) % 4096 else c.rplWr })
  else none

/-- R392: the messages numbered `first` and the `k` after it, in order: how many were written again, and the first number that the
course no longer holds. -/
def rewriteFrom (n keep : Nat) : Nat → Nat → State → State × Nat × Option Nat
  | 0, _, s => (s, 0, none)
  | k + 1, q, s =>
    match (s.course n).kept.find? fun m => m.seq == q with
    | none =>
      let r := rewriteFrom n keep k ((q + 1) % 65536) s
      (r.1, r.2.1, some q)
    | some m =>
      match rewriteMsg n keep m s with
      | none => (s, 0, some q)
      | some s1 =>
        let r := rewriteFrom n keep k ((q + 1) % 65536) s1
        (r.1, r.2.1 + 1, r.2.2)

/-- SYS_REPLAY: R392. -/
def reqSysReplay (h : Hdr) (course first last : Nat) : Req :=
  { op := 259, lenOk := exactly 8, changes := false,
    judge := fun _ => firstFail [(decide (3 < course) || decide (63 < (last + 65536 - first % 65536) % 65536), resRange)],
    effect := fun s =>
      let r := rewriteFrom course (if course = h.course then 24 else 0) ((last + 65536 - first % 65536) % 65536 + 1) first s
      (r.1, some { detail := r.2.1, data := le 2 ((r.2.2.getD 65535 : Nat) : Int) ++ le 2 0 }) }

def execSysReplay (h : Hdr) (course first last : Nat) (s : State) : Out :=
  request (reqSysReplay h course first last) (.sysReplay h course first last) h s

/-- SYS_OUTPUTS: R393, R394, R399; either action ends what the SAFE policy left (R397). -/
def reqSysOutputs (action : Nat) (clamps : Clamps) : Req :=
  { op := 260, courses := onCourse0, lenOk := exactly 4,
    judge := fun s => firstFail [(decide (1 < action), resRange),
      (action == 1 && !(s.start.ready && s.start.configActive && !s.start.maint), resBadState)],
    effect := fun s =>
      if action = 1 then (enableOutputs s, okReply)
      else ((disableOutputs clamps s).modHost fun h => { h with safeLeft := false }, okReply) }

def execSysOutputs (h : Hdr) (action : Nat) (clamps : Clamps) (s : State) : Out :=
  requestOut (reqSysOutputs action clamps) (.sysOutputs h action clamps) h s

/-- R334: an output that is on and has no NAP code ON. -/
def keepsFromNap (s : State) (l : Line) : Bool :=
  match l with
  | .unit u => !unitOff (s.unit u).drive || (s.unit u).frets.any Fret.live
  | .switch n => swOn (s.sw n) && !(s.swCfg n).napOn
  | .fo o => (s.fo o).st == 1 && !(s.foCfg o).napOn
  | .fi _ | .ai _ => false

/-- Table 11-5: whether a transition that the host asks for may begin; with the PLL on the fast RC oscillator the device is never in
RUN (R330). -/
def powerAllowed (s : State) (target : PowerState) : Bool :=
  let up := match s.power.state with
    | .run | .doze => true
    | .nap | .park | .entering | .refresh => false
  match target with
  | .run => s.power.state == PowerState.doze && s.power.pll != 1
  | .doze => s.power.state == PowerState.run && s.cov.opened.isNone
  | .nap => up && s.odo.standstill && s.cov.opened.isNone && !(usedOutputs s).any (keepsFromNap s)
      && s.cfg.loops.all fun p => (s.loop p.1).mode == LoopMode.off
  | .park => up && s.odo.standstill
  | .entering | .refresh => false

/-- The power state that a STATE field names. -/
def powerTarget (st : Nat) : PowerState :=
  match st with
  | 0 => .run
  | 1 => .doze
  | 2 => .nap
  | _ => .park

/-- R332, R331: RUN and DOZE follow each other at once; the correlators stop in DOZE, and navigation resumes as a hot start. -/
def moveAwake (target : PowerState) (s : State) : State :=
  let s1 := (countTime s).modPower fun p => { p with state := target }
  if target == .run then s1.modNav fun n => { n with staleBase := s1.devtime, fretsLive := false, startKind := 1 }
  else stopTracking s1

/-- SYS_POWER: R333, R414, Table 11-5. Any SYS_POWER that is carried out cancels the key-off timer (R339). -/
def reqSysPower (st alarm : Nat) (clamps : Clamps) (before : PowerState) : Req :=
  let target := powerTarget st
  let sleep := target == .nap || target == .park
  { op := 261, courses := onCourse0, lenOk := exactly 8,
    judge := fun s => firstFail [(decide (3 < st) || (alarm != 0 && decide (alarm * 1000 < rtcNow s + 2000)), resRange),
      (target != s.power.state && !powerAllowed s target, resBadState)],
    effect := fun s =>
      let s1 := s.modPower fun p => { p with keyOffEnd := none, keyOffDue := false }
      if target == s.power.state then (s1, okReply)
      else
        let s2 := s1.modPower fun p => { p with alarm := if alarm = 0 then none else some alarm }
        (if sleep then s2 else moveAwake target s2, okReply)
    after := fun s =>
      if target == before then s
      else if sleep then beginEntry target clamps s
      else sendPower before target false 0 s }

def execSysPower (h : Hdr) (st alarm : Nat) (clamps : Clamps) (s : State) : Out :=
  requestOut (reqSysPower st alarm clamps s.power.state) (.sysPower h st alarm clamps) h s

/-- SYS_RESET: R415; the reply, then the reset of D0 with cause HOST_RESET. -/
def reqSysReset (key : Nat) : Req :=
  { op := 262, courses := onCourse0 + onCourse3, lenOk := exactly 4,
    judge := fun _ => firstFail [(key != 2520819109, resRange)],
    effect := fun s => (s, okReply),
    after := fun s => resetD0 5 s }

def execSysReset (h : Hdr) (key : Nat) (s : State) : Out := request (reqSysReset key) (.sysReset h key) h s

/-- The hourly record follows a setting of the UTC (R490). -/
def hourAfterSet (s : State) : State :=
  if s.recorder.hour.isSome && s.recorder.hour != some (rtcNow s / 3600000) then newHour s else s

/-- SYS_TIME_SET: R416. -/
def reqSysTimeSet (utcS utcMs boundMs : Nat) : Req :=
  { op := 263, courses := onCourse0, lenOk := exactly 12,
    judge := fun s => firstFail [(outside 1 60000 boundMs || decide (999 < utcMs), resRange), (s.nav.everLocked, resBadState)],
    effect := fun s =>
      (hourAfterSet (s.modPower fun p =>
        { p with rtcMs := utcS * 1000 + utcMs, rtcAt := s.devtime, rtcSet := true, rtcErrUs := 1000 * boundMs }), okReply) }

def execSysTimeSet (h : Hdr) (utcS utcMs boundMs : Nat) (s : State) : Out :=
  request (reqSysTimeSet utcS utcMs boundMs) (.sysTimeSet h utcS utcMs boundMs) h s

end Sys2Proof.Machine
end

