-- ==== Sys2Proof/Machine/ReqUnit.lean ====
section
/-! DEFINITION. The FRET and UNIT requests (Table 14-9, R181, R182, R215, R228, R234, R251, R422 to R424), with the forwarding of those
that name a follower's units (R458). -/

namespace Sys2Proof.Machine

/-! ## Forwarding (R458) -/

/-- Segments of up to 56 bytes. -/
def segments (bs : List Byte) : List (List Byte) := (List.range (max 1 (ceilDiv bs.length 56))).map fun k => (bs.drop (56 * k)).take 56

/-- Bytes as the numbers of a frame's body. -/
def bytesOut (bs : List Byte) : List Int := bs.map fun b => (b.toNat : Int)

/-- Send segments of FWD_REQ (15) or FWD_RPL (16). -/
def sendSegments (type dst rseq : Nat) (bs : List Byte) (s : State) : State :=
  let segs := segments bs
  segs.zipIdx.foldl (fun s p => sendZ type dst ([(rseq : Int), (p.2 : Nat), (segs.length : Nat)] ++ bytesOut p.1) s) s

/-- The lead sends a request to a follower: OPCODE, LENGTH and the payload (assumption 18). -/
def forwardTo (h : Hdr) (op : Nat) (payload : List Byte) (pkg : Nat) (s : State) : State :=
  let q := (s.zither.rseq + 1) % 65536
  sendSegments 15 pkg q (le 2 ((op : Nat) : Int) ++ le 2 ((payload.length : Nat) : Int) ++ payload)
    (s.modZ fun z => { z with rseq := q, fwd := z.fwd ++ [(q, h, op, s.devtime)] })

/-! ## Frets -/

/-- The fret that a wire fret becomes at a unit of this package. -/
def fretOf (s : State) (u : Nat) (w : FretWire) : Fret :=
  let eff := bitAt w.flags 0
  { pos := if eff then commandPos s u (w.action != 1) w.pos else w.pos, effect := w.pos, action := w.action, hasEffect := eff,
    notify := bitAt w.flags 1, backward := bitAt w.flags 2, tag := w.tag, discard := w.discard }

/-- The line of a request's own unit. -/
def ownLine (s : State) (n : Nat) : Line := .unit (ownUnit s n)

/-- R422, steps 6 to 10 for one fret, `before` frets of the same request having gone to its unit. -/
def judgeFret (s : State) (w : FretWire) (before : Nat) : Option Nat :=
  if w.tag = 0 || 32768 ≤ w.tag || 3 < w.action || 8 ≤ w.flags || unitBeyond s w.unit then some resRange
  else match unitRef s w.unit with
    | .follower .. | .beyond => none
    | .own u =>
      let start := w.action == 0 || w.action == 2
      let l := Line.unit u
      if pairMember s u || unusedUnit s u || (w.action != 3 && (s.secOf u).isSome)
        || (w.action == 3 && (s.unit u).drive.mode != UnitMode.pwm)
        || (start && (!enabled s || faulted s u || regionOff s l || lineAway s l)) then some resBadState
      else if linkDown s l || (w.action != 1 && (lineHeld s l || (boundLoop s l).isSome)) then some resLocked
      else if w.action != 1 && unavailable s l then some resDenied
      else if 32 ≤ ((s.unit u).frets.filter Fret.live).length + before then some resBusy
      else none

/-- R422: the frets in order of their index; the first that fails gives result and index. -/
def judgeFrets (s : State) : List FretWire → Nat → List Nat → Option Reply
  | [], _, _ => none
  | w :: rest, k, seen =>
    match judgeFret s w (seen.filter fun n => n == w.unit).length with
    | some r => some { result := r, detail := k }
    | none => judgeFrets s rest (k + 1) (w.unit :: seen)

/-- Table 06-1: a fret on the wire. -/
def FretWire.bytes (w : FretWire) : List Byte :=
  le 8 w.pos ++ le 1 ((w.action : Nat) : Int) ++ le 1 ((w.flags : Nat) : Int) ++ le 2 ((w.tag : Nat) : Int) ++ le 2 ((w.discard : Nat) : Int)
    ++ le 2 ((w.unit : Nat) : Int)

/-- The followers whose units a list of frets names. -/
def followersOf (s : State) (ws : List FretWire) : List Nat :=
  (ws.filterMap fun w => match unitRef s w.unit with
    | .follower p _ => some p
    | .own _ | .beyond => none).eraseDups

/-- Arm frets of this package: they wait in the pending list (R183). -/
def armFrets (ws : List FretWire) (s : State) : State :=
  ws.foldl (fun s w => match unitRef s w.unit with
    | .own u => putFret u (fretOf s u w) s
    | .follower .. | .beyond => s) s

/-- FRET_ARM: R182, R422. Frets for a follower go to it (R458). -/
def reqFretArm (h : Hdr) (ws : List FretWire) : Req :=
  { op := 1281, courses := onCourse0 + onCourse1, lenOk := fun n => n % 16 == 0 && decide (16 ≤ n) && decide (n ≤ 1024),
    judge := fun s => judgeFrets s ws 0 [],
    effect := fun s =>
      let ps := followersOf s ws
      let s1 := armFrets ws s
      if ps.isEmpty then (s1, okReply)
      else
        (ps.foldl (fun s p => forwardTo h 1281 ((ws.filter fun w => w.unit / 128 == p).flatMap FretWire.bytes) p s) s1, none) }

def execFretArm (h : Hdr) (frets : List FretWire) (s : State) : Out := request (reqFretArm h frets) (.fretArm h frets) h s

/-- R423: one fret that falls due in the tick in which its cancel arrives fires or is cancelled: assumption 7. -/
def raceFret (u : Nat) (acc : State × Nat) (f : Fret) : State × Nat :=
  let s := acc.1
  let s1 : State := { s with freeCount := s.freeCount + 1 }
  if Config.fretRace s.freeCount then (fireFret u f s1, acc.2) else (cancelFrets u (fun g => g.id == f.id) s1, acc.2 + 1)

/-- R423: cancel the host frets of a unit with a tag, 0 for all; how many were cancelled. -/
def cancelHost (u tag : Nat) (s : State) : State × Nat :=
  let mine (f : Fret) : Bool := f.live && decide (f.tag < 32768) && (tag == 0 || f.tag == tag)
  let due := (s.unit u).frets.filter fun f => mine f && firesNow s u f
  let r := due.foldl (raceFret u) (s, 0)
  let rest := ((r.1.unit u).frets.filter fun f => mine f && !due.any fun g => g.id == f.id).map (·.id)
  (cancelFrets u (fun f => rest.contains f.id) r.1, r.2 + rest.length)

/-- FRET_CANCEL: R423. -/
def reqFretCancel (h : Hdr) (unit tag : Nat) : Req :=
  { op := 1282, courses := onCourse0 + onCourse1, lenOk := exactly 4,
    judge := fun s => firstFail [(decide (32768 ≤ tag) || unitBeyond s unit, resRange),
      (decide (ownUnit s unit < 128) && linkDown s (ownLine s unit), resLocked)],
    effect := fun s => match unitRef s unit with
      | .follower p _ => (forwardTo h 1282 (le 2 ((unit : Nat) : Int) ++ le 2 ((tag : Nat) : Int)) p s, none)
      | .own u => let r := cancelHost u tag s; (r.1, some { detail := r.2 })
      | .beyond => (s, refuse resRange) }

def execFretCancel (h : Hdr) (unit tag : Nat) (s : State) : Out := request (reqFretCancel h unit tag) (.fretCancel h unit tag) h s

/-! ## UNIT_CMD -/

/-- An answer of the ledger turned into a reply: NO_CREDIT with its level, and no effect (R32, Table 14-2). -/
def credited (s : State) (r : Except Nat State) : State × Option Reply :=
  match r with
  | .ok s1 => (s1, okReply)
  | .error l => (noteShort l s, refuse resNoCredit l)

/-- R424: ON or PROFILE_START to an own unit. -/
def startUnit (u : Nat) (shot : Bool) (s : State) : Except Nat State :=
  let go (s : State) : State := if shot then commandShot u {} s else commandOn u {} s
  match (s.unit u).drive.mode with
  | .prop | .pairedMember => .ok (go s)
  | .pwm => if (s.unit u).drive.modeEnabled then .ok (go s) else (enableMode u s).map go
  | .onoff => if (s.unit u).drive.base != 0 then .ok (go s) else (acquireBase u (baseOf s u .onoff) false s).map go

/-- Steps 7 and 8 for a unit command (R424, R526, R527); an ON to a unit that R134 keeps off is refused with BAD_STATE (DESIGN CHOICE,
assumption 54). -/
def judgeUnitCmd (s : State) (unit cmd : Nat) : Option Reply :=
  match unitRef s unit with
  | .follower .. | .beyond => none
  | .own u =>
    let l := Line.unit u
    if cmd = 0 then firstFail [((s.secOf u).isSome || pairMember s u, resBadState), (linkDown s l, resLocked)]
    else firstFail ([((s.secOf u).isSome || pairMember s u || unusedUnit s u || faulted s u || staysOff s u, resBadState)] ++ driveChecks s l)

/-- UNIT_CMD: R222, R424. -/
def reqUnitCmd (h : Hdr) (unit cmd : Nat) : Req :=
  { op := 1297, courses := onCourse0, lenOk := exactly 4,
    judge := fun s => match firstFail [(decide (2 < cmd) || unitBeyond s unit, resRange)] with
      | some x => some x
      | none => judgeUnitCmd s unit cmd,
    effect := fun s => match unitRef s unit with
      | .follower p _ => (forwardTo h 1297 (le 2 ((unit : Nat) : Int) ++ le 1 ((cmd : Nat) : Int) ++ le 1 0) p s, none)
      | .own u => if cmd = 0 then (commandOff u s, okReply) else credited s (startUnit u (cmd == 2) s)
      | .beyond => (s, refuse resRange) }

def execUnitCmd (h : Hdr) (unit cmd : Nat) (s : State) : Out := requestOut (reqUnitCmd h unit cmd) (.unitCmd h unit cmd) h s

/-! ## UNIT_SETPOINT -/

/-- Steps 6 to 8 for a setpoint: only what would turn the output on needs it to be drivable. -/
def judgeSetpoint (s : State) (unit value : Nat) : Option Reply :=
  match unitRef s unit with
  | .follower .. | .beyond => none
  | .own u =>
    let l := Line.unit u
    let m := (s.unit u).drive.mode
    let on := decide (0 < value) && (m == UnitMode.prop || (s.unit u).drive.cycling)
    firstFail [(m == UnitMode.prop && decide (3000 < value), resRange),
      (m == UnitMode.onoff || (s.secOf u).isSome || pairMember s u || unusedUnit s u
        || (on && (!enabled s || regionOff s l || lineAway s l || faulted s u)), resBadState),
      (lineHeld s l || linkDown s l || (boundLoop s l).isSome, resLocked), (unavailable s l, resDenied)]

/-- UNIT_SETPOINT: R229, R234. -/
def reqUnitSetpoint (h : Hdr) (unit value : Nat) : Req :=
  { op := 1298, courses := onCourse0 + onCourse1, lenOk := exactly 8,
    judge := fun s => match firstFail [(decide (10000 < value) || unitBeyond s unit, resRange)] with
      | some x => some x
      | none => judgeSetpoint s unit value,
    effect := fun s => match unitRef s unit with
      | .follower p _ => (forwardTo h 1298 (le 2 ((unit : Nat) : Int) ++ le 2 0 ++ le 4 ((value : Nat) : Int)) p s, none)
      | .own u => (if (s.unit u).drive.mode == UnitMode.prop then setProp u value s else setDuty u value s, okReply)
      | .beyond => (s, refuse resRange) }

def execUnitSetpoint (h : Hdr) (unit value : Nat) (s : State) : Out :=
  request (reqUnitSetpoint h unit value) (.unitSetpoint h unit value) h s

/-! ## UNIT_MODE -/

/-- The mode that a MODE field names. -/
def modeOf (m : Nat) : UnitMode :=
  match m with
  | 0 => .onoff
  | 1 => .pwm
  | _ => .prop

/-- R228: the unit changes its mode: the old charge is released, the new one requested; a refusal leaves everything as it was. -/
def changeMode (u : Nat) (m : UnitMode) (s : State) : Except Nat State :=
  let s1 := (releaseBase u s).modDrive u fun d =>
    { d with mode := m, modeEnabled := false, modeWait := false, cycling := false, resume := false, nextCycle := none, setpoint := 0,
             phase := if d.phase == Phase.proportional then Phase.off else d.phase }
  let s2 := if m == UnitMode.onoff then Except.ok s1 else enableMode u s1
  s2.map fun s => (updateRail (clusterOf u) s).modBoost (dieOfUnit u) fun b => { b with running := boostWanted s (dieOfUnit u) && !b.fault }

/-- Steps 6 to 8 for a mode change (R228). -/
def judgeMode (s : State) (unit mode : Nat) : Option Reply :=
  match unitRef s unit with
  | .follower .. | .beyond => none
  | .own u =>
    let l := Line.unit u
    let c := s.unitCfg u
    firstFail [((mode == 1 && !pwmCapable c) || (mode == 2 && c.iMax.isNone), resRange),
      ((s.secOf u).isSome || pairMember s u || unusedUnit s u || !unitOff (s.unit u).drive
        || (s.unit u).frets.any Fret.inDie, resBadState),
      (lineHeld s l || linkDown s l || (boundLoop s l).isSome, resLocked), (unavailable s l, resDenied)]

/-- UNIT_MODE: R228. -/
def reqUnitMode (h : Hdr) (unit mode : Nat) : Req :=
  { op := 1299, courses := onCourse0, lenOk := exactly 4,
    judge := fun s => match firstFail [(decide (2 < mode) || unitBeyond s unit, resRange)] with
      | some x => some x
      | none => judgeMode s unit mode,
    effect := fun s => match unitRef s unit with
      | .follower p _ => (forwardTo h 1299 (le 2 ((unit : Nat) : Int) ++ le 1 ((mode : Nat) : Int) ++ le 1 0) p s, none)
      | .own u =>
        if (s.unit u).drive.mode == modeOf mode then (s, okReply) else credited s (changeMode u (modeOf mode) s)
      | .beyond => (s, refuse resRange) }

def execUnitMode (h : Hdr) (unit mode : Nat) (s : State) : Out := request (reqUnitMode h unit mode) (.unitMode h unit mode) h s

/-! ## UNIT_FAULT_CLEAR (R251) -/

/-- Clear one unit's own fault state unless its cause persists. -/
def clearUnit (still : List Nat) (u : Nat) (s : State) : State :=
  if (s.cluster (clusterOf u)).fault || still.contains u then s
  else s.modDrive u fun d => { d with fault := false, cause := 0 }

/-- A unit with its pair. -/
def clearPair (still : List Nat) (u : Nat) (s : State) : State :=
  match partner? s u with
  | some v => if still.contains u || still.contains v then s else clearUnit still v (clearUnit still u s)
  | none => clearUnit still u s

/-- A cluster and then its units, each judged on its own. -/
def clearCluster (stillU stillC : List Nat) (c : Nat) (s : State) : State :=
  let s1 := if stillC.contains c then s else s.modCluster c fun x => { x with fault := false, cause := 0 }
  (unitsOfCluster c).foldl (fun s u => clearPair stillU u s) s1

/-- Named elements in a fault state: units and clusters. -/
def faultedCount (s : State) (us cs : List Nat) : Nat :=
  (us.filter fun u => (s.unit u).drive.fault).length + (cs.filter fun c => (s.cluster c).fault).length

/-- What a request of KIND and an own NUMBER names: units, clusters, die. -/
def clearNames (kind n : Nat) : List Nat × List Nat :=
  match kind with
  | 0 => ([n], [])
  | 1 => (unitsOfCluster n, [n])
  | _ => (unitsOfDie n, clustersOfDie n)

/-- R251: the clear, and how many named elements stay in a fault state; none where nothing could be cleared. -/
def clearFaults (kind n : Nat) (stillU stillC : List Nat) (s : State) : State × Option Nat :=
  let names := clearNames kind n
  let before := faultedCount s names.1 names.2 + (if kind = 2 && (s.boostOf n).fault then 1 else 0)
  let s1 := match kind with
    | 0 => clearPair stillU n s
    | 1 => clearCluster stillU stillC n s
    | _ =>
      let s0 := s.modBoost n fun b => { b with fault := false, running := boostWanted s n }
      (clustersOfDie n).foldl (fun s c => clearCluster stillU stillC c s) s0
  let left := faultedCount s1 names.1 names.2
  if before ≠ 0 && left = before then (s, none) else (s1, some left)

/-- Step 6 of Table 14-1 for KIND and NUMBER. -/
def clearBeyond (s : State) (kind n : Nat) : Bool :=
  match kind with
  | 0 => unitBeyond s n
  | 1 => decide (15 < n)
  | 2 => !(n == 2 || n == 3)
  | _ => true

/-- UNIT_FAULT_CLEAR: R251, R526. `stillU` and `stillC` are the units and clusters whose cause or temperature persists. -/
def reqUnitFaultClear (h : Hdr) (kind n : Nat) (stillU stillC : List Nat) : Req :=
  { op := 1300, courses := onCourse0, lenOk := exactly 4,
    judge := fun s => firstFail [(clearBeyond s kind n, resRange),
      ((kind == 0 && decide (ownUnit s n < 128) && linkDown s (ownLine s n)) || (kind == 1 && (s.die (dieOfCluster n)).silent)
        || (kind == 2 && (s.die n).silent), resLocked)],
    effect := fun s =>
      let own (k : Nat) : State × Option Reply := match clearFaults kind k stillU stillC s with
        | (s1, some left) => (s1, some { detail := left })
        | (_, none) => (s, refuse resBadState)
      if kind = 0 then match unitRef s n with
        | .follower p _ => (forwardTo h 1300 (le 1 0 ++ le 1 0 ++ le 2 ((n : Nat) : Int)) p s, none)
        | .own u => own u
        | .beyond => (s, refuse resRange)
      else own n }

def execUnitFaultClear (h : Hdr) (kind number : Nat) (stillUnits stillClusters : List Nat) (s : State) : Out :=
  requestOut (reqUnitFaultClear h kind number stillUnits stillClusters) (.unitFaultClear h kind number stillUnits stillClusters) h s

/-! ## Reads and resets of latency tables -/

/-- The counters of Tables 07-6 and 06-3 in table order. -/
def unitCounters (s : State) (u : Nat) : List Nat :=
  let v := (s.unit u).valve
  let f := (s.unit u).fret
  [v.strokes, v.dipsMissed, v.kneesMissed, v.ttpShorts, v.ttpLongs, v.slotWaits, (s.cluster (clusterOf u)).crowdedEdges, v.restrikes,
   v.dutyClamped, v.cmdIgnored, v.rateShort, f.fired, f.late, f.clamped, f.discarded, f.cancelled, f.creditWaits, f.suspendCancels,
   f.latExcluded, f.latOutliers]

/-- One entry of UNIT_STATUS_READ: 84 bytes. -/
def unitEntry (s : State) (sense : Sense) (u : Nat) : List Byte :=
  le 4 ((unitWord s sense u : Nat) : Int) ++ (unitCounters s u).flatMap fun n => le 4 ((n : Nat) : Int)

/-- UNIT_STATUS_READ: R252. -/
def reqUnitStatusRead (h : Hdr) (first count : Nat) (sense : Sense) : Req :=
  { op := 1301, lenOk := exactly 4, changes := false,
    judge := fun s => firstFail [(outside 1 12 count || unitBeyond s first || unitBeyond s (first + count - 1)
      || first / 128 != (first + count - 1) / 128, resRange)],
    effect := fun s => match unitRef s first with
      | .follower p _ => (forwardTo h 1301 (le 2 ((first : Nat) : Int) ++ le 2 ((count : Nat) : Int)) p s, none)
      | .own u => (s, okData ((upFrom u count).flatMap (unitEntry s sense)))
      | .beyond => (s, refuse resRange) }

def execUnitStatusRead (h : Hdr) (first count : Nat) (sense : Sense) (s : State) : Out :=
  request (reqUnitStatusRead h first count sense) (.unitStatusRead h first count sense) h s

/-- Table 06-7: a latency bin entry. -/
def LatBin.bytes (b : LatBin) : List Byte :=
  le 4 ((b.mean : Nat) : Int) ++ le 4 ((b.var : Nat) : Int) ++ le 2 ((b.count : Nat) : Int) ++ le 1 ((b.runOut : Nat) : Int)
    ++ le 1 ((bit b.range + 2 * bit b.shifted : Nat) : Int) ++ le 4 ((b.seed : Nat) : Int)

/-- R209: a unit's table, opening entries first. -/
def latencyTable (s : State) (u : Nat) : List Byte :=
  [false, true].flatMap fun closing => (List.range 16).flatMap fun b => (latEntry s u closing b).bytes

/-- UNIT_LATENCY_READ: R209. -/
def reqUnitLatencyRead (h : Hdr) (unit : Nat) : Req :=
  { op := 1302, courses := onCourse0 + onCourse2, lenOk := exactly 4, changes := false,
    judge := fun s => firstFail [(unitBeyond s unit, resRange)],
    effect := fun s => match unitRef s unit with
      | .follower p _ => (forwardTo h 1302 (le 2 ((unit : Nat) : Int) ++ le 2 0) p s, none)
      | .own u => (s, okData (latencyTable s u))
      | .beyond => (s, refuse resRange) }

def execUnitLatencyRead (h : Hdr) (unit : Nat) (s : State) : Out := request (reqUnitLatencyRead h unit) (.unitLatencyRead h unit) h s

/-- R215: a table back to COUNT 0 with its seeds; SHIFTED keeps its value. -/
def clearedTable (t : Tbl LatBin) : Tbl LatBin :=
  t.map fun b => (b.1, { b.2 with count := 0, mean := 0, var := 0, runOut := 0, range := false })

/-- R215: a unit's table reset, and the copy that the journal keeps with it. -/
def resetLatency (u : Nat) (s : State) : State :=
  (s.modLearn u fun l => { l with opening := clearedTable l.opening, closing := clearedTable l.closing }).modStore fun x =>
    { x with savedLatency := x.savedLatency.map fun p =>
        if p.1 = u then (p.1, { p.2 with opening := clearedTable p.2.opening, closing := clearedTable p.2.closing }) else p }

/-- UNIT_LATENCY_RESET: R215; the reply comes after the journal commit. -/
def reqUnitLatencyReset (h : Hdr) (unit : Nat) : Req :=
  { op := 1303, courses := onCourse0, lenOk := exactly 4,
    judge := fun s => firstFail [(unit != 65535 && unitBeyond s unit, resRange)],
    effect := fun s =>
      if unit = 65535 then
        if partitionStopped s 5 then (s, refuse resStorage)
        else (commit ((upFrom 0 128).foldl (fun s u => if (tfind s.units u).isSome then resetLatency u s else s) s), okReply)
      else match unitRef s unit with
        | .follower p _ => (forwardTo h 1303 (le 2 ((unit : Nat) : Int) ++ le 2 0) p s, none)
        | .own u => if partitionStopped s 5 then (s, refuse resStorage) else (commit (resetLatency u s), okReply)
        | .beyond => (s, refuse resRange) }

def execUnitLatencyReset (h : Hdr) (unit : Nat) (s : State) : Out :=
  request (reqUnitLatencyReset h unit) (.unitLatencyReset h unit) h s

/-! ## A forwarded request at the follower -/

/-- A wire fret from its 16 bytes. -/
def fretFrom (bs : List Byte) : FretWire :=
  let at_ (o n : Nat) : Nat := leNat ((bs.drop o).take n)
  { pos := leInt (bs.take 8), action := at_ 8 1, flags := at_ 9 1, tag := at_ 10 2, discard := at_ 12 2, unit := at_ 14 2 }

/-- The request that forwarded bytes spell; none for another opcode. Conditions that only a measurement shows count as gone. -/
def forwardedReq (h : Hdr) (op : Nat) (bs : List Byte) : Option Req :=
  let at_ (o n : Nat) : Nat := leNat ((bs.drop o).take n)
  match op with
  | 1281 => some (reqFretArm h ((List.range (bs.length / 16)).map fun k => fretFrom (bs.drop (16 * k))))
  | 1282 => some (reqFretCancel h (at_ 0 2) (at_ 2 2))
  | 1297 => some (reqUnitCmd h (at_ 0 2) (at_ 2 1))
  | 1298 => some (reqUnitSetpoint h (at_ 0 2) (at_ 4 4))
  | 1299 => some (reqUnitMode h (at_ 0 2) (at_ 2 1))
  | 1300 => some (reqUnitFaultClear h (at_ 0 1) (at_ 2 2) [] [])
  | 1301 => some (reqUnitStatusRead h (at_ 0 2) (at_ 2 2) {})
  | 1302 => some (reqUnitLatencyRead h (at_ 0 2))
  | 1303 => some (reqUnitLatencyReset h (at_ 0 2))
  | _ => none

end Sys2Proof.Machine
end

