-- ==== Sys2Proof/Machine/RawOps.lean ====
section
/-! DEFINITION. Requests as bytes: the request that a message of Table 13-7 spells by Tables 14-3 to 14-15, its arrival through a
request ring that the host writes word by word (R383, R384), and its execution when it was held. -/

namespace Sys2Proof.Machine

/-- A signed number out of bytes at an offset. -/
def signedAt (p : List Byte) (o n : Nat) : Int := leInt ((p.drop o).take n)

/-- Whether bytes at an offset are reserved and not 0 (R409). -/
def resvAt (p : List Byte) (o n : Nat) : Nat := fieldAt p o n

/-- SYS and CFG, NAV: opcode, sum of the reserved fields, request. -/
def rawSys (s : State) (h : Hdr) (p : List Byte) : List (Nat × Nat × Req) :=
  let bs := (s.storage.staging.map (·.2)).getD []
  let img := { (Config.decodeImage bs).getD {} with container := { signatureOk := signedBy (s.storage.keyHash.getD []) bs } }
  [(257, 0, reqSysInfo), (258, 0, reqSysResync h {}),
   (259, resvAt p 1 1 + resvAt p 6 2, reqSysReplay h (fieldAt p 0 1) (fieldAt p 2 2) (fieldAt p 4 2)),
   (260, resvAt p 1 3, reqSysOutputs (fieldAt p 0 1) []),
   (261, resvAt p 1 3, reqSysPower (fieldAt p 0 1) (fieldAt p 4 4) [] s.power.state),
   (262, 0, reqSysReset (fieldAt p 0 4)),
   (263, resvAt p 6 2, reqSysTimeSet (fieldAt p 0 4) (fieldAt p 4 2) (fieldAt p 8 4)),
   (513, 0, reqCfgBegin (fieldAt p 0 4)), (514, 0, reqCfgWrite (fieldAt p 0 4) (p.drop 4)), (515, 0, reqCfgVerify img),
   (516, resvAt p 1 3, reqCfgCommit (fieldAt p 0 1) img),
   (517, resvAt p 1 3, reqCfgRead (fieldAt p 0 1) (fieldAt p 4 4) (fieldAt p 8 4)), (518, 0, reqCfgInfo),
   (769, resvAt p 2 2, reqNavSubscribe (fieldAt p 0 1) (fieldAt p 1 1)),
   (770, resvAt p 2 2, reqNavNavbitsSelect (fieldAt p 0 1) (fieldAt p 1 1)),
   (771, 0, reqNavRtcm p), (772, 0, reqNavStatusRead), (773, 0, reqNavRetentionClear (fieldAt p 0 4))]

/-- COV, FRET and UNIT. -/
def rawCov (h : Hdr) (p : List Byte) : List (Nat × Nat × Req) :=
  [(1025, resvAt p 26 2, reqCovFieldOpen (fieldAt p 0 4) (signedAt p 4 8) (signedAt p 12 8) (signedAt p 20 4) (fieldAt p 24 1)
     (fieldAt p 25 1)),
   (1026, 0, reqCovFieldClose), (1027, 0, reqCovFieldReset (fieldAt p 0 4)), (1028, 0, reqCovFieldDelete (fieldAt p 0 4)),
   (1029, 0, reqCovPolyLoad (fieldAt p 0 4) (p.drop 4)), (1030, 0, reqCovPolyCommit (fieldAt p 0 4) (fieldAt p 4 4)),
   (1031, resvAt p 2 2, reqCovMaster (fieldAt p 0 1) (fieldAt p 1 1)),
   (1032, resvAt p 3 1, reqCovSectionMode (fieldAt p 0 2) (fieldAt p 2 1)),
   (1033, resvAt p 5 3, reqCovExport (fieldAt p 0 4) (fieldAt p 4 1) (signedAt p 8 2) (signedAt p 10 2) (signedAt p 12 2)
     (signedAt p 14 2)),
   (1034, 0, reqCovReconcile), (1035, 0, reqCovCountersRead (fieldAt p 0 1) (fieldAt p 1 1) (fieldAt p 2 2)),
   (1281, 0, reqFretArm h ((List.range (p.length / 16)).map fun k => fretFrom (p.drop (16 * k)))),
   (1282, 0, reqFretCancel h (fieldAt p 0 2) (fieldAt p 2 2)),
   (1297, resvAt p 3 1, reqUnitCmd h (fieldAt p 0 2) (fieldAt p 2 1)),
   (1298, resvAt p 2 2, reqUnitSetpoint h (fieldAt p 0 2) (fieldAt p 4 4)),
   (1299, resvAt p 3 1, reqUnitMode h (fieldAt p 0 2) (fieldAt p 2 1)),
   (1300, resvAt p 1 1, reqUnitFaultClear h (fieldAt p 0 1) (fieldAt p 2 2) [] []),
   (1301, 0, reqUnitStatusRead h (fieldAt p 0 2) (fieldAt p 2 2) {}),
   (1302, resvAt p 2 2, reqUnitLatencyRead h (fieldAt p 0 2)), (1303, resvAt p 2 2, reqUnitLatencyReset h (fieldAt p 0 2))]

/-- LOOP, SW and IO. -/
def rawLoop (p : List Byte) : List (Nat × Nat × Req) :=
  [(1537, resvAt p 3 1, reqLoopMode (fieldAt p 0 1) (fieldAt p 1 1) (fieldAt p 2 1) (signedAt p 4 4)),
   (1538, resvAt p 1 3, reqLoopManual (fieldAt p 0 1) (signedAt p 4 4)),
   (1539, resvAt p 1 3, reqLoopSetpoint (fieldAt p 0 1) (signedAt p 4 4)),
   (1540, resvAt p 2 2, reqLoopCoefWrite (fieldAt p 0 1) (fieldAt p 1 1) (signedAt p 4 4)),
   (1541, resvAt p 2 2, reqLoopStatusRead (fieldAt p 0 1) (fieldAt p 1 1)),
   (1542, resvAt p 2 2, reqLoopStream (fieldAt p 0 1) (fieldAt p 1 1) (((p.drop 4).take 8).map (·.toNat))),
   (1543, resvAt p 1 3, reqLoopRateSet (fieldAt p 0 1) (fieldAt p 4 4)),
   (1544, resvAt p 1 1 + resvAt p 6 2, reqLoopRateFactors (fieldAt p 0 1) (fieldAt p 2 2) (fieldAt p 4 2)
     ((List.range ((p.length - 8) / 4)).map fun k => fieldAt p (8 + 4 * k) 4)),
   (1793, 0, reqSwSet (fieldAt p 0 4) (fieldAt p 4 4) []), (1794, resvAt p 1 1, reqSwPwmDuty (fieldAt p 0 1) (fieldAt p 2 2)),
   (1795, resvAt p 1 3, reqSwUnlock (fieldAt p 0 1)), (1796, resvAt p 2 2, reqSwStatusRead (fieldAt p 0 1) (fieldAt p 1 1) {}),
   (1797, 0, reqSwVentRead),
   (1798, resvAt p 9 3, reqSwLimpFuseProgram ((p.take 8).map (·.toNat)) (fieldAt p 8 1) (fieldAt p 12 4) true),
   (1799, 0, reqSwLimpFuseRead), (1809, 0, reqIoOutputSet (fieldAt p 0 2) (fieldAt p 2 2)), (1810, 0, reqIoOutputRead {}),
   (1811, 0, reqIoInputRead {}), (1812, 0, reqIoAnalogRead), (1813, resvAt p 1 3, reqIoFaultClear (fieldAt p 0 1) false),
   (1814, resvAt p 1 3, reqIoGroupRearm (fieldAt p 0 1))]

/-- BUS, EVT, REC and MNT. -/
def rawBus (s : State) (p : List Byte) : List (Nat × Nat × Req) :=
  -- The Amieraden key is the device's own (R357); the verdict is a free value.
  let fw : Firmware := { signatureOk := signedBy [] ((s.storage.fwStaging.map (·.2)).getD []) }
  [(2049, resvAt p 3 1, reqBusFilterSet (fieldAt p 0 1) (fieldAt p 1 1) (fieldAt p 2 1) (fieldAt p 4 4) (fieldAt p 8 4)),
   (2050, resvAt p 1 3, reqBusStatusRead (fieldAt p 0 1)), (2051, 0, reqBusSystemRead),
   (2305, 0, reqEvtSourceSet (fieldAt p 0 1) (fieldAt p 1 1) (fieldAt p 2 1) (fieldAt p 3 1)),
   (2306, resvAt p 6 2, reqEvtTargetSet (fieldAt p 0 1) (fieldAt p 1 1) (fieldAt p 2 1) (fieldAt p 3 1) (fieldAt p 4 2)),
   (2307, resvAt p 2 2, reqEvtReroute (fieldAt p 0 1) (fieldAt p 1 1)),
   (2308, resvAt p 2 2, reqEvtCountersRead (fieldAt p 0 1) (fieldAt p 1 1)),
   (2561, resvAt p 1 3, reqRecRead (fieldAt p 0 1) (fieldAt p 4 4) (fieldAt p 8 4)), (2562, 0, reqRecFreeze), (2563, 0, reqRecThaw),
   (2564, resvAt p 2 2, reqRecFaultsRead (fieldAt p 0 2)), (2817, 0, reqMntInfo), (2818, 0, reqMntFwBegin (fieldAt p 0 4)),
   (2819, 0, reqMntFwWrite (fieldAt p 0 4) (p.drop 4)), (2820, 0, reqMntFwCommit fw),
   (2821, 0, reqMntPartition (fieldAt p 0 4) (fieldAt p 4 4)), (2822, 0, reqMntCfgKeyFuse (p.take 64) (fieldAt p 64 4))]

/-- R408: the request that an opcode and a payload spell, and the sum of its reserved fields; an opcode that level 4 lacks gives one
that is refused. -/
def rawReq (s : State) (h : Hdr) (op : Nat) (p : List Byte) : Nat × Req :=
  let g := groupOf op
  let rows := if g ≤ 3 then rawSys s h p else if g ≤ 5 then rawCov h p else if g ≤ 7 then rawLoop p else rawBus s p
  match rows.find? fun x => x.1 == op with
  | some x => x.2
  | none => (0, { op := op, known := false, lenOk := fun _ => true, effect := fun s => (s, none) })

/-! ## A message as bytes (Table 13-7) -/

/-- The header of a request's bytes, its CRC judged when the message is whole. -/
def rawHdr (t n : Nat) (bs : List Byte) : Hdr :=
  { t := t, course := n, seq := fieldAt bs 0 2, ack := fieldAt bs 2 2, len := fieldAt bs 6 2, tag := fieldAt bs 8 3,
    epoch := fieldAt bs 11 1,
    crcOk := fieldAt bs 12 4 == (crc32c (bs.take 12 ++ (bs.drop 16).take (fieldAt bs 6 2))).toNat }

/-- What a message's bytes ask for: header and request. -/
def rawMessage (t n : Nat) (bs : List Byte) (s : State) : Hdr × Req :=
  let h := rawHdr t n bs
  let r := rawReq s h (fieldAt bs 4 2) ((bs.drop 16).take h.len)
  ({ h with resv := r.1 }, r.2)

/-- A message as the window write that a course holds it as. -/
def rawItem (t n : Nat) (bs : List Byte) : Instr :=
  let words := (List.range (bs.length / 4)).map fun k => BitVec.ofNat 32 (fieldAt bs (4 * k) 4)
  .registerWrite t { header := BitVec.ofNat 32 (2147483648 + (4096 + 4096 * n) * 4096 + (words.length - 1)), words := words }

/-- The bytes of a held message. -/
def itemBytes (x : Spi) : List Byte := x.words.flatMap fun w => le 4 (w.toNat : Int)

/-- One whole message stands in the ring of course `n`: taken now or held. -/
def rawArrive (n : Nat) (bs : List Byte) (s : State) : State :=
  let m := rawMessage s.devtime n bs s
  takeOrHold m.2 (rawItem s.devtime n bs) m.1 { s with freeCount := s.freeCount + 1 }

/-- A held message is taken. -/
def rawTake (n : Nat) (x : Spi) (s : State) : State :=
  let m := rawMessage s.devtime n (itemBytes x) s
  take m.2 m.1 ({ s with freeCount := s.freeCount + 1 }.modCourse n fun c => { c with taking := false })

/-! ## The request ring (R383, R384, R387) -/

/-- `k` bytes of a course's request ring from an offset. -/
def ringRead (s : State) (n off k : Nat) : List Byte :=
  (List.range k).map fun i => Memory.read s.host.ringBytes (4096 + 4096 * n + (off + i) % 4096)

/-- The messages from the last whole one up to REQ_WR: whole ones arrive in order, and one that is cut off is timed (R384). A LENGTH
above 1,024 makes everything up to REQ_WR one corrupt message. -/
def drainRing (n : Nat) : Nat → State → State
  | 0, s => s
  | k + 1, s =>
    let c := s.course n
    let avail := (c.reqWr + 4096 - c.reqEnd % 4096) % 4096
    let len := leNat (ringRead s n (c.reqEnd + 6) 2)
    if avail = 0 then s.modCourse n fun c => { c with stallAt := none }
    else if avail < 16 then s.modCourse n fun c => { c with stallAt := some (c.stallAt.getD s.devtime) }
    else if 1024 < len then
      rawArrive n (ringRead s n c.reqEnd 16) (s.modCourse n fun c => { c with reqEnd := c.reqWr, stallAt := none })
    else if avail < msgSize len then s.modCourse n fun c => { c with stallAt := some (c.stallAt.getD s.devtime) }
    else
      let s1 := s.modCourse n fun c => { c with reqEnd := (c.reqEnd + msgSize len) % 4096, stallAt := none }
      drainRing n k (rawArrive n (ringRead s n c.reqEnd (msgSize len)) s1)

/-- The host writes REQ_WR of a course. -/
def writeReqWr (n v : Nat) (s : State) : State := drainRing n 257 (s.modCourse n fun c => { c with reqWr := v % 4096 })

end Sys2Proof.Machine
end

