-- ==== Sys2Proof/Machine/BusOps.lean ====
section
/-! DEFINITION. Gateway buffers (R436 to R440), frames from the host over ISO 11783 (R405 to R407), and what a CAN controller sends. -/

namespace Sys2Proof.Machine

/-! ## Gateway transmission -/

/-- Whether a controller runs ISO 11783 (R441). -/
def isobusOn (s : State) (n : Nat) : Bool := (s.canCfg n).isobus

/-- Status bits [12:8] of a buffer. -/
def gwStatus (g : GwBuffer) : Nat :=
  pack [(bit g.transmitted, 0), (bit g.txFailed, 1), (bit g.cancelled, 2), (bit g.cancelLate, 3), (bit g.refused, 4)]

/-- R460: a gateway transmission ended; the event's payload holds the buffer and its status bits. -/
def gwEnded (n b : Nat) (s : State) : State := edge (232 + n) b (gwStatus (s.gw n b)) s

/-- R440: whether the controller may not send this frame. -/
def gwRefused (s : State) (n : Nat) (f : CanFrame) : Bool :=
  isobusOn s n && match (s.canOf n).addr with
    | none => true
    | some a => f.ext && f.id % 256 != a

/-- R433: the buffer of a controller whose frame would win arbitration: the lowest identifier, base before extended at equal base
bits, then the lowest number. -/
def gwNext (s : State) (n : Nat) : Option Nat :=
  let key (f : CanFrame) : Nat := if f.ext then 2 * (f.id / 262144) + 1 else 2 * f.id
  ((upFrom 0 16).filter fun b => (s.gw n b).pending).foldl (fun m b => match m with
    | none => some b
    | some c =>
      let f := (s.gw n b).frame
      let g := (s.gw n c).frame
      if key f < key g || (key f = key g && decide (f.id < g.id)) then some b else some c) none

/-- R437: the bindings that have waited for the bus take effect. -/
def bindWaiting (n : Nat) (s : State) : State :=
  (s.canOf n).binds.foldl (fun s b => bindBuffer n b.1 b.2.1 b.2.2.1 b.2.2.2 s) (s.modCan n fun c => { c with binds := [] })

/-- R433: on an idle bus the controller offers the frame that would win; none while it is bus-off. -/
def offerNext (n : Nat) (s : State) : State :=
  s.modCan n fun c => { c with offered := if c.st = 2 then none else gwNext s n }

/-- R433, R437: the bus becomes idle: bindings take effect, and the next frame is offered. -/
def busIdle (n : Nat) (s : State) : State := offerNext n (bindWaiting n s)

/-- R440: TX_REQ. The frame in the buffer waits for the bus, or is refused. -/
def txRequest (n b : Nat) (s : State) : State :=
  let g := s.gw n b
  if !g.enable || !g.tx || g.pending then s
  else if gwRefused s n g.frame then gwEnded n b (s.modGw n b fun g => { g with refused := true })
  else
    let s1 := s.modGw n b fun g => { g with pending := true, retries := 0 }
    if (s.canOf n).offered.isSome then s1 else offerNext n s1

/-- The frame of a buffer as it goes out. -/
def gwFrame (g : GwBuffer) : CanFrame := { g.frame with data := padTo g.length g.frame.data }

/-- The end of a gateway transmission that was sent (R438, Table 15-4). -/
def gwSent (n b : Nat) (late : Bool) (s : State) : State :=
  let f := gwFrame (s.gw n b)
  let s1 := (s.modGw n b fun g =>
      { g with pending := false, transmitted := true, cancelLate := g.cancelLate || late, frames := (g.frames + 1) % 65536,
               timeStamp := s.devtime }).modCan n
    fun c => { c with txFrames := (c.txFrames + 1) % 4294967296, sent := c.sent ++ [f] }
  busIdle n (gwEnded n b s1)

/-- The end of a gateway transmission that failed. -/
def gwFailed (n b : Nat) (late : Bool) (s : State) : State :=
  busIdle n (gwEnded n b (s.modGw n b fun g => { g with pending := false, txFailed := true, cancelLate := g.cancelLate || late }))

/-- R436: CANCEL of a pending transmission, by how far it has gone (Table 15-3). -/
def cancelTx (n b : Nat) (p : TxPhase) (s : State) : State :=
  let g := s.gw n b
  if !g.enable || !g.tx || !g.pending then s
  else if p.sending && p.afterArbitration then (if p.completes then gwSent n b true s else gwFailed n b true s)
  else
    let s1 := gwEnded n b (s.modGw n b fun g => { g with pending := false, cancelled := true })
    if (s.canOf n).offered = some b then offerNext n s1 else s1

/-! ## Gateway reception -/

/-- R438: a frame is written into a receive buffer. -/
def gwWrite (n b : Nat) (f : CanFrame) (t : Nat) (s : State) : State :=
  s.modGw n b fun g =>
    { g with frame := { f with data := f.data }, length := f.data.length, timeStamp := t, full := true,
             frames := (g.frames + 1) % 65536, lost := if g.full then (g.lost + 1) % 65536 else g.lost }

/-- R438, R439: a received frame at its buffer: written, or kept in the shadow while LOCK is set. -/
def gwReceive (n b : Nat) (f : CanFrame) (s : State) : State :=
  let g := s.gw n b
  if g.lock then
    s.modGw n b fun g => { g with shadow := some (f, s.devtime), lost := if g.shadow.isSome then (g.lost + 1) % 65536 else g.lost }
  else gwWrite n b f s.devtime s

/-- R438: the lowest-numbered receive buffer that matches a frame. -/
def gwMatch (s : State) (n : Nat) (f : CanFrame) : Option Nat :=
  (upFrom 0 16).find? fun b =>
    let g := s.gw n b
    g.enable && !g.tx && g.filterExt == f.ext && (Nat.xor f.id g.filterId).land g.filterMask == 0

/-- R10, R439: LOCK of a buffer, which holds the value written; clearing it writes the shadow, if a receive buffer has one, into the
buffer. -/
def setLock (n b : Nat) (v : Bool) (s : State) : State :=
  let g := s.gw n b
  if v then s.modGw n b fun g => { g with lock := true }
  else
    let s1 := s.modGw n b fun g => { g with lock := false, shadow := none }
    match g.shadow with
    | some (f, t) => gwWrite n b f t s1
    | none => s1

/-- R439: HOST_SILENT clears every LOCK. -/
def clearLocks (s : State) : State :=
  [0, 1, 2, 3].foldl (fun s n => (upFrom 0 16).foldl (fun s b => if (s.gw n b).lock then setLock n b false s else s) s) s

/-- A host write of one word of a gateway buffer (Table 15-4). -/
def gwStore (n b off w : Nat) (s : State) : State :=
  if off = 0 then
    let s1 := s.modGw n b fun g =>
      { g with full := g.full && !bitAt w 3, transmitted := g.transmitted && !bitAt w 8, txFailed := g.txFailed && !bitAt w 9,
               cancelled := g.cancelled && !bitAt w 10, cancelLate := g.cancelLate && !bitAt w 11, refused := g.refused && !bitAt w 12 }
    let s2 := if bitAt w 2 == (s1.gw n b).lock then s1 else setLock n b (bitAt w 2) s1
    let s3 := if bitAt w 4 then txRequest n b s2 else s2
    if bitAt w 5 then cancelTx n b {} s3 else s3
  else if !(s.gw n b).tx then s
  else if off = 4 then
    s.modGw n b fun g => { g with frame := { g.frame with id := w % 536870912, ext := bitAt w 29, fdf := bitAt w 30, brs := bitAt w 31 } }
  else if off = 16 then s.modGw n b fun g => { g with length := w % 128 }
  else if 64 ≤ off then
    let i := off - 64
    s.modGw n b fun g =>
      let d := padTo 64 g.frame.data
      { g with frame := { g.frame with data := d.take i ++ le 4 ((w : Nat) : Int) ++ d.drop (i + 4) } }
  else s

/-! ## Heartbeat, queue and courses: one operation for every way in -/

/-- R395, R397: a heartbeat restarts the timeout and ends host silence; a write of the value already there is none. -/
def beat (v : Nat) (s : State) : State :=
  if v = s.host.beat then s
  else
    let s1 := s.modHost fun h =>
      { h with beat := v, beatSeen := true, beatAt := h.beatAt.map fun _ => s.devtime }
    if s.host.silent then
      let ms := (s.devtime - s.host.beatAt.getD s.devtime) / 1000
      offerOne 12 0 ((ms : Nat) : Int) (fault 21 0 0 1 0 (s1.modHost fun h => { h with silent := false }))
    else s1

/-- R381: a write to HQ_RD claims the records from the old index up to the new one, if the queue holds them. -/
def writeHqRd (v : Nat) (s : State) : State :=
  let k := (v + 256 - s.events.hqRd) % 256
  if (s.tgt 9).queue.length < k then s
  else claimRecords 9 k (s.modEvents fun e => { e with hqRd := v % 256 })

/-- Table 13-4: COUNT and TIME; a COUNT of 0 is ignored. -/
def writeCoalescing (w : Nat) (s : State) : State :=
  s.modTgt 9 fun t => { t with count := if w % 256 = 0 then t.count else w % 256, timeUs := w / 65536 % 65536 }

/-- Table 13-4: THRESHOLD, WAKE_ON_QUEUE and an acknowledge (R469). -/
def writeThreshold (w : Nat) (s : State) : State :=
  let s1 := s.modTgt 9 fun t => { t with threshold := w % 16, wake := bitAt w 13 }
  if bitAt w 12 then acknowledge 9 (bitsAt w 8 4) s1 else s1

/-- R382: a snapshot of DEVTIME with a fraction of `ns`. -/
def takeSnapshot (ns : Nat) (s : State) : State :=
  s.modHost fun h => { h with snap := s.devtime, snapNs := ns % 1000, snapCount := (h.snapCount + 1) % 4294967296 }

/-- Messages of a reply ring, oldest first, that hold the last `left` bytes. -/
def unread : List DevMsg → Nat → List DevMsg
  | [], _ => []
  | m :: r, left => if left ≤ (r.map fun x => msgSize x.payload.length).foldl (· + ·) 0 then unread r left else m :: r

/-- R383: the host moves RPL_RD forward; a value past RPL_WR is ignored. -/
def writeRplRd (n v : Nat) (s : State) : State :=
  let c := s.course n
  let go := (v + 4096 - c.rplRd) % 4096
  if c.used < go then s
  else s.modCourse n fun c => { c with rplRd := v % 4096, ring := unread c.ring ((c.rplWr + 4096 - v % 4096) % 4096) }

/-- HOST_CTRL: IRQ_EN, and OUT_DISABLE, which disables outputs (R394). -/
def writeHostCtrl (w : Nat) (cs : Clamps) (s : State) : State :=
  let s1 := s.modHost fun h => { h with irqEn := bitAt w 0 }
  if bitAt w 1 then disableOutputs cs s1 else s1

/-! ## SPI transactions (R374 to R379) -/

/-- Whether a window address belongs to the courses' blocks and request rings. -/
def courseSpace (a : Nat) : Bool := (256 ≤ a && a < 512) || (4096 ≤ a && a < 20480)

/-- R360, R405, R450: addresses that ignore a write now. -/
def writeBlocked (s : State) (a : Nat) : Bool :=
  courseless s || (s.start.maint && !(a == 12 || a == 16 || courseSpace a))
    || (s.isobusLink.isSome && (a == 12 || a == 16 || courseSpace a))

/-- One word of a write (Tables 13-2 to 13-6): fields that are read-only and unlisted addresses ignore it. -/
def writeWord (a w : Nat) (s : State) : State :=
  if writeBlocked s a then s
  else if a = 12 then writeHostCtrl w [] s
  else if a = 16 then beat w s
  else if a = 36 then writeHqRd (w % 256) s
  else if a = 40 then writeCoalescing w s
  else if a = 44 then writeThreshold w s
  else if 256 ≤ a && a < 512 then
    let n := (a - 256) / 64
    if (a - 256) % 64 = 0 then writeReqWr n (w % 4096) s
    else if (a - 256) % 64 = 12 then writeRplRd n (w % 4096) s
    else s
  else if 4096 ≤ a && a < 20480 then
    s.modHost fun h =>
      { h with ringBytes := (List.range 4).foldl (fun m i => Memory.write m (a + i) (BitVec.ofNat 8 (w / 256 ^ i))) h.ringBytes }
  else if 40960 ≤ a && a < 49152 then
    gwStore ((a - 40960) / 2048) ((a - 40960) % 2048 / 128) ((a - 40960) % 128) w s
  else if a = 49160 && bitAt w 0 then
    let r := s.free
    takeSnapshot (r.1 % 1000).toNat r.2
  else s

/-- Fields of the header word (Table 13-1). -/
def spiIsWrite (x : Spi) : Bool := x.header.getLsbD 31
def spiAddr (x : Spi) : Nat := bitsAt x.header.toNat 12 16
def spiCount (x : Spi) : Nat := bitsAt x.header.toNat 0 12

/-- R377: the CRC word that belongs to a transaction's header and data. -/
def spiGoodCrc (x : Spi) : Nat := (crc16 ((x.header :: x.words).flatMap wireBytes)).toNat

/-- R378: why a transaction is refused. A read that ends early is not. -/
def spiRefused (x : Spi) : Bool :=
  bitsAt x.header.toNat 28 3 != 0 || decide (1023 < (spiCount x)) || spiAddr x % 4 != 0 || decide (65536 < spiAddr x + 4 * (spiCount x + 1))
    || (spiIsWrite x && (!x.complete || x.words.length != spiCount x + 1 || x.crc.toNat != (spiGoodCrc x)))

/-- R378: a refusal sets SPI_ERR and counts. -/
def spiRefuse (s : State) : State :=
  edge 24 0 0 (s.modHost fun h => { h with spiErr := true, badXfers := (h.badXfers + 1) % 256 })

/-- R380: reading DEVTIME_LO latches DEVTIME_HI. -/
def latchHi (s : State) : State := s.modHost fun h => { h with devtimeHi := s.devtime / 4294967296 % 4294967296 }

/-- R376, R377, R379: what a read of `k` words drives: STATUS, the turnaround word, the data and the CRC word over the header as
received and the data. A refused read drives 0 and the inverse of the correct CRC (R378). -/
def readOut (status : Nat) (header : Word) (data : List Nat) (good : Bool) : List Nat :=
  let ws := if good then data else data.map fun _ => 0
  let crc := (crc16 ((header :: ws.map (BitVec.ofNat 32)).flatMap wireBytes)).toNat
  status :: 0 :: (ws ++ [if good then crc else 4294967295 - crc])

/-- R375, R376, R378: the words on HMISO in a transaction; STATUS is that of the falling edge of HCS_N (R379), and after it a write
drives 0. -/
def spiOut (x : Spi) (s : State) : List Nat :=
  let k := spiCount x + 1
  if spiIsWrite x then statusWord s :: List.replicate (k + 1) 0
  else readOut (statusWord s) x.header ((List.range k).map fun i => windowWord (latchHi s) (spiAddr x + 4 * i)) (!spiRefused x)

/-- The device drives words on HMISO. -/
def drives (ws : List Nat) (s : State) : State := s.modHost fun h => { h with hmiso := ws }

/-- A transaction that is not refused clears SPI_ERR; one in NAP or before the window answers is ignored (R341, R353). -/
def spiGood (f : State → State) (s : State) : State :=
  if awake s then f (drives [statusWord s, 0, 0] (s.modHost fun h => { h with spiErr := false })) else drives (if s.power.supplies then [] else [0, 0, 0]) s

/-- R380: a read of DEVTIME_LO, whose header is 0x0C00_0000 (Table 13-1). -/
def readDevtimeLo (s : State) : State :=
  latchHi (drives (readOut (s.host.hmiso.headD 0) 201326592 [windowWord s 49152] true) s)

/-- R376, R380: whether a read clocks DEVTIME_LO out; `words` are those of a read that HCS_N ends early. -/
def latches (x : Spi) : Bool :=
  spiAddr x ≤ 49152 && 49152 < spiAddr x + 4 * (if x.complete then spiCount x + 1 else min (spiCount x + 1) x.words.length)

/-- One SPI transaction: a write applies its words together, in order (R375); a read only latches (R376, R380). Before the end of
start-up step 3 every word reads 0 (R353). -/
def spiTransact (x : Spi) (s : State) : State :=
  if !awake s then drives (if s.power.supplies then [] else List.replicate (spiCount x + 4) 0) s
  else if spiRefused x then drives (spiOut x s) (spiRefuse s)
  else
    let s1 := drives (spiOut x s) (s.modHost fun h => { h with spiErr := false })
    if spiIsWrite x then (x.words.zipIdx).foldl (fun s w => writeWord (spiAddr x + 4 * w.2) w.1.toNat s) s1
    else if latches x then latchHi s1 else s1

end Sys2Proof.Machine
end

