-- ==== Sys2Proof/Machine/EvCan.lean ====
section
/-! DEFINITION. The CAN controllers (R430 to R440), ISO 11783 (R441 to R445) and the host link over it (R405 to R407). A row that is not
due changes nothing. Layouts of ISO 11783 and SAE J1939 messages are PRESUMED (assumption 23). -/

namespace Sys2Proof.Machine

/-- A row about one controller; none acts while D0 sleeps. -/
def aboutCan (t ctrl : Nat) (f : State → State) (s : State) : Out :=
  about "controller" ctrl 4 t (fun s => if awake s then f s else s) s

/-- A row of Bus, the core of the bus stacks (R22): one that comes while the core is out of service is not yet due. -/
def aboutBus (t ctrl : Nat) (f : State → State) (s : State) : Out :=
  aboutCan t ctrl (fun s => if coreOut s 4 then s else f s) s

/-- The firmware hands a frame or a message to the bus. -/
def canSend (n : Nat) (f : CanFrame) (s : State) : State := s.modCan n fun c => { c with sent := c.sent ++ [f] }

/-- An ISO 11783 message from the claimed address, if the device may send (R442). -/
def isoSend (n pgn dst : Nat) (bs : List Byte) (s : State) : State :=
  if isoMaySend s n then
    canSend n { id := isoId pgn dst ((s.canOf n).addr.getD 254), ext := true, data := bs } s
  else s

/-! ## ISO 11783 addresses (R442) -/

/-- The PGN of an extended identifier; of one sent to an address, without that address. -/
def pgnOf (id : Nat) : Nat := if id / 65536 % 256 < 240 then id / 65536 % 1024 * 256 else id / 256 % 262144

/-- The destination of an extended identifier; 255 is every node. -/
def dstOf (id : Nat) : Nat := if id / 65536 % 256 < 240 then id / 256 % 256 else 255

/-- A claim of `a`, or Cannot Claim from 254. -/
def sendClaim (n a : Nat) (s : State) : State :=
  canSend n { id := isoId 60928 255 a, ext := true, data := le 8 ((s.cfg.buses.name : Nat) : Int) } s

/-- R442: the next address after one that is lost: 128 to 247 in turn, the preferred one only first. -/
def nextAddr (pref a : Nat) : Option Nat :=
  let b := if a = pref then 128 else a + 1
  let b := if b = pref then b + 1 else b
  if b ≤ 247 then some b else none

/-- R442: no address is left. -/
def cannotClaim (n : Nat) (s : State) : State :=
  fault 236 n 0 3 0 (sendClaim n 254 (s.modCan n fun c => { c with addr := none, claiming := none, cannotClaim := true }))

/-- R442: claim `a`. -/
def beginClaim (n a : Nat) (s : State) : State :=
  sendClaim n a (s.modCan n fun c => { c with addr := none, claiming := some (a, s.devtime) })

/-- R442: one claim and its outcome: the preferred address first; a lost one is followed by the next. -/
def claimAddress (n : Nat) (won : Bool) (s : State) : State :=
  let pref := s.cfg.buses.preferredAddr
  let c := s.canOf n
  if !s.start.configActive || !isobusOn s n || c.cannotClaim || c.st == 2 then s
  else
    let s1 := if c.claiming.isNone then beginClaim n pref s else s
    let a := ((s1.canOf n).claiming.map (·.1)).getD pref
    if won then s1.modCan n fun c => { c with addr := some a }
    else if !s.cfg.buses.selfConfigurable then cannotClaim n s1
    else match nextAddr pref a with
      | some b => beginClaim n b s1
      | none => cannotClaim n s1

/-- R442. -/
def execAddressClaim (t ctrl : Nat) (won : Bool) (s : State) : Out := aboutBus t ctrl (claimAddress ctrl won) s

/-! ## Diagnostic messages (R445) -/

/-- R445: SPN 520192 plus the class, FMI 31, the count saturated at 126. -/
def dmEntry (f : OpenFault) : List Byte :=
  let spn := 520192 + f.cls
  le 2 ((spn % 65536 : Nat) : Int) ++ le 1 ((spn / 65536 * 32 + 31 : Nat) : Int) ++ le 1 ((capTo 126 f.count : Nat) : Int)

/-- The faults of severity 3 and 4. -/
def dmFaults (s : State) : List OpenFault := s.faults.opened.filter fun f => decide (3 ≤ f.severity)

/-- Lamps: red stop for severity 4, amber warning for severity 3. -/
def dmLamps (fs : List OpenFault) : Nat :=
  pack [(bit (fs.any fun f => f.severity == 3), 2), (bit (fs.any fun f => f.severity == 4), 4)]

/-- R445: DM1 is due every second and when its content changes. -/
def dm1Due (s : State) (n : Nat) : Bool :=
  (dmFaults s).map (·.cls) != s.zither.dm1 || match (s.canOf n).dm1At with
    | some t => decide (t + 1000000 ≤ s.devtime)
    | none => true

/-- R445: DM1. -/
def sendDm1 (n : Nat) (s : State) : State :=
  let fs := dmFaults s
  let s1 := (s.modZ fun z => { z with dm1 := fs.map (·.cls), dm1Lamps := dmLamps fs }).modCan n fun c => { c with dm1At := some s.devtime }
  isoSend n 65226 255 (le 1 ((dmLamps fs : Nat) : Int) ++ le 1 255 ++ fs.flatMap dmEntry) s1

/-- R445. -/
def execDm1 (t ctrl : Nat) (s : State) : Out :=
  aboutBus t ctrl (fun s => if isobusOn s ctrl && isoMaySend s ctrl && dm1Due s ctrl then sendDm1 ctrl s else s) s

/-- R445: DM2, the last 32 faults that have cleared, to a node that asks. -/
def sendDm2 (n dst : Nat) (s : State) : State :=
  isoSend n 65227 dst (le 1 ((dmLamps (dmFaults s) : Nat) : Int) ++ le 1 255 ++ s.faults.closed.flatMap dmEntry) s

/-! ## Task controller (R444) -/

/-- The section unit of a task-controller section. -/
def tcUnit (s : State) (sect : Nat) : Option Nat := (s.cfg.buses.tcSections.take 256)[sect]?

/-- R444: the condensed state of 16 sections from `first`, 2 bits each: 0 off, 1 on, 3 not a section. -/
def condensed (s : State) (first : Nat) : Nat :=
  (List.range 16).foldl (fun a k => a + 4 ^ k * (match tcUnit s (first + k) with
    | some u => bit (s.unit u).sect.on
    | none => 3)) 0

/-- R444: the setpoint last received for a section; 3 before any (DESIGN CHOICE, assumption 58). -/
def tcAsked (s : State) (sect : Nat) : Nat := tget s.zither.tcSetpoints 3 sect

/-- R444: what a DDI reads: actual work state, section control state, actual condensed work state, and the setpoints last received. -/
def tcValue (s : State) (ddi sect : Nat) : Option Nat :=
  if ddi = 141 then (tcUnit s sect).map fun u => bit (s.unit u).sect.on
  else if ddi = 160 then (tcUnit s sect).map fun u => bit ((s.unit u).sect.hostMode == 0)
  else if 161 ≤ ddi && ddi ≤ 176 then some (condensed s (16 * (ddi - 161)))
  else if ddi = 289 then (tcUnit s sect).map fun _ => tcAsked s sect
  else if 290 ≤ ddi && ddi ≤ 305 then
    some ((List.range 16).foldl (fun a k =>
      a + 4 ^ k * (if (tcUnit s (16 * (ddi - 290) + k)).isSome then tcAsked s (16 * (ddi - 290) + k) else 3)) 0)
  else none

/-- A process-data message: command, element, DDI and value. -/
def processData (cmd elem ddi : Nat) (v : Int) : List Byte := le 2 ((cmd + 16 * elem : Nat) : Int) ++ le 2 ((ddi : Nat) : Int) ++ le 4 v

/-- The controllers on which the device speaks ISO 11783. -/
def isoControllers (s : State) : List Nat := [0, 1].filter (isobusOn s)

/-- R444: whether a DDI is to be reported: its value has changed since its last report, or the task controller's interval has passed. -/
def tcDue (s : State) (ddi sect v : Nat) : Bool :=
  match s.zither.tcLast.lookup (ddi, sect) with
  | none => true
  | some (w, at_) => v != w || match s.zither.tcIntervals.lookup (ddi, sect) with
    | some ms => ms != 0 && decide (at_ + 1000 * ms ≤ s.devtime)
    | none => false

/-- R444: a report of a DDI to the task controller. -/
def reportTc (ddi sect : Nat) (s : State) : State :=
  if !s.cfg.buses.tcEnabled || !s.zither.tcConnected then s
  else match tcValue s ddi sect with
    | none => s
    | some v =>
      if !tcDue s ddi sect v then s else
      let s1 := s.modZ fun z =>
        { z with tcReports := z.tcReports ++ [(ddi, sect, v)],
                 tcLast := ((ddi, sect), (v, s.devtime)) :: z.tcLast.filter fun x => x.1 != (ddi, sect) }
      (isoControllers s).foldl (fun s n => isoSend n 51968 255 (processData 3 sect ddi v) s) s1

/-- R444. -/
def execTcReport (t ddi sect : Nat) (s : State) : Out := at_ t (fun s => if awake s && !coreOut s 4 then reportTc ddi sect s else s) s

/-- R460: the connection to the task controller is made (code 0) or lost (code 1). -/
def setTc (on : Bool) (s : State) : State :=
  if s.zither.tcConnected == on then s
  else edge 239 0 (bit (!on)) (s.modZ fun z => { z with tcConnected := on, tcLast := [], tcIntervals := [] })

/-- R460. -/
def execTcConnectionLost (t : Nat) (s : State) : Out := at_ t (setTc false) s

/-- R444: a setpoint for one section, which under TC_ROLE FOLLOW sets its mode: 0 FORCE_OFF, 1 AUTO, others nothing; ignored in FORCE_ON
and MANUAL. -/
def tcSetpoint (sect v : Nat) (s0 : State) : State :=
  let s := if (tcUnit s0 sect).isSome then s0.modZ fun z => { z with tcSetpoints := tset z.tcSetpoints sect v } else s0
  match s.cfg.buses.tcFollow, tcUnit s sect with
  | true, some u =>
    let m := (s.unit u).sect.hostMode
    if m = 2 || m = 3 || 2 ≤ v || !s.sectionUnits.contains u then s
    else s.modSect u fun x => { x with hostMode := if v = 0 then 1 else 0 }
  | _, _ => s

/-- R444: process data from the task controller: setpoints are acknowledged, distance and threshold triggers are not. -/
def tcCommand (n src : Nat) (bs : List Byte) (s : State) : State :=
  if !s.cfg.buses.tcEnabled || bs.length < 8 then s
  else
    let s0 := setTc true s
    let w := leNat (bs.take 2)
    let cmd := w % 16
    let elem := w / 16
    let ddi := leNat ((bs.drop 2).take 2)
    let v := leNat ((bs.drop 4).take 4)
    let answer (code : Nat) (s : State) : State := isoSend n 51968 src (processData 13 elem ddi ((code : Nat) : Int)) s
    if cmd = 3 && ddi = 289 then answer 0 (tcSetpoint elem v s0)
    else if cmd = 3 && 290 ≤ ddi && ddi ≤ 305 then
      answer 0 ((List.range 16).foldl (fun s k => tcSetpoint (16 * (ddi - 290) + k) (v / 4 ^ k % 4) s) s0)
    else if cmd = 2 then
      match tcValue s0 ddi elem with
      | some x => isoSend n 51968 src (processData 3 elem ddi ((x : Nat) : Int)) s0
      | none => answer 1 s0
    else if cmd = 4 && (tcValue s0 ddi elem).isSome then
      s0.modZ fun z => { z with tcIntervals := ((ddi, elem), v) :: z.tcIntervals.filter fun x => x.1 != (ddi, elem) }
    else if 5 ≤ cmd && cmd ≤ 7 then answer 4 s0
    else s0

/-! ## Time and speed messages (R443, R416) -/

/-- R443: a speed message: speed in mm/s and the direction it gives. -/
def isoSpeed (bs : List Byte) : Option Int :=
  let v := leNat (bs.take 2)
  let d := leNat ((bs.drop 7).take 1) % 4
  if bs.length < 8 || 64256 ≤ v then none
  else if d = 1 then some (1000 * (v : Int)) else if d = 0 then some (-(1000 * (v : Int))) else none

/-- Days from 1970-01-01 to a date of the Gregorian calendar. -/
def daysFrom (y m d : Nat) : Nat :=
  let y := if m ≤ 2 then y - 1 else y
  let mp := (m + 9) % 12
  y * 365 + y / 4 - y / 100 + y / 400 + (153 * mp + 2) / 5 + (d - 1) - 719468

/-- R443, R416: a time/date message sets the RTC while the quality has not been LOCKED since READY, with a bound of 1,000 ms. -/
def isoTime (bs : List Byte) (s : State) : State :=
  let b (k : Nat) : Nat := leNat ((bs.drop k).take 1)
  if bs.length < 6 || s.nav.everLocked || b 0 ≥ 240 || b 1 ≥ 60 || b 2 ≥ 24 || b 3 = 0 || b 3 ≥ 13 || b 4 = 0 || b 4 ≥ 128 then s
  else
    let ms := ((daysFrom (1985 + b 5) (b 3) ((b 4 + 3) / 4) * 24 + b 2) * 60 + b 1) * 60000 + 250 * b 0
    hourAfterSet (s.modPower fun p => { p with rtcMs := ms, rtcAt := s.devtime, rtcSet := true, rtcErrUs := 1000000 })

/-! ## The host link over ISOBUS (R405 to R407) -/

/-- Table 13-13: the STATUS word and the control block of a course. -/
def courseBlock (s : State) (n : Nat) : List Byte :=
  le 4 ((statusWord s : Nat) : Int) ++ (List.range 16).flatMap fun k => le 4 ((courseWord s n (4 * k) : Nat) : Int)

/-- R406: a host-link message from the host's address. -/
def hostMessage (c : Nat) (bs : List Byte) (s : State) : State :=
  let p := leNat (bs.take 1)
  let n := p % 4
  let kind := p / 16
  if kind = 1 then (if courseless s then s else rawArrive n (bs.drop 4) s)
  else if kind = 2 then beat (leNat ((bs.drop 4).take 4)) s
  else if kind = 3 then sendIsobus c 3 n (courseBlock s n) s
  else if kind = 5 then disableOutputs [] s
  else s

/-- R405, R406: a Proprietary A message: served from the host's address on the link's controller, else discarded and counted. -/
def proprietaryA (n src : Nat) (bs : List Byte) (s : State) : State :=
  if s.isobusLink = some n && (s.canOf n).hostAddr = some src then hostMessage n bs s
  else s.modCan n fun c => { c with discarded := (c.discarded + 1) % 4294967296 }

/-- R406: the NAME of the host. -/
def hostName (s : State) : Option Nat :=
  match s.cfg.host.link with
  | .isobus _ name => some name
  | _ => none

/-- A claim of another node: the host's NAME claims its address here. -/
def noteClaim (n src : Nat) (bs : List Byte) (s : State) : State :=
  if s.isobusLink = some n && hostName s = some (leNat (bs.take 8)) && 8 ≤ bs.length then
    s.modCan n fun c => { c with hostAddr := if src = 254 then none else some src }
  else if (s.canOf n).hostAddr = some src then s.modCan n fun c => { c with hostAddr := none }
  else s

/-! ## Messages -/

/-- R441: a request for a PGN: those that the device serves, a NACK for any other sent to it. -/
def serveRequest (n src dst : Nat) (bs : List Byte) (s : State) : State :=
  let pgn := leNat (bs.take 3)
  if pgn = 60928 then
    match (s.canOf n).addr with
    | some a => sendClaim n a s
    | none => s
  else if pgn = 65226 then sendDm1 n s
  else if pgn = 65227 then sendDm2 n src s
  else if dst = 255 then s
  else isoSend n 59392 255 (le 1 1 ++ le 3 (-1) ++ le 1 ((src : Nat) : Int) ++ le 3 ((pgn : Nat) : Int)) s

/-- R441: one whole ISO 11783 message from `src`. -/
def isoMessage (n pgn src dst : Nat) (bs : List Byte) (s : State) : State :=
  if pgn = 61184 then proprietaryA n src bs s
  else if pgn = 60928 then noteClaim n src bs s
  else if pgn = 59904 then serveRequest n src dst bs s
  else if pgn = 51968 then tcCommand n src bs s
  else if pgn = 65096 then
    match isoSpeed bs with
    | some v => s.modOdo fun o => { o with isoWheel := some (v, s.devtime) }
    | none => s
  else if pgn = 65097 then
    match isoSpeed bs with
    | some v => s.modOdo fun o => { o with isoGround := some (v, s.devtime) }
    | none => s
  else if pgn = 65254 then isoTime bs s
  else s

/-! ## Transport sessions (R441, Table 15-5) -/

/-- A session begins; a fifth is refused, by a connection abort where it was asked of the device alone. -/
def beginSession (n : Nat) (x : TpSession) (s : State) : State :=
  let others := (s.canOf n).sessions.filter fun y => !(y.src == x.src && y.bam == x.bam && y.ext == x.ext)
  let cm := if x.ext then 51200 else 60416
  if 4 ≤ others.length || (x.ext && 1048576 < x.size) then
    if x.bam then s else isoSend n cm x.src (le 1 255 ++ le 1 1 ++ le 3 (-1) ++ le 3 ((x.pgn : Nat) : Int)) s
  else
    let s1 := s.modCan n fun c => { c with sessions := others ++ [x] }
    if x.bam then s1
    else isoSend n cm x.src (le 1 (if x.ext then 21 else 17) ++ le 1 ((capTo 255 (ceilDiv x.size 7) : Nat) : Int) ++ le 3 1
      ++ le 3 ((x.pgn : Nat) : Int)) s1

/-- A connection-management frame: RTS, BAM, the data packet offset, or an abort. -/
def tpControl (n src : Nat) (ext : Bool) (bs : List Byte) (s : State) : State :=
  let b := leNat (bs.take 1)
  let pgn := leNat ((bs.drop 5).take 3)
  let mine (y : TpSession) : Bool := y.src == src && y.ext == ext && !y.bam
  if b = 16 || b = 32 then
    beginSession n { src := src, pgn := pgn, size := leNat ((bs.drop 1).take 2), bam := b == 32, last := s.devtime } s
  else if b = 20 then beginSession n { src := src, pgn := pgn, size := leNat ((bs.drop 1).take 4), ext := true, last := s.devtime } s
  else if b = 22 then
    let go (y : TpSession) : TpSession := if mine y then { y with offset := leNat ((bs.drop 2).take 3), last := s.devtime } else y
    s.modCan n fun c => { c with sessions := c.sessions.map go }
  else if b = 255 then s.modCan n fun c => { c with sessions := c.sessions.filter fun y => !mine y }
  else s

/-- A data frame: the next packet of its session; the last one ends it, is acknowledged and gives the message. -/
def tpData (n src dst : Nat) (ext : Bool) (bs : List Byte) (s : State) : State :=
  let mine (y : TpSession) : Bool := y.src == src && y.ext == ext && y.bam == (dst == 255)
  match (s.canOf n).sessions.find? mine with
  | none => s
  | some y =>
    let due := y.data.length / 7 + 1
    if y.offset + leNat (bs.take 1) != due then s
    else
      let got := (y.data ++ padTo 7 (bs.drop 1))
      if got.length < y.size then
        s.modCan n fun c => { c with sessions := c.sessions.map fun z => if mine z then { z with data := got, last := s.devtime } else z }
      else
        let s1 := s.modCan n fun c => { c with sessions := c.sessions.filter fun z => !mine z }
        let cm := if y.ext then 51200 else 60416
        let s2 := if y.bam then s1
          else isoSend n cm src (if y.ext then le 1 23 ++ le 4 ((y.size : Nat) : Int) ++ le 3 ((y.pgn : Nat) : Int)
            else le 1 19 ++ le 2 ((y.size : Nat) : Int) ++ le 1 ((ceilDiv y.size 7 : Nat) : Int) ++ le 1 255
              ++ le 3 ((y.pgn : Nat) : Int)) s1
        isoMessage n y.pgn src dst (got.take y.size) s2

/-- Table 15-5: an extended frame on a controller that runs ISO 11783, sent to every node or to the device's address. -/
def isoFrame (n : Nat) (f : CanFrame) (s : State) : State :=
  let pgn := pgnOf f.id
  let src := f.id % 256
  let dst := dstOf f.id
  if !f.ext || !isobusOn s n || !(dst = 255 || (s.canOf n).addr = some dst) then s
  else if pgn = 60416 then tpControl n src false f.data s
  else if pgn = 51200 then tpControl n src true f.data s
  else if pgn = 60160 then tpData n src dst false f.data s
  else if pgn = 50944 then tpData n src dst true f.data s
  else isoMessage n pgn src dst f.data s

/-- R441: an abandoned session: one received (0 to 3), or one of the 2 sent (4, 5) with the course message that it carries. -/
def abandon (n k : Nat) (s : State) : State :=
  if k < 4 then s.modCan n fun c => { c with sessions := c.sessions.eraseIdx k }
  else if s.isobusLink = some n then
    match ([0, 3, 1, 2].filter fun c => !(s.course c).ring.isEmpty)[k - 4]? with
    | some c => s.modCourse c fun x => { x with ring := x.ring.drop 1 }
    | none => s
  else s

/-- R441. -/
def execTpTimeout (t ctrl session : Nat) (s : State) : Out := aboutBus t ctrl (abandon ctrl session) s

/-! ## Reception (R431, R432, R438) -/

/-- R258: the value of a BUS binding in a frame. -/
def busValue (bs : List Byte) (offset width : Nat) (sg : Bool) : Option Int :=
  if 8 * bs.length < 8 * offset + width then none
  else
    let x := leNat ((bs.drop offset).take 4) % 2 ^ width
    some (if sg && 2 ^ width ≤ 2 * x then (x : Int) - (2 ^ width : Nat) else x)

/-- R258: BUS feedback takes its latest value. -/
def busFeedback (n : Nat) (f : CanFrame) (s : State) : State :=
  s.cfg.loops.foldl (fun s p =>
    match p.2.fb with
    | .bus ctrl ident offset width sg _ _ =>
      match ctrl = n && ident = f.id, busValue f.data offset width sg with
      | true, some v => s.modLoop p.1 fun x => { x with bus := some (v, s.devtime) }
      | _, _ => s
    | _ => s) s

/-- ISO 11898-1: the counters after a frame received without error; above 127 the receive counter falls to between 119 and 127. -/
def receivedGood (n : Nat) (s : State) : State :=
  if 127 < (s.canOf n).recCnt then
    let r := s.free
    r.2.modCan n fun c => { c with recCnt := 119 + (r.1 % 9).toNat, st := if c.tec < 128 && c.st = 1 then 0 else c.st }
  else s.modCan n fun c => { c with recCnt := c.recCnt - 1 }

/-- R431, R432, R438: a received frame: a remote frame is discarded; another goes to the firmware's filters and to the lowest
matching gateway buffer. The bus is idle after it (R433). -/
def receiveFrame (n : Nat) (f : CanFrame) (s : State) : State :=
  if (s.canOf n).st = 2 then s
  else if f.remote then busIdle n (s.modCan n fun c => { c with discarded := (c.discarded + 1) % 4294967296 })
  else
    let s1 := receivedGood n (s.modCan n fun c => { c with rxFrames := (c.rxFrames + 1) % 4294967296 })
    let s2 := if s1.start.configActive && !s1.start.maint then isoFrame n f (busFeedback n f s1) else s1
    busIdle n (match gwMatch s2 n f with
      | some b => gwReceive n b f s2
      | none => s2)

/-- R438. KIND 5 of the host link may turn outputs off, so the loops follow (R262). -/
def execCanFrameReceived (t ctrl : Nat) (frame : CanFrame) (s : State) : Out :=
  if ctrl < 4 then
    atOut t (fun s => if awake s then byCore 4 (.canFrameReceived t ctrl frame) (receiveFrame ctrl frame) s else s) s
  else .refused (.noSuchElement "controller" ctrl)

/-! ## The end of a transmission (R433, R434) -/

/-- The firmware's buffer of the Zither system frame now sent; buffers 16 to 19 hold the messages of courses 0 to 3 (assumption 24). -/
def zitherBuffer : Nat := 48

/-- R434, R454: a system frame that fails after 2 retries is lost; a FRET goes out again in the next decision cycle. -/
def zitherFailed (s : State) : State :=
  if s.zither.txErrors < 2 then s.modZ fun z => { z with txErrors := z.txErrors + 1 }
  else match s.zither.sent with
    | (5, d, body) :: _ => s.modZ fun z => { z with txErrors := 0, resend := z.resend ++ [(d, body)] }
    | _ => s.modZ fun z => { z with txErrors := 0 }

/-- A firmware transmission ends: a course message over ISOBUS leaves its queue (R407), and of a CAN_SP frame or an ISO 11783 message
the next attempt carries on (Table 15-2). -/
def firmwareSent (n b : Nat) (ok : Bool) (s : State) : State :=
  if s.isobusLink = some n && 16 ≤ b && b < 20 then
    match ok, (s.course (b - 16)).ring with
    | true, m :: r => sendIsobus n 1 (b - 16) m.bytes (s.modCourse (b - 16) fun c => { c with ring := r })
    | _, _ => s
  else if b = zitherBuffer && (s.canCfg n).zitherSystem then
    if ok then s.modZ fun z => { z with txErrors := 0 } else zitherFailed s
  else s

/-- R434: one attempt of a gateway transmission ends in an error. -/
def gwError (n b : Nat) (s : State) : State :=
  if (s.canCfg n).gwRetry ≤ (s.gw n b).retries then gwFailed n b false s
  else busIdle n (s.modGw n b fun g => { g with retries := g.retries + 1 })

/-- R433: whether a gateway buffer's frame is the one in transmission: the one offered at the last idle, or the one that would win. -/
def inFlight (s : State) (n b : Nat) : Bool :=
  (s.gw n b).pending && ((s.canOf n).offered = some b || gwNext s n = some b)

/-- R433, R434, with the error counters of ISO 11898-1. -/
def endTx (n b : Nat) (ok : Bool) (s : State) : State :=
  if (s.canOf n).st = 2 || (b < 16 && !inFlight s n b) then s
  else
    let s1 := s.modCan n fun c =>
      if ok then
        { c with tec := c.tec - 1, st := if c.st = 1 && c.tec - 1 < 128 && c.recCnt < 128 then 0 else c.st,
                 txFrames := if b < 16 then c.txFrames else (c.txFrames + 1) % 4294967296 }
      else { c with tec := c.tec + 8, errors := (c.errors + 1) % 4294967296 }
    if b < 16 then (if ok then gwSent n b false s1 else gwError n b s1)
    else busIdle n (firmwareSent n b ok s1)

/-- R434. -/
def execCanTxEnd (t ctrl buffer : Nat) (ok : Bool) (s : State) : Out :=
  if 64 ≤ buffer then .refused (.noSuchElement "buffer" buffer) else aboutCan t ctrl (endTx ctrl buffer ok) s

/-! ## Error confinement (R435) -/

/-- R435: bus-off: every pending transmission ends as failed. The transmit error counter has passed 255. -/
def busOff (n : Nat) (s : State) : State :=
  if (s.canOf n).st = 2 then s
  else
    let r := s.free
    let s1 := r.2.modCan n fun c =>
      { c with st := 2, tec := if c.tec < 256 then 256 + (r.1 % 8).toNat else c.tec }
    let s2 := (upFrom 0 16).foldl (fun s b => if (s.gw n b).pending then gwFailed n b false s else s) s1
    fault (224 + n) n 0 2 0 s2

/-- R435. -/
def execCanBusOff (t ctrl : Nat) (s : State) : Out := aboutCan t ctrl (busOff ctrl) s

/-- R435: recovery from bus-off. -/
def busBack (n : Nat) (s : State) : State :=
  if (s.canOf n).st != 2 then s
  else fault (224 + n) n 1 1 0 (offerNext n (s.modCan n fun c => { c with st := 0, tec := 0, recCnt := 0 }))

/-- R435. -/
def execCanBusBack (t ctrl : Nat) (s : State) : Out := aboutCan t ctrl (busBack ctrl) s

/-- R435: error-passive. A counter that no row has counted above 127 is the receive counter, which has just passed it. -/
def busPassive (n : Nat) (s : State) : State :=
  if (s.canOf n).st != 0 then s
  else
    let r := s.free
    let s1 := r.2.modCan n fun c =>
      { c with st := 1, recCnt := if c.tec < 128 && c.recCnt < 128 then 128 + (r.1 % 8).toNat else c.recCnt }
    fault (224 + n) n 2 1 0 s1

/-- R435. -/
def execCanPassive (t ctrl : Nat) (s : State) : Out := aboutCan t ctrl (busPassive ctrl) s

/-! ## CAN_SP (R260) -/

/-- R260: output × scale (Q16.16), rounded to nearest and saturated to the field. -/
def spField (u scale : Int) (width : Nat) : Nat := (clamp 0 ((2 ^ width : Nat) - 1) (roundDiv (u * scale) 65536)).toNat

/-- Put a field's bytes at an offset, its own bits only. -/
def putField (bs : List Byte) (offset width v : Nat) : List Byte :=
  let k := ceilDiv width 8
  let b := padTo (max bs.length (offset + k)) bs
  let old := leNat ((b.drop offset).take k)
  b.take offset ++ le k ((old / 2 ^ width * 2 ^ width + v : Nat) : Int) ++ b.drop (offset + k)

/-- R260: the frame of an identifier, with the field of every loop that is bound to it. -/
def spFrame (s : State) (n ident : Nat) : List Byte :=
  s.cfg.loops.foldl (fun bs p => match p.2.out with
    | .canSp c i offset width scale _ => if c = n && i = ident then putField bs offset width (spField (s.loop p.1).u scale width) else bs
    | _ => bs) []

/-- R260, R434: a CAN_SP frame at its period, with the latest value. -/
def sendSp (l : Nat) (s : State) : State :=
  match (s.loopCfg l).out with
  | .canSp n ident _ _ _ period =>
    let due := match (s.loop l).spAt with
      | some t => decide (t + 1000 * period ≤ s.devtime)
      | none => true
    if !s.start.configActive || !due || (s.canOf n).st = 2 || (isobusOn s n && !isoMaySend s n) then s
    else
      canSend n { id := ident, ext := decide (2048 ≤ ident), fdf := (s.canCfg n).fd, brs := (s.canCfg n).brs, data := spFrame s n ident }
        (s.modLoop l fun x => { x with spAt := some s.devtime })
  | _ => s

/-- R260. -/
def execCanSpPeriod (t loop : Nat) (s : State) : Out :=
  about "loop" loop 128 t (fun s => if awake s && !coreOut s 4 then sendSp loop s else s) s

end Sys2Proof.Machine
end

