-- ==== Sys2Proof/Machine/EvNav.lean ====
section
/-! DEFINITION. Navigation and time: measurements (R65 to R71), navigation pages (R72 to R76), corrections and solutions (R77 to
R84), the fused epoch (R85 to R95), PPS (R96 to R100), NMEA (R101) and retention (R102 to R104). A row that is not due changes
nothing; none acts where navigation does not run (R332, R371, R451). -/

namespace Sys2Proof.Machine

/-! ## When navigation runs -/

/-- R371, R332, R451: navigation runs with a configuration active, in RUN or in an entry from RUN, and never on a follower. -/
def navRuns (s : State) : Bool :=
  awake s && s.start.configActive && !s.start.maint && !s.follower && match s.power.state, s.power.entry with
    | .run, _ => true
    | .entering, some (_, from_) => from_ == .run
    | _, _ => false

/-- R104: satellites are tracked and their data taken where navigation runs, and in the refresh of keep-warm. -/
def tracking (s : State) : Bool := navRuns s || (s.power.state == .refresh && !s.follower)

/-- A row of tracking at DEVTIME `t`. -/
def atTrack (t : Nat) (f : State → State) (s : State) : Out := at_ t (fun s => if tracking s then f s else s) s

/-- A navigation row at DEVTIME `t`. -/
def atNav (t : Nat) (f : State → State) (s : State) : Out := at_ t (fun s => if navRuns s then f s else s) s

/-- Whether `us` have passed since a moment that may not have been. -/
def elapsed (s : State) (since : Option Nat) (us : Nat) : Bool :=
  match since with
  | some t => decide (t + us ≤ s.devtime)
  | none => false

/-! ## Measurements -/

/-- R87: the loss condition of an antenna in one epoch: it tracks nothing above 25 dB-Hz, the other 4 satellites above 30. -/
def lossNow (n25 n30 : Nat × Nat) (ant : Nat) : Bool :=
  if ant = 0 then n25.1 == 0 && decide (4 ≤ n30.2) else n25.2 == 0 && decide (4 ≤ n30.1)

/-- R62, R66 to R68, R75, R87, R98: one measurement epoch. `timeSats` are the satellites that give time, by constellation and number. -/
def takeMeasurements (meas : List ChannelMeas) (timeSats : List (Nat × Nat)) (s : State) : State :=
  let t := s.devtime
  let chs := assignChannels s.cfg.nav t meas s.nav.channels
  let n25 := (trackedAbove chs meas 0 25, trackedAbove chs meas 1 25)
  let n30 := (trackedAbove chs meas 0 30, trackedAbove chs meas 1 30)
  let since (a : Nat) (old : Option Nat) : Option Nat := if lossNow n25 n30 a then some (old.getD t) else none
  let s1 := s.modNav fun n =>
    { n with channels := chs, tracked25 := n25, tracked30 := n30,
             lossSince := (since 0 n.lossSince.1, since 1 n.lossSince.2),
             trackedBand := [trackedIn chs 0 false, trackedIn chs 0 true, trackedIn chs 1 false, trackedIn chs 1 true],
             delayNs := (antennaDelay s.cfg.nav 0, antennaDelay s.cfg.nav 1) }
  let s2 := if s.nav.antLost.1 && !s.start.rfBad.contains 0 && !lossNow n25 n30 0 && 0 < n25.1 then antennaBack 0 s1 else s1
  let s3 := if s.nav.antLost.2 && !s.start.rfBad.contains 1 && !lossNow n25 n30 1 && 0 < n25.2 then antennaBack 1 s2 else s2
  if s3.nav.quality = 1 && !(timeSats.any fun v => usable s v.1 v.2) then setQuality 2 s3 else s3

/-- R67; without VDD_RF, D1 is off (Table 11-1). -/
def execMeasurementEpoch (t : Nat) (meas : List ChannelMeas) (timeSats : List (Nat × Nat)) (s : State) : Out :=
  atTrack t (fun s =>
    if s.power.vddRf then byCore 1 (.measurementEpoch t meas timeSats) (takeMeasurements meas timeSats) s else s) s

/-- A row about one antenna and band. -/
def atBand (t ant band : Nat) (f : State → State) (s : State) : Out :=
  if 2 ≤ ant then .refused (.noSuchElement "antenna" ant)
  else if 2 ≤ band then .refused (.noSuchElement "band" band)
  else atNav t f s

/-- Band centres, kHz: L1 and L5 (Table 03-1). -/
def bandCentreKhz (band : Nat) : Nat := if band = 0 then 1575420 else 1176450

/-- R69: a notch engages on an interferer within 12 MHz of the band centre and 10 dB above the noise; of more than three the
strongest stay. One that no longer stands at 10 dB is let go (assumption 51). -/
def engageNotch (ant band freqKhz levelDb : Nat) (s : State) : State :=
  if freqKhz + 12000 < bandCentreKhz band || bandCentreKhz band + 12000 < freqKhz then s
  else
    let k := 2 * ant + band
    let old := (tget s.nav.notches [] k).filter fun x => x.1 != freqKhz
    let new := if levelDb < 10 then old else (insertBy (fun a b => decide (b.2 < a.2)) (freqKhz, levelDb) old).take 3
    s.modNav fun n => { n with notches := tset n.notches k new }

/-- R69. -/
def execNotchEngage (t antenna band freqKhz levelDb : Nat) (s : State) : Out :=
  atBand t antenna band (engageNotch antenna band freqKhz levelDb) s

/-- R70, R71. -/
def execJammingUpdate (t antenna band : Nat) (dAgcMilliDb dNoiseMilliDb : Int) (s : State) : Out :=
  atBand t antenna band (judgeJam (2 * antenna + band) (jamIndex dAgcMilliDb dNoiseMilliDb)) s

/-- R87. -/
def execAntennaLost (t antenna : Nat) (s : State) : Out :=
  atBand t antenna 0 (fun s =>
    let since := if antenna = 0 then s.nav.lossSince.1 else s.nav.lossSince.2
    let lost := if antenna = 0 then s.nav.antLost.1 else s.nav.antLost.2
    if !lost && elapsed s since 1000000 then loseAntenna antenna s else s) s

/-! ## Navigation pages -/

/-- Table 03-6, Table 03-7 VERDICT: LNAV has parity, every other message a CRC. -/
def pageVerdict (p : NavPage) : Nat :=
  if p.signal = 0 || p.signal = 6 then (if pageOk p then 0 else 1) else if pageOk p then 2 else 3

/-- The key of a satellite in the stores of Table 03-17. -/
def satKey (const svid : Nat) : Nat := 256 * const + svid

/-- What one message completes (R72): new ephemeris and clock data wait to be authenticated (R75). -/
def takeDatum (p : NavPage) (d : NavDatum) (s : State) : State :=
  match d with
  | .ephemeris data =>
    let k := satKey p.const p.svid
    let same := ((tfind s.nav.data.ephemerides k).map (·.data)) == some data
    s.modNav fun n =>
      { n with data := { n.data with ephemerides := tmod n.data.ephemerides {} k fun e =>
                           if same then { e with at_ := s.devtime } else { data := data, at_ := s.devtime } },
               osnmaAuthed := if p.const = 1 && !same then n.osnmaAuthed.filter (· != p.svid) else n.osnmaAuthed }
  | .almanac svid data => s.modNav fun n => { n with data := { n.data with almanacs := tset n.data.almanacs (satKey p.const svid) data } }
  | .iono data => s.modNav fun n => { n with data := { n.data with iono := tset n.data.iono p.const data } }
  | .utc data announced =>
    let s1 := s.modNav fun n => { n with data := { n.data with utc := data } }
    if announced && !s1.nav.leapPending then edge 46 0 0 (s1.modNav fun n => { n with leapPending := true }) else s1

/-! ### OSNMA (R74 to R76) -/

/-- R75: a check of a satellite has FAILED. -/
def osnmaFail (svid : Nat) (s : State) : State :=
  fault 43 svid 0 2 0 (s.modNav fun n =>
    { n with data := { n.data with ephemerides := n.data.ephemerides.map fun e =>
                         if e.1 = satKey 1 svid then (e.1, { e.2 with failed := true }) else e },
             osnmaAuthed := n.osnmaAuthed.filter (· != svid),
             osnmaExcluded := if s.cfg.nav.osnmaRequire && !n.osnmaExcluded.contains svid then n.osnmaExcluded ++ [svid]
               else n.osnmaExcluded })

/-- R74, R75: a tag whose key has come is checked over the data that it covers; data that a check has failed stay unauthenticated until
new data come. -/
def checkTag (key : List Byte) (w : Nat × Nat × List Byte × List Byte) (s : State) : State :=
  if Config.osnmaMac key w.1 w.2.2.1 != w.2.2.2 then osnmaFail w.1 s
  else match tfind s.nav.data.ephemerides (satKey 1 w.1) with
    | none => s
    | some e =>
      if e.failed || e.data != w.2.2.1 then s
      else s.modNav fun n =>
        { n with osnmaExcluded := n.osnmaExcluded.filter (· != w.1),
                 osnmaAuthed := if n.osnmaAuthed.contains w.1 then n.osnmaAuthed else n.osnmaAuthed ++ [w.1] }

/-- R74: ECDSA P-256 over a message, whose signature is 64 bytes. -/
def signed (key message signature : List Byte) : Bool := signature.length == 64 && Config.ecdsaP256 key message signature

/-- Change the OSNMA state. -/
def State.modOsnma (s : State) (f : OsnmaSt → OsnmaSt) : State := s.modNav fun n => { n with data := { n.data with osnma := f n.data.osnma } }

/-- R74: one item of the page of satellite `svid`. A key or signature check that fails is the page's satellite's. -/
def takeOsnma (svid : Nat) (i : OsnmaItem) (s : State) : State :=
  let o := s.nav.data.osnma
  match i with
  | .kroot p256 message signature root =>
    if !p256 then s.modOsnma fun o => { o with unsupported := true }
    else if signed o.key message signature then
      s.modOsnma fun o => { o with unsupported := false, chain := some ((o.chain.map (·.1)).getD 0, root) }
    else osnmaFail svid s
  | .key pos key =>
    match o.chain with
    | none => s
    | some (p0, k0) =>
      if pos ≤ p0 then s
      else if Config.teslaBack (pos - p0) key != k0 then osnmaFail svid s
      else
        let s1 := s.modOsnma fun o => { o with chain := some (pos, key), waiting := o.waiting.filter fun w => decide (pos < w.2.1) }
        (o.waiting.filter fun w => w.2.1 == pos).foldl (fun s w => checkTag key w s) s1
  | .tag sat pos mac =>
    match tfind s.nav.data.ephemerides (satKey 1 sat) with
    | none => s
    | some e => s.modOsnma fun o => { o with waiting := o.waiting ++ [(sat, pos, e.data, mac)] }
  | .renewal p256 key proof =>
    if !p256 then s.modOsnma fun o => { o with unsupported := true }
    else if Config.merkleRoot key proof = s.cfg.nav.osnmaRoot then s.modOsnma fun o => { o with key := key, chain := none, waiting := [] }
    else osnmaFail svid s

/-- Whether a page is a Galileo E1 page (R74). -/
def osnmaPage (p : NavPage) : Bool := p.const == 1 && p.signal == 2

/-- The effect of a page's OSNMA messages, verified only within the time bound of R76. -/
def runOsnma (p : NavPage) (s : State) : State :=
  if !osnmaPage p || timeUnsafe s then s else p.osnma.foldl (fun s i => takeOsnma p.svid i s) s

/-- Table 03-8: the OSNMA status of a page, `s1` being the state after what it brings. -/
def pageOsnma (s s1 : State) (p : NavPage) : Nat :=
  if !osnmaPage p then 0
  else if !s.cfg.nav.osnmaKeyOk || s1.nav.data.osnma.unsupported then 4
  else if timeUnsafe s then 5
  else if (tfind s1.nav.data.ephemerides (satKey 1 p.svid)).any (·.failed) || s1.nav.osnmaExcluded.contains p.svid then 3
  else if s1.nav.osnmaAuthed.contains p.svid then 2
  else 1

/-- Table 03-7. -/
def pagePayload (s s1 : State) (p : NavPage) : List Byte :=
  let n := (pageBits p + 7) / 8
  le 8 p.devtime ++ le 1 p.const ++ le 1 p.signal ++ le 1 p.svid ++ le 1 p.ant ++ le 1 p.msg ++ le 1 (pageVerdict p)
    ++ le 1 (pageOsnma s s1 p) ++ le 1 0 ++ le 2 (pageBits p) ++ le 2 0 ++ le 4 p.tow ++ padTo ((n + 3) / 4 * 4) (padTo n p.bits)

/-- R72, R74, R100: what a page brings to navigation; one that fails its check brings nothing. -/
def usePage (p : NavPage) (s : State) : State :=
  if !pageOk p then s
  else (runOsnma p (p.data.foldl (fun s d => takeDatum p d s) s)).modNav fun n => { n with osnmaAuth := osnmaAll n }

/-- R72, R73: a page is used and delivered to who selected it. -/
def takePage (p : NavPage) (s : State) : State :=
  let s1 := usePage p s
  if bitAt s.nav.bitsConst p.const && bitAt s.nav.bitsAnt p.ant then notify 1 33541 (pagePayload s s1 p) s1 else s1

/-- R72; bits wait in their buffers while Nav0 is out of service (R22). -/
def execNavPage (t : Nat) (page : NavPage) (s : State) : Out := atTrack t (byCore 1 (.navPage t page) (takePage page)) s

/-! ## Corrections -/

/-- Table 03-9. -/
def rtcmUsed : List Nat := [1005, 1006, 1033, 1074, 1077, 1094, 1097, 1114, 1117, 1124, 1127]

/-- R82: whether the base, in 0.1 mm, has moved by more than 1 m. -/
def baseMoved (a b : Int × Int × Int) : Bool :=
  let d := (a.1 - b.1) * (a.1 - b.1) + (a.2.1 - b.2.1) * (a.2.1 - b.2.1) + (a.2.2 - b.2.2) * (a.2.2 - b.2.2)
  decide (100000000 < d)

/-- R82: 1005 or 1006 gives the antenna reference point; a move restarts ambiguity resolution in RTK_FLOAT. -/
def takeArp (p : Int × Int × Int) (s : State) : State :=
  let moved := match s.nav.arp with
    | some q => baseMoved q p
    | none => false
  let s1 := s.modNav fun n => { n with arp := some p }
  if !moved then s1
  else
    let s2 := fault 44 0 0 1 0 (s1.modNav fun n => { n with solFix := 3, badEpochs := 0 })
    if s2.nav.fix = 4 then setFix 3 s2 else s2

/-- R79: an MSM set renews the correction age. -/
def takeMsm (epochUs : Nat) (s : State) : State :=
  let s1 := s.modNav fun n => { n with corrAt := some epochUs, rtkNone := false }
  if s.nav.rtkNone then setLevel 45 0 false s1 else s1

/-- R78: one frame that passed its check. -/
def useRtcm (payload : List Byte) (epochUs : Nat) (s : State) : State :=
  let m := rtcmMsg payload
  if !rtcmUsed.contains m then s.modNav fun n => { n with rtcmIgnored := (n.rtcmIgnored + 1) % 4294967296 }
  else if m = 1005 || m = 1006 then takeArp (rtcmArp payload) s
  else if m = 1033 then s.modNav fun n => { n with descriptors := payload }
  else takeMsm epochUs s

/-- R77: the bytes of the configured source that wait to be decoded. -/
def rtcmInput (f : RtcmFrame) (s : State) : List Byte := if f.uart0 then s.nav.uartStream ++ f.bytes else s.nav.rtcmStream

/-- R77, R78: the next complete frame of a source's stream; bytes of the source that is not configured are counted only. -/
def takeRtcm (f : RtcmFrame) (s : State) : State :=
  if f.uart0 != s.cfg.nav.rtcmUart0 then
    s.modNav fun n => { n with rtcmWrongSource := (n.rtcmWrongSource + f.bytes.length) % 4294967296 }
  else
    let stream := rtcmInput f s
    let keep (rest : List Byte) (s : State) : State :=
      s.modNav fun n => if f.uart0 then { n with uartStream := rest } else { n with rtcmStream := rest }
    match rtcmNext stream with
    | none => keep stream s
    | some (payload, ok, rest) =>
      if ok then useRtcm payload f.epochUs (keep rest s)
      else (keep rest s).modNav fun n => { n with rtcmCrc := (n.rtcmCrc + 1) % 4294967296 }

/-- R78. -/
def execRtcmFrame (t : Nat) (frame : RtcmFrame) (s : State) : Out := atNav t (takeRtcm frame) s

/-- R79: the correction age has passed its limit. -/
def ageOut (s : State) : State :=
  let due := match s.nav.corrAt with
    | some e => decide (e + 100000 * s.cfg.nav.ageLimitDs < s.devtime)
    | none => false
  if s.nav.rtkNone || !due then s
  else
    let s1 := setLevel 45 0 true (s.modNav fun n => { n with rtkNone := true, badEpochs := 0 })
    if s1.nav.fix = 3 || s1.nav.fix = 4 then
      let f := if s1.nav.sol.any (·.sbas) then 2 else 1
      setFix f (s1.modNav fun n => { n with solFix := f })
    else s1

/-- R79. -/
def execCorrectionAgeExceeded (t : Nat) (s : State) : Out := atNav t ageOut s

/-! ## Solutions -/

/-- R80, R81, R87, R88, R95: one solution, from ANT0, or from ANT1 with ANT0 lost. One that uses a satellite which R75 rules out is none. -/
def takeSolution (sol : RtkSolution) (s : State) : State :=
  if !sol.galileo.all (usable s 1) then s
  else
    let f := solutionFix s sol
    let s1 := (noteReturn sol s).modNav fun n =>
      { n with sol := some sol, solFix := f.1, badEpochs := f.2, solAt := s.devtime, lastSolAt := some s.devtime, nsv := sol.nsv,
               everFix := true }
    let s2 := setFix f.1 (s1.modNav fun n => { n with osnmaAuth := osnmaAll n })
    if s2.nav.rtk then notify 1 33538 (rtkPayload s2 sol f.1) s2 else s2

/-- R80; the updates of Nav1 wait while it is out of service (R22). -/
def execRtkSolution (t : Nat) (sol : RtkSolution) (s : State) : Out := atNav t (byCore 2 (.rtkSolution t sol) (takeSolution sol)) s

/-- R80, R81, Table 03-10: 200 ms without a GNSS position update; ambiguities are to be fixed anew. -/
def execDeadReckoning (t : Nat) (s : State) : Out :=
  atNav t (fun s =>
    if s.nav.fix != 0 && s.nav.fix != 5 && elapsed s s.nav.lastSolAt 200000 then setFix 5 (s.modNav fun n => { n with solFix := 5, badEpochs := 0 })
    else s) s

/-- R84: how far a solved length is off the declared one, µm. -/
def baselineOff (s : State) (vec : Int × Int × Int) : Nat :=
  let len := isqrt (mag vec.1 * mag vec.1 + mag vec.2.1 * mag vec.2.1 + mag vec.2.2 * mag vec.2.2)
  mag ((len : Int) - (declaredBaseline s.cfg.nav : Nat))

/-- R83, R84: one baseline solution; a vector without a horizontal part, and one that uses a satellite which R75 rules out, gives no
heading. -/
def takeBaseline (vec : Int × Int × Int) (fixed : Bool) (galileo : List Nat) (s : State) : State :=
  let off := baselineOff s vec
  let level := vec.1 != 0 || vec.2.1 != 0
  let t := s.devtime
  if !galileo.all (usable s 1) then s
  else s.modNav fun n =>
    let good := if off ≤ 10000 then some (n.baseGoodSince.getD t) else none
    { n with baseVec := vec, baseHeading := if level then baselineHeading s vec else n.baseHeading, baseFixed := fixed && level,
             baseBadSince := if 20000 < off then some (n.baseBadSince.getD t) else none, baseGoodSince := good,
             baseMark := n.baseMark && !(good.any fun g => decide (g + 10000000 ≤ t)) }

/-- R83. -/
def execBaselineSolution (t : Nat) (vec : Int × Int × Int) (fixedAmbiguities : Bool) (galileo : List Nat) (s : State) : Out :=
  atNav t (byCore 2 (.baselineSolution t vec fixedAmbiguities galileo) (takeBaseline vec fixedAmbiguities galileo)) s

/-- R84. -/
def execBaselineMismatch (t : Nat) (s : State) : Out :=
  atNav t (fun s =>
    if !s.nav.baseMark && elapsed s s.nav.baseBadSince 1000000 then
      fault 44 0 1 2 0 (s.modNav fun n => { n with baseMark := true, headingValid := false })
    else s) s

/-! ## The fused epoch -/

/-- Table 15-7: the flags of STATE. -/
def stateFlags (s : State) : Nat :=
  pack [(bit s.odo.standstill, 0), (bit s.nav.uncertain, 1), (bit s.nav.holdActive, 2), (bit s.nav.odoStale, 3)]

/-- R452: the lead's STATE for the epoch just published. -/
def sendState (s : State) : State :=
  if !s.lead then s
  else
    let v := if s.odo.standstill then 0 else s.odo.speed
    sendZ 3 4 [((s.nav.epoch.getD 0 : Nat) : Int), roundDiv v 1000, roundDiv s.nav.accUm 1000, s.nav.yawRate, s.nav.alpha,
      ((stateFlags s : Nat) : Int)] s

/-- R85 and what follows from it: units' motion (R130), the policy (R91 to R94), the writer (R169), the emulation (R137), STATE
(R452). -/
def fusedEpoch (f : Fusion) (s : State) : State := sendState (emuEpoch (writeCoverage (fuse f s)))

/-- R85; the update of a cycle in which Nav1 is out of service is skipped (R22). -/
def execFusedEpoch (t : Nat) (f : Fusion) (s : State) : Out := atNav t (fun s => if coreOut s 2 then s else fusedEpoch f s) s

/-- R92: the hold distance is used up: section units in AUTO that are still on go off at once. -/
def holdUsedUp (s : State) : State :=
  if !s.nav.uncertain || !s.nav.holdActive || s.nav.holdLeft != 0 then s
  else
    (s.sectionUnits.foldl (fun s u => if (s.unit u).sect.hostMode = 0 then immediate u false s else s) s).modNav
      fun n => { n with holdActive := false }

/-- R92. -/
def execHoldDistanceUsedUp (t : Nat) (s : State) : Out := atNav t holdUsedUp s

/-- R94. -/
def execHoldDistanceRestored (t : Nat) (s : State) : Out :=
  atNav t (fun s =>
    if !s.nav.uncertain && s.nav.everFix && decide (5000000 ≤ s.nav.withinUm) then
      s.modNav fun n => { n with holdLeft := 1000 * s.cfg.package.holdDistMm }
    else s) s

/-- R88: the period of N_POS has passed since the last. -/
def posDue (s : State) : Bool :=
  s.nav.epoch.isSome && s.nav.posRate != 0 && match s.nav.posAt with
    | some t => decide (t + 1000000 / s.nav.posRate ≤ s.devtime)
    | none => true

/-- R88. -/
def execNPos (t : Nat) (s : State) : Out :=
  atNav t (fun s =>
    if posDue s then notify 1 33537 s.nav.posMsg (s.modNav fun n => { n with posAt := some s.devtime }) else s) s

/-! ## Time -/

/-- R349: the RTC takes the UTC of a LOCKED pulse, its bound 1 ms. -/
def setRtc (utcS : Nat) (s : State) : State :=
  hourAfterSet (s.modPower fun p => { p with rtcMs := 1000 * utcS, rtcAt := s.devtime, rtcSet := true, rtcErrUs := 1000 })

/-- R97, R99: what a pulse shows of the correction: slew, step to come, and whether this pulse is the stepped one. -/
def correct (errNs : Int) (first : Bool) (n : NavSt) : NavSt × Bool :=
  if first then ({ n with slew := 0, stepNs := 0, stepNext := false }, false)
  else if n.stepNext then ({ n with slew := 0, stepNs := 0, stepNext := false }, true)
  else if mag errNs ≤ 100000 then ({ n with slew := clamp (-10000) 10000 (-errNs), stepNs := 0, stepNext := false }, false)
  else ({ n with slew := 0, stepNs := -errNs, stepNext := true }, false)

/-- R62, R96: the error of a pulse against GNSS time: as measured at the receiver, and the delay of the antenna in use. -/
def pulseError (s : State) (p : TimeSolution) : Int := p.errNs + antennaDelay s.cfg.nav (solveAnt s)

/-- R96, R97, R99, R100, R349: a pulse while time is LOCKED; in a leap second UTC_S is the last pulse's. -/
def lockedPulse (p : TimeSolution) (s : State) : State :=
  let s0 := s.modNav fun n => { n with boundFromRtc := false }
  let s1 := setQuality 1 s0
  let c := correct (pulseError s p) s.nav.ppsAt.isNone s1.nav
  let utc := if p.leapActive && s.nav.ppsAt.isSome then s.nav.utcS else p.utcS
  let s2 := s1.modNav fun _ =>
    { c.1 with ppsAt := some s.devtime, subNs := p.subNs, stepNow := c.2, leapNow := p.leapActive, utcS := utc, gpsWeek := p.gpsWeek,
               gpsTow := p.gpsTow, leap := p.leap, errBound := p.errBoundNs, leapPending := c.1.leapPending && !p.leapActive,
               data := { c.1.data with clockBias := p.biasNs, clockDrift := p.driftPpb, tcxo := match p.tcxo with
                                         | some (k, v) => modNth c.1.data.tcxo k fun _ => v
                                         | none => c.1.data.tcxo } }
  let s3 := if c.1.stepNext then edge 36 s2.nav.quality 1 s2 else s2
  let s4 := if p.leapActive then edge 46 0 1 s3 else s3
  setRtc utc (notify 1 33540 (timePayload s4) (edge 35 0 0 s4))

/-- R98, R100: a pulse from the disciplined TCXO: as many seconds after the last one as DEVTIME says, one fewer of UTC in a leap
second. -/
def holdoverPulse (p : TimeSolution) (s : State) : State :=
  let s1 := if s.nav.quality = 1 then setQuality 2 s else s
  let b := errBound s1 s.devtime
  let k := max 1 ((s.devtime - s.nav.ppsAt.getD s.devtime + 500000) / 1000000)
  let s2 := s1.modNav fun n =>
    { n with ppsAt := some s.devtime, subNs := p.subNs, stepNow := false, leapNow := p.leapActive, errBound := b,
             utcS := n.utcS + k - bit p.leapActive, gpsWeek := n.gpsWeek + (n.gpsTow + 1000 * k) / 604800000,
             gpsTow := (n.gpsTow + 1000 * k) % 604800000, leap := if p.leapActive then n.leap + 1 else n.leap,
             leapPending := n.leapPending && !p.leapActive, slew := 0, stepNs := 0, stepNext := false }
  let s3 := if p.leapActive then edge 46 0 1 s2 else s2
  notify 1 33540 (timePayload s3) (edge 35 0 0 s3)

/-- R96, R98, R332: PPS stays low until the first time solution; in DOZE and with no satellite it goes on in holdover. -/
def takePulse (p : TimeSolution) (s : State) : State :=
  if p.locked && navRuns s then lockedPulse p s else if s.nav.ppsAt.isSome then holdoverPulse p s else s

/-- R96. -/
def execPps (t : Nat) (sol : TimeSolution) (s : State) : Out :=
  at_ t (fun s => if awake s && s.start.configActive && !s.follower then takePulse sol s else s) s

/-- R101: the epoch's sentences, when its period has passed. -/
def nmea (s : State) : State :=
  let due := match s.nav.nmea with
    | some x => decide (x.1 + 1000000 / max 1 s.cfg.nav.nmeaHz ≤ s.devtime)
    | none => true
  if due then s.modNav fun n => { n with nmea := some (s.devtime, nmeaBlock s) } else s

/-- R101. -/
def execNmeaEpoch (t : Nat) (s : State) : Out := atNav t nmea s

/-! ## Retention and refresh -/

/-- R102: the save of every 10 min in RUN. -/
def execNavRetentionSave (t : Nat) (s : State) : Out :=
  atNav t (fun s => if s.nav.retentionAt + 600000000 ≤ s.devtime then saveNav s else s) s

/-- R104: the keep-warm alarm: its period counts from PARK entry and from the beginning of each refresh. The refresh takes up the
retained data. -/
def warm (s : State) : State :=
  if s.power.state != .park || !s.cfg.nav.keepWarm || s.devtime < s.power.warmFrom + 60000000 * s.cfg.nav.keepWarmMin then s
  else loadNav (s.modPower fun p =>
    { p with state := .refresh, refreshEnd := some (s.devtime + 20000000), warmFrom := s.devtime, corePwrEn := true, tcxoEn := true,
             pll := 2, wakeBits := if bitAt p.wakeBits 6 then p.wakeBits else p.wakeBits + 64 })

/-- R104. -/
def execKeepWarm (t : Nat) (s : State) : Out := at_ t warm s

/-- R104, R102, R348: the refresh ends: data saved, crystal measured, PARK again. -/
def endRefresh (s : State) : State :=
  if s.power.state != .refresh || !elapsed s s.power.refreshEnd 0 then s
  else
    let s1 := trimNow (saveNav s)
    (s1.modPower fun p => { p with state := .park, refreshEnd := none, refreshed := true, corePwrEn := false, tcxoEn := false, pll := 0 }).modNav
      navAfterReset

/-- R104. -/
def execRefreshEnd (t : Nat) (s : State) : Out := at_ t endRefresh s

end Sys2Proof.Machine
end

