-- ==== Sys2Proof/Machine/EvCov.lean ====
section
/-! DEFINITION. The decision cycle (R162 to R167), tiles (R151 to R155), the journal (R498, R152, R215), and frets (R186, R187,
R202, R203). A row that is not due changes nothing. -/

namespace Sys2Proof.Machine

/-! ## The cycle -/

/-- Whether D0's 1 ms work runs: a configuration is active and D0 is awake. -/
def cyclesRun (s : State) : Bool := awake s && s.start.configActive && !s.start.maint && s.power.state != PowerState.refresh

/-- R165, R189, R350: one cycle. In DOZE Cov is stopped (Table 11-2) and the sequencers go on. -/
def execDecisionCycle (t : Nat) (s : State) : Out :=
  at_ t (fun s => if !cyclesRun s then s else gateClusters (if dozing s then sequence s else cycle s)) s

/-- R167: the configured rate at least. -/
def sectionsPeriod (s : State) : Nat := 1000000 / max 1 s.cfg.host.sectionsHz

/-- R167. -/
def execNSections (t : Nat) (s : State) : Out :=
  at_ t (fun s =>
    if cyclesRun s && !dozing s && !s.follower && sectionsOld s (sectionsPeriod s) then sendSections s else s) s

/-! ## Tiles -/

/-- R154: a tile that the map can no longer take in. -/
def noRoom (s : State) (fid : Nat) (t : Int × Int) : Bool :=
  (tileAt s fid t.1 t.2).isNone && decide (mapTiles s ≤ s.cov.tiles.length)

/-- R153: a wanted tile is loaded once those before it are there: any of the working set, then the ahead set in order. -/
def loadable (s : State) (fid : Nat) (tc tr : Int) : Bool :=
  let w := wantedTiles s
  w.contains (tc, tr) && ((workingSet s).contains (tc, tr) || (w.takeWhile fun t => t != (tc, tr)).all fun t =>
    ((tileAt s fid t.1 t.2).any fun x => x.cached) || noRoom s fid t)

/-- R151, R154, R155, R159, R176: a tile is loaded or created, brought up to date, and takes the writes that wait for it. With no room in
the cache it stays absent. A slot whose CRC fails is discarded: the rebuilt tile moves to another. -/
def loadTile (fe : FieldEntry) (tc tr : Int) (crcOk rebuilt : Bool) (s : State) : State :=
  let s0 := evict s
  match tileAt s0 fe.fieldId tc tr with
  | none => if 128 ≤ (cachedTiles s0).length then s0 else drainMiss fe tc tr (createTile fe tc tr s0)
  | some t =>
    if !t.cached && decide (128 ≤ (cachedTiles s0).length) then s0
    else
      let s1 := if t.cached then s0
        else
          let s2 := if crcOk then s0 else (if rebuilt then s0 else loseTile fe t s0).modCov (markBack fun x => x.slot == t.slot)
          modTile fe.fieldId tc tr (fun x => { x with cached := true, touched := s.devtime }) s2
      drainMiss fe tc tr (rerasterise fe tc tr (epochClear fe t s1))

/-- R153, R154: a wanted tile of the open field. -/
def tileDone (tc tr : Int) (crcOk rebuilt : Bool) (s : State) : State :=
  match s.cov.opened.bind s.fieldEntry with
  | some fe => if loadable s fe.fieldId tc tr && !coreOut s 3 then loadTile fe tc tr crcOk rebuilt s else s
  | none => s

/-- R154. -/
def execTileLoadDone (t : Nat) (tcol trow : Int) (crcOk rebuilt : Bool) (s : State) : Out :=
  at_ t (tileDone tcol trow crcOk rebuilt) s

/-! ## The journal -/

/-- R498: the next commit is due 100 ms after the last, while Rec runs (R22) and writes have not stopped (R502). -/
def commitDue (s : State) : Bool :=
  awake s && s.start.ready && !coreOut s 5 && !partitionStopped s 5 && decide (s.recorder.committedAt + 100000 ≤ s.devtime)

/-- R498, R502. -/
def execJournalCommit (t : Nat) (written : Bool) (s : State) : Out :=
  at_ t (fun s => if !commitDue s then s else if written then commit s
    else (commitFailed s).modRec fun r => { r with committedAt := s.devtime }) s

/-- R215, R247: every 10 min, in a journal commit. -/
def execLatencySave (t : Nat) (s : State) : Out :=
  at_ t (fun s =>
    if awake s && s.start.configActive && !partitionStopped s 5 && decide (s.storage.latencySavedAt + 600000000 ≤ s.devtime)
    then commit (saveTables s) else s) s

/-! ## Frets -/

/-- R186. -/
def execFretFire (t unit : Nat) (s : State) : Out := about "valve unit" unit 128 t (fireDue unit) s

/-- R187: whether epochs are published in this power state: in RUN, and in a sequence that leaves it. -/
def epochsRun (s : State) : Bool :=
  s.power.state == PowerState.run || (s.power.state == PowerState.entering && s.power.entry.any fun e => e.2 == PowerState.run)

/-- R187: 20 ms without an epoch outside DOZE. -/
def goStale (s : State) : State :=
  if !epochsRun s || !s.start.configActive || s.nav.odoStale || decide (s.devtime < s.nav.staleBase + 20000) then s
  else fault 74 0 0 3 0 (s.modNav fun n => { n with odoStale := true })

/-- R187. -/
def execOdoStale (t : Nat) (s : State) : Out := at_ t goStale s

/-- R203: an on-kind fret suspended for 500 ms. -/
def overSuspended (now tag : Nat) (f : Fret) : Bool :=
  f.state == .suspended && f.onKind && f.tag == tag && decide (f.suspendedAt + 500000 ≤ now)

/-- R203. -/
def cancelSuspended (u tag : Nat) (s : State) : State :=
  let k := ((s.unit u).frets.filter (overSuspended s.devtime tag)).length
  if k = 0 then s
  else (cancelFrets u (overSuspended s.devtime tag) s).modFretCnt u fun f => { f with suspendCancels := f.suspendCancels + k }

/-- R203. -/
def execSuspendCancel (t unit tag : Nat) (s : State) : Out := about "valve unit" unit 128 t (cancelSuspended unit tag) s

/-- R202: 100 ms in which no edge of the cluster waited. -/
def decayWait (c : Nat) (s : State) : State :=
  if !(s.cluster c).queue.isEmpty || decide (s.devtime < (s.cluster c).lastWaitAt + 100000) then s
  else s.modCluster c fun x =>
    { x with slotWaitUs := if x.slotWaitUs / 2 < 10 then 0 else x.slotWaitUs / 2, lastWaitAt := s.devtime }

/-- R202. -/
def execSlotWaitDecay (t cluster : Nat) (s : State) : Out := about "valve cluster" cluster 16 t (decayWait cluster) s

end Sys2Proof.Machine
end

