-- ==== Sys2Proof/Machine/EvFault.lean ====
section
/-! DEFINITION. Coalescing (R470), the fault manager's own steps (R484 to R489), the recorder's clock (R490, R492, R493, R496), storage
errors (R502) and the end of a long CFG_VERIFY (R419). A row that is not due changes nothing. -/

namespace Sys2Proof.Machine

/-! ## Coalescing -/

/-- Whether a core target's core is in service; the Keeper's is its pair (R22). -/
def coreServes (s : State) (t : Nat) : Bool := !coreOut s t && (t != 0 || s.start.keeperOut.isNone)

/-- R470, R468, R477: a core whose signal is up claims its records, handles them and acknowledges them. -/
def coreTakes (t : Nat) (s : State) : State :=
  if s.events.stopped || !awake s || !signalOf (s.tgt t) s.devtime || !coreServes s t then s
  else acknowledge t 0 (claimRecords t (s.tgt t).queue.length s)

/-- R470: the oldest eligible record of a target reaches TIME. Every signal follows at the end of the step; the host claims by itself. -/
def execCoalescingTimeout (t target : Nat) (s : State) : Out :=
  about "target" target 10 t (fun s => if target = 9 then s else coreTakes target s) s

/-! ## Faults -/

/-- Whether the Keeper handles faults now: D0 awake and its pair in service (R22). -/
def keeperServes (s : State) : Bool := awake s && coreServes s 0

/-- R484, R485. -/
def execFaultHandling (t : Nat) (s : State) : Out := at_ t (fun s => if keeperServes s then handleNext s else s) s

/-- R489: the scan that an INTAKE_OVERFLOW led to, once the intake is empty. -/
def scanFaults (s : State) : State :=
  match s.faults.rebuildDue with
  | some first => if s.faults.intake.isEmpty then rebuild first s else s
  | none => s

/-- R489. -/
def execRebuildScan (t : Nat) (s : State) : Out := at_ t (fun s => if keeperServes s then scanFaults s else s) s

/-- R487, Table 17-4: a one-shot fault of severity 1 to 3, 10 s after its last occurrence. -/
def closeOneShot (cls inst : Nat) (s : State) : State :=
  match s.faults.opened.find? fun f => f.cls == cls && f.inst == inst with
  | some f => if f.kind = 2 && f.severity ≤ 3 && decide (f.last + 10000000 ≤ s.devtime) then closeFault cls inst s else s
  | none => s

/-- R487. -/
def execOneshotClose (t cls instn : Nat) (s : State) : Out :=
  at_ t (fun s => if keeperServes s then closeOneShot cls instn s else s) s

/-! ## The recorder's clock -/

/-- Whether the recorder runs: D0 is awake and out of maintenance mode, and Rec in service (R22). -/
def recorderRuns (s : State) : Bool := awake s && s.start.ready && !coreOut s 5

/-- R490: the UTC hour that the RTC reads differs from that of the running record. -/
def hourTurns (s : State) : Bool :=
  match s.recorder.hour with
  | some h => rtcNow s / 3600000 != h
  | none => false

/-- R490. -/
def execHourChange (t : Nat) (s : State) : Out := at_ t (fun s => if recorderRuns s && hourTurns s then newHour s else s) s

/-- R492: one sample into the bins of Table 17-6. -/
def sampleBins (x : RecSample) (v : Nat) (r : RecRecord) : RecRecord :=
  { r with histVbat := x.vbatMv.foldl (fun t p => tmod t 0 (32 * p.1 + min 31 (p.2 / 1250)) (· + 1)) r.histVbat,
           histTj := x.junctionDc.foldl (fun t p => tmod t 0 (32 * p.1 + (clamp 0 31 ((p.2 + 400) / 60)).toNat) (· + 1)) r.histTj,
           histSpeed := tmod r.histSpeed 0 (min 31 (v / 500000)) (· + 1) }

/-- A least and a greatest value of one instance. -/
def offerBoth (q key inst : Nat) (v : Int) (s : State) : State := offerExtreme q true key inst v (offerExtreme q false key inst v s)

/-- R493: the extremes that a sample offers. -/
def sampleExtremes (x : RecSample) (s : State) : State :=
  let s1 := x.vbatMv.foldl (fun s p => offerBoth 1 p.1 p.1 ((p.2 : Nat) : Int) s) s
  let s2 := x.junctionDc.foldl (fun s p => offerBoth 2 p.1 p.1 p.2 s) s1
  let s3 := offerBoth 3 256 0 x.coldPlateDc s2
  let s4 := offerOne 4 0 ((mag s.odo.speed / 1000 : Nat) : Int) s3
  let s5 := offerOne 5 0 ((x.packageMa : Nat) : Int) s4
  offerOne 7 0 ((mag s.nav.yawRate : Nat) : Int) s5

/-- R492: the time of a sample: now, or its own where it has waited for Rec (R22). -/
def sampleTime (s : State) (t : Nat) : Nat := if s.start.coreTaking then min t s.devtime else s.devtime

/-- R492: a sample is due 100 ms after the last. -/
def sampleDue (s : State) (t : Nat) : Bool :=
  match s.recorder.sampledAt with
  | some u => decide (u + 100000 ≤ t)
  | none => true

/-- R492, R493: a sample of groups 0 to 6 and dies 0 to 4, in RUN and DOZE. -/
def takeSample (x : RecSample) (s : State) : State :=
  let y : RecSample :=
    { x with vbatMv := x.vbatMv.filter fun p => decide (p.1 < 7), junctionDc := x.junctionDc.filter fun p => decide (p.1 < 5) }
  match s.power.state with
  | .run | .doze => sampleExtremes y (accumulate (sampleBins y (mag s.odo.speed)) s)
  | .nap | .park | .entering | .refresh => s

/-- R492; a sample that falls while Rec is out of service is taken when it is back (R22). -/
def execHistogramSample (t : Nat) (sample : RecSample) (s : State) : Out :=
  at_ t (fun s => if awake s && s.start.ready then byCore 5 (.histogramSample t sample) (fun s =>
      if sampleDue s (sampleTime s t) then takeSample sample (s.modRec fun r => { r with sampledAt := some (sampleTime s t) })
      else s) s else s) s

/-- R496: 60 min frozen; the 9th pending record thaws where it is needed. -/
def thawDue (s : State) : Bool :=
  match s.recorder.frozenAt with
  | some f => decide (f + 3600000000 ≤ s.devtime)
  | none => false

/-- R496. -/
def execAutoThaw (t : Nat) (s : State) : Out :=
  at_ t (fun s => if recorderRuns s && thawDue s && !partitionStopped s 6 then thaw s else s) s

/-! ## Storage -/

/-- R502: an eMMC command has failed after 3 repeats; the partition of Table 17-8 is the INSTANCE. -/
def execEmmcError (t partition : Nat) (s : State) : Out :=
  about "partition" partition 8 t (fun s =>
    if awake s then
      fault 249 partition 0 3 0 (if 5 ≤ partition then s.modStore fun x => { x with failing := partition } else s)
    else s) s

/-- R419: the checks of a long CFG_VERIFY end, and it replies. -/
def finishVerify (s : State) : State :=
  match s.storage.verifying with
  | none => s
  | some i =>
    let r : Reply := match checkImage s i with
      | some f => f.reply
      | none => {}
    endLong 515 r (s.modStore fun x => { x with verifying := none })

/-- R419. -/
def execCfgVerifyDone (t : Nat) (s : State) : Out := at_ t finishVerify s

end Sys2Proof.Machine
end

