-- ==== Sys2Proof/Machine/EvOdo.lean ====
section
/-! DEFINITION. Odometry rows: edges and standstill (R108 to R119), NOISY (R112), SENT frames (R122 to R125), disagreeing sources
(R127) and the emulation's pulses (R137, R138). A row that is not due changes nothing. -/

namespace Sys2Proof.Machine

/-! ## Fast channels -/

/-- A FAST input stands at a logical level (R307, R310, Table 10-5). -/
def fastLevel (i : Nat) (v : Bool) (s : State) : State :=
  if (s.fiCfg i).mode != .fast then s
  else s.modFi i fun x => { x with raw := v != (s.fiCfg i).invert, state := logical s i (v != (s.fiCfg i).invert) }

/-- R108 to R111, R115, R118, R119: the lines of an input's channel stand at new logical levels; an input without a channel has
the first level. A level that lasts less than 0.5 µs is no edge (R109). -/
def execOdoEdge (t : Nat) (change : FastEdge) (levelA levelB : Bool) (s : State) : Out :=
  about "fast input" change.input 8 t (sampled fun s =>
    if change.lasts < 2 then s
    else match channelOf s change.input with
      | some ch =>
        let s1 := fastLevel ch levelA (lineChange ch change.quarter levelA levelB s)
        if (s.chanCfg ch).quad then fastLevel (ch + 1) levelB s1 else s1
      | none => fastLevel change.input levelA s) s

/-- R127: once epochs run, a change of what is available changes the primary at once. -/
def repick (s : State) : State := if s.nav.firstEpoch || !s.start.configActive then s else changePrimary s

/-- R112: more than 100 refused edges within 100 ms. -/
def markNoisy (ch : Nat) (s : State) : State :=
  let n := ((s.chan ch).refused.filter fun u => decide (s.devtime < u + 100000)).length
  if (s.chan ch).noisy || n ≤ 100 then s
  else repick (fault (192 + ch) 0 0 2 0 (s.modChan ch fun x => { x with noisy := true }))

/-- R112. -/
def execOdoNoisy (t channel : Nat) (s : State) : Out := about "fast channel" channel 8 t (markNoisy channel) s

/-- R112: 1 s with no increment. -/
def clearNoisy (ch : Nat) (s : State) : State :=
  let quiet := match (s.chan ch).refused with
    | u :: _ => decide (u + 1000000 ≤ s.devtime)
    | [] => true
  if !(s.chan ch).noisy || !quiet then s
  else repick (s.modChan ch fun x => { x with noisy := false, refused := [] })

/-- R112. -/
def execOdoNoisyClear (t channel : Nat) (s : State) : Out := about "fast channel" channel 8 t (clearNoisy channel) s

/-- R117, R119: no edge for the standstill timeout. -/
def standStill (ch : Nat) (s : State) : State :=
  let due := match (s.chan ch).lastEdge with
    | some e => decide (e + 4000 * s.cfg.package.standstillMs ≤ 4 * s.devtime)
    | none => true
  if (s.chan ch).standstill || !due then s
  else s.modChan ch fun x => { x with standstill := true, starting := false, reversal := false, edges := [], vMeas := 0 }

/-- R117. -/
def execStandstill (t channel : Nat) (s : State) : Out := about "fast channel" channel 8 t (standStill channel) s

/-! ## SENT -/

/-- R124: the channel is lost. -/
def loseSent (ch : Nat) (s : State) : State :=
  if (s.sentOf ch).lost then s
  else fault (200 + ch) 0 0 2 0 (s.modSent ch fun x => { x with lost := true, loss := (x.loss + 1) % 4294967296, goodRun := 0 })

/-- R123: a discarded frame, counted by `f`. -/
def badSent (ch : Nat) (f : SentSt → SentSt) (s : State) : State :=
  let s1 := s.modSent ch fun x => { f x with badRun := x.badRun + 1, goodRun := 0 }
  if 10 ≤ (s1.sentOf ch).badRun then loseSent ch s1 else s1

/-- R125: the speed of a rotary channel in millirevolutions/s from two values `dt` µs apart on a full scale of `wrap`. -/
def sentSpeed (wrap old new dt : Nat) : Int :=
  let w : Int := max 1 wrap
  let d := ((new : Int) - old + w / 2) % w - w / 2
  roundDiv (d * 1000000000) ((max 1 wrap) * max 1 dt)

/-! ### Frames of SAE J2716 (PRESUMED from that standard, assumption 55) -/

/-- The value of a nibble pulse: its length in ticks of the frame's calibration pulse of 56, less 12. -/
def nibbleOf (calNs pulseNs : Nat) : Int := (112 * pulseNs + calNs) / (2 * max 1 calNs) - 12

/-- The nibbles of a frame: status, data, CRC. -/
def sentNibbles (f : SentFrame) : List Int := f.pulses.map (nibbleOf f.calNs)

/-- R122: calibration within ±20 % of nominal and ±1.5625 % of the frame before, the declared count of nibbles from 0 to 15, and a
pause pulse as declared. -/
def sentFormed (c : SentCfg) (before : Option Nat) (f : SentFrame) : Bool :=
  decide (224000 * c.tickUs ≤ 5 * f.calNs) && decide (5 * f.calNs ≤ 336000 * c.tickUs)
    && (before.all fun b => decide (64 * mag ((f.calNs : Int) - b) ≤ b))
    && f.pulses.length == c.nibbles + 2 && ((sentNibbles f).all fun n => decide (0 ≤ n) && decide (n < 16)) && f.pauseNs.isSome == c.pause

/-- The data nibbles of a frame. -/
def sentData (c : SentCfg) (f : SentFrame) : List Nat := (((sentNibbles f).drop 1).take c.nibbles).map (·.toNat)

/-- The CRC-4 of data nibbles: polynomial x⁴ + x³ + x² + 1 from seed 5, by the standard's table; the recommended form runs one zero
nibble more. -/
def crc4 (recommended : Bool) (ns : List Nat) : Nat :=
  let row (k : Nat) : Nat := nth [0, 13, 7, 10, 14, 3, 9, 4, 1, 12, 6, 11, 15, 2, 8, 5] 0 k
  (if recommended then ns ++ [0] else ns).foldl (fun r n => (row r).xor (n % 16)) 5

/-- R123: the frame's CRC nibble is that of its data, where it has all its nibbles. -/
def sentCrcGood (c : SentCfg) (f : SentFrame) : Bool :=
  f.pulses.length != c.nibbles + 2 || nth (sentNibbles f) 0 (c.nibbles + 1) == (crc4 c.recommendedCrc (sentData c f) : Int)

/-- Nibbles as a number, the first the highest. -/
def ofNibbles (ns : List Nat) : Nat := ns.foldl (fun a n => 16 * a + n % 16) 0

/-- Table 04-6: the frame's values: one from all its data nibbles, or two of three nibbles, the second lowest first. -/
def sentValues (c : SentCfg) (f : SentFrame) : Nat × Nat :=
  let d := sentData c f
  if c.twoValues then (ofNibbles (d.take 3), ofNibbles ((d.drop 3).take 3).reverse) else (ofNibbles d, 0)

/-- The status nibbles that the declared slow channel's message spans. -/
def slowSpan (c : SentCfg) : Nat :=
  match c.slow with
  | 0 => 0
  | 1 => 16
  | _ => 18

/-- R123, R124, R125: a valid frame. -/
def goodSent (ch : Nat) (c : SentCfg) (f : SentFrame) (s : State) : State :=
  let v := sentValues c f
  let st := (nth (sentNibbles f) 0 0).toNat
  s.modSent ch fun x =>
    { x with badRun := 0, goodRun := x.goodRun + 1, lastAt := some s.devtime, value := v.1, value2 := v.2, status := st,
             slow := (st :: x.slow).take (slowSpan c),
             lost := x.lost && decide (x.goodRun + 1 < 10),
             speed := match c.rotaryWrap, x.lastAt with
               | some w, some t => sentSpeed w x.value v.1 (s.devtime - t)
               | _, _ => 0 }

/-- R123: one complete frame; one that fails both its CRC and another rule counts in both. -/
def takeSent (ch : Nat) (f : SentFrame) (s : State) : State :=
  match tfind s.cfg.odo.sent ch with
  | none => s
  | some c =>
    let formed := sentFormed c (s.sentOf ch).lastCal f
    let s1 := s.modSent ch fun x => { x with lastCal := some f.calNs }
    if formed && sentCrcGood c f then goodSent ch c f s1
    else badSent ch (fun x =>
      { x with crc := (x.crc + bit !(sentCrcGood c f)) % 4294967296, format := (x.format + bit !formed) % 4294967296 }) s1

/-- R123. -/
def execSentFrame (t channel : Nat) (frame : SentFrame) (s : State) : Out := about "SENT channel" channel 2 t (sampled (takeSent channel frame)) s

/-- R124: no valid frame within 10 frame periods, which run from the activation until the first. -/
def sentTimeout (ch : Nat) (s : State) : State :=
  match tfind s.cfg.odo.sent ch with
  | none => s
  | some c => if ((s.sentOf ch).lastAt.getD s.pwmRef) + 10 * c.periodUs ≤ s.devtime then loseSent ch s else s

/-- R124. -/
def execSentLost (t channel : Nat) (s : State) : Out := about "SENT channel" channel 2 t (sentTimeout channel) s

/-! ## Sources -/

/-- R127: two ranks that have disagreed for 2 s. -/
def disagree (s : State) (a b : Nat) : Bool :=
  match tfind s.odo.pairs (16 * min a b + max a b) with
  | some (t, _) => decide (t + 2000000 ≤ s.devtime)
  | none => false

/-- R127: with three or more sources available, one that disagrees with every other. -/
def loneSource (s : State) (ranks : List Nat) (r : Nat) : Bool :=
  decide (3 ≤ ranks.length) && ranks.all fun q => q == r || disagree s r q

/-- R127, third case: the exclusion of a source. -/
def excludeSource (r : Nat) (s : State) : State :=
  if (tget s.odo.sources {} r).excluded then s
  else fault 202 (sourceId (nth (speedSources s) .gnss r)) 1 2 0
    (s.modOdo fun o => { o with sources := tmod o.sources {} r fun x => { x with excluded := true, agreeSince := none } })

/-- R127: a pair of ranks, lower first, whose 2 s have passed and of which neither disagrees with every other source: a lasting
disagreement, raised once. The event names the higher-ranked source, its context the other. -/
def judgePair (ranks : List Nat) (s : State) (k : Nat) : State :=
  let a := k / 16
  let b := k % 16
  if !disagree s a b || (tget s.odo.pairs (0, true) k).2 || loneSource s ranks a || loneSource s ranks b then s
  else fault 202 (sourceId (nth (speedSources s) .gnss a)) 1 2 (sourceId (nth (speedSources s) .gnss b))
    (s.modOdo fun o => { o with pairs := tmod o.pairs (0, true) k fun p => (p.1, true) })

/-- R127: every source that disagrees with all others, and every disagreement whose 2 s have passed. -/
def implausible (s : State) : State :=
  let ranks := (availableSources s).map (·.1)
  let s1 := ranks.foldl (fun s r => if loneSource s ranks r then excludeSource r s else s) s
  repick ((s1.odo.pairs.map (·.1)).foldl (judgePair ranks) s1)

/-- R127. -/
def execSpeedImplausible (t : Nat) (s : State) : Out := at_ t implausible s

/-- R127: 10 s of agreement with the primary. -/
def rejoin (r : Nat) (s : State) : State :=
  let x := tget s.odo.sources {} r
  let due := match x.agreeSince with
    | some a => decide (a + 10000000 ≤ s.devtime)
    | none => false
  if !x.excluded || !due then s
  else repick (s.modOdo fun o =>
    { o with sources := tset o.sources r { x with excluded := false, agreeSince := none, stoppedSince := none } })

/-- R127. -/
def execSourceRejoin (t rank : Nat) (s : State) : Out := about "speed source" rank 9 t (rejoin rank) s

/-! ## Emulation -/

/-- R137, R138. -/
def execEmulationPulse (t : Nat) (s : State) : Out := at_ t emuPulse s

end Sys2Proof.Machine
end

