-- ==== Sys2Proof/Machine/EvIo.lean ====
section
/-! DEFINITION. Field I/O rows: digital and operator inputs (R307, R311, R312), wire-break (R309, R310, R113), analog inputs (R313, R314),
field outputs (R315), connector groups (R318, R319) and the safe-state table check (R321). A row that is not due changes nothing. -/

namespace Sys2Proof.Machine

/-! ## Inputs -/

/-- R307: a DIGITAL input's state after 4 agreeing samples, a BROKEN one reading open (R310). -/
def takeDigital (i : Nat) (closed : Bool) (s : State) : State :=
  if (s.fiCfg i).mode != .digital then s
  else s.modFi i fun x => { x with raw := closed, state := logical s i closed }

/-- R307. -/
def execInputStateChange (t input : Nat) (contactClosed : Bool) (s : State) : Out :=
  about "field input" input 32 t (sampled (takeDigital input contactClosed)) s

/-- R113: the channel of a fast input that reports wire-break, or reports it no more; a quadrature channel has two inputs. The event
has no severity, so it is no fault (R480). -/
def channelBreak (i : Nat) (s : State) : State :=
  match channelOf s i with
  | none => s
  | some ch =>
    let broken := (s.fi ch).cls == 3 || ((s.chanCfg ch).quad && (s.fi (ch + 1)).cls == 3)
    if (s.chan ch).wireBreak == broken then s
    else
      let s1 := s.modChan ch fun x => { x with wireBreak := broken }
      repick (if broken then edge (192 + ch) 0 1 s1 else s1)

/-- R309, R310: a class that has held for 10 ms. -/
def takeClass (i cls : Nat) (lowR : Bool) (s : State) : State :=
  let c := s.fiCfg i
  if !c.wb || cls = 0 || 3 < cls || ((s.fi i).cls == cls && (s.fi i).lowR == (lowR && cls == 1)) then s
  else
    let broken := cls == 3 && (s.fi i).cls != 3
    let s1 := s.modFi i fun x => { x with cls := cls, lowR := lowR && cls == 1, breaks := x.breaks + bit broken }
    let s2 := if broken && !muted s (.fi i) then fault 205 i 0 2 0 s1 else s1
    let s3 := if c.mode == .digital || c.mode == .fast then s2.modFi i fun x => { x with state := logical s2 i x.raw } else s2
    if i < 8 && c.mode == .fast then channelBreak i s3 else s3

/-- R309. -/
def execFiWireBreak (t input cls : Nat) (lowR : Bool) (s : State) : Out :=
  about "field input" input 32 t (sampled (takeClass input cls lowR)) s

/-- R312, R339: the key-on input's contact opens or closes. -/
def keyMoves (closed : Bool) (s : State) : State :=
  if closed then s.modPower fun p => { p with keyOffEnd := none, keyOffDue := false }
  else
    let s1 := fault 2 0 0 1 0 s
    if s.cfg.host.autoPark then
      s1.modPower fun p => { p with keyOffEnd := some (s.devtime + 1000000 * s.cfg.host.keyOffDelayS), keyOffDue := false }
    else s1

/-- R311, R312: an OPERATOR input whose raw state has stayed for DEBOUNCE. -/
def takeOperator (i : Nat) (closed : Bool) (first : Nat) (s : State) : State :=
  let c := s.fiCfg i
  let v := logical s i closed
  if c.mode != .operator || decide (s.devtime < first + 1000 * c.debounceMs) then s
  else
    let s1 := s.modFi i fun x => { x with raw := closed }
    if (s.fi i).state == v then s1
    else
      let s2 := operatorChange i v first s1
      if i = 0 && c.keyOn then keyMoves (closed && (s.fi i).cls != 3) s2 else s2

/-- R311. -/
def execNOperator (t input : Nat) (contactClosed : Bool) (firstSampleUs : Nat) (s : State) : Out :=
  about "field input" input 32 t (sampled (takeOperator input contactClosed firstSampleUs)) s

/-! ## Analog inputs -/

/-- R313: the engineering value of a reading by the input's two points. -/
def scaled (c : AnalogCfg) (raw : Nat) : Int :=
  let d : Int := (c.raw1 : Int) - c.raw0
  let n : Int := ((raw : Int) - c.raw0) * (c.eng1 - c.eng0)
  if d = 0 then c.eng0 else c.eng0 + roundDiv (if d < 0 then -n else n) (mag d)

/-- Table 10-4: above the range of the mode. -/
def overRange (m : AnalogMode) (raw : Nat) : Bool :=
  match m with
  | .v5 | .v10 => decide (4040 < raw)
  | .ma20 => decide (21000 * 4096 < 24000 * raw)

/-- R314: validity is judged; AI_INVALID is raised once per entry. A wire-break in a group that is away is counted in silence. -/
def judgeAnalog (a : Nat) (s : State) : State :=
  let c := s.aiCfg a
  let x := s.ai a
  let ok := !x.wireBreak && !x.overRange && decide (c.validLo ≤ x.value) && decide (x.value ≤ c.validHi)
  let s1 := s.modAi a fun x => { x with valid := ok }
  if x.valid && !ok && !(x.wireBreak && muted s (.ai a)) then fault 206 a 1 2 0 s1 else s1

/-- R313, R314: a reading of an input whose burden is connected. -/
def takeAnalog (a raw : Nat) (s : State) : State :=
  let c := s.aiCfg a
  if !c.used || (s.ai a).burdenOpen then s
  else judgeAnalog a (s.modAi a fun x =>
    { x with raw := raw, value := scaled c raw, overRange := overRange c.mode raw,
             wireBreak := c.mode == .ma20 && decide (24000 * raw < 3600 * 4096) })

/-- R314. -/
def execAiInvalid (t input raw : Nat) (s : State) : Out := about "analog input" input 8 t (sampled (takeAnalog input raw)) s

/-- R314: more than 25 mA for 1 ms opens the burden; the input then reads WIRE_BREAK. -/
def openBurden (a : Nat) (s : State) : State :=
  let c := s.aiCfg a
  if !c.used || c.mode != .ma20 || (s.ai a).burdenOpen then s
  else judgeAnalog a (fault 206 a 0 2 0 (s.modAi a fun x => { x with burdenOpen := true, burdenAt := s.devtime, wireBreak := true, overRange := false }))

/-- R314. -/
def execAiOverload (t input : Nat) (s : State) : Out := about "analog input" input 8 t (sampled (openBurden input)) s

/-- R314: a reconnection test, 100 ms after the opening or the test before it: one that reads 25 mA or less keeps the burden
connected, and the input reads that current. -/
def burdenTest (a ua : Nat) (s : State) : State :=
  if !(s.ai a).burdenOpen || decide (s.devtime < (s.ai a).burdenAt + 100000) then s
  else if 25000 < ua then s.modAi a fun x => { x with burdenAt := s.devtime }
  else takeAnalog a (min 4095 (ua * 4096 / 24000)) (s.modAi a fun x => { x with burdenOpen := false })

/-- R314. -/
def execBurdenTest (t input currentUa : Nat) (s : State) : Out := about "analog input" input 8 t (sampled (burdenTest input currentUa)) s

/-! ## Field outputs -/

/-- Whether a field output drives its load. -/
def foOn (x : OutputSt) : Bool := x.st == 1 || x.st == 3

/-- A command about a field output that may enter its fault state. -/
def aboutFo (o t : Nat) (f : State → State) (s : State) : Out :=
  if o < 16 then atOut t f s else .refused (.noSuchElement "field output" o)

/-- R315: the current limit has been engaged for 2 ms. -/
def foOverload (o : Nat) (s : State) : State :=
  if foOn (s.fo o) && decide ((s.fo o).onAt + 2000 ≤ s.devtime) then faultFo o 0 s else s

/-- R315. -/
def execFoOvercurrent (t output : Nat) (s : State) : Out := aboutFo output t (foOverload output) s

/-- R315: the thermal latch sets, and the output is in its fault state. -/
def foLatch (o : Nat) (s : State) : State :=
  if (s.fo o).latch then s else faultFo o 1 (s.modFo o fun x => { x with latch := true })

/-- R315. -/
def execFoOvertemp (t output : Nat) (s : State) : Out := aboutFo output t (foLatch output) s

/-- R315: less than 5 mA for 100 ms on an output that is on. -/
def foOpen (o : Nat) (s : State) : State :=
  if !foOn (s.fo o) || (s.fo o).openLoad || decide (s.devtime < (s.fo o).onAt + 100000) then s
  else
    let s1 := s.modFo o fun x => { x with openLoad := true }
    if muted s (.fo o) then s1 else fault 207 o 2 2 0 s1

/-- R315. -/
def execFoOpenLoad (t output : Nat) (s : State) : Out := aboutFo output t (foOpen output) s

/-! ## Connector groups -/

/-- A command about a connector group of the configuration. -/
def aboutGroup (g t : Nat) (f : State → State) (s : State) : Out :=
  if g < 8 then atOut t (fun s => if awake s && decide (g < s.cfg.fieldIo.groups.length) then f s else s) s
  else .refused (.noSuchElement "connector group" g)

/-- How many of some lines of a group show loss; lines are numbered by their place in the group. -/
def lossOf (g : GroupCfg) (among : List Line) (loss : List Nat) : Nat :=
  (g.lines.zipIdx.filter fun l => loss.contains l.2 && among.contains l.1).length

/-- R318: HARNESS_AWAY. -/
def harnessLost (g : Nat) (loss : List Nat) (cs : Clamps) (s : State) : State :=
  let c := groupCfg s g
  let seen := observable s c
  let n := lossOf c seen loss
  if s.group g == .away || n < 3 || 4 * n < 3 * seen.length then s
  else faultLevel (208 + g) 0 0 2 (markAway c true (setGroup g .away (c.lines.foldl (offLine cs) s)))

/-- R318. -/
def execHarnessAway (t group : Nat) (lossLines : List Nat) (clamps : Clamps) (s : State) : Out :=
  aboutGroup group t (harnessLost group lossLines clamps) s

/-- R319: HARNESS_BACK ends the level, writes no record, and enters the intake with CODE 1. -/
def harnessReturns (g : Nat) (loss : List Nat) (s : State) : State :=
  let c := groupCfg s g
  let ss := sentinels s c
  if s.group g != .away || ss.length ≤ 4 * lossOf c ss loss then s
  else
    let s1 := setLevel (208 + g) 0 false (markAway c false (setGroup g .back s))
    intakePut { cls := classOf (208 + g) 1, inst := 0, severity := 1, source := 208 + g, time := s.devtime } s1

/-- R319. -/
def execHarnessBack (t group : Nat) (lossLines : List Nat) (s : State) : Out := aboutGroup group t (harnessReturns group lossLines) s

/-! ## Safe-state tables -/

/-- R321: the check fails while the link is up: it is raised and D0 reloads the table. With the link silent, or silent for T_silent, it
stays failed. -/
def checkTable (d : Nat) (ok : Bool) (s : State) : State :=
  let quiet := (s.die d).silent || decide ((s.die d).lastFrameAt + 1000 * s.cfg.package.tSilentMs ≤ s.devtime)
  if ok then s.modDie d fun x => { x with tableOk := true }
  else if quiet then s.modDie d fun x => { x with tableOk := false }
  else fault 216 d 0 3 0 s

/-- R321. -/
def execSafeTableCheck (t die : Nat) (crcOk : Bool) (s : State) : Out :=
  if 2 ≤ die && die < 5 then at_ t (checkTable die crcOk) s else .refused (.noSuchElement "power die" die)

end Sys2Proof.Machine
end

