-- ==== Sys2Proof/Machine/EvLinks.lean ====
section
/-! DEFINITION. Bridge links (R15 to R19, R322 to R324), cores (R20, R21), VBAT groups (R527), the ledger's audit (R46 to R49)
and derating (R45). A row that is not due changes nothing. -/

namespace Sys2Proof.Machine

/-! ## Bridge links -/

/-- A command about bridge link 0 to 2, which serves power die link + 2. -/
def aboutLink (link t : Nat) (f : State → State) (s : State) : Out := about "bridge link" link 3 t f s

/-- R18: lanes of a link in service, in pairs. -/
def lanesUp (x : DieSt) : Nat :=
  let n := 4 - x.lanesOut.length
  if n = 4 then 4 else if 2 ≤ n then 2 else 0

/-- Whether a link carries frames: it has a working pair (R18), its die is fed (R29) and not parked (R19). -/
def linkUp (s : State) (d : Nat) : Bool := lanesUp (s.die d) != 0 && dieFed s d && !(s.die d).parked

/-- R15, R16, R19: a frame at one end of a link. A valid one ends the link's retraining; one that fails its CRC is discarded, counted
and asked for in the receiver's next heartbeat. -/
def takeFrame (d : Nat) (atDie crcOk : Bool) (s : State) : State :=
  if !linkUp s d then s
  else if crcOk then
    retrained d (if atDie then s.modDie d fun x => { x with lastFrameAt := s.devtime, linked := true } else s)
  else s.modDie d fun x =>
    if atDie then { x with crc := x.crc + 1, wantDie := true } else { x with crc := x.crc + 1, wantD0 := true }

/-- R15. -/
def execBridgeFrame (t link : Nat) (atDie crcOk : Bool) (_seq : Nat) (s : State) : Out :=
  aboutLink link t (takeFrame (link + 2) atDie crcOk) s

/-- R15: the frame that a heartbeat of the receiver at one end asked for is sent again. -/
def resend (d : Nat) (atDie : Bool) (s : State) : State :=
  let asked := if atDie then (s.die d).askDie else (s.die d).askD0
  if !asked || !linkUp s d then s
  else s.modDie d fun x =>
    if atDie then { x with askDie := false, lastFrameAt := s.devtime, linked := true } else { x with askD0 := false }

/-- R15. -/
def execBridgeResend (t link : Nat) (atDie : Bool) (s : State) : Out := aboutLink link t (resend (link + 2) atDie) s

/-- R16, R17: D0 sends heartbeats on a link while the Keeper pair is in service and the link carries frames. -/
def heartbeats (s : State) (d : Nat) : Bool :=
  s.power.supplies && !s.start.maint && s.start.keeperOut.isNone && linkUp s d

/-- R15, R16: a heartbeat leaves one end under the next sequence number, and carries that end's request for a resend. DESIGN CHOICE
(log 51): the spec gives the sequence number no width; it counts modulo 256. -/
def sendHeartbeat (d : Nat) (fromDie : Bool) (s : State) : State :=
  if fromDie then
    (if !linkUp s d then s
     else s.modDie d fun x => { x with seqDie := (x.seqDie + 1) % 256, wantDie := false, askDie := x.askDie || x.wantDie })
  else if heartbeats s d then
    s.modDie d fun x => { x with seqD0 := (x.seqD0 + 1) % 256, wantD0 := false, askD0 := x.askD0 || x.wantD0 }
  else s

/-- R16. -/
def execBridgeHeartbeatSend (t link : Nat) (fromDie : Bool) (s : State) : Out :=
  aboutLink link t (sendHeartbeat (link + 2) fromDie) s

/-- R18: a lane leaves service. DESIGN CHOICE (log 51): the spec says no word of its return, and it stays out until a power-on reset. -/
def loseLane (link lane : Nat) (s : State) : State :=
  if (s.die (link + 2)).lanesOut.contains lane then s
  else fault (4 + link) lane 0 2 0 (s.modDie (link + 2) fun x => { x with lanesOut := x.lanesOut ++ [lane] })

/-- R18. -/
def execBridgeDegraded (t link lane : Nat) (s : State) : Out :=
  if lane < 4 then aboutLink link t (loseLane link lane) s else .refused (.noSuchElement "bridge lane" lane)

/-! ## Silence -/

/-- A command about a power die, 2 to 4. -/
def aboutDie (d t : Nat) (f : State → State) (s : State) : Out :=
  if 2 ≤ d && d < 5 then atOut t f s else .refused (.noSuchElement "power die" d)

/-- R322: the die acts alone and applies its safe-state table. -/
def goSilent (d : Nat) (cs : Clamps) (s : State) : State :=
  let s1 := soloBegin d (s.modDie d fun x => { x with silent := true, silentAt := s.devtime, heldSafe := true, backAt := none })
  let s2 := safeDie d cs s1
  if (s.die d).tableOk then s2 else s2.modDie d fun x => { x with allOff := true }

/-- R16, R19, R322: T_silent has passed at a die that is not parked. -/
def silenceOf (s : State) (d : Nat) : Bool :=
  !(s.die d).silent && !(s.die d).parked && dieFed s d && decide ((s.die d).lastFrameAt + 1000 * s.cfg.package.tSilentMs ≤ s.devtime)

/-- R322. -/
def execLinkSilence (t die : Nat) (clamps : Clamps) (s : State) : Out :=
  aboutDie die t (fun s => if silenceOf s die then goSilent die clamps s else s) s

/-- R323: silence has lasted 10 × T_silent. -/
def allOffDue (s : State) (d : Nat) : Bool :=
  (s.die d).silent && !(s.die d).allOff && dieFed s d && decide ((s.die d).lastFrameAt + 10000 * s.cfg.package.tSilentMs ≤ s.devtime)

/-- R323: every output of the die goes off; channels that limp home drives follow limp. -/
def dieOff (d : Nat) (cs : Clamps) (s : State) : State :=
  ((outputsOfDie s d).foldl (offLine cs) s).modDie d fun x => { x with allOff := true }

/-- R323. -/
def execSilenceAllOff (t die : Nat) (clamps : Clamps) (s : State) : Out :=
  aboutDie die t (fun s => if allOffDue s die then dieOff die clamps s else s) s

/-- R523, R324, R479: heartbeats are back: the die's own grants enter the package level; its outputs stay as the safe state left
them. D4 goes on alone while limp home runs (R302). -/
def linkBack (d : Nat) (s : State) : State :=
  if !(s.die d).silent || !heartbeats s d then s
  else
    let s1 := soloEnd d (s.modDie d fun x =>
      { x with silent := false, allOff := false, linked := true, lastFrameAt := s.devtime, backAt := some s.devtime })
    let s2 := if d = 4 && s1.limp.isSome then soloBegin 4 s1 else s1
    if s2.events.stopped then s2 else deliverLatched d s2

/-- R523. -/
def execLinkRestored (t die : Nat) (s : State) : Out := aboutDie die t (linkBack die) s

/-- R19: whether a link has been retraining for 1 ms since a wake. -/
def retrainLate (s : State) (d : Nat) : Bool :=
  match (s.die d).retrain with
  | some t => !(s.die d).silent && !(s.die d).parked && decide (t + 1000 ≤ s.devtime)
  | none => false

/-- R19: the link did not retrain within 1 ms of a wake. The row carries no clamp measurements. -/
def retrainFail (d : Nat) (s : State) : State :=
  if !retrainLate s d then s
  else goSilent d [] (edge (4 + (d - 2)) 0 1 (s.modDie d fun x => { x with retrain := none }))

/-- R19. -/
def execRetrainTimeout (t die : Nat) (s : State) : Out := aboutDie die t (retrainFail die) s

/-! ## Cores -/

/-- The power die whose sequencer a core is, if it is one (Table 01-2). -/
def dieOfCore (core : Nat) : Option Nat := if 6 ≤ core && core < 9 then some (core - 4) else none

/-- R21: units and switches of a sequencer's die in their safe state, held there until the re-enable of R399. -/
def coldSafe (d : Nat) (cs : Clamps) (s : State) : State :=
  ((outputsOfDie s d).filter fun l => match l with
    | .unit _ | .switch _ => true
    | .fi _ | .fo _ | .ai _ => false).foldl (safeLine cs) (s.modDie d fun x => { x with heldSafe := true, backAt := none })

/-- R20, R21, R17: a core leaves service. -/
def coreFails (core : Nat) (ok : Bool) (cs : Clamps) (s : State) : State :=
  if s.start.coresOut.any (fun x => x.1 == core) || (core = 0 && s.start.keeperOut.isSome) then s
  else if ok then
    fault 3 core 0 2 0 (s.modStart fun x => { x with coresOut := x.coresOut ++ [(core, false, s.devtime)] })
  else if core = 0 then s.modStart fun x => { x with keeperOut := some s.devtime }
  else
    let s1 := fault 3 core 1 3 0 (s.modStart fun x => { x with coresOut := x.coresOut ++ [(core, true, s.devtime)] })
    match dieOfCore core with
    | some d => coldSafe d cs s1
    | none => s1

/-- R20, R21, R17. -/
def execCoreRestart (t core : Nat) (checkpointOk : Bool) (clamps : Clamps) (s : State) : Out :=
  if core < 9 then atOut t (coreFails core checkpointOk clamps) s else .refused (.noSuchElement "core" core)

/-- A core is back in service. -/
def coreBack (core : Nat) (cold : Bool) (s : State) : State :=
  if !(s.start.coresOut.any fun x => x.1 == core && x.2.1 == cold) then s
  else
    let s1 := s.modStart fun x => { x with coresOut := x.coresOut.filter fun y => y.1 != core }
    match cold, dieOfCore core with
    | true, some d => s1.modDie d fun x => { x with backAt := if x.heldSafe && !x.silent then some s.devtime else x.backAt }
    | _, _ => s1

/-- R20. -/
def execCoreRestartDone (t core : Nat) (s : State) : Out := about "core" core 9 t (coreBack core false) s

/-- R21. -/
def execCoreColdDone (t core : Nat) (s : State) : Out := about "core" core 9 t (coreBack core true) s

/-! ## VBAT groups -/

/-- R527: every output of a region goes off, and no unit that waits for a peak slot takes it; no element enters a fault state for it. -/
def regionLost (g : Nat) (cs : Clamps) (s : State) : State :=
  if g < 4 then
    let cl := upFrom (4 * g) 4
    let us := cl.flatMap unitsOfCluster
    let s0 := cl.foldl (fun s c => s.modCluster c fun x => { x with queue := [] }) (spoilUnits (unitsOfDie (dieOfRegion g)) s)
    let s1 := spoilUnits us (us.foldl (fun s u => forceOff u s) s0)
    cl.foldl (fun s c => s.modCluster c fun x => { x with holder := none, queue := [], highSide := false, boostRail := false, testAt := none }) s1
  else if g < 6 then (if g = 4 then upFrom 0 16 else upFrom 16 8).foldl (fun s n => offSw n cs s) s
  else (upFrom 0 16).foldl (fun s o => offFo o s) s

/-- R29: a die without any of its groups has no logic and no link. DESIGN CHOICE (log 51): it is as a die whose link is silent and whose
outputs are all off, until heartbeats are back (R523) and it is re-enabled (R399). -/
def unfeed (d : Nat) (s : State) : State :=
  if dieFed s d then s
  else s.modDie d fun x =>
    { x with silent := true, silentAt := if x.silent then x.silentAt else s.devtime, allOff := true, heldSafe := true, backAt := none,
             retrain := none, wantDie := false, askDie := false, latched := [], excess := [] }

/-- A VBAT group's voltage, 36 V and below. -/
def atGroup (t g mv : Nat) (f : State → State) (s : State) : Out :=
  if 7 ≤ g then .refused (.noSuchElement "VBAT group" g)
  else if 36000 < mv then .fault (.supplyUnspecified g)
  else atOut t (fun s => f (s.modNav fun n => { n with vbatMv := tset n.vbatMv g mv })) s

/-- R29, R527: a group below 6.0 V is lost (Table 11-1). -/
def loseGroup (g mv : Nat) (cs : Clamps) (s : State) : State :=
  if tget s.power.groups false g && decide (mv < 6000) then
    unfeed (dieOfRegion g) (regionLost g cs (faultLevel (7 + g) g 0 3 (s.modPower fun p => { p with groups := tset p.groups g false })))
  else s

/-- R527. -/
def execVbatGroupLoss (t group mv : Nat) (clamps : Clamps) (s : State) : Out := atGroup t group mv (loseGroup group mv clamps) s

/-- R29, R527: a group above 6.3 V is back. -/
def groupBack (g mv : Nat) (s : State) : State :=
  if 6300 < mv then setLevel (7 + g) 0 false (s.modPower fun p => { p with groups := tset p.groups g true }) else s

/-- R527. -/
def execVbatGroupReturn (t group mv : Nat) (s : State) : Out := atGroup t group mv (groupBack group mv) s

/-! ## Ledger -/

/-- R46: the audit runs every 10 ms while D0 is awake. -/
def auditDue (s : State) : Bool := awake s && decide (s.ledger.windowAt + 10000 ≤ s.devtime)

/-- R46. -/
def execLedgerAudit (t : Nat) (meas : AuditMeas) (clamps : Clamps) (s : State) : Out :=
  atOut t (fun s => if auditDue s then audit meas clamps s else s) s

/-- R2, R45: entry. -/
def derate (dc : Int) (s : State) : State :=
  if s.storage.variant != 1 || s.ledger.derated || decide (dc ≤ 850) then s
  else fault 14 0 1 1 0 (setPool s.ledger.packagePool true s)

/-- R45. -/
def execDerateEnter (t : Nat) (coldPlateDc : Int) (s : State) : Out := at_ t (derate coldPlateDc) s

/-- R45: exit. -/
def underate (dc : Int) (s : State) : State :=
  if !s.ledger.derated || decide (820 ≤ dc) then s
  else fault 14 0 1 1 0 (setPool s.ledger.packagePool false s)

/-- R45. -/
def execDerateExit (t : Nat) (coldPlateDc : Int) (s : State) : Out := at_ t (underate coldPlateDc) s

end Sys2Proof.Machine
end

