-- ==== Sys2Proof/Machine/EvLoop.lean ====
section
/-! DEFINITION. Loop rows: a sample (R258, R259, R263, R264, R268, R276), the end of FB_HOLD (R259) and the plausibility model (R270 to
R272). A row that is not due changes nothing. -/

namespace Sys2Proof.Machine

/-- Whether the engines run a configured loop now (R255, Table 11-2). -/
def loopRuns (s : State) (l : Nat) : Bool :=
  awake s && s.start.configActive && !s.start.maint && s.power.state != PowerState.refresh && (tfind s.cfg.loops l).isSome

/-- R255: whether a period of `us` ends at this DEVTIME. -/
def onBeat (us now : Nat) : Bool := us != 0 && now % us == 0

/-! ## Feedback -/

/-- R258: the value of a loop's feedback at this sample; AI and CURRENT are measured, the others follow from State. -/
def feedbackOf (s : State) (l : Nat) (measured : Option Int) : Option Int :=
  match (s.loopCfg l).fb with
  | .none => none
  | .odo c => some (roundDiv (reported s c) 1000)
  | .sent c => some (s.sentOf c).speed
  | .ai _ | .current _ => measured
  | .bus _ _ _ _ _ scale _ => (s.loop l).bus.map fun v => roundDiv (v.1 * scale) 65536

/-- R259: whether a loop's feedback counts as valid, by its binding. -/
def feedbackValid (s : State) (l : Nat) : Bool :=
  match (s.loopCfg l).fb with
  | .none => false
  | .odo c => validChannel s c && !(s.chan c).noisy && !(s.chan c).wireBreak
  | .sent c => !(s.sentOf c).lost
  | .ai a => (s.ai a).valid
  | .bus _ _ _ _ _ _ age => match (s.loop l).bus with
    | some v => decide (s.devtime ≤ v.2 + 1000 * age)
    | none => false
  | .current u => !faulted s u

/-! ## A sample -/

/-- R264, R268: a mode change and then one coefficient write take effect. A mode that the host sets ends the device's hold (R276). -/
def sampleWrites (l : Nat) (s : State) : State :=
  let s1 := match (s.loop l).newMode with
    | some m => (setMode l m s).modLoop l fun x => { x with deviceHold := false }
    | none => s
  match (s1.loop l).writes with
  | [] => s1
  | w :: rest =>
    if (s1.loop l).mode == LoopMode.off then
      s1.modLoop l fun x => { x.writes.foldl (fun y w => y.write w.1 w.2 s.devtime) x with writes := [] }
    else s1.modLoop l fun x => { x.write w.1 w.2 s.devtime with writes := rest }

/-- R263: whether the equation is skipped at this sample. -/
def skips (x : LoopSt) : Bool :=
  match x.mode with
  | .off | .hold => true
  | .manual | .auto => x.outFault || x.fbInvalid

/-- R263: one sample of a loop, one at an instant. -/
def sampleLoop (l : Nat) (measured : Option Int) (s : State) : State :=
  if !loopRuns s l || !onBeat (1000000 / max 1 (s.loopCfg l).rateHz) s.devtime || (s.loop l).sampledAt == some s.devtime then s
  else
    let s0 := s.modLoop l fun x => { x with sampledAt := some s.devtime }
    let s1 := trimLoop l (sampleWrites l s0)
    let fb := feedbackOf s1 l measured
    let s2 := judgeFeedback l (feedbackValid s1 l && fb.isSome) s1
    let pv := fb.getD (s2.loop l).pv
    if skips (s2.loop l) then s2.modLoop l fun x => { x with pv := pv }
    else applyLoop l (s2.modLoop l fun x => x.sample (s.loopCfg l).rateHz pv)

/-- R263. -/
def execLoopSample (t loop : Nat) (feedback : Option Int) (s : State) : Out :=
  if loop < 128 then atOut t (sampleLoop loop feedback) s else .refused (.noSuchElement "loop" loop)

/-- R259: FB_HOLD has passed; the output goes to OUT_SAFE. -/
def holdExpires (l : Nat) (s : State) : State :=
  let x := s.loop l
  if !loopRuns s l || !x.fbHolding || decide (s.devtime < x.fbInvalidAt + 1000 * x.params.fbHoldMs.toNat) then s
  else
    let s1 := s.modLoop l fun x => { x with fbHolding := false, u := x.params.outSafe }
    if x.outFault then s1 else applyLoop l s1

/-- R259. -/
def execFbHoldExpiry (t loop : Nat) (s : State) : Out :=
  if loop < 128 then atOut t (holdExpires loop) s else .refused (.noSuchElement "loop" loop)

/-! ## Plausibility -/

/-- R270: one step of the model, 10 ms, in 2^-16 of the feedback unit (assumption 13). -/
def LoopSt.predict (x : LoopSt) : LoopSt :=
  let p := x.params
  let h := (x.u :: x.uHist).take 256
  let y := x.yM + (p.kM * nth h x.u (p.thetaMs.toNat / 10) + p.y0 - x.yM) * 10 / p.tauMs
  let r := x.pv * 65536 - y
  { x with uHist := h, yM := y, rF := x.rF + (r - x.rF) * 10 / (p.tfMs + 10) }

/-- R272: since when a condition holds. -/
def sinceWhen (holds : Bool) (was : Option Nat) (now : Nat) : Option Nat :=
  if !holds then none else match was with
    | some t => some t
    | none => some now

/-- R271, R272: the filtered residual is judged, but for THETA + 3 × TAU after a restart. -/
def judgeResidual (l : Nat) (s : State) : State :=
  let x := s.loop l
  let p := x.params
  if s.devtime < x.plausAt + 1000 * (p.thetaMs + 3 * p.tauMs).toNat then s.modLoop l fun x => { x with overSince := none, underSince := none }
  else
    let above := sinceWhen (decide (p.rThr * 65536 < mag x.rF)) x.overSince s.devtime
    let under := sinceWhen (decide (2 * mag x.rF < p.rThr * 65536)) x.underSince s.devtime
    let long (a : Option Nat) : Bool := timeDue (a.map fun t => t + 1000 * p.rTimeMs.toNat) s.devtime
    let s1 := s.modLoop l fun x => { x with overSince := above, underSince := under }
    if !x.plausFault && long above then
      let s2 := fault 218 l 0 3 (roundDiv x.rF 65536 % 4294967296).toNat (s1.modLoop l fun x => { x with plausFault := true })
      if p.policy = 1 then setMode l .off s2 else s2
    else if x.plausFault && long under then s1.modLoop l fun x => { x with plausFault := false }
    else s1

/-- R270, R271: the 100 Hz update, in MANUAL and AUTO while feedback is valid. -/
def plausibility (l : Nat) (s : State) : State :=
  let x := s.loop l
  let runs := match x.mode with
    | .manual | .auto => !x.fbInvalid
    | .off | .hold => false
  if !loopRuns s l || !onBeat 10000 s.devtime || x.plausStepAt == some s.devtime || x.params.plausEnable = 0 || !runs then s
  else judgeResidual l (s.modLoop l fun x => { x.predict with plausStepAt := some s.devtime })

/-- R270. -/
def execPlausibilityUpdate (t loop : Nat) (s : State) : Out :=
  if loop < 128 then atOut t (plausibility loop) s else .refused (.noSuchElement "loop" loop)

end Sys2Proof.Machine
end

