-- ==== Sys2Proof/Machine/EvStart.lean ====
section
/-! DEFINITION. Supplies, resets, calibration after the start, sleep and wakes (R325 to R349, R352 to R365, R369). A row that is not due
changes nothing. -/

namespace Sys2Proof.Machine

/-! ## Starts and resets -/

/-- R352: the start sequence runs where D0 waits for it (assumption 16). -/
def execSuppliesValid (t : Nat) (tests : StartTests) (s : State) : Out :=
  at_ t (fun s => if s.power.supplies || s.power.state == PowerState.park then s else startUp false tests s) s

/-- A map after DEVTIME has restarted at 0: its tiles' last touches are forgotten. -/
def CovSt.restarted (c : CovSt) : CovSt := { c with tiles := c.tiles.map fun t => { t with touched := 0 } }

/-- R325, R347: the whole package resets and retention is lost: what is left is what the eMMC, the fuses and the VBAT groups hold, and
the commands that wait. DEVTIME restarts at 0. -/
def powerOnReset (s : State) : State :=
  let s1 := resetD0 0 s
  { State.reset with
    storage := { s1.storage with sysEpoch := 0, latencySavedAt := 0, failedFw := [] }
    recorder := { s1.recorder with committedAt := 0, heldAt := 0, histAt := 0, sampledAt := none, timedTo := 0 }
    cov := s1.cov.restarted
    power := { groups := s.power.groups }
    nav := { vbatMv := s.nav.vbatMv, gridMc := s.nav.gridMc }
    freeCount := s.freeCount
    pending := s.pending }

/-- R325. -/
def execVddAonBrownout (t : Nat) (s : State) : Out := atReset t powerOnReset s

/-- R326, R369: D0 resets; in PARK the board may take its rails away (R327), and a D0 that waits for its start stays there. -/
def coreBrownout (s : State) : State :=
  if s.power.state == .park then s
  else if !s.power.supplies then { s with start := { s.start with cause := 1 } }
  else resetD0 1 s

/-- R369. -/
def execVddCoreBrownout (t : Nat) (s : State) : Out := atReset t coreBrownout s

/-- Table 11-1: D1 is off and both antennas are lost; their front ends are calibrated anew once VDD_RF is back (R365). -/
def loseRf (s : State) : State :=
  if !s.power.vddRf then s
  else
    let s1 := { s with power := { s.power with vddRf := false }, start := { s.start with rfBad := [0, 1] } }
    loseAntenna 1 (loseAntenna 0 (stopTracking s1))

/-- R325. -/
def execVddRfLoss (t : Nat) (s : State) : Out := at_ t loseRf s

/-- R508. -/
def execRstN (t : Nat) (s : State) : Out := atReset t (resetD0 2) s

/-- R358: one more counted reset; the third while one slot runs makes that slot fail at the next start. -/
def countTry (slot : Nat) (s : State) : State :=
  let n := s.start.tries + 1
  let s1 := s.modStart fun x => { x with tries := n }
  if n % 3 = 0 then s1.modStore fun x => { x with failedFw := x.failedFw ++ [slot] } else s1

/-- The slot that the present start tries or runs. -/
def slotTried (s : State) : Nat :=
  if s.start.ready then s.storage.runningFw
  else match bootSlot s with
    | some b => b.1
    | none => s.storage.activeFw

/-- R356: READY has not come within 1,000 ms of supplies valid, or the Keeper pair has been out of service for 30 ms. -/
def watch (s : State) : State :=
  let slow := s.power.supplies && !s.start.ready && !s.start.maint && s.power.state == PowerState.run
    && decide (s.start.begunAt + 1000000 ≤ s.devtime)
  let lost := s.start.ready && elapsed s s.start.keeperOut 30000 && s.start.keeperOut.isSome
  if slow then countTry (slotTried s) (resetD0 3 s)
  else if lost then countTry (slotTried s) (resetD0 4 s)
  else s

/-- R356. -/
def execWatchdog (t : Nat) (s : State) : Out := atReset t watch s

/-! ## Calibration after the start -/

/-- R362, R48: the audit skips a region and its clusters while they calibrate; a region whose group came after step 7 is calibrated. -/
def calibrateRegion (r : Nat) (failU failC failS failO : List Nat) (s : State) : State :=
  if !s.start.ready || !s.start.uncalibrated.contains r || !tget s.power.groups false r then s
  else
    let units := ((failU ++ failC.flatMap unitsOfCluster).eraseDups).filter fun u => regionOf (clusterOf u) == r && u < 128
    let sws := failS.eraseDups.filter fun n => swRegionOf n == r && n < 24
    let fos := if r = 6 then failO.eraseDups.filter (· < 16) else []
    let s1 := s.modStart fun x =>
      { x with uncalibrated := x.uncalibrated.filter (· != r), badUnits := (x.badUnits ++ units).eraseDups,
               badSwitches := (x.badSwitches ++ sws).eraseDups, badOutputs := (x.badOutputs ++ fos).eraseDups }
    skipDrift (driftOfRegion r) ((units ++ sws ++ fos).foldl (fun s k => calFail k s) ((measuredUnits s r).foldl (setGain false) s1))

/-- R362. -/
def execRegionCalibration (t region : Nat) (failUnits failClusters failSwitches failOutputs : List Nat) (s : State) : Out :=
  about "region" region 7 t (calibrateRegion region failUnits failClusters failSwitches failOutputs) s

/-- The output that a deferred element is. -/
def deferredLine (kind element : Nat) : Line :=
  match kind with
  | 0 => .unit element
  | 1 => .switch element
  | _ => .fo element

/-- R363: an element that a reset left on has been off for 5 ms after READY and is calibrated. -/
def calibrateDeferred (kind element : Nat) (pass : Bool) (s : State) : State :=
  if !s.start.ready || !s.start.deferred.contains (kind, element) || !lineOff s (deferredLine kind element)
    || decide (s.devtime < s.start.readyAt + 5000) then s
  else
    let s1 := skipDrift (driftOfLine (deferredLine kind element))
      (s.modStart fun x => { x with deferred := x.deferred.filter (· != (kind, element)) })
    if pass then (if kind = 0 then setGain false s1 element else s1)
    else calFail element (s1.modStart fun x => match kind with
      | 0 => { x with badUnits := x.badUnits ++ [element] }
      | 1 => { x with badSwitches := x.badSwitches ++ [element] }
      | _ => { x with badOutputs := x.badOutputs ++ [element] })

/-- R363. -/
def execCalDeferred (t kind element : Nat) (pass : Bool) (s : State) : Out := at_ t (calibrateDeferred kind element pass) s

/-- R365: a front end is calibrated once VDD_RF is valid. -/
def calibrateFrontEnd (a : Nat) (pass : Bool) (s : State) : State :=
  if !awake s || !s.start.rfBad.contains a then s
  else
    let s1 := s.modPower fun p => { p with vddRf := true }
    if pass then
      let s2 := s1.modStart fun x => { x with rfBad := x.rfBad.filter (· != a) }
      if (if a = 0 then s.nav.antLost.1 else s.nav.antLost.2) then antennaBack a s2 else s2
    else fault 15 a 7 2 0 s1

/-- R365. -/
def execRfCalFail (t antenna : Nat) (pass : Bool) (s : State) : Out :=
  about "antenna" antenna 2 t (calibrateFrontEnd antenna pass) s

/-! ## Sleep and wakes -/

/-- R340: a source's bit of the WAKE field. -/
def setWakeBit (src : Nat) (s : State) : State :=
  s.modPower fun p => { p with wakeBits := if bitAt p.wakeBits src then p.wakeBits else p.wakeBits + 2 ^ src }

/-- Whether a wake from NAP is under way: the PLL is still on the fast RC oscillator (R330). -/
def waking (s : State) : Bool := s.power.state == PowerState.doze && s.power.pll == 1

/-- R340: a source that is enabled during a wake from NAP. -/
def wakeAlso (s : State) (src : Nat) : Bool :=
  (src == 0 || src == 3 || bitAt s.cfg.host.wakeMask src) && decide (src ≤ 5) && (src != 1 || (s.fiCfg 0).keyOn) && (src != 2 || alarmDue s)

/-- R337, R340, R343, R344: an enabled source ends an entry sequence, or wakes the device. -/
def wake (src : Nat) (tests : StartTests) (s : State) : State :=
  if waking s then (if wakeAlso s src then setWakeBit src s else s)
  else if !wakeActs s src then s
  else
    let s1 := setWakeBit src s
    match s.power.state with
    | .entering => abortEntry s1
    | .nap => wakeNap s1
    | .park | .refresh => wakePark tests s1
    | .run | .doze => s1

/-- R340. -/
def execWakeSource (t source : Nat) (tests : StartTests) (s : State) : Out :=
  about "wake source" source 8 t (wake source tests) s

/-- R330: the PLL moves to the TCXO, which ends a wake from NAP. -/
def execTcxoStable (t : Nat) (s : State) : Out :=
  at_ t (fun s => if waking s then endWake (s.modPower fun p => { p with pll := 2 }) else s) s

/-- R349, R348: the RTC's bound grows at the rate that applied until now. -/
def foldRtc (s : State) : State :=
  s.modPower fun p => { p with rtcErrUs := rtcBoundUs s, rtcMs := rtcNow s, rtcAt := s.devtime }

/-- R328: the crystal has stopped for 4 ms; CLK32_FAIL is raised at the next wake. -/
def execClk32Fail (t : Nat) (s : State) : Out :=
  at_ t (fun s => if s.power.onRc then s else (foldRtc s).modPower fun p => { p with onRc := true, clk32Fail := true }) s

/-- R328: the crystal has run for 1 s at a stable amplitude. -/
def execCrystalStable (t : Nat) (s : State) : Out :=
  at_ t (fun s => if s.power.onRc then (foldRtc s).modPower fun p => { p with onRc := false } else s) s

/-- R348. -/
def execCrystalTemperatureRead (t : Nat) (milliC : Int) (s : State) : Out :=
  at_ t (fun s => s.modPower fun p => { p with crystalMc := milliC }) s

/-- R339: KEY_OFF_DELAY has passed. -/
def execKeyOffDelay (t : Nat) (s : State) : Out :=
  at_ t (fun s =>
    if timeDue s.power.keyOffEnd s.devtime then s.modPower fun p => { p with keyOffEnd := none, keyOffDue := true } else s) s

/-- R339, Table 11-5: PARK entry at standstill, from RUN, DOZE or NAP. -/
def autoPark (cs : Clamps) (s : State) : State :=
  if !s.power.keyOffDue || !s.odo.standstill then s
  else match s.power.state with
    | .run | .doze => beginEntry .park cs s
    | .nap => beginEntry .park cs (wakeNap s)
    | .park | .entering | .refresh => s

/-- R339. -/
def execAutoParkEntry (t : Nat) (clamps : Clamps) (s : State) : Out := atOut t (autoPark clamps) s

/-- R335, R336: the last step of the running entry sequence. -/
def entryDone (s : State) : State :=
  match s.power.state, s.power.entry with
  | .entering, some (.nap, _) => enterNap s
  | .entering, some (.park, _) => enterPark s
  | _, _ => s

/-- R335. -/
def execEntrySequenceDone (t : Nat) (s : State) : Out := at_ t entryDone s

end Sys2Proof.Machine
end

