-- ==== Sys2Proof/Machine/EvSwitch.lean ====
section
/-! DEFINITION. Switch channel rows: faults, latch and restarts (Table 09-3, R282 to R288), open load (R285), the vent budget's waits
(R288, R294), disturbance windows (R297), PWM periods (R284, R293) and limp home (R301 to R303). A row that is not due changes nothing. -/

namespace Sys2Proof.Machine

/-- A command about a switch channel that may bring it into or out of a fault state. -/
def aboutSwitch (n t : Nat) (f : State → State) (s : State) : Out :=
  if n < 24 then atOut t f s else .refused (.noSuchElement "switch channel" n)

/-! ## Faults -/

/-- R283, R297. -/
def shortTrip (n : Nat) (cs : Clamps) (s : State) : State :=
  if swOn (s.sw n) then disturb n (swFault n 0 cs s) else s

/-- R283. -/
def execSwShort (t channel : Nat) (clamps : Clamps) (s : State) : Out := aboutSwitch channel t (shortTrip channel clamps) s

/-- R282: the limit has been engaged for 2 ms outside the inrush window and outside a disturbance window. -/
def overcurrent (n : Nat) (cs : Clamps) (s : State) : State :=
  let x := s.sw n
  if x.state != .on || disturbed s n || decide (s.devtime < x.onSince + 2000) then s else swFault n 1 cs s

/-- R282. -/
def execSwOvercurrent (t channel : Nat) (clamps : Clamps) (s : State) : Out := aboutSwitch channel t (overcurrent channel clamps) s

/-- R286: the thermal latch sets; a channel that is on goes off as a fault. -/
def latchSets (n : Nat) (cs : Clamps) (s : State) : State :=
  if (s.sw n).latch then s
  else
    let s1 := skipDrift (driftOfSw n) (s.modSw n fun x => { x with latch := true, latchAt := some s.devtime })
    if swOn (s.sw n) then swFault n 2 cs s1 else fault (160 + n) n 2 3 0 (countSw n 4 1 s1)

/-- R286. -/
def execSwOvertemp (t channel : Nat) (clamps : Clamps) (s : State) : Out := aboutSwitch channel t (latchSets channel clamps) s

/-- R286, R287: the latch clears; a channel that waits for it restarts under R288. -/
def latchClears (n : Nat) (s : State) : State :=
  if !(s.sw n).latch then s
  else
    let s1 := s.modSw n fun x => { x with latch := false, latchAt := none }
    if (s1.sw n).state == .latchWait then tryRestart n s1 else s1

/-- R286, R315: the thermal latch of a switch channel, or (24 to 39) of a field output, clears. -/
def execThermalLatchClear (t channel : Nat) (s : State) : Out :=
  if 24 ≤ channel && channel < 40 then atOut t (fun s => s.modFo (channel - 24) fun x => { x with latch := false }) s
  else aboutSwitch channel t (latchClears channel) s

/-- R286: the latch has stayed set for 2 s, which is judged once. -/
def thermalHold (n : Nat) (s : State) : State :=
  if !timeDue ((s.sw n).latchAt.map fun a => a + 2000000) s.devtime then s
  else lockSw n 1 (s.modSw n fun x => { x with latchAt := none })

/-- R286. -/
def execThermalHold (t channel : Nat) (s : State) : Out := aboutSwitch channel t (thermalHold channel) s

/-! ## Inrush, retries -/

/-- R37, R298: the surcharge returns at the declared end; the inrush window, extended or not, ends in ON. -/
def inrushEnds (n : Nat) (s : State) : State :=
  let s1 := if timeDue (s.sw n).surchargeEnd s.devtime then
      (releaseSurcharge n s).modSw n fun x => { x with surchargeEnd := none } else s
  if (s.sw n).state == .inrush && timeDue (s.sw n).inrushEnd s.devtime then
    s1.modSw n fun x => { x with state := .on, inrushEnd := none, onSince := s.devtime }
  else s1

/-- R287. -/
def execInrushEnd (t channel : Nat) (s : State) : Out := aboutSwitch channel t (inrushEnds channel) s

/-- R287: 10 s in ON without a fault. -/
def retryReset (n : Nat) (s : State) : State :=
  if (s.sw n).state == .on && decide ((s.sw n).onSince + 10000000 ≤ s.devtime) then
    s.modSw n fun x => { x with retryLeft := retryN s n }
  else s

/-- R287. -/
def execRetryReset (t channel : Nat) (s : State) : Out := aboutSwitch channel t (retryReset channel) s

/-- R288: BACKOFF has passed since the trip. -/
def backoffEnds (n : Nat) (s : State) : State :=
  let x := s.sw n
  if x.state != .backoff || x.ventWait || x.creditWait || decide (s.devtime < x.tripAt + backoffUs s n) then s else tryRestart n s

/-- R288. -/
def execBackoffEnd (t channel : Nat) (s : State) : Out := aboutSwitch channel t (backoffEnds channel) s

/-- Whether a turn-on of limp home may happen now but for budget and credit: input high, latch clear, its region supplied and its
element available. -/
def limpReady (s : State) (n : Nat) : Bool :=
  (s.sw n).limpOn && !(s.sw n).latch && !regionOff s (.switch n) && !unavailable s (.switch n)

/-- R302: a turn-on by limp home. One short of the vent budget waits for it; D4 grants the credits alone, and a turn-on that it refuses
stays off. -/
def limpTurnOn (n : Nat) (s : State) : State :=
  if !limpReady s n then s
  else if !ventOk s n then s.modSw n fun x => { x with state := .off, ventWait := true, triedAt := s.devtime }
  else match chargeSw n s with
    | .ok s1 => startSw n false s1
    | .error _ => s.modSw n fun x => { x with state := .off, ventWait := false, triedAt := s.devtime }

/-- R288, R302: a waiting restart or limp turn-on is tried again after 10 ms. -/
def retryWait (n : Nat) (s : State) : State :=
  let x := s.sw n
  if !(x.ventWait || x.creditWait) || decide (s.devtime < x.triedAt + 10000) then s
  else match x.state with
    | .backoff | .latchWait => tryRestart n s
    | .off => if x.limp then limpTurnOn n s else s
    | .inrush | .on | .exhausted | .locked => s

/-- R288. -/
def execRestartRetry (t channel : Nat) (s : State) : Out := aboutSwitch channel t (retryWait channel) s

/-! ## Open load, vent lock, disturbance -/

/-- R285: 100 ms below OL_THR on a channel that is on and outside its inrush window; a disturbance window freezes the filter (R297). -/
def openLoadSets (n : Nat) (s : State) : State :=
  let x := s.sw n
  if x.state != .on || x.openLoad || disturbed s n || decide (s.devtime < x.onSince + 100000) then s
  else
    let s1 := countSw n 5 1 (s.modSw n fun x => { x with openLoad := true, openAt := s.devtime })
    if muted s (.switch n) then s1 else fault (160 + n) n 3 2 0 s1

/-- R285. -/
def execSwOpenLoad (t channel : Nat) (s : State) : Out := aboutSwitch channel t (openLoadSets channel) s

/-- R285: 100 ms above OL_THR, on a channel that is on. -/
def openLoadClears (n : Nat) (s : State) : State :=
  let x := s.sw n
  if !swOn x || !x.openLoad || decide (s.devtime < max x.onSince x.openAt + 100000) then s
  else s.modSw n fun x => { x with openLoad := false }

/-- R285. -/
def execOpenLoadClear (t channel : Nat) (s : State) : Out := aboutSwitch channel t (openLoadClears channel) s

/-- R294. -/
def execVentUnlock (t channel : Nat) (s : State) : Out := aboutSwitch channel t (clearVentLock channel) s

/-- R297: 500 µs have passed since the trip that opened or restarted the window. -/
def windowCloses (c : Nat) (s : State) : State :=
  if timeDue (s.vent c).disturbEnd s.devtime then s.modVent c fun v => { v with disturbEnd := none } else s

/-- R297. -/
def execDisturbanceWindowEnd (t cluster : Nat) (s : State) : Out := about "switch cluster" cluster 6 t (windowCloses cluster) s

/-! ## PWM -/

/-- R290, R292, R293: the off-edge of the period that ends: its E to USED and out of FREE; a clamp that R292 does not allow takes the
channel out. -/
def pwmOffEdge (n : Nat) (cs : Clamps) (s : State) : State :=
  let e := (clampOf cs n).1
  if clampLimit n < e || ((s.swCfg n).extFreewheel && decide (5000 < e)) then cutSw n .off cs s else clampEnergy n cs s

/-- R284: a period of a channel that is on begins with the duty in force. -/
def swPeriod (n : Nat) (cs : Clamps) (s : State) : State :=
  if !swOn (s.sw n) || (s.swCfg n).pwmHz = 0 then s
  else
    let d := (s.sw n).dutyNow
    let s1 := if 0 < d && decide (d < 10000) then pwmOffEdge n cs s else s
    if swOn (s1.sw n) then s1.modSw n fun x => { x with dutyNow := x.duty } else s1

/-- R284. -/
def execSwPwmPeriod (t channel : Nat) (clamps : Clamps) (s : State) : Out := aboutSwitch channel t (swPeriod channel clamps) s

/-! ## Limp home -/

/-- The channels that enabled fuse entries name, with their entries' RETRY (R300). -/
def mapped (s : State) : List (Nat × Nat) :=
  (upFrom 0 24).filterMap fun n => (limpEntry s n).map fun e => (n, e.2)

/-- R302: a mapped channel starts limp in OFF with its entry's RETRY_N; a LOCKED one stays LOCKED. -/
def limpTakes (cs : Clamps) (s : State) (m : Nat × Nat) : State :=
  let n := m.1
  let s1 := s.modSw n fun x => { x with limp := true, limpOn := false }
  let s2 := match (s.sw n).state with
    | .inrush | .on | .backoff | .latchWait => offSw n cs s1
    | .exhausted => s1.modSw n fun x => { x with state := .off }
    | .off | .locked => s1
  s2.modSw n fun x => { x with retryLeft := m.2, ventWait := false, creditWait := false }

/-- R301, R302, R523: D4 enters limp home and acts alone; a fuse map that fails its check is ignored (R364). -/
def limpEnters (cs : Clamps) (s : State) : State :=
  if s.limp.isSome || !s.start.fuseOk then s
  else
    let s1 := soloBegin 4 { s with limp := some s.devtime }
    fault 190 0 0 2 0 ((mapped s).foldl (limpTakes cs) s1)

/-- R301. -/
def execLimpEnter (t : Nat) (clamps : Clamps) (s : State) : Out := atOut t (limpEnters clamps) s

/-- The channel that an input's fuse entry drives. -/
def limpChannel (s : State) (input : Nat) : Option Nat :=
  let e := nth s.storage.fuses 0 input
  if bitAt e 5 && decide (e % 32 < 24) then some (e % 32) else none

/-- R302: a debounced input switches its channel on or off. -/
def limpFollows (input : Nat) (high : Bool) (cs : Clamps) (s : State) : State :=
  match limpChannel s input with
  | none => s
  | some n =>
    if s.limp.isNone || !(s.sw n).limp then s
    else
      let s1 := s.modSw n fun x => { x with limpOn := high, ventWait := x.ventWait && high, creditWait := x.creditWait && high }
      match (s.sw n).state, high with
      | .off, true | .exhausted, true => limpTurnOn n s1
      | .exhausted, false => s1.modSw n fun x => { x with state := .off }
      | _, false => offSw n cs s1
      | _, true => s1

/-- R302. -/
def execLimpInput (t input : Nat) (high : Bool) (clamps : Clamps) (s : State) : Out :=
  if input < 8 then atOut t (limpFollows input high clamps) s else .refused (.noSuchElement "limp input" input)

/-- R303: one channel that limp home drove and that is on asks for its base charge; the answer counts those turned off. -/
def limpAsks (cs : Clamps) (acc : State × Nat) (n : Nat) : State × Nat :=
  let s := acc.1
  let b := swBaseOf s n
  match ledgerRequest false (along (chainSw s n) b) s with
  | .ok s1 =>
    (s1.modSw n fun x => { x with base := b, surcharge := 0, surchargeEnd := none, state := .on, inrushEnd := none,
                                  onSince := s.devtime, retryLeft := (s.swCfg n).retryN }, acc.2)
  | .error l =>
    let key := ((along (chainSw s n) b).map (·.1)).find? fun k => levelOfKey k == l
    (swLocked n 5 false b (freeOf s (key.getD pkgKey)) etaNever (cutSw n .off cs s), acc.2 + 1)

/-- R303, R523: limp ends while link S has carried heartbeats for 10 ms: what the channels hold returns, the die's counts enter the package, and each
channel that is on asks anew. -/
def limpEnds (cs : Clamps) (s : State) : State :=
  if s.limp.isNone || (s.die 4).silent || ((s.die 4).backAt.any fun a => decide (s.devtime < a + 10000)) then s
  else
    let ns := (upFrom 0 24).filter fun n => (s.sw n).limp
    let on := ns.filter fun n => swOn (s.sw n)
    let s1 := ns.foldl (fun s n => s.modSw n fun x =>
      { x with limp := false, limpOn := false, ventWait := x.ventWait && x.state != .off }) { s with limp := none }
    let s2 := soloEnd 4 (on.foldl (fun s n => releaseSw n s) s1)
    let r := on.foldl (limpAsks cs) (s2, 0)
    fault 190 r.2 1 2 0 r.1

/-- R303. -/
def execLimpExit (t : Nat) (clamps : Clamps) (s : State) : Out := atOut t (limpEnds clamps) s

end Sys2Proof.Machine
end

