-- ==== Sys2Proof/Machine/EvValve.lean ====
section
/-! DEFINITION. Valve unit and cluster rows: profile phases (R220, R244, R245), shot ends (R222), PWM cycles and the duty stage (R230 to
R232, R274, R275), dips and knees (R240 to R242, R170), crowding (R239), diagnostics (R248 to R250, R60, R227, R237), the off-state test
(R524), sense trim (R246, R247), gating (R350) and the coil temperature (R208). A row that is not due changes nothing. -/

namespace Sys2Proof.Machine

/-- A command about a valve unit of the package. -/
def aboutUnit (u t : Nat) (f : State → State) (s : State) : Out := about "valve unit" u 128 t f s

/-- A command about a valve unit that may bring outputs into a fault state. -/
def aboutUnitOut (u t : Nat) (f : State → State) (s : State) : Out :=
  if u < 128 then atOut t f s else .refused (.noSuchElement "valve unit" u)

/-- A command about a valve cluster that may bring outputs into a fault state. -/
def aboutClusterOut (c t : Nat) (f : State → State) (s : State) : Out :=
  if c < 16 then atOut t f s else .refused (.noSuchElement "valve cluster" c)

/-! ## Phases -/

/-- The phase changes and starts now. -/
def setPhase (u : Nat) (p : Phase) (s : State) : State :=
  s.modDrive u fun d => { d with phase := p, phaseAt := s.devtime }

/-- Table 07-2: hold begins; the slot passes on (R238). A new hold is judged afresh for its imbalance. -/
def toHold (u : Nat) (s : State) : State :=
  updateRail (clusterOf u) (yieldSlot u ((setPhase u .hold s).modDrive u fun d => { d with pairImbalance := false }))

/-- Table 07-2: transition begins; with T_TRANS 0 it ends at once. -/
def toTransition (u : Nat) (s : State) : State :=
  if (s.profile u).tTransUs = 0 then toHold u s else setPhase u .transition s

/-- Table 07-2: the rise is over; the rail goes back to VBAT (R218). With T_PH 0 the peak hold ends at once. -/
def toPeakHold (u : Nat) (s : State) : State :=
  let s1 := updateRail (clusterOf u) (setPhase u .peakHold s)
  if (s.profile u).tPhUs = 0 then toTransition u s1 else s1

/-- R213: the opening sample of the running stroke is excluded. -/
def excludeOpening (u : Nat) (s : State) : State :=
  s.modLearn u fun l => { l with openEdge := l.openEdge.map fun m => { m with excluded := true } }

/-- R244: TTP_SHORT (code 1) or TTP_LONG (code 2) is counted, and raised at most once per second for a unit. -/
def ttpEvent (u code : Nat) (s : State) : State :=
  let s1 := excludeOpening u (s.modValve u fun v =>
    if code = 1 then { v with ttpShorts := v.ttpShorts + 1 } else { v with ttpLongs := v.ttpLongs + 1 })
  let due := match (s.unit u).drive.ttpRaisedAt with
    | some t => decide (t + 1000000 ≤ s.devtime)
    | none => true
  if due then fault (diagSrc u 1) u code 2 0 (s1.modDrive u fun d => { d with ttpRaisedAt := some s.devtime }) else s1

/-- R220, R244: the current reaches I_PEAK with the rail's mean at `railMv`. -/
def riseEnds (u railMv : Nat) (s : State) : State :=
  if (s.unit u).drive.phase != .rise then s
  else
    let p := s.profile u
    let tt := s.devtime - (s.unit u).drive.phaseAt
    let s1 := if tt * railMv < p.ttpMinUs * s.vRef u then ttpEvent u 1 s
      else if p.ttpMaxUs * s.vRef u < tt * railMv then ttpEvent u 2 s else s
    toPeakHold u s1

/-- R220. -/
def execRiseEnd (t unit railMv : Nat) (s : State) : Out := aboutUnit unit t (riseEnds unit railMv) s

/-- R60: the cluster's second fault within 200 µs of the one before, in another unit. -/
def coincident (s : State) (u : Nat) : Bool :=
  match (s.cluster (clusterOf u)).lastFault with
  | some (v, t) => v != u && decide (s.devtime ≤ t + 200)
  | none => false

/-- Table 07-4, k = 0: a unit diagnostic and the unit fault state; R60 takes the cluster at a coincident fault. -/
def unitDiag (u code cause sev : Nat) (s : State) : State :=
  if faulted s u then s
  else
    let c := clusterOf u
    let s1 := unitFault u cause (if code = 2 && muted s (.unit u) then s else fault (diagSrc u 0) u code sev 0 s)
    let s2 := if coincident s u then clusterFault c 5 (fault (diagSrc u 3) c 4 3 0 s1) else s1
    s2.modCluster c fun x => { x with lastFault := some (u, s.devtime) }

/-- R245: the rise has lasted TTP_LIMIT without I_PEAK. -/
def ttpLimit (u currentMa railMv : Nat) (s : State) : State :=
  let p := s.profile u
  let tt := s.devtime - (s.unit u).drive.phaseAt
  if (s.unit u).drive.phase != .rise || tt * railMv < 2 * p.ttpMaxUs * s.vRef u then s
  else if 5 * currentMa < p.iPeak then unitDiag u 2 3 2 s
  else toPeakHold u (ttpEvent u 2 s)

/-- R245. -/
def execTtpLimit (t unit currentMa railMv : Nat) (s : State) : Out := aboutUnitOut unit t (ttpLimit unit currentMa railMv) s

/-- Whether a unit has been in a phase for `us`. -/
def phaseOver (s : State) (u : Nat) (p : Phase) (us : Nat) : Bool :=
  (s.unit u).drive.phase == p && decide ((s.unit u).drive.phaseAt + us ≤ s.devtime)

/-- R220: T_PH has passed. -/
def execPeakHoldEnd (t unit : Nat) (s : State) : Out :=
  aboutUnit unit t (fun s => if phaseOver s unit .peakHold (s.profile unit).tPhUs then toTransition unit s else s) s

/-- R220: T_TRANS has passed. -/
def execTransitionEnd (t unit : Nat) (s : State) : Out :=
  aboutUnit unit t (fun s => if phaseOver s unit .transition (s.profile unit).tTransUs then toHold unit s else s) s

/-- R208: the mean chopping duty of a unit's hold as it stands. -/
def senseDuty (u ppm : Nat) (s : State) : State := s.modNav fun n => { n with dutyPpm := tset n.dutyPpm u ppm, dutyAt := s.devtime }

/-- R222, R181: the shot end has come; a PWM unit stops cycling. -/
def shotEnds (u ppm : Nat) (s : State) : State :=
  if !timeDue (s.unit u).drive.shotEnd s.devtime then s
  else ((commandOff u (senseDuty u ppm s)).modDrive u fun d => { d with shotEnd := none }).modSect u
    fun x => { x with commanded := false }

/-- R222. -/
def execShotEnd (t unit dutyPpm : Nat) (s : State) : Out := aboutUnit unit t (shotEnds unit dutyPpm) s

/-! ## PWM -/

/-- R275: RATE_UNREACHABLE, at most once per second for a product. -/
def rateShort (u p : Nat) (s : State) : State :=
  let s1 := s.modValve u fun v => { v with rateShort := v.rateShort + 1 }
  let due := match tfind s.rateRaisedAt p with
    | some t => decide (t + 1000000 ≤ s.devtime)
    | none => true
  if due then fault 219 p 0 1 0 { s1 with rateRaisedAt := tset s1.rateRaisedAt p s.devtime } else s1

/-- R274, R275: the duty stage at a cycle start of unit `u` of product `p`: the duty that the cycle takes. Where the quotient has a
zero divisor the spec states no duty: it is a free value (assumption 8). -/
def stage (u p pressurePa : Nat) (valid : Bool) (s : State) : State :=
  if !valid || !(s.ai (s.productCfg p).pressureAi).valid || decide (pressurePa < 1000 * (s.productCfg p).pValidMinKpa) then
    let s1 := s.modDrive u fun d => { d with duty := d.dutyNow }
    if s.pressureBad.contains p then s1
    else fault 219 p 1 2 0 { s1 with pressureBad := s1.pressureBad ++ [p] }
  else
    let s1 := { s with pressureBad := s.pressureBad.filter fun q => q != p }
    let r : State × Nat := match stageDuty s1 p u pressurePa with
      | some d => (s1, d)
      | none => (s1.free.2, s1.free.1.toNat)
    let s2 := r.1.modDrive u fun d => { d with duty := min 10000 r.2 }
    if 10000 < r.2 then rateShort u p s2 else s2

/-- R274: the duty of this cycle start, computed for a unit of the duty stage. -/
def stageFor (u pressurePa : Nat) (valid : Bool) (s : State) : State :=
  match s.secOf u with
  | some x => if rateStaged s u then stage u x.product pressurePa valid s else s
  | none => s

/-- R230: the next nominal cycle start after this one. A rephased unit keeps its own phase. -/
def nextStart (s : State) (u : Nat) : Nat :=
  let d := (s.unit u).drive
  if d.rephased then (d.nextCycle.getD s.devtime) + 1000000 / pwmHz s (clusterOf u) else nextGrid s u s.devtime

/-- Whether a unit is in a phase of its profile. -/
def inProfile (d : Drive) : Bool :=
  match d.phase with
  | .rise | .peakHold | .transition | .hold => true
  | .off | .slotWait | .turnOff | .proportional => false

/-- A PWM unit that was told OFF while it waits for the slot is wanted again at a cycle start: its stroke waited, so it gives no sample
(R213), and its opening window runs from here. -/
def wantAgain (u : Nat) (s : State) : State :=
  (s.modDrive u fun d => { d with offWaiting := false, dipSeen := false, openWinEnd := some (s.devtime + s.openWin u) }).modLearn u
    fun l => { l with openEdge := some { at_ := s.devtime, bin := binNow s u, excluded := true } }

/-- R229 to R232: what a cycle start does with the duty now in force; `forced` says that an ON or PWM_REPHASE made it, which starts a
cycle inside the on-time too (R181). -/
def cycleStarts (u : Nat) (i : EdgeInfo) (forced : Bool) (s : State) : State :=
  let d := (s.unit u).drive
  let duty := effDuty d.duty
  if inProfile d && d.dutyNow = 10000 then
    -- R229: held at 10,000
    if duty = 0 then (applyOff u s).modDrive u fun d => { d with dutyNow := 0 }
    else (countClamped u s).modDrive u fun d =>
      { d with dutyNow := duty, cycleStart := s.devtime,
               onTimeEnd := if duty < 10000 then some (s.devtime + duty * (1000000 / pwmHz s (clusterOf u)) / 10000) else none }
  else if inProfile d && !forced && !timeDue d.onTimeEnd s.devtime then s
  else if d.phase == .slotWait then (if d.offWaiting then wantAgain u s else s)
  else
    let s2 := if inProfile d && (!forced || duty = 0) then applyOff u s else s
    if duty = 0 then strokeEndedThere u (s2.modDrive u fun d => { d with dutyNow := 0 })
    else startCycle u duty i s2

/-- R230: a nominal cycle start of a unit is due. -/
def cycleDueNow (s : State) (u : Nat) : Bool :=
  let d := (s.unit u).drive
  d.mode == .pwm && d.modeEnabled && d.cycling && timeDue d.nextCycle s.devtime && !faulted s u

/-- R230 to R232, R274. -/
def pwmCycleStart (u pressurePa : Nat) (valid : Bool) (s : State) : State :=
  if !cycleDueNow s u then s
  else
    let late := (s.unit u).drive.edgeMarked
    let s1 := s.modDrive u fun d => { d with nextCycle := some (nextStart s u), edgeMarked := false, forced := false }
    cycleStarts u { late := late } (s.unit u).drive.forced (stageFor u pressurePa valid s1)

/-- R230. -/
def execPwmCycleStart (t unit pressurePa : Nat) (pressureValid : Bool) (s : State) : Out :=
  aboutUnit unit t (pwmCycleStart unit pressurePa pressureValid) s

/-- R231: the cycle's on-time ends. -/
def onTimeEnds (u ppm : Nat) (s : State) : State :=
  let d := (s.unit u).drive
  if !timeDue d.onTimeEnd s.devtime || d.phase == .slotWait then s
  else (applyOff u (senseDuty u ppm s)).modDrive u fun d => { d with onTimeEnd := none }

/-- R231. -/
def execPwmOnTimeEnd (t unit dutyPpm : Nat) (s : State) : Out := aboutUnit unit t (onTimeEnds unit dutyPpm) s

/-! ## Dips and knees -/

/-- Whether a detection at `now` falls into a window that ends at `w`. -/
def inWindow (w : Option Nat) (now : Nat) : Bool :=
  match w with
  | some e => decide (now ≤ e)
  | none => false

/-- R240, R241, R168: the stroke's dip. After a re-strike it gives no sample (R224). -/
def dipSeen (u : Nat) (s : State) : State :=
  let d := (s.unit u).drive
  if !inWindow d.openWinEnd s.devtime || d.dipSeen || d.mode == .prop || d.phase == .slotWait then s
  else
    let s1 := match (s.unit u).learn.openEdge with
      | some m => if m.restrike then s else endSample u false m s
      | none => s
    let s2 := (s1.modDrive u fun d => { d with dipSeen := true, openWinEnd := none, missedDips := 0, noMotion := false }).modLearn u
      fun l => { l with openEdge := none }
    strokeEvent u 0 s2

/-- R240. -/
def execDip (t unit : Nat) (s : State) : Out := aboutUnit unit t (dipSeen unit) s

/-- R241: the window has closed. -/
def execOpenWinEnd (t unit : Nat) (s : State) : Out :=
  aboutUnit unit t (fun s => if timeDue (s.unit unit).drive.openWinEnd s.devtime then missDip unit s else s) s

/-- R242, R168: the stroke's knee. -/
def kneeSeen (u : Nat) (s : State) : State :=
  let d := (s.unit u).drive
  if !inWindow d.closeWinEnd s.devtime then s
  else
    let s1 := match (s.unit u).learn.closeEdge with
      | some m => endSample u true { m with excluded := m.excluded || !d.dipSeen } s
      | none => s
    let s2 := (s1.modDrive u fun d =>
      { d with closeWinEnd := none, missedKnees := 0, noRelease := false,
               phase := if d.phase == .turnOff then .off else d.phase }).modLearn u fun l => { l with closeEdge := none }
    strokeEvent u 1 (updateRail (clusterOf u) s2)

/-- R242. -/
def execKnee (t unit : Nat) (s : State) : Out := aboutUnit unit t (kneeSeen unit) s

/-- R170, R242: the window has ended without a knee. -/
def execCloseWinEnd (t unit : Nat) (s : State) : Out :=
  aboutUnit unit t (fun s =>
    if timeDue (s.unit unit).drive.closeWinEnd s.devtime then strokeEvent unit 2 (missKnee unit s) else s) s

/-! ## Crowding and boost -/

/-- R239: the unit's wait for the slot passes 3 ms. -/
def crowd (u : Nat) (s : State) : State :=
  let d := (s.unit u).drive
  let c := clusterOf u
  if d.phase != .slotWait || d.crowdedSeen || decide (s.devtime ≤ d.askedAt + 3000) then s
  else
    let s1 := (s.modDrive u fun d => { d with crowdedSeen := true }).modCluster c
      fun x => { x with crowdedEdges := (x.crowdedEdges + 1) % 4294967296 }
    let due := match (s.cluster c).crowdedAt with
      | some t => decide (t + 1000000 ≤ s.devtime)
      | none => true
    if due then fault (diagSrc u 2) u 0 1 c (s1.modCluster c fun x => { x with crowdedAt := some s.devtime }) else s1

/-- R239. -/
def execCrowded (t unit : Nat) (s : State) : Out := aboutUnit unit t (crowd unit) s

/-- R227: the converter stops, and a rise in progress goes on from VBAT; a supply fault excludes the die's running samples (R213). -/
def stopBoost (d : Nat) (s : State) : State :=
  if !(s.boostOf d).running then s
  else
    let c := if d = 2 then 0 else 8
    let s1 := spoilUnits (unitsOfDie d) (s.modBoost d fun b => { b with running := false, fault := true })
    fault (99 + 4 * c) c 5 3 0 ((clustersOfDie d).foldl (fun s c => updateRail c s) s1)

/-- R227. -/
def execBoostFault (t die : Nat) (s : State) : Out :=
  if die = 2 || die = 3 then at_ t (stopBoost die) s else .refused (.noSuchElement "valve die" die)

/-! ## Unit diagnostics -/

/-- R248: COIL_SHORT where the cluster shunt carries the current, SHORT_TO_BAT where it does not. -/
def execCoilShort (t unit : Nat) (shuntCarries : Bool) (s : State) : Out :=
  aboutUnitOut unit t (if shuntCarries then unitDiag unit 0 1 3 else unitDiag unit 1 2 3) s

/-- R248. -/
def execOpenLoad (t unit : Nat) (s : State) : Out := aboutUnitOut unit t (unitDiag unit 2 3 2) s

/-- R248. -/
def execUnitOvertemp (t unit : Nat) (s : State) : Out := aboutUnitOut unit t (unitDiag unit 3 4 3) s

/-- R248: a proportional unit cannot reach its setpoint. -/
def saturate (u : Nat) (s : State) : State :=
  let d := (s.unit u).drive
  if d.phase != .proportional || d.setpoint = 0 || faulted s u then s else fault (diagSrc u 1) u 0 2 0 s

/-- R248. -/
def execPropSaturated (t unit : Nat) (s : State) : Out := aboutUnit unit t (saturate unit) s

/-- R237: a pair's senses differ in hold; the flag stands until the next hold. -/
def imbalance (u : Nat) (s : State) : State :=
  let d := (s.unit u).drive
  if !ownsPair s u || d.phase != .hold || d.pairImbalance || decide (s.devtime < d.phaseAt + 1000) then s
  else fault (diagSrc u 1) u 5 2 0 (s.modDrive u fun d => { d with pairImbalance := true })

/-- R237. -/
def execPairImbalance (t unit : Nat) (s : State) : Out := aboutUnit unit t (imbalance unit) s

/-! ## Cluster diagnostics -/

/-- Table 07-4, k = 3: a cluster diagnostic and the cluster fault state, judged with the high-side switch closed or open as its row
says. -/
def clusterDiag (c code : Nat) (closed : Bool) (s : State) : State :=
  if (s.cluster c).fault || (s.cluster c).highSide != closed then s
  else clusterFault c (code + 1) (fault (99 + 4 * c) c code 3 0 s)

/-- R250. -/
def execShortToGnd (t cluster : Nat) (s : State) : Out := aboutClusterOut cluster t (clusterDiag cluster 0 true) s

/-- R250. -/
def execHsOverload (t cluster : Nat) (s : State) : Out := aboutClusterOut cluster t (clusterDiag cluster 1 true) s

/-- R250. -/
def execHsOvertemp (t cluster : Nat) (s : State) : Out :=
  aboutClusterOut cluster t (fun s => clusterDiag cluster 2 (s.cluster cluster).highSide s) s

/-- R250. -/
def execHsStuck (t cluster : Nat) (s : State) : Out := aboutClusterOut cluster t (clusterDiag cluster 3 false) s

/-! ## Off-state test and gating -/

/-- R524: the cluster's test begins: RUN or DOZE, no fault, every unit off and outside its closing window, 1 s after the last. A gated
cluster is ungated for it once it has stayed gated for 1 s (R350). -/
def offTest (c : Nat) (s : State) : State :=
  let x := s.cluster c
  let ran := s.power.state == PowerState.run || s.power.state == PowerState.doze
  if !awake s || !ran || x.fault || x.testAt.isSome || !clusterIdle s c || decide (s.devtime < x.lastTestAt + 1000000)
    || (x.gated && decide (s.devtime < x.gatedAt + 1000000)) then s
  else updateRail c (s.modCluster c fun x => { x with testAt := some s.devtime, lastTestAt := s.devtime, gated := false })

/-- R524. -/
def execOffStateTest (t cluster : Nat) (s : State) : Out := about "valve cluster" cluster 16 t (offTest cluster) s

/-- R524: 12 ms have passed. -/
def offTestEnd (c : Nat) (s : State) : State :=
  if timeDue ((s.cluster c).testAt.map fun a => a + 12000) s.devtime then
    updateRail c (s.modCluster c fun x => { x with testAt := none })
  else s

/-- R524. -/
def execOffStateTestEnd (t cluster : Nat) (s : State) : Out := about "valve cluster" cluster 16 t (offTestEnd cluster) s

/-- R350. -/
def execClusterUngate (t cluster : Nat) (s : State) : Out :=
  about "valve cluster" cluster 16 t (fun s =>
    let x := s.cluster cluster
    if x.gated && (!gateable s cluster || decide (x.gatedAt + 1000000 ≤ s.devtime)) then
      s.modCluster cluster fun x => { x with gated := false }
    else s) s

/-! ## Sense trim and coil temperature -/

/-- The units of a cluster that are on and steady in hold (R246), a pair's member with its owner. -/
def steadyUnits (s : State) (c : Nat) : List Nat :=
  (unitsOfCluster c).filter fun u =>
    let o := if (s.unitCfg u).mode == .pairedMember then u - 1 else u
    phaseOver s o .hold 2000

/-- R246: no unit of the cluster is on but steady in hold. -/
def trimReady (s : State) (c : Nat) : Bool :=
  (unitsOfCluster c).all fun u => match (s.unit u).drive.phase with
    | .off | .slotWait => true
    | .hold => phaseOver s u .hold 2000
    | .proportional => (s.unit u).drive.setpoint == 0
    | .rise | .peakHold | .transition | .turnOff => false

/-- R246: one unit's correction, in parts of 2^16; it stays within 3 % of what self-calibration set (assumption 28). -/
def trimUnit (shunt sum i u : Nat) (s : State) : State :=
  s.modDrive u fun d =>
    let g := clamp (d.calQ16 - 1966) (d.calQ16 + 1966) (d.gainQ16 + roundDiv (((shunt : Int) - sum) * i * 65536) (8 * sum * sum))
    let stop := mag (g - d.calQ16) == 1966
    { d with gainQ16 := g, trimLimit := stop, clampSince := if !stop then none else if d.trimLimit then d.clampSince else some s.devtime }

/-- R246: a trim sample, every 1 ms. -/
def trimSample (c shunt : Nat) (cur : Tbl Nat) (s : State) : State :=
  let us := steadyUnits s c
  let sum := us.foldl (fun n u => n + tget cur 0 u) 0
  if !trimReady s c || shunt < 1000 || sum = 0 || (s.cluster c).trimAt.any (fun a => decide (s.devtime < a + 1000)) then s
  else us.foldl (fun s u => trimUnit shunt sum (tget cur 0 u) u s) (s.modCluster c fun x => { x with trimAt := some s.devtime })

/-- R246. -/
def execSenseTrimSample (t cluster shuntMa : Nat) (currents : Tbl Nat) (s : State) : Out :=
  about "valve cluster" cluster 16 t (trimSample cluster shuntMa currents) s

/-- R247: 10 s at the clamp. -/
def execSenseTrimLimit (t unit : Nat) (s : State) : Out :=
  aboutUnit unit t (fun s =>
    if timeDue ((s.unit unit).drive.clampSince.map fun a => a + 10000000) s.devtime then
      fault (diagSrc unit 2) unit 1 2 0 (s.modDrive unit fun d => { d with clampSince := none })
    else s) s

/-- R208: no hold younger than 60 s: T is the grid reading. -/
def coldCoil (u : Nat) (grid : Int) (s : State) : State :=
  if !timeDue ((s.unit u).learn.lastHold.map fun a => a + 60000000) s.devtime then s
  else (s.modLearn u fun l => { l with lastHold := none, tempMc := grid }).modNav fun n =>
    { n with gridMc := tset n.gridMc (regionOf (clusterOf u)) grid }

/-- R208. -/
def execCoilTemperatureTimeout (t unit : Nat) (gridMc : Int) (s : State) : Out := aboutUnit unit t (coldCoil unit gridMc) s

end Sys2Proof.Machine
end

