-- ==== Sys2Proof/Machine/EvWindow.lean ====
section
/-! DEFINITION. The host window's own rows: transactions (R375 to R382), gateway buffer commands (R436, R439, R440), the request ring's
stall (R384), pending notifications (R391), host silence (R395 to R398) and the autonomous re-enable (R399). -/

namespace Sys2Proof.Machine

/-- A write of its own row at a window address: it is applied where the address takes writes now (R360, R405, R450). -/
def windowWrite (a : Nat) (f : State → State) (s : State) : State :=
  spiGood (fun s => if writeBlocked s a then s else f s) s

/-- The window address of a gateway buffer (R437). -/
def gwAddr (n b : Nat) : Nat := 40960 + 2048 * n + 128 * b

/-- R375 to R379; a message that a course holds as this command is taken instead (R353, R384). -/
def execRegisterWrite (t : Nat) (x : Spi) (s : State) : Out :=
  match [0, 1, 2, 3].find? fun n => (s.course n).taking with
  | some n => atOut t (rawTake n x) s
  | none => atOut t (spiTransact x) s

/-- R395, R397. -/
def execHeartbeat (t value : Nat) (s : State) : Out := at_ t (windowWrite 16 (beat (value % 4294967296))) s

/-- R394, HOST_CTRL.OUT_DISABLE; the write's IRQ_EN is as it stands. -/
def execOutDisable (t : Nat) (clamps : Clamps) (s : State) : Out := atOut t (windowWrite 12 (disableOutputs clamps)) s

/-- R381. -/
def execHqRd (t index : Nat) (s : State) : Out := at_ t (windowWrite 36 (writeHqRd (index % 256))) s

/-- R469. -/
def execAck (t restore : Nat) (s : State) : Out := at_ t (windowWrite 44 (acknowledge 9 (restore % 16))) s

/-- R380. -/
def execDevtimeLo (t : Nat) (s : State) : Out := at_ t (spiGood readDevtimeLo) s

/-- R382. -/
def execTake (t ns : Nat) (s : State) : Out := at_ t (windowWrite 49160 (takeSnapshot ns)) s

/-- A command about a gateway buffer that Table 15-4 gives. -/
def atGateway (t ctrl buffer : Nat) (f : State → State) (s : State) : Out :=
  if ctrl < 4 && buffer < 16 then at_ t (windowWrite (gwAddr ctrl buffer) f) s
  else .refused (.noSuchElement "gateway buffer" (16 * ctrl + buffer))

/-- R440. -/
def execTxReq (t ctrl buffer : Nat) (s : State) : Out := atGateway t ctrl buffer (txRequest ctrl buffer) s

/-- R436. -/
def execCancel (t ctrl buffer : Nat) (phase : TxPhase) (s : State) : Out := atGateway t ctrl buffer (cancelTx ctrl buffer phase) s

/-- R439. -/
def execLock (t ctrl buffer : Nat) (set : Bool) (s : State) : Out := atGateway t ctrl buffer (setLock ctrl buffer set) s

/-- R384: whether REQ_WR of a course has stayed inside the next message for 10 ms. -/
def stalled (s : State) (n : Nat) : Bool :=
  (s.course n).held.isEmpty && match (s.course n).stallAt with
    | some t => decide (t + 10000 ≤ s.devtime)
    | none => false

/-- R384. -/
def execReqWrStall (t course : Nat) (s : State) : Out :=
  about "course" course 4 t (fun s => if stalled s course then corrupt course s else s) s

/-- R391: the oldest pending notification of a course takes its number and its place in the ring, once it has room. -/
def writePending (n : Nat) (s : State) : State :=
  match (s.course n).pendingNotif with
  | [] => s
  | p :: rest =>
    if awake s && hasRoom s n p.2.length (keptFree s n) then
      putMsg n p.1 0 p.2 (s.modCourse n fun c => { c with pendingNotif := rest })
    else s

/-- R391. -/
def execNotificationWrite (t course : Nat) (s : State) : Out := about "course" course 4 t (writePending course) s

/-! ## Host silence -/

/-- R395, R396: the timeout has run out. The lead's governs a whole system (R450). -/
def silenceDue (s : State) : Bool :=
  s.start.ready && !s.host.silent && !s.follower && match s.host.beatAt with
    | some b => decide (b + 1000 * s.cfg.host.heartbeatMs ≤ s.devtime)
    | none => false

/-- Table 13-11, SAFE: a loop goes to OFF, or to HOLD where its output holds its last value. -/
def safeLoop (l : Nat) (s : State) : State :=
  match outputOf (s.loopCfg l).out with
  | some o => setMode l (if safeCode s o == .holdLast then .hold else .off) s
  | none => setMode l .off s

/-- Table 13-11: decisions stop, and the section units' plan starts from what their codes left. -/
def restSections (s : State) : State :=
  s.sectionUnits.foldl (fun s u =>
    let on := decide (u < 128) && !unitOff (s.unit u).drive
    s.modUnit u fun x =>
      { x with frets := x.frets.filter Fret.live, sect := { x.sect with commanded := on, reached := some on, reachedPos := odometer s u, on := on } }) s

/-- Table 13-11, SAFE. -/
def safePolicy (cs : Clamps) (s : State) : State :=
  let s1 := s.modHost fun h => { h with outputsEnabled := false, safeLeft := true }
  let s2 := (usedOutputs s1).foldl (fun s l => if linkDown s l then s else safeLine cs s l) s1
  restSections (s2.cfg.loops.foldl (fun s p => safeLoop p.1 s) s2)

/-- R398: the field that the configuration names, if storage holds it, is opened with RESUME. -/
def openAuto (s : State) : State :=
  match s.cfg.host.autoField.bind s.fieldEntry with
  | some e =>
    if s.cov.opened.isSome || s.cov.scanning.isSome || mapClosed s || dozing s then s
    else beginField e.fieldId e.lat e.lon e.height e.cell true s
  | none => s

/-- Table 13-11, AUTONOMOUS, with the enable of R398 where no heartbeat has come since READY. -/
def autonomousPolicy (s : State) : State :=
  let s1 := s.modHost fun h => { h with masterAuto := true }
  if s1.host.beatSeen || !s1.start.configActive then s1
  else openAuto (startEmulation (s1.modHost fun h => { h with outputsEnabled := true, safeLeft := false }))

/-- R396 to R398, R439. -/
def fallSilent (cs : Clamps) (s : State) : State :=
  if !silenceDue s then s
  else
    let s1 := clearLocks (fault 20 0 0 2 0 (s.modHost fun h => { h with silent := true }))
    if s1.cfg.host.autonomous then autonomousPolicy s1 else safePolicy cs s1

/-- R396. -/
def execHostSilent (t : Nat) (clamps : Clamps) (s : State) : Out := atOut t (fallSilent clamps) s

/-- R399: whether the device itself may enable a held die now. -/
def reenableDue (s : State) (d : Nat) : Bool :=
  s.cfg.host.autonomous && s.host.silent && !(s.faults.opened.any fun f => f.severity == 4)
    && match (s.die d).backAt with
      | some b => decide (b + 1000000 ≤ s.devtime)
      | none => false

/-- R399. -/
def execAutonomousReenable (t die : Nat) (s : State) : Out :=
  if 2 ≤ die && die < 5 then atOut t (fun s => if reenableDue s die then enableDie die s else s) s
  else .refused (.noSuchElement "power die" die)

end Sys2Proof.Machine
end

