-- ==== Sys2Proof/Machine/EvZither.lean ====
section
/-! DEFINITION. Zither (R446 to R459): the frames of Table 15-7 as they are received, and the lead's and the followers' own timers. A row
that is not due changes nothing, and a frame that R448 discards changes nothing. -/

namespace Sys2Proof.Machine

/-! ## Receiving a frame (R448, R449, R459) -/

/-- Whether Zither runs: D0 is awake, Bus in service (R22), and a configuration declares the package a member. -/
def zitherRuns (s : State) : Bool :=
  awake s && s.start.configActive && !s.start.maint && s.cfg.package.member && !coreOut s 4

/-- The package's index. -/
def ownPkg (s : State) : Nat := s.cfg.package.pkgIndex

/-- Token state of a package. -/
def tok (s : State) (p : Nat) : TokenSt := tget s.ledger.tokens {} p

/-- Change the token state of a package, and with the own one's counts the effective pool (R50). -/
def modTok (p : Nat) (f : TokenSt → TokenSt) (s : State) : State :=
  let s1 := s.modLedger fun l => { l with tokens := tmod l.tokens {} p f }
  let own := tok s1 (ownPkg s)
  setPool (poolOfTokens s.cfg.package.member (own.fixed + own.granted)) s.ledger.derated s1

/-- R459: a frame counts as hearing its sender; R448: its SEQ is taken. -/
def heard (z : ZHdr) (s : State) : State :=
  let s1 := s.modZ fun x => { x with seqTaken := tmod x.seqTaken [] z.src fun l => (z.seq :: l).take 64 }
  modTok (if s.lead then z.src else ownPkg s) (fun t => { t with heardAt := s.devtime }) s1

/-- R448: a frame from another package whose SEQ has not been taken. -/
def fresh (s : State) (z : ZHdr) : Bool :=
  zitherRuns s && z.src != ownPkg s && !(tget s.zither.seqTaken [] z.src).contains z.seq

/-- Whether the lead knows a package as a declared follower. -/
def declared (s : State) (p : Nat) : Bool := p != 0 && s.cfg.package.members.contains p

/-- R54: a follower that no longer hears the lead brings its outputs to their safe state and keeps its FIXED tokens only; it is no
member until it is welcomed again. -/
def leadSilent (cs : Clamps) (s : State) : State :=
  let s1 := modTok (ownPkg s) (fun t => { t with granted := 0, inTransit := [], present := false }) (safePolicy cs s)
  s1.modZ fun z => { z with welcomed := false, joined := none, joinAt := none, turnedAway := false, tokenAskedAt := none }

/-- A frame of the lead at a follower: of a new epoch it means that the lead was silent (R459), of the joined one it is taken. -/
def fromLead (z : ZHdr) (f : State → State) (s : State) : State :=
  if !fresh s z || !s.follower || z.src != 0 || !s.zither.welcomed then s
  else if s.zither.joined == some z.epoch then f (heard z s)
  else leadSilent [] s

/-- A follower's frame at the lead, of the epoch in force. -/
def fromFollower (z : ZHdr) (f : State → State) (s : State) : State :=
  if !fresh s z || !s.lead || !declared s z.src || s.zither.joined != some z.epoch then s else f (heard z s)

/-- A row about a received frame, which Bus processes (R22); outputs may change, so loops follow (R262). -/
def zitherRow (self : Instr) (z : ZHdr) (f : State → State) (s : State) : Out :=
  if z.src < 4 then atOut z.t (byCore 4 self f) s else .refused (.noSuchElement "package" z.src)

/-- A row of a member's own. -/
def zitherTimer (t : Nat) (f : State → State) (s : State) : Out := at_ t (fun s => if zitherRuns s then f s else s) s

/-- A row about one package. -/
def zitherPkg (t p : Nat) (f : State → State) (s : State) : Out :=
  if p < 4 then zitherTimer t f s else .refused (.noSuchElement "package" p)

/-! ## System time (R451) -/

/-- R451: every 10 ms the lead sends SYNC, and the DEVTIME captured at its start in FOLLOW_UP; the fraction of the captured microsecond is
not stated by any row and is a free value. -/
def sendSync (s : State) : State :=
  if !s.lead || (s.zither.syncAt != 0 && s.devtime < s.zither.syncAt + 10000) then s
  else
    let r := s.free
    let q := (s.zither.syncSeq + 1) % 65536
    sendZ 2 4 [(q : Nat), r.1 % 1000, (s.devtime : Nat)] (sendZ 1 4 [(q : Nat)]
      (r.2.modZ fun z => { z with syncSeq := q, syncAt := s.devtime }))

/-- R451. -/
def execSync (t : Nat) (s : State) : Out := zitherTimer t sendSync s

/-- R451: the offset is set in one step after a welcome, then slewed by at most 10 µs a second. -/
def followUpAt (tLeadNs tLocalNs : Nat) (s : State) : State :=
  let target : Int := (tLeadNs : Int) - tLocalNs + s.cfg.package.busDelayNs
  let z := s.zither
  let step : Int := ((s.devtime - z.followAt.getD s.devtime) / 100 : Nat)
  let off := match z.offsetNs, z.stepOffset with
    | some o, false => o + clamp (-step) step (target - o)
    | _, _ => target
  s.modZ fun z => { z with offsetNs := some off, stepOffset := false, followAt := some s.devtime, timeLost := false }

/-- R451. -/
def execFollowUp (z : ZHdr) (tLeadNs tLocalNs : Nat) (s : State) : Out :=
  zitherRow (.followUp z tLeadNs tLocalNs) z (fromLead z (followUpAt tLeadNs tLocalNs)) s

/-- R451. -/
def loseTime (s : State) : State :=
  let late := match s.zither.followAt with
    | some t => decide (t + 100000 ≤ s.devtime)
    | none => false
  if !s.follower || !s.zither.welcomed || s.zither.timeLost || !late then s
  else fault 238 (ownPkg s) 0 2 0 (s.modZ fun z => { z with timeLost := true })

/-- R451. -/
def execZitherTimeLost (t : Nat) (s : State) : Out := zitherTimer t loseTime s

/-! ## Motion (R452, R453) -/

/-- The integral over `dt` µs of a speed held after 2 ms of acceleration (R185), in half units of (speed × 10^-6 s) × 10^-6. -/
def heldIntegral (v a : Int) (dt : Nat) : Int :=
  let c : Int := min dt 2000
  2000000 * v * dt + a * (c * c + 2 * c * (dt - c))

/-- R453: the follower's S in 0.1 mm. -/
def odoS (s : State) : Int := s.odo.distS / 200000000000

/-- R453: the follower's THETA in 10^-9 rad. -/
def odoTheta (s : State) : Int := roundDiv (s.odo.theta * 31415926536) 3600000000000000000

/-- R452: a follower's fused epoch: its units move by it (R130, R131), and it answers with ODO (R453). -/
def applyState (epoch : Nat) (v a omega alpha : Int) (flags : Nat) (s : State) : State :=
  let still := bitAt flags 0
  let here : Int := (epoch : Int) - (s.zither.offsetNs.getD 0) / 1000
  let s1 := match s.zither.motion with
    | some (e, v0, a0, w0, b0) =>
      s.modOdo fun o =>
        { o with distS := o.distS + heldIntegral v0 a0 (epoch - e), theta := o.theta + heldIntegral w0 b0 (epoch - e),
                 along := o.along + 1000 * v0 * (epoch - e : Nat) }
    | none => s
  let s2 := (s1.modNav fun n =>
      { n with epoch := some here.toNat, accUm := 1000 * a, alpha := alpha, yawRate := omega, odoStale := false,
               staleBase := s.devtime, fretsLive := true }).modOdo fun o => { o with speed := 1000 * v, standstill := still }
  let s3 := s2.modZ fun z => { z with motion := some (epoch, v, a, omega, alpha), stateFlags := flags }
  let s4 := moveUnits (1000 * v) (1000 * a) omega alpha still s3
  let s5 := emuEpoch s4
  sendZ 4 0 [(epoch : Nat), odoS s5, odoTheta s5] s5

/-- R452. -/
def execState (z : ZHdr) (epoch : Nat) (v a omega alpha : Int) (flags : Nat) (s : State) : Out :=
  zitherRow (.state z epoch v a omega alpha flags) z (fromLead z (applyState epoch v a omega alpha flags)) s

/-- R453: the lead's odometer of a follower's unit: S − THETA × y × 10^-8, in 0.1 mm. -/
def takeOdo (p epoch : Nat) (dist theta : Int) (s : State) : State :=
  let s1 := s.modZ fun z => { z with odo := tset z.odo p (epoch, dist, theta, s.devtime), stale := z.stale.filter (· != p) }
  (s1.cfg.units.units.filter fun q => q.2.used && q.1 / 128 == p).foldl (fun s q =>
    s.modUnit q.1 fun x =>
      { x with motion := { x.motion with odoFx := dist * 10000000000000 - theta * q.2.yMm * 100000 } }) s1

/-- R453. -/
def execOdo (z : ZHdr) (epoch : Nat) (dist theta : Int) (s : State) : Out :=
  zitherRow (.odo z epoch dist theta) z (fromFollower z (takeOdo z.src epoch dist theta)) s

/-- R453: a present follower whose ODO is 5 ms old or older. -/
def staleOdo (p : Nat) (s : State) : State :=
  let old := match tfind s.zither.odo p with
    | some (_, _, _, t) => decide (t + 5000 ≤ s.devtime)
    | none => false
  if !s.lead || !(tok s p).present || s.zither.stale.contains p || !old then s
  else fault 238 p 1 2 0 (s.modZ fun z => { z with stale := z.stale ++ [p] })

/-- R453. -/
def execZitherStale (t pkg : Nat) (s : State) : Out := zitherPkg t pkg (staleOdo pkg) s

/-! ## Frets (R454) -/

/-- R454, OP 0: arm a fret, or replace the one that has the same UNIT and TAG. -/
def armRemote (u : Nat) (w : FretWire) (s : State) : State :=
  let f := fretOf s u w
  if (s.unit u).frets.any fun g => g.live && g.tag == w.tag then
    s.modUnit u fun x =>
      { x with frets := x.frets.map fun g =>
          if g.live && g.tag == w.tag && g.state != .committed then
            { g with pos := f.pos, effect := f.effect, action := f.action, hasEffect := f.hasEffect, backward := f.backward,
                     discard := f.discard }
          else g }
  else if f.hasEffect && decide (32768 ≤ w.tag) then putFound u f s
  else putFret u f s

/-- R454, OP 2: an action applied at once. -/
def actRemote (u action : Nat) (s : State) : State :=
  if action = 1 then commandOff u (s.modSect u fun x => { x with commanded := false, wanted := false })
  else if action = 3 then applyFret u { action := 3 } s
  else tryWanted u (s.modSect u fun x => { x with wanted := true })

/-- R454: a FRET frame for the follower's own units. -/
def takeFrets (op : Nat) (ws : List FretWire) (s : State) : State :=
  ws.foldl (fun s w => match unitRef s w.unit with
    | .own u =>
      if op = 0 then armRemote u w s
      else if op = 1 then cancelFrets u (fun g => g.tag == w.tag) s
      else if op = 2 then actRemote u w.action s
      else s
    | .follower .. | .beyond => s) s

/-- R454. -/
def execFret (z : ZHdr) (op : Nat) (frets : List FretWire) (s : State) : Out := zitherRow (.fret z op frets) z (fromLead z (takeFrets op frets)) s

/-- R454: one outcome at the lead: a fired fret is the unit's command now (R167) and stays in the plan as fired until its effect is reached
(R191); another leaves it. -/
def takeOutcome (p : Nat) (s : State) (e : Nat × Nat × Nat × Nat) : State :=
  let (tag, u, outcome, lateness) := e
  if u / 128 != p then s
  else
    s.modUnit u fun x =>
      if outcome < 2 then
        { x with frets := x.frets.map fun g =>
                   if g.live && g.tag == tag then { g with state := .fired, late := outcome == 1, lateness := lateness } else g,
                 sect := match x.frets.find? fun g => g.live && g.tag == tag with
                   | some g => if g.action = 3 then x.sect else { x.sect with commanded := g.action != 1 }
                   | none => x.sect }
      else { x with frets := x.frets.filter fun g => !(g.live && g.tag == tag) }

/-- R454. -/
def execFretStatus (z : ZHdr) (entries : List (Nat × Nat × Nat × Nat)) (s : State) : Out :=
  zitherRow (.fretStatus z entries) z (fromFollower z fun s => entries.foldl (takeOutcome z.src) s) s

/-- R455, R168, R170: one stroke event of a follower's section unit at the lead's writer. A PWM unit that is commanded on only may end at
a closing; at a second one without a dip between them it has ended at the first (DEDUCED, assumption 56). -/
def takeStroke (p : Nat) (s : State) (e : Nat × Nat × Nat) : State :=
  let (u, kind, t) := e
  if u / 128 != p || (s.secOf u).isNone then s
  else if kind = 0 then strokeOpen u t s
  else if (s.unitCfg u).mode == UnitMode.pwm && (s.unit u).sect.commanded then
    if (s.unit u).sect.strokes.any fun k => k.to_.isNone && k.limit.isSome then strokeEndedThere u s else strokeMayEnd u kind t s
  else strokeClose u kind t s

/-- R455. -/
def execStroke (z : ZHdr) (entries : List (Nat × Nat × Nat)) (s : State) : Out :=
  zitherRow (.stroke z entries) z (fromFollower z fun s => entries.foldl (takeStroke z.src) s) s

/-! ## Tokens (R456, R457, R53) -/

/-- R457: send tokens under the next TSEQ: they are IN_TRANSIT until the acknowledgement. -/
def sendTokens (type p dst n : Nat) (s : State) : State :=
  let q := ((tok s p).tseqSent + 1) % 65536
  sendZ type dst [(q : Nat), (n : Nat)]
    (modTok p (fun t => { t with tseqSent := q, inTransit := t.inTransit ++ [(q, n, s.devtime)] }) s)

/-- R456: the lead grants what it can of a request. -/
def grantTokens (p count : Nat) (s : State) : State :=
  let n := min count s.ledger.tokensFree
  if n = 0 || !(tok s p).present then s
  else sendTokens 9 p p n (s.modLedger fun l => { l with tokensFree := l.tokensFree - n })

/-- R456. -/
def execTokenReq (z : ZHdr) (count : Nat) (s : State) : Out := zitherRow (.tokenReq z count) z (fromFollower z (grantTokens z.src count)) s

/-- R53: a TSEQ that has been applied. -/
def applied (s : State) (p tseq : Nat) : Bool := (tok s p).tseqApplied.contains tseq

/-- R53, R50: a follower applies a grant once, and acknowledges it. -/
def takeGrant (tseq count : Nat) (s : State) : State :=
  let p := ownPkg s
  let s1 := if applied s p tseq then s
    else (modTok p (fun t => { t with granted := t.granted + count, tseqApplied := (tseq :: t.tseqApplied).take 64 }) s).modZ
      fun z => { z with tokenAskedAt := none }
  sendZ 11 0 [(tseq : Nat), 0] s1

/-- R53. -/
def execTokenGrant (z : ZHdr) (tseq count : Nat) (s : State) : Out := zitherRow (.tokenGrant z tseq count) z (fromLead z (takeGrant tseq count)) s

/-- R53: the lead applies a return once, and acknowledges it. A return of tokens whose grant is not yet acknowledged waits for that. -/
def returnedTokens (p tseq count : Nat) (s : State) : State :=
  if applied s p tseq then sendZ 11 p [(tseq : Nat), 1] s
  else if (tok s p).granted < count then s
  else
    sendZ 11 p [(tseq : Nat), 1] ((modTok p (fun t =>
      { t with granted := t.granted - count, tseqApplied := (tseq :: t.tseqApplied).take 64 }) s).modLedger fun l =>
        { l with tokensFree := l.tokensFree + count })

/-- R53. -/
def execTokenReturn (z : ZHdr) (tseq count : Nat) (s : State) : Out :=
  zitherRow (.tokenReturn z tseq count) z (fromFollower z (returnedTokens z.src tseq count)) s

/-- Tokens IN_TRANSIT under a TSEQ. -/
def transitOf (t : TokenSt) (tseq : Nat) : Nat := (t.inTransit.filter fun x => x.1 == tseq).foldl (fun a x => a + x.2.1) 0

/-- R457: at the lead, acknowledged tokens become GRANTED; at a follower, returned ones are the lead's. -/
def takeAck (p tseq kind : Nat) (s : State) : State :=
  let done (t : TokenSt) : TokenSt := { t with inTransit := t.inTransit.filter fun x => x.1 != tseq }
  if s.lead && kind = 0 then
    modTok p (fun t => { done t with granted := t.granted + transitOf t tseq }) s
  else if s.follower && kind = 1 then modTok (ownPkg s) done s
  else s

/-- R457. -/
def execTokenAck (z : ZHdr) (tseq kind : Nat) (s : State) : Out :=
  zitherRow (.tokenAck z tseq kind) z (fun s => if s.lead then fromFollower z (takeAck z.src tseq kind) s else fromLead z (takeAck z.src tseq kind) s) s

/-- R457: every unacknowledged grant or return is repeated under its TSEQ, 5 ms after it was last sent. -/
def repeatTokens (p : Nat) (s : State) : State :=
  let who := if s.lead then p else ownPkg s
  let dst := if s.lead then p else 0
  let type := if s.lead then 9 else 10
  let due (x : Nat × Nat × Nat) : Bool := decide (x.2.2 + 5000 ≤ s.devtime)
  let s1 := ((tok s who).inTransit.filter due).foldl (fun s x => sendZ type dst [(x.1 : Nat), (x.2.1 : Nat)] s) s
  modTok who (fun t => { t with inTransit := t.inTransit.map fun x => if due x then (x.1, x.2.1, s.devtime) else x }) s1

/-- R457. -/
def execTokenRepeat (t pkg : Nat) (s : State) : Out := zitherPkg t pkg (repeatTokens pkg) s

/-- R456: tokens that a package lacks to REQ_TARGET, while FREE is below REQ_LOW or a package-level request has been refused. -/
def tokensWanted (s : State) : Nat :=
  let p := s.cfg.package
  let free := freeOf s pkgKey
  if free < p.reqLow || s.zither.tokenShort then ((((p.reqTarget : Nat) : Int) - free + 19) / 20).toNat else 0

/-- R456: a follower asks, again after 20 ms without an answer; the lead's own package draws on FREE with no frame. -/
def askTokens (s : State) : State :=
  let n := tokensWanted s
  let due := match s.zither.tokenAskedAt with
    | some t => decide (t + 20000 ≤ s.devtime)
    | none => true
  if n = 0 then s
  else if s.lead then
    let k := min n s.ledger.tokensFree
    modTok 0 (fun t => { t with granted := t.granted + k })
      ((s.modLedger fun l => { l with tokensFree := l.tokensFree - k }).modZ fun z => { z with tokenShort := false })
  else if !s.zither.welcomed || !due then s
  else sendZ 8 0 [(n : Nat)] (s.modZ fun z => { z with tokenAskedAt := some s.devtime, tokenShort := false })

/-- R456. -/
def execTokenRequestTimer (t : Nat) (s : State) : Out := zitherTimer t askTokens s

/-- R456: a follower whose FREE has stayed above RET_HIGH for 1 s returns tokens, FIXED ones never. -/
def giveBack (s : State) : State :=
  let p := ownPkg s
  let high := match s.zither.highSince with
    | some t => decide (t + 1000000 ≤ s.devtime)
    | none => false
  let n := min (tok s p).granted ((freeOf s pkgKey - s.cfg.package.reqTarget) / 20).toNat
  if !s.follower || !s.zither.welcomed || !high || n = 0 then s
  else sendTokens 10 p 0 n (modTok p (fun t => { t with granted := t.granted - n }) (s.modZ fun z => { z with highSince := none }))

/-- R456. -/
def execTokenReturnTimer (t : Nat) (s : State) : Out := zitherTimer t giveBack s

/-! ## Membership (R449) -/

/-- R449: the lead's answer. A package whose tokens are in ESCROW is not answered until they are FREE. -/
def answerJoin (p systemId : Nat) (s : State) : State :=
  if (tok s p).escrow != 0 then s
  else
    let good := systemId == s.cfg.package.systemId && declared s p && !(tok s p).present
    let s1 := sendZ 13 p [(s.cfg.package.systemId : Nat), ((bit (!good) : Nat) : Int)] s
    if good then
      edge 237 p 1 ((modTok p (fun t => { t with present := true, granted := 0, inTransit := [], tseqApplied := [], heardAt := s.devtime })
        s1).modZ fun z => { z with odo := z.odo.filter (fun q => q.1 != p), seqTaken := tmod z.seqTaken [] p (·.take 1) })
    else fault 237 p 0 3 0 s1

/-- R449: JOIN is taken whatever its epoch, and from a package that is not declared too. -/
def execJoin (z : ZHdr) (systemId cfgId boots : Nat) (s : State) : Out :=
  let _ := (cfgId, boots)
  zitherRow (.join z systemId cfgId boots) z (fun s =>
    if !fresh s z || !s.lead then s
    else answerJoin z.src systemId (if declared s z.src then heard z s else s)) s

/-- R449: JOIN every 100 ms until the answer. -/
def sendJoin (s : State) : State :=
  let due := match s.zither.joinAt with
    | some t => decide (t + 100000 ≤ s.devtime)
    | none => true
  if !s.follower || s.zither.welcomed || s.zither.turnedAway || !due then s
  else
    sendZ 12 0 [(s.cfg.package.systemId : Nat), (s.cfg.container.imageId : Nat), (s.zither.boots : Nat)]
      (s.modZ fun z => { z with joinAt := some s.devtime })

/-- R449. -/
def execJoinSend (t : Nat) (s : State) : Out := zitherTimer t sendJoin s

/-- R449: RESULT 0 makes the follower a member of the lead's epoch with its FIXED tokens and its outputs off; RESULT 1 turns it away. -/
def takeWelcome (z : ZHdr) (result : Nat) (s : State) : State :=
  if result = 0 then
    let s1 := heard z (s.modHost fun h => { h with outputsEnabled := false })
    let s2 := s1.modZ fun x =>
      { x with welcomed := true, joined := some z.epoch, stepOffset := true, followAt := some s.devtime, timeLost := false,
               controlFlags := 0, tokenAskedAt := none, seqTaken := tset x.seqTaken 0 [z.seq] }
    edge 237 (ownPkg s) 1 (modTok (ownPkg s) (fun t => { t with granted := 0, inTransit := [], tseqApplied := [], present := true }) s2)
  else fault 237 (ownPkg s) 0 3 0 (s.modZ fun x => { x with turnedAway := true })

/-- R449, R459: a WELCOME of another epoch than the one joined is a frame of a new lead epoch. -/
def execWelcome (z : ZHdr) (systemId result : Nat) (s : State) : Out :=
  zitherRow (.welcome z systemId result) z (fun s =>
    if !fresh s z || !s.follower || z.src != 0 then s
    else if s.zither.welcomed then (if s.zither.joined == some z.epoch then heard z s else leadSilent [] s)
    else if s.zither.turnedAway then s
    else if systemId != s.cfg.package.systemId && result = 0 then s
    else takeWelcome z result s) s

/-! ## CONTROL (R450) -/

/-- R450: a follower's OUTPUTS_ENABLED follows the lead's; FORCE_SAFE brings its outputs to their safe state. -/
def takeControl (flags : Nat) (cs : Clamps) (s : State) : State :=
  let was := s.zither.controlFlags
  let s1 := s.modZ fun z => { z with controlFlags := flags }
  if bitAt flags 2 && !bitAt was 2 then safePolicy cs s1
  else if bitAt flags 0 && !s1.host.outputsEnabled then enableOutputs s1
  else if !bitAt flags 0 && !bitAt flags 2 && s1.host.outputsEnabled then disableOutputs cs s1
  else s1

/-- R450. -/
def execControl (z : ZHdr) (flags : Nat) (clamps : Clamps) (s : State) : Out := zitherRow (.control z flags clamps) z (fromLead z (takeControl flags clamps)) s

/-- R450: every 100 ms; a change goes out at the end of the step that makes it. -/
def controlDue (s : State) : Bool :=
  s.lead && match s.zither.controlAt with
    | some t => decide (t + 100000 ≤ s.devtime)
    | none => true

/-- R450. -/
def execControlSend (t : Nat) (s : State) : Out := zitherTimer t (fun s => if controlDue s then sendControl s else s) s

/-! ## Forwarded requests (R458) -/

/-- A segment joins those received; the whole message, once it is complete. -/
def gather (rseq seg nseg : Nat) (bs : List Byte) (s : State) : State × Option (List Byte) :=
  let ps := (s.zither.fwdParts.filter fun p => !(p.1 == rseq && p.2.1 == seg)) ++ [(rseq, seg, bs)]
  let all := (List.range nseg).map fun k => (ps.find? fun p => p.1 == rseq && p.2.1 == k).map (·.2.2)
  if all.all Option.isSome && 0 < nseg then
    (s.modZ fun z => { z with fwdParts := ps.filter fun p => p.1 != rseq }, some (all.flatMap fun p => p.getD []))
  else (s.modZ fun z => { z with fwdParts := ps }, none)

/-- R458, Table 14-1: a follower carries a forwarded request out. -/
def runForwarded (bs : List Byte) (s : State) : State × Reply :=
  let op := leNat (bs.take 2)
  let len := leNat ((bs.drop 2).take 2)
  match forwardedReq { t := s.devtime, len := len } op (bs.drop 4) with
  | none => (s, { result := resUnknown })
  | some r =>
    if !r.lenOk len then (s, { result := resBadLength })
    else match r.judge s with
      | some x => (s, x)
      | none => match r.effect s with
        | (s1, some x) => (r.after s1, x)
        | (s1, none) => (s1, {})

/-- R458: a whole FWD_REQ; the last 16 replies are kept. -/
def serveForwarded (rseq : Nat) (bs : List Byte) (s : State) : State :=
  let r := runForwarded bs s
  let out := r.2.payload false
  sendSegments 16 0 rseq out (r.1.modZ fun z => { z with fwdReplies := ((rseq, out) :: z.fwdReplies).take 16 })

/-- R458: a segment of FWD_REQ; a repeated RSEQ is answered from the kept replies. -/
def takeFwdReq (rseq seg nseg : Nat) (bs : List Byte) (s : State) : State :=
  match s.zither.fwdReplies.find? fun p => p.1 == rseq with
  | some p => sendSegments 16 0 rseq p.2 s
  | none =>
    match gather rseq seg nseg bs s with
    | (s1, some whole) => serveForwarded rseq whole s1
    | (s1, none) => s1

/-- R458. -/
def execFwdReq (z : ZHdr) (rseq seg nseg : Nat) (data : List Byte) (s : State) : Out :=
  zitherRow (.fwdReq z rseq seg nseg data) z (fromLead z (takeFwdReq rseq seg nseg data)) s

/-- The lead's reply to a forwarded request, on the course that carries it. -/
def replyForwarded (h : Hdr) (op : Nat) (r : Reply) (s : State) : State :=
  match (s.course h.course).long with
  | some (h', _) =>
    if h' = h then
      sendReply h op r true ((s.modCourse h.course fun c => { c with long := none }).modZ fun z =>
        { z with fwd := z.fwd.filter fun x => x.2.1 != h })
    else s
  | none => s

/-- R458: a whole FWD_RPL. A request that went to several followers is answered by the first reply that is not OK, else by the last. -/
def endForwarded (rseq : Nat) (bs : List Byte) (s : State) : State :=
  match s.zither.fwd.find? fun x => x.1 == rseq with
  | none => s
  | some (_, h, op, _) =>
    let s1 := s.modZ fun z => { z with fwd := z.fwd.filter fun x => x.1 != rseq }
    let r : Reply := { result := leNat (bs.take 1), detail := leNat ((bs.drop 2).take 2), data := bs.drop 4 }
    if r.result = resOk && s1.zither.fwd.any (fun x => x.2.1 == h) then s1 else replyForwarded h op r s1

/-- R458: a segment of FWD_RPL. -/
def takeFwdRpl (rseq seg nseg : Nat) (bs : List Byte) (s : State) : State :=
  match gather rseq seg nseg bs s with
  | (s1, some whole) => endForwarded rseq whole s1
  | (s1, none) => s1

/-- R458. -/
def execFwdRpl (z : ZHdr) (rseq seg nseg : Nat) (data : List Byte) (s : State) : Out :=
  zitherRow (.fwdRpl z rseq seg nseg data) z (fromFollower z (takeFwdRpl rseq seg nseg data)) s

/-- R458: no complete reply within 20 ms. -/
def fwdLate (rseq : Nat) (s : State) : State :=
  match s.zither.fwd.find? fun x => x.1 == rseq with
  | some (_, h, op, at_) => if at_ + 20000 ≤ s.devtime then replyForwarded h op { result := resNotReady } s else s
  | none => s

/-- R458. -/
def execFwdTimeout (t rseq : Nat) (s : State) : Out := zitherTimer t (fwdLate rseq) s

/-! ## Silence (R54, R459) -/

/-- The system silence timeout in µs. -/
def silenceUs (s : State) : Nat := 1000 * s.cfg.package.silenceMs

/-- R54. -/
def execSystemSilence (t : Nat) (clamps : Clamps) (s : State) : Out :=
  atOut t (fun s =>
    if zitherRuns s && s.follower && s.zither.welcomed && decide ((tok s (ownPkg s)).heardAt + silenceUs s ≤ s.devtime) then
      leadSilent clamps s
    else s) s

/-- R54, R457: the tokens of a silent follower, those in transit to it included, go into ESCROW; it is no present member. -/
def loseFollower (p : Nat) (s : State) : State :=
  let x := tok s p
  if !s.lead || p = 0 || !x.present || s.devtime < x.heardAt + silenceUs s then s
  else
    edge 237 p 2 (modTok p (fun t =>
      { t with present := false, granted := 0, inTransit := [], escrowAt := some (x.heardAt + silenceUs s),
               escrow := t.escrow + t.granted + t.inTransit.foldl (fun a x => a + x.2.1) 0 }) s)

/-- R54. -/
def execFollowerSilence (t pkg : Nat) (s : State) : Out := zitherPkg t pkg (loseFollower pkg) s

/-- R54, R459: ESCROW becomes FREE 100 ms after the silence timeout, which counted from the last frame heard of the package before its
silence, or from READY for what the lead holds back from its start. -/
def escrowDue (s : State) (p : Nat) : Bool :=
  (tok s p).escrow != 0 && match (tok s p).escrowAt with
    | some t => decide (t + 100000 ≤ s.devtime)
    | none => true

/-- R54. -/
def releaseEscrow (p : Nat) (s : State) : State :=
  if !s.lead || !s.start.ready || !escrowDue s p then s
  else
    (modTok p (fun t => { t with escrow := 0, escrowAt := none }) s).modLedger fun l =>
      { l with tokensFree := l.tokensFree + (tok s p).escrow }

/-- R54. -/
def execEscrowRelease (t pkg : Nat) (s : State) : Out := zitherPkg t pkg (releaseEscrow pkg) s

end Sys2Proof.Machine
end

