-- ==== Sys2Proof/Machine/Dispatch.lean ====
section
/-! DEFINITION. The dispatch of a command to its meaning: one arm per row of spec/opcode_table.json. -/

namespace Sys2Proof.Machine

/-- The effect of a command on everything but the queue of waiting commands. -/
def exec (i : Instr) (s : State) : Host.Outcome State Fault Refusal :=
  match i with
  | .sysInfo h => Sys2Proof.Machine.execSysInfo h s
  | .sysResync h sense => Sys2Proof.Machine.execSysResync h sense s
  | .sysReplay h course first last => Sys2Proof.Machine.execSysReplay h course first last s
  | .sysOutputs h action clamps => Sys2Proof.Machine.execSysOutputs h action clamps s
  | .sysPower h st alarm clamps => Sys2Proof.Machine.execSysPower h st alarm clamps s
  | .sysReset h key => Sys2Proof.Machine.execSysReset h key s
  | .sysTimeSet h utcS utcMs boundMs => Sys2Proof.Machine.execSysTimeSet h utcS utcMs boundMs s
  | .cfgBegin h size => Sys2Proof.Machine.execCfgBegin h size s
  | .cfgWrite h offset data => Sys2Proof.Machine.execCfgWrite h offset data s
  | .cfgVerify h img => Sys2Proof.Machine.execCfgVerify h img s
  | .cfgCommit h slot img => Sys2Proof.Machine.execCfgCommit h slot img s
  | .configurationActivationDone t => Sys2Proof.Machine.execConfigurationActivationDone t s
  | .cfgRead h slot offset count => Sys2Proof.Machine.execCfgRead h slot offset count s
  | .cfgInfo h => Sys2Proof.Machine.execCfgInfo h s
  | .navSubscribe h rate rtk => Sys2Proof.Machine.execNavSubscribe h rate rtk s
  | .navNavbitsSelect h constMask antMask => Sys2Proof.Machine.execNavNavbitsSelect h constMask antMask s
  | .navRtcm h data => Sys2Proof.Machine.execNavRtcm h data s
  | .navStatusRead h => Sys2Proof.Machine.execNavStatusRead h s
  | .navRetentionClear h key => Sys2Proof.Machine.execNavRetentionClear h key s
  | .covFieldOpen h fieldId lat lon height cell flags => Sys2Proof.Machine.execCovFieldOpen h fieldId lat lon height cell flags s
  | .fieldOpenScanDone t => Sys2Proof.Machine.execFieldOpenScanDone t s
  | .covFieldClose h => Sys2Proof.Machine.execCovFieldClose h s
  | .fieldCloseDone t => Sys2Proof.Machine.execFieldCloseDone t s
  | .covFieldReset h fieldId => Sys2Proof.Machine.execCovFieldReset h fieldId s
  | .covFieldDelete h fieldId => Sys2Proof.Machine.execCovFieldDelete h fieldId s
  | .covPolyLoad h offset data => Sys2Proof.Machine.execCovPolyLoad h offset data s
  | .covPolyCommit h size crc => Sys2Proof.Machine.execCovPolyCommit h size crc s
  | .rerasterisationDone t tcol trow => Sys2Proof.Machine.execRerasterisationDone t tcol trow s
  | .covMaster h mask st => Sys2Proof.Machine.execCovMaster h mask st s
  | .covSectionMode h unit mode => Sys2Proof.Machine.execCovSectionMode h unit mode s
  | .covExport h fieldId flags tcLo tcHi trLo trHi => Sys2Proof.Machine.execCovExport h fieldId flags tcLo tcHi trLo trHi s
  | .nExportChunk t => Sys2Proof.Machine.execNExportChunk t s
  | .covReconcile h => Sys2Proof.Machine.execCovReconcile h s
  | .covCountersRead h scope product unit => Sys2Proof.Machine.execCovCountersRead h scope product unit s
  | .fretArm h frets => Sys2Proof.Machine.execFretArm h frets s
  | .fretCancel h unit tag => Sys2Proof.Machine.execFretCancel h unit tag s
  | .unitCmd h unit cmd => Sys2Proof.Machine.execUnitCmd h unit cmd s
  | .unitSetpoint h unit value => Sys2Proof.Machine.execUnitSetpoint h unit value s
  | .unitMode h unit mode => Sys2Proof.Machine.execUnitMode h unit mode s
  | .unitFaultClear h kind number stillUnits stillClusters => Sys2Proof.Machine.execUnitFaultClear h kind number stillUnits stillClusters s
  | .unitStatusRead h first count sense => Sys2Proof.Machine.execUnitStatusRead h first count sense s
  | .unitLatencyRead h unit => Sys2Proof.Machine.execUnitLatencyRead h unit s
  | .unitLatencyReset h unit => Sys2Proof.Machine.execUnitLatencyReset h unit s
  | .loopMode h loop mode flags manual => Sys2Proof.Machine.execLoopMode h loop mode flags manual s
  | .loopManual h loop value => Sys2Proof.Machine.execLoopManual h loop value s
  | .loopSetpoint h loop sp => Sys2Proof.Machine.execLoopSetpoint h loop sp s
  | .loopCoefWrite h loop param value => Sys2Proof.Machine.execLoopCoefWrite h loop param value s
  | .loopStatusRead h first count => Sys2Proof.Machine.execLoopStatusRead h first count s
  | .loopStream h rate count loops => Sys2Proof.Machine.execLoopStream h rate count loops s
  | .nLoop t => Sys2Proof.Machine.execNLoop t s
  | .loopRateSet h product rate => Sys2Proof.Machine.execLoopRateSet h product rate s
  | .loopRateFactors h product first count factors => Sys2Proof.Machine.execLoopRateFactors h product first count factors s
  | .swSet h mask on clamps => Sys2Proof.Machine.execSwSet h mask on clamps s
  | .swPwmDuty h channel duty => Sys2Proof.Machine.execSwPwmDuty h channel duty s
  | .swUnlock h channel => Sys2Proof.Machine.execSwUnlock h channel s
  | .swStatusRead h first count sense => Sys2Proof.Machine.execSwStatusRead h first count sense s
  | .swVentRead h => Sys2Proof.Machine.execSwVentRead h s
  | .swLimpFuseProgram h entries global confirm readBackOk => Sys2Proof.Machine.execSwLimpFuseProgram h entries global confirm readBackOk s
  | .swLimpFuseRead h => Sys2Proof.Machine.execSwLimpFuseRead h s
  | .ioOutputSet h mask on => Sys2Proof.Machine.execIoOutputSet h mask on s
  | .ioOutputRead h sense => Sys2Proof.Machine.execIoOutputRead h sense s
  | .ioInputRead h sense => Sys2Proof.Machine.execIoInputRead h sense s
  | .ioAnalogRead h => Sys2Proof.Machine.execIoAnalogRead h s
  | .ioFaultClear h output causePersists => Sys2Proof.Machine.execIoFaultClear h output causePersists s
  | .ioGroupRearm h group => Sys2Proof.Machine.execIoGroupRearm h group s
  | .busFilterSet h ctrl buffer flags id mask => Sys2Proof.Machine.execBusFilterSet h ctrl buffer flags id mask s
  | .busStatusRead h ctrl => Sys2Proof.Machine.execBusStatusRead h ctrl s
  | .busSystemRead h => Sys2Proof.Machine.execBusSystemRead h s
  | .evtSourceSet h source priority type target => Sys2Proof.Machine.execEvtSourceSet h source priority type target s
  | .evtTargetSet h target threshold count flags time => Sys2Proof.Machine.execEvtTargetSet h target threshold count flags time s
  | .evtReroute h src dst => Sys2Proof.Machine.execEvtReroute h src dst s
  | .evtCountersRead h first count => Sys2Proof.Machine.execEvtCountersRead h first count s
  | .recRead h kind first count => Sys2Proof.Machine.execRecRead h kind first count s
  | .nRecChunk t => Sys2Proof.Machine.execNRecChunk t s
  | .recFreeze h => Sys2Proof.Machine.execRecFreeze h s
  | .recThaw h => Sys2Proof.Machine.execRecThaw h s
  | .recFaultsRead h first => Sys2Proof.Machine.execRecFaultsRead h first s
  | .mntInfo h => Sys2Proof.Machine.execMntInfo h s
  | .mntFwBegin h size => Sys2Proof.Machine.execMntFwBegin h size s
  | .mntFwWrite h offset data => Sys2Proof.Machine.execMntFwWrite h offset data s
  | .mntFwCommit h fw => Sys2Proof.Machine.execMntFwCommit h fw s
  | .mntPartition h confirm tephraMib => Sys2Proof.Machine.execMntPartition h confirm tephraMib s
  | .mntCfgKeyFuse h key confirm => Sys2Proof.Machine.execMntCfgKeyFuse h key confirm s
  | .registerWrite t x => Sys2Proof.Machine.execRegisterWrite t x s
  | .heartbeat t value => Sys2Proof.Machine.execHeartbeat t value s
  | .outDisable t clamps => Sys2Proof.Machine.execOutDisable t clamps s
  | .hqRd t index => Sys2Proof.Machine.execHqRd t index s
  | .ack t restore => Sys2Proof.Machine.execAck t restore s
  | .devtimeLo t => Sys2Proof.Machine.execDevtimeLo t s
  | .take t ns => Sys2Proof.Machine.execTake t ns s
  | .txReq t ctrl buffer => Sys2Proof.Machine.execTxReq t ctrl buffer s
  | .cancel t ctrl buffer phase => Sys2Proof.Machine.execCancel t ctrl buffer phase s
  | .lock t ctrl buffer set => Sys2Proof.Machine.execLock t ctrl buffer set s
  | .reqWrStall t course => Sys2Proof.Machine.execReqWrStall t course s
  | .notificationWrite t course => Sys2Proof.Machine.execNotificationWrite t course s
  | .hostSilent t clamps => Sys2Proof.Machine.execHostSilent t clamps s
  | .autonomousReenable t die => Sys2Proof.Machine.execAutonomousReenable t die s
  | .followUp z tLeadNs tLocalNs => Sys2Proof.Machine.execFollowUp z tLeadNs tLocalNs s
  | .state z epoch v a omega alpha flags => Sys2Proof.Machine.execState z epoch v a omega alpha flags s
  | .odo z epoch dist theta => Sys2Proof.Machine.execOdo z epoch dist theta s
  | .fret z op frets => Sys2Proof.Machine.execFret z op frets s
  | .fretStatus z entries => Sys2Proof.Machine.execFretStatus z entries s
  | .stroke z entries => Sys2Proof.Machine.execStroke z entries s
  | .tokenReq z count => Sys2Proof.Machine.execTokenReq z count s
  | .tokenGrant z tseq count => Sys2Proof.Machine.execTokenGrant z tseq count s
  | .tokenReturn z tseq count => Sys2Proof.Machine.execTokenReturn z tseq count s
  | .tokenAck z tseq kind => Sys2Proof.Machine.execTokenAck z tseq kind s
  | .join z systemId cfgId boots => Sys2Proof.Machine.execJoin z systemId cfgId boots s
  | .welcome z systemId result => Sys2Proof.Machine.execWelcome z systemId result s
  | .control z flags clamps => Sys2Proof.Machine.execControl z flags clamps s
  | .fwdReq z rseq seg nseg data => Sys2Proof.Machine.execFwdReq z rseq seg nseg data s
  | .fwdRpl z rseq seg nseg data => Sys2Proof.Machine.execFwdRpl z rseq seg nseg data s
  | .bridgeFrame t link atDie crcOk seq => Sys2Proof.Machine.execBridgeFrame t link atDie crcOk seq s
  | .bridgeResend t link atDie => Sys2Proof.Machine.execBridgeResend t link atDie s
  | .bridgeHeartbeatSend t link fromDie => Sys2Proof.Machine.execBridgeHeartbeatSend t link fromDie s
  | .bridgeDegraded t link lane => Sys2Proof.Machine.execBridgeDegraded t link lane s
  | .linkSilence t die clamps => Sys2Proof.Machine.execLinkSilence t die clamps s
  | .silenceAllOff t die clamps => Sys2Proof.Machine.execSilenceAllOff t die clamps s
  | .linkRestored t die => Sys2Proof.Machine.execLinkRestored t die s
  | .retrainTimeout t die => Sys2Proof.Machine.execRetrainTimeout t die s
  | .coreRestart t core checkpointOk clamps => Sys2Proof.Machine.execCoreRestart t core checkpointOk clamps s
  | .coreRestartDone t core => Sys2Proof.Machine.execCoreRestartDone t core s
  | .coreColdDone t core => Sys2Proof.Machine.execCoreColdDone t core s
  | .vbatGroupLoss t group mv clamps => Sys2Proof.Machine.execVbatGroupLoss t group mv clamps s
  | .vbatGroupReturn t group mv => Sys2Proof.Machine.execVbatGroupReturn t group mv s
  | .ledgerAudit t meas clamps => Sys2Proof.Machine.execLedgerAudit t meas clamps s
  | .derateEnter t coldPlateDc => Sys2Proof.Machine.execDerateEnter t coldPlateDc s
  | .derateExit t coldPlateDc => Sys2Proof.Machine.execDerateExit t coldPlateDc s
  | .measurementEpoch t meas timeSats => Sys2Proof.Machine.execMeasurementEpoch t meas timeSats s
  | .notchEngage t antenna band freqKhz levelDb => Sys2Proof.Machine.execNotchEngage t antenna band freqKhz levelDb s
  | .jammingUpdate t antenna band dAgcMilliDb dNoiseMilliDb => Sys2Proof.Machine.execJammingUpdate t antenna band dAgcMilliDb dNoiseMilliDb s
  | .navPage t page => Sys2Proof.Machine.execNavPage t page s
  | .rtcmFrame t frame => Sys2Proof.Machine.execRtcmFrame t frame s
  | .correctionAgeExceeded t => Sys2Proof.Machine.execCorrectionAgeExceeded t s
  | .rtkSolution t sol => Sys2Proof.Machine.execRtkSolution t sol s
  | .deadReckoning t => Sys2Proof.Machine.execDeadReckoning t s
  | .baselineSolution t vec fixedAmbiguities galileo => Sys2Proof.Machine.execBaselineSolution t vec fixedAmbiguities galileo s
  | .baselineMismatch t => Sys2Proof.Machine.execBaselineMismatch t s
  | .antennaLost t antenna => Sys2Proof.Machine.execAntennaLost t antenna s
  | .fusedEpoch t f => Sys2Proof.Machine.execFusedEpoch t f s
  | .holdDistanceUsedUp t => Sys2Proof.Machine.execHoldDistanceUsedUp t s
  | .holdDistanceRestored t => Sys2Proof.Machine.execHoldDistanceRestored t s
  | .nPos t => Sys2Proof.Machine.execNPos t s
  | .pps t sol => Sys2Proof.Machine.execPps t sol s
  | .nmeaEpoch t => Sys2Proof.Machine.execNmeaEpoch t s
  | .navRetentionSave t => Sys2Proof.Machine.execNavRetentionSave t s
  | .keepWarm t => Sys2Proof.Machine.execKeepWarm t s
  | .refreshEnd t => Sys2Proof.Machine.execRefreshEnd t s
  | .odoEdge t change levelA levelB => Sys2Proof.Machine.execOdoEdge t change levelA levelB s
  | .odoNoisy t channel => Sys2Proof.Machine.execOdoNoisy t channel s
  | .odoNoisyClear t channel => Sys2Proof.Machine.execOdoNoisyClear t channel s
  | .standstill t channel => Sys2Proof.Machine.execStandstill t channel s
  | .sentFrame t channel frame => Sys2Proof.Machine.execSentFrame t channel frame s
  | .sentLost t channel => Sys2Proof.Machine.execSentLost t channel s
  | .speedImplausible t => Sys2Proof.Machine.execSpeedImplausible t s
  | .sourceRejoin t rank => Sys2Proof.Machine.execSourceRejoin t rank s
  | .emulationPulse t => Sys2Proof.Machine.execEmulationPulse t s
  | .coalescingTimeout t target => Sys2Proof.Machine.execCoalescingTimeout t target s
  | .faultHandling t => Sys2Proof.Machine.execFaultHandling t s
  | .rebuildScan t => Sys2Proof.Machine.execRebuildScan t s
  | .oneshotClose t cls instn => Sys2Proof.Machine.execOneshotClose t cls instn s
  | .hourChange t => Sys2Proof.Machine.execHourChange t s
  | .histogramSample t sample => Sys2Proof.Machine.execHistogramSample t sample s
  | .autoThaw t => Sys2Proof.Machine.execAutoThaw t s
  | .emmcError t partition => Sys2Proof.Machine.execEmmcError t partition s
  | .canFrameReceived t ctrl frame => Sys2Proof.Machine.execCanFrameReceived t ctrl frame s
  | .canTxEnd t ctrl buffer ok => Sys2Proof.Machine.execCanTxEnd t ctrl buffer ok s
  | .canBusOff t ctrl => Sys2Proof.Machine.execCanBusOff t ctrl s
  | .canBusBack t ctrl => Sys2Proof.Machine.execCanBusBack t ctrl s
  | .canPassive t ctrl => Sys2Proof.Machine.execCanPassive t ctrl s
  | .canSpPeriod t loop => Sys2Proof.Machine.execCanSpPeriod t loop s
  | .addressClaim t ctrl won => Sys2Proof.Machine.execAddressClaim t ctrl won s
  | .dm1 t ctrl => Sys2Proof.Machine.execDm1 t ctrl s
  | .tcReport t ddi sect => Sys2Proof.Machine.execTcReport t ddi sect s
  | .decisionCycle t => Sys2Proof.Machine.execDecisionCycle t s
  | .nSections t => Sys2Proof.Machine.execNSections t s
  | .tileLoadDone t tcol trow crcOk rebuilt => Sys2Proof.Machine.execTileLoadDone t tcol trow crcOk rebuilt s
  | .journalCommit t written => Sys2Proof.Machine.execJournalCommit t written s
  | .fretFire t unit => Sys2Proof.Machine.execFretFire t unit s
  | .odoStale t => Sys2Proof.Machine.execOdoStale t s
  | .suspendCancel t unit tag => Sys2Proof.Machine.execSuspendCancel t unit tag s
  | .slotWaitDecay t cluster => Sys2Proof.Machine.execSlotWaitDecay t cluster s
  | .latencySave t => Sys2Proof.Machine.execLatencySave t s
  | .riseEnd t unit railMv => Sys2Proof.Machine.execRiseEnd t unit railMv s
  | .ttpLimit t unit currentMa railMv => Sys2Proof.Machine.execTtpLimit t unit currentMa railMv s
  | .peakHoldEnd t unit => Sys2Proof.Machine.execPeakHoldEnd t unit s
  | .transitionEnd t unit => Sys2Proof.Machine.execTransitionEnd t unit s
  | .shotEnd t unit dutyPpm => Sys2Proof.Machine.execShotEnd t unit dutyPpm s
  | .pwmCycleStart t unit pressurePa pressureValid => Sys2Proof.Machine.execPwmCycleStart t unit pressurePa pressureValid s
  | .pwmOnTimeEnd t unit dutyPpm => Sys2Proof.Machine.execPwmOnTimeEnd t unit dutyPpm s
  | .dip t unit => Sys2Proof.Machine.execDip t unit s
  | .openWinEnd t unit => Sys2Proof.Machine.execOpenWinEnd t unit s
  | .knee t unit => Sys2Proof.Machine.execKnee t unit s
  | .closeWinEnd t unit => Sys2Proof.Machine.execCloseWinEnd t unit s
  | .crowded t unit => Sys2Proof.Machine.execCrowded t unit s
  | .boostFault t die => Sys2Proof.Machine.execBoostFault t die s
  | .coilShort t unit shuntCarries => Sys2Proof.Machine.execCoilShort t unit shuntCarries s
  | .openLoad t unit => Sys2Proof.Machine.execOpenLoad t unit s
  | .unitOvertemp t unit => Sys2Proof.Machine.execUnitOvertemp t unit s
  | .propSaturated t unit => Sys2Proof.Machine.execPropSaturated t unit s
  | .pairImbalance t unit => Sys2Proof.Machine.execPairImbalance t unit s
  | .shortToGnd t cluster => Sys2Proof.Machine.execShortToGnd t cluster s
  | .hsOverload t cluster => Sys2Proof.Machine.execHsOverload t cluster s
  | .hsOvertemp t cluster => Sys2Proof.Machine.execHsOvertemp t cluster s
  | .hsStuck t cluster => Sys2Proof.Machine.execHsStuck t cluster s
  | .offStateTest t cluster => Sys2Proof.Machine.execOffStateTest t cluster s
  | .offStateTestEnd t cluster => Sys2Proof.Machine.execOffStateTestEnd t cluster s
  | .senseTrimSample t cluster shuntMa currents => Sys2Proof.Machine.execSenseTrimSample t cluster shuntMa currents s
  | .senseTrimLimit t unit => Sys2Proof.Machine.execSenseTrimLimit t unit s
  | .clusterUngate t cluster => Sys2Proof.Machine.execClusterUngate t cluster s
  | .coilTemperatureTimeout t unit gridMc => Sys2Proof.Machine.execCoilTemperatureTimeout t unit gridMc s
  | .loopSample t loop feedback => Sys2Proof.Machine.execLoopSample t loop feedback s
  | .fbHoldExpiry t loop => Sys2Proof.Machine.execFbHoldExpiry t loop s
  | .plausibilityUpdate t loop => Sys2Proof.Machine.execPlausibilityUpdate t loop s
  | .swShort t channel clamps => Sys2Proof.Machine.execSwShort t channel clamps s
  | .swOvercurrent t channel clamps => Sys2Proof.Machine.execSwOvercurrent t channel clamps s
  | .swOvertemp t channel clamps => Sys2Proof.Machine.execSwOvertemp t channel clamps s
  | .thermalLatchClear t channel => Sys2Proof.Machine.execThermalLatchClear t channel s
  | .thermalHold t channel => Sys2Proof.Machine.execThermalHold t channel s
  | .inrushEnd t channel => Sys2Proof.Machine.execInrushEnd t channel s
  | .retryReset t channel => Sys2Proof.Machine.execRetryReset t channel s
  | .backoffEnd t channel => Sys2Proof.Machine.execBackoffEnd t channel s
  | .restartRetry t channel => Sys2Proof.Machine.execRestartRetry t channel s
  | .swOpenLoad t channel => Sys2Proof.Machine.execSwOpenLoad t channel s
  | .openLoadClear t channel => Sys2Proof.Machine.execOpenLoadClear t channel s
  | .ventUnlock t channel => Sys2Proof.Machine.execVentUnlock t channel s
  | .disturbanceWindowEnd t cluster => Sys2Proof.Machine.execDisturbanceWindowEnd t cluster s
  | .swPwmPeriod t channel clamps => Sys2Proof.Machine.execSwPwmPeriod t channel clamps s
  | .limpEnter t clamps => Sys2Proof.Machine.execLimpEnter t clamps s
  | .limpInput t input high clamps => Sys2Proof.Machine.execLimpInput t input high clamps s
  | .limpExit t clamps => Sys2Proof.Machine.execLimpExit t clamps s
  | .inputStateChange t input contactClosed => Sys2Proof.Machine.execInputStateChange t input contactClosed s
  | .fiWireBreak t input cls lowR => Sys2Proof.Machine.execFiWireBreak t input cls lowR s
  | .nOperator t input contactClosed firstSampleUs => Sys2Proof.Machine.execNOperator t input contactClosed firstSampleUs s
  | .aiOverload t input => Sys2Proof.Machine.execAiOverload t input s
  | .burdenTest t input currentUa => Sys2Proof.Machine.execBurdenTest t input currentUa s
  | .aiInvalid t input raw => Sys2Proof.Machine.execAiInvalid t input raw s
  | .foOvercurrent t output => Sys2Proof.Machine.execFoOvercurrent t output s
  | .foOvertemp t output => Sys2Proof.Machine.execFoOvertemp t output s
  | .foOpenLoad t output => Sys2Proof.Machine.execFoOpenLoad t output s
  | .harnessAway t group lossLines clamps => Sys2Proof.Machine.execHarnessAway t group lossLines clamps s
  | .harnessBack t group lossLines => Sys2Proof.Machine.execHarnessBack t group lossLines s
  | .safeTableCheck t die crcOk => Sys2Proof.Machine.execSafeTableCheck t die crcOk s
  | .suppliesValid t tests => Sys2Proof.Machine.execSuppliesValid t tests s
  | .vddAonBrownout t => Sys2Proof.Machine.execVddAonBrownout t s
  | .vddCoreBrownout t => Sys2Proof.Machine.execVddCoreBrownout t s
  | .vddRfLoss t => Sys2Proof.Machine.execVddRfLoss t s
  | .rstN t => Sys2Proof.Machine.execRstN t s
  | .watchdog t => Sys2Proof.Machine.execWatchdog t s
  | .regionCalibration t region failUnits failClusters failSwitches failOutputs => Sys2Proof.Machine.execRegionCalibration t region failUnits failClusters failSwitches failOutputs s
  | .calDeferred t kind element pass => Sys2Proof.Machine.execCalDeferred t kind element pass s
  | .rfCalFail t antenna pass => Sys2Proof.Machine.execRfCalFail t antenna pass s
  | .wakeSource t source tests => Sys2Proof.Machine.execWakeSource t source tests s
  | .tcxoStable t => Sys2Proof.Machine.execTcxoStable t s
  | .clk32Fail t => Sys2Proof.Machine.execClk32Fail t s
  | .crystalTemperatureRead t milliC => Sys2Proof.Machine.execCrystalTemperatureRead t milliC s
  | .keyOffDelay t => Sys2Proof.Machine.execKeyOffDelay t s
  | .autoParkEntry t clamps => Sys2Proof.Machine.execAutoParkEntry t clamps s
  | .sync t => Sys2Proof.Machine.execSync t s
  | .zitherTimeLost t => Sys2Proof.Machine.execZitherTimeLost t s
  | .zitherStale t pkg => Sys2Proof.Machine.execZitherStale t pkg s
  | .tokenRepeat t pkg => Sys2Proof.Machine.execTokenRepeat t pkg s
  | .tokenRequestTimer t => Sys2Proof.Machine.execTokenRequestTimer t s
  | .tokenReturnTimer t => Sys2Proof.Machine.execTokenReturnTimer t s
  | .joinSend t => Sys2Proof.Machine.execJoinSend t s
  | .controlSend t => Sys2Proof.Machine.execControlSend t s
  | .fwdTimeout t rseq => Sys2Proof.Machine.execFwdTimeout t rseq s
  | .systemSilence t clamps => Sys2Proof.Machine.execSystemSilence t clamps s
  | .followerSilence t pkg => Sys2Proof.Machine.execFollowerSilence t pkg s
  | .escrowRelease t pkg => Sys2Proof.Machine.execEscrowRelease t pkg s
  | .crystalStable t => Sys2Proof.Machine.execCrystalStable t s
  | .entrySequenceDone t => Sys2Proof.Machine.execEntrySequenceDone t s
  | .cfgVerifyDone t => Sys2Proof.Machine.execCfgVerifyDone t s
  | .fwCommitDone t => Sys2Proof.Machine.execFwCommitDone t s
  | .partitionDone t => Sys2Proof.Machine.execPartitionDone t s
  | .tpTimeout t ctrl session => Sys2Proof.Machine.execTpTimeout t ctrl session s
  | .tcConnectionLost t => Sys2Proof.Machine.execTcConnectionLost t s

end Sys2Proof.Machine
end

