-- ==== Sys2Proof/Machine/IdleOps.lean ====
section
/-! DEFINITION. What a step does when no command waits: a request that the device holds in its request ring is taken as soon as it
may be (R353, R373, R384, R390), courses 0, 3, 1, 2 in that order (R390), and work that waited for a core (R22); with neither, 10 µs pass
(assumption 5). -/

namespace Sys2Proof.Machine

/-- R390: the courses in the order in which they are served after one of them. -/
def servedAfter : Nat → List Nat
  | 0 => [3, 1, 2, 0]
  | 3 => [1, 2, 0, 3]
  | 1 => [2, 0, 3, 1]
  | _ => [0, 3, 1, 2]

/-- R390: the round goes on while requests wait, and the next one begins at course 0. -/
def noteServed (n : Nat) (s : State) : State :=
  s.modHost fun h => { h with served := if [0, 1, 2, 3].all fun k => (s.course k).held.isEmpty then 2 else n }

/-- The first held request that may be taken now, with the state in which it is at REQ_RD: one from each course in turn (R390). -/
def nextHeld (s : State) : Option (Instr × State) :=
  match (servedAfter s.host.served).find? fun n => !(s.course n).held.isEmpty && canTake s n with
  | none => none
  | some n =>
    match (s.course n).held with
    | [] => none
    | i :: r => some (i, noteServed n (s.modCourse n fun c => { c with held := r, taking := true }))

/-- R22: the oldest work that waits for a core that is back in service. -/
def nextWork (s : State) : Option (Instr × State) :=
  match s.start.coreQueue.find? fun x => !coreOut s x.1 with
  | none => none
  | some (k, i) => some (i, s.modStart fun x => { x with coreQueue := x.coreQueue.erase (k, i), coreTaking := true })

/-- The work is done, and the mark that it waited goes. -/
def workDone : Out → Out
  | .next s => .next (s.modStart fun x => { x with coreTaking := false })
  | o => o

/-- One tick of the device's own time: 10 µs. -/
def tick (s : State) : Out := at_ (s.devtime + 10) (fun s => s) s

end Sys2Proof.Machine
end

