-- ==== Sys2Proof/Machine/Step.lean ====
section
/-! DEFINITION. One step: the command at the front of the queue, or, with an empty queue, a held request, work that waited for its core, or a tick. -/

namespace Sys2Proof.Machine

/-- Take the command at the front of `pending` and carry it out with the queue's rest. On an empty queue the device takes a request
that it holds, or work that waited for its core, or lets 10 µs pass (assumption 5). -/
def step (s : State) : Host.Outcome State Fault Refusal :=
  match s.pending with
  | c :: rest => exec c { s with pending := rest }
  | [] =>
    match nextHeld s with
    | some (c, s1) => exec c s1
    | none => match nextWork s with
      | some (c, s1) => workDone (exec c s1)
      | none => tick s

/-- `s` with the command that a table word spells at the front of its queue; `s` itself where the word spells none. -/
def State.withFetchWord (s : State) (nbits w : Nat) : State :=
  match decodeTableWord nbits w with
  | some c => { s with pending := c :: s.pending }
  | none => s

end Sys2Proof.Machine
end

