-- ==== Sys2Proof/WellFormed.lean ====
section
/-! DEFINITION. Well-formed commands: every operand fits the field of the message, window or frame that carries it (Table 13-7,
Tables 14-3 to 14-16, Table 15-7), and every element number is one that Table 01-6 or the owning chapter gives. -/

namespace Sys2Proof

/-- Unsigned fields of 8, 16, 24, 32 and 64 bits. -/
def u64 (x : Nat) : Bool := decide (x < 18446744073709551616)
def u8 (x : Nat) : Bool := decide (x < 256)
def u16 (x : Nat) : Bool := decide (x < 65536)
def u24 (x : Nat) : Bool := decide (x < 16777216)
def u32 (x : Nat) : Bool := decide (x < 4294967296)
/-- Signed fields of 32 and 64 bits. -/
def i32 (x : Int) : Bool := decide (-2147483648 ≤ x) && decide (x ≤ 2147483647)
def i64 (x : Int) : Bool := decide (-9223372036854775808 ≤ x) && decide (x ≤ 9223372036854775807)
def i16 (x : Int) : Bool := decide (-32768 ≤ x) && decide (x ≤ 32767)

/-- Table 13-7: the header fits its fields and names one of the four courses. -/
def Hdr.wf (h : Hdr) : Bool :=
  decide (h.course < 4) && u16 h.seq && u16 h.ack && u24 h.tag && u8 h.epoch && u16 h.len

/-- R448, Table 15-6: a Zither header. -/
def ZHdr.wf (z : ZHdr) : Bool := decide (z.src < 4) && u16 z.seq && u8 z.epoch

/-- Table 06-1: a fret fits its fields. -/
def FretWire.wf (f : FretWire) : Bool := i64 f.pos && u8 f.action && u8 f.flags && u16 f.tag && u16 f.discard && u16 f.unit

/-- Element numbers of Table 01-6 and of the owning chapters. -/
def isUnit (u : Nat) : Bool := decide (u < 128)
def isCluster (c : Nat) : Bool := decide (c < 16)
def isSwitch (n : Nat) : Bool := decide (n < 24)
def isDie (d : Nat) : Bool := decide (2 ≤ d) && decide (d < 5)
def isCan (n : Nat) : Bool := decide (n < 4)
def isGateway (n b : Nat) : Bool := decide (n < 4) && decide (b < 16)

/-- The operands of a command fit. -/
def Instr.wf : Instr → Bool
  | .sysInfo h | .sysResync h _ | .cfgInfo h | .navStatusRead h | .covFieldClose h | .covReconcile h | .swVentRead h
  | .swLimpFuseRead h | .ioOutputRead h _ | .ioInputRead h _ | .ioAnalogRead h | .busSystemRead h | .recFreeze h | .recThaw h
  | .mntInfo h | .cfgVerify h _ | .mntFwCommit h _ => h.wf
  | .sysReplay h c f l => h.wf && u8 c && u16 f && u16 l
  | .sysOutputs h a _ => h.wf && u8 a
  | .sysPower h st a _ => h.wf && u8 st && u32 a
  | .sysReset h key => h.wf && u32 key
  | .sysTimeSet h a b c => h.wf && u32 a && u16 b && u32 c
  | .cfgBegin h size | .mntFwBegin h size => h.wf && u32 size
  | .cfgWrite h o d | .covPolyLoad h o d | .mntFwWrite h o d => h.wf && u32 o && decide (d.length ≤ 1024)
  | .cfgCommit h slot _ => h.wf && u8 slot
  | .cfgRead h slot o c => h.wf && u8 slot && u32 o && u32 c
  | .navSubscribe h r k => h.wf && u8 r && u8 k
  | .navNavbitsSelect h a b => h.wf && u8 a && u8 b
  | .navRtcm h d => h.wf && decide (d.length ≤ 1024)
  | .navRetentionClear h key => h.wf && u32 key
  | .covFieldOpen h f lat lon ht cell fl => h.wf && u32 f && i64 lat && i64 lon && i32 ht && u8 cell && u8 fl
  | .covFieldReset h f | .covFieldDelete h f => h.wf && u32 f
  | .covPolyCommit h size crc => h.wf && u32 size && u32 crc
  | .covMaster h m st => h.wf && u8 m && u8 st
  | .covSectionMode h u m => h.wf && u16 u && u8 m
  | .covExport h f fl a b c d => h.wf && u32 f && u8 fl && i16 a && i16 b && i16 c && i16 d
  | .covCountersRead h sc p u => h.wf && u8 sc && u8 p && u16 u
  | .fretArm h fs => h.wf && fs.all FretWire.wf
  | .fretCancel h u tag => h.wf && u16 u && u16 tag
  | .unitCmd h u c | .unitMode h u c => h.wf && u16 u && u8 c
  | .unitSetpoint h u v => h.wf && u16 u && u32 v
  | .unitFaultClear h k n us cs => h.wf && u8 k && u16 n && us.all isUnit && cs.all isCluster
  | .unitStatusRead h f c _ => h.wf && u16 f && u16 c
  | .unitLatencyRead h u | .unitLatencyReset h u => h.wf && u16 u
  | .loopMode h l m f v => h.wf && u8 l && u8 m && u8 f && i32 v
  | .loopManual h l v | .loopSetpoint h l v => h.wf && u8 l && i32 v
  | .loopCoefWrite h l p v => h.wf && u8 l && u8 p && i32 v
  | .loopStatusRead h f c | .swStatusRead h f c _ => h.wf && u8 f && u8 c
  | .loopStream h r c ls => h.wf && u8 r && u8 c && ls.all u8
  | .loopRateSet h p r => h.wf && u8 p && u32 r
  | .loopRateFactors h p f c fs => h.wf && u8 p && u16 f && u16 c && fs.all u32
  | .swSet h m on _ => h.wf && u32 m && u32 on
  | .swPwmDuty h n d => h.wf && u8 n && u16 d
  | .swUnlock h n => h.wf && u8 n
  | .swLimpFuseProgram h es g c _ => h.wf && es.all u8 && u8 g && u32 c
  | .ioOutputSet h m on => h.wf && u16 m && u16 on
  | .ioFaultClear h o _ => h.wf && u8 o
  | .ioGroupRearm h g => h.wf && u8 g
  | .busFilterSet h n b f i m => h.wf && u8 n && u8 b && u8 f && u32 i && u32 m
  | .busStatusRead h n => h.wf && u8 n
  | .evtSourceSet h a b c d => h.wf && u8 a && u8 b && u8 c && u8 d
  | .evtTargetSet h a b c d e => h.wf && u8 a && u8 b && u8 c && u8 d && u16 e
  | .evtReroute h a b => h.wf && u8 a && u8 b
  | .evtCountersRead h a b => h.wf && u8 a && u8 b
  | .recRead h k f c => h.wf && u8 k && u32 f && u32 c
  | .recFaultsRead h f => h.wf && u16 f
  | .mntPartition h c t => h.wf && u32 c && u32 t
  | .mntCfgKeyFuse h k c => h.wf && decide (k.length ≤ 64) && u32 c
  | .registerWrite _ x => decide (x.words.length ≤ 1024)
  | .heartbeat _ v => u32 v
  | .hqRd _ i => u8 i
  | .ack _ r => u8 r
  | .take _ ns => decide (ns < 1000)
  | .txReq _ n b | .cancel _ n b _ | .lock _ n b _ => isGateway n b
  | .reqWrStall _ c | .notificationWrite _ c => decide (c < 4)
  | .autonomousReenable _ d | .linkSilence _ d _ | .silenceAllOff _ d _ | .linkRestored _ d | .retrainTimeout _ d
  | .safeTableCheck _ d _ => isDie d
  | .boostFault _ d => decide (d = 2) || decide (d = 3)
  | .bridgeFrame _ l _ _ seq => decide (l < 3) && u8 seq
  | .bridgeResend _ l _ | .bridgeHeartbeatSend _ l _ => decide (l < 3)
  | .bridgeDegraded _ l k => decide (l < 3) && decide (k < 4)
  | .coreRestart _ c _ _ | .coreRestartDone _ c | .coreColdDone _ c => decide (c < 9)
  | .vbatGroupLoss _ g _ _ | .vbatGroupReturn _ g _ => decide (g < 7)
  | .regionCalibration _ r _ _ _ _ => decide (r < 7)
  | .notchEngage _ a b _ _ | .jammingUpdate _ a b _ _ => decide (a < 2) && decide (b < 2)
  | .antennaLost _ a | .rfCalFail _ a _ => decide (a < 2)
  | .odoEdge _ e _ _ => decide (e.input < 8) && decide (e.quarter < 4)
  | .odoNoisy _ c | .odoNoisyClear _ c | .standstill _ c => decide (c < 8)
  | .sentFrame _ c _ | .sentLost _ c => decide (c < 2)
  | .sourceRejoin _ r => decide (r < 9)
  | .suspendCancel _ u tag => isUnit u && u16 tag
  | .slotWaitDecay _ c | .shortToGnd _ c | .hsOverload _ c | .hsOvertemp _ c | .hsStuck _ c | .offStateTest _ c
  | .offStateTestEnd _ c | .senseTrimSample _ c _ _ | .clusterUngate _ c => isCluster c
  | .fretFire _ u | .riseEnd _ u _ | .ttpLimit _ u _ _ | .peakHoldEnd _ u | .transitionEnd _ u | .shotEnd _ u _
  | .pwmCycleStart _ u _ _ | .pwmOnTimeEnd _ u _ | .dip _ u | .openWinEnd _ u | .knee _ u | .closeWinEnd _ u | .crowded _ u
  | .coilShort _ u _ | .openLoad _ u | .unitOvertemp _ u | .propSaturated _ u | .pairImbalance _ u | .senseTrimLimit _ u
  | .coilTemperatureTimeout _ u _ => isUnit u
  | .loopSample _ l _ | .fbHoldExpiry _ l | .plausibilityUpdate _ l | .canSpPeriod _ l => isUnit l
  | .swShort _ n _ | .swOvercurrent _ n _ | .swOvertemp _ n _ | .thermalHold _ n | .inrushEnd _ n
  | .retryReset _ n | .backoffEnd _ n | .restartRetry _ n | .swOpenLoad _ n | .openLoadClear _ n | .ventUnlock _ n
  | .swPwmPeriod _ n _ => isSwitch n
  | .thermalLatchClear _ n => decide (n < 40)
  | .disturbanceWindowEnd _ c => decide (c < 6)
  | .limpInput _ i _ _ => decide (i < 8)
  | .inputStateChange _ i _ | .nOperator _ i _ _ => decide (i < 32)
  | .fiWireBreak _ i cls _ => decide (i < 32) && decide (cls < 4)
  | .aiOverload _ a | .burdenTest _ a _ => decide (a < 8)
  | .aiInvalid _ a raw => decide (a < 8) && u16 raw
  | .foOvercurrent _ o | .foOvertemp _ o | .foOpenLoad _ o => decide (o < 16)
  | .harnessAway _ g _ _ | .harnessBack _ g _ => decide (g < 8)
  | .calDeferred _ k _ _ => decide (k < 3)
  | .wakeSource _ src _ => decide (src < 8)
  | .canFrameReceived _ n _ | .canBusOff _ n | .canBusBack _ n | .canPassive _ n | .addressClaim _ n _ | .dm1 _ n
  | .tpTimeout _ n _ => isCan n
  | .canTxEnd _ n b _ => isCan n && decide (b < 64)
  | .followUp z _ _ => z.wf
  | .state z e v a w b fl => z.wf && u64 e && i32 v && i32 a && i32 w && i32 b && u16 fl
  | .odo z e d th => z.wf && u64 e && i64 d && i64 th
  | .fret z op fs => z.wf && u8 op && decide (1 ≤ fs.length) && decide (fs.length ≤ 3) && fs.all FretWire.wf
  | .fretStatus z es =>
    z.wf && decide (1 ≤ es.length) && decide (es.length ≤ 4) && es.all fun e => u16 e.1 && u16 e.2.1 && u8 e.2.2.1 && u32 e.2.2.2
  | .stroke z es => z.wf && decide (1 ≤ es.length) && decide (es.length ≤ 4) && es.all fun e => u16 e.1 && u8 e.2.1 && u64 e.2.2
  | .tokenReq z n => z.wf && u16 n
  | .tokenGrant z q n | .tokenReturn z q n => z.wf && u16 q && u16 n
  | .tokenAck z q k => z.wf && u16 q && u8 k
  | .join z a b c => z.wf && u32 a && u32 b && u32 c
  | .welcome z a r => z.wf && u32 a && u8 r
  | .control z fl _ => z.wf && u32 fl
  | .fwdReq z r a n d | .fwdRpl z r a n d => z.wf && u16 r && u8 a && u8 n && decide (1 ≤ d.length) && decide (d.length ≤ 56)
  | .zitherStale _ p | .tokenRepeat _ p | .followerSilence _ p | .escrowRelease _ p => decide (p < 4)
  | .fwdTimeout _ r => u16 r
  | .coalescingTimeout _ t => decide (t < 10)
  | .oneshotClose _ c i => u16 c && u16 i
  | .emmcError _ p => decide (p < 8)
  | .configurationActivationDone _ | .fieldOpenScanDone _ | .fieldCloseDone _ | .rerasterisationDone _ _ _ | .nExportChunk _
  | .nLoop _ | .nRecChunk _ | .outDisable _ _ | .devtimeLo _ | .hostSilent _ _ | .ledgerAudit _ _ _ | .derateEnter _ _
  | .derateExit _ _ | .measurementEpoch _ _ _ | .navPage _ _ | .rtcmFrame _ _ | .correctionAgeExceeded _ | .rtkSolution _ _
  | .deadReckoning _ | .baselineSolution _ _ _ _ | .baselineMismatch _ | .fusedEpoch _ _ | .holdDistanceUsedUp _
  | .holdDistanceRestored _ | .nPos _ | .pps _ _ | .nmeaEpoch _ | .navRetentionSave _ | .keepWarm _ | .refreshEnd _
  | .speedImplausible _ | .emulationPulse _ | .decisionCycle _ | .nSections _ | .tileLoadDone _ _ _ _ _ | .journalCommit _ _
  | .odoStale _ | .latencySave _ | .limpEnter _ _ | .limpExit _ _ | .suppliesValid _ _ | .vddAonBrownout _ | .vddCoreBrownout _
  | .vddRfLoss _ | .rstN _ | .watchdog _ | .tcxoStable _ | .clk32Fail _ | .crystalTemperatureRead _ _ | .keyOffDelay _
  | .autoParkEntry _ _ | .tcReport _ _ _ | .sync _ | .zitherTimeLost _ | .tokenRequestTimer _ | .tokenReturnTimer _
  | .joinSend _ | .controlSend _ | .systemSilence _ _ | .faultHandling _ | .rebuildScan _ | .hourChange _ | .histogramSample _ _
  | .autoThaw _ | .crystalStable _ | .entrySequenceDone _ | .cfgVerifyDone _ | .fwCommitDone _ | .partitionDone _
  | .tcConnectionLost _ => true

end Sys2Proof
end

