-- ==== Sys2Proof/Safety.lean ====
section
/-! DEFINITION. The terms in which claims about the device are stated: what a step leaves unchanged, when a command completes,
when the device takes a request and what it answers, and the invariants that every step keeps. -/

namespace Sys2Proof.Machine

/-! ## Frames -/

/-- The banks of State, each a register group, buffer or bank of like elements that the spec names. -/
inductive Bank where
  | time | cfg | power | start | storage | session | courses | statusSeq | ledger | units | clusters | boost | switches | vents
  | ventHeld | inputs | outputs | analogs | groups | dies | loops | loopStream | rates | nav | odo | cov | events | faults
  | recorder | limp | can | zither | freeCount | pending
deriving DecidableEq, Repr

/-- The host's registers but for the courses and SEQ of STATUS. -/
def HostSt.registers (h : HostSt) : HostSt := { h with courses := [], statusSeq := 0 }

/-- A bank stands in `t` as it stands in `s`. -/
def Bank.same (b : Bank) (s t : State) : Prop :=
  match b with
  | .time => t.devtime = s.devtime
  | .cfg => t.cfg = s.cfg
  | .power => t.power = s.power
  | .start => t.start = s.start
  | .storage => t.storage = s.storage
  | .session => t.host.registers = s.host.registers
  | .courses => t.host.courses = s.host.courses
  | .statusSeq => t.host.statusSeq = s.host.statusSeq
  | .ledger => t.ledger = s.ledger
  | .units => t.units = s.units
  | .clusters => t.clusters = s.clusters
  | .boost => t.boost = s.boost
  | .switches => t.switches = s.switches
  | .vents => t.vents = s.vents
  | .ventHeld => t.ventHeld = s.ventHeld
  | .inputs => t.inputs = s.inputs
  | .outputs => t.outputs = s.outputs
  | .analogs => t.analogs = s.analogs
  | .groups => t.groups = s.groups
  | .dies => t.dies = s.dies
  | .loops => t.loops = s.loops
  | .loopStream => t.loopStream = s.loopStream ∧ t.loopSentAt = s.loopSentAt
  | .rates => t.rates = s.rates ∧ t.trims = s.trims ∧ t.rateRaisedAt = s.rateRaisedAt ∧ t.pressureBad = s.pressureBad
      ∧ t.pwmRef = s.pwmRef
  | .nav => t.nav = s.nav
  | .odo => t.odo = s.odo
  | .cov => t.cov = s.cov
  | .events => t.events = s.events
  | .faults => t.faults = s.faults
  | .recorder => t.recorder = s.recorder
  | .limp => t.limp = s.limp
  | .can => t.can = s.can
  | .zither => t.zither = s.zither
  | .freeCount => t.freeCount = s.freeCount
  | .pending => t.pending = s.pending

/-- Every bank but those listed stands in `t` as it stands in `s`. -/
def SameExcept (bs : List Bank) (s t : State) : Prop := ∀ b, b ∉ bs → b.same s t

/-- The banks that the end of every step may touch, whatever the command: closing faults (R487), level sources and non-empty signals
(R400, R460, R470), SEQ of STATUS (Table 13-3), CONTROL and the token watch (R450, R456), host records over ISOBUS (R407). -/
def endBanks : List Bank := [.statusSeq, .events, .faults, .can, .zither]

/-! ## Completion -/

/-- A command completes: it answers a next state, of which `P` holds. -/
def Completes (i : Instr) (s : State) (P : State → Prop) : Prop := ∃ t, exec i s = .next t ∧ P t

/-- A request arrives whole in an empty request ring, nothing bars its taking (R22, R353, R373, R384, R390, R450), and it passes
check 1 of R387. -/
def arrives (h : Hdr) (s : State) : Bool :=
  decide (h.course < 4) && !courseless s && !(s.course h.course).taking && s.isobusLink.isNone
    && (s.course h.course).stallAt.isNone && (s.course h.course).held.isEmpty && canTake s h.course
    && !restarting s 8 && decide (h.len ≤ 1024) && h.crcOk

/-- A request is accepted when it arrives: it carries the EPOCH and the next expected number (checks 2 to 5 of R387). -/
def accepts (h : Hdr) (s : State) : Bool :=
  arrives h s && decide (h.epoch = s.host.epoch) && decide (h.seq < 65536) && decide (h.seq = (s.course h.course).expected)

/-- Steps 1, 3, 5 and 9 of Table 14-1 and R409, R450 for a request with opcode `op` that the courses in the mask `courses` may carry:
none of them refuses it. -/
def admits (op courses : Nat) (h : Hdr) (s : State) : Bool :=
  (!s.start.maint || (h.course == 3 && (groupOf op == 1 || groupOf op == 11))) && bitAt courses h.course
    && (!needsConfig (groupOf op) || s.start.configActive) && h.resv == 0 && !followerRefuses s (groupOf op)
    && !groupBusy s (groupOf op)

/-- A request of opcode `op`, with a length that `len` permits, is accepted and admitted at its time. -/
def asked (op courses : Nat) (len : Nat → Bool) (h : Hdr) (s : State) : Bool :=
  accepts h (s.advance h.t) && admits op courses h (s.advance h.t) && len h.len

/-- The state in which the device carries out a request that it accepts: the request's bytes have come and are taken (R383), its
number is recorded (R387), and the host's acknowledgement stands (R392). -/
def takenState (h : Hdr) (s : State) : State :=
  s.modCourse h.course fun c =>
    { c with
      reqWr := (c.reqWr + reqSize h) % 4096, reqEnd := (c.reqWr + reqSize h) % 4096, reqRd := (c.reqRd + msgSize h.len) % 4096
      hostAcked := h.ack, expected := (h.seq + 1) % 65536, lastAccepted := h.seq }

/-- The reply `r` to the request stands in its course's reply ring (R386, Table 13-8). -/
def Replied (h : Hdr) (op : Nat) (r : Reply) (t : State) : Prop :=
  ∃ m ∈ (t.course h.course).ring, m.opcode = op ∧ m.tag = h.tag ∧ m.payload = r.payload false

/-- The request was carried out and answered OK with the payload `data` after the result word. -/
def RepliedOk (h : Hdr) (op : Nat) (data : List Byte) (t : State) : Prop := Replied h op { data := data } t

/-- Nothing but the banks listed and those that the end of every step may touch has changed. -/
def Only (bs : List Bank) (s t : State) : Prop := SameExcept (bs ++ endBanks) s t

/-- A request: whenever it is asked in a state with `pre`, it completes, answers OK with the payload `data` of that state, and `post`
holds between that state and the next. -/
def Answers (c : Hdr → Instr) (op courses : Nat) (len : Nat → Bool) (pre : State → Prop) (data : State → List Byte)
    (post : State → State → Prop) : Prop :=
  ∀ h s, asked op courses len h s = true → pre (s.advance h.t) →
    Completes (c h) s fun t => RepliedOk h op (data (s.advance h.t)) t ∧ post (s.advance h.t) t

/-- A long request (R412): whenever it is asked in a state with `pre`, it completes, the course carries it on, and `post` holds. -/
def Begins (c : Hdr → Instr) (op courses : Nat) (len : Nat → Bool) (pre : State → Prop) (post : State → State → Prop) : Prop :=
  ∀ h s, asked op courses len h s = true → pre (s.advance h.t) →
    Completes (c h) s fun t => (t.course h.course).long = some (h, op) ∧ post (s.advance h.t) t

/-- An event or an access at DEVTIME `τ`: whenever `pre` holds of the state as it stands then, the command completes, and `post` holds
between that state and the next. -/
def Does (c : Nat → Instr) (pre : State → Prop) (post : State → State → Prop) : Prop :=
  ∀ τ s, pre (s.advance τ) → Completes (c τ) s fun t => post (s.advance τ) t

/-- A frame of the lead that a welcomed follower takes (R448, R459). -/
def leadFrame (z : ZHdr) (s : State) : Bool :=
  fresh s z && s.follower && z.src == 0 && s.zither.welcomed && s.zither.joined == some z.epoch

/-- A frame of a declared follower that the lead takes (R448, R459). -/
def followerFrame (z : ZHdr) (s : State) : Bool :=
  fresh s z && s.lead && declared s z.src && s.zither.joined == some z.epoch

/-- A core is in service and no earlier work waits for it (R22). -/
def serves (k : Nat) (s : State) : Bool :=
  !s.start.coreTaking && !coreOut s k && !s.start.coreQueue.any fun x => x.1 == k

/-- A received Zither frame: whenever Bus serves and `pre` holds of its header and the state as it stands at its time, the command
completes, and `post` holds of the header, that state and the next. -/
def Hears (c : ZHdr → Instr) (pre : ZHdr → State → Prop) (post : ZHdr → State → State → Prop) : Prop :=
  ∀ z s, z.src < 4 → serves 4 (s.advance z.t) = true → pre z (s.advance z.t) → Completes (c z) s fun t => post z (s.advance z.t) t

/-- Some message of opcode `op` with this payload stands in the reply ring of course `n`. -/
def Told (n op : Nat) (payload : List Byte) (t : State) : Prop :=
  ∃ m ∈ (t.course n).ring, m.opcode = op ∧ m.payload = payload

/-- The reply to the long request of opcode `op` that a course carried on in `s` stands in that course's ring. -/
def LongDone (op : Nat) (r : Reply) (s t : State) : Prop :=
  ∀ n h, n < 4 → (s.course n).long = some (h, op) → h.course = n → Replied h op r t ∧ (t.course n).long = none

/-- The event source's record or its loss is counted: an assertion has taken place (R462, R474). -/
def Asserted (n : Nat) (s t : State) : Prop :=
  (s.src n).delivered + (s.src n).lost < (t.src n).delivered + (t.src n).lost

/-- The fault's entry stands in the error intake (R482), where the controller is not stopped and the intake has room. -/
def Raised (n inst code sev : Nat) (s t : State) : Prop :=
  s.events.stopped = false → s.faults.intake.length < 64 →
    ∃ e ∈ t.faults.intake, e.source = n ∧ e.cls = classOf n code ∧ e.inst = inst ∧ e.severity = sev ∧ e.time = s.devtime

/-! ## The invariant -/

/-- What holds between steps while the event controller acts: signals and level sources follow what they report (R400, R460, R470). -/
def EventsFollow (s : State) : Prop :=
  (∀ p ∈ s.events.targets, p.2.ne = signalOf p.2 s.devtime)
  ∧ (∀ n, n < 4 → (s.src (16 + n)).active = (s.isobusLink.isNone && decide ((s.course n).used ≠ 0)))
  ∧ (∀ n, n < 4 → (s.src (228 + n)).active = (s.canOf n).buffers.any fun b => b.2.enable && !b.2.tx && b.2.full)

/-- The invariant of every step: events follow what they report, and no fault stands open whose element no longer shows it (R487). -/
def Invariant (s : State) : Prop :=
  (s.events.stopped = false → EventsFollow s) ∧ ∀ f ∈ s.faults.opened, ∀ k, faultShows s f.cls f.inst ≠ some (k, false)

end Sys2Proof.Machine
end

