-- ==== Sys2Proof/Certificates/Slice0/Obligations.lean ====
section
/-! DEFINITION. The statements for the provers, family by family of the command table. In each, `Does`, `Answers`, `Replies` and `Completes` conclude that the command
answers a next state; `Only` and `SameExcept` name the parts of the state that it may change, and say that nothing else changes. -/

open Sys2Proof Sys2Proof.Machine

/-! ## Requests that read -/

/-- SYS_INFO, CFG_INFO, CFG_READ and MNT_INFO answer with what the part, its configuration and its storage hold, and change
nothing but the course they come on (Tables 14-3, 14-5, 14-15). -/
def Obligations.IdentityReads : Prop :=
  Answers (fun h => .sysInfo h) 257 15 (· == 0) (fun s => s.start.configActive = true ∧ s.cfg.package.member = true)
    (fun s => le 2 0xA31E ++ le 2 0x9640
      ++ le 4 (pack [(s.storage.siRev, 0), (4, 8), (if s.start.maint then 0 else s.storage.fwBuild, 16)] : Nat)
      ++ le 4 (s.cfg.container.imageId : Nat) ++ le 4 (s.cfg.container.version : Nat) ++ le 1 (s.storage.activeCfg : Nat)
      ++ le 1 (s.cfg.package.pkgIndex : Nat) ++ le 1 (s.storage.variant : Nat) ++ le 1 0)
    (fun s t => Only [.courses] s t)
  ∧ Answers (fun h => .sysInfo h) 257 15 (· == 0) (fun s => s.start.configActive = false)
    (fun s => le 2 0xA31E ++ le 2 0x9640
      ++ le 4 (pack [(s.storage.siRev, 0), (4, 8), (if s.start.maint then 0 else s.storage.fwBuild, 16)] : Nat)
      ++ le 4 0 ++ le 4 0 ++ le 1 255 ++ le 1 255 ++ le 1 (s.storage.variant : Nat) ++ le 1 0)
    (fun s t => Only [.courses] s t)
  ∧ Answers (fun h => .cfgInfo h) 518 15 (· == 0) (fun _ => True) (fun s => cfgEntry s 0 ++ cfgEntry s 1)
    (fun s t => Only [.courses] s t)
  ∧ (∀ slot offset count, Answers (fun h => .cfgRead h slot offset count) 517 12 (· == 12)
    (fun s => slot ≤ 1 ∧ 4 ≤ count ∧ count ≤ 1020 ∧ offset + count ≤ (readSlot s slot).size)
    (fun s => padTo count ((readSlot s slot).bytes.drop offset)) (fun s t => Only [.courses] s t))
  ∧ Answers (fun h => .mntInfo h) 2817 8 (· == 0) (fun s => s.start.maint = false ∨ s.start.emmc = true)
    (fun s => fwEntry s 0 ++ fwEntry s 1 ++ cfgEntry s 0 ++ cfgEntry s 1 ++ le 4 (s.storage.capacityMib : Nat)
      ++ le 4 (s.storage.floor : Nat) ++ le 4 (pack [(bit s.storage.keyHash.isSome, 0), (bit s.storage.tableOk, 1)] : Nat))
    (fun s t => Only [.courses] s t)

/-- The reads of units, loops, switch channels and field I/O answer with their status words and counters, and change nothing but
the course they come on (Tables 14-9, 14-10, 14-12). -/
def Obligations.ElementReads : Prop :=
  (∀ first count sense, Answers (fun h => .unitStatusRead h first count sense) 1301 15 (· == 4)
    (fun s => s.cfg.package.member = false ∧ 1 ≤ count ∧ count ≤ 12 ∧ first + count ≤ 128)
    (fun s => (upFrom first count).flatMap fun u => unitEntry s sense u) (fun s t => Only [.courses] s t))
  ∧ (∀ unit, Answers (fun h => .unitLatencyRead h unit) 1302 5 (· == 4)
    (fun s => s.cfg.package.member = false ∧ unit < 128) (fun s => latencyTable s unit) (fun s t => Only [.courses] s t))
  ∧ (∀ first count, Answers (fun h => .loopStatusRead h first count) 1541 15 (· == 4)
    (fun _ => 1 ≤ count ∧ count ≤ 31 ∧ first + count ≤ 128)
    (fun s => (upFrom first count).flatMap (loopEntry s)) (fun s t => Only [.courses] s t))
  ∧ (∀ first count sense, Answers (fun h => .swStatusRead h first count sense) 1796 15 (· == 4)
    (fun _ => 1 ≤ count ∧ first + count ≤ 24)
    (fun s => (upFrom first count).flatMap fun n =>
      le 4 (swWord s sense n : Nat) ++ (s.sw n).counters.flatMap fun c => le 4 (c : Nat)) (fun s t => Only [.courses] s t))
  ∧ Answers (fun h => .swVentRead h) 1797 15 (· == 0) (fun _ => True)
    (fun s => (List.range 6).flatMap fun c => le 4 (ventCapacity c / 1000 : Nat) ++ le 4 ((s.vent c).used / 1000 : Nat)
      ++ le 4 ((s.vent c).reserved / 1000 : Nat) ++ le 4 (ventFree s c / 1000)) (fun s t => Only [.courses] s t)
  ∧ Answers (fun h => .swLimpFuseRead h) 1799 15 (· == 0) (fun _ => True)
    (fun s => padTo 8 (s.storage.fuses.map (BitVec.ofNat 8)) ++ le 1 (s.storage.fuseGlobal : Nat) ++ le 3 0)
    (fun s t => Only [.courses] s t)
  ∧ (∀ sense, Answers (fun h => .ioOutputRead h sense) 1810 15 (· == 0) (fun _ => True)
    (fun s => words4 16 (foWord s sense)) (fun s t => Only [.courses] s t))
  ∧ (∀ sense, Answers (fun h => .ioInputRead h sense) 1811 15 (· == 0) (fun _ => True)
    (fun s => words4 32 (fiWord s sense)) (fun s t => Only [.courses] s t))
  ∧ Answers (fun h => .ioAnalogRead h) 1812 15 (· == 0) (fun _ => True)
    (fun s => (List.range 8).flatMap fun a => le 4 (s.ai a).value ++ le 2 ((s.ai a).raw : Nat)
      ++ le 2 (pack [(bit (s.ai a).valid, 0), (bit (s.ai a).wireBreak, 1), (bit (s.ai a).overRange, 2), (bit (s.ai a).burdenOpen, 3)] : Nat))
    (fun s t => Only [.courses] s t)

/-- The reads of navigation, coverage, buses, the system, the event controller and the open faults answer with what these hold, and
change nothing but the course they come on (Tables 14-6, 14-8, 14-14, R486). -/
def Obligations.SystemReads : Prop :=
  Answers (fun h => .navStatusRead h) 772 15 (· == 0) (fun _ => True)
    (fun s => le 1 (s.nav.fix : Nat) ++ le 1 (s.nav.nsv : Nat) ++ le 1 (bit s.cfg.nav.osnmaRequire : Nat) ++ le 1 0
      ++ ((List.range 4).flatMap fun k => le 1 (tget s.nav.jam 0 k : Nat))
      ++ ((List.range 4).flatMap fun k => le 1 (nth s.nav.trackedBand 0 k : Nat))
      ++ le 4 (s.nav.rtcmCrc : Nat) ++ le 4 (s.nav.rtcmIgnored : Nat) ++ le 4 (s.nav.rtcmWrongSource : Nat))
    (fun s t => Only [.courses] s t)
  ∧ (∀ scope product unit, Answers (fun h => .covCountersRead h scope product unit) 1035 15 (· == 4)
    (fun s => product ≤ 1 ∧ (scope ≤ 1 ∨ scope = 2 ∧ unit ∈ s.sectionUnits))
    (fun s => ((List.range 7).flatMap fun k => le 8 (nth (countersOf s scope product unit) 0 k : Nat)) 
      ++ le 4 (((s.cov.opened.bind s.fieldEntry).map (·.pageMiss)).getD 0 : Nat))
    (fun s t => Only [.courses] s t))
  ∧ (∀ ctrl, Answers (fun h => .busStatusRead h ctrl) 2050 15 (· == 4) (fun _ => ctrl ≤ 3)
    (fun s => le 1 ((s.canOf ctrl).st : Nat) ++ le 1 ((s.canOf ctrl).addr.getD 254 : Nat) ++ le 2 0 ++ le 2 ((s.canOf ctrl).tec : Nat)
      ++ le 2 ((s.canOf ctrl).recCnt : Nat) ++ le 4 ((s.canOf ctrl).txFrames : Nat) ++ le 4 ((s.canOf ctrl).rxFrames : Nat)
      ++ le 4 ((s.canOf ctrl).errors : Nat) ++ le 4 ((s.canOf ctrl).discarded : Nat)) (fun s t => Only [.courses] s t))
  ∧ Answers (fun h => .busSystemRead h) 2051 15 (· == 0) (fun s => s.cfg.package.member = false)
    (fun _ => le 1 0 ++ le 1 255 ++ List.replicate 18 0) (fun s t => Only [.courses] s t)
  ∧ (∀ first count, Answers (fun h => .evtCountersRead h first count) 2308 15 (· == 4)
    (fun _ => 1 ≤ count ∧ count ≤ 60 ∧ first + count ≤ 256)
    (fun s => ((upFrom first count).flatMap fun n => le 4 ((s.src n).delivered : Nat) ++ le 4 ((s.src n).lost : Nat)
        ++ le 4 ((s.src n).vanished : Nat) ++ le 2 ((s.src n).delivered : Nat) ++ le 2 0)
      ++ words4 10 fun k => (s.tgt k).dropped) (fun s t => Only [.courses] s t))
  ∧ (∀ first h s, asked 2564 15 (· == 4) h s = true → Completes (.recFaultsRead h first) s fun t =>
    Replied h 2564 { detail := (s.advance h.t).faults.opened.length,
                     data := ((openSorted (s.advance h.t)).drop first |>.take 63).flatMap OpenFault.bytes } t
    ∧ Only [.courses] (s.advance h.t) t)

/-! ## SYS and CFG -/

/-- SYS_RESYNC on course 0 with SEQ 0 is carried out whatever EPOCH and numbers the courses hold: the four courses take the new
EPOCH and start their numbers anew, running streams end, and nothing outside the host interface changes (R401, R421, R503).
SYS_REPLAY of one kept message writes it again unchanged (R392). -/
def Obligations.ResyncAndReplay : Prop :=
  (∀ h sense s, h.course = 0 → h.seq = 0 → h.len = 0 → arrives h (s.advance h.t) = true → admits 258 1 h (s.advance h.t) = true →
    Completes (.sysResync h sense) s fun t =>
      t.host.epoch = h.epoch ∧ (t.course 0).expected = 1 ∧ (t.course 0).lastAccepted = 0
      ∧ (∀ n, 1 ≤ n → n ≤ 3 → (t.course n).expected = 0 ∧ (t.course n).lastAccepted = 65535 ∧ (t.course n).cache = [])
      ∧ t.recorder.stream = none ∧ t.cov.exporting = none
      ∧ (∃ m ∈ (t.course 0).ring, m.opcode = 258 ∧ m.tag = h.tag ∧ m.epoch = h.epoch ∧ m.seq = 0)
      ∧ Only [.courses, .session, .recorder, .cov] (s.advance h.t) t)
  ∧ (∀ course first m h s, asked 259 15 (· == 8) h s = true → course < 4 → first < 65536 →
      ((s.advance h.t).course course).kept.find? (fun m => m.seq == first) = some m →
      hasRoom (s.advance h.t) course m.payload.length (if course = h.course then 24 else 0) = true →
    Completes (.sysReplay h course first first) s fun t =>
      m ∈ (t.course course).ring ∧ Replied h 259 { detail := 1, data := le 2 65535 ++ le 2 0 } t
      ∧ Only [.courses] (s.advance h.t) t)

/-- SYS_OUTPUTS enables and disables outputs, SYS_POWER moves between RUN and DOZE, SYS_RESET resets D0 with cause HOST_RESET, and
SYS_TIME_SET sets the RTC while time was never locked (R393, R394, R414 to R416, Table 11-5, Table 12-4). -/
def Obligations.OutputsPowerTime : Prop :=
  (∀ clamps, Answers (fun h => .sysOutputs h 1 clamps) 260 1 (· == 4)
    (fun s => s.start.ready = true ∧ s.start.configActive = true ∧ s.start.maint = false) (fun _ => [])
    (fun s t => t.host.outputsEnabled = true ∧ t.host.safeLeft = false ∧ t.ventHeld = [] ∧ t.ledger.heldSafe = []
      ∧ t.units = s.units ∧ t.switches = s.switches))
  ∧ (∀ clamps, Answers (fun h => .sysOutputs h 0 clamps) 260 1 (· == 4) (fun _ => True) (fun _ => [])
    (fun _ t => t.host.outputsEnabled = false ∧ t.host.safeLeft = false))
  ∧ (∀ clamps, Answers (fun h => .sysPower h 1 0 clamps) 261 1 (· == 8)
    (fun s => s.power.state = .run ∧ s.cov.opened = none) (fun _ => [])
    (fun _ t => t.power.state = .doze ∧ t.power.alarm = none ∧ t.power.keyOffEnd = none ∧ t.power.keyOffDue = false))
  ∧ (∀ clamps, Answers (fun h => .sysPower h 0 0 clamps) 261 1 (· == 8)
    (fun s => s.power.state = .doze ∧ s.power.pll ≠ 1) (fun _ => [])
    (fun _ t => t.power.state = .run ∧ t.power.keyOffEnd = none ∧ t.power.keyOffDue = false))
  ∧ (∀ h s, asked 262 9 (· == 4) h s = true → Completes (.sysReset h 0x9640A5A5) s fun t =>
      t.start.ready = false ∧ t.start.configActive = false ∧ t.start.cause = 5 ∧ t.power.supplies = false
      ∧ t.host.outputsEnabled = false ∧ t.host.epoch = 0 ∧ t.loops = [] ∧ t.switches = (s.advance h.t).switches)
  ∧ (∀ utcS utcMs bound, Answers (fun h => .sysTimeSet h utcS utcMs bound) 263 1 (· == 12)
    (fun s => utcMs ≤ 999 ∧ 1 ≤ bound ∧ bound ≤ 60000 ∧ s.nav.everLocked = false) (fun _ => [])
    (fun s t => t.power.rtcMs = utcS * 1000 + utcMs ∧ t.power.rtcAt = s.devtime ∧ t.power.rtcSet = true
      ∧ t.power.rtcErrUs = 1000 * bound ∧ t.units = s.units ∧ t.switches = s.switches ∧ t.ledger = s.ledger))

/-- CFG_BEGIN, CFG_WRITE and CFG_VERIFY stage an image in order in the slot that is not active; CFG_COMMIT of an image that passes every
check, while everything stands still, begins an activation with CONFIG_ACTIVE clear; its end makes the image the active configuration,
with outputs disabled, and sends the reply (R371, R373, R393, R418, R419). -/
def Obligations.ConfigurationLife : Prop :=
  (∀ size, Answers (fun h => .cfgBegin h size) 513 8 (· == 4)
    (fun s => 192 ≤ size ∧ size ≤ 8388608 ∧ s.start.activating = none ∧ partitionStopped s (cfgPartition (otherSlot s)) = false)
    (fun _ => [])
    (fun s t => t.storage.staging = some (size, []) ∧ cfgSlot t (otherSlot s) = { st := 1 } ∧ Only [.courses, .storage] s t))
  ∧ (∀ size done data, Answers (fun h => .cfgWrite h done.length data) 514 8 (between' 5 1024)
    (fun s => s.storage.staging = some (size, done) ∧ done.length + data.length ≤ size ∧ data.length % 4 = 0
      ∧ partitionStopped s (cfgPartition (otherSlot s)) = false) (fun _ => [])
    (fun s t => t.storage.staging = some (size, done ++ data) ∧ Only [.courses, .storage] s t))
  ∧ (∀ img size bytes, Begins (fun h => .cfgVerify h img) 515 8 (· == 0)
    (fun s => s.storage.staging = some (size, bytes) ∧ bytes.length = size)
    (fun s t => t.storage.verifying = some (imageOf bytes img) ∧ Only [.courses, .storage] s t))
  ∧ (∀ img, Begins (fun h => .cfgCommit h 0 img) 516 9 (· == 4)
    (fun s => staged s = true ∧ commitAllowed s = true ∧ checkImage s (stagedImage img s) = none)
    (fun s t => t.start.activating = some (stagedImage img s, otherSlot s) ∧ t.start.configActive = false ∧ Only [.courses, .start] s t))
  ∧ (∀ img k, Does (fun τ => .configurationActivationDone τ) (fun s => s.start.activating = some (img, k))
    (fun s t => t.cfg = img ∧ t.storage.activeCfg = k ∧ t.start.configActive = true ∧ t.start.activating = none
      ∧ t.host.outputsEnabled = false ∧ LongDone 516 {} s t))

/-! ## NAV -/

/-- NAV_SUBSCRIBE, NAV_NAVBITS_SELECT and NAV_RETENTION_CLEAR set what they name and nothing else; NAV_RTCM's bytes join the mailbox
stream where the mailbox is the configured source (R73, R77, R88, R103, R332). -/
def Obligations.NavRequests : Prop :=
  (∀ rate rtk, Answers (fun h => .navSubscribe h rate rtk) 769 2 (· == 4)
    (fun s => rate ∈ [0, 1, 5, 10, 20, 50, 100] ∧ rtk ≤ 1 ∧ s.power.state ≠ .doze) (fun _ => [])
    (fun s t => t.nav = { s.nav with posRate := rate, rtk := rtk == 1 } ∧ Only [.courses, .nav] s t))
  ∧ (∀ consts ants, Answers (fun h => .navNavbitsSelect h consts ants) 770 2 (· == 4)
    (fun s => consts ≤ 31 ∧ ants ≤ 3 ∧ s.power.state ≠ .doze) (fun _ => [])
    (fun s t => t.nav = { s.nav with bitsConst := consts, bitsAnt := ants } ∧ Only [.courses, .nav] s t))
  ∧ (∀ data, Answers (fun h => .navRtcm h data) 771 3 (between' 1 1024) (fun s => s.cfg.nav.rtcmUart0 = false) (fun _ => [])
    (fun s t => t.nav = { s.nav with rtcmStream := s.nav.rtcmStream ++ data } ∧ Only [.courses, .nav] s t))
  ∧ Answers (fun h => .navRetentionClear h 0x9640A5A5) 773 1 (· == 4) (fun _ => True) (fun _ => [])
    (fun s t => t.nav = { s.nav with retention := none } ∧ Only [.courses, .nav] s t)

/-! ## COV -/

/-- A field is opened by a request and the end of its scan, closed by a request and the end of its close, reset to a new COVER_EPOCH,
and deleted with its tiles (R141 to R143, R175 to R177). -/
def Obligations.FieldLife : Prop :=
  (∀ fid lat lon height cell flags, Begins (fun h => .covFieldOpen h fid lat lon height cell flags) 1025 1 (· == 28)
    (fun s => fid ≠ 0 ∧ (cell = 50 ∨ cell = 100 ∧ narrowSection s = false) ∧ flags ≤ 1 ∧ s.cov.opened = none ∧ s.cov.scanning = none
      ∧ s.power.state ≠ .doze ∧ fieldRefusal fid lat lon height cell s = none)
    (fun s t => t.cov.scanning = some fid ∧ t.cov.scanResume = (flags == 1) ∧ (t.fieldEntry fid).isSome ∧ Only [.courses, .cov] s t))
  ∧ (∀ fid, Does (fun τ => .fieldOpenScanDone τ) (fun s => s.cov.scanning = some fid)
    (fun s t => t.cov.opened = some fid ∧ t.cov.scanning = none ∧ LongDone 1025 {} s t ∧ t.units = s.units))
  ∧ Begins (fun h => .covFieldClose h) 1026 1 (· == 0) (fun s => s.cov.opened.isSome ∧ s.cov.closingAt = none)
    (fun s t => t.cov.closingAt = some s.devtime ∧ t.cov.opened = s.cov.opened)
  ∧ Does (fun τ => .fieldCloseDone τ) (fun s => closeDue s = true ∧ (s.cov.opened.bind s.fieldEntry).isSome)
    (fun s t => t.cov.opened = none ∧ t.cov.closingAt = none ∧ t.recorder.commitNo = s.recorder.commitNo + 1 ∧ LongDone 1026 {} s t)
  ∧ (∀ fid e, Answers (fun h => .covFieldReset h fid) 1027 1 (· == 4)
    (fun s => s.cov.opened = some fid ∧ s.fieldEntry fid = some e ∧ ∀ u ∈ s.sectionUnits, (s.unit u).sect.commanded = false)
    (fun _ => [])
    (fun s t => t.fieldEntry fid = some { e with coverEpoch := (e.coverEpoch + 1) % 4294967296, lifetime := [] }
      ∧ Only [.courses, .cov] s t))
  ∧ (∀ fid, Answers (fun h => .covFieldDelete h fid) 1028 1 (· == 4)
    (fun s => (s.fieldEntry fid).isSome ∧ s.cov.opened ≠ some fid ∧ s.cov.scanning ≠ some fid ∧ mapClosed s = false) (fun _ => [])
    (fun s t => t.fieldEntry fid = none ∧ (∀ x ∈ t.cov.tiles, x.fieldId ≠ fid) ∧ Only [.courses, .cov] s t))

/-- Polygon sets are staged in order and committed under their CRC into the field's next set, and a cached tile takes the current set
(R159, R420); COV_MASTER sets the masters that its mask names, COV_SECTION_MODE the modes of the section units that it names, and no
other unit changes (R166, Table 05-9). -/
def Obligations.PolygonsMastersModes : Prop :=
  (∀ data, Answers (fun h => .covPolyLoad h 0 data) 1029 5 (between' 8 1024) (fun s => data.length ≤ 66568 ∧ s.cov.opened.isSome)
    (fun _ => []) (fun s t => t.cov.polyStage = some data ∧ Only [.courses, .cov] s t))
  ∧ (∀ done data, Answers (fun h => .covPolyLoad h done.length data) 1029 5 (between' 8 1024)
    (fun s => s.cov.polyStage = some done ∧ done ≠ [] ∧ done.length % 4 = 0 ∧ done.length + data.length ≤ 66568 ∧ s.cov.opened.isSome)
    (fun _ => []) (fun s t => t.cov.polyStage = some (done ++ data) ∧ Only [.courses, .cov] s t))
  ∧ (∀ d fid e rings, Answers (fun h => .covPolyCommit h d.length (crc32c d).toNat) 1030 1 (· == 8)
    (fun s => s.cov.opened = some fid ∧ s.cov.polyStage = some d ∧ readPolys d = some rings ∧ mapClosed s = false
      ∧ s.fieldEntry fid = some e) (fun _ => [])
    (fun s t => t.cov.polyStage = none ∧ (∃ e', t.fieldEntry fid = some e' ∧ e'.polyGen = e.polyGen + 1
      ∧ (e.polyGen + 1, rings) ∈ e'.polys) ∧ Only [.courses, .cov] s t))
  ∧ (∀ fe tc tr x, Does (fun τ => .rerasterisationDone τ tc tr)
    (fun s => s.cov.opened.bind s.fieldEntry = some fe ∧ tileAt s fe.fieldId tc tr = some x ∧ x.cached = true ∧ x.polyGen ≠ fe.polyGen ∧ s.cov.miss = [])
    (fun s t => tileAt t fe.fieldId tc tr = some { x with polyGen := fe.polyGen, changed := true } ∧ Only [.cov] s t))
  ∧ (∀ mask st, Answers (fun h => .covMaster h mask st) 1031 1 (· == 4) (fun _ => mask ≤ 3 ∧ st ≤ 1) (fun _ => [])
    (fun s t => t.host.masterAuto = false ∧ (∀ p, p ≤ 1 → bitAt mask p = true → tget t.host.master false p = (st == 1))
      ∧ (s.host.masterAuto = false → ∀ p, p ≤ 1 → bitAt mask p = false → tget t.host.master false p = tget s.host.master false p)
      ∧ Only [.courses, .session] s t))
  ∧ (∀ unit mode, Answers (fun h => .covSectionMode h unit mode) 1032 1 (· == 4)
    (fun s => mode ≤ 3 ∧ (unit = 65535 ∨ unit ∈ s.sectionUnits)) (fun _ => [])
    (fun s t => (∀ u ∈ s.sectionUnits, unit = 65535 ∨ u = unit → (t.unit u).sect.hostMode = mode)
      ∧ (∀ u, ¬(u ∈ s.sectionUnits ∧ (unit = 65535 ∨ u = unit)) → t.unit u = s.unit u) ∧ Only [.courses, .units] s t))

/-! ## Streams -/

/-- COV_EXPORT, REC_READ and LOOP_STREAM begin their streams; one chunk of an export, one of a record stream, and one N_LOOP go into their
rings when there is room, and the last chunk ends the stream (R178, R277, R421, R503); COV_RECONCILE answers the map's and the
counters' covered areas of both products (R175). -/
def Obligations.Streams : Prop :=
  (∀ fid flags a b c d, Answers (fun h => .covExport h fid flags a b c d) 1033 4 (· == 16)
    (fun s => (s.fieldEntry fid).isSome ∧ flags ≤ 1 ∧ s.cov.exporting = none ∧ s.cov.unreadable = false) (fun _ => [])
    (fun s t => t.cov.exporting = some (fid, exportTiles fid flags a b c d s, 0, 0) ∧ Only [.courses, .cov] s t))
  ∧ (∀ fid tc tr rest k sent fe x, Does (fun τ => .nExportChunk τ)
    (fun s => s.cov.exporting = some (fid, (tc, tr) :: rest, k, sent) ∧ hasRoom s 2 528 (keptFree s 2) = true
      ∧ s.fieldEntry fid = some fe ∧ tileAt s fid tc tr = some x)
    (fun s t => t.cov.exporting = some (if k = 127 then (fid, rest, 0, sent + 1) else (fid, (tc, tr) :: rest, k + 1, sent))
      ∧ (∃ m ∈ (t.course 2).ring, m.opcode = 33794 ∧ m.payload.length = 528) ∧ Only [.courses, .cov] s t))
  ∧ (∀ fid k sent, Does (fun τ => .nExportChunk τ)
    (fun s => s.cov.exporting = some (fid, [], k, sent) ∧ hasRoom s 2 (exportEnd fid sent s).length (keptFree s 2) = true)
    (fun s t => t.cov.exporting = none ∧ Told 2 33795 (exportEnd fid sent s) t ∧ Only [.courses, .cov] s t))
  ∧ (∀ fe, Answers (fun h => .covReconcile h) 1034 1 (· == 0) (fun s => s.cov.opened.bind s.fieldEntry = some fe)
    (fun s => le 8 ((coveredArea s fe 0).1 : Nat) ++ le 8 ((coveredArea s fe 0).2 : Nat) ++ le 8 ((coveredArea s fe 1).1 : Nat)
      ++ le 8 ((coveredArea s fe 1).2 : Nat)) (fun s t => Only [.courses, .dies] s t))
  ∧ (∀ kind first count, Answers (fun h => .recRead h kind first count) 2561 4 (· == 12)
    (fun s => kind ≤ 3 ∧ (kind = 2 → first = 0) ∧ s.recorder.stream = none) (fun _ => [])
    (fun s t => (∃ cs n, t.recorder.stream = some (kind, cs, n)) ∧ Only [.courses, .recorder] s t))
  ∧ (∀ kind number k rest sent, Does (fun τ => .nRecChunk τ)
    (fun s => s.recorder.stream = some (kind, (number, k) :: rest, sent) ∧ hasRoom s 2 524 (keptFree s 2) = true)
    (fun s t => t.recorder.stream = some (kind, rest, sent) ∧ (∃ m ∈ (t.course 2).ring, m.opcode = 35329)
      ∧ Only [.courses, .recorder] s t))
  ∧ (∀ kind sent, Does (fun τ => .nRecChunk τ) (fun s => s.recorder.stream = some (kind, [], sent) ∧ hasRoom s 2 12 (keptFree s 2) = true)
    (fun s t => t.recorder.stream = none ∧ Told 2 35329 (recChunk kind 1 0 sent []) t ∧ Only [.courses, .recorder] s t))
  ∧ (∀ rate count loops, Answers (fun h => .loopStream h rate count loops) 1542 2 (· == 12)
    (fun s => rate ≤ 100 ∧ count ≤ 8 ∧ (∀ l ∈ loops.take count, noLoop s l = false) ∧ ∀ l ∈ loops.drop count, l = 255) (fun _ => [])
    (fun s t => t.loopStream = (rate, loops.take count) ∧ t.loopSentAt = none ∧ Only [.courses, .loopStream] s t))
  ∧ Does (fun τ => .nLoop τ)
    (fun s => loopStreamDue s = true ∧ s.follower = false ∧ (s.course 1).pendingNotif = [] ∧ hasRoom s 1 328 (keptFree s 1) = true
      ∧ s.loopStream.2.length ≤ 8)
    (fun s t => t.loopSentAt = some s.devtime ∧ (∃ m ∈ (t.course 1).ring, m.opcode = 34305) ∧ Only [.courses, .loopStream] s t)

/-! ## FRET and UNIT -/

/-- FRET_ARM puts a fret that passes its checks among its unit's frets, FRET_CANCEL takes every host fret with its tag that is not due
away and answers their number, and UNIT_CMD drives a unit in ON/OFF mode through its profile and back; no other unit changes under
the first two (R181, R182, R222, R242, R422 to R424). -/
def Obligations.FretAndUnitCommands : Prop :=
  (∀ w, Answers (fun h => .fretArm h [w]) 1281 3 (fun n => n % 16 == 0 && decide (16 ≤ n) && decide (n ≤ 1024))
    (fun s => s.cfg.package.member = false ∧ judgeFret s w 0 = none) (fun _ => [])
    (fun s t => (t.unit w.unit).frets = (s.unit w.unit).frets ++ [{ fretOf s w.unit w with id := (s.unit w.unit).nextFret }]
      ∧ (∀ v, v ≠ w.unit → t.unit v = s.unit v) ∧ Only [.courses, .units] s t))
  ∧ (∀ u tag h s, asked 1282 3 (· == 4) h s = true → (s.advance h.t).cfg.package.member = false → u < 128 → tag < 32768 →
      linkDown (s.advance h.t) (.unit u) = false → (∀ f ∈ ((s.advance h.t).unit u).frets, firesNow (s.advance h.t) u f = false) →
      (((s.advance h.t).unit u).frets.map (·.id)).Nodup →
    Completes (.fretCancel h u tag) s fun t =>
      (∀ f ∈ (t.unit u).frets, f.live = true → f.tag < 32768 → tag ≠ 0 ∧ f.tag ≠ tag)
      ∧ Replied h 1282 { detail := (((s.advance h.t).unit u).frets.filter fun f =>
          f.live && decide (f.tag < 32768) && (tag == 0 || f.tag == tag)).length } t
      ∧ ∀ v, v ≠ u → t.unit v = (s.advance h.t).unit v)
  ∧ (∀ u, Answers (fun h => .unitCmd h u 1) 1297 1 (· == 4)
    (fun s => s.cfg.package.member = false ∧ u < 128 ∧ s.secOf u = none ∧ pairMember s u = false ∧ unusedUnit s u = false
      ∧ faulted s u = false ∧ drivable s (.unit u) = true ∧ boundLoop s (.unit u) = none ∧ (s.unit u).drive.mode = .onoff
      ∧ staysOff s u = false
      ∧ (s.unit u).drive.phase = .off ∧ (s.unit u).drive.base = 0 ∧ (s.unit u).drive.openWinEnd = none
      ∧ (s.cluster (clusterOf u)).holder = none ∧ (s.cluster (clusterOf u)).queue = []
      ∧ refusal s (firstCharge s u (baseOf s u .onoff)) = none) (fun _ => [])
    (fun s t => (t.unit u).drive.phase = .rise ∧ (t.unit u).drive.phaseAt = s.devtime ∧ (t.unit u).drive.base = baseOf s u .onoff
      ∧ (t.unit u).drive.openWinEnd = some (s.devtime + s.openWin u)
      ∧ (t.unit u).valve.strokes = (s.unit u).valve.strokes + 1 ∧ (t.cluster (clusterOf u)).holder = some u))
  ∧ (∀ u, Answers (fun h => .unitCmd h u 0) 1297 1 (· == 4)
    (fun s => s.cfg.package.member = false ∧ u < 128 ∧ s.secOf u = none ∧ pairMember s u = false
      ∧ linkDown s (.unit u) = false ∧ (s.unit u).drive.mode = .onoff ∧ (s.unit u).drive.phase = .hold
      ∧ (s.cluster (clusterOf u)).holder ≠ some u) (fun _ => [])
    (fun s t => (t.unit u).drive.phase = .turnOff ∧ (t.unit u).drive.phaseAt = s.devtime
      ∧ (t.unit u).drive.closeWinEnd = some (s.devtime + s.closeWin u) ∧ (t.unit u).drive.shotEnd = none))
  ∧ (∀ u value, Answers (fun h => .unitSetpoint h u value) 1298 3 (· == 8)
    (fun s => s.cfg.package.member = false ∧ u < 128 ∧ value ≤ 3000 ∧ s.secOf u = none ∧ pairMember s u = false
      ∧ unusedUnit s u = false ∧ faulted s u = false ∧ drivable s (.unit u) = true ∧ boundLoop s (.unit u) = none
      ∧ (s.unit u).drive.mode = .prop) (fun _ => [])
    (fun s t => (t.unit u).drive = { (s.unit u).drive with setpoint := min value ((s.unitCfg u).iMax.getD 0) }
      ∧ (∀ v, v ≠ u → t.unit v = s.unit v) ∧ Only [.courses, .units] s t))

/-- UNIT_MODE changes the mode of a unit that is off, with its mode charge; UNIT_FAULT_CLEAR ends a unit's own fault state once its cause is
gone; UNIT_LATENCY_RESET brings a unit's latency tables back to COUNT 0 and their seeds (R215, R228, R251). -/
def Obligations.UnitModesAndClears : Prop :=
  (∀ u, Answers (fun h => .unitMode h u 0) 1299 1 (· == 4)
    (fun s => s.cfg.package.member = false ∧ u < 128 ∧ s.secOf u = none ∧ pairMember s u = false ∧ unusedUnit s u = false
      ∧ unitOff (s.unit u).drive = true ∧ (∀ f ∈ (s.unit u).frets, f.inDie = false) ∧ drivable s (.unit u) = true
      ∧ boundLoop s (.unit u) = none ∧ (s.unit u).drive.mode ≠ .onoff) (fun _ => [])
    (fun _ t => (t.unit u).drive.mode = .onoff ∧ (t.unit u).drive.modeEnabled = false ∧ (t.unit u).drive.base = 0
      ∧ (t.unit u).drive.setpoint = 0 ∧ (t.unit u).drive.cycling = false))
  ∧ (∀ u, Answers (fun h => .unitMode h u 1) 1299 1 (· == 4)
    (fun s => s.cfg.package.member = false ∧ u < 128 ∧ s.secOf u = none ∧ pairMember s u = false ∧ unusedUnit s u = false
      ∧ pwmCapable (s.unitCfg u) = true ∧ unitOff (s.unit u).drive = true ∧ (∀ f ∈ (s.unit u).frets, f.inDie = false)
      ∧ drivable s (.unit u) = true ∧ boundLoop s (.unit u) = none ∧ (s.unit u).drive.mode = .onoff ∧ (s.unit u).drive.base = 0
      ∧ refusal s (firstCharge s u (baseOf s u .pwm)) = none) (fun _ => [])
    (fun s t => (t.unit u).drive.mode = .pwm ∧ (t.unit u).drive.modeEnabled = true ∧ (t.unit u).drive.base = baseOf s u .pwm))
  ∧ (∀ u still stillC, Answers (fun h => .unitFaultClear h 0 u still stillC) 1300 1 (· == 4)
    (fun s => s.cfg.package.member = false ∧ u < 128 ∧ linkDown s (.unit u) = false ∧ (s.unit u).drive.fault = true
      ∧ (s.cluster (clusterOf u)).fault = false ∧ partner? s u = none ∧ u ∉ still) (fun _ => [])
    (fun s t => (t.unit u).drive.fault = false ∧ (t.unit u).drive.cause = 0 ∧ ∀ v, v ≠ u → t.unit v = s.unit v))
  ∧ (∀ u, Answers (fun h => .unitLatencyReset h u) 1303 1 (· == 4)
    (fun s => s.cfg.package.member = false ∧ u < 128 ∧ partitionStopped s 5 = false) (fun _ => [])
    (fun s t => (∀ closing b, (latEntry t u closing b).count = 0 ∧ (latEntry t u closing b).mean = 0
        ∧ (latEntry t u closing b).seed = (latEntry s u closing b).seed)
      ∧ (t.unit u).drive = (s.unit u).drive ∧ ∀ v, v ≠ u → t.unit v = s.unit v))

/-! ## LOOP -/

/-- The writes to a loop take what they name for the loop they name, and no other loop changes; a coefficient takes effect at once in
OFF; rates and factors reach their product and units (R264 to R268, R273). -/
def Obligations.LoopRequests : Prop :=
  (∀ l mode manual, Answers (fun h => .loopMode h l mode 0 manual) 1537 1 (· == 8)
    (fun s => noLoop s l = false ∧ mode ≤ 3 ∧ ((s.loop l).deviceHold = false ∨ mode ≤ 1)) (fun _ => [])
    (fun s t => (t.loop l).newMode = some (loopModeOf mode) ∧ (t.loop l).mode = (s.loop l).mode
      ∧ (mode = 1 → (t.loop l).manual = (s.loop l).u) ∧ (∀ k, k ≠ l → t.loop k = s.loop k) ∧ Only [.courses, .loops] s t))
  ∧ (∀ l manual, Answers (fun h => .loopMode h l 1 1 manual) 1537 1 (· == 8) (fun s => noLoop s l = false) (fun _ => [])
    (fun s t => (t.loop l).newMode = some .manual ∧ (t.loop l).manual = manual ∧ Only [.courses, .loops] s t))
  ∧ (∀ l v, Answers (fun h => .loopManual h l v) 1538 3 (· == 8) (fun s => noLoop s l = false ∧ (s.loop l).mode = .manual) (fun _ => [])
    (fun s t => t.loop l = { s.loop l with manual := v } ∧ (∀ k, k ≠ l → t.loop k = s.loop k) ∧ Only [.courses, .loops] s t))
  ∧ (∀ l v, Answers (fun h => .loopSetpoint h l v) 1539 3 (· == 8) (fun s => noLoop s l = false ∧ trimming s l = false) (fun _ => [])
    (fun s t => t.loop l = { s.loop l with sp := v } ∧ (∀ k, k ≠ l → t.loop k = s.loop k) ∧ Only [.courses, .loops] s t))
  ∧ (∀ l v, Answers (fun h => .loopCoefWrite h l 0 v) 1540 1 (· == 8)
    (fun s => noLoop s l = false ∧ writeOk s l 0 v = true ∧ (s.loop l).mode = .off ∧ (s.loop l).writes = []) (fun _ => [])
    (fun s t => (t.loop l).params = { (s.loop l).params with kp := v } ∧ (∀ k, k ≠ l → t.loop k = s.loop k) ∧ Only [.courses, .loops] s t))
  ∧ (∀ l code v, Answers (fun h => .loopCoefWrite h l code v) 1540 1 (· == 8)
    (fun s => noLoop s l = false ∧ writeOk s l code v = true ∧ (s.loop l).mode ≠ .off ∧ (s.loop l).writes.length < 16) (fun _ => [])
    (fun s t => t.loop l = { s.loop l with writes := (s.loop l).writes ++ [(code, v)] } ∧ (∀ k, k ≠ l → t.loop k = s.loop k)
      ∧ Only [.courses, .loops] s t))
  ∧ (∀ p rate, Answers (fun h => .loopRateSet h p rate) 1543 3 (· == 8) (fun _ => p ≤ 1) (fun _ => [])
    (fun s t => tget t.rates 0 p = rate ∧ (∀ q, q ≠ p → tget t.rates 0 q = tget s.rates 0 q) ∧ t.trims = s.trims
      ∧ Only [.courses, .rates] s t))
  ∧ (∀ p first fs, Answers (fun h => .loopRateFactors h p first fs.length fs) 1544 3
      (fun n => n == 8 + 4 * fs.length && decide (12 ≤ n))
    (fun s => s.cfg.package.member = false ∧ p ≤ 1 ∧ 1 ≤ fs.length ∧ first + fs.length ≤ 128 ∧ ∀ f ∈ fs, f ≤ 262144) (fun _ => [])
    (fun s t => (∀ k, k < fs.length → (t.unit (first + k)).rateFactor = nth fs 0 k)
      ∧ (∀ u, u < first ∨ first + fs.length ≤ u → t.unit u = s.unit u) ∧ Only [.courses, .units] s t))

/-! ## SW and IO -/

/-- One channel of SW_SET turns on with its charge and its vent reservation, or off; SW_PWM_DUTY sets a duty, SW_UNLOCK ends a lock, and
SW_LIMP_FUSE_PROGRAM burns and locks the map (R37, R284, R289, R293, R300, R425, Table 09-3). -/
def Obligations.SwitchRequests : Prop :=
  (∀ n clamps h s, n < 24 → asked 1793 1 (· == 8) h s = true →
      ((s.advance h.t).swCfg n).used = true → drivable (s.advance h.t) (.switch n) = true →
      boundLoop (s.advance h.t) (.switch n) = none → limpMapped (s.advance h.t) n = false → ((s.advance h.t).sw n).state = .off →
      ((s.advance h.t).sw n).latch = false → ((s.advance h.t).sw n).limp = false → ventOk (s.advance h.t) n = true →
      refusal (s.advance h.t) (along (chainSw (s.advance h.t) n) (swBaseOf (s.advance h.t) n + swSurchargeOf (s.advance h.t) n)) = none →
    Completes (.swSet h (2 ^ n) (2 ^ n) clamps) s fun t =>
      (t.sw n).state = (if inrushMsOf ((s.advance h.t).swCfg n) = 0 then SwState.on else SwState.inrush)
      ∧ (t.sw n).base = swBaseOf (s.advance h.t) n ∧ (t.sw n).surcharge = swSurchargeOf (s.advance h.t) n
      ∧ (t.sw n).ventReserved = ((s.advance h.t).sw n).eLast ∧ (∀ m, m ≠ n → t.sw m = (s.advance h.t).sw m)
      ∧ Replied h 1793 { data := (List.range 24).map fun k => if k = n then 0 else 255 } t)
  ∧ (∀ n clamps h s, n < 24 → asked 1793 1 (· == 8) h s = true →
      ((s.advance h.t).swCfg n).used = true → linkDown (s.advance h.t) (.switch n) = false →
      boundLoop (s.advance h.t) (.switch n) = none → limpMapped (s.advance h.t) n = false → ((s.advance h.t).sw n).state = .on →
      (clampOf clamps n).1 ≤ clampLimit n → ((s.advance h.t).swCfg n).extFreewheel = false →
    Completes (.swSet h (2 ^ n) 0 clamps) s fun t =>
      (t.sw n).state = .off ∧ (t.sw n).base = 0 ∧ (t.sw n).surcharge = 0 ∧ (t.sw n).ventReserved = 0
      ∧ (∀ m, m ≠ n → t.sw m = (s.advance h.t).sw m)
      ∧ Replied h 1793 { data := (List.range 24).map fun k => if k = n then 0 else 255 } t)
  ∧ (∀ n duty, Answers (fun h => .swPwmDuty h n duty) 1794 3 (· == 4)
    (fun s => n < 24 ∧ duty ≤ 10000 ∧ (s.swCfg n).used = true ∧ (s.swCfg n).pwmHz ≠ 0 ∧ drivable s (.switch n) = true
      ∧ boundLoop s (.switch n) = none ∧ limpMapped s n = false) (fun _ => [])
    (fun s t => t.sw n = { s.sw n with duty := duty } ∧ (∀ m, m ≠ n → t.sw m = s.sw m) ∧ Only [.courses, .switches] s t))
  ∧ (∀ n, Answers (fun h => .swUnlock h n) 1795 1 (· == 4)
    (fun s => n < 24 ∧ (s.sw n).state = .locked ∧ (s.sw n).latch = false ∧ linkDown s (.switch n) = false ∧ limpMapped s n = false)
    (fun _ => [])
    (fun s t => t.sw n = { s.sw n with state := .off, lockCause := 0 } ∧ ∀ m, m ≠ n → t.sw m = s.sw m))
  ∧ (∀ entries global, Answers (fun h => .swLimpFuseProgram h entries global 0x4C494D50 true) 1798 1 (· == 16)
    (fun s => sharedChannel entries = false ∧ global < 4 ∧ allOff s = true ∧ s.odo.speed = 0 ∧ bitAt s.storage.fuseGlobal 1 = false)
    (fun _ => [])
    (fun s t => t.storage.fuses = entries ∧ t.storage.fuseGlobal = 2 + global % 2 ∧ Only [.courses, .storage] s t))

/-- One field output of IO_OUTPUT_SET turns on with its 10 credits, or off; IO_FAULT_CLEAR ends a fault state whose cause is gone, and
IO_GROUP_REARM arms a group that is back (R315, R319, R425, Table 02-1). -/
def Obligations.FieldOutputRequests : Prop :=
  (∀ o h s, o < 16 → asked 1809 1 (· == 4) h s = true →
      ((s.advance h.t).foCfg o).used = true → emulated (s.advance h.t) o = false → drivable (s.advance h.t) (.fo o) = true →
      ((s.advance h.t).fo o).st = 0 → refusal (s.advance h.t) (along (chainFo (s.advance h.t) o) 10) = none →
    Completes (.ioOutputSet h (2 ^ o) (2 ^ o)) s fun t =>
      (t.fo o).st = 1 ∧ (t.fo o).base = 10 ∧ (∀ k, k ≠ o → t.fo k = (s.advance h.t).fo k)
      ∧ Replied h 1809 { data := (List.range 16).map fun k => if k = o then 0 else 255 } t)
  ∧ (∀ o h s, o < 16 → asked 1809 1 (· == 4) h s = true →
      ((s.advance h.t).foCfg o).used = true → emulated (s.advance h.t) o = false → linkDown (s.advance h.t) (.fo o) = false →
      ((s.advance h.t).fo o).st = 1 →
    Completes (.ioOutputSet h (2 ^ o) 0) s fun t =>
      (t.fo o).st = 0 ∧ (t.fo o).base = 0 ∧ (∀ k, k ≠ o → t.fo k = (s.advance h.t).fo k)
      ∧ Replied h 1809 { data := (List.range 16).map fun k => if k = o then 0 else 255 } t)
  ∧ (∀ o, Answers (fun h => .ioFaultClear h o false) 1813 1 (· == 4)
    (fun s => o < 16 ∧ (s.fo o).st = 2 ∧ (s.fo o).latch = false ∧ linkDown s (.fo o) = false) (fun _ => [])
    (fun s t => t.fo o = { s.fo o with st := 0, cause := 0 } ∧ (∀ k, k ≠ o → t.fo k = s.fo k) ∧ Only [.courses, .outputs] s t))
  ∧ (∀ g, Answers (fun h => .ioGroupRearm h g) 1814 1 (· == 4)
    (fun s => g < s.cfg.fieldIo.groups.length ∧ s.group g = .back) (fun _ => [])
    (fun s t => t.group g = .present ∧ ∀ k, k ≠ g → t.group k = s.group k))

/-! ## BUS, EVT, REC, MNT -/

/-- BUS_FILTER_SET binds one gateway buffer, or waits while a frame is on its way; EVT_SOURCE_SET, EVT_TARGET_SET and EVT_REROUTE set a source, a target, and move a queue's records in
order behind another's, changing their target only (R437, R461, R467, R470, R475 to R477). -/
def Obligations.BusEventRequests : Prop :=
  (∀ ctrl buf flags id mask, Answers (fun h => .busFilterSet h ctrl buf flags id mask) 2049 1 (· == 12)
    (fun s => ctrl ≤ 3 ∧ buf ≤ 15 ∧ flags ≤ 7 ∧ id < 2 ^ 29 ∧ mask < 2 ^ 29 ∧ (s.canOf ctrl).offered = none
      ∧ (s.canOf ctrl).binds = []) (fun _ => [])
    (fun s t => (t.gw ctrl buf).enable = bitAt flags 0 ∧ (t.gw ctrl buf).filterExt = bitAt flags 1 ∧ (t.gw ctrl buf).tx = bitAt flags 2
      ∧ (t.gw ctrl buf).filterId = id ∧ (t.gw ctrl buf).filterMask = mask ∧ (t.gw ctrl buf).full = false
      ∧ (t.gw ctrl buf).frames = (s.gw ctrl buf).frames ∧ ∀ k b, k ≠ ctrl → t.gw k b = s.gw k b))
  ∧ (∀ ctrl buf flags id mask o, Answers (fun h => .busFilterSet h ctrl buf flags id mask) 2049 1 (· == 12)
    (fun s => ctrl ≤ 3 ∧ buf ≤ 15 ∧ flags ≤ 7 ∧ id < 2 ^ 29 ∧ mask < 2 ^ 29 ∧ (s.canOf ctrl).offered = some o) (fun _ => [])
    (fun s t => (t.canOf ctrl).binds = (s.canOf ctrl).binds ++ [(buf, flags, id, mask)] ∧ ∀ k b, t.gw k b = s.gw k b))
  ∧ (∀ n priority target, Answers (fun h => .evtSourceSet h n priority (bit (levelSource n)) target) 2305 1 (· == 4)
    (fun _ => n ≤ 255 ∧ priority ≤ 15 ∧ target ≤ 9 ∧ reservedSource n = false) (fun _ => [])
    (fun _ t => (t.src n).priority = priority ∧ (t.src n).target = target))
  ∧ (∀ k threshold count flags time, Answers (fun h => .evtTargetSet h k threshold count flags time) 2306 1 (· == 8)
    (fun _ => k ≤ 9 ∧ threshold ≤ 15 ∧ 1 ≤ count ∧ count ≤ 255 ∧ flags ≤ 1 ∧ time ≤ 65535) (fun _ => [])
    (fun s t => (t.tgt k).threshold = threshold ∧ (t.tgt k).count = count ∧ (t.tgt k).timeUs = time ∧ (t.tgt k).wake = bitAt flags 0
      ∧ Only [.courses] s t))
  ∧ (∀ a b, Answers (fun h => .evtReroute h a b) 2307 1 (· == 4)
    (fun s => a ≤ 9 ∧ b ≤ 9 ∧ a ≠ b ∧ (s.tgt b).queue.length + (s.tgt a).queue.length ≤ queueSize b)
    (fun _ => [])
    (fun s t => (∀ r ∈ (t.tgt a).queue, r.writtenAt = s.devtime)
      ∧ (s.tgt b).queue ++ (s.tgt a).queue.map (fun r => { r with target := b }) <+: (t.tgt b).queue
      ∧ (t.tgt a).claimed = (s.tgt a).claimed ∧ Only [.courses] s t))

/-- REC_FREEZE freezes the records under shadows and REC_THAW ends that; firmware is staged in order and committed into the slot that is not
running, where it is active at the next start; MNT_PARTITION in maintenance mode writes the table and erases; the key hash is burnt once
(R357, R418, R427, R495 to R497). -/
def Obligations.RecorderMaintenance : Prop :=
  Answers (fun h => .recFreeze h) 2562 1 (· == 0) (fun s => s.recorder.frozenAt = none) (fun _ => [])
    (fun s t => t.recorder.frozenAt = some s.devtime ∧ t.recorder.shLifetime.isSome ∧ Only [.courses, .recorder] s t)
  ∧ Answers (fun h => .recThaw h) 2563 1 (· == 0) (fun s => s.recorder.frozenAt.isSome ∧ partitionStopped s 6 = false) (fun _ => [])
    (fun _ t => t.recorder.frozenAt = none ∧ t.recorder.shLifetime = none ∧ t.recorder.pending = [])
  ∧ (∀ size, Answers (fun h => .mntFwBegin h size) 2818 8 (· == 4)
    (fun s => 192 ≤ size ∧ size ≤ 16777216 ∧ noEmmc s = false ∧ partitionStopped s (fwPartition (spareFw s)) = false) (fun _ => [])
    (fun s t => t.storage.fwStaging = some (size, []) ∧ fwSlot t (spareFw s) = { st := 1 } ∧ Only [.courses, .storage] s t))
  ∧ (∀ size done data, Answers (fun h => .mntFwWrite h done.length data) 2819 8 (between' 5 1024)
    (fun s => s.storage.fwStaging = some (size, done) ∧ done.length + data.length ≤ size ∧ data.length % 4 = 0 ∧ noEmmc s = false
      ∧ partitionStopped s (fwPartition (spareFw s)) = false) (fun _ => [])
    (fun s t => t.storage.fwStaging = some (size, done ++ data) ∧ Only [.courses, .storage] s t))
  ∧ (∀ fw size bytes, Begins (fun h => .mntFwCommit h fw) 2820 8 (· == 0)
    (fun s => s.storage.fwStaging = some (size, bytes) ∧ bytes.length = size)
    (fun s t => t.storage.fwCommitting = some (readFirmware bytes fw) ∧ Only [.courses, .storage] s t))
  ∧ (∀ mib, Begins (fun h => .mntPartition h 0x50415254 mib) 2821 8 (· == 8)
    (fun s => 256 ≤ mib ∧ mib ≤ 32946 ∧ 321 + mib ≤ s.storage.capacityMib ∧ s.start.maint = true ∧ noEmmc s = false)
    (fun s t => t.storage.partitioning = some mib ∧ Only [.courses, .storage] s t))
  ∧ (∀ key, Answers (fun h => .mntCfgKeyFuse h key 0x4B455946) 2822 8 (· == 68)
    (fun s => allOff s = true ∧ s.storage.keyHash = none) (fun _ => [])
    (fun s t => t.storage.keyHash = some (sha256 key) ∧ Only [.courses, .storage] s t))

/-! ## The host window -/

/-- A refused SPI transaction sets SPI_ERR and is counted, and writes nothing; one that is not refused clears SPI_ERR and applies its words.
A heartbeat of a new value restarts the timeout and ends host silence, OUT_DISABLE disables outputs, HQ_RD claims records, an acknowledge
ends those above RESTORE, reading DEVTIME_LO latches DEVTIME_HI, and TAKE takes a snapshot (R375, R378, R380 to R382, R394, R395, R397, R469). -/
def Obligations.WindowAccesses : Prop :=
  (∀ x, Does (fun τ => .registerWrite τ x) (fun s => awake s = true ∧ (∀ n, n < 4 → (s.course n).taking = false) ∧ spiRefused x = true)
    (fun s t => t.host.spiErr = true ∧ t.host.badXfers = (s.host.badXfers + 1) % 256 ∧ t.host.beat = s.host.beat ∧ Asserted 24 s t
      ∧ Only [.session, .loops] s t))
  ∧ (∀ x, Does (fun τ => .registerWrite τ x)
    (fun s => awake s = true ∧ (∀ n, n < 4 → (s.course n).taking = false) ∧ spiRefused x = false ∧ spiIsWrite x = false)
    (fun s t => t.host.spiErr = false
      ∧ t.host.hmiso = readOut (statusWord s) x.header ((List.range (spiCount x + 1)).map fun i => windowWord (latchHi s) (spiAddr x + 4 * i)) true
      ∧ Only [.session, .loops] s t))
  ∧ (∀ x w, Does (fun τ => .registerWrite τ x)
    (fun s => awake s = true ∧ (∀ n, n < 4 → (s.course n).taking = false) ∧ spiRefused x = false ∧ spiIsWrite x = true
      ∧ spiAddr x = 40 ∧ x.words = [w] ∧ writeBlocked s 40 = false ∧ w.toNat % 256 ≠ 0)
    (fun s t => t.host.spiErr = false ∧ (t.tgt 9).count = w.toNat % 256 ∧ (t.tgt 9).timeUs = w.toNat / 65536 ∧ Only [.session, .loops] s t))
  ∧ (∀ v, Does (fun τ => .heartbeat τ v)
    (fun s => awake s = true ∧ writeBlocked s 16 = false ∧ v < 4294967296 ∧ v ≠ s.host.beat ∧ s.host.beatAt.isSome)
    (fun s t => t.host.beat = v ∧ t.host.beatSeen = true ∧ t.host.beatAt = some s.devtime ∧ t.host.silent = false
      ∧ (s.host.silent = true → Raised 21 0 0 1 s t) ∧ Only [.session, .recorder] s t))
  ∧ Does (fun τ => .heartbeat τ 0) (fun s => awake s = true ∧ writeBlocked s 16 = false ∧ s.host.beat = 0)
    (fun s t => t.host.beat = 0 ∧ t.host.beatAt = s.host.beatAt ∧ t.host.silent = s.host.silent ∧ Only [.session] s t)
  ∧ (∀ clamps, Does (fun τ => .outDisable τ clamps) (fun s => awake s = true ∧ writeBlocked s 12 = false)
    (fun s t => t.host.outputsEnabled = false ∧ t.host.beat = s.host.beat
      ∧ Only [.session, .courses, .units, .clusters, .ledger, .switches, .vents, .outputs, .loops, .rates, .recorder, .dies] s t))
  ∧ (∀ i k, Does (fun τ => .hqRd τ i)
    (fun s => awake s = true ∧ writeBlocked s 36 = false ∧ s.isobusLink = none ∧ i < 256 ∧ (i + 256 - s.events.hqRd) % 256 = k
      ∧ k ≤ (s.tgt 9).queue.length)
    (fun s t => t.events.hqRd = i ∧ (t.tgt 9).claimed = (s.tgt 9).claimed ++ (s.tgt 9).queue.take k
      ∧ (s.tgt 9).queue.drop k <+: (t.tgt 9).queue
      ∧ (t.tgt 9).running = max (s.tgt 9).running (((s.tgt 9).queue.take k).foldl (fun m r => max m r.level) 0)
      ∧ Only [.session] s t))
  ∧ (∀ i, Does (fun τ => .hqRd τ i)
    (fun s => awake s = true ∧ writeBlocked s 36 = false ∧ s.isobusLink = none ∧ i < 256
      ∧ (s.tgt 9).queue.length < (i + 256 - s.events.hqRd) % 256)
    (fun s t => t.events.hqRd = s.events.hqRd ∧ (t.tgt 9).claimed = (s.tgt 9).claimed ∧ (t.tgt 9).running = (s.tgt 9).running
      ∧ (s.tgt 9).queue <+: (t.tgt 9).queue ∧ Only [.session] s t))
  ∧ (∀ restore, Does (fun τ => .ack τ restore)
    (fun s => awake s = true ∧ writeBlocked s 44 = false ∧ s.isobusLink = none ∧ restore < 16)
    (fun s t => (t.tgt 9).claimed = (s.tgt 9).claimed.filter (fun r => decide (r.level ≤ restore))
      ∧ (t.tgt 9).running = min (s.tgt 9).running restore ∧ Only [.session] s t))
  ∧ Does (fun τ => .devtimeLo τ) (fun s => awake s = true)
    (fun s t => t.host.devtimeHi = s.devtime / 4294967296 % 4294967296 ∧ Only [.session] s t)
  ∧ (∀ ns, Does (fun τ => .take τ ns) (fun s => awake s = true ∧ writeBlocked s 49160 = false ∧ ns < 1000)
    (fun s t => t.host.snap = s.devtime ∧ t.host.snapNs = ns ∧ t.host.snapCount = (s.host.snapCount + 1) % 4294967296
      ∧ Only [.session] s t))

/-- TX_REQ makes a gateway frame wait for the bus, or marks it refused where the controller may not send it; CANCEL ends one by how far it
has gone; LOCK keeps a receive buffer, and clearing it brings the shadow in (R436, R439, R440, Table 15-4). No other controller changes. -/
def Obligations.GatewayBuffers : Prop :=
  (∀ c b, c < 4 → b < 16 → Does (fun τ => .txReq τ c b)
    (fun s => awake s = true ∧ writeBlocked s (gwAddr c b) = false ∧ (s.gw c b).enable = true ∧ (s.gw c b).tx = true
      ∧ (s.gw c b).pending = false ∧ gwRefused s c (s.gw c b).frame = false)
    (fun s t => (t.gw c b).pending = true ∧ (t.gw c b).retries = 0 ∧ (t.gw c b).frame = (s.gw c b).frame
      ∧ (∀ k, k ≠ c → some k ≠ s.isobusLink → ((s.canCfg k).zitherSystem = true → s.lead = false) → t.canOf k = s.canOf k) ∧ Only [.session] s t))
  ∧ (∀ c b, c < 4 → b < 16 → Does (fun τ => .txReq τ c b)
    (fun s => awake s = true ∧ writeBlocked s (gwAddr c b) = false ∧ (s.gw c b).enable = true ∧ (s.gw c b).tx = true
      ∧ (s.gw c b).pending = false ∧ gwRefused s c (s.gw c b).frame = true)
    (fun s t => (t.gw c b).pending = false ∧ (t.gw c b).refused = true ∧ Asserted (232 + c) s t ∧ Only [.session] s t))
  ∧ (∀ c b p, c < 4 → b < 16 → (p.sending && p.afterArbitration) = false → Does (fun τ => .cancel τ c b p)
    (fun s => awake s = true ∧ writeBlocked s (gwAddr c b) = false ∧ (s.gw c b).enable = true ∧ (s.gw c b).tx = true
      ∧ (s.gw c b).pending = true)
    (fun s t => (t.gw c b).pending = false ∧ (t.gw c b).cancelled = true ∧ (t.gw c b).transmitted = (s.gw c b).transmitted
      ∧ Asserted (232 + c) s t ∧ Only [.session] s t))
  ∧ (∀ c b p, c < 4 → b < 16 → (p.sending && p.afterArbitration) = true → Does (fun τ => .cancel τ c b p)
    (fun s => awake s = true ∧ writeBlocked s (gwAddr c b) = false ∧ (s.gw c b).enable = true ∧ (s.gw c b).tx = true
      ∧ (s.gw c b).pending = true ∧ ∀ x ∈ (s.canOf c).binds, x.1 ≠ b)
    (fun s t => (t.gw c b).pending = false ∧ (t.gw c b).cancelLate = true ∧ (t.gw c b).cancelled = (s.gw c b).cancelled
      ∧ (p.completes = true → (t.gw c b).transmitted = true) ∧ (p.completes = false → (t.gw c b).txFailed = true)
      ∧ Asserted (232 + c) s t ∧ Only [.session] s t))
  ∧ (∀ c b, c < 4 → b < 16 → Does (fun τ => .lock τ c b true)
    (fun s => awake s = true ∧ writeBlocked s (gwAddr c b) = false ∧ (s.gw c b).enable = true ∧ (s.gw c b).tx = false)
    (fun s t => t.gw c b = { s.gw c b with lock := true } ∧ (∀ k, k ≠ b → t.gw c k = s.gw c k) ∧ Only [.session] s t))
  ∧ (∀ c b f u, c < 4 → b < 16 → Does (fun τ => .lock τ c b false)
    (fun s => awake s = true ∧ writeBlocked s (gwAddr c b) = false ∧ (s.gw c b).enable = true ∧ (s.gw c b).tx = false
      ∧ (s.gw c b).shadow = some (f, u))
    (fun s t => (t.gw c b).lock = false ∧ (t.gw c b).shadow = none ∧ (t.gw c b).frame = f ∧ (t.gw c b).timeStamp = u
      ∧ (t.gw c b).full = true ∧ (∀ k, k ≠ b → t.gw c k = s.gw c k) ∧ Only [.session] s t))

/-- A message cut off for 10 ms makes the request ring corrupt: everything to REQ_WR is discarded and counted (R384, R387); the oldest
pending notification of a course goes into its ring once it has room (R391). -/
def Obligations.RingStallAndPending : Prop :=
  (∀ n, n < 4 → Does (fun τ => .reqWrStall τ n) (fun s => stalled s n = true)
    (fun s t => (t.course n).reqRd = (s.course n).reqWr ∧ (t.course n).stallAt = none ∧ (t.course n).held = []
      ∧ (t.course n).badFrames = ((s.course n).badFrames + 1) % 4294967296 ∧ (∀ k, k ≠ n → t.course k = s.course k) ∧ Only [.courses] s t))
  ∧ (∀ n op payload rest, n < 4 → Does (fun τ => .notificationWrite τ n)
    (fun s => (s.course n).pendingNotif = (op, payload) :: rest ∧ awake s = true
      ∧ hasRoom s n payload.length (keptFree s n) = true)
    (fun s t => (t.course n).pendingNotif = rest ∧ Told n op payload t ∧ (t.course n).nextDev = ((s.course n).nextDev + 1) % 65536
      ∧ (∀ k, k ≠ n → t.course k = s.course k) ∧ Only [.courses] s t))
  ∧ (∀ n, n < 4 → Does (fun τ => .notificationWrite τ n) (fun s => (s.course n).pendingNotif = []) (fun s t => Only [] s t))

/-- HOST_SILENT under SAFE disables outputs until the host enables them again; under AUTONOMOUS it sets the masters to AUTO, and enables
outputs where no heartbeat has come since READY. A held die whose link has been back for 1 s is enabled by the device itself while no
fault of severity 4 is open (R396 to R399). -/
def Obligations.HostSilence : Prop :=
  (∀ clamps, Does (fun τ => .hostSilent τ clamps) (fun s => silenceDue s = true ∧ s.cfg.host.autonomous = false)
    (fun s t => t.host.silent = true ∧ t.host.outputsEnabled = false ∧ t.host.safeLeft = true ∧ t.host.beatAt = s.host.beatAt
      ∧ Raised 20 0 0 2 s t
      ∧ Only [.session, .courses, .units, .clusters, .ledger, .switches, .vents, .outputs, .loops, .rates, .recorder, .dies] s t))
  ∧ (∀ clamps, Does (fun τ => .hostSilent τ clamps)
    (fun s => silenceDue s = true ∧ s.cfg.host.autonomous = true ∧ s.host.beatSeen = true)
    (fun s t => t.host.silent = true ∧ t.host.masterAuto = true ∧ t.host.outputsEnabled = s.host.outputsEnabled ∧ Raised 20 0 0 2 s t
      ∧ Only [.session, .loops] s t))
  ∧ (∀ clamps, Does (fun τ => .hostSilent τ clamps)
    (fun s => silenceDue s = true ∧ s.cfg.host.autonomous = true ∧ s.host.beatSeen = false ∧ s.start.configActive = true)
    (fun s t => t.host.silent = true ∧ t.host.masterAuto = true ∧ t.host.outputsEnabled = true ∧ t.host.safeLeft = false
      ∧ Raised 20 0 0 2 s t ∧ t.power = s.power ∧ t.cfg = s.cfg))
  ∧ (∀ d, 2 ≤ d → d < 5 → Does (fun τ => .autonomousReenable τ d)
    (fun s => reenableDue s d = true ∧ enableable s d = true)
    (fun s t => (t.die d).heldSafe = false ∧ (t.die d).allOff = false ∧ (∀ k, k ≠ d → t.die k = s.die k) ∧ Only [.dies, .loops] s t))
  ∧ (∀ d, 2 ≤ d → d < 5 → Does (fun τ => .autonomousReenable τ d) (fun s => s.faults.opened.any (fun f => f.severity == 4) = true)
    (fun s t => (t.die d).heldSafe = (s.die d).heldSafe ∧ Only [.loops] s t))

/-! ## Links, cores, supplies -/

/-- A good frame at the die's end renews its link and ends its retraining after a wake; a corrupt one is counted in the link's
BRIDGE_CRC, the receiver's next heartbeat asks for it, and what was asked for is sent again; heartbeats go out under the next number,
and a lane that fails leaves service (R15 to R19; the number's width of 8 bits is the model's choice, log 51). -/
def Obligations.BridgeFrames : Prop :=
  (∀ l q, l < 3 → Does (fun τ => .bridgeFrame τ l true true q) (fun s => linkUp s (l + 2) = true ∧ (s.die (l + 2)).retrain = none)
    (fun s t => t.die (l + 2) = { s.die (l + 2) with lastFrameAt := s.devtime, linked := true } ∧ (∀ k, k ≠ l + 2 → t.die k = s.die k)
      ∧ Only [.dies] s t))
  ∧ (∀ l q atDie, l < 3 → Does (fun τ => .bridgeFrame τ l atDie true q)
    (fun s => linkUp s (l + 2) = true ∧ (s.die (l + 2)).retrain.isSome = true)
    (fun s t => (t.die (l + 2)).retrain = none ∧ (t.die (l + 2)).latched = [] ∧ t.ledger.windowAt = s.devtime
      ∧ (∀ k, k ≠ l + 2 → t.die k = s.die k) ∧ Only [.dies, .ledger, .recorder] s t))
  ∧ (∀ l q, l < 3 → Does (fun τ => .bridgeFrame τ l true false q) (fun s => linkUp s (l + 2) = true)
    (fun s t => t.die (l + 2) = { s.die (l + 2) with crc := (s.die (l + 2)).crc + 1, wantDie := true } ∧ Only [.dies] s t))
  ∧ (∀ l q, l < 3 → Does (fun τ => .bridgeFrame τ l false false q) (fun s => linkUp s (l + 2) = true)
    (fun s t => t.die (l + 2) = { s.die (l + 2) with crc := (s.die (l + 2)).crc + 1, wantD0 := true } ∧ Only [.dies] s t))
  ∧ (∀ l, l < 3 → Does (fun τ => .bridgeResend τ l true) (fun s => (s.die (l + 2)).askDie = true ∧ linkUp s (l + 2) = true)
    (fun s t => (t.die (l + 2)).askDie = false ∧ (t.die (l + 2)).lastFrameAt = s.devtime ∧ Only [.dies] s t))
  ∧ (∀ l, l < 3 → Does (fun τ => .bridgeResend τ l true) (fun s => (s.die (l + 2)).askDie = false) (fun s t => Only [] s t))
  ∧ (∀ l, l < 3 → Does (fun τ => .bridgeResend τ l false) (fun s => (s.die (l + 2)).askD0 = true ∧ linkUp s (l + 2) = true)
    (fun s t => t.die (l + 2) = { s.die (l + 2) with askD0 := false } ∧ Only [.dies] s t))
  ∧ (∀ l, l < 3 → Does (fun τ => .bridgeHeartbeatSend τ l false) (fun s => heartbeats s (l + 2) = true)
    (fun s t => (t.die (l + 2)).seqD0 = ((s.die (l + 2)).seqD0 + 1) % 256 ∧ (t.die (l + 2)).wantD0 = false
      ∧ (t.die (l + 2)).askD0 = ((s.die (l + 2)).askD0 || (s.die (l + 2)).wantD0)
      ∧ (t.die (l + 2)).lastFrameAt = (s.die (l + 2)).lastFrameAt ∧ (∀ k, k ≠ l + 2 → t.die k = s.die k) ∧ Only [.dies] s t))
  ∧ (∀ l, l < 3 → Does (fun τ => .bridgeHeartbeatSend τ l true) (fun s => linkUp s (l + 2) = true)
    (fun s t => (t.die (l + 2)).seqDie = ((s.die (l + 2)).seqDie + 1) % 256 ∧ (t.die (l + 2)).wantDie = false
      ∧ (t.die (l + 2)).askDie = ((s.die (l + 2)).askDie || (s.die (l + 2)).wantDie)
      ∧ (t.die (l + 2)).lastFrameAt = (s.die (l + 2)).lastFrameAt ∧ (∀ k, k ≠ l + 2 → t.die k = s.die k) ∧ Only [.dies] s t))
  ∧ (∀ l n, l < 3 → n < 4 → Does (fun τ => .bridgeDegraded τ l n) (fun s => n ∉ (s.die (l + 2)).lanesOut)
    (fun s t => (t.die (l + 2)).lanesOut = (s.die (l + 2)).lanesOut ++ [n] ∧ Raised (4 + l) n 0 2 s t ∧ Only [.dies] s t))

/-- A die whose link is silent for T_silent acts alone, its outputs in their safe state; after ten times as long all of them are off;
heartbeats end the silence, and the die's grants enter the package level (R322 to R324, R523). -/
def Obligations.LinkSilence : Prop :=
  (∀ d clamps, 2 ≤ d → d < 5 → Does (fun τ => .linkSilence τ d clamps) (fun s => silenceOf s d = true)
    (fun s t => (t.die d).silent = true ∧ (t.die d).heldSafe = true ∧ (t.die d).silentAt = s.devtime ∧ (t.die d).solo.isSome
      ∧ ((s.die d).tableOk = false → (t.die d).allOff = true)
      ∧ Only [.courses, .units, .clusters, .ledger, .switches, .vents, .outputs, .loops, .recorder, .dies] s t))
  ∧ (∀ d clamps, 2 ≤ d → d < 5 → Does (fun τ => .silenceAllOff τ d clamps) (fun s => allOffDue s d = true)
    (fun s t => (t.die d).allOff = true ∧ (t.die d).silent = true
      ∧ Only [.courses, .units, .clusters, .ledger, .switches, .vents, .outputs, .loops, .recorder, .dies] s t))
  ∧ (∀ d, 2 ≤ d → d < 5 → Does (fun τ => .linkRestored τ d)
    (fun s => (s.die d).silent = true ∧ heartbeats s d = true ∧ (d = 4 → s.limp = none))
    (fun s t => (t.die d).silent = false ∧ (t.die d).allOff = false ∧ (t.die d).lastFrameAt = s.devtime ∧ (t.die d).backAt = some s.devtime
      ∧ (t.die d).heldSafe = (s.die d).heldSafe ∧ (t.die d).solo = none ∧ t.units = s.units ∧ Only [.ledger, .loops, .dies] s t))
  ∧ (∀ d, 2 ≤ d → d < 5 → Does (fun τ => .retrainTimeout τ d) (fun s => retrainLate s d = true)
    (fun s t => (t.die d).silent = true ∧ (t.die d).heldSafe = true ∧ Asserted (4 + (d - 2)) s t
      ∧ Only [.courses, .units, .clusters, .ledger, .switches, .vents, .outputs, .loops, .recorder, .dies] s t))

/-- A core that restarts from a good checkpoint is out of service until it is back; one that starts cold is reported, and a sequencer's
die is held in its safe state (R20, R21). The loss of a VBAT group is reported and turns its region's outputs off; its return ends the
level (R527). -/
def Obligations.CoresAndGroups : Prop :=
  (∀ c clamps, c < 9 → Does (fun τ => .coreRestart τ c true clamps)
    (fun s => (s.start.coresOut.any fun x => x.1 == c) = false ∧ ¬(c = 0 ∧ s.start.keeperOut.isSome = true))
    (fun s t => t.start.coresOut = s.start.coresOut ++ [(c, false, s.devtime)] ∧ Raised 3 c 0 2 s t ∧ Only [.start, .loops] s t))
  ∧ (∀ c clamps, c < 6 → c ≠ 0 → Does (fun τ => .coreRestart τ c false clamps)
    (fun s => (s.start.coresOut.any fun x => x.1 == c) = false)
    (fun s t => t.start.coresOut = s.start.coresOut ++ [(c, true, s.devtime)] ∧ Raised 3 c 1 3 s t ∧ Only [.start, .loops] s t))
  ∧ (∀ c clamps, 6 ≤ c → c < 9 → Does (fun τ => .coreRestart τ c false clamps)
    (fun s => (s.start.coresOut.any fun x => x.1 == c) = false)
    (fun s t => t.start.coresOut = s.start.coresOut ++ [(c, true, s.devtime)] ∧ Raised 3 c 1 3 s t ∧ (t.die (c - 4)).heldSafe = true
      ∧ (t.die (c - 4)).silent = (s.die (c - 4)).silent
      ∧ Only [.start, .courses, .units, .clusters, .ledger, .switches, .vents, .loops, .recorder, .dies] s t))
  ∧ (∀ clamps, Does (fun τ => .coreRestart τ 0 false clamps)
    (fun s => (s.start.coresOut.any fun x => x.1 == 0) = false ∧ s.start.keeperOut = none)
    (fun s t => t.start.keeperOut = some s.devtime ∧ t.start.coresOut = s.start.coresOut ∧ Only [.start, .loops] s t))
  ∧ (∀ c, c < 9 → Does (fun τ => .coreRestartDone τ c) (fun s => (s.start.coresOut.any fun x => x.1 == c && x.2.1 == false) = true)
    (fun s t => t.start.coresOut = s.start.coresOut.filter (fun x => x.1 != c) ∧ Only [.start] s t))
  ∧ (∀ c, 6 ≤ c → c < 9 → Does (fun τ => .coreColdDone τ c)
    (fun s => (s.start.coresOut.any fun x => x.1 == c && x.2.1 == true) = true ∧ (s.die (c - 4)).heldSafe = true
      ∧ (s.die (c - 4)).silent = false)
    (fun s t => t.start.coresOut = s.start.coresOut.filter (fun x => x.1 != c) ∧ (t.die (c - 4)).backAt = some s.devtime
      ∧ (t.die (c - 4)).heldSafe = true ∧ Only [.start, .dies] s t))
  ∧ (∀ g mv clamps, g < 7 → Does (fun τ => .vbatGroupLoss τ g mv clamps)
    (fun s => tget s.power.groups false g = true ∧ mv < 6000)
    (fun s t => tget t.power.groups true g = false ∧ (∀ k, k ≠ g → tget t.power.groups false k = tget s.power.groups false k)
      ∧ tget t.nav.vbatMv 0 g = mv ∧ (t.src (7 + g)).active = true ∧ Raised (7 + g) g 0 3 s t
      ∧ Only [.power, .nav, .courses, .units, .clusters, .ledger, .switches, .vents, .outputs, .loops, .recorder, .dies] s t))
  ∧ (∀ g mv, g < 7 → 6300 < mv → mv ≤ 36000 → Does (fun τ => .vbatGroupReturn τ g mv) (fun _ => True)
    (fun s t => tget t.power.groups false g = true ∧ tget t.nav.vbatMv 0 g = mv ∧ (t.src (7 + g)).active = false ∧ t.units = s.units
      ∧ Only [.power, .nav, .loops] s t))

/-- The audit leaves a ledger and vent budgets that balance as they stand and starts its window anew. Derating withholds what
the package's pool has beyond 1400 credits, from FREE first and from later releases for the rest, and its end gives it back (R2, R45 to
R48). -/
def Obligations.AuditAndDerating : Prop :=
  (∀ meas clamps, Does (fun τ => .ledgerAudit τ meas clamps)
    (fun s => auditDue s = true ∧ (∀ k ∈ allKeys, balanced s k = true) ∧ (s.lead = true → tokensBalanced s = true)
      ∧ ∀ c, c < 6 → ventBalanced s c = true)
    (fun s t => t.ledger.els = s.ledger.els ∧ t.ledger.drawingUs = [] ∧ t.ledger.windowAt = s.devtime ∧ t.ledger.broken = s.ledger.broken
      ∧ t.vents = s.vents ∧ Only [.ledger, .loops] s t))
  ∧ (∀ dc, 850 < dc → Does (fun τ => .derateEnter τ dc)
    (fun s => s.storage.variant = 1 ∧ s.ledger.derated = false ∧ s.ledger.withheld = 0 ∧ s.ledger.withholdDue = 0)
    (fun s t => t.ledger.derated = true ∧ t.ledger.withheld + t.ledger.withholdDue = s.ledger.packagePool - 1400
      ∧ t.ledger.withheld = min (s.ledger.packagePool - 1400) (freeOf s pkgKey).toNat
      ∧ freeOf t pkgKey = freeOf s pkgKey - (t.ledger.withheld : Int)
      ∧ (∀ k, k ≠ pkgKey → ledgerEl t k = ledgerEl s k) ∧ Raised 14 0 1 1 s t ∧ Only [.ledger] s t))
  ∧ (∀ dc, dc ≤ 850 → Does (fun τ => .derateEnter τ dc) (fun _ => True) (fun s t => Only [] s t))
  ∧ (∀ dc, dc < 820 → Does (fun τ => .derateExit τ dc) (fun s => s.ledger.derated = true)
    (fun s t => t.ledger.derated = false ∧ t.ledger.withheld = 0 ∧ t.ledger.withholdDue = 0
      ∧ freeOf t pkgKey = freeOf s pkgKey + s.ledger.withheld ∧ (∀ k, k ≠ pkgKey → ledgerEl t k = ledgerEl s k)
      ∧ Raised 14 0 1 1 s t ∧ Only [.ledger] s t))

/-! ## Navigation and time -/

/-- A measurement epoch assigns the channels; a notch engages on a strong interferer near a band's centre; J of an antenna and band is
taken, and from 160 on it is reported as severe; a navigation page is delivered to who selected it, and one that fails its check is not
used; a Galileo page that fails OSNMA is reported, and its satellite excluded where OSNMA is required; an antenna counts as lost after
1 s of its condition (R66, R67, R69 to R72, R75, R87). -/
def Obligations.Measurements : Prop :=
  (∀ meas n, Does (fun τ => .measurementEpoch τ meas n) (fun s => serves 1 s = true ∧ tracking s = true ∧ s.power.vddRf = true)
    (fun s t => t.nav.channels = assignChannels s.cfg.nav s.devtime meas s.nav.channels
      ∧ t.nav.delayNs = (s.cfg.nav.cableNs.1 + 1500, s.cfg.nav.cableNs.2 + 1500) ∧ t.nav.e = s.nav.e ∧ t.nav.fix = s.nav.fix
      ∧ Only [.nav, .courses] s t))
  ∧ (∀ meas n, Does (fun τ => .measurementEpoch τ meas n) (fun s => s.power.vddRf = false) (fun s t => Only [] s t))
  ∧ (∀ a b f l, a < 2 → b < 2 → Does (fun τ => .notchEngage τ a b f l)
    (fun s => navRuns s = true ∧ 10 ≤ l ∧ bandCentreKhz b ≤ f + 12000 ∧ f ≤ bandCentreKhz b + 12000
      ∧ (tget s.nav.notches [] (2 * a + b)).length < 3)
    (fun s t => (f, l) ∈ tget t.nav.notches [] (2 * a + b)
      ∧ (∀ k, k ≠ 2 * a + b → tget t.nav.notches [] k = tget s.nav.notches [] k) ∧ Only [.nav] s t))
  ∧ (∀ a b f l, a < 2 → b < 2 → l < 10 → Does (fun τ => .notchEngage τ a b f l)
    (fun s => navRuns s = true ∧ bandCentreKhz b ≤ f + 12000 ∧ f ≤ bandCentreKhz b + 12000)
    (fun s t => (∀ x ∈ tget t.nav.notches [] (2 * a + b), x.1 ≠ f)
      ∧ (∀ k, k ≠ 2 * a + b → tget t.nav.notches [] k = tget s.nav.notches [] k) ∧ Only [.nav] s t))
  ∧ (∀ a b g n, a < 2 → b < 2 → Does (fun τ => .jammingUpdate τ a b g n) (fun s => navRuns s = true)
    (fun s t => tget t.nav.jam 0 (2 * a + b) = jamIndex g n
      ∧ (160 ≤ jamIndex g n → (tget s.nav.jamBand {} (2 * a + b)).jammed = none → Raised (39 + (2 * a + b)) (jamIndex g n) 1 2 s t)
      ∧ (64 ≤ jamIndex g n → jamIndex g n < 160 → (tget s.nav.jamBand {} (2 * a + b)).warn = none →
          Raised (39 + (2 * a + b)) (jamIndex g n) 0 1 s t)
      ∧ (∀ k, k ≠ 2 * a + b → tget t.nav.jam 0 k = tget s.nav.jam 0 k) ∧ Only [.nav, .recorder] s t))
  ∧ (∀ p, pageOk p = false → Does (fun τ => .navPage τ p)
    (fun s => serves 1 s = true ∧ tracking s = true ∧ bitAt s.nav.bitsConst p.const = true ∧ bitAt s.nav.bitsAnt p.ant = true
      ∧ (s.course 1).pendingNotif = [] ∧ hasRoom s 1 (pagePayload s s p).length (keptFree s 1) = true)
    (fun s t => Told 1 33541 (pagePayload s s p) t ∧ Only [.courses] s t))
  ∧ (∀ p m sg r, pageOk p = true → osnmaPage p = true → p.data = [] → p.osnma = [.kroot true m sg r] → sg.length ≠ 64 →
      Does (fun τ => .navPage τ p) (fun s => serves 1 s = true ∧ tracking s = true ∧ timeUnsafe s = false)
    (fun s t => p.svid ∉ t.nav.osnmaAuthed ∧ (s.cfg.nav.osnmaRequire = true → p.svid ∈ t.nav.osnmaExcluded) ∧ Raised 43 p.svid 0 2 s t
      ∧ Only [.nav, .courses] s t))
  ∧ (∀ p d, pageOk p = true → p.const = 1 → p.osnma = [] → p.data = [.ephemeris d] → Does (fun τ => .navPage τ p)
    (fun s => serves 1 s = true ∧ tracking s = true ∧ (tget s.nav.data.ephemerides {} (satKey 1 p.svid)).data ≠ d)
    (fun s t => tget t.nav.data.ephemerides {} (satKey 1 p.svid) = { data := d, at_ := s.devtime } ∧ p.svid ∉ t.nav.osnmaAuthed
      ∧ Only [.nav, .courses] s t))
  ∧ (∀ a, a < 2 → Does (fun τ => .antennaLost τ a)
    (fun s => navRuns s = true ∧ (if a = 0 then s.nav.antLost.1 else s.nav.antLost.2) = false
      ∧ elapsed s (if a = 0 then s.nav.lossSince.1 else s.nav.lossSince.2) 1000000 = true)
    (fun s t => (if a = 0 then t.nav.antLost.1 else t.nav.antLost.2) = true
      ∧ (if a = 0 then t.nav.antLost.2 = s.nav.antLost.2 else t.nav.antLost.1 = s.nav.antLost.1) ∧ (t.src (37 + a)).active = true
      ∧ Raised (37 + a) 0 0 2 s t ∧ Only [.nav] s t))

/-- A correction frame of the source that is not configured, with a bad CRC, or of an unused type is counted; an MSM set renews the
correction age, and a base that has moved by more than 1 m is reported. Corrections older than the limit end RTK; a solution from ANT0
gives the fix type, and 200 ms without one dead reckoning (R77 to R82, R88). -/
def Obligations.Corrections : Prop :=
  (∀ f, Does (fun τ => .rtcmFrame τ f) (fun s => navRuns s = true ∧ f.uart0 ≠ s.cfg.nav.rtcmUart0)
    (fun s t => t.nav.rtcmWrongSource = (s.nav.rtcmWrongSource + f.bytes.length) % 4294967296 ∧ t.nav.corrAt = s.nav.corrAt
      ∧ Only [.nav] s t))
  ∧ (∀ f p r, Does (fun τ => .rtcmFrame τ f)
    (fun s => navRuns s = true ∧ f.uart0 = s.cfg.nav.rtcmUart0 ∧ rtcmNext (rtcmInput f s) = some (p, false, r))
    (fun s t => t.nav.rtcmCrc = (s.nav.rtcmCrc + 1) % 4294967296 ∧ t.nav.corrAt = s.nav.corrAt ∧ Only [.nav] s t))
  ∧ (∀ f p r, rtcmMsg p ∉ rtcmUsed → Does (fun τ => .rtcmFrame τ f)
    (fun s => navRuns s = true ∧ f.uart0 = s.cfg.nav.rtcmUart0 ∧ rtcmNext (rtcmInput f s) = some (p, true, r))
    (fun s t => t.nav.rtcmIgnored = (s.nav.rtcmIgnored + 1) % 4294967296 ∧ t.nav.corrAt = s.nav.corrAt ∧ Only [.nav] s t))
  ∧ (∀ f p r, rtcmMsg p ∈ rtcmUsed → rtcmMsg p ∉ [1005, 1006, 1033] → Does (fun τ => .rtcmFrame τ f)
    (fun s => navRuns s = true ∧ f.uart0 = s.cfg.nav.rtcmUart0 ∧ rtcmNext (rtcmInput f s) = some (p, true, r))
    (fun s t => t.nav.corrAt = some f.epochUs ∧ t.nav.rtkNone = false ∧ t.nav.arp = s.nav.arp ∧ Only [.nav] s t))
  ∧ (∀ f p r, rtcmMsg p = 1033 → Does (fun τ => .rtcmFrame τ f)
    (fun s => navRuns s = true ∧ f.uart0 = s.cfg.nav.rtcmUart0 ∧ rtcmNext (rtcmInput f s) = some (p, true, r))
    (fun s t => t.nav.descriptors = p ∧ t.nav.corrAt = s.nav.corrAt ∧ Only [.nav] s t))
  ∧ (∀ f p r q, rtcmMsg p ∈ [1005, 1006] → Does (fun τ => .rtcmFrame τ f)
    (fun s => navRuns s = true ∧ f.uart0 = s.cfg.nav.rtcmUart0 ∧ rtcmNext (rtcmInput f s) = some (p, true, r)
      ∧ s.nav.arp = some q ∧ baseMoved q (rtcmArp p) = true)
    (fun s t => t.nav.arp = some (rtcmArp p) ∧ (s.nav.fix = 4 → t.nav.fix = 3) ∧ (s.nav.fix ≠ 4 → t.nav.fix = s.nav.fix)
      ∧ Raised 44 0 0 1 s t ∧ Only [.nav, .recorder] s t))
  ∧ (∀ e, Does (fun τ => .correctionAgeExceeded τ)
    (fun s => navRuns s = true ∧ s.nav.rtkNone = false ∧ s.nav.corrAt = some e ∧ e + 100000 * s.cfg.nav.ageLimitDs < s.devtime
      ∧ (s.nav.fix = 3 ∨ s.nav.fix = 4))
    (fun s t => t.nav.rtkNone = true ∧ t.nav.fix = (if s.nav.sol.any (·.sbas) then 2 else 1) ∧ (t.src 45).active = true
      ∧ Only [.nav, .recorder] s t))
  ∧ (∀ sol, Does (fun τ => .rtkSolution τ sol) (fun s => serves 2 s = true ∧ navRuns s = true ∧ sol.galileo.all (usable s 1) = true)
    (fun s t => t.nav.sol = some sol ∧ t.nav.fix = (solutionFix s sol).1 ∧ t.nav.badEpochs = (solutionFix s sol).2
      ∧ t.nav.lastSolAt = some s.devtime ∧ t.nav.nsv = sol.nsv ∧ t.nav.e = s.nav.e ∧ Only [.nav, .courses, .recorder] s t))
  ∧ Does (fun τ => .deadReckoning τ)
    (fun s => navRuns s = true ∧ s.nav.fix ≠ 0 ∧ s.nav.fix ≠ 5 ∧ elapsed s s.nav.lastSolAt 200000 = true)
    (fun s t => t.nav.fix = 5 ∧ t.nav.solFix = 5 ∧ t.nav.drSince = some s.devtime ∧ Asserted 32 s t ∧ Only [.nav, .recorder] s t)
  ∧ (∀ v f g, v.1 ≠ 0 ∨ v.2.1 ≠ 0 → Does (fun τ => .baselineSolution τ v f g)
    (fun s => serves 2 s = true ∧ navRuns s = true ∧ g.all (usable s 1) = true)
    (fun s t => t.nav.baseVec = v ∧ t.nav.baseHeading = baselineHeading s v ∧ t.nav.baseFixed = f
      ∧ (20000 < baselineOff s v → t.nav.baseBadSince = some (s.nav.baseBadSince.getD s.devtime))
      ∧ (baselineOff s v ≤ 20000 → t.nav.baseBadSince = none) ∧ Only [.nav] s t))
  ∧ Does (fun τ => .baselineMismatch τ)
    (fun s => navRuns s = true ∧ s.nav.baseMark = false ∧ elapsed s s.nav.baseBadSince 1000000 = true)
    (fun s t => t.nav.baseMark = true ∧ t.nav.headingValid = false ∧ Raised 44 0 1 2 s t ∧ Only [.nav] s t)

/-- A fused epoch takes the position, dates the motion, and gives every unit its own speed from its lateral offset; the end of the hold
distance ends the hold, 5 m within the limit restore it; N_POS, the pulse and NMEA go out when they are due (R85, R88, R92, R94, R96 to
R98, R100, R101, R130, R349). -/
def Obligations.EpochsAndPulses : Prop :=
  (∀ f, Does (fun τ => .fusedEpoch τ f) (fun s => coreOut s 2 = false ∧ navRuns s = true)
    (fun s t => t.nav.epoch = some s.devtime ∧ t.nav.odoStale = false ∧ t.nav.fretsLive = true ∧ t.nav.firstEpoch = false
      ∧ t.nav.vbatMv = f.vbatMv
      ∧ (∀ p ∈ s.cfg.units.units, p.2.used = true → (t.unit p.1).motion.vUm =
          if t.odo.standstill || t.odo.primary.isNone then 0 else t.odo.speed - lateral t.nav.yawRate (s.unitCfg p.1).yMm)
      ∧ Only [.nav, .odo, .units, .clusters, .ledger, .courses, .recorder, .cov, .outputs, .dies] s t))
  ∧ Does (fun τ => .holdDistanceUsedUp τ)
    (fun s => navRuns s = true ∧ s.nav.uncertain = true ∧ s.nav.holdActive = true ∧ s.nav.holdLeft = 0)
    (fun s t => t.nav = { s.nav with holdActive := false } ∧ Only [.nav, .units, .clusters, .ledger, .recorder, .dies] s t)
  ∧ Does (fun τ => .holdDistanceRestored τ)
    (fun s => navRuns s = true ∧ s.nav.uncertain = false ∧ s.nav.everFix = true ∧ 5000000 ≤ s.nav.withinUm)
    (fun s t => t.nav = { s.nav with holdLeft := 1000 * s.cfg.package.holdDistMm } ∧ Only [.nav] s t)
  ∧ Does (fun τ => .nPos τ)
    (fun s => navRuns s = true ∧ posDue s = true ∧ (s.course 1).pendingNotif = []
      ∧ hasRoom s 1 s.nav.posMsg.length (keptFree s 1) = true)
    (fun s t => t.nav = { s.nav with posAt := some s.devtime } ∧ Told 1 33537 s.nav.posMsg t ∧ Only [.nav, .courses] s t)
  ∧ (∀ p, p.locked = true → Does (fun τ => .pps τ p) (fun s => navRuns s = true)
    (fun s t => t.nav.ppsAt = some s.devtime ∧ t.nav.quality = 1
      ∧ t.nav.utcS = (if p.leapActive && s.nav.ppsAt.isSome then s.nav.utcS else p.utcS) ∧ t.nav.gpsTow = p.gpsTow
      ∧ t.nav.errBound = p.errBoundNs ∧ t.power = { s.power with rtcMs := 1000 * t.nav.utcS, rtcAt := s.devtime, rtcSet := true, rtcErrUs := 1000 }
      ∧ Asserted 35 s t ∧ Only [.nav, .power, .courses, .recorder] s t))
  ∧ (∀ p, p.locked = false → p.leapActive = false → Does (fun τ => .pps τ p)
    (fun s => awake s = true ∧ s.start.configActive = true ∧ s.follower = false ∧ s.nav.ppsAt.isSome)
    (fun s t => t.nav.ppsAt = some s.devtime
      ∧ t.nav.utcS = s.nav.utcS + max 1 ((s.devtime - s.nav.ppsAt.getD s.devtime + 500000) / 1000000)
      ∧ t.nav.quality = (if s.nav.quality = 1 then 2 else s.nav.quality) ∧ Asserted 35 s t ∧ Only [.nav, .courses] s t))
  ∧ (∀ p, p.locked = false → Does (fun τ => .pps τ p) (fun s => s.nav.ppsAt = none) (fun s t => Only [] s t))
  ∧ Does (fun τ => .nmeaEpoch τ)
    (fun s => navRuns s = true ∧ ∀ x, s.nav.nmea = some x → x.1 + 1000000 / max 1 s.cfg.nav.nmeaHz ≤ s.devtime)
    (fun s t => t.nav = { s.nav with nmea := some (s.devtime, nmeaBlock s) } ∧ Only [.nav] s t)

/-- Navigation data are saved every 10 min; keep-warm starts a refresh out of PARK, and its end saves and goes back to PARK (R102, R104). -/
def Obligations.RetentionAndRefresh : Prop :=
  Does (fun τ => .navRetentionSave τ) (fun s => navRuns s = true ∧ s.nav.retentionAt + 600000000 ≤ s.devtime)
    (fun s t => t.nav = { s.nav with retention := some (navKept s, crc32c (navKept s).bytes), retentionAt := s.devtime }
      ∧ Only [.nav] s t)
  ∧ Does (fun τ => .navRetentionSave τ) (fun s => s.devtime < s.nav.retentionAt + 600000000) (fun s t => Only [] s t)
  ∧ Does (fun τ => .keepWarm τ)
    (fun s => s.power.state = .park ∧ s.cfg.nav.keepWarm = true
      ∧ s.power.warmFrom + 60000000 * s.cfg.nav.keepWarmMin ≤ s.devtime)
    (fun s t => t.power.state = .refresh ∧ t.power.refreshEnd = some (s.devtime + 20000000) ∧ t.power.corePwrEn = true
      ∧ t.power.warmFrom = s.devtime ∧ bitAt t.power.wakeBits 6 = true ∧ t.nav = (loadNav s).nav ∧ Only [.power, .nav] s t)
  ∧ (∀ e, Does (fun τ => .refreshEnd τ) (fun s => s.power.state = .refresh ∧ s.power.refreshEnd = some e ∧ e ≤ s.devtime)
    (fun s t => t.power.state = .park ∧ t.power.refreshEnd = none ∧ t.power.corePwrEn = false
      ∧ t.power.refreshed = true
      ∧ t.nav = navAfterReset { s.nav with retention := some (navKept s, crc32c (navKept s).bytes), retentionAt := s.devtime }
      ∧ Only [.power, .nav] s t))

/-! ## Odometry -/

/-- A channel's DIST grew by `d` parts of a milli-unit divided by SCALE × E (R108, R114). -/
def Travelled (ch : Nat) (d : Int) (s t : State) : Prop :=
  let den : Int := max 1 ((s.chanCfg ch).scale * edgesPer (s.chanCfg ch))
  (t.chan ch).dist * den + (t.chan ch).distPart = (s.chan ch).dist * den + (s.chan ch).distPart + d

/-- A counted edge of a single channel counts in the channel's direction; one too soon after the last is refused and counted; a quadrature
edge counts by the other line, and both lines at once are an error. The lines' inputs take their levels. Refused edges make a channel NOISY until 1 s of quiet, and no edge
for the timeout is standstill. An emulation pulse follows the distance, or is dropped beyond 20 kHz (R108 to R112, R117, R118, R137, R138, R307). -/
def Obligations.OdometryEdges : Prop :=
  (∀ z ch b, z.input < 8 → z.quarter < 4 → 2 ≤ z.lasts → Does (fun τ => .odoEdge τ z true b)
    (fun s => dieFed s 4 = true ∧ channelOf s z.input = some ch ∧ (s.chanCfg ch).quad = false ∧ (s.chanCfg ch).falling = false ∧ (s.chan ch).lineA = false
      ∧ ∀ e, (s.chan ch).lastEdge = some e → e + 4 * (s.chanCfg ch).minEdgeUs ≤ 4 * s.devtime + z.quarter)
    (fun s t => (t.chan ch).edgeCount = ((s.chan ch).edgeCount + 1) % 4294967296 ∧ (t.chan ch).lastEdge = some (4 * s.devtime + z.quarter)
      ∧ Travelled ch (if (dirOf s ch).1 then -1000000 else 1000000) s t ∧ (t.chan ch).lineA = true
      ∧ ((s.fiCfg z.input).mode = .fast → (t.fi z.input).raw = !(s.fiCfg z.input).invert ∧ (t.fi z.input).state = logical s z.input (!(s.fiCfg z.input).invert))
      ∧ (∀ k, k ≠ z.input → t.fi k = s.fi k) ∧ (∀ k, k ≠ ch → t.chan k = s.chan k) ∧ Only [.odo, .recorder, .inputs] s t))
  ∧ (∀ z a b, z.input < 8 → z.lasts < 2 → Does (fun τ => .odoEdge τ z a b) (fun _ => True) (fun s t => Only [] s t))
  ∧ (∀ z a b, z.input < 8 → 2 ≤ z.lasts → Does (fun τ => .odoEdge τ z a b) (fun s => dieFed s 4 = true ∧ channelOf s z.input = none ∧ (s.fiCfg z.input).mode = .fast)
    (fun s t => (t.fi z.input).raw = (a != (s.fiCfg z.input).invert) ∧ (t.fi z.input).state = logical s z.input (a != (s.fiCfg z.input).invert)
      ∧ (∀ k, k ≠ z.input → t.fi k = s.fi k) ∧ Only [.inputs] s t))
  ∧ (∀ z ch e b, z.input < 8 → z.quarter < 4 → 2 ≤ z.lasts → Does (fun τ => .odoEdge τ z true b)
    (fun s => dieFed s 4 = true ∧ channelOf s z.input = some ch ∧ (s.chanCfg ch).quad = false ∧ (s.chanCfg ch).falling = false ∧ (s.chan ch).lineA = false
      ∧ (s.chan ch).lastEdge = some e ∧ 4 * s.devtime + z.quarter < e + 4 * (s.chanCfg ch).minEdgeUs)
    (fun s t => (t.chan ch).edgeCount = (s.chan ch).edgeCount ∧ (t.chan ch).edgeFast = ((s.chan ch).edgeFast + 1) % 4294967296
      ∧ (t.chan ch).lastEdge = some e ∧ (∀ k, k ≠ z.input → t.fi k = s.fi k) ∧ Only [.odo, .inputs] s t))
  ∧ (∀ z ch a, z.input < 8 → z.quarter < 4 → 2 ≤ z.lasts → Does (fun τ => .odoEdge τ z a false)
    (fun s => dieFed s 4 = true ∧ channelOf s z.input = some ch ∧ (s.chanCfg ch).quad = true ∧ (s.chan ch).lineA ≠ a ∧ (s.chan ch).lineB = false
      ∧ ∀ e, (s.chan ch).lastEdge = some e → e + 4 * (s.chanCfg ch).minEdgeUs ≤ 4 * s.devtime + z.quarter)
    (fun s t => (t.chan ch).edgeCount = ((s.chan ch).edgeCount + 1) % 4294967296
      ∧ Travelled ch (if a then 1000000 else -1000000) s t ∧ (∀ k, k ≠ ch → k ≠ ch + 1 → t.fi k = s.fi k)
      ∧ Only [.odo, .recorder, .inputs] s t))
  ∧ (∀ z ch a b, z.input < 8 → z.quarter < 4 → 2 ≤ z.lasts → Does (fun τ => .odoEdge τ z a b)
    (fun s => dieFed s 4 = true ∧ channelOf s z.input = some ch ∧ (s.chanCfg ch).quad = true ∧ (s.chan ch).lineA ≠ a ∧ (s.chan ch).lineB ≠ b)
    (fun s t => (t.chan ch).quadError = ((s.chan ch).quadError + 1) % 4294967296 ∧ (t.chan ch).edgeCount = (s.chan ch).edgeCount
      ∧ Travelled ch 0 s t ∧ (∀ k, k ≠ ch → k ≠ ch + 1 → t.fi k = s.fi k)
      ∧ Only [.odo, .inputs] s t))
  ∧ (∀ ch, ch < 8 → Does (fun τ => .odoNoisy τ ch)
    (fun s => (s.chan ch).noisy = false ∧ 100 < ((s.chan ch).refused.filter fun u => decide (s.devtime < u + 100000)).length)
    (fun s t => (t.chan ch).noisy = true ∧ Raised (192 + ch) 0 0 2 s t ∧ Only [.odo, .dies] s t))
  ∧ (∀ ch, ch < 8 → Does (fun τ => .odoNoisyClear τ ch)
    (fun s => (s.chan ch).noisy = true ∧ ∀ u, (s.chan ch).refused.head? = some u → u + 1000000 ≤ s.devtime)
    (fun s t => (t.chan ch).noisy = false ∧ (t.chan ch).refused = [] ∧ Only [.odo] s t))
  ∧ (∀ ch, ch < 8 → Does (fun τ => .standstill τ ch)
    (fun s => (s.chan ch).standstill = false
      ∧ ∀ e, (s.chan ch).lastEdge = some e → e + 4000 * s.cfg.package.standstillMs ≤ 4 * s.devtime)
    (fun s t => (t.chan ch).standstill = true ∧ bitAt (channelWord t ch) 1 = true ∧ (t.chan ch).vMeas = 0 ∧ (t.chan ch).edgeCount = (s.chan ch).edgeCount
      ∧ (∀ k, k ≠ ch → t.chan k = s.chan k) ∧ Only [.odo] s t))
  ∧ Does (fun τ => .emulationPulse τ)
    (fun s => s.cfg.odo.emulation.mode = 1 ∧ emuDrives s = true ∧ s.odo.emuStopped = false ∧ s.odo.emuRate ≠ 0 ∧ emuGiven s < emuDue s
      ∧ ∀ l, s.odo.emuLast = some l → 1000000 ≤ (s.devtime - l) * 40000)
    (fun s t => t.odo.emuDone = s.odo.emuDone + 1 ∧ t.odo.emuLast = some s.devtime ∧ (t.fo 14).level = (s.odo.emuDone % 2 == 0)
      ∧ t.odo.emuDropped = s.odo.emuDropped ∧ (∀ k, k ≠ 14 → t.fo k = s.fo k) ∧ Only [.odo, .outputs] s t)
  ∧ (∀ l, Does (fun τ => .emulationPulse τ)
    (fun s => emuDrives s = true ∧ s.odo.emuStopped = false ∧ s.odo.emuRate ≠ 0
      ∧ emuGiven s + emuSteps s.cfg.odo.emulation ≤ emuDue s
      ∧ s.odo.emuLast = some l ∧ (s.devtime - l) * 20000 * emuSteps s.cfg.odo.emulation < 1000000)
    (fun s t => t.odo.emuDropped = s.odo.emuDropped + 1 ∧ t.odo.emuDone = s.odo.emuDone
      ∧ (s.odo.emuClamped = false → Raised 203 0 0 1 s t) ∧ Only [.odo] s t))

/-- A SENT frame with a bad CRC or format is discarded and counted, a good one gives value and status; ten bad ones in a row, or ten frame
periods without a good one, lose the channel. Two speed sources that have disagreed for 2 s are reported once; an excluded source that
has agreed for 10 s is taken back (R123, R124, R127). -/
def Obligations.SentAndSources : Prop :=
  (∀ ch c f, ch < 2 → sentCrcGood c f = false → Does (fun τ => .sentFrame τ ch f)
    (fun s => dieFed s 4 = true ∧ tfind s.cfg.odo.sent ch = some c ∧ (s.sentOf ch).badRun < 9 ∧ sentFormed c (s.sentOf ch).lastCal f = true)
    (fun s t => t.sentOf ch = { s.sentOf ch with crc := ((s.sentOf ch).crc + 1) % 4294967296, badRun := (s.sentOf ch).badRun + 1, goodRun := 0,
                                                 format := (s.sentOf ch).format % 4294967296, lastCal := some f.calNs }
      ∧ Only [.odo] s t))
  ∧ (∀ ch c f, ch < 2 → Does (fun τ => .sentFrame τ ch f)
    (fun s => dieFed s 4 = true ∧ tfind s.cfg.odo.sent ch = some c ∧ 9 ≤ (s.sentOf ch).badRun ∧ (s.sentOf ch).lost = false
      ∧ sentFormed c (s.sentOf ch).lastCal f = false)
    (fun s t => (t.sentOf ch).format = ((s.sentOf ch).format + 1) % 4294967296 ∧ (t.sentOf ch).lost = true
      ∧ (t.sentOf ch).loss = ((s.sentOf ch).loss + 1) % 4294967296 ∧ Raised (200 + ch) 0 0 2 s t ∧ Only [.odo, .dies] s t))
  ∧ (∀ ch c f, ch < 2 → sentCrcGood c f = true → Does (fun τ => .sentFrame τ ch f)
    (fun s => dieFed s 4 = true ∧ tfind s.cfg.odo.sent ch = some c ∧ sentFormed c (s.sentOf ch).lastCal f = true)
    (fun s t => (t.sentOf ch).value = (sentValues c f).1 ∧ (t.sentOf ch).value2 = (sentValues c f).2 ∧ (t.sentOf ch).status = (nth (sentNibbles f) 0 0).toNat
      ∧ (t.sentOf ch).lastAt = some s.devtime ∧ (t.sentOf ch).lastCal = some f.calNs
      ∧ (t.sentOf ch).badRun = 0 ∧ (10 ≤ (s.sentOf ch).goodRun + 1 → (t.sentOf ch).lost = false)
      ∧ (∀ k, k ≠ ch → t.sentOf k = s.sentOf k) ∧ Only [.odo] s t))
  ∧ (∀ ch c l, ch < 2 → Does (fun τ => .sentLost τ ch)
    (fun s => tfind s.cfg.odo.sent ch = some c ∧ (s.sentOf ch).lastAt = some l ∧ l + 10 * c.periodUs ≤ s.devtime ∧ (s.sentOf ch).lost = false)
    (fun s t => (t.sentOf ch).lost = true ∧ (t.sentOf ch).value = (s.sentOf ch).value ∧ Raised (200 + ch) 0 0 2 s t ∧ Only [.odo, .dies] s t))
  ∧ (∀ a b t0, a < b → b < 16 → Does (fun τ => .speedImplausible τ)
    (fun s => s.odo.pairs = [(16 * a + b, (t0, false))] ∧ t0 + 2000000 ≤ s.devtime ∧ (availableSources s).length ≤ 2)
    (fun s t => t.odo.pairs = [(16 * a + b, (t0, true))] ∧ Raised 202 (sourceId (nth (speedSources s) .gnss a)) 1 2 s t
      ∧ Only [.odo] s t))
  ∧ (∀ r a, r < 9 → Does (fun τ => .sourceRejoin τ r)
    (fun s => (tget s.odo.sources {} r).excluded = true ∧ (tget s.odo.sources {} r).agreeSince = some a ∧ a + 10000000 ≤ s.devtime)
    (fun s t => (tget t.odo.sources {} r).excluded = false ∧ (∀ k, k ≠ r → tget t.odo.sources {} k = tget s.odo.sources {} k)
      ∧ Only [.odo] s t))

/-! ## Decisions, tiles, the journal -/

/-- A gate that says OFF holds a section unit that is off and has no frets, with its reason; N_SECTIONS goes out at its rate; a wanted tile
comes into the cache, or is created; the journal commits every 100 ms, or a failed commit is reported; the latency tables are saved
every 10 min (R151, R153, R154, R162, R166, R167, R215, R498, R502). -/
def Obligations.DecisionsAndJournal : Prop :=
  (∀ u r, u < 128 → Does (fun τ => .decisionCycle τ)
    (fun s => cyclesRun s = true ∧ dozing s = false ∧ coreOut s 3 = false ∧ s.follower = false ∧ s.lead = false
      ∧ (s.host.silent && !s.cfg.host.autonomous) = false ∧ s.sectionUnits = [u] ∧ s.usedUnits = [u]
      ∧ gateOf s u = some (r, some false) ∧ (s.unit u).sect.commanded = false ∧ (s.unit u).sect.wanted = false
      ∧ (s.unit u).frets = [] ∧ (s.unit u).sect.reached ≠ some true)
    (fun s t => (t.unit u).sect.reason = r ∧ (t.unit u).sect.on = false ∧ (t.unit u).sect.commanded = false ∧ (t.unit u).frets = []
      ∧ (∀ v, v ≠ u → (t.unit v).sect = (s.unit v).sect)))
  ∧ Does (fun τ => .decisionCycle τ) (fun s => s.start.configActive = false) (fun s t => Only [] s t)
  ∧ Does (fun τ => .nSections τ)
    (fun s => cyclesRun s = true ∧ dozing s = false ∧ s.follower = false ∧ s.lead = false ∧ sectionsOld s (sectionsPeriod s) = true
      ∧ (s.course 1).pendingNotif = [] ∧ hasRoom s 1 (sectionsPayload s s.cfg.package.pkgIndex).length (keptFree s 1) = true)
    (fun s t => Told 1 33793 (sectionsPayload s s.cfg.package.pkgIndex) t ∧ t.cov = { s.cov with sectionsAt := some s.devtime, sectionsDue := false }
      ∧ Only [.courses, .cov] s t)
  ∧ (∀ tc tr fe, Does (fun τ => .tileLoadDone τ tc tr true false)
    (fun s => s.cov.opened.bind s.fieldEntry = some fe ∧ loadable s fe.fieldId tc tr = true ∧ coreOut s 3 = false
      ∧ (cachedTiles s).length < 128 ∧ tileAt s fe.fieldId tc tr = none ∧ s.cov.tiles.length < mapTiles s
      ∧ (s.cov.tiles.filter fun x => x.fieldId == fe.fieldId).length < 65536)
    (fun s t => (∃ x, tileAt t fe.fieldId tc tr = some x ∧ x.cached = true ∧ x.polyGen = fe.polyGen) ∧ Only [.cov, .recorder] s t))
  ∧ (∀ tc tr fe x, Does (fun τ => .tileLoadDone τ tc tr true false)
    (fun s => s.cov.opened.bind s.fieldEntry = some fe ∧ loadable s fe.fieldId tc tr = true ∧ coreOut s 3 = false
      ∧ (cachedTiles s).length < 128 ∧ tileAt s fe.fieldId tc tr = some x)
    (fun s t => (∃ y, tileAt t fe.fieldId tc tr = some y ∧ y.cached = true ∧ y.polyGen = fe.polyGen ∧ y.coverEpoch = fe.coverEpoch
        ∧ y.slot = x.slot)
      ∧ Only [.cov, .recorder] s t))
  ∧ Does (fun τ => .journalCommit τ true) (fun s => commitDue s = true)
    (fun s t => t.recorder.commitNo = s.recorder.commitNo + 1 ∧ t.recorder.committedAt = s.devtime ∧ t.cov.delta = []
      ∧ t.cov.dir = s.cov.fields ∧ logBytes t.cov ≤ 8388608
      ∧ (8388608 < logBytes s.cov → t.cov.log = [] ∧ (t.cov.supers.1 = t.recorder.commitNo ∨ t.cov.supers.2 = t.recorder.commitNo)) ∧ t.storage.failedCommits = 0 ∧ t.faults.calderaQueue = []
      ∧ Only [.recorder, .cov, .storage] s t)
  ∧ Does (fun τ => .journalCommit τ false) (fun s => commitDue s = true)
    (fun s t => t.recorder.commitNo = s.recorder.commitNo ∧ t.storage.failedCommits = s.storage.failedCommits + 1
      ∧ t.cov = s.cov ∧ Raised 248 0 1 3 s t ∧ Only [.recorder, .storage] s t)
  ∧ Does (fun τ => .latencySave τ)
    (fun s => awake s = true ∧ s.start.configActive = true ∧ partitionStopped s 5 = false ∧ s.storage.latencySavedAt + 600000000 ≤ s.devtime)
    (fun s t => t.storage.savedLatency = s.units.map (fun p => (p.1, { opening := p.2.learn.opening, closing := p.2.learn.closing, profile := (s.unitCfg p.1).profile, gainQ16 := p.2.drive.gainQ16 }))
      ∧ t.storage.latencySavedAt = s.devtime ∧ Only [.recorder, .cov, .storage] s t)

/-- A fret that is due fires: an on-fret starts its unit's profile when the cluster's slot is free, an off-fret turns a unit in hold off.
20 ms without an epoch stop on-kind frets; a fret suspended for 500 ms is cancelled; the slot-wait estimate halves every 100 ms without
a wait (R181, R184, R186, R187, R202, R203, R220). -/
def Obligations.FretEvents : Prop :=
  (∀ u f, u < 128 → f.action = 0 → Does (fun τ => .fretFire τ u)
    (fun s => (s.unit u).frets = [f] ∧ firesNow s u f = true ∧ (s.unit u).drive.mode = .onoff ∧ (s.unit u).drive.phase = .off ∧ staysOff s u = false
      ∧ (s.cluster (clusterOf u)).holder = none ∧ (s.cluster (clusterOf u)).queue = [])
    (fun s t => (t.unit u).drive.phase = .rise ∧ (t.unit u).drive.phaseAt = s.devtime ∧ (t.unit u).sect.commanded = true
      ∧ (t.unit u).fret.fired = (s.unit u).fret.fired + 1 ∧ (t.cluster (clusterOf u)).holder = some u
      ∧ (∀ v, v ≠ u → t.unit v = s.unit v) ∧ Only [.units, .clusters, .ledger, .courses, .recorder, .dies] s t))
  ∧ (∀ u f, u < 128 → f.action = 1 → Does (fun τ => .fretFire τ u)
    (fun s => (s.unit u).frets = [f] ∧ firesNow s u f = true ∧ (s.unit u).drive.mode = .onoff ∧ (s.unit u).drive.phase = .hold
      ∧ (s.cluster (clusterOf u)).queue = [])
    (fun s t => (t.unit u).drive.phase = .turnOff ∧ (t.unit u).sect.commanded = false
      ∧ (t.unit u).drive.closeWinEnd = some (s.devtime + s.closeWin u)
      ∧ (t.unit u).fret.fired = (s.unit u).fret.fired + 1 ∧ (∀ v, v ≠ u → t.unit v = s.unit v)
      ∧ Only [.units, .clusters, .ledger, .courses] s t))
  ∧ (∀ u, u < 128 → Does (fun τ => .fretFire τ u) (fun s => ∀ f ∈ (s.unit u).frets, firesNow s u f = false) (fun s t => Only [] s t))
  ∧ Does (fun τ => .odoStale τ)
    (fun s => s.power.state = .run ∧ s.start.configActive = true ∧ s.nav.odoStale = false ∧ s.nav.staleBase + 20000 ≤ s.devtime)
    (fun s t => t.nav = { s.nav with odoStale := true } ∧ Raised 74 0 0 3 s t ∧ Only [.nav] s t)
  ∧ (∀ u tag, u < 128 → Does (fun τ => .suspendCancel τ u tag) (fun s => (s.unit u).frets.any (overSuspended s.devtime tag) = true)
    (fun s t => (t.unit u).frets = (s.unit u).frets.filter (fun f => !overSuspended s.devtime tag f)
      ∧ (t.unit u).fret.suspendCancels = (s.unit u).fret.suspendCancels + ((s.unit u).frets.filter (overSuspended s.devtime tag)).length
      ∧ (∀ v, v ≠ u → t.unit v = s.unit v) ∧ Only [.units, .clusters, .ledger] s t))
  ∧ (∀ c, c < 16 → Does (fun τ => .slotWaitDecay τ c) (fun s => (s.cluster c).lastWaitAt + 100000 ≤ s.devtime)
    (fun s t => t.cluster c = { s.cluster c with
          slotWaitUs := if (s.cluster c).slotWaitUs / 2 < 10 then 0 else (s.cluster c).slotWaitUs / 2, lastWaitAt := s.devtime }
      ∧ (∀ d, d ≠ c → t.cluster d = s.cluster d) ∧ Only [.clusters] s t))

/-! ## Valve units -/

/-- The phases of a profile follow one another: the end of the rise within its limits, of peak hold and of transition; a rise that is too
fast is reported; one that reaches TTP_LIMIT with almost no current is an open load; a shot end turns the unit off (R220, R222, R244, R245,
Table 07-2). -/
def Obligations.ProfilePhases : Prop :=
  (∀ u mv, u < 128 → Does (fun τ => .riseEnd τ u mv)
    (fun s => (s.unit u).drive.phase = .rise ∧ (s.profile u).tPhUs ≠ 0
      ∧ (s.profile u).ttpMinUs * s.vRef u ≤ (s.devtime - (s.unit u).drive.phaseAt) * mv
      ∧ (s.devtime - (s.unit u).drive.phaseAt) * mv ≤ (s.profile u).ttpMaxUs * s.vRef u)
    (fun s t => (t.unit u).drive = { (s.unit u).drive with phase := .peakHold, phaseAt := s.devtime } ∧ (∀ v, v ≠ u → t.unit v = s.unit v)
      ∧ Only [.units, .clusters] s t))
  ∧ (∀ u mv, u < 128 → Does (fun τ => .riseEnd τ u mv)
    (fun s => (s.unit u).drive.phase = .rise ∧ (s.profile u).tPhUs ≠ 0 ∧ (s.unit u).drive.ttpRaisedAt = none
      ∧ (s.devtime - (s.unit u).drive.phaseAt) * mv < (s.profile u).ttpMinUs * s.vRef u)
    (fun s t => (t.unit u).drive.phase = .peakHold ∧ (t.unit u).valve.ttpShorts = (s.unit u).valve.ttpShorts + 1
      ∧ Raised (diagSrc u 1) u 1 2 s t ∧ (∀ v, v ≠ u → t.unit v = s.unit v) ∧ Only [.units, .clusters, .dies] s t))
  ∧ (∀ u mv, u < 128 → Does (fun τ => .riseEnd τ u mv) (fun s => (s.unit u).drive.phase ≠ .rise) (fun s t => Only [] s t))
  ∧ (∀ u ma mv, u < 128 → Does (fun τ => .ttpLimit τ u ma mv)
    (fun s => (s.unit u).drive.phase = .rise
      ∧ 2 * (s.profile u).ttpMaxUs * s.vRef u ≤ (s.devtime - (s.unit u).drive.phaseAt) * mv
      ∧ 5 * ma < (s.profile u).iPeak ∧ faulted s u = false ∧ muted s (.unit u) = false)
    (fun s t => (t.unit u).drive.fault = true ∧ (t.unit u).drive.cause = 3 ∧ Raised (diagSrc u 0) u 2 2 s t
      ∧ Only [.units, .clusters, .ledger, .recorder, .dies, .loops] s t))
  ∧ (∀ u ma mv, u < 128 → Does (fun τ => .ttpLimit τ u ma mv)
    (fun s => (s.unit u).drive.phase = .rise ∧ (s.profile u).tPhUs ≠ 0
      ∧ 2 * (s.profile u).ttpMaxUs * s.vRef u ≤ (s.devtime - (s.unit u).drive.phaseAt) * mv
      ∧ (s.profile u).iPeak ≤ 5 * ma)
    (fun s t => (t.unit u).drive.phase = .peakHold ∧ (t.unit u).valve.ttpLongs = (s.unit u).valve.ttpLongs + 1
      ∧ (∀ v, v ≠ u → t.unit v = s.unit v) ∧ Only [.units, .clusters, .dies, .loops] s t))
  ∧ (∀ u, u < 128 → Does (fun τ => .peakHoldEnd τ u)
    (fun s => phaseOver s u .peakHold (s.profile u).tPhUs = true ∧ (s.profile u).tTransUs ≠ 0)
    (fun s t => (t.unit u).drive = { (s.unit u).drive with phase := .transition, phaseAt := s.devtime } ∧ (∀ v, v ≠ u → t.unit v = s.unit v)
      ∧ Only [.units] s t))
  ∧ (∀ u, u < 128 → Does (fun τ => .transitionEnd τ u)
    (fun s => phaseOver s u .transition (s.profile u).tTransUs = true ∧ (s.cluster (clusterOf u)).holder = some u
      ∧ (s.cluster (clusterOf u)).queue = [])
    (fun s t => (t.unit u).drive = { (s.unit u).drive with phase := .hold, phaseAt := s.devtime, pairImbalance := false }
      ∧ (t.cluster (clusterOf u)).holder = none ∧ (∀ v, v ≠ u → t.unit v = s.unit v) ∧ Only [.units, .clusters, .ledger] s t))
  ∧ (∀ u ppm e, u < 128 → Does (fun τ => .shotEnd τ u ppm)
    (fun s => (s.unit u).drive.shotEnd = some e ∧ e ≤ s.devtime ∧ (s.unit u).drive.phase = .hold
      ∧ (s.cluster (clusterOf u)).queue = [])
    (fun s t => (t.unit u).drive.phase = .turnOff ∧ (t.unit u).drive.shotEnd = none ∧ (t.unit u).sect.commanded = false
      ∧ (t.unit u).drive.closeWinEnd = some (s.devtime + s.closeWin u) ∧ (∀ v, v ≠ u → t.unit v = s.unit v)
      ∧ Only [.units, .clusters, .ledger, .nav] s t))

/-- A nominal PWM cycle start of a unit whose duty the host set starts the profile for the duty's share of the period; a duty of 0 starts
none; a product's pressure that is not valid is reported once, and the duty stays; the end of the on-time turns the unit off
(R229 to R231, R274, R275). -/
def Obligations.PwmCycles : Prop :=
  (∀ u mp v, u < 128 → Does (fun τ => .pwmCycleStart τ u mp v)
    (fun s => cycleDueNow s u = true ∧ rateStaged s u = false ∧ 500 ≤ (s.unit u).drive.duty ∧ (s.unit u).drive.duty < 10000
      ∧ (s.unit u).drive.phase = .off ∧ (s.cluster (clusterOf u)).holder = none ∧ (s.cluster (clusterOf u)).queue = [])
    (fun s t => (t.unit u).drive.phase = .rise ∧ (t.unit u).drive.cycleStart = s.devtime ∧ (t.unit u).drive.dutyNow = (s.unit u).drive.duty
      ∧ (t.unit u).drive.onTimeEnd = some (s.devtime + (s.unit u).drive.duty * (1000000 / pwmHz s (clusterOf u)) / 10000)
      ∧ (t.unit u).drive.nextCycle = some (nextStart s u) ∧ (t.cluster (clusterOf u)).holder = some u
      ∧ (∀ w, w ≠ u → t.unit w = s.unit w) ∧ Only [.units, .clusters, .ledger, .recorder, .dies] s t))
  ∧ (∀ u mp v, u < 128 → Does (fun τ => .pwmCycleStart τ u mp v)
    (fun s => cycleDueNow s u = true ∧ rateStaged s u = false ∧ (s.unit u).drive.duty = 0 ∧ (s.unit u).drive.phase = .off)
    (fun s t => (t.unit u).drive.phase = .off ∧ (t.unit u).drive.dutyNow = 0 ∧ (∀ w, w ≠ u → t.unit w = s.unit w) ∧ Only [.units] s t))
  ∧ (∀ u mp x, u < 128 → Does (fun τ => .pwmCycleStart τ u mp false)
    (fun s => cycleDueNow s u = true ∧ rateStaged s u = true ∧ s.secOf u = some x ∧ x.product ∉ s.pressureBad)
    (fun s t => x.product ∈ t.pressureBad ∧ (t.unit u).drive.duty = (s.unit u).drive.dutyNow ∧ Raised 219 x.product 1 2 s t
      ∧ Only [.units, .clusters, .ledger, .recorder, .dies, .rates] s t))
  ∧ (∀ u mp v, u < 128 → Does (fun τ => .pwmCycleStart τ u mp v) (fun s => cycleDueNow s u = false) (fun s t => Only [] s t))
  ∧ (∀ u ppm e, u < 128 → Does (fun τ => .pwmOnTimeEnd τ u ppm)
    (fun s => (s.unit u).drive.onTimeEnd = some e ∧ e ≤ s.devtime ∧ (s.unit u).drive.phase = .hold ∧ (s.cluster (clusterOf u)).queue = [])
    (fun s t => (t.unit u).drive.phase = .turnOff ∧ (t.unit u).drive.onTimeEnd = none ∧ (t.unit u).drive.cycling = (s.unit u).drive.cycling
      ∧ (∀ w, w ≠ u → t.unit w = s.unit w) ∧ Only [.units, .clusters, .ledger, .nav] s t))

/-- A dip inside the opening window and a knee inside the closing window end the windows; a window that ends without one counts a miss, and
the n-th miss in a row is NO_MOTION or NO_RELEASE; a wait for the slot of more than 3 ms is counted as crowding (R239 to R242). -/
def Obligations.StrokeDetections : Prop :=
  (∀ u e, u < 128 → Does (fun τ => .dip τ u)
    (fun s => (s.unit u).drive.openWinEnd = some e ∧ s.devtime ≤ e ∧ (s.unit u).drive.dipSeen = false ∧ (s.unit u).drive.mode ≠ .prop
      ∧ (s.unit u).drive.phase ≠ .slotWait)
    (fun s t => (t.unit u).drive = { (s.unit u).drive with dipSeen := true, openWinEnd := none, missedDips := 0, noMotion := false }
      ∧ (t.unit u).learn.openEdge = none ∧ (∀ v, v ≠ u → t.unit v = s.unit v) ∧ Only [.units, .recorder] s t))
  ∧ (∀ u, u < 128 → Does (fun τ => .dip τ u) (fun s => (s.unit u).drive.openWinEnd = none) (fun s t => Only [] s t))
  ∧ (∀ u e, u < 128 → Does (fun τ => .openWinEnd τ u)
    (fun s => (s.unit u).drive.openWinEnd = some e ∧ e ≤ s.devtime ∧ ∀ m, (s.unit u).learn.openEdge = some m → m.restrike = false)
    (fun s t => (t.unit u).drive.openWinEnd = none ∧ (t.unit u).drive.missedDips = (s.unit u).drive.missedDips + 1
      ∧ (t.unit u).valve.dipsMissed = (s.unit u).valve.dipsMissed + 1
      ∧ ((s.unit u).drive.missedDips + 1 = (s.profile u).noMotionN → (t.unit u).drive.noMotion = true ∧ Raised (diagSrc u 1) u 3 2 s t)
      ∧ (∀ v, v ≠ u → t.unit v = s.unit v) ∧ Only [.units, .dies] s t))
  ∧ (∀ u e, u < 128 → Does (fun τ => .knee τ u) (fun s => (s.unit u).drive.closeWinEnd = some e ∧ s.devtime ≤ e)
    (fun s t => (t.unit u).drive = { (s.unit u).drive with
          closeWinEnd := none, missedKnees := 0, noRelease := false,
          phase := if (s.unit u).drive.phase = .turnOff then .off else (s.unit u).drive.phase }
      ∧ (t.unit u).learn.closeEdge = none ∧ (∀ v, v ≠ u → t.unit v = s.unit v) ∧ Only [.units, .clusters, .recorder] s t))
  ∧ (∀ u e, u < 128 → Does (fun τ => .closeWinEnd τ u) (fun s => (s.unit u).drive.closeWinEnd = some e ∧ e ≤ s.devtime)
    (fun s t => (t.unit u).drive.closeWinEnd = none ∧ (t.unit u).drive.missedKnees = (s.unit u).drive.missedKnees + 1
      ∧ (t.unit u).drive.phase = (if (s.unit u).drive.phase = .turnOff then .off else (s.unit u).drive.phase)
      ∧ (t.unit u).valve.kneesMissed = (s.unit u).valve.kneesMissed + 1
      ∧ ((s.unit u).drive.missedKnees + 1 = (s.profile u).noReleaseN → (t.unit u).drive.noRelease = true ∧ Raised (diagSrc u 1) u 4 3 s t)
      ∧ (∀ v, v ≠ u → t.unit v = s.unit v) ∧ Only [.units, .clusters, .dies] s t))
  ∧ (∀ u, u < 128 → Does (fun τ => .crowded τ u)
    (fun s => (s.unit u).drive.phase = .slotWait ∧ (s.unit u).drive.crowdedSeen = false ∧ (s.unit u).drive.askedAt + 3000 < s.devtime)
    (fun s t => (t.unit u).drive = { (s.unit u).drive with crowdedSeen := true }
      ∧ (t.cluster (clusterOf u)).crowdedEdges = ((s.cluster (clusterOf u)).crowdedEdges + 1) % 4294967296
      ∧ ((s.cluster (clusterOf u)).crowdedAt = none → Raised (diagSrc u 2) u 0 1 s t)
      ∧ (∀ v, v ≠ u → t.unit v = s.unit v) ∧ Only [.units, .clusters, .dies] s t))

/-- A unit diagnostic takes the unit into its fault state with the cause of Table 07-5 and reports it; a cluster diagnostic takes the cluster
and every unit of it; a saturated proportional unit and a pair's imbalance are reported and drive on; a boost fault stops the
converter (R227, R237, R248 to R250). -/
def Obligations.ValveFaults : Prop :=
  (∀ u, u < 128 → Does (fun τ => .coilShort τ u true) (fun s => faulted s u = false)
    (fun s t => (t.unit u).drive.fault = true ∧ (t.unit u).drive.cause = 1 ∧ Raised (diagSrc u 0) u 0 3 s t
      ∧ Only [.units, .clusters, .ledger, .recorder, .dies, .loops] s t))
  ∧ (∀ u, u < 128 → Does (fun τ => .coilShort τ u false) (fun s => faulted s u = false)
    (fun s t => (t.unit u).drive.fault = true ∧ (t.unit u).drive.cause = 2 ∧ Raised (diagSrc u 0) u 1 3 s t
      ∧ Only [.units, .clusters, .ledger, .recorder, .dies, .loops] s t))
  ∧ (∀ u, u < 128 → Does (fun τ => .openLoad τ u) (fun s => faulted s u = false)
    (fun s t => (t.unit u).drive.fault = true ∧ (t.unit u).drive.cause = 3
      ∧ (muted s (.unit u) = false → Raised (diagSrc u 0) u 2 2 s t)
      ∧ Only [.units, .clusters, .ledger, .recorder, .dies, .loops] s t))
  ∧ (∀ u, u < 128 → Does (fun τ => .unitOvertemp τ u) (fun s => faulted s u = false)
    (fun s t => (t.unit u).drive.fault = true ∧ (t.unit u).drive.cause = 4 ∧ Raised (diagSrc u 0) u 3 3 s t
      ∧ Only [.units, .clusters, .ledger, .recorder, .dies, .loops] s t))
  ∧ (∀ u, u < 128 → Does (fun τ => .unitOvertemp τ u) (fun s => faulted s u = true) (fun s t => Only [.loops] s t))
  ∧ (∀ u, u < 128 → Does (fun τ => .propSaturated τ u)
    (fun s => (s.unit u).drive.phase = .proportional ∧ (s.unit u).drive.setpoint ≠ 0 ∧ faulted s u = false)
    (fun s t => Raised (diagSrc u 1) u 0 2 s t ∧ Only [.dies] s t))
  ∧ (∀ u, u < 128 → Does (fun τ => .pairImbalance τ u)
    (fun s => (s.unitCfg u).pairOwner = true ∧ (s.unit u).drive.phase = .hold ∧ (s.unit u).drive.pairImbalance = false
      ∧ (s.unit u).drive.phaseAt + 1000 ≤ s.devtime)
    (fun s t => (t.unit u).drive = { (s.unit u).drive with pairImbalance := true } ∧ Raised (diagSrc u 1) u 5 2 s t
      ∧ (∀ v, v ≠ u → t.unit v = s.unit v) ∧ Only [.units, .dies] s t))
  ∧ (∀ d, d = 2 ∨ d = 3 → Does (fun τ => .boostFault τ d) (fun s => (s.boostOf d).running = true)
    (fun s t => (t.boostOf d).running = false ∧ (t.boostOf d).fault = true ∧ Raised (99 + 32 * (d - 2)) (8 * (d - 2)) 5 3 s t
      ∧ (∀ u, (t.unit u).drive = (s.unit u).drive) ∧ Only [.boost, .units, .clusters, .dies] s t))
  ∧ (∀ c, c < 16 → Does (fun τ => .shortToGnd τ c) (fun s => (s.cluster c).fault = false ∧ (s.cluster c).highSide = true)
    (fun s t => (t.cluster c).fault = true ∧ (t.cluster c).cause = 1 ∧ (t.cluster c).highSide = false
      ∧ (∀ u ∈ unitsOfCluster c, (t.unit u).drive.fault = true) ∧ Raised (99 + 4 * c) c 0 3 s t
      ∧ Only [.units, .clusters, .ledger, .recorder, .dies, .loops] s t))
  ∧ (∀ c, c < 16 → Does (fun τ => .hsOverload τ c) (fun s => (s.cluster c).fault = false ∧ (s.cluster c).highSide = true)
    (fun s t => (t.cluster c).fault = true ∧ (t.cluster c).cause = 2 ∧ (∀ u ∈ unitsOfCluster c, (t.unit u).drive.fault = true)
      ∧ Raised (99 + 4 * c) c 1 3 s t ∧ Only [.units, .clusters, .ledger, .recorder, .dies, .loops] s t))
  ∧ (∀ c, c < 16 → Does (fun τ => .hsOvertemp τ c) (fun s => (s.cluster c).fault = false)
    (fun s t => (t.cluster c).fault = true ∧ (t.cluster c).cause = 3 ∧ (∀ u ∈ unitsOfCluster c, (t.unit u).drive.fault = true)
      ∧ Raised (99 + 4 * c) c 2 3 s t ∧ Only [.units, .clusters, .ledger, .recorder, .dies, .loops] s t))
  ∧ (∀ c, c < 16 → Does (fun τ => .hsStuck τ c) (fun s => (s.cluster c).fault = false ∧ (s.cluster c).highSide = false)
    (fun s t => (t.cluster c).fault = true ∧ (t.cluster c).cause = 4 ∧ (∀ u ∈ unitsOfCluster c, (t.unit u).drive.fault = true)
      ∧ Raised (99 + 4 * c) c 3 3 s t ∧ Only [.units, .clusters, .ledger, .recorder, .dies, .loops] s t))

/-- The off-state test closes a quiet cluster's high-side switch for 12 ms, once per second; a gated cluster is ungated after 1 s; a trim
sample moves the gain of a unit that is steady in hold by an eighth of its error within the clamp, and 10 s at the clamp are reported;
a coil that has not been held for 60 s has the grid's temperature (R208, R246, R247, R350, R524). -/
def Obligations.ClusterTestsAndTrim : Prop :=
  (∀ c, c < 16 → Does (fun τ => .offStateTest τ c)
    (fun s => awake s = true ∧ s.power.state = .run ∧ (s.cluster c).fault = false ∧ (s.cluster c).testAt = none ∧ clusterIdle s c = true
      ∧ (s.cluster c).lastTestAt + 1000000 ≤ s.devtime ∧ (s.cluster c).gated = false)
    (fun s t => (t.cluster c).testAt = some s.devtime ∧ (t.cluster c).lastTestAt = s.devtime ∧ (t.cluster c).highSide = true
      ∧ (∀ d, d ≠ c → t.cluster d = s.cluster d) ∧ Only [.clusters] s t))
  ∧ (∀ c, c < 16 → Does (fun τ => .offStateTest τ c) (fun s => s.devtime < (s.cluster c).lastTestAt + 1000000) (fun s t => Only [] s t))
  ∧ (∀ c a, c < 16 → Does (fun τ => .offStateTestEnd τ c) (fun s => (s.cluster c).testAt = some a ∧ a + 12000 ≤ s.devtime)
    (fun s t => (t.cluster c).testAt = none ∧ (∀ d, d ≠ c → t.cluster d = s.cluster d) ∧ Only [.clusters] s t))
  ∧ (∀ c, c < 16 → Does (fun τ => .clusterUngate τ c)
    (fun s => (s.cluster c).gated = true ∧ (s.cluster c).gatedAt + 1000000 ≤ s.devtime)
    (fun s t => t.cluster c = { s.cluster c with gated := false } ∧ (∀ d, d ≠ c → t.cluster d = s.cluster d) ∧ Only [.clusters] s t))
  ∧ (∀ c m cur u, c < 16 → 1000 ≤ m → 0 < tget cur 0 u → Does (fun τ => .senseTrimSample τ c m cur)
    (fun s => steadyUnits s c = [u] ∧ trimReady s c = true ∧ (s.cluster c).trimAt.all (fun a => decide (a + 1000 ≤ s.devtime)) = true)
    (fun s t => (t.unit u).drive.gainQ16 = clamp ((s.unit u).drive.calQ16 - 1966) ((s.unit u).drive.calQ16 + 1966) ((s.unit u).drive.gainQ16
          + roundDiv (((m : Int) - tget cur 0 u) * tget cur 0 u * 65536) (8 * tget cur 0 u * tget cur 0 u))
      ∧ (∀ v, v ≠ u → t.unit v = s.unit v) ∧ t.cluster c = { s.cluster c with trimAt := some s.devtime }
      ∧ (∀ d, d ≠ c → t.cluster d = s.cluster d) ∧ Only [.units, .clusters] s t))
  ∧ (∀ u a, u < 128 → Does (fun τ => .senseTrimLimit τ u)
    (fun s => (s.unit u).drive.clampSince = some a ∧ a + 10000000 ≤ s.devtime)
    (fun s t => (t.unit u).drive.clampSince = none ∧ Raised (diagSrc u 2) u 1 2 s t ∧ (∀ v, v ≠ u → t.unit v = s.unit v)
      ∧ Only [.units, .dies] s t))
  ∧ (∀ u g a, u < 128 → Does (fun τ => .coilTemperatureTimeout τ u g)
    (fun s => (s.unit u).learn.lastHold = some a ∧ a + 60000000 ≤ s.devtime)
    (fun s t => (t.unit u).learn = { (s.unit u).learn with lastHold := none, tempMc := g }
      ∧ tget t.nav.gridMc 25000 (regionOf (clusterOf u)) = g ∧ (∀ v, v ≠ u → t.unit v = s.unit v) ∧ Only [.units, .nav] s t))

/-! ## Loops -/

/-- A sample in MANUAL applies the manual value within the output limits and takes the feedback's value, and one with invalid feedback
reports it and holds; a mode that the host set takes effect at a sample; after FB_HOLD the output goes to OUT_SAFE; the plausibility
model follows the output, and a residual that stays above its limit is reported (R258, R259, R263, R264, R270 to R272). -/
def Obligations.LoopEvents : Prop :=
  (∀ l a v, l < 128 → Does (fun τ => .loopSample τ l (some v))
    (fun s => loopRuns s l = true ∧ onBeat (1000000 / max 1 (s.loopCfg l).rateHz) s.devtime = true ∧ (s.loopCfg l).fb = .ai a
      ∧ (s.ai a).valid = true ∧ (s.loop l).mode = .manual ∧ (s.loop l).newMode = none ∧ (s.loop l).writes = []
      ∧ (s.loop l).deviceHold = false ∧ (s.loop l).fbInvalid = false ∧ (s.loop l).outFault = false
      ∧ (s.loop l).params.outLo ≤ (s.loop l).params.outHi)
    (fun s t => (t.loop l).pv = v ∧ (t.loop l).u = clamp (s.loop l).params.outLo (s.loop l).params.outHi (s.loop l).manual
      ∧ (t.loop l).mode = .manual
      ∧ Only [.loops, .units, .clusters, .ledger, .switches, .vents, .recorder, .rates, .courses, .dies] s t))
  ∧ (∀ l v, l < 128 → Does (fun τ => .loopSample τ l v)
    (fun s => loopRuns s l = true ∧ onBeat (1000000 / max 1 (s.loopCfg l).rateHz) s.devtime = true ∧ feedbackValid s l = false
      ∧ (s.loop l).mode = .manual ∧ (s.loop l).newMode = none ∧ (s.loop l).writes = [] ∧ (s.loop l).deviceHold = false
      ∧ (s.loop l).fbInvalid = false)
    (fun s t => (t.loop l).fbInvalid = true ∧ (t.loop l).fbHolding = true ∧ (t.loop l).fbInvalidAt = s.devtime
      ∧ (t.loop l).u = (s.loop l).u ∧ Raised 217 l 0 2 s t ∧ Only [.loops] s t))
  ∧ (∀ l v, l < 128 → Does (fun τ => .loopSample τ l v)
    (fun s => loopRuns s l = true ∧ onBeat (1000000 / max 1 (s.loopCfg l).rateHz) s.devtime = true ∧ (s.loop l).newMode = some .hold
      ∧ (s.loop l).writes = [] ∧ (s.loop l).outFault = false)
    (fun s t => (t.loop l).mode = .hold ∧ (t.loop l).newMode = none ∧ (t.loop l).u = (s.loop l).u ∧ Only [.loops] s t))
  ∧ (∀ l v, l < 128 → Does (fun τ => .loopSample τ l v)
    (fun s => onBeat (1000000 / max 1 (s.loopCfg l).rateHz) s.devtime = false) (fun s t => Only [.loops] s t))
  ∧ (∀ l, l < 128 → Does (fun τ => .fbHoldExpiry τ l)
    (fun s => loopRuns s l = true ∧ (s.loop l).fbHolding = true ∧ (s.loop l).outFault = false
      ∧ (s.loop l).fbInvalidAt + 1000 * (s.loop l).params.fbHoldMs.toNat ≤ s.devtime)
    (fun s t => (t.loop l).fbHolding = false ∧ (t.loop l).u = (s.loop l).params.outSafe
      ∧ Only [.loops, .units, .clusters, .ledger, .switches, .vents, .recorder, .rates, .courses, .dies] s t))
  ∧ (∀ l, l < 128 → Does (fun τ => .plausibilityUpdate τ l)
    (fun s => loopRuns s l = true ∧ onBeat 10000 s.devtime = true ∧ (s.loop l).params.plausEnable ≠ 0 ∧ (s.loop l).mode = .manual
      ∧ (s.loop l).fbInvalid = false ∧ (s.loop l).outFault = false
      ∧ s.devtime < (s.loop l).plausAt + 1000 * ((s.loop l).params.thetaMs + 3 * (s.loop l).params.tauMs).toNat)
    (fun s t => (t.loop l).yM = (s.loop l).predict.yM ∧ (t.loop l).rF = (s.loop l).predict.rF ∧ (t.loop l).overSince = none
      ∧ (t.loop l).plausFault = (s.loop l).plausFault ∧ Only [.loops] s t))
  ∧ (∀ l t0, l < 128 → Does (fun τ => .plausibilityUpdate τ l)
    (fun s => loopRuns s l = true ∧ onBeat 10000 s.devtime = true ∧ (s.loop l).params.plausEnable ≠ 0 ∧ (s.loop l).mode = .manual
      ∧ (s.loop l).fbInvalid = false ∧ (s.loop l).outFault = false ∧ (s.loop l).plausFault = false ∧ (s.loop l).params.policy ≠ 1
      ∧ (s.loop l).plausAt + 1000 * ((s.loop l).params.thetaMs + 3 * (s.loop l).params.tauMs).toNat ≤ s.devtime
      ∧ (s.loop l).overSince = some t0 ∧ t0 + 1000 * (s.loop l).params.rTimeMs.toNat ≤ s.devtime
      ∧ (s.loop l).params.rThr * 65536 < mag (s.loop l).predict.rF)
    (fun s t => (t.loop l).plausFault = true ∧ (t.loop l).mode = .manual ∧ Raised 218 l 0 3 s t ∧ Only [.loops] s t))

/-! ## Switch channels -/

/-- A short, an overcurrent outside inrush and disturbance, and the thermal latch take a channel that is on to BACKOFF while retries are left,
with its charges and its reservation returned; a short opens the cluster's disturbance window; a latch that stays set for 2 s locks
the channel; open load sets after 100 ms and clears (R282, R283, R285 to R288, R293, R297). -/
def Obligations.SwitchFaults : Prop :=
  (∀ n cl, n < 24 → Does (fun τ => .swShort τ n cl)
    (fun s => swOn (s.sw n) = true ∧ 0 < (s.sw n).retryLeft ∧ (clampOf cl n).1 ≤ clampLimit n ∧ (s.swCfg n).extFreewheel = false)
    (fun s t => (t.sw n).state = .backoff ∧ (t.sw n).base = 0 ∧ (t.sw n).surcharge = 0 ∧ (t.sw n).ventReserved = 0
      ∧ (t.sw n).lastFault = 0 ∧ (t.sw n).tripAt = s.devtime ∧ (t.vent (swClusterOf n)).disturbEnd = some (s.devtime + 500)
      ∧ (t.vent (swClusterOf n)).used = (s.vent (swClusterOf n)).used + (clampOf cl n).1
      ∧ (∀ m, m ≠ n → (t.sw m).state = (s.sw m).state) ∧ Raised (160 + n) n 0 3 s t
      ∧ Only [.switches, .vents, .ledger, .recorder, .courses, .dies, .loops] s t))
  ∧ (∀ n cl, n < 24 → Does (fun τ => .swShort τ n cl)
    (fun s => swOn (s.sw n) = true ∧ (s.sw n).retryLeft = 0 ∧ (clampOf cl n).1 ≤ clampLimit n ∧ (s.swCfg n).extFreewheel = false)
    (fun s t => (t.sw n).state = .exhausted ∧ (t.sw n).base = 0 ∧ Raised (160 + n) n 0 3 s t
      ∧ Only [.switches, .vents, .ledger, .recorder, .courses, .dies, .loops] s t))
  ∧ (∀ n cl, n < 24 → Does (fun τ => .swOvercurrent τ n cl)
    (fun s => (s.sw n).state = .on ∧ disturbed s n = false ∧ (s.sw n).onSince + 2000 ≤ s.devtime ∧ 0 < (s.sw n).retryLeft
      ∧ (clampOf cl n).1 ≤ clampLimit n ∧ (s.swCfg n).extFreewheel = false)
    (fun s t => (t.sw n).state = .backoff ∧ (t.sw n).base = 0 ∧ (t.sw n).lastFault = 1 ∧ (∀ m, m ≠ n → t.sw m = s.sw m)
      ∧ Raised (160 + n) n 1 3 s t ∧ Only [.switches, .vents, .ledger, .recorder, .courses, .dies, .loops] s t))
  ∧ (∀ n cl, n < 24 → Does (fun τ => .swOvercurrent τ n cl) (fun s => (s.sw n).state = .inrush) (fun s t => Only [.loops] s t))
  ∧ (∀ n cl, n < 24 → Does (fun τ => .swOvertemp τ n cl)
    (fun s => (s.sw n).latch = false ∧ swOn (s.sw n) = true ∧ 0 < (s.sw n).retryLeft ∧ (clampOf cl n).1 ≤ clampLimit n
      ∧ (s.swCfg n).extFreewheel = false)
    (fun s t => (t.sw n).state = .backoff ∧ (t.sw n).latch = true ∧ (t.sw n).latchAt = some s.devtime ∧ (∀ m, m ≠ n → t.sw m = s.sw m)
      ∧ Raised (160 + n) n 2 3 s t ∧ Only [.switches, .vents, .ledger, .recorder, .courses, .dies, .loops] s t))
  ∧ (∀ n cl, n < 24 → Does (fun τ => .swOvertemp τ n cl) (fun s => (s.sw n).latch = false ∧ swOn (s.sw n) = false)
    (fun s t => (t.sw n).state = (s.sw n).state ∧ (t.sw n).latch = true ∧ Raised (160 + n) n 2 3 s t ∧ Only [.switches, .ledger, .dies, .loops] s t))
  ∧ (∀ n, n < 24 → Does (fun τ => .thermalLatchClear τ n) (fun s => (s.sw n).latch = true ∧ (s.sw n).state ≠ .latchWait)
    (fun s t => t.sw n = { s.sw n with latch := false, latchAt := none } ∧ (∀ m, m ≠ n → t.sw m = s.sw m) ∧ Only [.switches, .loops] s t))
  ∧ (∀ n a, n < 24 → Does (fun τ => .thermalHold τ n) (fun s => (s.sw n).latchAt = some a ∧ a + 2000000 ≤ s.devtime)
    (fun s t => (t.sw n).state = .locked ∧ (t.sw n).lockCause = 1 ∧ (t.sw n).latch = (s.sw n).latch ∧ (∀ m, m ≠ n → t.sw m = s.sw m)
      ∧ Only [.switches, .courses, .loops] s t))
  ∧ (∀ n, n < 24 → Does (fun τ => .swOpenLoad τ n)
    (fun s => (s.sw n).state = .on ∧ (s.sw n).openLoad = false ∧ disturbed s n = false ∧ (s.sw n).onSince + 100000 ≤ s.devtime)
    (fun s t => (t.sw n).openLoad = true ∧ (t.sw n).state = .on ∧ (muted s (.switch n) = false → Raised (160 + n) n 3 2 s t)
      ∧ (∀ m, m ≠ n → t.sw m = s.sw m) ∧ Only [.switches, .dies, .loops] s t))
  ∧ (∀ n, n < 24 → Does (fun τ => .openLoadClear τ n)
    (fun s => (s.sw n).state = .on ∧ (s.sw n).onSince + 100000 ≤ s.devtime ∧ (s.sw n).openAt + 100000 ≤ s.devtime)
    (fun s t => t.sw n = { s.sw n with openLoad := false } ∧ (∀ m, m ≠ n → t.sw m = s.sw m) ∧ Only [.switches, .loops] s t))

/-- The inrush window ends in ON and its surcharge returns; 10 s without a fault restore the retries; a restart after BACKOFF takes its
charges and its reservation, or waits for the vent budget and is tried again; a vent lock ends once the budget is there; a disturbance
window ends after 500 µs; a PWM period begins with the duty in force (R37, R284, R287, R288, R293, R294, R297, R298). -/
def Obligations.SwitchTimers : Prop :=
  (∀ n e f, n < 24 → Does (fun τ => .inrushEnd τ n)
    (fun s => (s.sw n).state = .inrush ∧ (s.sw n).inrushEnd = some e ∧ e ≤ s.devtime ∧ (s.sw n).surchargeEnd = some f ∧ f ≤ s.devtime)
    (fun s t => t.sw n = { s.sw n with state := .on, inrushEnd := none, surchargeEnd := none, surcharge := 0, onSince := s.devtime }
      ∧ (∀ m, m ≠ n → t.sw m = s.sw m) ∧ Only [.switches, .ledger, .loops] s t))
  ∧ (∀ n, n < 24 → Does (fun τ => .retryReset τ n) (fun s => (s.sw n).state = .on ∧ (s.sw n).onSince + 10000000 ≤ s.devtime)
    (fun s t => t.sw n = { s.sw n with retryLeft := retryN s n } ∧ (∀ m, m ≠ n → t.sw m = s.sw m) ∧ Only [.switches, .loops] s t))
  ∧ (∀ n, n < 24 → Does (fun τ => .backoffEnd τ n)
    (fun s => (s.sw n).state = .backoff ∧ (s.sw n).ventWait = false ∧ (s.sw n).creditWait = false ∧ (s.sw n).limp = false
      ∧ (s.sw n).tripAt + backoffUs s n ≤ s.devtime ∧ (s.sw n).latch = false ∧ 0 < (s.sw n).retryLeft ∧ ventOk s n = true ∧ coreOut s 0 = false
      ∧ refusal s (along (chainSw s n) (swBaseOf s n + swSurchargeOf s n)) = none)
    (fun s t => (t.sw n).state = (if inrushMsOf (s.swCfg n) = 0 then SwState.on else .inrush) ∧ (t.sw n).retryLeft = (s.sw n).retryLeft - 1
      ∧ (t.sw n).base = swBaseOf s n ∧ (t.sw n).ventReserved = (s.sw n).eLast ∧ (∀ m, m ≠ n → t.sw m = s.sw m)
      ∧ Only [.switches, .vents, .ledger, .recorder, .loops] s t))
  ∧ (∀ n, n < 24 → Does (fun τ => .backoffEnd τ n)
    (fun s => (s.sw n).state = .backoff ∧ (s.sw n).ventWait = false ∧ (s.sw n).creditWait = false
      ∧ (s.sw n).tripAt + backoffUs s n ≤ s.devtime ∧ (s.sw n).latch = false ∧ 0 < (s.sw n).retryLeft ∧ ventOk s n = false)
    (fun s t => t.sw n = { s.sw n with ventWait := true, creditWait := false, triedAt := s.devtime } ∧ (∀ m, m ≠ n → t.sw m = s.sw m)
      ∧ Only [.switches, .loops] s t))
  ∧ (∀ n, n < 24 → Does (fun τ => .restartRetry τ n)
    (fun s => (s.sw n).state = .backoff ∧ (s.sw n).ventWait = true ∧ (s.sw n).triedAt + 10000 ≤ s.devtime ∧ (s.sw n).limp = false
      ∧ (s.sw n).latch = false ∧ 0 < (s.sw n).retryLeft ∧ ventOk s n = true ∧ coreOut s 0 = false
      ∧ refusal s (along (chainSw s n) (swBaseOf s n + swSurchargeOf s n)) = none)
    (fun s t => (t.sw n).state = (if inrushMsOf (s.swCfg n) = 0 then SwState.on else .inrush) ∧ (t.sw n).ventWait = false
      ∧ (t.sw n).ventReserved = (s.sw n).eLast ∧ (∀ m, m ≠ n → t.sw m = s.sw m)
      ∧ Only [.switches, .vents, .ledger, .recorder, .loops] s t))
  ∧ (∀ n, n < 24 → Does (fun τ => .ventUnlock τ n) (fun s => (s.sw n).ventLocked = true ∧ ventOk s n = true)
    (fun s t => t.sw n = { s.sw n with ventLocked := false } ∧ (∀ m, m ≠ n → t.sw m = s.sw m) ∧ Only [.switches, .courses, .loops] s t))
  ∧ (∀ n, n < 24 → Does (fun τ => .ventUnlock τ n) (fun s => ventOk s n = false) (fun s t => Only [.loops] s t))
  ∧ (∀ c e, c < 6 → Does (fun τ => .disturbanceWindowEnd τ c) (fun s => (s.vent c).disturbEnd = some e ∧ e ≤ s.devtime)
    (fun s t => t.vent c = { s.vent c with disturbEnd := none } ∧ (∀ k, k ≠ c → t.vent k = s.vent k) ∧ Only [.vents] s t))
  ∧ (∀ n cl, n < 24 → Does (fun τ => .swPwmPeriod τ n cl)
    (fun s => swOn (s.sw n) = true ∧ (s.swCfg n).pwmHz ≠ 0 ∧ ((s.sw n).dutyNow = 0 ∨ 10000 ≤ (s.sw n).dutyNow))
    (fun s t => t.sw n = { s.sw n with dutyNow := (s.sw n).duty } ∧ (∀ m, m ≠ n → t.sw m = s.sw m) ∧ Only [.switches, .loops] s t))
  ∧ (∀ n cl, n < 24 → Does (fun τ => .swPwmPeriod τ n cl)
    (fun s => swOn (s.sw n) = true ∧ (s.swCfg n).pwmHz ≠ 0 ∧ 0 < (s.sw n).dutyNow ∧ (s.sw n).dutyNow < 10000
      ∧ (clampOf cl n).1 ≤ clampLimit n ∧ (s.swCfg n).extFreewheel = false)
    (fun s t => (t.sw n).dutyNow = (s.sw n).duty ∧ (t.sw n).state = (s.sw n).state
      ∧ (t.vent (swClusterOf n)).used = (s.vent (swClusterOf n)).used + (clampOf cl n).1 ∧ (∀ m, m ≠ n → t.sw m = s.sw m)
      ∧ Only [.switches, .vents, .recorder, .loops] s t))

/-- Limp home takes the channels that the fuse map names, and D4 then acts alone; an input turns its channel on with its charge and
reservation, and off; the end of limp home gives the channels back and the die's counts to the package (R300 to R303, R523). -/
def Obligations.LimpHome : Prop :=
  (∀ cl, Does (fun τ => .limpEnter τ cl) (fun s => s.limp = none ∧ s.start.fuseOk = true)
    (fun s t => t.limp = some s.devtime ∧ (t.die 4).solo.isSome
      ∧ (∀ n, n < 24 → (limpEntry s n).isSome → (t.sw n).limp = true)
      ∧ (∀ n, n < 24 → limpEntry s n = none → t.sw n = s.sw n)
      ∧ ((∀ n, n < 24 → swOn (s.sw n) = false) → Raised 190 0 0 2 s t)
      ∧ Only [.limp, .switches, .vents, .ledger, .recorder, .courses, .dies, .loops] s t))
  ∧ (∀ cl, Does (fun τ => .limpEnter τ cl) (fun s => s.start.fuseOk = false) (fun s t => Only [.loops] s t))
  ∧ (∀ i n cl, i < 8 → Does (fun τ => .limpInput τ i true cl)
    (fun s => limpChannel s i = some n ∧ s.limp.isSome ∧ (s.sw n).limp = true ∧ (s.sw n).state = .off ∧ (s.sw n).latch = false
      ∧ regionOff s (.switch n) = false ∧ unavailable s (.switch n) = false ∧ ventOk s n = true ∧ (s.die 4).tableOk = true
      ∧ refusal s (along (chainSw s n) (swBaseOf s n + swSurchargeOf s n)) = none)
    (fun s t => (t.sw n).limpOn = true ∧ (t.sw n).state = (if inrushMsOf (s.swCfg n) = 0 then SwState.on else .inrush)
      ∧ (t.sw n).ventReserved = (s.sw n).eLast ∧ (∀ m, m ≠ n → t.sw m = s.sw m)
      ∧ Only [.switches, .vents, .ledger, .recorder, .loops] s t))
  ∧ (∀ i n cl, i < 8 → Does (fun τ => .limpInput τ i false cl)
    (fun s => limpChannel s i = some n ∧ s.limp.isSome ∧ (s.sw n).limp = true ∧ (s.sw n).state = .on
      ∧ (clampOf cl n).1 ≤ clampLimit n ∧ (s.swCfg n).extFreewheel = false)
    (fun s t => (t.sw n).limpOn = false ∧ (t.sw n).state = .off ∧ (t.sw n).base = 0 ∧ (∀ m, m ≠ n → t.sw m = s.sw m)
      ∧ Only [.switches, .vents, .ledger, .recorder, .courses, .loops] s t))
  ∧ (∀ i b cl, i < 8 → Does (fun τ => .limpInput τ i b cl) (fun s => s.limp = none) (fun s t => Only [.loops] s t))
  ∧ (∀ cl, Does (fun τ => .limpExit τ cl)
    (fun s => s.limp.isSome ∧ (s.die 4).silent = false ∧ (∀ a, (s.die 4).backAt = some a → a + 10000 ≤ s.devtime)
      ∧ ∀ n, n < 24 → (s.sw n).limp = true → swOn (s.sw n) = false)
    (fun s t => t.limp = none ∧ (t.die 4).solo = none ∧ (∀ n, n < 24 → (t.sw n).limp = false ∧ (t.sw n).state = (s.sw n).state)
      ∧ Raised 190 0 1 2 s t ∧ Only [.limp, .switches, .ledger, .dies, .loops] s t))

/-! ## Field I/O -/

/-- A DIGITAL input takes its contact's state, an input's wire-break class is taken and a break reported, and an OPERATOR input that has
stayed for DEBOUNCE is taken and notified; the key input's opening is KEY_OFF and starts the automatic park's delay. An overloaded
20 mA input opens its burden, a test closes it, and an analog reading is scaled and judged (R307, R309 to R314, R339). -/
def Obligations.FieldInputs : Prop :=
  (∀ i closed, i < 32 → Does (fun τ => .inputStateChange τ i closed) (fun s => dieFed s 4 = true ∧ (s.fiCfg i).mode = .digital)
    (fun s t => t.fi i = { s.fi i with raw := closed, state := (closed && (s.fi i).cls != 3) != (s.fiCfg i).invert }
      ∧ (∀ k, k ≠ i → t.fi k = s.fi k) ∧ Only [.inputs] s t))
  ∧ (∀ i closed, i < 32 → Does (fun τ => .inputStateChange τ i closed) (fun s => (s.fiCfg i).mode ≠ .digital) (fun s t => Only [] s t))
  ∧ (∀ i low, i < 32 → Does (fun τ => .fiWireBreak τ i 3 low)
    (fun s => dieFed s 4 = true ∧ (s.fiCfg i).wb = true ∧ (s.fi i).cls ≠ 3 ∧ (s.fiCfg i).mode ≠ .fast)
    (fun s t => (t.fi i).cls = 3 ∧ (t.fi i).breaks = (s.fi i).breaks + 1 ∧ (muted s (.fi i) = false → Raised 205 i 0 2 s t)
      ∧ (∀ k, k ≠ i → t.fi k = s.fi k) ∧ Only [.inputs, .dies] s t))
  ∧ (∀ i low, i < 32 → Does (fun τ => .fiWireBreak τ i 2 low)
    (fun s => dieFed s 4 = true ∧ (s.fiCfg i).wb = true ∧ (s.fi i).cls ≠ 2 ∧ (s.fiCfg i).mode ≠ .fast)
    (fun s t => (t.fi i).cls = 2 ∧ (t.fi i).lowR = false ∧ (t.fi i).breaks = (s.fi i).breaks ∧ (∀ k, k ≠ i → t.fi k = s.fi k)
      ∧ Only [.inputs] s t))
  ∧ (∀ i closed first, 0 < i → i < 32 → Does (fun τ => .nOperator τ i closed first)
    (fun s => dieFed s 4 = true ∧ (s.fiCfg i).mode = .operator ∧ first + 1000 * (s.fiCfg i).debounceMs ≤ s.devtime ∧ (s.fi i).state ≠ logical s i closed
      ∧ (s.course 0).pendingNotif = [] ∧ hasRoom s 0 16 (keptFree s 0) = true
      ∧ (s.start.configActive && s.cfg.host.link == .none && s.follower) = false)
    (fun s t => t.fi i = { s.fi i with raw := closed, state := logical s i closed }
      ∧ Told 0 34562 (le 1 i ++ le 1 (bit (logical s i closed)) ++ le 2 0 ++ le 8 first) t ∧ (∀ k, k ≠ i → t.fi k = s.fi k)
      ∧ Only [.inputs, .courses, .groups, .dies] s t))
  ∧ (∀ first, Does (fun τ => .nOperator τ 0 false first)
    (fun s => dieFed s 4 = true ∧ (s.fiCfg 0).mode = .operator ∧ (s.fiCfg 0).keyOn = true ∧ first + 1000 * (s.fiCfg 0).debounceMs ≤ s.devtime
      ∧ (s.fi 0).state ≠ logical s 0 false ∧ s.cfg.host.autoPark = true)
    (fun s t => t.power.keyOffEnd = some (s.devtime + 1000000 * s.cfg.host.keyOffDelayS) ∧ t.power.keyOffDue = false
      ∧ Raised 2 0 0 1 s t ∧ Only [.inputs, .courses, .groups, .power, .dies] s t))
  ∧ (∀ a, a < 8 → Does (fun τ => .aiOverload τ a)
    (fun s => dieFed s 4 = true ∧ (s.aiCfg a).used = true ∧ (s.aiCfg a).mode = .ma20 ∧ (s.ai a).burdenOpen = false)
    (fun s t => (t.ai a).burdenOpen = true ∧ (t.ai a).wireBreak = true ∧ (t.ai a).valid = false ∧ Raised 206 a 0 2 s t
      ∧ (∀ k, k ≠ a → t.ai k = s.ai k) ∧ Only [.analogs, .dies] s t))
  ∧ (∀ a ua, a < 8 → ua ≤ 25000 → Does (fun τ => .burdenTest τ a ua)
    (fun s => dieFed s 4 = true ∧ (s.aiCfg a).used = true ∧ (s.ai a).burdenOpen = true ∧ (s.ai a).burdenAt + 100000 ≤ s.devtime)
    (fun s t => (t.ai a).burdenOpen = false ∧ (t.ai a).raw = min 4095 (ua * 4096 / 24000) ∧ (∀ k, k ≠ a → t.ai k = s.ai k)
      ∧ Only [.analogs, .dies] s t))
  ∧ (∀ a ua, a < 8 → 25000 < ua → Does (fun τ => .burdenTest τ a ua)
    (fun s => dieFed s 4 = true ∧ (s.ai a).burdenOpen = true ∧ (s.ai a).burdenAt + 100000 ≤ s.devtime)
    (fun s t => t.ai a = { s.ai a with burdenAt := s.devtime } ∧ (∀ k, k ≠ a → t.ai k = s.ai k) ∧ Only [.analogs] s t))
  ∧ (∀ a raw, a < 8 → Does (fun τ => .aiInvalid τ a raw) (fun s => dieFed s 4 = true ∧ (s.aiCfg a).used = true ∧ (s.ai a).burdenOpen = false)
    (fun s t => (t.ai a).raw = raw ∧ (t.ai a).value = scaled (s.aiCfg a) raw ∧ (t.ai a).overRange = overRange (s.aiCfg a).mode raw
      ∧ ((t.ai a).valid = false → (s.ai a).valid = true → (t.ai a).wireBreak = false → Raised 206 a 1 2 s t)
      ∧ (∀ k, k ≠ a → t.ai k = s.ai k) ∧ Only [.analogs, .dies] s t))

/-- An overcurrent or the thermal latch takes a field output that is on to its fault state with its credits returned, and the latch clears; an open load is
reported; a connector group whose lines show the loss is AWAY with its lines off, and BACK when its sentinels return; a safe-state table
that fails while the link is up is reported, and stays failed while the link is silent (R315, R318, R319, R321). -/
def Obligations.FieldOutputsAndGroups : Prop :=
  (∀ o, o < 16 → Does (fun τ => .foOvercurrent τ o) (fun s => foOn (s.fo o) = true ∧ (s.fo o).onAt + 2000 ≤ s.devtime)
    (fun s t => (t.fo o).st = 2 ∧ (t.fo o).cause = 1 ∧ (t.fo o).base = 0 ∧ (∀ k, k ≠ o → t.fo k = s.fo k) ∧ Raised 207 o 0 3 s t
      ∧ Only [.outputs, .ledger, .dies, .loops] s t))
  ∧ (∀ o, o < 16 → Does (fun τ => .foOvercurrent τ o) (fun s => foOn (s.fo o) = false) (fun s t => Only [.loops] s t))
  ∧ (∀ o, o < 16 → Does (fun τ => .foOvertemp τ o) (fun s => (s.fo o).latch = false)
    (fun s t => (t.fo o).st = 2 ∧ (t.fo o).cause = 2 ∧ (t.fo o).latch = true ∧ (t.fo o).base = 0 ∧ (∀ k, k ≠ o → t.fo k = s.fo k)
      ∧ Raised 207 o 1 3 s t ∧ Only [.outputs, .ledger, .dies, .loops] s t))
  ∧ (∀ o, o < 16 → Does (fun τ => .foOpenLoad τ o)
    (fun s => foOn (s.fo o) = true ∧ (s.fo o).openLoad = false ∧ (s.fo o).onAt + 100000 ≤ s.devtime)
    (fun s t => t.fo o = { s.fo o with openLoad := true } ∧ (muted s (.fo o) = false → Raised 207 o 2 2 s t)
      ∧ (∀ k, k ≠ o → t.fo k = s.fo k) ∧ Only [.outputs, .dies, .loops] s t))
  ∧ (∀ g loss cl, g < 8 → Does (fun τ => .harnessAway τ g loss cl)
    (fun s => awake s = true ∧ g < s.cfg.fieldIo.groups.length ∧ s.group g ≠ .away
      ∧ 3 ≤ lossOf (groupCfg s g) (observable s (groupCfg s g)) loss
      ∧ 3 * (observable s (groupCfg s g)).length ≤ 4 * lossOf (groupCfg s g) (observable s (groupCfg s g)) loss)
    (fun s t => t.group g = .away ∧ (∀ k, k ≠ g → t.group k = s.group k) ∧ (t.src (208 + g)).active = true
      ∧ Only [.groups, .inputs, .units, .clusters, .ledger, .switches, .vents, .outputs, .recorder, .courses, .dies, .loops] s t))
  ∧ (∀ g loss, g < 8 → Does (fun τ => .harnessBack τ g loss)
    (fun s => awake s = true ∧ g < s.cfg.fieldIo.groups.length ∧ s.group g = .away
      ∧ 4 * lossOf (groupCfg s g) (sentinels s (groupCfg s g)) loss < (sentinels s (groupCfg s g)).length)
    (fun s t => t.group g = .back ∧ (∀ k, k ≠ g → t.group k = s.group k) ∧ (t.src (208 + g)).active = false ∧ Raised (208 + g) 0 1 1 s t
      ∧ t.units = s.units ∧ Only [.groups, .inputs, .outputs, .loops] s t))
  ∧ (∀ d, 2 ≤ d → d < 5 → Does (fun τ => .safeTableCheck τ d false)
    (fun s => (s.die d).silent = false ∧ s.devtime < (s.die d).lastFrameAt + 1000 * s.cfg.package.tSilentMs)
    (fun s t => (t.die d).tableOk = (s.die d).tableOk ∧ Raised 216 d 0 3 s t ∧ Only [.dies] s t))
  ∧ (∀ d, 2 ≤ d → d < 5 → Does (fun τ => .safeTableCheck τ d false) (fun s => (s.die d).silent = true)
    (fun s t => t.die d = { s.die d with tableOk := false } ∧ (∀ k, k ≠ d → t.die k = s.die k) ∧ Only [.dies] s t))
  ∧ (∀ d, 2 ≤ d → d < 5 → Does (fun τ => .safeTableCheck τ d true) (fun _ => True)
    (fun s t => t.die d = { s.die d with tableOk := true } ∧ (∀ k, k ≠ d → t.die k = s.die k) ∧ Only [.dies] s t))
  ∧ (∀ o, o < 16 → Does (fun τ => .thermalLatchClear τ (24 + o)) (fun _ => True)
    (fun s t => t.fo o = { s.fo o with latch := false } ∧ (∀ k, k ≠ o → t.fo k = s.fo k) ∧ Only [.outputs, .loops] s t))

/-! ## Starts, resets, power -/

/-- Supplies valid lead to maintenance mode without an eMMC and to READY on a slot that passes; each reset of D0 takes READY, outputs
and the host's numbers and leaves its cause; the power dies and what they drive go on; a brown-out of VDD_AON leaves what eMMC and fuses hold
and DEVTIME 0; loss of VDD_RF loses both antennas; the watchdog counts (R325, R326, R347, R352, R355 to R360, R365, R369, R508). -/
def Obligations.Resets : Prop :=
  (∀ x : StartTests, Does (fun τ => .suppliesValid τ x)
    (fun s => s.power.supplies = false ∧ s.power.state ≠ .park ∧ x.emmcAnswers = false)
    (fun s t => t.start.maint = true ∧ t.start.emmc = false ∧ t.start.begunAt = s.devtime ∧ t.power.supplies = true
      ∧ t.power.state = .run ∧ Only [.power, .start, .storage] s t))
  ∧ (∀ (x : StartTests) slot back, Does (fun τ => .suppliesValid τ x)
    (fun s => s.power.supplies = false ∧ s.power.state ≠ .park ∧ x.emmcAnswers = true ∧ bootSlot s = some (slot, back)
      ∧ x.elapsedUs ≤ 1000000)
    (fun s t => t.start.ready = true ∧ t.start.readyPin = true ∧ t.start.readyAt = s.devtime + x.elapsedUs ∧ t.start.tries = 0
      ∧ t.storage.runningFw = slot ∧ t.power.state = .run ∧ t.power.supplies = true ∧ t.power.pll = 2))
  ∧ Does (fun τ => .vddAonBrownout τ) (fun _ => True)
    (fun s t => t.devtime = 0 ∧ t.power = { groups := s.power.groups } ∧ t.start = State.reset.start
      ∧ t.switches = State.reset.switches ∧ t.units = State.reset.units ∧ t.host.registers = State.reset.host.registers
      ∧ t.storage.fuses = s.storage.fuses ∧ t.storage.keyHash = s.storage.keyHash ∧ t.pending = s.pending)
  ∧ Does (fun τ => .vddCoreBrownout τ) (fun s => s.power.supplies = true ∧ s.power.state ≠ .park)
    (fun s t => t.start.cause = 1 ∧ t.start.ready = false ∧ t.start.configActive = false ∧ t.power.supplies = false
      ∧ t.host.outputsEnabled = false ∧ t.host.epoch = 0 ∧ t.switches = s.switches ∧ t.outputs = s.outputs ∧ t.dies = s.dies
      ∧ (∀ u, (t.unit u).drive = (s.unit u).drive))
  ∧ Does (fun τ => .vddCoreBrownout τ) (fun s => s.power.state = .park) (fun s t => Only [] s t)
  ∧ Does (fun τ => .rstN τ) (fun _ => True)
    (fun s t => t.start.cause = 2 ∧ t.start.ready = false ∧ t.start.configActive = false ∧ t.power.supplies = false
      ∧ t.host.outputsEnabled = false ∧ t.host.epoch = 0 ∧ t.switches = s.switches ∧ t.outputs = s.outputs ∧ t.dies = s.dies
      ∧ (∀ u, (t.unit u).drive = (s.unit u).drive))
  ∧ (∀ t0, Does (fun τ => .watchdog τ)
    (fun s => s.start.ready = true ∧ s.start.keeperOut = some t0 ∧ t0 + 30000 ≤ s.devtime)
    (fun s t => t.start.cause = 4 ∧ t.start.tries = s.start.tries + 1 ∧ t.start.ready = false ∧ t.power.supplies = false
      ∧ t.switches = s.switches ∧ t.dies = s.dies))
  ∧ Does (fun τ => .watchdog τ)
    (fun s => s.power.supplies = true ∧ s.start.ready = false ∧ s.start.maint = false ∧ s.power.state = .run
      ∧ s.start.begunAt + 1000000 ≤ s.devtime)
    (fun s t => t.start.cause = 3 ∧ t.start.tries = s.start.tries + 1 ∧ t.power.supplies = false ∧ t.switches = s.switches
      ∧ t.dies = s.dies)
  ∧ Does (fun τ => .vddRfLoss τ) (fun s => s.power.vddRf = true)
    (fun s t => t.power.vddRf = false ∧ t.start.rfBad = [0, 1] ∧ t.nav.antLost = (true, true) ∧ t.nav.channels = []
      ∧ Raised 37 0 0 2 s t ∧ Only [.power, .start, .nav] s t)

/-- A region whose group came late is calibrated, and a unit that fails is unavailable and reported; a deferred element is calibrated
once it has been off; a front end is calibrated once VDD_RF is back (R361 to R363, R365). -/
def Obligations.Calibration : Prop :=
  (∀ r u, r < 7 → u < 128 → Does (fun τ => .regionCalibration τ r [u] [] [] [])
    (fun s => s.start.ready = true ∧ r ∈ s.start.uncalibrated ∧ tget s.power.groups false r = true ∧ regionOf (clusterOf u) = r)
    (fun s t => u ∈ t.start.badUnits ∧ r ∉ t.start.uncalibrated ∧ Raised 15 u 5 3 s t ∧ Only [.start, .ledger, .units] s t))
  ∧ (∀ r us cls sws fos, r < 7 → Does (fun τ => .regionCalibration τ r us cls sws fos)
    (fun s => r ∉ s.start.uncalibrated) (fun s t => Only [] s t))
  ∧ (∀ k e, Does (fun τ => .calDeferred τ k e true)
    (fun s => s.start.ready = true ∧ (k, e) ∈ s.start.deferred ∧ lineOff s (deferredLine k e) = true
      ∧ s.start.readyAt + 5000 ≤ s.devtime)
    (fun s t => (k, e) ∉ t.start.deferred ∧ t.start.badUnits = s.start.badUnits ∧ Only [.start, .ledger, .units] s t))
  ∧ (∀ e, Does (fun τ => .calDeferred τ 1 e false)
    (fun s => s.start.ready = true ∧ (1, e) ∈ s.start.deferred ∧ lineOff s (.switch e) = true ∧ s.start.readyAt + 5000 ≤ s.devtime)
    (fun s t => (1, e) ∉ t.start.deferred ∧ t.start.badSwitches = s.start.badSwitches ++ [e] ∧ Raised 15 e 5 3 s t
      ∧ Only [.start, .ledger] s t))
  ∧ (∀ a, a < 2 → Does (fun τ => .rfCalFail τ a false) (fun s => awake s = true ∧ a ∈ s.start.rfBad)
    (fun s t => t.power.vddRf = true ∧ t.start.rfBad = s.start.rfBad ∧ Raised 15 a 7 2 s t ∧ Only [.power] s t))
  ∧ (∀ a, a < 2 → Does (fun τ => .rfCalFail τ a true) (fun s => awake s = true ∧ a ∈ s.start.rfBad)
    (fun s t => t.power.vddRf = true ∧ a ∉ t.start.rfBad ∧ (if a = 0 then t.nav.antLost.1 else t.nav.antLost.2) = false
      ∧ Only [.power, .start, .nav] s t))

/-- A wake source ends an entry sequence, or wakes NAP into DOZE on the fast oscillator; the TCXO ends that wake; the 32 kHz clock fails
and comes back; the key-off delay leads to PARK entry at standstill; the last step of an entry sequence reaches NAP or PARK (R327 to R339,
R343, R346, R348). -/
def Obligations.PowerMoves : Prop :=
  (∀ src (x : StartTests) tgt f, src < 8 → Does (fun τ => .wakeSource τ src x)
    (fun s => s.power.state = .entering ∧ s.power.entry = some (tgt, f) ∧ wakeActs s src = true)
    (fun s t => t.power.state = f ∧ t.power.entry = none ∧ t.power.wakeBits = 0 ∧ t.host.beatAt = some s.devtime
      ∧ Only [.power, .session, .nav, .recorder, .courses] s t))
  ∧ (∀ src (x : StartTests), src < 8 → Does (fun τ => .wakeSource τ src x)
    (fun s => s.power.state = .nap ∧ wakeActs s src = true)
    (fun s t => t.power.state = .doze ∧ t.power.pll = 1 ∧ t.power.tcxoEn = true ∧ bitAt t.power.wakeBits src = true
      ∧ t.events.stopped = false ∧ (∀ d, 2 ≤ d → d < 5 → (t.die d).parked = false)
      ∧ Only [.power, .dies, .ledger, .nav, .recorder, .courses] s t))
  ∧ (∀ src (x : StartTests), src < 8 → Does (fun τ => .wakeSource τ src x)
    (fun s => s.power.state = .run) (fun s t => Only [] s t))
  ∧ Does (fun τ => .tcxoStable τ) (fun s => s.power.state = .doze ∧ s.power.pll = 1)
    (fun s t => t.power.pll = 2 ∧ t.power.wakeBits = 0 ∧ t.power.state = (if s.power.from_ = .run then .run else .doze)
      ∧ t.host.beatAt = some s.devtime
      ∧ Only [.power, .session, .nav, .recorder, .courses, .outputs, .odo, .ledger] s t)
  ∧ Does (fun τ => .tcxoStable τ) (fun s => s.power.pll ≠ 1) (fun s t => Only [] s t)
  ∧ Does (fun τ => .clk32Fail τ) (fun s => s.power.onRc = false)
    (fun s t => t.power.onRc = true ∧ t.power.clk32Fail = true ∧ t.power.rtcErrUs = rtcBoundUs s ∧ Only [.power] s t)
  ∧ Does (fun τ => .crystalStable τ) (fun s => s.power.onRc = true)
    (fun s t => t.power.onRc = false ∧ t.power.rtcErrUs = rtcBoundUs s ∧ t.power.clk32Fail = s.power.clk32Fail ∧ Only [.power] s t)
  ∧ (∀ m, Does (fun τ => .crystalTemperatureRead τ m) (fun _ => True) (fun s t => t.power.crystalMc = m ∧ Only [.power] s t))
  ∧ (∀ e, Does (fun τ => .keyOffDelay τ) (fun s => s.power.keyOffEnd = some e ∧ e ≤ s.devtime)
    (fun s t => t.power.keyOffDue = true ∧ t.power.keyOffEnd = none ∧ Only [.power] s t))
  ∧ (∀ cl, Does (fun τ => .autoParkEntry τ cl)
    (fun s => s.power.state = .run ∧ s.power.keyOffDue = true ∧ s.odo.standstill = true)
    (fun _ t => t.power.state = .entering ∧ t.power.entry = some (.park, .run) ∧ t.power.keyOffDue = false ∧ t.host.beatAt = none))
  ∧ (∀ cl, Does (fun τ => .autoParkEntry τ cl) (fun s => s.odo.standstill = false) (fun s t => Only [.loops] s t))
  ∧ (∀ f, Does (fun τ => .entrySequenceDone τ) (fun s => s.power.state = .entering ∧ s.power.entry = some (.nap, f))
    (fun s t => t.power.state = .nap ∧ t.power.entry = none ∧ t.power.from_ = f ∧ t.power.sleptFrom = some s.devtime ∧ t.power.pll = 0
      ∧ t.events.stopped = true ∧ t.nav.retentionAt = s.devtime ∧ t.nav.retention.isSome ∧ (∀ d, 2 ≤ d → d < 5 → (t.die d).parked = true)))
  ∧ (∀ f, Does (fun τ => .entrySequenceDone τ) (fun s => s.power.state = .entering ∧ s.power.entry = some (.park, f))
    (fun s t => t.power.state = .park ∧ t.power.corePwrEn = false ∧ t.start.ready = false ∧ t.power.sleptFrom = some s.devtime
      ∧ t.nav.retentionAt = s.devtime ∧ t.nav.retention.isSome ∧ t.switches = s.switches ∧ (∀ d, 2 ≤ d → d < 5 → (t.die d).parked = true)))

/-! ## CAN -/

/-- A remote frame is discarded; a data frame is counted and written into the lowest matching receive buffer; a gateway transmission ends sent,
failed or is tried again; bus-off ends what is pending, recovery and error-passive are reported; a CAN_SP frame goes out at its period;
a binding that waited takes effect when the bus is idle (R260, R431 to R438, R460). -/
def Obligations.CanController : Prop :=
  (∀ n f, n < 4 → Does (fun τ => .canFrameReceived τ n f)
    (fun s => awake s = true ∧ serves 4 s = true ∧ (s.canOf n).st ≠ 2 ∧ f.remote = true ∧ (s.canOf n).binds = [])
    (fun s t => (t.canOf n).discarded = ((s.canOf n).discarded + 1) % 4294967296 ∧ (t.canOf n).rxFrames = (s.canOf n).rxFrames
      ∧ (t.canOf n).buffers = (s.canOf n).buffers ∧ Only [.loops] s t))
  ∧ (∀ n f b, n < 4 → Does (fun τ => .canFrameReceived τ n f)
    (fun s => awake s = true ∧ serves 4 s = true ∧ (s.canOf n).st ≠ 2 ∧ f.remote = false ∧ isobusOn s n = false ∧ gwMatch s n f = some b
      ∧ (s.gw n b).lock = false ∧ ∀ x ∈ (s.canOf n).binds, x.1 ≠ b)
    (fun s t => (t.canOf n).rxFrames = ((s.canOf n).rxFrames + 1) % 4294967296 ∧ (t.gw n b).frame = f ∧ (t.gw n b).full = true
      ∧ (t.gw n b).timeStamp = s.devtime ∧ (t.gw n b).frames = ((s.gw n b).frames + 1) % 65536 ∧ Only [.freeCount, .loops] s t))
  ∧ (∀ n b, n < 4 → b < 16 → Does (fun τ => .canTxEnd τ n b true)
    (fun s => awake s = true ∧ (s.canOf n).st ≠ 2 ∧ inFlight s n b = true ∧ ∀ x ∈ (s.canOf n).binds, x.1 ≠ b)
    (fun s t => (t.gw n b).pending = false ∧ (t.gw n b).transmitted = true ∧ (t.gw n b).timeStamp = s.devtime
      ∧ (t.canOf n).txFrames = ((s.canOf n).txFrames + 1) % 4294967296 ∧ Asserted (232 + n) s t ∧ Only [] s t))
  ∧ (∀ n b, n < 4 → b < 16 → Does (fun τ => .canTxEnd τ n b false)
    (fun s => awake s = true ∧ (s.canOf n).st ≠ 2 ∧ inFlight s n b = true ∧ (s.canCfg n).gwRetry ≤ (s.gw n b).retries
      ∧ ∀ x ∈ (s.canOf n).binds, x.1 ≠ b)
    (fun s t => (t.gw n b).pending = false ∧ (t.gw n b).txFailed = true ∧ Asserted (232 + n) s t ∧ Only [] s t))
  ∧ (∀ n b, n < 4 → b < 16 → Does (fun τ => .canTxEnd τ n b false)
    (fun s => awake s = true ∧ (s.canOf n).st ≠ 2 ∧ inFlight s n b = true ∧ (s.gw n b).retries < (s.canCfg n).gwRetry
      ∧ ∀ x ∈ (s.canOf n).binds, x.1 ≠ b)
    (fun s t => (t.gw n b).pending = true ∧ (t.gw n b).retries = (s.gw n b).retries + 1
      ∧ (t.canOf n).errors = ((s.canOf n).errors + 1) % 4294967296 ∧ Only [] s t))
  ∧ (∀ n, n < 4 → Does (fun τ => .canBusOff τ n) (fun s => awake s = true ∧ (s.canOf n).st ≠ 2)
    (fun s t => (t.canOf n).st = 2 ∧ (∀ b, b < 16 → (t.gw n b).pending = false) ∧ Raised (224 + n) n 0 2 s t ∧ Only [.freeCount] s t))
  ∧ (∀ n, n < 4 → Does (fun τ => .canBusBack τ n) (fun s => awake s = true ∧ (s.canOf n).st = 2)
    (fun s t => (t.canOf n).st = 0 ∧ (t.canOf n).tec = 0 ∧ (t.canOf n).recCnt = 0 ∧ Raised (224 + n) n 1 1 s t ∧ Only [] s t))
  ∧ (∀ n, n < 4 → Does (fun τ => .canPassive τ n) (fun s => awake s = true ∧ (s.canOf n).st = 0)
    (fun s t => (t.canOf n).st = 1 ∧ Raised (224 + n) n 2 1 s t ∧ Only [.freeCount] s t))
  ∧ (∀ l n ident off w sc p, l < 128 → n < 4 → Does (fun τ => .canSpPeriod τ l)
    (fun s => awake s = true ∧ coreOut s 4 = false ∧ s.start.configActive = true ∧ (s.loopCfg l).out = .canSp n ident off w sc p
      ∧ ((s.canCfg n).zitherSystem = true → s.lead = false)
      ∧ (s.loop l).spAt = none ∧ (s.canOf n).st ≠ 2 ∧ isobusOn s n = false)
    (fun s t => (t.loop l).spAt = some s.devtime ∧ (∃ f ∈ (t.canOf n).sent, f.id = ident ∧ f.data = spFrame s n ident)
      ∧ Only [.loops] s t))
  ∧ (∀ n f buf flags id mask, n < 4 → buf < 16 → Does (fun τ => .canFrameReceived τ n f)
    (fun s => awake s = true ∧ serves 4 s = true ∧ (s.canOf n).st ≠ 2 ∧ f.remote = true ∧ (s.canOf n).binds = [(buf, flags, id, mask)])
    (fun s t => (t.canOf n).binds = [] ∧ (t.gw n buf).enable = bitAt flags 0 ∧ (t.gw n buf).tx = bitAt flags 2
      ∧ (t.gw n buf).filterId = id ∧ (t.gw n buf).filterMask = mask ∧ (t.gw n buf).full = false
      ∧ (t.gw n buf).frames = (s.gw n buf).frames ∧ (t.gw n buf).lost = (s.gw n buf).lost ∧ Only [.loops] s t))

/-- An address is claimed and held, lost and followed by the next, or given up; DM1 goes out; a task-controller value is
reported; an abandoned session is dropped; the loss of the connection asserts (R441, R442, R444, R445, R460). A frame that no filter takes is
counted; a frame of the firmware's own is sent and counted; bus-off fails what is pending and nothing else; after recovery the controller
offers again; error-passive keeps the transmit counter; a CAN_SP frame goes out at its next period (R260, R433 to R435). -/
def Obligations.Iso11783 : Prop :=
  (∀ n, n < 4 → Does (fun τ => .addressClaim τ n true)
    (fun s => awake s = true ∧ coreOut s 4 = false ∧ s.start.configActive = true ∧ isobusOn s n = true ∧ (s.canOf n).cannotClaim = false
      ∧ (s.canOf n).st ≠ 2 ∧ (s.canOf n).claiming = none)
    (fun s t => (t.canOf n).addr = some s.cfg.buses.preferredAddr
      ∧ (t.canOf n).claiming = some (s.cfg.buses.preferredAddr, s.devtime) ∧ Only [] s t))
  ∧ (∀ n a t0, n < 4 → Does (fun τ => .addressClaim τ n false)
    (fun s => awake s = true ∧ coreOut s 4 = false ∧ s.start.configActive = true ∧ isobusOn s n = true ∧ (s.canOf n).cannotClaim = false
      ∧ (s.canOf n).st ≠ 2 ∧ (s.canOf n).claiming = some (a, t0) ∧ s.cfg.buses.selfConfigurable = true
      ∧ s.cfg.buses.preferredAddr < 128 ∧ 128 ≤ a ∧ a < 247)
    (fun s t => (t.canOf n).addr = none ∧ (t.canOf n).claiming = some (a + 1, s.devtime) ∧ Only [] s t))
  ∧ (∀ n, n < 4 → Does (fun τ => .addressClaim τ n false)
    (fun s => awake s = true ∧ coreOut s 4 = false ∧ s.start.configActive = true ∧ isobusOn s n = true ∧ (s.canOf n).cannotClaim = false
      ∧ (s.canOf n).st ≠ 2 ∧ s.cfg.buses.selfConfigurable = false)
    (fun s t => (t.canOf n).addr = none ∧ (t.canOf n).cannotClaim = true ∧ Raised 236 n 0 3 s t ∧ Only [] s t))
  ∧ (∀ n, n < 4 → Does (fun τ => .dm1 τ n)
    (fun s => awake s = true ∧ coreOut s 4 = false ∧ isobusOn s n = true ∧ isoMaySend s n = true ∧ dm1Due s n = true)
    (fun s t => (t.canOf n).dm1At = some s.devtime ∧ t.zither.dm1 = (dmFaults s).map (·.cls)
      ∧ (∃ f ∈ (t.canOf n).sent, pgnOf f.id = 65226) ∧ Only [] s t))
  ∧ (∀ ddi sect v, Does (fun τ => .tcReport τ ddi sect)
    (fun s => awake s = true ∧ coreOut s 4 = false ∧ s.cfg.buses.tcEnabled = true ∧ s.zither.tcConnected = true ∧ tcValue s ddi sect = some v
      ∧ tcDue s ddi sect v = true)
    (fun s t => t.zither.tcReports = s.zither.tcReports ++ [(ddi, sect, v)] ∧ Only [] s t))
  ∧ (∀ n k, n < 4 → k < 4 → Does (fun τ => .tpTimeout τ n k) (fun s => awake s = true ∧ coreOut s 4 = false)
    (fun s t => (t.canOf n).sessions = (s.canOf n).sessions.eraseIdx k ∧ Only [] s t))
  ∧ (∀ n k, n < 4 → 4 ≤ k → Does (fun τ => .tpTimeout τ n k) (fun _ => True) (fun s t => Only [.courses] s t))
  ∧ Does (fun τ => .tcConnectionLost τ) (fun s => s.zither.tcConnected = true)
    (fun s t => t.zither.tcConnected = false ∧ Asserted 239 s t ∧ Only [] s t)
  ∧ (∀ n f, n < 4 → Does (fun τ => .canFrameReceived τ n f)
    (fun s => awake s = true ∧ serves 4 s = true ∧ (s.canOf n).st ≠ 2 ∧ f.remote = false ∧ isobusOn s n = false ∧ gwMatch s n f = none
      ∧ (s.canOf n).binds = [])
    (fun s t => (t.canOf n).rxFrames = ((s.canOf n).rxFrames + 1) % 4294967296 ∧ (t.canOf n).buffers = (s.canOf n).buffers
      ∧ (t.canOf n).discarded = (s.canOf n).discarded ∧ Only [.freeCount, .loops] s t))
  ∧ (∀ n b, n < 4 → 16 ≤ b → b < 64 → Does (fun τ => .canTxEnd τ n b true)
    (fun s => awake s = true ∧ (s.canOf n).st ≠ 2 ∧ s.isobusLink ≠ some n ∧ (s.canCfg n).zitherSystem = false
      ∧ (s.canOf n).binds = [])
    (fun s t => (t.canOf n).txFrames = ((s.canOf n).txFrames + 1) % 4294967296 ∧ (t.canOf n).tec = (s.canOf n).tec - 1
      ∧ (t.canOf n).buffers = (s.canOf n).buffers ∧ Only [] s t))
  ∧ (∀ n, n < 4 → Does (fun τ => .canBusOff τ n) (fun s => awake s = true ∧ (s.canOf n).st ≠ 2 ∧ (s.canOf n).binds = [])
    (fun s t => (t.canOf n).st = 2  ∧ 256 ≤ (t.canOf n).tec ∧ Raised (224 + n) n 0 2 s t
      ∧ (∀ b, b < 16 → (s.gw n b).pending = true → (t.gw n b).pending = false ∧ (t.gw n b).txFailed = true)
      ∧ (∀ b, b < 16 → (s.gw n b).pending = false → (t.gw n b).txFailed = (s.gw n b).txFailed) ∧ Only [.freeCount] s t))
  ∧ (∀ n, n < 4 → Does (fun τ => .canBusBack τ n) (fun s => awake s = true ∧ (s.canOf n).st = 2)
    (fun s t => (t.canOf n).st = 0 ∧ (t.canOf n).buffers = (s.canOf n).buffers ∧ (t.canOf n).offered = gwNext s n
      ∧ Raised (224 + n) n 1 1 s t ∧ Only [] s t))
  ∧ (∀ n, n < 4 → Does (fun τ => .canPassive τ n) (fun s => awake s = true ∧ (s.canOf n).st = 0)
    (fun s t => (t.canOf n).st = 1 ∧ (128 ≤ (t.canOf n).tec ∨ 128 ≤ (t.canOf n).recCnt) ∧ (t.canOf n).tec = (s.canOf n).tec
      ∧ (t.canOf n).buffers = (s.canOf n).buffers ∧ Raised (224 + n) n 2 1 s t ∧ Only [.freeCount] s t))
  ∧ (∀ l n ident off w sc p a, l < 128 → n < 4 → Does (fun τ => .canSpPeriod τ l)
    (fun s => awake s = true ∧ coreOut s 4 = false ∧ s.start.configActive = true ∧ (s.loopCfg l).out = .canSp n ident off w sc p
      ∧ ((s.canCfg n).zitherSystem = true → s.lead = false)
      ∧ (s.loop l).spAt = some a ∧ a + 1000 * p ≤ s.devtime ∧ (s.canOf n).st ≠ 2 ∧ isobusOn s n = false)
    (fun s t => t.loop l = { s.loop l with spAt := some s.devtime } ∧ (∀ k, k ≠ l → t.loop k = s.loop k)
      ∧ (t.canOf n).sent = (s.canOf n).sent 
          ++ [{ id := ident, ext := decide (2048 ≤ ident), fdf := (s.canCfg n).fd, brs := (s.canCfg n).brs, data := spFrame s n ident }]
      ∧ Only [.loops] s t))

/-! ## Zither -/

/-- The lead's SYNC every 10 ms; FOLLOW_UP sets the offset after a welcome and slews it later; time is lost 100 ms after the last one; a
follower takes the lead's motion and answers ODO; the lead takes ODO, and reports a follower whose ODO is stale; a follower arms and cancels
the frets of its own units as the lead's frames say, the lead drops a fret that a follower cancelled, opens and closes the strokes that a
follower reports, and a stroke of a unit of another package changes nothing at the lead (R168, R451 to R455). -/
def Obligations.ZitherTimeMotionFrets : Prop :=
  Does (fun τ => .sync τ)
    (fun s => zitherRuns s = true ∧ s.lead = true ∧ (s.zither.syncAt = 0 ∨ s.zither.syncAt + 10000 ≤ s.devtime))
    (fun s t => t.zither.syncAt = s.devtime ∧ t.zither.syncSeq = (s.zither.syncSeq + 1) % 65536
      ∧ (1, 4, [(t.zither.syncSeq : Int)]) ∈ t.zither.sent ∧ Only [.freeCount] s t)
  ∧ (∀ lead here, Hears (fun z => .followUp z lead here)
    (fun z s => leadFrame z s = true ∧ (s.zither.stepOffset = true ∨ s.zither.offsetNs = none))
    (fun _ s t => t.zither.offsetNs = some ((lead : Int) - here + s.cfg.package.busDelayNs) ∧ t.zither.stepOffset = false
      ∧ t.zither.timeLost = false ∧ t.zither.followAt = some s.devtime ∧ Only [.ledger, .loops] s t))
  ∧ (∀ lead here o at_, Hears (fun z => .followUp z lead here)
    (fun z s => leadFrame z s = true ∧ s.zither.stepOffset = false ∧ s.zither.offsetNs = some o ∧ s.zither.followAt = some at_)
    (fun _ s t => (∃ d : Int, t.zither.offsetNs = some (o + d) ∧ 100 * d ≤ s.devtime - at_ ∧ -(100 * d) ≤ s.devtime - at_)
      ∧ Only [.ledger, .loops] s t))
  ∧ (∀ at_, Does (fun τ => .zitherTimeLost τ)
    (fun s => zitherRuns s = true ∧ s.follower = true ∧ s.zither.welcomed = true ∧ s.zither.timeLost = false
      ∧ s.zither.followAt = some at_ ∧ at_ + 100000 ≤ s.devtime)
    (fun s t => t.zither.timeLost = true ∧ Raised 238 (ownPkg s) 0 2 s t ∧ Only [] s t))
  ∧ (∀ e v a w b fl, Hears (fun z => .state z e v a w b fl) (fun z s => leadFrame z s = true)
    (fun _ _ t => t.zither.motion = some (e, v, a, w, b) ∧ t.zither.stateFlags = fl ∧ t.odo.speed = 1000 * v
      ∧ t.odo.standstill = bitAt fl 0 ∧ (∃ d th, (4, 0, [(e : Int), d, th]) ∈ t.zither.sent)))
  ∧ (∀ e d th, Hears (fun z => .odo z e d th) (fun z s => followerFrame z s = true)
    (fun z s t => tfind t.zither.odo z.src = some (e, d, th, s.devtime) ∧ z.src ∉ t.zither.stale
      ∧ Only [.ledger, .loops, .units] s t))
  ∧ (∀ p e d th at_, p < 4 → Does (fun τ => .zitherStale τ p)
    (fun s => zitherRuns s = true ∧ s.lead = true ∧ (tok s p).present = true ∧ p ∉ s.zither.stale
      ∧ tfind s.zither.odo p = some (e, d, th, at_) ∧ at_ + 5000 ≤ s.devtime)
    (fun s t => p ∈ t.zither.stale ∧ Raised 238 p 1 2 s t ∧ Only [] s t))
  ∧ (∀ u (w : FretWire), Hears (fun z => .fret z 0 [w])
    (fun z s => leadFrame z s = true ∧ unitRef s w.unit = .own u ∧ (s.unit u).frets = [])
    (fun _ _ t => (∃ f ∈ (t.unit u).frets, f.tag = w.tag ∧ f.live = true) ∧ (t.unit u).frets.length = 1))
  ∧ (∀ u (w : FretWire), Hears (fun z => .fret z 1 [w])
    (fun z s => leadFrame z s = true ∧ unitRef s w.unit = .own u)
    (fun _ _ t => ∀ f ∈ (t.unit u).frets, f.live = true → f.tag ≠ w.tag))
  ∧ (∀ tag u late, Hears (fun z => .fretStatus z [(tag, u, 2, late)])
    (fun z s => followerFrame z s = true ∧ u / 128 = z.src)
    (fun _ s t => (∀ f ∈ (t.unit u).frets, f.live = true → f.tag ≠ tag) ∧ Only [.ledger, .loops, .units] s t))
  ∧ (∀ u k at_, Hears (fun z => .stroke z [(u, k, at_)])
    (fun z s => followerFrame z s = true ∧ u / 128 ≠ z.src) (fun _ s t => Only [.ledger, .loops] s t))
  ∧ (∀ u at_ x, Hears (fun z => .stroke z [(u, 0, at_)])
    (fun z s => followerFrame z s = true ∧ u / 128 = z.src ∧ s.secOf u = some x ∧ s.cov.opened.isSome ∧ (s.unit u).sect.strokes = [])
    (fun _ s t => (t.unit u).sect.strokes = [{ from_ := at_ + transportUs s u }] ∧ (∀ v, v ≠ u → t.unit v = s.unit v)
      ∧ Only [.ledger, .loops, .units] s t))
  ∧ (∀ u at_ x k, Hears (fun z => .stroke z [(u, 1, at_)])
    (fun z s => followerFrame z s = true ∧ u / 128 = z.src ∧ s.secOf u = some x ∧ (s.unitCfg u).mode ≠ .pwm
      ∧ (s.unit u).sect.strokes = [k] ∧ k.to_ = none)
    (fun _ s t => (t.unit u).sect.strokes = [{ k with to_ := some (max k.from_ (at_ + transportUs s u)), limit := none }]
      ∧ (∀ v, v ≠ u → t.unit v = s.unit v) ∧ Only [.ledger, .loops, .units] s t))

/-- Tokens are asked for, granted from what is free, applied once, returned, acknowledged and repeated; what leaves one holding enters
another (R50, R53, R456, R457). -/
def Obligations.ZitherTokens : Prop :=
  (∀ count, Hears (fun z => .tokenReq z count)
    (fun z s => followerFrame z s = true ∧ (tok s z.src).present = true ∧ 0 < count ∧ 0 < s.ledger.tokensFree)
    (fun z s t => t.ledger.tokensFree + min count s.ledger.tokensFree = s.ledger.tokensFree
      ∧ (tok t z.src).tseqSent = ((tok s z.src).tseqSent + 1) % 65536
      ∧ (tok t z.src).inTransit
        = (tok s z.src).inTransit ++ [((tok t z.src).tseqSent, min count s.ledger.tokensFree, s.devtime)]
      ∧ (9, z.src, [((tok t z.src).tseqSent : Int), ((min count s.ledger.tokensFree : Nat) : Int)]) ∈ t.zither.sent
      ∧ Only [.ledger, .loops] s t))
  ∧ (∀ tseq count, Hears (fun z => .tokenGrant z tseq count)
    (fun z s => leadFrame z s = true ∧ applied s (ownPkg s) tseq = false)
    (fun _ s t => (tok t (ownPkg s)).granted = (tok s (ownPkg s)).granted + count ∧ applied t (ownPkg s) tseq = true
      ∧ t.ledger.packagePool = min 2000 (20 * ((tok s (ownPkg s)).fixed + (tok s (ownPkg s)).granted + count))
      ∧ (11, 0, [(tseq : Int), 0]) ∈ t.zither.sent ∧ Only [.ledger, .loops] s t))
  ∧ (∀ tseq count, Hears (fun z => .tokenGrant z tseq count)
    (fun z s => leadFrame z s = true ∧ applied s (ownPkg s) tseq = true)
    (fun _ s t => (tok t (ownPkg s)).granted = (tok s (ownPkg s)).granted ∧ (11, 0, [(tseq : Int), 0]) ∈ t.zither.sent
      ∧ Only [.ledger, .loops] s t))
  ∧ (∀ tseq count, Hears (fun z => .tokenReturn z tseq count)
    (fun z s => followerFrame z s = true ∧ applied s z.src tseq = false ∧ count ≤ (tok s z.src).granted)
    (fun z s t => t.ledger.tokensFree = s.ledger.tokensFree + count ∧ (tok t z.src).granted + count = (tok s z.src).granted
      ∧ applied t z.src tseq = true ∧ (11, z.src, [(tseq : Int), 1]) ∈ t.zither.sent ∧ Only [.ledger, .loops] s t))
  ∧ (∀ tseq, Hears (fun z => .tokenAck z tseq 1) (fun z s => leadFrame z s = true)
    (fun _ s t => (∀ x ∈ (tok t (ownPkg s)).inTransit, x.1 ≠ tseq) ∧ (tok t (ownPkg s)).granted = (tok s (ownPkg s)).granted
      ∧ Only [.ledger, .loops] s t))
  ∧ (∀ tseq, Hears (fun z => .tokenAck z tseq 0) (fun z s => followerFrame z s = true)
    (fun z s t => (∀ x ∈ (tok t z.src).inTransit, x.1 ≠ tseq)
      ∧ (tok t z.src).granted = (tok s z.src).granted + transitOf (tok s z.src) tseq ∧ Only [.ledger, .loops] s t))
  ∧ (∀ p q n at_, p < 4 → Does (fun τ => .tokenRepeat τ p)
    (fun s => zitherRuns s = true ∧ s.lead = true ∧ (tok s p).inTransit = [(q, n, at_)] ∧ at_ + 5000 ≤ s.devtime)
    (fun s t => (9, p, [(q : Int), (n : Int)]) ∈ t.zither.sent ∧ (tok t p).inTransit = [(q, n, s.devtime)] ∧ Only [.ledger] s t))
  ∧ Does (fun τ => .tokenRequestTimer τ)
    (fun s => zitherRuns s = true ∧ s.follower = true ∧ s.zither.welcomed = true ∧ 0 < tokensWanted s ∧ s.zither.tokenAskedAt = none)
    (fun s t => t.zither.tokenAskedAt = some s.devtime ∧ (8, 0, [(tokensWanted s : Int)]) ∈ t.zither.sent ∧ Only [] s t)
  ∧ (∀ at_, Does (fun τ => .tokenReturnTimer τ)
    (fun s => zitherRuns s = true ∧ s.follower = true ∧ s.zither.welcomed = true ∧ s.zither.highSince = some at_
      ∧ at_ + 1000000 ≤ s.devtime ∧ 0 < (tok s (ownPkg s)).granted ∧ (s.cfg.package.reqTarget : Int) + 20 ≤ freeOf s pkgKey)
    (fun s t => ∃ n q, 0 < n ∧ (tok t (ownPkg s)).granted + n = (tok s (ownPkg s)).granted
      ∧ (10, 0, [(q : Int), (n : Int)]) ∈ t.zither.sent ∧ Only [.ledger] s t))

/-- A follower joins every 100 ms until it is answered, and is welcomed or turned away; the lead answers; CONTROL is sent and obeyed; either
side's silence ends the membership, and ESCROW becomes free after its time (R54, R449, R450, R459). -/
def Obligations.Membership : Prop :=
  (∀ sid cid boots, Hears (fun z => .join z sid cid boots)
    (fun z s => fresh s z = true ∧ s.lead = true ∧ declared s z.src = true ∧ sid = s.cfg.package.systemId
      ∧ (tok s z.src).present = false ∧ (tok s z.src).escrow = 0)
    (fun z s t => (tok t z.src).present = true ∧ (tok t z.src).granted = 0
      ∧ (13, z.src, [(s.cfg.package.systemId : Int), 0]) ∈ t.zither.sent
      ∧ Asserted 237 s t ∧ Only [.ledger, .loops] s t))
  ∧ Does (fun τ => .joinSend τ)
    (fun s => zitherRuns s = true ∧ s.follower = true ∧ s.zither.welcomed = false ∧ s.zither.turnedAway = false
      ∧ s.zither.joinAt = none)
    (fun s t => t.zither.joinAt = some s.devtime
      ∧ (12, 0, [(s.cfg.package.systemId : Int), (s.cfg.container.imageId : Int), (s.zither.boots : Int)]) ∈ t.zither.sent ∧ Only [] s t)
  ∧ (∀ sid, Hears (fun z => .welcome z sid 0)
    (fun z s => fresh s z = true ∧ s.follower = true ∧ z.src = 0 ∧ s.zither.welcomed = false ∧ s.zither.turnedAway = false
      ∧ sid = s.cfg.package.systemId)
    (fun z s t => t.zither.welcomed = true ∧ t.zither.joined = some z.epoch ∧ t.zither.stepOffset = true ∧ t.host.outputsEnabled = false
      ∧ (tok t (ownPkg s)).granted = 0 ∧ Asserted 237 s t ∧ Only [.session, .ledger, .loops] s t))
  ∧ (∀ sid, Hears (fun z => .welcome z sid 1)
    (fun z s => fresh s z = true ∧ s.follower = true ∧ z.src = 0 ∧ s.zither.welcomed = false ∧ s.zither.turnedAway = false)
    (fun _ s t => t.zither.turnedAway = true ∧ t.zither.welcomed = false ∧ Raised 237 (ownPkg s) 0 3 s t ∧ Only [.loops] s t))
  ∧ (∀ cl, Hears (fun z => .control z 1 cl)
    (fun z s => leadFrame z s = true ∧ s.host.outputsEnabled = false)
    (fun _ _ t => t.host.outputsEnabled = true ∧ t.zither.controlFlags = 1))
  ∧ (∀ cl, Hears (fun z => .control z 4 cl)
    (fun z s => leadFrame z s = true ∧ bitAt s.zither.controlFlags 2 = false)
    (fun _ _ t => t.host.outputsEnabled = false ∧ t.host.safeLeft = true ∧ t.zither.controlFlags = 4))
  ∧ Does (fun τ => .controlSend τ)
    (fun s => zitherRuns s = true ∧ controlDue s = true)
    (fun s t => t.zither.controlAt = some s.devtime ∧ (14, 4, [(controlNow s : Int)]) ∈ t.zither.sent ∧ Only [] s t)
  ∧ (∀ cl, Does (fun τ => .systemSilence τ cl)
    (fun s => zitherRuns s = true ∧ s.follower = true ∧ s.zither.welcomed = true
      ∧ (tok s (ownPkg s)).heardAt + silenceUs s ≤ s.devtime)
    (fun s t => t.zither.welcomed = false ∧ t.zither.joined = none ∧ (tok t (ownPkg s)).granted = 0 ∧ t.host.outputsEnabled = false
      ∧ t.host.safeLeft = true))
  ∧ (∀ p, p < 4 → Does (fun τ => .followerSilence τ p)
    (fun s => zitherRuns s = true ∧ s.lead = true ∧ p ≠ 0 ∧ (tok s p).present = true ∧ (tok s p).inTransit = []
      ∧ (tok s p).heardAt + silenceUs s ≤ s.devtime)
    (fun s t => (tok t p).present = false ∧ (tok t p).granted = 0 ∧ (tok t p).escrow = (tok s p).escrow + (tok s p).granted
      ∧ t.ledger.tokensFree = s.ledger.tokensFree ∧ Asserted 237 s t ∧ Only [.ledger] s t))
  ∧ (∀ p, p < 4 → Does (fun τ => .escrowRelease τ p)
    (fun s => zitherRuns s = true ∧ s.lead = true ∧ s.start.ready = true ∧ escrowDue s p = true)
    (fun s t => (tok t p).escrow = 0 ∧ t.ledger.tokensFree = s.ledger.tokensFree + (tok s p).escrow ∧ Only [.ledger] s t))

/-- A follower answers a repeated forwarded request from the reply that it kept, keeps a segment until the message is whole, and answers
an opcode that it does not know; the lead answers the host with the follower's reply, or NOT_READY after 20 ms (R458). -/
def Obligations.Forwarding : Prop :=
  (∀ r seg nseg d bs, Hears (fun z => .fwdReq z r seg nseg d)
    (fun z s => leadFrame z s = true ∧ (s.zither.fwdReplies.find? fun p => p.1 == r) = some (r, bs)
      ∧ bs ≠ [])
    (fun _ s t => t.zither.fwdReplies = s.zither.fwdReplies ∧ s.zither.sent.length < t.zither.sent.length ∧ Only [.ledger, .loops] s t))
  ∧ (∀ r d, Hears (fun z => .fwdReq z r 0 2 d)
    (fun z s => leadFrame z s = true ∧ s.zither.fwdReplies = [] ∧ s.zither.fwdParts = [])
    (fun _ s t => t.zither.fwdParts = [(r, 0, d)] ∧ t.zither.fwdReplies = [] ∧ Only [.ledger, .loops] s t))
  ∧ (∀ r, Hears (fun z => .fwdReq z r 0 1 [0xFF, 0xFF, 0, 0])
    (fun z s => leadFrame z s = true ∧ s.zither.fwdReplies = [] ∧ s.zither.fwdParts = [])
    (fun _ s t => t.zither.fwdReplies = [(r, ({ result := resUnknown } : Reply).payload false)] ∧ Only [.ledger, .loops] s t))
  ∧ (∀ r h op at_ d, Hears (fun z => .fwdRpl z r 0 1 ([0, 0, 0, 0] ++ d))
    (fun z s => followerFrame z s = true ∧ s.zither.fwdParts = [] ∧ s.zither.fwd = [(r, h, op, at_)] ∧ h.course < 4
      ∧ (s.course h.course).long = some (h, op))
    (fun _ s t => RepliedOk h op d t ∧ t.zither.fwd = [] ∧ (t.course h.course).long = none ∧ Only [.courses, .ledger, .loops] s t))
  ∧ (∀ r h op at_, Does (fun τ => .fwdTimeout τ r)
    (fun s => zitherRuns s = true ∧ s.zither.fwd = [(r, h, op, at_)] ∧ at_ + 20000 ≤ s.devtime ∧ h.course < 4
      ∧ (s.course h.course).long = some (h, op))
    (fun s t => Replied h op { result := resNotReady } t ∧ t.zither.fwd = [] ∧ (t.course h.course).long = none
      ∧ Only [.courses] s t))

/-! ## Coalescing, faults, recorder, storage -/

/-- A core whose signal is up claims, handles and acknowledges; the Keeper handles the one entry of the intake, opens it in the fault table
and reports its severity; a scan and a quiet one-shot fault end as their rules say (R470, R477, R484 to R489). -/
def Obligations.FaultManager : Prop :=
  (∀ k, k < 9 → Does (fun τ => .coalescingTimeout τ k)
    (fun s => s.events.stopped = false ∧ awake s = true ∧ signalOf (s.tgt k) s.devtime = true ∧ coreServes s k = true)
    (fun s t => (t.tgt k).running = 0 ∧ (∀ r ∈ (t.tgt k).claimed, r.level = 0)
      ∧ (∀ r ∈ (t.tgt k).queue, r.writtenAt = s.devtime) ∧ Only [] s t))
  ∧ Does (fun τ => .coalescingTimeout τ 9) (fun _ => True) (fun s t => Only [] s t)
  ∧ (∀ e : IntakeEntry, Does (fun τ => .faultHandling τ)
    (fun s => keeperServes s = true ∧ s.faults.intake = [e] ∧ s.faults.ovfTotal = 0 ∧ e.cls ≠ 3920 ∧ e.severity < 4
      ∧ 0 < e.severity ∧ faultShows s e.cls e.inst = none ∧ s.faults.opened = [])
    (fun s t => t.faults.intake = []
      ∧ t.faults.opened = [{ cls := e.cls, inst := e.inst, severity := e.severity, kind := 2, first := e.time, last := e.time }]
      ∧ Asserted (240 + e.severity) s t ∧ Only [.recorder] s t))
  ∧ (∀ first, Does (fun τ => .rebuildScan τ)
    (fun s => keeperServes s = true ∧ s.faults.rebuildDue = some first ∧ s.faults.intake = [])
    (fun s t => t.faults.rebuildDue = none ∧ Only [.recorder] s t))
  ∧ (∀ cls inst (f : OpenFault), Does (fun τ => .oneshotClose τ cls inst)
    (fun s => keeperServes s = true ∧ s.faults.opened = [f] ∧ f.cls = cls ∧ f.inst = inst ∧ f.kind = 2 ∧ f.severity ≤ 3
      ∧ f.last + 10000000 ≤ s.devtime)
    (fun s t => t.faults.opened = [] ∧ Asserted 246 s t ∧ Only [] s t))

/-- A new UTC hour opens a new hourly record; a sample goes into the histograms; a frozen recorder thaws after 60 minutes; a storage error is
reported; the long checks of configuration and firmware, and a partition, end with their replies (R357, R419, R490 to R497, R502). -/
def Obligations.RecorderEvents : Prop :=
  Does (fun τ => .hourChange τ) (fun s => recorderRuns s = true ∧ hourTurns s = true)
    (fun s t => t.recorder.nextHourly = s.recorder.nextHourly + 1 ∧ t.recorder.hour = some (rtcNow s / 3600000) ∧ Only [.recorder] s t)
  ∧ Does (fun τ => .hourChange τ) (fun s => hourTurns s = false) (fun s t => Only [] s t)
  ∧ (∀ x : RecSample, Does (fun τ => .histogramSample τ x)
    (fun s => serves 5 s = true ∧ recorderRuns s = true ∧ s.power.state = .run ∧ s.recorder.frozenAt = none
      ∧ (∀ u, s.recorder.sampledAt = some u → u + 100000 ≤ s.devtime))
    (fun s t => tget t.recorder.lifetime.histSpeed 0 (min 31 (mag s.odo.speed / 500000))
        = tget s.recorder.lifetime.histSpeed 0 (min 31 (mag s.odo.speed / 500000)) + 1 ∧ Only [.recorder] s t))
  ∧ (∀ f, Does (fun τ => .autoThaw τ)
    (fun s => recorderRuns s = true ∧ s.recorder.frozenAt = some f ∧ f + 3600000000 ≤ s.devtime ∧ partitionStopped s 6 = false)
    (fun s t => t.recorder.frozenAt = none ∧ Only [.recorder] s t))
  ∧ (∀ p, p < 8 → Does (fun τ => .emmcError τ p) (fun s => awake s = true) (fun s t => Raised 249 p 0 3 s t
      ∧ t.storage = { s.storage with failing := if 5 ≤ p then p else s.storage.failing } ∧ Only [.storage] s t))
  ∧ (∀ i : Image, Does (fun τ => .cfgVerifyDone τ) (fun s => s.storage.verifying = some i ∧ checkImage s i = none)
    (fun s t => LongDone 515 {} s t ∧ t.storage.verifying = none ∧ Only [.storage, .courses] s t))
  ∧ (∀ f n d, Does (fun τ => .fwCommitDone τ)
    (fun s => s.storage.fwCommitting = some f ∧ fwPasses s f = true ∧ s.storage.fwStaging = some (n, d) ∧ s.storage.runningFw ≤ 1)
    (fun s t => LongDone 2820 {} s t ∧ t.storage.fwCommitting = none ∧ t.storage.fwStaging = none
      ∧ t.storage.activeFw = 1 - s.storage.runningFw ∧ Only [.storage, .courses] s t))
  ∧ (∀ f, Does (fun τ => .fwCommitDone τ) (fun s => s.storage.fwCommitting = some f ∧ fwPasses s f = false)
    (fun s t => LongDone 2820 { result := resDenied } s t ∧ t.storage.activeFw = s.storage.activeFw ∧ Only [.storage, .courses] s t))
  ∧ (∀ mib, Does (fun τ => .partitionDone τ) (fun s => s.storage.partitioning = some mib)
    (fun s t => LongDone 2821 {} s t ∧ t.storage.tableOk = true ∧ t.storage.tephraMib = mib ∧ t.storage.activeCfg = 255
      ∧ t.recorder = {} ∧ t.cov = { slots := slotsOf mib } ∧ Only [.storage, .courses, .recorder, .cov] s t))

/-! ## The whole machine -/

/-- Each step runs the command at the front of the queue with the queue's rest; with an empty queue it takes the first request that the device
holds, or the first work that waited for a core now in service (R22), or lets 10 µs pass, in which only what runs by itself moves. The form of the step is the model's choice (assumption 5). -/
def Obligations.StepRunsFront : Prop :=
  (∀ c rest s, s.pending = c :: rest → step s = exec c { s with pending := rest })
  ∧ (∀ c s1 s, s.pending = [] → nextHeld s = some (c, s1) → step s = exec c s1)
  ∧ (∀ c s1 s, s.pending = [] → nextHeld s = none → nextWork s = some (c, s1) → step s = workDone (exec c s1))
  ∧ (∀ s, s.pending = [] → nextHeld s = none → nextWork s = none →
    ∃ t, step s = .next t ∧ t.devtime = s.devtime + 10 ∧ Only [.time, .units, .vents, .ledger] s t)

/-- The state after reset: RUN with DEVTIME 0, no READY, no configuration, outputs disabled, empty rings and queues, every channel OFF and
every unit off, nothing charged, an epoch of 0, a heartbeat of 0, and the defaults of COUNT and TIME; the invariant holds in it. -/
def Obligations.ResetState : Prop :=
  State.reset.devtime = 0 ∧ State.reset.pending = [] ∧ State.reset.power.state = .run ∧ State.reset.start.ready = false
    ∧ State.reset.start.configActive = false ∧ State.reset.start.maint = false ∧ State.reset.start.cause = 0
    ∧ State.reset.host.outputsEnabled = false ∧ State.reset.host.epoch = 0 ∧ State.reset.host.beat = 0 ∧ State.reset.host.irqEn = false
    ∧ State.reset.host.spiErr = false ∧ State.reset.host.badXfers = 0 ∧ State.reset.host.snapCount = 0
    ∧ (∀ n, n < 4 → (State.reset.course n).ring = [] ∧ (State.reset.course n).reqWr = 0 ∧ (State.reset.course n).rplWr = 0)
    ∧ (∀ n, n < 24 → (State.reset.sw n).state = .off) ∧ (∀ u, u < 128 → unitOff (State.reset.unit u).drive = true)
    ∧ (∀ k, ledgerEl State.reset k = {}) ∧ (State.reset.tgt 9).count = 8 ∧ (State.reset.tgt 9).timeUs = 1000
    ∧ State.reset.faults.intake = [] ∧ State.reset.faults.opened = [] ∧ Memory.wf State.reset.host.ringBytes = true
    ∧ Memory.wf State.reset.cov.cells = true ∧ Invariant State.reset

/-- Every step keeps the invariant: while the event controller acts, each target's non-empty signal is as its eligible records, COUNT and TIME
make it, sources 16 to 19 are active exactly while their reply ring holds unread bytes, and sources 228 to 231 exactly while a receive
buffer is full; and no fault is open that its element no longer shows (R400, R460, R470, R487). -/
def Obligations.StepKeepsInvariant : Prop := ∀ s t, Invariant s → step s = .next t → Invariant t

/-- A current converts to the smallest number of credits that covers it. A request for credits along a chain of elements is granted at every
one of them or at none, and then a lowest level that lacks them is named; a grant moves its credits from FREE to HELD and a release returns them,
so HELD + FREE = POOL stays as it stood (R6, R31 to R33). -/
def Obligations.LedgerGrants : Prop :=
  (∀ mA, mA ≤ 50 * ceilDiv mA 50 ∧ ∀ c, mA ≤ 50 * c → ceilDiv mA 50 ≤ c)
  ∧ (∀ reserved (ks : List Nat) n s t, ks.Nodup → ledgerRequest reserved (along ks n) s = .ok t →
    (∀ k, k ∈ ks → k ∉ s.ledger.broken ∧ (n : Int) ≤ freeOf s k ∧ freeOf t k = freeOf s k - n ∧ heldOf t k = heldOf s k + n)
    ∧ (∀ k, k ∉ ks → ledgerEl t k = ledgerEl s k) ∧ (∀ k, balanced t k = balanced s k) ∧ SameExcept [.ledger] s t)
  ∧ (∀ reserved (ks : List Nat) n s l, ks.Nodup → ledgerRequest reserved (along ks n) s = .error l →
    (∃ k, k ∈ ks ∧ refusesAt s k n = some l) ∧ ∀ k m, k ∈ ks → refusesAt s k n = some m → l ≤ m)
  ∧ (∀ reserved (ks : List Nat) n s t, ks.Nodup → s.ledger.withholdDue = 0 → ledgerRequest reserved (along ks n) s = .ok t →
    ∀ k, freeOf (ledgerRelease reserved (along ks n) t) k = freeOf s k ∧ heldOf (ledgerRelease reserved (along ks n) t) k = heldOf s k)

/-- Every well-formed command completes, but for a report of a VBAT group above 36 V, where the manual specifies nothing and the model stops;
a command is refused only where an operand names an element that the package does not have (R506, Table 01-6). -/
def Obligations.CommandsComplete : Prop :=
  (∀ i s, i.wf = true → (∀ τ g mv cl, i = .vbatGroupLoss τ g mv cl → mv ≤ 36000) → (∀ τ g mv, i = .vbatGroupReturn τ g mv → mv ≤ 36000) →
    ∃ t, exec i s = .next t)
  ∧ (∀ τ g mv cl s, g < 7 → 36000 < mv → exec (.vbatGroupLoss τ g mv cl) s = .fault (.supplyUnspecified g)
    ∧ exec (.vbatGroupReturn τ g mv) s = .fault (.supplyUnspecified g))
  ∧ (∀ i s r, exec i s = .refused r → i.wf = false ∧ ∃ kind n, r = .noSuchElement kind n)
  ∧ (∀ τ u s, 128 ≤ u → exec (.dip τ u) s = .refused (.noSuchElement "valve unit" u))
  ∧ (∀ τ n s, 24 ≤ n → exec (.inrushEnd τ n) s = .refused (.noSuchElement "switch channel" n))
  ∧ (∀ h s, 4 ≤ h.course → exec (.sysInfo h) s = .refused (.noSuchElement "course" h.course))
end

