-- ==== Sys2Proof/Laws/Tbl.lean ====
section
/-! SUPPORT. Laws of banks and of memory cells: what a read gives after a write, and that memory keeps its canonical form. -/

namespace Sys2Proof.Machine

/-! ## Banks -/

@[simp] theorem tget_nil {α : Type} (d : α) (k : Nat) : tget ([] : Tbl α) d k = d := rfl

@[simp] theorem tget_tset_self {α : Type} (t : Tbl α) (d : α) (k : Nat) (a : α) : tget (tset t k a) d k = a := by
  induction t with
  | nil => simp [tset, tget]
  | cons p r ih =>
    obtain ⟨j, b⟩ := p
    by_cases h : k < j
    · simp [tset, tget, h]
    · by_cases e : k = j
      · simp [tset, tget, e]
      · simp [tset, tget, h, e, ih]

theorem tget_tset_of_ne {α : Type} (t : Tbl α) (d : α) {j k : Nat} (a : α) (h : j ≠ k) :
    tget (tset t k a) d j = tget t d j := by
  induction t with
  | nil => simp [tset, tget, h]
  | cons p r ih =>
    obtain ⟨i, b⟩ := p
    by_cases h1 : k < i
    · simp [tset, tget, h1, h]
    · by_cases e : k = i
      · subst e; simp [tset, tget, h]
      · simp [tset, tget, h1, e, ih]

@[simp] theorem tget_tmod_self {α : Type} (t : Tbl α) (d : α) (k : Nat) (f : α → α) :
    tget (tmod t d k f) d k = f (tget t d k) := by simp [tmod]

theorem tget_tmod_of_ne {α : Type} (t : Tbl α) (d : α) {j k : Nat} (f : α → α) (h : j ≠ k) :
    tget (tmod t d k f) d j = tget t d j := by simp [tmod, tget_tset_of_ne _ _ _ h]

/-- A bank read after a write, whichever element is read. -/
theorem tget_tmod {α : Type} (t : Tbl α) (d : α) (j k : Nat) (f : α → α) :
    tget (tmod t d k f) d j = if j = k then f (tget t d k) else tget t d j := by
  by_cases h : j = k
  · subst h; simp
  · simp [h, tget_tmod_of_ne t d f h]

/-- Of two writes of one element the later stands. -/
@[simp] theorem tset_tset {α : Type} (t : Tbl α) (k : Nat) (a b : α) : tset (tset t k a) k b = tset t k b := by
  induction t with
  | nil => simp [tset]
  | cons p r ih =>
    obtain ⟨j, c⟩ := p
    by_cases h : k < j
    · simp [tset, h]
    · by_cases e : k = j
      · simp [tset, e]
      · simp [tset, h, e, ih]

/-- Two changes of one element are one change. -/
@[simp] theorem tmod_tmod {α : Type} (t : Tbl α) (d : α) (k : Nat) (f g : α → α) :
    tmod (tmod t d k f) d k g = tmod t d k (fun x => g (f x)) := by simp [tmod]

/-- A change that keeps the keys and changes every element by one function commutes with a read of a listed element. -/
theorem tget_map {α : Type} (t : Tbl α) (d : α) (f : Nat → α → α) (k : Nat) (h : f k d = d) :
    tget (t.map fun p => (p.1, f p.1 p.2)) d k = f k (tget t d k) := by
  induction t with
  | nil => simp [tget, h]
  | cons p r ih =>
    obtain ⟨j, b⟩ := p
    by_cases e : k = j
    · subst e; simp [tget]
    · simp [tget, e, ih]

/-! ## Memory cells -/

/-- Every address listed in `m` is above `a`. -/
def Memory.above (a : Nat) (m : List Host.Cell) : Prop := ∀ c ∈ m, a < c.1

theorem Memory.wf_cons {a : Nat} {b : Byte} {m : List Host.Cell} :
    Memory.wf ((a, b) :: m) = true ↔ b ≠ 0 ∧ Memory.above a m ∧ Memory.wf m = true := by
  induction m generalizing a b with
  | nil => simp [Memory.wf, Memory.above]
  | cons c r ih =>
    obtain ⟨a', b'⟩ := c
    constructor
    · intro h
      simp only [Memory.wf, Bool.and_eq_true, bne_iff_ne, decide_eq_true_eq] at h
      obtain ⟨⟨hb, hlt⟩, hw⟩ := h
      refine ⟨hb, ?_, hw⟩
      intro x hx
      rcases List.mem_cons.mp hx with rfl | hx
      · exact hlt
      · exact Nat.lt_trans hlt ((ih.mp hw).2.1 x hx)
    · rintro ⟨hb, hab, hw⟩
      simp only [Memory.wf, Bool.and_eq_true, bne_iff_ne, decide_eq_true_eq]
      exact ⟨⟨hb, hab (a', b') (by simp)⟩, hw⟩

theorem Memory.above_write {m : List Host.Cell} {a k : Nat} {b : Byte} (h : Memory.above k m) (ha : k < a) :
    Memory.above k (Memory.write m a b) := by
  induction m with
  | nil => by_cases e : b = 0#8 <;> simp [Memory.write, Memory.above, e, ha]
  | cons c r ih =>
    obtain ⟨j, x⟩ := c
    have hr : Memory.above k r := fun y hy => h y (by simp [hy])
    have hj : k < j := h (j, x) (by simp)
    intro y hy
    simp only [Memory.write] at hy
    split at hy
    · split at hy
      · exact h y hy
      · rcases List.mem_cons.mp hy with rfl | hy
        · exact ha
        · exact h y hy
    · split at hy
      · split at hy
        · exact hr y hy
        · rcases List.mem_cons.mp hy with rfl | hy
          · exact ha
          · exact hr y hy
      · rcases List.mem_cons.mp hy with rfl | hy
        · exact hj
        · exact ih hr y hy

/-- A write keeps memory in its canonical form. -/
theorem Memory.wf_write {m : List Host.Cell} {a : Nat} {b : Byte} (h : Memory.wf m = true) :
    Memory.wf (Memory.write m a b) = true := by
  induction m with
  | nil => by_cases e : b = 0#8 <;> simp [Memory.write, Memory.wf, e]
  | cons c r ih =>
    obtain ⟨j, x⟩ := c
    obtain ⟨hx, hab, hr⟩ := Memory.wf_cons.mp h
    simp only [Memory.write]
    split
    · rename_i hlt
      split
      · exact h
      · rename_i hb
        refine Memory.wf_cons.mpr ⟨hb, ?_, h⟩
        intro y hy
        rcases List.mem_cons.mp hy with rfl | hy
        · exact hlt
        · exact Nat.lt_trans hlt (hab y hy)
    · split
      · rename_i heq
        subst heq
        split
        · exact hr
        · rename_i hb
          exact Memory.wf_cons.mpr ⟨hb, hab, hr⟩
      · exact Memory.wf_cons.mpr ⟨hx, Memory.above_write hab (by omega), ih hr⟩

/-- Erasing a range keeps memory in its canonical form. -/
theorem Memory.wf_clear {m : List Host.Cell} {a z : Nat} (h : Memory.wf m = true) : Memory.wf (Memory.clear m a z) = true := by
  induction m with
  | nil => simp [Memory.clear, Memory.wf]
  | cons c r ih =>
    obtain ⟨j, x⟩ := c
    obtain ⟨hx, hab, hr⟩ := Memory.wf_cons.mp h
    have hih := ih hr
    unfold Memory.clear at hih ⊢
    rw [List.filter_cons]
    split
    · exact Memory.wf_cons.mpr ⟨hx, fun y hy => hab y (List.mem_filter.mp hy).1, hih⟩
    · exact hih

theorem Memory.read_of_above {m : List Host.Cell} {a : Nat} (h : Memory.above a m) : Memory.read m a = 0 := by
  induction m with
  | nil => rfl
  | cons c r ih =>
    obtain ⟨j, x⟩ := c
    have hj : a < j := h (j, x) (by simp)
    have hr : Memory.above a r := fun y hy => h y (by simp [hy])
    simp [Memory.read, Nat.ne_of_lt hj, ih hr]

/-- The byte written is the byte read. -/
theorem Memory.read_write_self {m : List Host.Cell} {a : Nat} {b : Byte} (h : Memory.wf m = true) :
    Memory.read (Memory.write m a b) a = b := by
  induction m with
  | nil => by_cases e : b = 0#8 <;> simp [Memory.write, Memory.read, e]
  | cons c r ih =>
    obtain ⟨j, x⟩ := c
    obtain ⟨hx, hab, hr⟩ := Memory.wf_cons.mp h
    by_cases hlt : a < j
    · by_cases e : b = 0#8
      · have hab' : Memory.above a r := fun y hy => Nat.lt_trans hlt (hab y hy)
        simp [Memory.write, hlt, e, Memory.read, Nat.ne_of_lt hlt, Memory.read_of_above hab']
      · simp [Memory.write, hlt, e, Memory.read]
    · by_cases heq : a = j
      · subst heq
        by_cases e : b = 0#8
        · simp [Memory.write, e, Memory.read_of_above hab]
        · simp [Memory.write, e, Memory.read]
      · simp [Memory.write, hlt, heq, Memory.read, ih hr]

/-- Every other byte reads as before. -/
theorem Memory.read_write_of_ne {m : List Host.Cell} {a k : Nat} {b : Byte} (hne : k ≠ a) :
    Memory.read (Memory.write m a b) k = Memory.read m k := by
  induction m with
  | nil => by_cases e : b = 0#8 <;> simp [Memory.write, Memory.read, e, hne]
  | cons c r ih =>
    obtain ⟨j, x⟩ := c
    by_cases hlt : a < j
    · by_cases e : b = 0#8 <;> simp [Memory.write, hlt, e, Memory.read, hne]
    · by_cases heq : a = j
      · subst heq
        by_cases e : b = 0#8 <;> simp [Memory.write, e, Memory.read, hne]
      · simp [Memory.write, hlt, heq, Memory.read, ih]

end Sys2Proof.Machine
end

