-- ==== Sys2Proof/Laws/State.lean ====
section
/-! SUPPORT. One lemma per field per update: each update of a bank leaves every other field and every other bank's elements as they
were, and the element it changes reads as changed. -/

namespace Sys2Proof.Machine.State

/-! The fields of the state that an update does not touch. -/

@[simp] theorem modUnit_devtime (s : State) (u : Nat) (f : UnitSt → UnitSt) : (s.modUnit u f).devtime = s.devtime := rfl
@[simp] theorem modUnit_cfg (s : State) (u : Nat) (f : UnitSt → UnitSt) : (s.modUnit u f).cfg = s.cfg := rfl
@[simp] theorem modUnit_power (s : State) (u : Nat) (f : UnitSt → UnitSt) : (s.modUnit u f).power = s.power := rfl
@[simp] theorem modUnit_start (s : State) (u : Nat) (f : UnitSt → UnitSt) : (s.modUnit u f).start = s.start := rfl
@[simp] theorem modUnit_storage (s : State) (u : Nat) (f : UnitSt → UnitSt) : (s.modUnit u f).storage = s.storage := rfl
@[simp] theorem modUnit_host (s : State) (u : Nat) (f : UnitSt → UnitSt) : (s.modUnit u f).host = s.host := rfl
@[simp] theorem modUnit_ledger (s : State) (u : Nat) (f : UnitSt → UnitSt) : (s.modUnit u f).ledger = s.ledger := rfl
@[simp] theorem modUnit_clusters (s : State) (u : Nat) (f : UnitSt → UnitSt) : (s.modUnit u f).clusters = s.clusters := rfl
@[simp] theorem modUnit_boost (s : State) (u : Nat) (f : UnitSt → UnitSt) : (s.modUnit u f).boost = s.boost := rfl
@[simp] theorem modUnit_switches (s : State) (u : Nat) (f : UnitSt → UnitSt) : (s.modUnit u f).switches = s.switches := rfl
@[simp] theorem modUnit_vents (s : State) (u : Nat) (f : UnitSt → UnitSt) : (s.modUnit u f).vents = s.vents := rfl
@[simp] theorem modUnit_ventHeld (s : State) (u : Nat) (f : UnitSt → UnitSt) : (s.modUnit u f).ventHeld = s.ventHeld := rfl
@[simp] theorem modUnit_inputs (s : State) (u : Nat) (f : UnitSt → UnitSt) : (s.modUnit u f).inputs = s.inputs := rfl
@[simp] theorem modUnit_outputs (s : State) (u : Nat) (f : UnitSt → UnitSt) : (s.modUnit u f).outputs = s.outputs := rfl
@[simp] theorem modUnit_analogs (s : State) (u : Nat) (f : UnitSt → UnitSt) : (s.modUnit u f).analogs = s.analogs := rfl
@[simp] theorem modUnit_groups (s : State) (u : Nat) (f : UnitSt → UnitSt) : (s.modUnit u f).groups = s.groups := rfl
@[simp] theorem modUnit_dies (s : State) (u : Nat) (f : UnitSt → UnitSt) : (s.modUnit u f).dies = s.dies := rfl
@[simp] theorem modUnit_loops (s : State) (u : Nat) (f : UnitSt → UnitSt) : (s.modUnit u f).loops = s.loops := rfl
@[simp] theorem modUnit_loopStream (s : State) (u : Nat) (f : UnitSt → UnitSt) : (s.modUnit u f).loopStream = s.loopStream := rfl
@[simp] theorem modUnit_loopSentAt (s : State) (u : Nat) (f : UnitSt → UnitSt) : (s.modUnit u f).loopSentAt = s.loopSentAt := rfl
@[simp] theorem modUnit_rates (s : State) (u : Nat) (f : UnitSt → UnitSt) : (s.modUnit u f).rates = s.rates := rfl
@[simp] theorem modUnit_trims (s : State) (u : Nat) (f : UnitSt → UnitSt) : (s.modUnit u f).trims = s.trims := rfl
@[simp] theorem modUnit_rateRaisedAt (s : State) (u : Nat) (f : UnitSt → UnitSt) : (s.modUnit u f).rateRaisedAt = s.rateRaisedAt := rfl
@[simp] theorem modUnit_pressureBad (s : State) (u : Nat) (f : UnitSt → UnitSt) : (s.modUnit u f).pressureBad = s.pressureBad := rfl
@[simp] theorem modUnit_pwmRef (s : State) (u : Nat) (f : UnitSt → UnitSt) : (s.modUnit u f).pwmRef = s.pwmRef := rfl
@[simp] theorem modUnit_nav (s : State) (u : Nat) (f : UnitSt → UnitSt) : (s.modUnit u f).nav = s.nav := rfl
@[simp] theorem modUnit_odo (s : State) (u : Nat) (f : UnitSt → UnitSt) : (s.modUnit u f).odo = s.odo := rfl
@[simp] theorem modUnit_cov (s : State) (u : Nat) (f : UnitSt → UnitSt) : (s.modUnit u f).cov = s.cov := rfl
@[simp] theorem modUnit_events (s : State) (u : Nat) (f : UnitSt → UnitSt) : (s.modUnit u f).events = s.events := rfl
@[simp] theorem modUnit_faults (s : State) (u : Nat) (f : UnitSt → UnitSt) : (s.modUnit u f).faults = s.faults := rfl
@[simp] theorem modUnit_recorder (s : State) (u : Nat) (f : UnitSt → UnitSt) : (s.modUnit u f).recorder = s.recorder := rfl
@[simp] theorem modUnit_limp (s : State) (u : Nat) (f : UnitSt → UnitSt) : (s.modUnit u f).limp = s.limp := rfl
@[simp] theorem modUnit_can (s : State) (u : Nat) (f : UnitSt → UnitSt) : (s.modUnit u f).can = s.can := rfl
@[simp] theorem modUnit_zither (s : State) (u : Nat) (f : UnitSt → UnitSt) : (s.modUnit u f).zither = s.zither := rfl
@[simp] theorem modUnit_freeCount (s : State) (u : Nat) (f : UnitSt → UnitSt) : (s.modUnit u f).freeCount = s.freeCount := rfl
@[simp] theorem modUnit_pending (s : State) (u : Nat) (f : UnitSt → UnitSt) : (s.modUnit u f).pending = s.pending := rfl
@[simp] theorem modUnit_cluster (s : State) (u : Nat) (f : UnitSt → UnitSt) (j : Nat) : (s.modUnit u f).cluster j = s.cluster j := rfl
@[simp] theorem modUnit_boostOf (s : State) (u : Nat) (f : UnitSt → UnitSt) (j : Nat) : (s.modUnit u f).boostOf j = s.boostOf j := rfl
@[simp] theorem modUnit_sw (s : State) (u : Nat) (f : UnitSt → UnitSt) (j : Nat) : (s.modUnit u f).sw j = s.sw j := rfl
@[simp] theorem modUnit_vent (s : State) (u : Nat) (f : UnitSt → UnitSt) (j : Nat) : (s.modUnit u f).vent j = s.vent j := rfl
@[simp] theorem modUnit_fi (s : State) (u : Nat) (f : UnitSt → UnitSt) (j : Nat) : (s.modUnit u f).fi j = s.fi j := rfl
@[simp] theorem modUnit_fo (s : State) (u : Nat) (f : UnitSt → UnitSt) (j : Nat) : (s.modUnit u f).fo j = s.fo j := rfl
@[simp] theorem modUnit_ai (s : State) (u : Nat) (f : UnitSt → UnitSt) (j : Nat) : (s.modUnit u f).ai j = s.ai j := rfl
@[simp] theorem modUnit_group (s : State) (u : Nat) (f : UnitSt → UnitSt) (j : Nat) : (s.modUnit u f).group j = s.group j := rfl
@[simp] theorem modUnit_die (s : State) (u : Nat) (f : UnitSt → UnitSt) (j : Nat) : (s.modUnit u f).die j = s.die j := rfl
@[simp] theorem modUnit_loop (s : State) (u : Nat) (f : UnitSt → UnitSt) (j : Nat) : (s.modUnit u f).loop j = s.loop j := rfl
@[simp] theorem modUnit_course (s : State) (u : Nat) (f : UnitSt → UnitSt) (j : Nat) : (s.modUnit u f).course j = s.course j := rfl
@[simp] theorem modUnit_src (s : State) (u : Nat) (f : UnitSt → UnitSt) (j : Nat) : (s.modUnit u f).src j = s.src j := rfl
@[simp] theorem modUnit_tgt (s : State) (u : Nat) (f : UnitSt → UnitSt) (j : Nat) : (s.modUnit u f).tgt j = s.tgt j := rfl
@[simp] theorem modUnit_canOf (s : State) (u : Nat) (f : UnitSt → UnitSt) (j : Nat) : (s.modUnit u f).canOf j = s.canOf j := rfl
@[simp] theorem modUnit_chan (s : State) (u : Nat) (f : UnitSt → UnitSt) (j : Nat) : (s.modUnit u f).chan j = s.chan j := rfl
@[simp] theorem modUnit_sentOf (s : State) (u : Nat) (f : UnitSt → UnitSt) (j : Nat) : (s.modUnit u f).sentOf j = s.sentOf j := rfl
@[simp] theorem modDrive_devtime (s : State) (u : Nat) (f : Drive → Drive) : (s.modDrive u f).devtime = s.devtime := rfl
@[simp] theorem modDrive_cfg (s : State) (u : Nat) (f : Drive → Drive) : (s.modDrive u f).cfg = s.cfg := rfl
@[simp] theorem modDrive_power (s : State) (u : Nat) (f : Drive → Drive) : (s.modDrive u f).power = s.power := rfl
@[simp] theorem modDrive_start (s : State) (u : Nat) (f : Drive → Drive) : (s.modDrive u f).start = s.start := rfl
@[simp] theorem modDrive_storage (s : State) (u : Nat) (f : Drive → Drive) : (s.modDrive u f).storage = s.storage := rfl
@[simp] theorem modDrive_host (s : State) (u : Nat) (f : Drive → Drive) : (s.modDrive u f).host = s.host := rfl
@[simp] theorem modDrive_ledger (s : State) (u : Nat) (f : Drive → Drive) : (s.modDrive u f).ledger = s.ledger := rfl
@[simp] theorem modDrive_clusters (s : State) (u : Nat) (f : Drive → Drive) : (s.modDrive u f).clusters = s.clusters := rfl
@[simp] theorem modDrive_boost (s : State) (u : Nat) (f : Drive → Drive) : (s.modDrive u f).boost = s.boost := rfl
@[simp] theorem modDrive_switches (s : State) (u : Nat) (f : Drive → Drive) : (s.modDrive u f).switches = s.switches := rfl
@[simp] theorem modDrive_vents (s : State) (u : Nat) (f : Drive → Drive) : (s.modDrive u f).vents = s.vents := rfl
@[simp] theorem modDrive_ventHeld (s : State) (u : Nat) (f : Drive → Drive) : (s.modDrive u f).ventHeld = s.ventHeld := rfl
@[simp] theorem modDrive_inputs (s : State) (u : Nat) (f : Drive → Drive) : (s.modDrive u f).inputs = s.inputs := rfl
@[simp] theorem modDrive_outputs (s : State) (u : Nat) (f : Drive → Drive) : (s.modDrive u f).outputs = s.outputs := rfl
@[simp] theorem modDrive_analogs (s : State) (u : Nat) (f : Drive → Drive) : (s.modDrive u f).analogs = s.analogs := rfl
@[simp] theorem modDrive_groups (s : State) (u : Nat) (f : Drive → Drive) : (s.modDrive u f).groups = s.groups := rfl
@[simp] theorem modDrive_dies (s : State) (u : Nat) (f : Drive → Drive) : (s.modDrive u f).dies = s.dies := rfl
@[simp] theorem modDrive_loops (s : State) (u : Nat) (f : Drive → Drive) : (s.modDrive u f).loops = s.loops := rfl
@[simp] theorem modDrive_loopStream (s : State) (u : Nat) (f : Drive → Drive) : (s.modDrive u f).loopStream = s.loopStream := rfl
@[simp] theorem modDrive_loopSentAt (s : State) (u : Nat) (f : Drive → Drive) : (s.modDrive u f).loopSentAt = s.loopSentAt := rfl
@[simp] theorem modDrive_rates (s : State) (u : Nat) (f : Drive → Drive) : (s.modDrive u f).rates = s.rates := rfl
@[simp] theorem modDrive_trims (s : State) (u : Nat) (f : Drive → Drive) : (s.modDrive u f).trims = s.trims := rfl
@[simp] theorem modDrive_rateRaisedAt (s : State) (u : Nat) (f : Drive → Drive) : (s.modDrive u f).rateRaisedAt = s.rateRaisedAt := rfl
@[simp] theorem modDrive_pressureBad (s : State) (u : Nat) (f : Drive → Drive) : (s.modDrive u f).pressureBad = s.pressureBad := rfl
@[simp] theorem modDrive_pwmRef (s : State) (u : Nat) (f : Drive → Drive) : (s.modDrive u f).pwmRef = s.pwmRef := rfl
@[simp] theorem modDrive_nav (s : State) (u : Nat) (f : Drive → Drive) : (s.modDrive u f).nav = s.nav := rfl
@[simp] theorem modDrive_odo (s : State) (u : Nat) (f : Drive → Drive) : (s.modDrive u f).odo = s.odo := rfl
@[simp] theorem modDrive_cov (s : State) (u : Nat) (f : Drive → Drive) : (s.modDrive u f).cov = s.cov := rfl
@[simp] theorem modDrive_events (s : State) (u : Nat) (f : Drive → Drive) : (s.modDrive u f).events = s.events := rfl
@[simp] theorem modDrive_faults (s : State) (u : Nat) (f : Drive → Drive) : (s.modDrive u f).faults = s.faults := rfl
@[simp] theorem modDrive_recorder (s : State) (u : Nat) (f : Drive → Drive) : (s.modDrive u f).recorder = s.recorder := rfl
@[simp] theorem modDrive_limp (s : State) (u : Nat) (f : Drive → Drive) : (s.modDrive u f).limp = s.limp := rfl
@[simp] theorem modDrive_can (s : State) (u : Nat) (f : Drive → Drive) : (s.modDrive u f).can = s.can := rfl
@[simp] theorem modDrive_zither (s : State) (u : Nat) (f : Drive → Drive) : (s.modDrive u f).zither = s.zither := rfl
@[simp] theorem modDrive_freeCount (s : State) (u : Nat) (f : Drive → Drive) : (s.modDrive u f).freeCount = s.freeCount := rfl
@[simp] theorem modDrive_pending (s : State) (u : Nat) (f : Drive → Drive) : (s.modDrive u f).pending = s.pending := rfl
@[simp] theorem modDrive_cluster (s : State) (u : Nat) (f : Drive → Drive) (j : Nat) : (s.modDrive u f).cluster j = s.cluster j := rfl
@[simp] theorem modDrive_boostOf (s : State) (u : Nat) (f : Drive → Drive) (j : Nat) : (s.modDrive u f).boostOf j = s.boostOf j := rfl
@[simp] theorem modDrive_sw (s : State) (u : Nat) (f : Drive → Drive) (j : Nat) : (s.modDrive u f).sw j = s.sw j := rfl
@[simp] theorem modDrive_vent (s : State) (u : Nat) (f : Drive → Drive) (j : Nat) : (s.modDrive u f).vent j = s.vent j := rfl
@[simp] theorem modDrive_fi (s : State) (u : Nat) (f : Drive → Drive) (j : Nat) : (s.modDrive u f).fi j = s.fi j := rfl
@[simp] theorem modDrive_fo (s : State) (u : Nat) (f : Drive → Drive) (j : Nat) : (s.modDrive u f).fo j = s.fo j := rfl
@[simp] theorem modDrive_ai (s : State) (u : Nat) (f : Drive → Drive) (j : Nat) : (s.modDrive u f).ai j = s.ai j := rfl
@[simp] theorem modDrive_group (s : State) (u : Nat) (f : Drive → Drive) (j : Nat) : (s.modDrive u f).group j = s.group j := rfl
@[simp] theorem modDrive_die (s : State) (u : Nat) (f : Drive → Drive) (j : Nat) : (s.modDrive u f).die j = s.die j := rfl
@[simp] theorem modDrive_loop (s : State) (u : Nat) (f : Drive → Drive) (j : Nat) : (s.modDrive u f).loop j = s.loop j := rfl
@[simp] theorem modDrive_course (s : State) (u : Nat) (f : Drive → Drive) (j : Nat) : (s.modDrive u f).course j = s.course j := rfl
@[simp] theorem modDrive_src (s : State) (u : Nat) (f : Drive → Drive) (j : Nat) : (s.modDrive u f).src j = s.src j := rfl
@[simp] theorem modDrive_tgt (s : State) (u : Nat) (f : Drive → Drive) (j : Nat) : (s.modDrive u f).tgt j = s.tgt j := rfl
@[simp] theorem modDrive_canOf (s : State) (u : Nat) (f : Drive → Drive) (j : Nat) : (s.modDrive u f).canOf j = s.canOf j := rfl
@[simp] theorem modDrive_chan (s : State) (u : Nat) (f : Drive → Drive) (j : Nat) : (s.modDrive u f).chan j = s.chan j := rfl
@[simp] theorem modDrive_sentOf (s : State) (u : Nat) (f : Drive → Drive) (j : Nat) : (s.modDrive u f).sentOf j = s.sentOf j := rfl
@[simp] theorem modLearn_devtime (s : State) (u : Nat) (f : Learn → Learn) : (s.modLearn u f).devtime = s.devtime := rfl
@[simp] theorem modLearn_cfg (s : State) (u : Nat) (f : Learn → Learn) : (s.modLearn u f).cfg = s.cfg := rfl
@[simp] theorem modLearn_power (s : State) (u : Nat) (f : Learn → Learn) : (s.modLearn u f).power = s.power := rfl
@[simp] theorem modLearn_start (s : State) (u : Nat) (f : Learn → Learn) : (s.modLearn u f).start = s.start := rfl
@[simp] theorem modLearn_storage (s : State) (u : Nat) (f : Learn → Learn) : (s.modLearn u f).storage = s.storage := rfl
@[simp] theorem modLearn_host (s : State) (u : Nat) (f : Learn → Learn) : (s.modLearn u f).host = s.host := rfl
@[simp] theorem modLearn_ledger (s : State) (u : Nat) (f : Learn → Learn) : (s.modLearn u f).ledger = s.ledger := rfl
@[simp] theorem modLearn_clusters (s : State) (u : Nat) (f : Learn → Learn) : (s.modLearn u f).clusters = s.clusters := rfl
@[simp] theorem modLearn_boost (s : State) (u : Nat) (f : Learn → Learn) : (s.modLearn u f).boost = s.boost := rfl
@[simp] theorem modLearn_switches (s : State) (u : Nat) (f : Learn → Learn) : (s.modLearn u f).switches = s.switches := rfl
@[simp] theorem modLearn_vents (s : State) (u : Nat) (f : Learn → Learn) : (s.modLearn u f).vents = s.vents := rfl
@[simp] theorem modLearn_ventHeld (s : State) (u : Nat) (f : Learn → Learn) : (s.modLearn u f).ventHeld = s.ventHeld := rfl
@[simp] theorem modLearn_inputs (s : State) (u : Nat) (f : Learn → Learn) : (s.modLearn u f).inputs = s.inputs := rfl
@[simp] theorem modLearn_outputs (s : State) (u : Nat) (f : Learn → Learn) : (s.modLearn u f).outputs = s.outputs := rfl
@[simp] theorem modLearn_analogs (s : State) (u : Nat) (f : Learn → Learn) : (s.modLearn u f).analogs = s.analogs := rfl
@[simp] theorem modLearn_groups (s : State) (u : Nat) (f : Learn → Learn) : (s.modLearn u f).groups = s.groups := rfl
@[simp] theorem modLearn_dies (s : State) (u : Nat) (f : Learn → Learn) : (s.modLearn u f).dies = s.dies := rfl
@[simp] theorem modLearn_loops (s : State) (u : Nat) (f : Learn → Learn) : (s.modLearn u f).loops = s.loops := rfl
@[simp] theorem modLearn_loopStream (s : State) (u : Nat) (f : Learn → Learn) : (s.modLearn u f).loopStream = s.loopStream := rfl
@[simp] theorem modLearn_loopSentAt (s : State) (u : Nat) (f : Learn → Learn) : (s.modLearn u f).loopSentAt = s.loopSentAt := rfl
@[simp] theorem modLearn_rates (s : State) (u : Nat) (f : Learn → Learn) : (s.modLearn u f).rates = s.rates := rfl
@[simp] theorem modLearn_trims (s : State) (u : Nat) (f : Learn → Learn) : (s.modLearn u f).trims = s.trims := rfl
@[simp] theorem modLearn_rateRaisedAt (s : State) (u : Nat) (f : Learn → Learn) : (s.modLearn u f).rateRaisedAt = s.rateRaisedAt := rfl
@[simp] theorem modLearn_pressureBad (s : State) (u : Nat) (f : Learn → Learn) : (s.modLearn u f).pressureBad = s.pressureBad := rfl
@[simp] theorem modLearn_pwmRef (s : State) (u : Nat) (f : Learn → Learn) : (s.modLearn u f).pwmRef = s.pwmRef := rfl
@[simp] theorem modLearn_nav (s : State) (u : Nat) (f : Learn → Learn) : (s.modLearn u f).nav = s.nav := rfl
@[simp] theorem modLearn_odo (s : State) (u : Nat) (f : Learn → Learn) : (s.modLearn u f).odo = s.odo := rfl
@[simp] theorem modLearn_cov (s : State) (u : Nat) (f : Learn → Learn) : (s.modLearn u f).cov = s.cov := rfl
@[simp] theorem modLearn_events (s : State) (u : Nat) (f : Learn → Learn) : (s.modLearn u f).events = s.events := rfl
@[simp] theorem modLearn_faults (s : State) (u : Nat) (f : Learn → Learn) : (s.modLearn u f).faults = s.faults := rfl
@[simp] theorem modLearn_recorder (s : State) (u : Nat) (f : Learn → Learn) : (s.modLearn u f).recorder = s.recorder := rfl
@[simp] theorem modLearn_limp (s : State) (u : Nat) (f : Learn → Learn) : (s.modLearn u f).limp = s.limp := rfl
@[simp] theorem modLearn_can (s : State) (u : Nat) (f : Learn → Learn) : (s.modLearn u f).can = s.can := rfl
@[simp] theorem modLearn_zither (s : State) (u : Nat) (f : Learn → Learn) : (s.modLearn u f).zither = s.zither := rfl
@[simp] theorem modLearn_freeCount (s : State) (u : Nat) (f : Learn → Learn) : (s.modLearn u f).freeCount = s.freeCount := rfl
@[simp] theorem modLearn_pending (s : State) (u : Nat) (f : Learn → Learn) : (s.modLearn u f).pending = s.pending := rfl
@[simp] theorem modLearn_cluster (s : State) (u : Nat) (f : Learn → Learn) (j : Nat) : (s.modLearn u f).cluster j = s.cluster j := rfl
@[simp] theorem modLearn_boostOf (s : State) (u : Nat) (f : Learn → Learn) (j : Nat) : (s.modLearn u f).boostOf j = s.boostOf j := rfl
@[simp] theorem modLearn_sw (s : State) (u : Nat) (f : Learn → Learn) (j : Nat) : (s.modLearn u f).sw j = s.sw j := rfl
@[simp] theorem modLearn_vent (s : State) (u : Nat) (f : Learn → Learn) (j : Nat) : (s.modLearn u f).vent j = s.vent j := rfl
@[simp] theorem modLearn_fi (s : State) (u : Nat) (f : Learn → Learn) (j : Nat) : (s.modLearn u f).fi j = s.fi j := rfl
@[simp] theorem modLearn_fo (s : State) (u : Nat) (f : Learn → Learn) (j : Nat) : (s.modLearn u f).fo j = s.fo j := rfl
@[simp] theorem modLearn_ai (s : State) (u : Nat) (f : Learn → Learn) (j : Nat) : (s.modLearn u f).ai j = s.ai j := rfl
@[simp] theorem modLearn_group (s : State) (u : Nat) (f : Learn → Learn) (j : Nat) : (s.modLearn u f).group j = s.group j := rfl
@[simp] theorem modLearn_die (s : State) (u : Nat) (f : Learn → Learn) (j : Nat) : (s.modLearn u f).die j = s.die j := rfl
@[simp] theorem modLearn_loop (s : State) (u : Nat) (f : Learn → Learn) (j : Nat) : (s.modLearn u f).loop j = s.loop j := rfl
@[simp] theorem modLearn_course (s : State) (u : Nat) (f : Learn → Learn) (j : Nat) : (s.modLearn u f).course j = s.course j := rfl
@[simp] theorem modLearn_src (s : State) (u : Nat) (f : Learn → Learn) (j : Nat) : (s.modLearn u f).src j = s.src j := rfl
@[simp] theorem modLearn_tgt (s : State) (u : Nat) (f : Learn → Learn) (j : Nat) : (s.modLearn u f).tgt j = s.tgt j := rfl
@[simp] theorem modLearn_canOf (s : State) (u : Nat) (f : Learn → Learn) (j : Nat) : (s.modLearn u f).canOf j = s.canOf j := rfl
@[simp] theorem modLearn_chan (s : State) (u : Nat) (f : Learn → Learn) (j : Nat) : (s.modLearn u f).chan j = s.chan j := rfl
@[simp] theorem modLearn_sentOf (s : State) (u : Nat) (f : Learn → Learn) (j : Nat) : (s.modLearn u f).sentOf j = s.sentOf j := rfl
@[simp] theorem modSect_devtime (s : State) (u : Nat) (f : SectionSt → SectionSt) : (s.modSect u f).devtime = s.devtime := rfl
@[simp] theorem modSect_cfg (s : State) (u : Nat) (f : SectionSt → SectionSt) : (s.modSect u f).cfg = s.cfg := rfl
@[simp] theorem modSect_power (s : State) (u : Nat) (f : SectionSt → SectionSt) : (s.modSect u f).power = s.power := rfl
@[simp] theorem modSect_start (s : State) (u : Nat) (f : SectionSt → SectionSt) : (s.modSect u f).start = s.start := rfl
@[simp] theorem modSect_storage (s : State) (u : Nat) (f : SectionSt → SectionSt) : (s.modSect u f).storage = s.storage := rfl
@[simp] theorem modSect_host (s : State) (u : Nat) (f : SectionSt → SectionSt) : (s.modSect u f).host = s.host := rfl
@[simp] theorem modSect_ledger (s : State) (u : Nat) (f : SectionSt → SectionSt) : (s.modSect u f).ledger = s.ledger := rfl
@[simp] theorem modSect_clusters (s : State) (u : Nat) (f : SectionSt → SectionSt) : (s.modSect u f).clusters = s.clusters := rfl
@[simp] theorem modSect_boost (s : State) (u : Nat) (f : SectionSt → SectionSt) : (s.modSect u f).boost = s.boost := rfl
@[simp] theorem modSect_switches (s : State) (u : Nat) (f : SectionSt → SectionSt) : (s.modSect u f).switches = s.switches := rfl
@[simp] theorem modSect_vents (s : State) (u : Nat) (f : SectionSt → SectionSt) : (s.modSect u f).vents = s.vents := rfl
@[simp] theorem modSect_ventHeld (s : State) (u : Nat) (f : SectionSt → SectionSt) : (s.modSect u f).ventHeld = s.ventHeld := rfl
@[simp] theorem modSect_inputs (s : State) (u : Nat) (f : SectionSt → SectionSt) : (s.modSect u f).inputs = s.inputs := rfl
@[simp] theorem modSect_outputs (s : State) (u : Nat) (f : SectionSt → SectionSt) : (s.modSect u f).outputs = s.outputs := rfl
@[simp] theorem modSect_analogs (s : State) (u : Nat) (f : SectionSt → SectionSt) : (s.modSect u f).analogs = s.analogs := rfl
@[simp] theorem modSect_groups (s : State) (u : Nat) (f : SectionSt → SectionSt) : (s.modSect u f).groups = s.groups := rfl
@[simp] theorem modSect_dies (s : State) (u : Nat) (f : SectionSt → SectionSt) : (s.modSect u f).dies = s.dies := rfl
@[simp] theorem modSect_loops (s : State) (u : Nat) (f : SectionSt → SectionSt) : (s.modSect u f).loops = s.loops := rfl
@[simp] theorem modSect_loopStream (s : State) (u : Nat) (f : SectionSt → SectionSt) : (s.modSect u f).loopStream = s.loopStream := rfl
@[simp] theorem modSect_loopSentAt (s : State) (u : Nat) (f : SectionSt → SectionSt) : (s.modSect u f).loopSentAt = s.loopSentAt := rfl
@[simp] theorem modSect_rates (s : State) (u : Nat) (f : SectionSt → SectionSt) : (s.modSect u f).rates = s.rates := rfl
@[simp] theorem modSect_trims (s : State) (u : Nat) (f : SectionSt → SectionSt) : (s.modSect u f).trims = s.trims := rfl
@[simp] theorem modSect_rateRaisedAt (s : State) (u : Nat) (f : SectionSt → SectionSt) : (s.modSect u f).rateRaisedAt = s.rateRaisedAt := rfl
@[simp] theorem modSect_pressureBad (s : State) (u : Nat) (f : SectionSt → SectionSt) : (s.modSect u f).pressureBad = s.pressureBad := rfl
@[simp] theorem modSect_pwmRef (s : State) (u : Nat) (f : SectionSt → SectionSt) : (s.modSect u f).pwmRef = s.pwmRef := rfl
@[simp] theorem modSect_nav (s : State) (u : Nat) (f : SectionSt → SectionSt) : (s.modSect u f).nav = s.nav := rfl
@[simp] theorem modSect_odo (s : State) (u : Nat) (f : SectionSt → SectionSt) : (s.modSect u f).odo = s.odo := rfl
@[simp] theorem modSect_cov (s : State) (u : Nat) (f : SectionSt → SectionSt) : (s.modSect u f).cov = s.cov := rfl
@[simp] theorem modSect_events (s : State) (u : Nat) (f : SectionSt → SectionSt) : (s.modSect u f).events = s.events := rfl
@[simp] theorem modSect_faults (s : State) (u : Nat) (f : SectionSt → SectionSt) : (s.modSect u f).faults = s.faults := rfl
@[simp] theorem modSect_recorder (s : State) (u : Nat) (f : SectionSt → SectionSt) : (s.modSect u f).recorder = s.recorder := rfl
@[simp] theorem modSect_limp (s : State) (u : Nat) (f : SectionSt → SectionSt) : (s.modSect u f).limp = s.limp := rfl
@[simp] theorem modSect_can (s : State) (u : Nat) (f : SectionSt → SectionSt) : (s.modSect u f).can = s.can := rfl
@[simp] theorem modSect_zither (s : State) (u : Nat) (f : SectionSt → SectionSt) : (s.modSect u f).zither = s.zither := rfl
@[simp] theorem modSect_freeCount (s : State) (u : Nat) (f : SectionSt → SectionSt) : (s.modSect u f).freeCount = s.freeCount := rfl
@[simp] theorem modSect_pending (s : State) (u : Nat) (f : SectionSt → SectionSt) : (s.modSect u f).pending = s.pending := rfl
@[simp] theorem modSect_cluster (s : State) (u : Nat) (f : SectionSt → SectionSt) (j : Nat) : (s.modSect u f).cluster j = s.cluster j := rfl
@[simp] theorem modSect_boostOf (s : State) (u : Nat) (f : SectionSt → SectionSt) (j : Nat) : (s.modSect u f).boostOf j = s.boostOf j := rfl
@[simp] theorem modSect_sw (s : State) (u : Nat) (f : SectionSt → SectionSt) (j : Nat) : (s.modSect u f).sw j = s.sw j := rfl
@[simp] theorem modSect_vent (s : State) (u : Nat) (f : SectionSt → SectionSt) (j : Nat) : (s.modSect u f).vent j = s.vent j := rfl
@[simp] theorem modSect_fi (s : State) (u : Nat) (f : SectionSt → SectionSt) (j : Nat) : (s.modSect u f).fi j = s.fi j := rfl
@[simp] theorem modSect_fo (s : State) (u : Nat) (f : SectionSt → SectionSt) (j : Nat) : (s.modSect u f).fo j = s.fo j := rfl
@[simp] theorem modSect_ai (s : State) (u : Nat) (f : SectionSt → SectionSt) (j : Nat) : (s.modSect u f).ai j = s.ai j := rfl
@[simp] theorem modSect_group (s : State) (u : Nat) (f : SectionSt → SectionSt) (j : Nat) : (s.modSect u f).group j = s.group j := rfl
@[simp] theorem modSect_die (s : State) (u : Nat) (f : SectionSt → SectionSt) (j : Nat) : (s.modSect u f).die j = s.die j := rfl
@[simp] theorem modSect_loop (s : State) (u : Nat) (f : SectionSt → SectionSt) (j : Nat) : (s.modSect u f).loop j = s.loop j := rfl
@[simp] theorem modSect_course (s : State) (u : Nat) (f : SectionSt → SectionSt) (j : Nat) : (s.modSect u f).course j = s.course j := rfl
@[simp] theorem modSect_src (s : State) (u : Nat) (f : SectionSt → SectionSt) (j : Nat) : (s.modSect u f).src j = s.src j := rfl
@[simp] theorem modSect_tgt (s : State) (u : Nat) (f : SectionSt → SectionSt) (j : Nat) : (s.modSect u f).tgt j = s.tgt j := rfl
@[simp] theorem modSect_canOf (s : State) (u : Nat) (f : SectionSt → SectionSt) (j : Nat) : (s.modSect u f).canOf j = s.canOf j := rfl
@[simp] theorem modSect_chan (s : State) (u : Nat) (f : SectionSt → SectionSt) (j : Nat) : (s.modSect u f).chan j = s.chan j := rfl
@[simp] theorem modSect_sentOf (s : State) (u : Nat) (f : SectionSt → SectionSt) (j : Nat) : (s.modSect u f).sentOf j = s.sentOf j := rfl
@[simp] theorem modValve_devtime (s : State) (u : Nat) (f : ValveCounters → ValveCounters) : (s.modValve u f).devtime = s.devtime := rfl
@[simp] theorem modValve_cfg (s : State) (u : Nat) (f : ValveCounters → ValveCounters) : (s.modValve u f).cfg = s.cfg := rfl
@[simp] theorem modValve_power (s : State) (u : Nat) (f : ValveCounters → ValveCounters) : (s.modValve u f).power = s.power := rfl
@[simp] theorem modValve_start (s : State) (u : Nat) (f : ValveCounters → ValveCounters) : (s.modValve u f).start = s.start := rfl
@[simp] theorem modValve_storage (s : State) (u : Nat) (f : ValveCounters → ValveCounters) : (s.modValve u f).storage = s.storage := rfl
@[simp] theorem modValve_host (s : State) (u : Nat) (f : ValveCounters → ValveCounters) : (s.modValve u f).host = s.host := rfl
@[simp] theorem modValve_ledger (s : State) (u : Nat) (f : ValveCounters → ValveCounters) : (s.modValve u f).ledger = s.ledger := rfl
@[simp] theorem modValve_clusters (s : State) (u : Nat) (f : ValveCounters → ValveCounters) : (s.modValve u f).clusters = s.clusters := rfl
@[simp] theorem modValve_boost (s : State) (u : Nat) (f : ValveCounters → ValveCounters) : (s.modValve u f).boost = s.boost := rfl
@[simp] theorem modValve_switches (s : State) (u : Nat) (f : ValveCounters → ValveCounters) : (s.modValve u f).switches = s.switches := rfl
@[simp] theorem modValve_vents (s : State) (u : Nat) (f : ValveCounters → ValveCounters) : (s.modValve u f).vents = s.vents := rfl
@[simp] theorem modValve_ventHeld (s : State) (u : Nat) (f : ValveCounters → ValveCounters) : (s.modValve u f).ventHeld = s.ventHeld := rfl
@[simp] theorem modValve_inputs (s : State) (u : Nat) (f : ValveCounters → ValveCounters) : (s.modValve u f).inputs = s.inputs := rfl
@[simp] theorem modValve_outputs (s : State) (u : Nat) (f : ValveCounters → ValveCounters) : (s.modValve u f).outputs = s.outputs := rfl
@[simp] theorem modValve_analogs (s : State) (u : Nat) (f : ValveCounters → ValveCounters) : (s.modValve u f).analogs = s.analogs := rfl
@[simp] theorem modValve_groups (s : State) (u : Nat) (f : ValveCounters → ValveCounters) : (s.modValve u f).groups = s.groups := rfl
@[simp] theorem modValve_dies (s : State) (u : Nat) (f : ValveCounters → ValveCounters) : (s.modValve u f).dies = s.dies := rfl
@[simp] theorem modValve_loops (s : State) (u : Nat) (f : ValveCounters → ValveCounters) : (s.modValve u f).loops = s.loops := rfl
@[simp] theorem modValve_loopStream (s : State) (u : Nat) (f : ValveCounters → ValveCounters) : (s.modValve u f).loopStream = s.loopStream := rfl
@[simp] theorem modValve_loopSentAt (s : State) (u : Nat) (f : ValveCounters → ValveCounters) : (s.modValve u f).loopSentAt = s.loopSentAt := rfl
@[simp] theorem modValve_rates (s : State) (u : Nat) (f : ValveCounters → ValveCounters) : (s.modValve u f).rates = s.rates := rfl
@[simp] theorem modValve_trims (s : State) (u : Nat) (f : ValveCounters → ValveCounters) : (s.modValve u f).trims = s.trims := rfl
@[simp] theorem modValve_rateRaisedAt (s : State) (u : Nat) (f : ValveCounters → ValveCounters) : (s.modValve u f).rateRaisedAt = s.rateRaisedAt := rfl
@[simp] theorem modValve_pressureBad (s : State) (u : Nat) (f : ValveCounters → ValveCounters) : (s.modValve u f).pressureBad = s.pressureBad := rfl
@[simp] theorem modValve_pwmRef (s : State) (u : Nat) (f : ValveCounters → ValveCounters) : (s.modValve u f).pwmRef = s.pwmRef := rfl
@[simp] theorem modValve_nav (s : State) (u : Nat) (f : ValveCounters → ValveCounters) : (s.modValve u f).nav = s.nav := rfl
@[simp] theorem modValve_odo (s : State) (u : Nat) (f : ValveCounters → ValveCounters) : (s.modValve u f).odo = s.odo := rfl
@[simp] theorem modValve_cov (s : State) (u : Nat) (f : ValveCounters → ValveCounters) : (s.modValve u f).cov = s.cov := rfl
@[simp] theorem modValve_events (s : State) (u : Nat) (f : ValveCounters → ValveCounters) : (s.modValve u f).events = s.events := rfl
@[simp] theorem modValve_faults (s : State) (u : Nat) (f : ValveCounters → ValveCounters) : (s.modValve u f).faults = s.faults := rfl
@[simp] theorem modValve_recorder (s : State) (u : Nat) (f : ValveCounters → ValveCounters) : (s.modValve u f).recorder = s.recorder := rfl
@[simp] theorem modValve_limp (s : State) (u : Nat) (f : ValveCounters → ValveCounters) : (s.modValve u f).limp = s.limp := rfl
@[simp] theorem modValve_can (s : State) (u : Nat) (f : ValveCounters → ValveCounters) : (s.modValve u f).can = s.can := rfl
@[simp] theorem modValve_zither (s : State) (u : Nat) (f : ValveCounters → ValveCounters) : (s.modValve u f).zither = s.zither := rfl
@[simp] theorem modValve_freeCount (s : State) (u : Nat) (f : ValveCounters → ValveCounters) : (s.modValve u f).freeCount = s.freeCount := rfl
@[simp] theorem modValve_pending (s : State) (u : Nat) (f : ValveCounters → ValveCounters) : (s.modValve u f).pending = s.pending := rfl
@[simp] theorem modValve_cluster (s : State) (u : Nat) (f : ValveCounters → ValveCounters) (j : Nat) : (s.modValve u f).cluster j = s.cluster j := rfl
@[simp] theorem modValve_boostOf (s : State) (u : Nat) (f : ValveCounters → ValveCounters) (j : Nat) : (s.modValve u f).boostOf j = s.boostOf j := rfl
@[simp] theorem modValve_sw (s : State) (u : Nat) (f : ValveCounters → ValveCounters) (j : Nat) : (s.modValve u f).sw j = s.sw j := rfl
@[simp] theorem modValve_vent (s : State) (u : Nat) (f : ValveCounters → ValveCounters) (j : Nat) : (s.modValve u f).vent j = s.vent j := rfl
@[simp] theorem modValve_fi (s : State) (u : Nat) (f : ValveCounters → ValveCounters) (j : Nat) : (s.modValve u f).fi j = s.fi j := rfl
@[simp] theorem modValve_fo (s : State) (u : Nat) (f : ValveCounters → ValveCounters) (j : Nat) : (s.modValve u f).fo j = s.fo j := rfl
@[simp] theorem modValve_ai (s : State) (u : Nat) (f : ValveCounters → ValveCounters) (j : Nat) : (s.modValve u f).ai j = s.ai j := rfl
@[simp] theorem modValve_group (s : State) (u : Nat) (f : ValveCounters → ValveCounters) (j : Nat) : (s.modValve u f).group j = s.group j := rfl
@[simp] theorem modValve_die (s : State) (u : Nat) (f : ValveCounters → ValveCounters) (j : Nat) : (s.modValve u f).die j = s.die j := rfl
@[simp] theorem modValve_loop (s : State) (u : Nat) (f : ValveCounters → ValveCounters) (j : Nat) : (s.modValve u f).loop j = s.loop j := rfl
@[simp] theorem modValve_course (s : State) (u : Nat) (f : ValveCounters → ValveCounters) (j : Nat) : (s.modValve u f).course j = s.course j := rfl
@[simp] theorem modValve_src (s : State) (u : Nat) (f : ValveCounters → ValveCounters) (j : Nat) : (s.modValve u f).src j = s.src j := rfl
@[simp] theorem modValve_tgt (s : State) (u : Nat) (f : ValveCounters → ValveCounters) (j : Nat) : (s.modValve u f).tgt j = s.tgt j := rfl
@[simp] theorem modValve_canOf (s : State) (u : Nat) (f : ValveCounters → ValveCounters) (j : Nat) : (s.modValve u f).canOf j = s.canOf j := rfl
@[simp] theorem modValve_chan (s : State) (u : Nat) (f : ValveCounters → ValveCounters) (j : Nat) : (s.modValve u f).chan j = s.chan j := rfl
@[simp] theorem modValve_sentOf (s : State) (u : Nat) (f : ValveCounters → ValveCounters) (j : Nat) : (s.modValve u f).sentOf j = s.sentOf j := rfl
@[simp] theorem modFretCnt_devtime (s : State) (u : Nat) (f : FretCounters → FretCounters) : (s.modFretCnt u f).devtime = s.devtime := rfl
@[simp] theorem modFretCnt_cfg (s : State) (u : Nat) (f : FretCounters → FretCounters) : (s.modFretCnt u f).cfg = s.cfg := rfl
@[simp] theorem modFretCnt_power (s : State) (u : Nat) (f : FretCounters → FretCounters) : (s.modFretCnt u f).power = s.power := rfl
@[simp] theorem modFretCnt_start (s : State) (u : Nat) (f : FretCounters → FretCounters) : (s.modFretCnt u f).start = s.start := rfl
@[simp] theorem modFretCnt_storage (s : State) (u : Nat) (f : FretCounters → FretCounters) : (s.modFretCnt u f).storage = s.storage := rfl
@[simp] theorem modFretCnt_host (s : State) (u : Nat) (f : FretCounters → FretCounters) : (s.modFretCnt u f).host = s.host := rfl
@[simp] theorem modFretCnt_ledger (s : State) (u : Nat) (f : FretCounters → FretCounters) : (s.modFretCnt u f).ledger = s.ledger := rfl
@[simp] theorem modFretCnt_clusters (s : State) (u : Nat) (f : FretCounters → FretCounters) : (s.modFretCnt u f).clusters = s.clusters := rfl
@[simp] theorem modFretCnt_boost (s : State) (u : Nat) (f : FretCounters → FretCounters) : (s.modFretCnt u f).boost = s.boost := rfl
@[simp] theorem modFretCnt_switches (s : State) (u : Nat) (f : FretCounters → FretCounters) : (s.modFretCnt u f).switches = s.switches := rfl
@[simp] theorem modFretCnt_vents (s : State) (u : Nat) (f : FretCounters → FretCounters) : (s.modFretCnt u f).vents = s.vents := rfl
@[simp] theorem modFretCnt_ventHeld (s : State) (u : Nat) (f : FretCounters → FretCounters) : (s.modFretCnt u f).ventHeld = s.ventHeld := rfl
@[simp] theorem modFretCnt_inputs (s : State) (u : Nat) (f : FretCounters → FretCounters) : (s.modFretCnt u f).inputs = s.inputs := rfl
@[simp] theorem modFretCnt_outputs (s : State) (u : Nat) (f : FretCounters → FretCounters) : (s.modFretCnt u f).outputs = s.outputs := rfl
@[simp] theorem modFretCnt_analogs (s : State) (u : Nat) (f : FretCounters → FretCounters) : (s.modFretCnt u f).analogs = s.analogs := rfl
@[simp] theorem modFretCnt_groups (s : State) (u : Nat) (f : FretCounters → FretCounters) : (s.modFretCnt u f).groups = s.groups := rfl
@[simp] theorem modFretCnt_dies (s : State) (u : Nat) (f : FretCounters → FretCounters) : (s.modFretCnt u f).dies = s.dies := rfl
@[simp] theorem modFretCnt_loops (s : State) (u : Nat) (f : FretCounters → FretCounters) : (s.modFretCnt u f).loops = s.loops := rfl
@[simp] theorem modFretCnt_loopStream (s : State) (u : Nat) (f : FretCounters → FretCounters) : (s.modFretCnt u f).loopStream = s.loopStream := rfl
@[simp] theorem modFretCnt_loopSentAt (s : State) (u : Nat) (f : FretCounters → FretCounters) : (s.modFretCnt u f).loopSentAt = s.loopSentAt := rfl
@[simp] theorem modFretCnt_rates (s : State) (u : Nat) (f : FretCounters → FretCounters) : (s.modFretCnt u f).rates = s.rates := rfl
@[simp] theorem modFretCnt_trims (s : State) (u : Nat) (f : FretCounters → FretCounters) : (s.modFretCnt u f).trims = s.trims := rfl
@[simp] theorem modFretCnt_rateRaisedAt (s : State) (u : Nat) (f : FretCounters → FretCounters) : (s.modFretCnt u f).rateRaisedAt = s.rateRaisedAt := rfl
@[simp] theorem modFretCnt_pressureBad (s : State) (u : Nat) (f : FretCounters → FretCounters) : (s.modFretCnt u f).pressureBad = s.pressureBad := rfl
@[simp] theorem modFretCnt_pwmRef (s : State) (u : Nat) (f : FretCounters → FretCounters) : (s.modFretCnt u f).pwmRef = s.pwmRef := rfl
@[simp] theorem modFretCnt_nav (s : State) (u : Nat) (f : FretCounters → FretCounters) : (s.modFretCnt u f).nav = s.nav := rfl
@[simp] theorem modFretCnt_odo (s : State) (u : Nat) (f : FretCounters → FretCounters) : (s.modFretCnt u f).odo = s.odo := rfl
@[simp] theorem modFretCnt_cov (s : State) (u : Nat) (f : FretCounters → FretCounters) : (s.modFretCnt u f).cov = s.cov := rfl
@[simp] theorem modFretCnt_events (s : State) (u : Nat) (f : FretCounters → FretCounters) : (s.modFretCnt u f).events = s.events := rfl
@[simp] theorem modFretCnt_faults (s : State) (u : Nat) (f : FretCounters → FretCounters) : (s.modFretCnt u f).faults = s.faults := rfl
@[simp] theorem modFretCnt_recorder (s : State) (u : Nat) (f : FretCounters → FretCounters) : (s.modFretCnt u f).recorder = s.recorder := rfl
@[simp] theorem modFretCnt_limp (s : State) (u : Nat) (f : FretCounters → FretCounters) : (s.modFretCnt u f).limp = s.limp := rfl
@[simp] theorem modFretCnt_can (s : State) (u : Nat) (f : FretCounters → FretCounters) : (s.modFretCnt u f).can = s.can := rfl
@[simp] theorem modFretCnt_zither (s : State) (u : Nat) (f : FretCounters → FretCounters) : (s.modFretCnt u f).zither = s.zither := rfl
@[simp] theorem modFretCnt_freeCount (s : State) (u : Nat) (f : FretCounters → FretCounters) : (s.modFretCnt u f).freeCount = s.freeCount := rfl
@[simp] theorem modFretCnt_pending (s : State) (u : Nat) (f : FretCounters → FretCounters) : (s.modFretCnt u f).pending = s.pending := rfl
@[simp] theorem modFretCnt_cluster (s : State) (u : Nat) (f : FretCounters → FretCounters) (j : Nat) : (s.modFretCnt u f).cluster j = s.cluster j := rfl
@[simp] theorem modFretCnt_boostOf (s : State) (u : Nat) (f : FretCounters → FretCounters) (j : Nat) : (s.modFretCnt u f).boostOf j = s.boostOf j := rfl
@[simp] theorem modFretCnt_sw (s : State) (u : Nat) (f : FretCounters → FretCounters) (j : Nat) : (s.modFretCnt u f).sw j = s.sw j := rfl
@[simp] theorem modFretCnt_vent (s : State) (u : Nat) (f : FretCounters → FretCounters) (j : Nat) : (s.modFretCnt u f).vent j = s.vent j := rfl
@[simp] theorem modFretCnt_fi (s : State) (u : Nat) (f : FretCounters → FretCounters) (j : Nat) : (s.modFretCnt u f).fi j = s.fi j := rfl
@[simp] theorem modFretCnt_fo (s : State) (u : Nat) (f : FretCounters → FretCounters) (j : Nat) : (s.modFretCnt u f).fo j = s.fo j := rfl
@[simp] theorem modFretCnt_ai (s : State) (u : Nat) (f : FretCounters → FretCounters) (j : Nat) : (s.modFretCnt u f).ai j = s.ai j := rfl
@[simp] theorem modFretCnt_group (s : State) (u : Nat) (f : FretCounters → FretCounters) (j : Nat) : (s.modFretCnt u f).group j = s.group j := rfl
@[simp] theorem modFretCnt_die (s : State) (u : Nat) (f : FretCounters → FretCounters) (j : Nat) : (s.modFretCnt u f).die j = s.die j := rfl
@[simp] theorem modFretCnt_loop (s : State) (u : Nat) (f : FretCounters → FretCounters) (j : Nat) : (s.modFretCnt u f).loop j = s.loop j := rfl
@[simp] theorem modFretCnt_course (s : State) (u : Nat) (f : FretCounters → FretCounters) (j : Nat) : (s.modFretCnt u f).course j = s.course j := rfl
@[simp] theorem modFretCnt_src (s : State) (u : Nat) (f : FretCounters → FretCounters) (j : Nat) : (s.modFretCnt u f).src j = s.src j := rfl
@[simp] theorem modFretCnt_tgt (s : State) (u : Nat) (f : FretCounters → FretCounters) (j : Nat) : (s.modFretCnt u f).tgt j = s.tgt j := rfl
@[simp] theorem modFretCnt_canOf (s : State) (u : Nat) (f : FretCounters → FretCounters) (j : Nat) : (s.modFretCnt u f).canOf j = s.canOf j := rfl
@[simp] theorem modFretCnt_chan (s : State) (u : Nat) (f : FretCounters → FretCounters) (j : Nat) : (s.modFretCnt u f).chan j = s.chan j := rfl
@[simp] theorem modFretCnt_sentOf (s : State) (u : Nat) (f : FretCounters → FretCounters) (j : Nat) : (s.modFretCnt u f).sentOf j = s.sentOf j := rfl
@[simp] theorem modCluster_devtime (s : State) (c : Nat) (f : ClusterSt → ClusterSt) : (s.modCluster c f).devtime = s.devtime := rfl
@[simp] theorem modCluster_cfg (s : State) (c : Nat) (f : ClusterSt → ClusterSt) : (s.modCluster c f).cfg = s.cfg := rfl
@[simp] theorem modCluster_power (s : State) (c : Nat) (f : ClusterSt → ClusterSt) : (s.modCluster c f).power = s.power := rfl
@[simp] theorem modCluster_start (s : State) (c : Nat) (f : ClusterSt → ClusterSt) : (s.modCluster c f).start = s.start := rfl
@[simp] theorem modCluster_storage (s : State) (c : Nat) (f : ClusterSt → ClusterSt) : (s.modCluster c f).storage = s.storage := rfl
@[simp] theorem modCluster_host (s : State) (c : Nat) (f : ClusterSt → ClusterSt) : (s.modCluster c f).host = s.host := rfl
@[simp] theorem modCluster_ledger (s : State) (c : Nat) (f : ClusterSt → ClusterSt) : (s.modCluster c f).ledger = s.ledger := rfl
@[simp] theorem modCluster_units (s : State) (c : Nat) (f : ClusterSt → ClusterSt) : (s.modCluster c f).units = s.units := rfl
@[simp] theorem modCluster_boost (s : State) (c : Nat) (f : ClusterSt → ClusterSt) : (s.modCluster c f).boost = s.boost := rfl
@[simp] theorem modCluster_switches (s : State) (c : Nat) (f : ClusterSt → ClusterSt) : (s.modCluster c f).switches = s.switches := rfl
@[simp] theorem modCluster_vents (s : State) (c : Nat) (f : ClusterSt → ClusterSt) : (s.modCluster c f).vents = s.vents := rfl
@[simp] theorem modCluster_ventHeld (s : State) (c : Nat) (f : ClusterSt → ClusterSt) : (s.modCluster c f).ventHeld = s.ventHeld := rfl
@[simp] theorem modCluster_inputs (s : State) (c : Nat) (f : ClusterSt → ClusterSt) : (s.modCluster c f).inputs = s.inputs := rfl
@[simp] theorem modCluster_outputs (s : State) (c : Nat) (f : ClusterSt → ClusterSt) : (s.modCluster c f).outputs = s.outputs := rfl
@[simp] theorem modCluster_analogs (s : State) (c : Nat) (f : ClusterSt → ClusterSt) : (s.modCluster c f).analogs = s.analogs := rfl
@[simp] theorem modCluster_groups (s : State) (c : Nat) (f : ClusterSt → ClusterSt) : (s.modCluster c f).groups = s.groups := rfl
@[simp] theorem modCluster_dies (s : State) (c : Nat) (f : ClusterSt → ClusterSt) : (s.modCluster c f).dies = s.dies := rfl
@[simp] theorem modCluster_loops (s : State) (c : Nat) (f : ClusterSt → ClusterSt) : (s.modCluster c f).loops = s.loops := rfl
@[simp] theorem modCluster_loopStream (s : State) (c : Nat) (f : ClusterSt → ClusterSt) : (s.modCluster c f).loopStream = s.loopStream := rfl
@[simp] theorem modCluster_loopSentAt (s : State) (c : Nat) (f : ClusterSt → ClusterSt) : (s.modCluster c f).loopSentAt = s.loopSentAt := rfl
@[simp] theorem modCluster_rates (s : State) (c : Nat) (f : ClusterSt → ClusterSt) : (s.modCluster c f).rates = s.rates := rfl
@[simp] theorem modCluster_trims (s : State) (c : Nat) (f : ClusterSt → ClusterSt) : (s.modCluster c f).trims = s.trims := rfl
@[simp] theorem modCluster_rateRaisedAt (s : State) (c : Nat) (f : ClusterSt → ClusterSt) : (s.modCluster c f).rateRaisedAt = s.rateRaisedAt := rfl
@[simp] theorem modCluster_pressureBad (s : State) (c : Nat) (f : ClusterSt → ClusterSt) : (s.modCluster c f).pressureBad = s.pressureBad := rfl
@[simp] theorem modCluster_pwmRef (s : State) (c : Nat) (f : ClusterSt → ClusterSt) : (s.modCluster c f).pwmRef = s.pwmRef := rfl
@[simp] theorem modCluster_nav (s : State) (c : Nat) (f : ClusterSt → ClusterSt) : (s.modCluster c f).nav = s.nav := rfl
@[simp] theorem modCluster_odo (s : State) (c : Nat) (f : ClusterSt → ClusterSt) : (s.modCluster c f).odo = s.odo := rfl
@[simp] theorem modCluster_cov (s : State) (c : Nat) (f : ClusterSt → ClusterSt) : (s.modCluster c f).cov = s.cov := rfl
@[simp] theorem modCluster_events (s : State) (c : Nat) (f : ClusterSt → ClusterSt) : (s.modCluster c f).events = s.events := rfl
@[simp] theorem modCluster_faults (s : State) (c : Nat) (f : ClusterSt → ClusterSt) : (s.modCluster c f).faults = s.faults := rfl
@[simp] theorem modCluster_recorder (s : State) (c : Nat) (f : ClusterSt → ClusterSt) : (s.modCluster c f).recorder = s.recorder := rfl
@[simp] theorem modCluster_limp (s : State) (c : Nat) (f : ClusterSt → ClusterSt) : (s.modCluster c f).limp = s.limp := rfl
@[simp] theorem modCluster_can (s : State) (c : Nat) (f : ClusterSt → ClusterSt) : (s.modCluster c f).can = s.can := rfl
@[simp] theorem modCluster_zither (s : State) (c : Nat) (f : ClusterSt → ClusterSt) : (s.modCluster c f).zither = s.zither := rfl
@[simp] theorem modCluster_freeCount (s : State) (c : Nat) (f : ClusterSt → ClusterSt) : (s.modCluster c f).freeCount = s.freeCount := rfl
@[simp] theorem modCluster_pending (s : State) (c : Nat) (f : ClusterSt → ClusterSt) : (s.modCluster c f).pending = s.pending := rfl
@[simp] theorem modCluster_unit (s : State) (c : Nat) (f : ClusterSt → ClusterSt) (j : Nat) : (s.modCluster c f).unit j = s.unit j := rfl
@[simp] theorem modCluster_boostOf (s : State) (c : Nat) (f : ClusterSt → ClusterSt) (j : Nat) : (s.modCluster c f).boostOf j = s.boostOf j := rfl
@[simp] theorem modCluster_sw (s : State) (c : Nat) (f : ClusterSt → ClusterSt) (j : Nat) : (s.modCluster c f).sw j = s.sw j := rfl
@[simp] theorem modCluster_vent (s : State) (c : Nat) (f : ClusterSt → ClusterSt) (j : Nat) : (s.modCluster c f).vent j = s.vent j := rfl
@[simp] theorem modCluster_fi (s : State) (c : Nat) (f : ClusterSt → ClusterSt) (j : Nat) : (s.modCluster c f).fi j = s.fi j := rfl
@[simp] theorem modCluster_fo (s : State) (c : Nat) (f : ClusterSt → ClusterSt) (j : Nat) : (s.modCluster c f).fo j = s.fo j := rfl
@[simp] theorem modCluster_ai (s : State) (c : Nat) (f : ClusterSt → ClusterSt) (j : Nat) : (s.modCluster c f).ai j = s.ai j := rfl
@[simp] theorem modCluster_group (s : State) (c : Nat) (f : ClusterSt → ClusterSt) (j : Nat) : (s.modCluster c f).group j = s.group j := rfl
@[simp] theorem modCluster_die (s : State) (c : Nat) (f : ClusterSt → ClusterSt) (j : Nat) : (s.modCluster c f).die j = s.die j := rfl
@[simp] theorem modCluster_loop (s : State) (c : Nat) (f : ClusterSt → ClusterSt) (j : Nat) : (s.modCluster c f).loop j = s.loop j := rfl
@[simp] theorem modCluster_course (s : State) (c : Nat) (f : ClusterSt → ClusterSt) (j : Nat) : (s.modCluster c f).course j = s.course j := rfl
@[simp] theorem modCluster_src (s : State) (c : Nat) (f : ClusterSt → ClusterSt) (j : Nat) : (s.modCluster c f).src j = s.src j := rfl
@[simp] theorem modCluster_tgt (s : State) (c : Nat) (f : ClusterSt → ClusterSt) (j : Nat) : (s.modCluster c f).tgt j = s.tgt j := rfl
@[simp] theorem modCluster_canOf (s : State) (c : Nat) (f : ClusterSt → ClusterSt) (j : Nat) : (s.modCluster c f).canOf j = s.canOf j := rfl
@[simp] theorem modCluster_chan (s : State) (c : Nat) (f : ClusterSt → ClusterSt) (j : Nat) : (s.modCluster c f).chan j = s.chan j := rfl
@[simp] theorem modCluster_sentOf (s : State) (c : Nat) (f : ClusterSt → ClusterSt) (j : Nat) : (s.modCluster c f).sentOf j = s.sentOf j := rfl
@[simp] theorem modBoost_devtime (s : State) (d : Nat) (f : BoostSt → BoostSt) : (s.modBoost d f).devtime = s.devtime := rfl
@[simp] theorem modBoost_cfg (s : State) (d : Nat) (f : BoostSt → BoostSt) : (s.modBoost d f).cfg = s.cfg := rfl
@[simp] theorem modBoost_power (s : State) (d : Nat) (f : BoostSt → BoostSt) : (s.modBoost d f).power = s.power := rfl
@[simp] theorem modBoost_start (s : State) (d : Nat) (f : BoostSt → BoostSt) : (s.modBoost d f).start = s.start := rfl
@[simp] theorem modBoost_storage (s : State) (d : Nat) (f : BoostSt → BoostSt) : (s.modBoost d f).storage = s.storage := rfl
@[simp] theorem modBoost_host (s : State) (d : Nat) (f : BoostSt → BoostSt) : (s.modBoost d f).host = s.host := rfl
@[simp] theorem modBoost_ledger (s : State) (d : Nat) (f : BoostSt → BoostSt) : (s.modBoost d f).ledger = s.ledger := rfl
@[simp] theorem modBoost_units (s : State) (d : Nat) (f : BoostSt → BoostSt) : (s.modBoost d f).units = s.units := rfl
@[simp] theorem modBoost_clusters (s : State) (d : Nat) (f : BoostSt → BoostSt) : (s.modBoost d f).clusters = s.clusters := rfl
@[simp] theorem modBoost_switches (s : State) (d : Nat) (f : BoostSt → BoostSt) : (s.modBoost d f).switches = s.switches := rfl
@[simp] theorem modBoost_vents (s : State) (d : Nat) (f : BoostSt → BoostSt) : (s.modBoost d f).vents = s.vents := rfl
@[simp] theorem modBoost_ventHeld (s : State) (d : Nat) (f : BoostSt → BoostSt) : (s.modBoost d f).ventHeld = s.ventHeld := rfl
@[simp] theorem modBoost_inputs (s : State) (d : Nat) (f : BoostSt → BoostSt) : (s.modBoost d f).inputs = s.inputs := rfl
@[simp] theorem modBoost_outputs (s : State) (d : Nat) (f : BoostSt → BoostSt) : (s.modBoost d f).outputs = s.outputs := rfl
@[simp] theorem modBoost_analogs (s : State) (d : Nat) (f : BoostSt → BoostSt) : (s.modBoost d f).analogs = s.analogs := rfl
@[simp] theorem modBoost_groups (s : State) (d : Nat) (f : BoostSt → BoostSt) : (s.modBoost d f).groups = s.groups := rfl
@[simp] theorem modBoost_dies (s : State) (d : Nat) (f : BoostSt → BoostSt) : (s.modBoost d f).dies = s.dies := rfl
@[simp] theorem modBoost_loops (s : State) (d : Nat) (f : BoostSt → BoostSt) : (s.modBoost d f).loops = s.loops := rfl
@[simp] theorem modBoost_loopStream (s : State) (d : Nat) (f : BoostSt → BoostSt) : (s.modBoost d f).loopStream = s.loopStream := rfl
@[simp] theorem modBoost_loopSentAt (s : State) (d : Nat) (f : BoostSt → BoostSt) : (s.modBoost d f).loopSentAt = s.loopSentAt := rfl
@[simp] theorem modBoost_rates (s : State) (d : Nat) (f : BoostSt → BoostSt) : (s.modBoost d f).rates = s.rates := rfl
@[simp] theorem modBoost_trims (s : State) (d : Nat) (f : BoostSt → BoostSt) : (s.modBoost d f).trims = s.trims := rfl
@[simp] theorem modBoost_rateRaisedAt (s : State) (d : Nat) (f : BoostSt → BoostSt) : (s.modBoost d f).rateRaisedAt = s.rateRaisedAt := rfl
@[simp] theorem modBoost_pressureBad (s : State) (d : Nat) (f : BoostSt → BoostSt) : (s.modBoost d f).pressureBad = s.pressureBad := rfl
@[simp] theorem modBoost_pwmRef (s : State) (d : Nat) (f : BoostSt → BoostSt) : (s.modBoost d f).pwmRef = s.pwmRef := rfl
@[simp] theorem modBoost_nav (s : State) (d : Nat) (f : BoostSt → BoostSt) : (s.modBoost d f).nav = s.nav := rfl
@[simp] theorem modBoost_odo (s : State) (d : Nat) (f : BoostSt → BoostSt) : (s.modBoost d f).odo = s.odo := rfl
@[simp] theorem modBoost_cov (s : State) (d : Nat) (f : BoostSt → BoostSt) : (s.modBoost d f).cov = s.cov := rfl
@[simp] theorem modBoost_events (s : State) (d : Nat) (f : BoostSt → BoostSt) : (s.modBoost d f).events = s.events := rfl
@[simp] theorem modBoost_faults (s : State) (d : Nat) (f : BoostSt → BoostSt) : (s.modBoost d f).faults = s.faults := rfl
@[simp] theorem modBoost_recorder (s : State) (d : Nat) (f : BoostSt → BoostSt) : (s.modBoost d f).recorder = s.recorder := rfl
@[simp] theorem modBoost_limp (s : State) (d : Nat) (f : BoostSt → BoostSt) : (s.modBoost d f).limp = s.limp := rfl
@[simp] theorem modBoost_can (s : State) (d : Nat) (f : BoostSt → BoostSt) : (s.modBoost d f).can = s.can := rfl
@[simp] theorem modBoost_zither (s : State) (d : Nat) (f : BoostSt → BoostSt) : (s.modBoost d f).zither = s.zither := rfl
@[simp] theorem modBoost_freeCount (s : State) (d : Nat) (f : BoostSt → BoostSt) : (s.modBoost d f).freeCount = s.freeCount := rfl
@[simp] theorem modBoost_pending (s : State) (d : Nat) (f : BoostSt → BoostSt) : (s.modBoost d f).pending = s.pending := rfl
@[simp] theorem modBoost_unit (s : State) (d : Nat) (f : BoostSt → BoostSt) (j : Nat) : (s.modBoost d f).unit j = s.unit j := rfl
@[simp] theorem modBoost_cluster (s : State) (d : Nat) (f : BoostSt → BoostSt) (j : Nat) : (s.modBoost d f).cluster j = s.cluster j := rfl
@[simp] theorem modBoost_sw (s : State) (d : Nat) (f : BoostSt → BoostSt) (j : Nat) : (s.modBoost d f).sw j = s.sw j := rfl
@[simp] theorem modBoost_vent (s : State) (d : Nat) (f : BoostSt → BoostSt) (j : Nat) : (s.modBoost d f).vent j = s.vent j := rfl
@[simp] theorem modBoost_fi (s : State) (d : Nat) (f : BoostSt → BoostSt) (j : Nat) : (s.modBoost d f).fi j = s.fi j := rfl
@[simp] theorem modBoost_fo (s : State) (d : Nat) (f : BoostSt → BoostSt) (j : Nat) : (s.modBoost d f).fo j = s.fo j := rfl
@[simp] theorem modBoost_ai (s : State) (d : Nat) (f : BoostSt → BoostSt) (j : Nat) : (s.modBoost d f).ai j = s.ai j := rfl
@[simp] theorem modBoost_group (s : State) (d : Nat) (f : BoostSt → BoostSt) (j : Nat) : (s.modBoost d f).group j = s.group j := rfl
@[simp] theorem modBoost_die (s : State) (d : Nat) (f : BoostSt → BoostSt) (j : Nat) : (s.modBoost d f).die j = s.die j := rfl
@[simp] theorem modBoost_loop (s : State) (d : Nat) (f : BoostSt → BoostSt) (j : Nat) : (s.modBoost d f).loop j = s.loop j := rfl
@[simp] theorem modBoost_course (s : State) (d : Nat) (f : BoostSt → BoostSt) (j : Nat) : (s.modBoost d f).course j = s.course j := rfl
@[simp] theorem modBoost_src (s : State) (d : Nat) (f : BoostSt → BoostSt) (j : Nat) : (s.modBoost d f).src j = s.src j := rfl
@[simp] theorem modBoost_tgt (s : State) (d : Nat) (f : BoostSt → BoostSt) (j : Nat) : (s.modBoost d f).tgt j = s.tgt j := rfl
@[simp] theorem modBoost_canOf (s : State) (d : Nat) (f : BoostSt → BoostSt) (j : Nat) : (s.modBoost d f).canOf j = s.canOf j := rfl
@[simp] theorem modBoost_chan (s : State) (d : Nat) (f : BoostSt → BoostSt) (j : Nat) : (s.modBoost d f).chan j = s.chan j := rfl
@[simp] theorem modBoost_sentOf (s : State) (d : Nat) (f : BoostSt → BoostSt) (j : Nat) : (s.modBoost d f).sentOf j = s.sentOf j := rfl
@[simp] theorem modSw_devtime (s : State) (n : Nat) (f : SwitchSt → SwitchSt) : (s.modSw n f).devtime = s.devtime := rfl
@[simp] theorem modSw_cfg (s : State) (n : Nat) (f : SwitchSt → SwitchSt) : (s.modSw n f).cfg = s.cfg := rfl
@[simp] theorem modSw_power (s : State) (n : Nat) (f : SwitchSt → SwitchSt) : (s.modSw n f).power = s.power := rfl
@[simp] theorem modSw_start (s : State) (n : Nat) (f : SwitchSt → SwitchSt) : (s.modSw n f).start = s.start := rfl
@[simp] theorem modSw_storage (s : State) (n : Nat) (f : SwitchSt → SwitchSt) : (s.modSw n f).storage = s.storage := rfl
@[simp] theorem modSw_host (s : State) (n : Nat) (f : SwitchSt → SwitchSt) : (s.modSw n f).host = s.host := rfl
@[simp] theorem modSw_ledger (s : State) (n : Nat) (f : SwitchSt → SwitchSt) : (s.modSw n f).ledger = s.ledger := rfl
@[simp] theorem modSw_units (s : State) (n : Nat) (f : SwitchSt → SwitchSt) : (s.modSw n f).units = s.units := rfl
@[simp] theorem modSw_clusters (s : State) (n : Nat) (f : SwitchSt → SwitchSt) : (s.modSw n f).clusters = s.clusters := rfl
@[simp] theorem modSw_boost (s : State) (n : Nat) (f : SwitchSt → SwitchSt) : (s.modSw n f).boost = s.boost := rfl
@[simp] theorem modSw_vents (s : State) (n : Nat) (f : SwitchSt → SwitchSt) : (s.modSw n f).vents = s.vents := rfl
@[simp] theorem modSw_ventHeld (s : State) (n : Nat) (f : SwitchSt → SwitchSt) : (s.modSw n f).ventHeld = s.ventHeld := rfl
@[simp] theorem modSw_inputs (s : State) (n : Nat) (f : SwitchSt → SwitchSt) : (s.modSw n f).inputs = s.inputs := rfl
@[simp] theorem modSw_outputs (s : State) (n : Nat) (f : SwitchSt → SwitchSt) : (s.modSw n f).outputs = s.outputs := rfl
@[simp] theorem modSw_analogs (s : State) (n : Nat) (f : SwitchSt → SwitchSt) : (s.modSw n f).analogs = s.analogs := rfl
@[simp] theorem modSw_groups (s : State) (n : Nat) (f : SwitchSt → SwitchSt) : (s.modSw n f).groups = s.groups := rfl
@[simp] theorem modSw_dies (s : State) (n : Nat) (f : SwitchSt → SwitchSt) : (s.modSw n f).dies = s.dies := rfl
@[simp] theorem modSw_loops (s : State) (n : Nat) (f : SwitchSt → SwitchSt) : (s.modSw n f).loops = s.loops := rfl
@[simp] theorem modSw_loopStream (s : State) (n : Nat) (f : SwitchSt → SwitchSt) : (s.modSw n f).loopStream = s.loopStream := rfl
@[simp] theorem modSw_loopSentAt (s : State) (n : Nat) (f : SwitchSt → SwitchSt) : (s.modSw n f).loopSentAt = s.loopSentAt := rfl
@[simp] theorem modSw_rates (s : State) (n : Nat) (f : SwitchSt → SwitchSt) : (s.modSw n f).rates = s.rates := rfl
@[simp] theorem modSw_trims (s : State) (n : Nat) (f : SwitchSt → SwitchSt) : (s.modSw n f).trims = s.trims := rfl
@[simp] theorem modSw_rateRaisedAt (s : State) (n : Nat) (f : SwitchSt → SwitchSt) : (s.modSw n f).rateRaisedAt = s.rateRaisedAt := rfl
@[simp] theorem modSw_pressureBad (s : State) (n : Nat) (f : SwitchSt → SwitchSt) : (s.modSw n f).pressureBad = s.pressureBad := rfl
@[simp] theorem modSw_pwmRef (s : State) (n : Nat) (f : SwitchSt → SwitchSt) : (s.modSw n f).pwmRef = s.pwmRef := rfl
@[simp] theorem modSw_nav (s : State) (n : Nat) (f : SwitchSt → SwitchSt) : (s.modSw n f).nav = s.nav := rfl
@[simp] theorem modSw_odo (s : State) (n : Nat) (f : SwitchSt → SwitchSt) : (s.modSw n f).odo = s.odo := rfl
@[simp] theorem modSw_cov (s : State) (n : Nat) (f : SwitchSt → SwitchSt) : (s.modSw n f).cov = s.cov := rfl
@[simp] theorem modSw_events (s : State) (n : Nat) (f : SwitchSt → SwitchSt) : (s.modSw n f).events = s.events := rfl
@[simp] theorem modSw_faults (s : State) (n : Nat) (f : SwitchSt → SwitchSt) : (s.modSw n f).faults = s.faults := rfl
@[simp] theorem modSw_recorder (s : State) (n : Nat) (f : SwitchSt → SwitchSt) : (s.modSw n f).recorder = s.recorder := rfl
@[simp] theorem modSw_limp (s : State) (n : Nat) (f : SwitchSt → SwitchSt) : (s.modSw n f).limp = s.limp := rfl
@[simp] theorem modSw_can (s : State) (n : Nat) (f : SwitchSt → SwitchSt) : (s.modSw n f).can = s.can := rfl
@[simp] theorem modSw_zither (s : State) (n : Nat) (f : SwitchSt → SwitchSt) : (s.modSw n f).zither = s.zither := rfl
@[simp] theorem modSw_freeCount (s : State) (n : Nat) (f : SwitchSt → SwitchSt) : (s.modSw n f).freeCount = s.freeCount := rfl
@[simp] theorem modSw_pending (s : State) (n : Nat) (f : SwitchSt → SwitchSt) : (s.modSw n f).pending = s.pending := rfl
@[simp] theorem modSw_unit (s : State) (n : Nat) (f : SwitchSt → SwitchSt) (j : Nat) : (s.modSw n f).unit j = s.unit j := rfl
@[simp] theorem modSw_cluster (s : State) (n : Nat) (f : SwitchSt → SwitchSt) (j : Nat) : (s.modSw n f).cluster j = s.cluster j := rfl
@[simp] theorem modSw_boostOf (s : State) (n : Nat) (f : SwitchSt → SwitchSt) (j : Nat) : (s.modSw n f).boostOf j = s.boostOf j := rfl
@[simp] theorem modSw_vent (s : State) (n : Nat) (f : SwitchSt → SwitchSt) (j : Nat) : (s.modSw n f).vent j = s.vent j := rfl
@[simp] theorem modSw_fi (s : State) (n : Nat) (f : SwitchSt → SwitchSt) (j : Nat) : (s.modSw n f).fi j = s.fi j := rfl
@[simp] theorem modSw_fo (s : State) (n : Nat) (f : SwitchSt → SwitchSt) (j : Nat) : (s.modSw n f).fo j = s.fo j := rfl
@[simp] theorem modSw_ai (s : State) (n : Nat) (f : SwitchSt → SwitchSt) (j : Nat) : (s.modSw n f).ai j = s.ai j := rfl
@[simp] theorem modSw_group (s : State) (n : Nat) (f : SwitchSt → SwitchSt) (j : Nat) : (s.modSw n f).group j = s.group j := rfl
@[simp] theorem modSw_die (s : State) (n : Nat) (f : SwitchSt → SwitchSt) (j : Nat) : (s.modSw n f).die j = s.die j := rfl
@[simp] theorem modSw_loop (s : State) (n : Nat) (f : SwitchSt → SwitchSt) (j : Nat) : (s.modSw n f).loop j = s.loop j := rfl
@[simp] theorem modSw_course (s : State) (n : Nat) (f : SwitchSt → SwitchSt) (j : Nat) : (s.modSw n f).course j = s.course j := rfl
@[simp] theorem modSw_src (s : State) (n : Nat) (f : SwitchSt → SwitchSt) (j : Nat) : (s.modSw n f).src j = s.src j := rfl
@[simp] theorem modSw_tgt (s : State) (n : Nat) (f : SwitchSt → SwitchSt) (j : Nat) : (s.modSw n f).tgt j = s.tgt j := rfl
@[simp] theorem modSw_canOf (s : State) (n : Nat) (f : SwitchSt → SwitchSt) (j : Nat) : (s.modSw n f).canOf j = s.canOf j := rfl
@[simp] theorem modSw_chan (s : State) (n : Nat) (f : SwitchSt → SwitchSt) (j : Nat) : (s.modSw n f).chan j = s.chan j := rfl
@[simp] theorem modSw_sentOf (s : State) (n : Nat) (f : SwitchSt → SwitchSt) (j : Nat) : (s.modSw n f).sentOf j = s.sentOf j := rfl
@[simp] theorem modVent_devtime (s : State) (c : Nat) (f : VentSt → VentSt) : (s.modVent c f).devtime = s.devtime := rfl
@[simp] theorem modVent_cfg (s : State) (c : Nat) (f : VentSt → VentSt) : (s.modVent c f).cfg = s.cfg := rfl
@[simp] theorem modVent_power (s : State) (c : Nat) (f : VentSt → VentSt) : (s.modVent c f).power = s.power := rfl
@[simp] theorem modVent_start (s : State) (c : Nat) (f : VentSt → VentSt) : (s.modVent c f).start = s.start := rfl
@[simp] theorem modVent_storage (s : State) (c : Nat) (f : VentSt → VentSt) : (s.modVent c f).storage = s.storage := rfl
@[simp] theorem modVent_host (s : State) (c : Nat) (f : VentSt → VentSt) : (s.modVent c f).host = s.host := rfl
@[simp] theorem modVent_ledger (s : State) (c : Nat) (f : VentSt → VentSt) : (s.modVent c f).ledger = s.ledger := rfl
@[simp] theorem modVent_units (s : State) (c : Nat) (f : VentSt → VentSt) : (s.modVent c f).units = s.units := rfl
@[simp] theorem modVent_clusters (s : State) (c : Nat) (f : VentSt → VentSt) : (s.modVent c f).clusters = s.clusters := rfl
@[simp] theorem modVent_boost (s : State) (c : Nat) (f : VentSt → VentSt) : (s.modVent c f).boost = s.boost := rfl
@[simp] theorem modVent_switches (s : State) (c : Nat) (f : VentSt → VentSt) : (s.modVent c f).switches = s.switches := rfl
@[simp] theorem modVent_ventHeld (s : State) (c : Nat) (f : VentSt → VentSt) : (s.modVent c f).ventHeld = s.ventHeld := rfl
@[simp] theorem modVent_inputs (s : State) (c : Nat) (f : VentSt → VentSt) : (s.modVent c f).inputs = s.inputs := rfl
@[simp] theorem modVent_outputs (s : State) (c : Nat) (f : VentSt → VentSt) : (s.modVent c f).outputs = s.outputs := rfl
@[simp] theorem modVent_analogs (s : State) (c : Nat) (f : VentSt → VentSt) : (s.modVent c f).analogs = s.analogs := rfl
@[simp] theorem modVent_groups (s : State) (c : Nat) (f : VentSt → VentSt) : (s.modVent c f).groups = s.groups := rfl
@[simp] theorem modVent_dies (s : State) (c : Nat) (f : VentSt → VentSt) : (s.modVent c f).dies = s.dies := rfl
@[simp] theorem modVent_loops (s : State) (c : Nat) (f : VentSt → VentSt) : (s.modVent c f).loops = s.loops := rfl
@[simp] theorem modVent_loopStream (s : State) (c : Nat) (f : VentSt → VentSt) : (s.modVent c f).loopStream = s.loopStream := rfl
@[simp] theorem modVent_loopSentAt (s : State) (c : Nat) (f : VentSt → VentSt) : (s.modVent c f).loopSentAt = s.loopSentAt := rfl
@[simp] theorem modVent_rates (s : State) (c : Nat) (f : VentSt → VentSt) : (s.modVent c f).rates = s.rates := rfl
@[simp] theorem modVent_trims (s : State) (c : Nat) (f : VentSt → VentSt) : (s.modVent c f).trims = s.trims := rfl
@[simp] theorem modVent_rateRaisedAt (s : State) (c : Nat) (f : VentSt → VentSt) : (s.modVent c f).rateRaisedAt = s.rateRaisedAt := rfl
@[simp] theorem modVent_pressureBad (s : State) (c : Nat) (f : VentSt → VentSt) : (s.modVent c f).pressureBad = s.pressureBad := rfl
@[simp] theorem modVent_pwmRef (s : State) (c : Nat) (f : VentSt → VentSt) : (s.modVent c f).pwmRef = s.pwmRef := rfl
@[simp] theorem modVent_nav (s : State) (c : Nat) (f : VentSt → VentSt) : (s.modVent c f).nav = s.nav := rfl
@[simp] theorem modVent_odo (s : State) (c : Nat) (f : VentSt → VentSt) : (s.modVent c f).odo = s.odo := rfl
@[simp] theorem modVent_cov (s : State) (c : Nat) (f : VentSt → VentSt) : (s.modVent c f).cov = s.cov := rfl
@[simp] theorem modVent_events (s : State) (c : Nat) (f : VentSt → VentSt) : (s.modVent c f).events = s.events := rfl
@[simp] theorem modVent_faults (s : State) (c : Nat) (f : VentSt → VentSt) : (s.modVent c f).faults = s.faults := rfl
@[simp] theorem modVent_recorder (s : State) (c : Nat) (f : VentSt → VentSt) : (s.modVent c f).recorder = s.recorder := rfl
@[simp] theorem modVent_limp (s : State) (c : Nat) (f : VentSt → VentSt) : (s.modVent c f).limp = s.limp := rfl
@[simp] theorem modVent_can (s : State) (c : Nat) (f : VentSt → VentSt) : (s.modVent c f).can = s.can := rfl
@[simp] theorem modVent_zither (s : State) (c : Nat) (f : VentSt → VentSt) : (s.modVent c f).zither = s.zither := rfl
@[simp] theorem modVent_freeCount (s : State) (c : Nat) (f : VentSt → VentSt) : (s.modVent c f).freeCount = s.freeCount := rfl
@[simp] theorem modVent_pending (s : State) (c : Nat) (f : VentSt → VentSt) : (s.modVent c f).pending = s.pending := rfl
@[simp] theorem modVent_unit (s : State) (c : Nat) (f : VentSt → VentSt) (j : Nat) : (s.modVent c f).unit j = s.unit j := rfl
@[simp] theorem modVent_cluster (s : State) (c : Nat) (f : VentSt → VentSt) (j : Nat) : (s.modVent c f).cluster j = s.cluster j := rfl
@[simp] theorem modVent_boostOf (s : State) (c : Nat) (f : VentSt → VentSt) (j : Nat) : (s.modVent c f).boostOf j = s.boostOf j := rfl
@[simp] theorem modVent_sw (s : State) (c : Nat) (f : VentSt → VentSt) (j : Nat) : (s.modVent c f).sw j = s.sw j := rfl
@[simp] theorem modVent_fi (s : State) (c : Nat) (f : VentSt → VentSt) (j : Nat) : (s.modVent c f).fi j = s.fi j := rfl
@[simp] theorem modVent_fo (s : State) (c : Nat) (f : VentSt → VentSt) (j : Nat) : (s.modVent c f).fo j = s.fo j := rfl
@[simp] theorem modVent_ai (s : State) (c : Nat) (f : VentSt → VentSt) (j : Nat) : (s.modVent c f).ai j = s.ai j := rfl
@[simp] theorem modVent_group (s : State) (c : Nat) (f : VentSt → VentSt) (j : Nat) : (s.modVent c f).group j = s.group j := rfl
@[simp] theorem modVent_die (s : State) (c : Nat) (f : VentSt → VentSt) (j : Nat) : (s.modVent c f).die j = s.die j := rfl
@[simp] theorem modVent_loop (s : State) (c : Nat) (f : VentSt → VentSt) (j : Nat) : (s.modVent c f).loop j = s.loop j := rfl
@[simp] theorem modVent_course (s : State) (c : Nat) (f : VentSt → VentSt) (j : Nat) : (s.modVent c f).course j = s.course j := rfl
@[simp] theorem modVent_src (s : State) (c : Nat) (f : VentSt → VentSt) (j : Nat) : (s.modVent c f).src j = s.src j := rfl
@[simp] theorem modVent_tgt (s : State) (c : Nat) (f : VentSt → VentSt) (j : Nat) : (s.modVent c f).tgt j = s.tgt j := rfl
@[simp] theorem modVent_canOf (s : State) (c : Nat) (f : VentSt → VentSt) (j : Nat) : (s.modVent c f).canOf j = s.canOf j := rfl
@[simp] theorem modVent_chan (s : State) (c : Nat) (f : VentSt → VentSt) (j : Nat) : (s.modVent c f).chan j = s.chan j := rfl
@[simp] theorem modVent_sentOf (s : State) (c : Nat) (f : VentSt → VentSt) (j : Nat) : (s.modVent c f).sentOf j = s.sentOf j := rfl
@[simp] theorem modFi_devtime (s : State) (i : Nat) (f : InputSt → InputSt) : (s.modFi i f).devtime = s.devtime := rfl
@[simp] theorem modFi_cfg (s : State) (i : Nat) (f : InputSt → InputSt) : (s.modFi i f).cfg = s.cfg := rfl
@[simp] theorem modFi_power (s : State) (i : Nat) (f : InputSt → InputSt) : (s.modFi i f).power = s.power := rfl
@[simp] theorem modFi_start (s : State) (i : Nat) (f : InputSt → InputSt) : (s.modFi i f).start = s.start := rfl
@[simp] theorem modFi_storage (s : State) (i : Nat) (f : InputSt → InputSt) : (s.modFi i f).storage = s.storage := rfl
@[simp] theorem modFi_host (s : State) (i : Nat) (f : InputSt → InputSt) : (s.modFi i f).host = s.host := rfl
@[simp] theorem modFi_ledger (s : State) (i : Nat) (f : InputSt → InputSt) : (s.modFi i f).ledger = s.ledger := rfl
@[simp] theorem modFi_units (s : State) (i : Nat) (f : InputSt → InputSt) : (s.modFi i f).units = s.units := rfl
@[simp] theorem modFi_clusters (s : State) (i : Nat) (f : InputSt → InputSt) : (s.modFi i f).clusters = s.clusters := rfl
@[simp] theorem modFi_boost (s : State) (i : Nat) (f : InputSt → InputSt) : (s.modFi i f).boost = s.boost := rfl
@[simp] theorem modFi_switches (s : State) (i : Nat) (f : InputSt → InputSt) : (s.modFi i f).switches = s.switches := rfl
@[simp] theorem modFi_vents (s : State) (i : Nat) (f : InputSt → InputSt) : (s.modFi i f).vents = s.vents := rfl
@[simp] theorem modFi_ventHeld (s : State) (i : Nat) (f : InputSt → InputSt) : (s.modFi i f).ventHeld = s.ventHeld := rfl
@[simp] theorem modFi_outputs (s : State) (i : Nat) (f : InputSt → InputSt) : (s.modFi i f).outputs = s.outputs := rfl
@[simp] theorem modFi_analogs (s : State) (i : Nat) (f : InputSt → InputSt) : (s.modFi i f).analogs = s.analogs := rfl
@[simp] theorem modFi_groups (s : State) (i : Nat) (f : InputSt → InputSt) : (s.modFi i f).groups = s.groups := rfl
@[simp] theorem modFi_dies (s : State) (i : Nat) (f : InputSt → InputSt) : (s.modFi i f).dies = s.dies := rfl
@[simp] theorem modFi_loops (s : State) (i : Nat) (f : InputSt → InputSt) : (s.modFi i f).loops = s.loops := rfl
@[simp] theorem modFi_loopStream (s : State) (i : Nat) (f : InputSt → InputSt) : (s.modFi i f).loopStream = s.loopStream := rfl
@[simp] theorem modFi_loopSentAt (s : State) (i : Nat) (f : InputSt → InputSt) : (s.modFi i f).loopSentAt = s.loopSentAt := rfl
@[simp] theorem modFi_rates (s : State) (i : Nat) (f : InputSt → InputSt) : (s.modFi i f).rates = s.rates := rfl
@[simp] theorem modFi_trims (s : State) (i : Nat) (f : InputSt → InputSt) : (s.modFi i f).trims = s.trims := rfl
@[simp] theorem modFi_rateRaisedAt (s : State) (i : Nat) (f : InputSt → InputSt) : (s.modFi i f).rateRaisedAt = s.rateRaisedAt := rfl
@[simp] theorem modFi_pressureBad (s : State) (i : Nat) (f : InputSt → InputSt) : (s.modFi i f).pressureBad = s.pressureBad := rfl
@[simp] theorem modFi_pwmRef (s : State) (i : Nat) (f : InputSt → InputSt) : (s.modFi i f).pwmRef = s.pwmRef := rfl
@[simp] theorem modFi_nav (s : State) (i : Nat) (f : InputSt → InputSt) : (s.modFi i f).nav = s.nav := rfl
@[simp] theorem modFi_odo (s : State) (i : Nat) (f : InputSt → InputSt) : (s.modFi i f).odo = s.odo := rfl
@[simp] theorem modFi_cov (s : State) (i : Nat) (f : InputSt → InputSt) : (s.modFi i f).cov = s.cov := rfl
@[simp] theorem modFi_events (s : State) (i : Nat) (f : InputSt → InputSt) : (s.modFi i f).events = s.events := rfl
@[simp] theorem modFi_faults (s : State) (i : Nat) (f : InputSt → InputSt) : (s.modFi i f).faults = s.faults := rfl
@[simp] theorem modFi_recorder (s : State) (i : Nat) (f : InputSt → InputSt) : (s.modFi i f).recorder = s.recorder := rfl
@[simp] theorem modFi_limp (s : State) (i : Nat) (f : InputSt → InputSt) : (s.modFi i f).limp = s.limp := rfl
@[simp] theorem modFi_can (s : State) (i : Nat) (f : InputSt → InputSt) : (s.modFi i f).can = s.can := rfl
@[simp] theorem modFi_zither (s : State) (i : Nat) (f : InputSt → InputSt) : (s.modFi i f).zither = s.zither := rfl
@[simp] theorem modFi_freeCount (s : State) (i : Nat) (f : InputSt → InputSt) : (s.modFi i f).freeCount = s.freeCount := rfl
@[simp] theorem modFi_pending (s : State) (i : Nat) (f : InputSt → InputSt) : (s.modFi i f).pending = s.pending := rfl
@[simp] theorem modFi_unit (s : State) (i : Nat) (f : InputSt → InputSt) (j : Nat) : (s.modFi i f).unit j = s.unit j := rfl
@[simp] theorem modFi_cluster (s : State) (i : Nat) (f : InputSt → InputSt) (j : Nat) : (s.modFi i f).cluster j = s.cluster j := rfl
@[simp] theorem modFi_boostOf (s : State) (i : Nat) (f : InputSt → InputSt) (j : Nat) : (s.modFi i f).boostOf j = s.boostOf j := rfl
@[simp] theorem modFi_sw (s : State) (i : Nat) (f : InputSt → InputSt) (j : Nat) : (s.modFi i f).sw j = s.sw j := rfl
@[simp] theorem modFi_vent (s : State) (i : Nat) (f : InputSt → InputSt) (j : Nat) : (s.modFi i f).vent j = s.vent j := rfl
@[simp] theorem modFi_fo (s : State) (i : Nat) (f : InputSt → InputSt) (j : Nat) : (s.modFi i f).fo j = s.fo j := rfl
@[simp] theorem modFi_ai (s : State) (i : Nat) (f : InputSt → InputSt) (j : Nat) : (s.modFi i f).ai j = s.ai j := rfl
@[simp] theorem modFi_group (s : State) (i : Nat) (f : InputSt → InputSt) (j : Nat) : (s.modFi i f).group j = s.group j := rfl
@[simp] theorem modFi_die (s : State) (i : Nat) (f : InputSt → InputSt) (j : Nat) : (s.modFi i f).die j = s.die j := rfl
@[simp] theorem modFi_loop (s : State) (i : Nat) (f : InputSt → InputSt) (j : Nat) : (s.modFi i f).loop j = s.loop j := rfl
@[simp] theorem modFi_course (s : State) (i : Nat) (f : InputSt → InputSt) (j : Nat) : (s.modFi i f).course j = s.course j := rfl
@[simp] theorem modFi_src (s : State) (i : Nat) (f : InputSt → InputSt) (j : Nat) : (s.modFi i f).src j = s.src j := rfl
@[simp] theorem modFi_tgt (s : State) (i : Nat) (f : InputSt → InputSt) (j : Nat) : (s.modFi i f).tgt j = s.tgt j := rfl
@[simp] theorem modFi_canOf (s : State) (i : Nat) (f : InputSt → InputSt) (j : Nat) : (s.modFi i f).canOf j = s.canOf j := rfl
@[simp] theorem modFi_chan (s : State) (i : Nat) (f : InputSt → InputSt) (j : Nat) : (s.modFi i f).chan j = s.chan j := rfl
@[simp] theorem modFi_sentOf (s : State) (i : Nat) (f : InputSt → InputSt) (j : Nat) : (s.modFi i f).sentOf j = s.sentOf j := rfl
@[simp] theorem modFo_devtime (s : State) (o : Nat) (f : OutputSt → OutputSt) : (s.modFo o f).devtime = s.devtime := rfl
@[simp] theorem modFo_cfg (s : State) (o : Nat) (f : OutputSt → OutputSt) : (s.modFo o f).cfg = s.cfg := rfl
@[simp] theorem modFo_power (s : State) (o : Nat) (f : OutputSt → OutputSt) : (s.modFo o f).power = s.power := rfl
@[simp] theorem modFo_start (s : State) (o : Nat) (f : OutputSt → OutputSt) : (s.modFo o f).start = s.start := rfl
@[simp] theorem modFo_storage (s : State) (o : Nat) (f : OutputSt → OutputSt) : (s.modFo o f).storage = s.storage := rfl
@[simp] theorem modFo_host (s : State) (o : Nat) (f : OutputSt → OutputSt) : (s.modFo o f).host = s.host := rfl
@[simp] theorem modFo_ledger (s : State) (o : Nat) (f : OutputSt → OutputSt) : (s.modFo o f).ledger = s.ledger := rfl
@[simp] theorem modFo_units (s : State) (o : Nat) (f : OutputSt → OutputSt) : (s.modFo o f).units = s.units := rfl
@[simp] theorem modFo_clusters (s : State) (o : Nat) (f : OutputSt → OutputSt) : (s.modFo o f).clusters = s.clusters := rfl
@[simp] theorem modFo_boost (s : State) (o : Nat) (f : OutputSt → OutputSt) : (s.modFo o f).boost = s.boost := rfl
@[simp] theorem modFo_switches (s : State) (o : Nat) (f : OutputSt → OutputSt) : (s.modFo o f).switches = s.switches := rfl
@[simp] theorem modFo_vents (s : State) (o : Nat) (f : OutputSt → OutputSt) : (s.modFo o f).vents = s.vents := rfl
@[simp] theorem modFo_ventHeld (s : State) (o : Nat) (f : OutputSt → OutputSt) : (s.modFo o f).ventHeld = s.ventHeld := rfl
@[simp] theorem modFo_inputs (s : State) (o : Nat) (f : OutputSt → OutputSt) : (s.modFo o f).inputs = s.inputs := rfl
@[simp] theorem modFo_analogs (s : State) (o : Nat) (f : OutputSt → OutputSt) : (s.modFo o f).analogs = s.analogs := rfl
@[simp] theorem modFo_groups (s : State) (o : Nat) (f : OutputSt → OutputSt) : (s.modFo o f).groups = s.groups := rfl
@[simp] theorem modFo_dies (s : State) (o : Nat) (f : OutputSt → OutputSt) : (s.modFo o f).dies = s.dies := rfl
@[simp] theorem modFo_loops (s : State) (o : Nat) (f : OutputSt → OutputSt) : (s.modFo o f).loops = s.loops := rfl
@[simp] theorem modFo_loopStream (s : State) (o : Nat) (f : OutputSt → OutputSt) : (s.modFo o f).loopStream = s.loopStream := rfl
@[simp] theorem modFo_loopSentAt (s : State) (o : Nat) (f : OutputSt → OutputSt) : (s.modFo o f).loopSentAt = s.loopSentAt := rfl
@[simp] theorem modFo_rates (s : State) (o : Nat) (f : OutputSt → OutputSt) : (s.modFo o f).rates = s.rates := rfl
@[simp] theorem modFo_trims (s : State) (o : Nat) (f : OutputSt → OutputSt) : (s.modFo o f).trims = s.trims := rfl
@[simp] theorem modFo_rateRaisedAt (s : State) (o : Nat) (f : OutputSt → OutputSt) : (s.modFo o f).rateRaisedAt = s.rateRaisedAt := rfl
@[simp] theorem modFo_pressureBad (s : State) (o : Nat) (f : OutputSt → OutputSt) : (s.modFo o f).pressureBad = s.pressureBad := rfl
@[simp] theorem modFo_pwmRef (s : State) (o : Nat) (f : OutputSt → OutputSt) : (s.modFo o f).pwmRef = s.pwmRef := rfl
@[simp] theorem modFo_nav (s : State) (o : Nat) (f : OutputSt → OutputSt) : (s.modFo o f).nav = s.nav := rfl
@[simp] theorem modFo_odo (s : State) (o : Nat) (f : OutputSt → OutputSt) : (s.modFo o f).odo = s.odo := rfl
@[simp] theorem modFo_cov (s : State) (o : Nat) (f : OutputSt → OutputSt) : (s.modFo o f).cov = s.cov := rfl
@[simp] theorem modFo_events (s : State) (o : Nat) (f : OutputSt → OutputSt) : (s.modFo o f).events = s.events := rfl
@[simp] theorem modFo_faults (s : State) (o : Nat) (f : OutputSt → OutputSt) : (s.modFo o f).faults = s.faults := rfl
@[simp] theorem modFo_recorder (s : State) (o : Nat) (f : OutputSt → OutputSt) : (s.modFo o f).recorder = s.recorder := rfl
@[simp] theorem modFo_limp (s : State) (o : Nat) (f : OutputSt → OutputSt) : (s.modFo o f).limp = s.limp := rfl
@[simp] theorem modFo_can (s : State) (o : Nat) (f : OutputSt → OutputSt) : (s.modFo o f).can = s.can := rfl
@[simp] theorem modFo_zither (s : State) (o : Nat) (f : OutputSt → OutputSt) : (s.modFo o f).zither = s.zither := rfl
@[simp] theorem modFo_freeCount (s : State) (o : Nat) (f : OutputSt → OutputSt) : (s.modFo o f).freeCount = s.freeCount := rfl
@[simp] theorem modFo_pending (s : State) (o : Nat) (f : OutputSt → OutputSt) : (s.modFo o f).pending = s.pending := rfl
@[simp] theorem modFo_unit (s : State) (o : Nat) (f : OutputSt → OutputSt) (j : Nat) : (s.modFo o f).unit j = s.unit j := rfl
@[simp] theorem modFo_cluster (s : State) (o : Nat) (f : OutputSt → OutputSt) (j : Nat) : (s.modFo o f).cluster j = s.cluster j := rfl
@[simp] theorem modFo_boostOf (s : State) (o : Nat) (f : OutputSt → OutputSt) (j : Nat) : (s.modFo o f).boostOf j = s.boostOf j := rfl
@[simp] theorem modFo_sw (s : State) (o : Nat) (f : OutputSt → OutputSt) (j : Nat) : (s.modFo o f).sw j = s.sw j := rfl
@[simp] theorem modFo_vent (s : State) (o : Nat) (f : OutputSt → OutputSt) (j : Nat) : (s.modFo o f).vent j = s.vent j := rfl
@[simp] theorem modFo_fi (s : State) (o : Nat) (f : OutputSt → OutputSt) (j : Nat) : (s.modFo o f).fi j = s.fi j := rfl
@[simp] theorem modFo_ai (s : State) (o : Nat) (f : OutputSt → OutputSt) (j : Nat) : (s.modFo o f).ai j = s.ai j := rfl
@[simp] theorem modFo_group (s : State) (o : Nat) (f : OutputSt → OutputSt) (j : Nat) : (s.modFo o f).group j = s.group j := rfl
@[simp] theorem modFo_die (s : State) (o : Nat) (f : OutputSt → OutputSt) (j : Nat) : (s.modFo o f).die j = s.die j := rfl
@[simp] theorem modFo_loop (s : State) (o : Nat) (f : OutputSt → OutputSt) (j : Nat) : (s.modFo o f).loop j = s.loop j := rfl
@[simp] theorem modFo_course (s : State) (o : Nat) (f : OutputSt → OutputSt) (j : Nat) : (s.modFo o f).course j = s.course j := rfl
@[simp] theorem modFo_src (s : State) (o : Nat) (f : OutputSt → OutputSt) (j : Nat) : (s.modFo o f).src j = s.src j := rfl
@[simp] theorem modFo_tgt (s : State) (o : Nat) (f : OutputSt → OutputSt) (j : Nat) : (s.modFo o f).tgt j = s.tgt j := rfl
@[simp] theorem modFo_canOf (s : State) (o : Nat) (f : OutputSt → OutputSt) (j : Nat) : (s.modFo o f).canOf j = s.canOf j := rfl
@[simp] theorem modFo_chan (s : State) (o : Nat) (f : OutputSt → OutputSt) (j : Nat) : (s.modFo o f).chan j = s.chan j := rfl
@[simp] theorem modFo_sentOf (s : State) (o : Nat) (f : OutputSt → OutputSt) (j : Nat) : (s.modFo o f).sentOf j = s.sentOf j := rfl
@[simp] theorem modAi_devtime (s : State) (a : Nat) (f : AnalogSt → AnalogSt) : (s.modAi a f).devtime = s.devtime := rfl
@[simp] theorem modAi_cfg (s : State) (a : Nat) (f : AnalogSt → AnalogSt) : (s.modAi a f).cfg = s.cfg := rfl
@[simp] theorem modAi_power (s : State) (a : Nat) (f : AnalogSt → AnalogSt) : (s.modAi a f).power = s.power := rfl
@[simp] theorem modAi_start (s : State) (a : Nat) (f : AnalogSt → AnalogSt) : (s.modAi a f).start = s.start := rfl
@[simp] theorem modAi_storage (s : State) (a : Nat) (f : AnalogSt → AnalogSt) : (s.modAi a f).storage = s.storage := rfl
@[simp] theorem modAi_host (s : State) (a : Nat) (f : AnalogSt → AnalogSt) : (s.modAi a f).host = s.host := rfl
@[simp] theorem modAi_ledger (s : State) (a : Nat) (f : AnalogSt → AnalogSt) : (s.modAi a f).ledger = s.ledger := rfl
@[simp] theorem modAi_units (s : State) (a : Nat) (f : AnalogSt → AnalogSt) : (s.modAi a f).units = s.units := rfl
@[simp] theorem modAi_clusters (s : State) (a : Nat) (f : AnalogSt → AnalogSt) : (s.modAi a f).clusters = s.clusters := rfl
@[simp] theorem modAi_boost (s : State) (a : Nat) (f : AnalogSt → AnalogSt) : (s.modAi a f).boost = s.boost := rfl
@[simp] theorem modAi_switches (s : State) (a : Nat) (f : AnalogSt → AnalogSt) : (s.modAi a f).switches = s.switches := rfl
@[simp] theorem modAi_vents (s : State) (a : Nat) (f : AnalogSt → AnalogSt) : (s.modAi a f).vents = s.vents := rfl
@[simp] theorem modAi_ventHeld (s : State) (a : Nat) (f : AnalogSt → AnalogSt) : (s.modAi a f).ventHeld = s.ventHeld := rfl
@[simp] theorem modAi_inputs (s : State) (a : Nat) (f : AnalogSt → AnalogSt) : (s.modAi a f).inputs = s.inputs := rfl
@[simp] theorem modAi_outputs (s : State) (a : Nat) (f : AnalogSt → AnalogSt) : (s.modAi a f).outputs = s.outputs := rfl
@[simp] theorem modAi_groups (s : State) (a : Nat) (f : AnalogSt → AnalogSt) : (s.modAi a f).groups = s.groups := rfl
@[simp] theorem modAi_dies (s : State) (a : Nat) (f : AnalogSt → AnalogSt) : (s.modAi a f).dies = s.dies := rfl
@[simp] theorem modAi_loops (s : State) (a : Nat) (f : AnalogSt → AnalogSt) : (s.modAi a f).loops = s.loops := rfl
@[simp] theorem modAi_loopStream (s : State) (a : Nat) (f : AnalogSt → AnalogSt) : (s.modAi a f).loopStream = s.loopStream := rfl
@[simp] theorem modAi_loopSentAt (s : State) (a : Nat) (f : AnalogSt → AnalogSt) : (s.modAi a f).loopSentAt = s.loopSentAt := rfl
@[simp] theorem modAi_rates (s : State) (a : Nat) (f : AnalogSt → AnalogSt) : (s.modAi a f).rates = s.rates := rfl
@[simp] theorem modAi_trims (s : State) (a : Nat) (f : AnalogSt → AnalogSt) : (s.modAi a f).trims = s.trims := rfl
@[simp] theorem modAi_rateRaisedAt (s : State) (a : Nat) (f : AnalogSt → AnalogSt) : (s.modAi a f).rateRaisedAt = s.rateRaisedAt := rfl
@[simp] theorem modAi_pressureBad (s : State) (a : Nat) (f : AnalogSt → AnalogSt) : (s.modAi a f).pressureBad = s.pressureBad := rfl
@[simp] theorem modAi_pwmRef (s : State) (a : Nat) (f : AnalogSt → AnalogSt) : (s.modAi a f).pwmRef = s.pwmRef := rfl
@[simp] theorem modAi_nav (s : State) (a : Nat) (f : AnalogSt → AnalogSt) : (s.modAi a f).nav = s.nav := rfl
@[simp] theorem modAi_odo (s : State) (a : Nat) (f : AnalogSt → AnalogSt) : (s.modAi a f).odo = s.odo := rfl
@[simp] theorem modAi_cov (s : State) (a : Nat) (f : AnalogSt → AnalogSt) : (s.modAi a f).cov = s.cov := rfl
@[simp] theorem modAi_events (s : State) (a : Nat) (f : AnalogSt → AnalogSt) : (s.modAi a f).events = s.events := rfl
@[simp] theorem modAi_faults (s : State) (a : Nat) (f : AnalogSt → AnalogSt) : (s.modAi a f).faults = s.faults := rfl
@[simp] theorem modAi_recorder (s : State) (a : Nat) (f : AnalogSt → AnalogSt) : (s.modAi a f).recorder = s.recorder := rfl
@[simp] theorem modAi_limp (s : State) (a : Nat) (f : AnalogSt → AnalogSt) : (s.modAi a f).limp = s.limp := rfl
@[simp] theorem modAi_can (s : State) (a : Nat) (f : AnalogSt → AnalogSt) : (s.modAi a f).can = s.can := rfl
@[simp] theorem modAi_zither (s : State) (a : Nat) (f : AnalogSt → AnalogSt) : (s.modAi a f).zither = s.zither := rfl
@[simp] theorem modAi_freeCount (s : State) (a : Nat) (f : AnalogSt → AnalogSt) : (s.modAi a f).freeCount = s.freeCount := rfl
@[simp] theorem modAi_pending (s : State) (a : Nat) (f : AnalogSt → AnalogSt) : (s.modAi a f).pending = s.pending := rfl
@[simp] theorem modAi_unit (s : State) (a : Nat) (f : AnalogSt → AnalogSt) (j : Nat) : (s.modAi a f).unit j = s.unit j := rfl
@[simp] theorem modAi_cluster (s : State) (a : Nat) (f : AnalogSt → AnalogSt) (j : Nat) : (s.modAi a f).cluster j = s.cluster j := rfl
@[simp] theorem modAi_boostOf (s : State) (a : Nat) (f : AnalogSt → AnalogSt) (j : Nat) : (s.modAi a f).boostOf j = s.boostOf j := rfl
@[simp] theorem modAi_sw (s : State) (a : Nat) (f : AnalogSt → AnalogSt) (j : Nat) : (s.modAi a f).sw j = s.sw j := rfl
@[simp] theorem modAi_vent (s : State) (a : Nat) (f : AnalogSt → AnalogSt) (j : Nat) : (s.modAi a f).vent j = s.vent j := rfl
@[simp] theorem modAi_fi (s : State) (a : Nat) (f : AnalogSt → AnalogSt) (j : Nat) : (s.modAi a f).fi j = s.fi j := rfl
@[simp] theorem modAi_fo (s : State) (a : Nat) (f : AnalogSt → AnalogSt) (j : Nat) : (s.modAi a f).fo j = s.fo j := rfl
@[simp] theorem modAi_group (s : State) (a : Nat) (f : AnalogSt → AnalogSt) (j : Nat) : (s.modAi a f).group j = s.group j := rfl
@[simp] theorem modAi_die (s : State) (a : Nat) (f : AnalogSt → AnalogSt) (j : Nat) : (s.modAi a f).die j = s.die j := rfl
@[simp] theorem modAi_loop (s : State) (a : Nat) (f : AnalogSt → AnalogSt) (j : Nat) : (s.modAi a f).loop j = s.loop j := rfl
@[simp] theorem modAi_course (s : State) (a : Nat) (f : AnalogSt → AnalogSt) (j : Nat) : (s.modAi a f).course j = s.course j := rfl
@[simp] theorem modAi_src (s : State) (a : Nat) (f : AnalogSt → AnalogSt) (j : Nat) : (s.modAi a f).src j = s.src j := rfl
@[simp] theorem modAi_tgt (s : State) (a : Nat) (f : AnalogSt → AnalogSt) (j : Nat) : (s.modAi a f).tgt j = s.tgt j := rfl
@[simp] theorem modAi_canOf (s : State) (a : Nat) (f : AnalogSt → AnalogSt) (j : Nat) : (s.modAi a f).canOf j = s.canOf j := rfl
@[simp] theorem modAi_chan (s : State) (a : Nat) (f : AnalogSt → AnalogSt) (j : Nat) : (s.modAi a f).chan j = s.chan j := rfl
@[simp] theorem modAi_sentOf (s : State) (a : Nat) (f : AnalogSt → AnalogSt) (j : Nat) : (s.modAi a f).sentOf j = s.sentOf j := rfl
@[simp] theorem modDie_devtime (s : State) (d : Nat) (f : DieSt → DieSt) : (s.modDie d f).devtime = s.devtime := rfl
@[simp] theorem modDie_cfg (s : State) (d : Nat) (f : DieSt → DieSt) : (s.modDie d f).cfg = s.cfg := rfl
@[simp] theorem modDie_power (s : State) (d : Nat) (f : DieSt → DieSt) : (s.modDie d f).power = s.power := rfl
@[simp] theorem modDie_start (s : State) (d : Nat) (f : DieSt → DieSt) : (s.modDie d f).start = s.start := rfl
@[simp] theorem modDie_storage (s : State) (d : Nat) (f : DieSt → DieSt) : (s.modDie d f).storage = s.storage := rfl
@[simp] theorem modDie_host (s : State) (d : Nat) (f : DieSt → DieSt) : (s.modDie d f).host = s.host := rfl
@[simp] theorem modDie_ledger (s : State) (d : Nat) (f : DieSt → DieSt) : (s.modDie d f).ledger = s.ledger := rfl
@[simp] theorem modDie_units (s : State) (d : Nat) (f : DieSt → DieSt) : (s.modDie d f).units = s.units := rfl
@[simp] theorem modDie_clusters (s : State) (d : Nat) (f : DieSt → DieSt) : (s.modDie d f).clusters = s.clusters := rfl
@[simp] theorem modDie_boost (s : State) (d : Nat) (f : DieSt → DieSt) : (s.modDie d f).boost = s.boost := rfl
@[simp] theorem modDie_switches (s : State) (d : Nat) (f : DieSt → DieSt) : (s.modDie d f).switches = s.switches := rfl
@[simp] theorem modDie_vents (s : State) (d : Nat) (f : DieSt → DieSt) : (s.modDie d f).vents = s.vents := rfl
@[simp] theorem modDie_ventHeld (s : State) (d : Nat) (f : DieSt → DieSt) : (s.modDie d f).ventHeld = s.ventHeld := rfl
@[simp] theorem modDie_inputs (s : State) (d : Nat) (f : DieSt → DieSt) : (s.modDie d f).inputs = s.inputs := rfl
@[simp] theorem modDie_outputs (s : State) (d : Nat) (f : DieSt → DieSt) : (s.modDie d f).outputs = s.outputs := rfl
@[simp] theorem modDie_analogs (s : State) (d : Nat) (f : DieSt → DieSt) : (s.modDie d f).analogs = s.analogs := rfl
@[simp] theorem modDie_groups (s : State) (d : Nat) (f : DieSt → DieSt) : (s.modDie d f).groups = s.groups := rfl
@[simp] theorem modDie_loops (s : State) (d : Nat) (f : DieSt → DieSt) : (s.modDie d f).loops = s.loops := rfl
@[simp] theorem modDie_loopStream (s : State) (d : Nat) (f : DieSt → DieSt) : (s.modDie d f).loopStream = s.loopStream := rfl
@[simp] theorem modDie_loopSentAt (s : State) (d : Nat) (f : DieSt → DieSt) : (s.modDie d f).loopSentAt = s.loopSentAt := rfl
@[simp] theorem modDie_rates (s : State) (d : Nat) (f : DieSt → DieSt) : (s.modDie d f).rates = s.rates := rfl
@[simp] theorem modDie_trims (s : State) (d : Nat) (f : DieSt → DieSt) : (s.modDie d f).trims = s.trims := rfl
@[simp] theorem modDie_rateRaisedAt (s : State) (d : Nat) (f : DieSt → DieSt) : (s.modDie d f).rateRaisedAt = s.rateRaisedAt := rfl
@[simp] theorem modDie_pressureBad (s : State) (d : Nat) (f : DieSt → DieSt) : (s.modDie d f).pressureBad = s.pressureBad := rfl
@[simp] theorem modDie_pwmRef (s : State) (d : Nat) (f : DieSt → DieSt) : (s.modDie d f).pwmRef = s.pwmRef := rfl
@[simp] theorem modDie_nav (s : State) (d : Nat) (f : DieSt → DieSt) : (s.modDie d f).nav = s.nav := rfl
@[simp] theorem modDie_odo (s : State) (d : Nat) (f : DieSt → DieSt) : (s.modDie d f).odo = s.odo := rfl
@[simp] theorem modDie_cov (s : State) (d : Nat) (f : DieSt → DieSt) : (s.modDie d f).cov = s.cov := rfl
@[simp] theorem modDie_events (s : State) (d : Nat) (f : DieSt → DieSt) : (s.modDie d f).events = s.events := rfl
@[simp] theorem modDie_faults (s : State) (d : Nat) (f : DieSt → DieSt) : (s.modDie d f).faults = s.faults := rfl
@[simp] theorem modDie_recorder (s : State) (d : Nat) (f : DieSt → DieSt) : (s.modDie d f).recorder = s.recorder := rfl
@[simp] theorem modDie_limp (s : State) (d : Nat) (f : DieSt → DieSt) : (s.modDie d f).limp = s.limp := rfl
@[simp] theorem modDie_can (s : State) (d : Nat) (f : DieSt → DieSt) : (s.modDie d f).can = s.can := rfl
@[simp] theorem modDie_zither (s : State) (d : Nat) (f : DieSt → DieSt) : (s.modDie d f).zither = s.zither := rfl
@[simp] theorem modDie_freeCount (s : State) (d : Nat) (f : DieSt → DieSt) : (s.modDie d f).freeCount = s.freeCount := rfl
@[simp] theorem modDie_pending (s : State) (d : Nat) (f : DieSt → DieSt) : (s.modDie d f).pending = s.pending := rfl
@[simp] theorem modDie_unit (s : State) (d : Nat) (f : DieSt → DieSt) (j : Nat) : (s.modDie d f).unit j = s.unit j := rfl
@[simp] theorem modDie_cluster (s : State) (d : Nat) (f : DieSt → DieSt) (j : Nat) : (s.modDie d f).cluster j = s.cluster j := rfl
@[simp] theorem modDie_boostOf (s : State) (d : Nat) (f : DieSt → DieSt) (j : Nat) : (s.modDie d f).boostOf j = s.boostOf j := rfl
@[simp] theorem modDie_sw (s : State) (d : Nat) (f : DieSt → DieSt) (j : Nat) : (s.modDie d f).sw j = s.sw j := rfl
@[simp] theorem modDie_vent (s : State) (d : Nat) (f : DieSt → DieSt) (j : Nat) : (s.modDie d f).vent j = s.vent j := rfl
@[simp] theorem modDie_fi (s : State) (d : Nat) (f : DieSt → DieSt) (j : Nat) : (s.modDie d f).fi j = s.fi j := rfl
@[simp] theorem modDie_fo (s : State) (d : Nat) (f : DieSt → DieSt) (j : Nat) : (s.modDie d f).fo j = s.fo j := rfl
@[simp] theorem modDie_ai (s : State) (d : Nat) (f : DieSt → DieSt) (j : Nat) : (s.modDie d f).ai j = s.ai j := rfl
@[simp] theorem modDie_group (s : State) (d : Nat) (f : DieSt → DieSt) (j : Nat) : (s.modDie d f).group j = s.group j := rfl
@[simp] theorem modDie_loop (s : State) (d : Nat) (f : DieSt → DieSt) (j : Nat) : (s.modDie d f).loop j = s.loop j := rfl
@[simp] theorem modDie_course (s : State) (d : Nat) (f : DieSt → DieSt) (j : Nat) : (s.modDie d f).course j = s.course j := rfl
@[simp] theorem modDie_src (s : State) (d : Nat) (f : DieSt → DieSt) (j : Nat) : (s.modDie d f).src j = s.src j := rfl
@[simp] theorem modDie_tgt (s : State) (d : Nat) (f : DieSt → DieSt) (j : Nat) : (s.modDie d f).tgt j = s.tgt j := rfl
@[simp] theorem modDie_canOf (s : State) (d : Nat) (f : DieSt → DieSt) (j : Nat) : (s.modDie d f).canOf j = s.canOf j := rfl
@[simp] theorem modDie_chan (s : State) (d : Nat) (f : DieSt → DieSt) (j : Nat) : (s.modDie d f).chan j = s.chan j := rfl
@[simp] theorem modDie_sentOf (s : State) (d : Nat) (f : DieSt → DieSt) (j : Nat) : (s.modDie d f).sentOf j = s.sentOf j := rfl
@[simp] theorem modLoop_devtime (s : State) (l : Nat) (f : LoopSt → LoopSt) : (s.modLoop l f).devtime = s.devtime := rfl
@[simp] theorem modLoop_cfg (s : State) (l : Nat) (f : LoopSt → LoopSt) : (s.modLoop l f).cfg = s.cfg := rfl
@[simp] theorem modLoop_power (s : State) (l : Nat) (f : LoopSt → LoopSt) : (s.modLoop l f).power = s.power := rfl
@[simp] theorem modLoop_start (s : State) (l : Nat) (f : LoopSt → LoopSt) : (s.modLoop l f).start = s.start := rfl
@[simp] theorem modLoop_storage (s : State) (l : Nat) (f : LoopSt → LoopSt) : (s.modLoop l f).storage = s.storage := rfl
@[simp] theorem modLoop_host (s : State) (l : Nat) (f : LoopSt → LoopSt) : (s.modLoop l f).host = s.host := rfl
@[simp] theorem modLoop_ledger (s : State) (l : Nat) (f : LoopSt → LoopSt) : (s.modLoop l f).ledger = s.ledger := rfl
@[simp] theorem modLoop_units (s : State) (l : Nat) (f : LoopSt → LoopSt) : (s.modLoop l f).units = s.units := rfl
@[simp] theorem modLoop_clusters (s : State) (l : Nat) (f : LoopSt → LoopSt) : (s.modLoop l f).clusters = s.clusters := rfl
@[simp] theorem modLoop_boost (s : State) (l : Nat) (f : LoopSt → LoopSt) : (s.modLoop l f).boost = s.boost := rfl
@[simp] theorem modLoop_switches (s : State) (l : Nat) (f : LoopSt → LoopSt) : (s.modLoop l f).switches = s.switches := rfl
@[simp] theorem modLoop_vents (s : State) (l : Nat) (f : LoopSt → LoopSt) : (s.modLoop l f).vents = s.vents := rfl
@[simp] theorem modLoop_ventHeld (s : State) (l : Nat) (f : LoopSt → LoopSt) : (s.modLoop l f).ventHeld = s.ventHeld := rfl
@[simp] theorem modLoop_inputs (s : State) (l : Nat) (f : LoopSt → LoopSt) : (s.modLoop l f).inputs = s.inputs := rfl
@[simp] theorem modLoop_outputs (s : State) (l : Nat) (f : LoopSt → LoopSt) : (s.modLoop l f).outputs = s.outputs := rfl
@[simp] theorem modLoop_analogs (s : State) (l : Nat) (f : LoopSt → LoopSt) : (s.modLoop l f).analogs = s.analogs := rfl
@[simp] theorem modLoop_groups (s : State) (l : Nat) (f : LoopSt → LoopSt) : (s.modLoop l f).groups = s.groups := rfl
@[simp] theorem modLoop_dies (s : State) (l : Nat) (f : LoopSt → LoopSt) : (s.modLoop l f).dies = s.dies := rfl
@[simp] theorem modLoop_loopStream (s : State) (l : Nat) (f : LoopSt → LoopSt) : (s.modLoop l f).loopStream = s.loopStream := rfl
@[simp] theorem modLoop_loopSentAt (s : State) (l : Nat) (f : LoopSt → LoopSt) : (s.modLoop l f).loopSentAt = s.loopSentAt := rfl
@[simp] theorem modLoop_rates (s : State) (l : Nat) (f : LoopSt → LoopSt) : (s.modLoop l f).rates = s.rates := rfl
@[simp] theorem modLoop_trims (s : State) (l : Nat) (f : LoopSt → LoopSt) : (s.modLoop l f).trims = s.trims := rfl
@[simp] theorem modLoop_rateRaisedAt (s : State) (l : Nat) (f : LoopSt → LoopSt) : (s.modLoop l f).rateRaisedAt = s.rateRaisedAt := rfl
@[simp] theorem modLoop_pressureBad (s : State) (l : Nat) (f : LoopSt → LoopSt) : (s.modLoop l f).pressureBad = s.pressureBad := rfl
@[simp] theorem modLoop_pwmRef (s : State) (l : Nat) (f : LoopSt → LoopSt) : (s.modLoop l f).pwmRef = s.pwmRef := rfl
@[simp] theorem modLoop_nav (s : State) (l : Nat) (f : LoopSt → LoopSt) : (s.modLoop l f).nav = s.nav := rfl
@[simp] theorem modLoop_odo (s : State) (l : Nat) (f : LoopSt → LoopSt) : (s.modLoop l f).odo = s.odo := rfl
@[simp] theorem modLoop_cov (s : State) (l : Nat) (f : LoopSt → LoopSt) : (s.modLoop l f).cov = s.cov := rfl
@[simp] theorem modLoop_events (s : State) (l : Nat) (f : LoopSt → LoopSt) : (s.modLoop l f).events = s.events := rfl
@[simp] theorem modLoop_faults (s : State) (l : Nat) (f : LoopSt → LoopSt) : (s.modLoop l f).faults = s.faults := rfl
@[simp] theorem modLoop_recorder (s : State) (l : Nat) (f : LoopSt → LoopSt) : (s.modLoop l f).recorder = s.recorder := rfl
@[simp] theorem modLoop_limp (s : State) (l : Nat) (f : LoopSt → LoopSt) : (s.modLoop l f).limp = s.limp := rfl
@[simp] theorem modLoop_can (s : State) (l : Nat) (f : LoopSt → LoopSt) : (s.modLoop l f).can = s.can := rfl
@[simp] theorem modLoop_zither (s : State) (l : Nat) (f : LoopSt → LoopSt) : (s.modLoop l f).zither = s.zither := rfl
@[simp] theorem modLoop_freeCount (s : State) (l : Nat) (f : LoopSt → LoopSt) : (s.modLoop l f).freeCount = s.freeCount := rfl
@[simp] theorem modLoop_pending (s : State) (l : Nat) (f : LoopSt → LoopSt) : (s.modLoop l f).pending = s.pending := rfl
@[simp] theorem modLoop_unit (s : State) (l : Nat) (f : LoopSt → LoopSt) (j : Nat) : (s.modLoop l f).unit j = s.unit j := rfl
@[simp] theorem modLoop_cluster (s : State) (l : Nat) (f : LoopSt → LoopSt) (j : Nat) : (s.modLoop l f).cluster j = s.cluster j := rfl
@[simp] theorem modLoop_boostOf (s : State) (l : Nat) (f : LoopSt → LoopSt) (j : Nat) : (s.modLoop l f).boostOf j = s.boostOf j := rfl
@[simp] theorem modLoop_sw (s : State) (l : Nat) (f : LoopSt → LoopSt) (j : Nat) : (s.modLoop l f).sw j = s.sw j := rfl
@[simp] theorem modLoop_vent (s : State) (l : Nat) (f : LoopSt → LoopSt) (j : Nat) : (s.modLoop l f).vent j = s.vent j := rfl
@[simp] theorem modLoop_fi (s : State) (l : Nat) (f : LoopSt → LoopSt) (j : Nat) : (s.modLoop l f).fi j = s.fi j := rfl
@[simp] theorem modLoop_fo (s : State) (l : Nat) (f : LoopSt → LoopSt) (j : Nat) : (s.modLoop l f).fo j = s.fo j := rfl
@[simp] theorem modLoop_ai (s : State) (l : Nat) (f : LoopSt → LoopSt) (j : Nat) : (s.modLoop l f).ai j = s.ai j := rfl
@[simp] theorem modLoop_group (s : State) (l : Nat) (f : LoopSt → LoopSt) (j : Nat) : (s.modLoop l f).group j = s.group j := rfl
@[simp] theorem modLoop_die (s : State) (l : Nat) (f : LoopSt → LoopSt) (j : Nat) : (s.modLoop l f).die j = s.die j := rfl
@[simp] theorem modLoop_course (s : State) (l : Nat) (f : LoopSt → LoopSt) (j : Nat) : (s.modLoop l f).course j = s.course j := rfl
@[simp] theorem modLoop_src (s : State) (l : Nat) (f : LoopSt → LoopSt) (j : Nat) : (s.modLoop l f).src j = s.src j := rfl
@[simp] theorem modLoop_tgt (s : State) (l : Nat) (f : LoopSt → LoopSt) (j : Nat) : (s.modLoop l f).tgt j = s.tgt j := rfl
@[simp] theorem modLoop_canOf (s : State) (l : Nat) (f : LoopSt → LoopSt) (j : Nat) : (s.modLoop l f).canOf j = s.canOf j := rfl
@[simp] theorem modLoop_chan (s : State) (l : Nat) (f : LoopSt → LoopSt) (j : Nat) : (s.modLoop l f).chan j = s.chan j := rfl
@[simp] theorem modLoop_sentOf (s : State) (l : Nat) (f : LoopSt → LoopSt) (j : Nat) : (s.modLoop l f).sentOf j = s.sentOf j := rfl
@[simp] theorem modHost_devtime (s : State) (f : HostSt → HostSt) : (s.modHost f).devtime = s.devtime := rfl
@[simp] theorem modHost_cfg (s : State) (f : HostSt → HostSt) : (s.modHost f).cfg = s.cfg := rfl
@[simp] theorem modHost_power (s : State) (f : HostSt → HostSt) : (s.modHost f).power = s.power := rfl
@[simp] theorem modHost_start (s : State) (f : HostSt → HostSt) : (s.modHost f).start = s.start := rfl
@[simp] theorem modHost_storage (s : State) (f : HostSt → HostSt) : (s.modHost f).storage = s.storage := rfl
@[simp] theorem modHost_ledger (s : State) (f : HostSt → HostSt) : (s.modHost f).ledger = s.ledger := rfl
@[simp] theorem modHost_units (s : State) (f : HostSt → HostSt) : (s.modHost f).units = s.units := rfl
@[simp] theorem modHost_clusters (s : State) (f : HostSt → HostSt) : (s.modHost f).clusters = s.clusters := rfl
@[simp] theorem modHost_boost (s : State) (f : HostSt → HostSt) : (s.modHost f).boost = s.boost := rfl
@[simp] theorem modHost_switches (s : State) (f : HostSt → HostSt) : (s.modHost f).switches = s.switches := rfl
@[simp] theorem modHost_vents (s : State) (f : HostSt → HostSt) : (s.modHost f).vents = s.vents := rfl
@[simp] theorem modHost_ventHeld (s : State) (f : HostSt → HostSt) : (s.modHost f).ventHeld = s.ventHeld := rfl
@[simp] theorem modHost_inputs (s : State) (f : HostSt → HostSt) : (s.modHost f).inputs = s.inputs := rfl
@[simp] theorem modHost_outputs (s : State) (f : HostSt → HostSt) : (s.modHost f).outputs = s.outputs := rfl
@[simp] theorem modHost_analogs (s : State) (f : HostSt → HostSt) : (s.modHost f).analogs = s.analogs := rfl
@[simp] theorem modHost_groups (s : State) (f : HostSt → HostSt) : (s.modHost f).groups = s.groups := rfl
@[simp] theorem modHost_dies (s : State) (f : HostSt → HostSt) : (s.modHost f).dies = s.dies := rfl
@[simp] theorem modHost_loops (s : State) (f : HostSt → HostSt) : (s.modHost f).loops = s.loops := rfl
@[simp] theorem modHost_loopStream (s : State) (f : HostSt → HostSt) : (s.modHost f).loopStream = s.loopStream := rfl
@[simp] theorem modHost_loopSentAt (s : State) (f : HostSt → HostSt) : (s.modHost f).loopSentAt = s.loopSentAt := rfl
@[simp] theorem modHost_rates (s : State) (f : HostSt → HostSt) : (s.modHost f).rates = s.rates := rfl
@[simp] theorem modHost_trims (s : State) (f : HostSt → HostSt) : (s.modHost f).trims = s.trims := rfl
@[simp] theorem modHost_rateRaisedAt (s : State) (f : HostSt → HostSt) : (s.modHost f).rateRaisedAt = s.rateRaisedAt := rfl
@[simp] theorem modHost_pressureBad (s : State) (f : HostSt → HostSt) : (s.modHost f).pressureBad = s.pressureBad := rfl
@[simp] theorem modHost_pwmRef (s : State) (f : HostSt → HostSt) : (s.modHost f).pwmRef = s.pwmRef := rfl
@[simp] theorem modHost_nav (s : State) (f : HostSt → HostSt) : (s.modHost f).nav = s.nav := rfl
@[simp] theorem modHost_odo (s : State) (f : HostSt → HostSt) : (s.modHost f).odo = s.odo := rfl
@[simp] theorem modHost_cov (s : State) (f : HostSt → HostSt) : (s.modHost f).cov = s.cov := rfl
@[simp] theorem modHost_events (s : State) (f : HostSt → HostSt) : (s.modHost f).events = s.events := rfl
@[simp] theorem modHost_faults (s : State) (f : HostSt → HostSt) : (s.modHost f).faults = s.faults := rfl
@[simp] theorem modHost_recorder (s : State) (f : HostSt → HostSt) : (s.modHost f).recorder = s.recorder := rfl
@[simp] theorem modHost_limp (s : State) (f : HostSt → HostSt) : (s.modHost f).limp = s.limp := rfl
@[simp] theorem modHost_can (s : State) (f : HostSt → HostSt) : (s.modHost f).can = s.can := rfl
@[simp] theorem modHost_zither (s : State) (f : HostSt → HostSt) : (s.modHost f).zither = s.zither := rfl
@[simp] theorem modHost_freeCount (s : State) (f : HostSt → HostSt) : (s.modHost f).freeCount = s.freeCount := rfl
@[simp] theorem modHost_pending (s : State) (f : HostSt → HostSt) : (s.modHost f).pending = s.pending := rfl
@[simp] theorem modHost_unit (s : State) (f : HostSt → HostSt) (j : Nat) : (s.modHost f).unit j = s.unit j := rfl
@[simp] theorem modHost_cluster (s : State) (f : HostSt → HostSt) (j : Nat) : (s.modHost f).cluster j = s.cluster j := rfl
@[simp] theorem modHost_boostOf (s : State) (f : HostSt → HostSt) (j : Nat) : (s.modHost f).boostOf j = s.boostOf j := rfl
@[simp] theorem modHost_sw (s : State) (f : HostSt → HostSt) (j : Nat) : (s.modHost f).sw j = s.sw j := rfl
@[simp] theorem modHost_vent (s : State) (f : HostSt → HostSt) (j : Nat) : (s.modHost f).vent j = s.vent j := rfl
@[simp] theorem modHost_fi (s : State) (f : HostSt → HostSt) (j : Nat) : (s.modHost f).fi j = s.fi j := rfl
@[simp] theorem modHost_fo (s : State) (f : HostSt → HostSt) (j : Nat) : (s.modHost f).fo j = s.fo j := rfl
@[simp] theorem modHost_ai (s : State) (f : HostSt → HostSt) (j : Nat) : (s.modHost f).ai j = s.ai j := rfl
@[simp] theorem modHost_group (s : State) (f : HostSt → HostSt) (j : Nat) : (s.modHost f).group j = s.group j := rfl
@[simp] theorem modHost_die (s : State) (f : HostSt → HostSt) (j : Nat) : (s.modHost f).die j = s.die j := rfl
@[simp] theorem modHost_loop (s : State) (f : HostSt → HostSt) (j : Nat) : (s.modHost f).loop j = s.loop j := rfl
@[simp] theorem modHost_src (s : State) (f : HostSt → HostSt) (j : Nat) : (s.modHost f).src j = s.src j := rfl
@[simp] theorem modHost_tgt (s : State) (f : HostSt → HostSt) (j : Nat) : (s.modHost f).tgt j = s.tgt j := rfl
@[simp] theorem modHost_canOf (s : State) (f : HostSt → HostSt) (j : Nat) : (s.modHost f).canOf j = s.canOf j := rfl
@[simp] theorem modHost_chan (s : State) (f : HostSt → HostSt) (j : Nat) : (s.modHost f).chan j = s.chan j := rfl
@[simp] theorem modHost_sentOf (s : State) (f : HostSt → HostSt) (j : Nat) : (s.modHost f).sentOf j = s.sentOf j := rfl
@[simp] theorem modCourse_devtime (s : State) (n : Nat) (f : Course → Course) : (s.modCourse n f).devtime = s.devtime := rfl
@[simp] theorem modCourse_cfg (s : State) (n : Nat) (f : Course → Course) : (s.modCourse n f).cfg = s.cfg := rfl
@[simp] theorem modCourse_power (s : State) (n : Nat) (f : Course → Course) : (s.modCourse n f).power = s.power := rfl
@[simp] theorem modCourse_start (s : State) (n : Nat) (f : Course → Course) : (s.modCourse n f).start = s.start := rfl
@[simp] theorem modCourse_storage (s : State) (n : Nat) (f : Course → Course) : (s.modCourse n f).storage = s.storage := rfl
@[simp] theorem modCourse_ledger (s : State) (n : Nat) (f : Course → Course) : (s.modCourse n f).ledger = s.ledger := rfl
@[simp] theorem modCourse_units (s : State) (n : Nat) (f : Course → Course) : (s.modCourse n f).units = s.units := rfl
@[simp] theorem modCourse_clusters (s : State) (n : Nat) (f : Course → Course) : (s.modCourse n f).clusters = s.clusters := rfl
@[simp] theorem modCourse_boost (s : State) (n : Nat) (f : Course → Course) : (s.modCourse n f).boost = s.boost := rfl
@[simp] theorem modCourse_switches (s : State) (n : Nat) (f : Course → Course) : (s.modCourse n f).switches = s.switches := rfl
@[simp] theorem modCourse_vents (s : State) (n : Nat) (f : Course → Course) : (s.modCourse n f).vents = s.vents := rfl
@[simp] theorem modCourse_ventHeld (s : State) (n : Nat) (f : Course → Course) : (s.modCourse n f).ventHeld = s.ventHeld := rfl
@[simp] theorem modCourse_inputs (s : State) (n : Nat) (f : Course → Course) : (s.modCourse n f).inputs = s.inputs := rfl
@[simp] theorem modCourse_outputs (s : State) (n : Nat) (f : Course → Course) : (s.modCourse n f).outputs = s.outputs := rfl
@[simp] theorem modCourse_analogs (s : State) (n : Nat) (f : Course → Course) : (s.modCourse n f).analogs = s.analogs := rfl
@[simp] theorem modCourse_groups (s : State) (n : Nat) (f : Course → Course) : (s.modCourse n f).groups = s.groups := rfl
@[simp] theorem modCourse_dies (s : State) (n : Nat) (f : Course → Course) : (s.modCourse n f).dies = s.dies := rfl
@[simp] theorem modCourse_loops (s : State) (n : Nat) (f : Course → Course) : (s.modCourse n f).loops = s.loops := rfl
@[simp] theorem modCourse_loopStream (s : State) (n : Nat) (f : Course → Course) : (s.modCourse n f).loopStream = s.loopStream := rfl
@[simp] theorem modCourse_loopSentAt (s : State) (n : Nat) (f : Course → Course) : (s.modCourse n f).loopSentAt = s.loopSentAt := rfl
@[simp] theorem modCourse_rates (s : State) (n : Nat) (f : Course → Course) : (s.modCourse n f).rates = s.rates := rfl
@[simp] theorem modCourse_trims (s : State) (n : Nat) (f : Course → Course) : (s.modCourse n f).trims = s.trims := rfl
@[simp] theorem modCourse_rateRaisedAt (s : State) (n : Nat) (f : Course → Course) : (s.modCourse n f).rateRaisedAt = s.rateRaisedAt := rfl
@[simp] theorem modCourse_pressureBad (s : State) (n : Nat) (f : Course → Course) : (s.modCourse n f).pressureBad = s.pressureBad := rfl
@[simp] theorem modCourse_pwmRef (s : State) (n : Nat) (f : Course → Course) : (s.modCourse n f).pwmRef = s.pwmRef := rfl
@[simp] theorem modCourse_nav (s : State) (n : Nat) (f : Course → Course) : (s.modCourse n f).nav = s.nav := rfl
@[simp] theorem modCourse_odo (s : State) (n : Nat) (f : Course → Course) : (s.modCourse n f).odo = s.odo := rfl
@[simp] theorem modCourse_cov (s : State) (n : Nat) (f : Course → Course) : (s.modCourse n f).cov = s.cov := rfl
@[simp] theorem modCourse_events (s : State) (n : Nat) (f : Course → Course) : (s.modCourse n f).events = s.events := rfl
@[simp] theorem modCourse_faults (s : State) (n : Nat) (f : Course → Course) : (s.modCourse n f).faults = s.faults := rfl
@[simp] theorem modCourse_recorder (s : State) (n : Nat) (f : Course → Course) : (s.modCourse n f).recorder = s.recorder := rfl
@[simp] theorem modCourse_limp (s : State) (n : Nat) (f : Course → Course) : (s.modCourse n f).limp = s.limp := rfl
@[simp] theorem modCourse_can (s : State) (n : Nat) (f : Course → Course) : (s.modCourse n f).can = s.can := rfl
@[simp] theorem modCourse_zither (s : State) (n : Nat) (f : Course → Course) : (s.modCourse n f).zither = s.zither := rfl
@[simp] theorem modCourse_freeCount (s : State) (n : Nat) (f : Course → Course) : (s.modCourse n f).freeCount = s.freeCount := rfl
@[simp] theorem modCourse_pending (s : State) (n : Nat) (f : Course → Course) : (s.modCourse n f).pending = s.pending := rfl
@[simp] theorem modCourse_unit (s : State) (n : Nat) (f : Course → Course) (j : Nat) : (s.modCourse n f).unit j = s.unit j := rfl
@[simp] theorem modCourse_cluster (s : State) (n : Nat) (f : Course → Course) (j : Nat) : (s.modCourse n f).cluster j = s.cluster j := rfl
@[simp] theorem modCourse_boostOf (s : State) (n : Nat) (f : Course → Course) (j : Nat) : (s.modCourse n f).boostOf j = s.boostOf j := rfl
@[simp] theorem modCourse_sw (s : State) (n : Nat) (f : Course → Course) (j : Nat) : (s.modCourse n f).sw j = s.sw j := rfl
@[simp] theorem modCourse_vent (s : State) (n : Nat) (f : Course → Course) (j : Nat) : (s.modCourse n f).vent j = s.vent j := rfl
@[simp] theorem modCourse_fi (s : State) (n : Nat) (f : Course → Course) (j : Nat) : (s.modCourse n f).fi j = s.fi j := rfl
@[simp] theorem modCourse_fo (s : State) (n : Nat) (f : Course → Course) (j : Nat) : (s.modCourse n f).fo j = s.fo j := rfl
@[simp] theorem modCourse_ai (s : State) (n : Nat) (f : Course → Course) (j : Nat) : (s.modCourse n f).ai j = s.ai j := rfl
@[simp] theorem modCourse_group (s : State) (n : Nat) (f : Course → Course) (j : Nat) : (s.modCourse n f).group j = s.group j := rfl
@[simp] theorem modCourse_die (s : State) (n : Nat) (f : Course → Course) (j : Nat) : (s.modCourse n f).die j = s.die j := rfl
@[simp] theorem modCourse_loop (s : State) (n : Nat) (f : Course → Course) (j : Nat) : (s.modCourse n f).loop j = s.loop j := rfl
@[simp] theorem modCourse_src (s : State) (n : Nat) (f : Course → Course) (j : Nat) : (s.modCourse n f).src j = s.src j := rfl
@[simp] theorem modCourse_tgt (s : State) (n : Nat) (f : Course → Course) (j : Nat) : (s.modCourse n f).tgt j = s.tgt j := rfl
@[simp] theorem modCourse_canOf (s : State) (n : Nat) (f : Course → Course) (j : Nat) : (s.modCourse n f).canOf j = s.canOf j := rfl
@[simp] theorem modCourse_chan (s : State) (n : Nat) (f : Course → Course) (j : Nat) : (s.modCourse n f).chan j = s.chan j := rfl
@[simp] theorem modCourse_sentOf (s : State) (n : Nat) (f : Course → Course) (j : Nat) : (s.modCourse n f).sentOf j = s.sentOf j := rfl
@[simp] theorem modEvents_devtime (s : State) (f : Events → Events) : (s.modEvents f).devtime = s.devtime := rfl
@[simp] theorem modEvents_cfg (s : State) (f : Events → Events) : (s.modEvents f).cfg = s.cfg := rfl
@[simp] theorem modEvents_power (s : State) (f : Events → Events) : (s.modEvents f).power = s.power := rfl
@[simp] theorem modEvents_start (s : State) (f : Events → Events) : (s.modEvents f).start = s.start := rfl
@[simp] theorem modEvents_storage (s : State) (f : Events → Events) : (s.modEvents f).storage = s.storage := rfl
@[simp] theorem modEvents_host (s : State) (f : Events → Events) : (s.modEvents f).host = s.host := rfl
@[simp] theorem modEvents_ledger (s : State) (f : Events → Events) : (s.modEvents f).ledger = s.ledger := rfl
@[simp] theorem modEvents_units (s : State) (f : Events → Events) : (s.modEvents f).units = s.units := rfl
@[simp] theorem modEvents_clusters (s : State) (f : Events → Events) : (s.modEvents f).clusters = s.clusters := rfl
@[simp] theorem modEvents_boost (s : State) (f : Events → Events) : (s.modEvents f).boost = s.boost := rfl
@[simp] theorem modEvents_switches (s : State) (f : Events → Events) : (s.modEvents f).switches = s.switches := rfl
@[simp] theorem modEvents_vents (s : State) (f : Events → Events) : (s.modEvents f).vents = s.vents := rfl
@[simp] theorem modEvents_ventHeld (s : State) (f : Events → Events) : (s.modEvents f).ventHeld = s.ventHeld := rfl
@[simp] theorem modEvents_inputs (s : State) (f : Events → Events) : (s.modEvents f).inputs = s.inputs := rfl
@[simp] theorem modEvents_outputs (s : State) (f : Events → Events) : (s.modEvents f).outputs = s.outputs := rfl
@[simp] theorem modEvents_analogs (s : State) (f : Events → Events) : (s.modEvents f).analogs = s.analogs := rfl
@[simp] theorem modEvents_groups (s : State) (f : Events → Events) : (s.modEvents f).groups = s.groups := rfl
@[simp] theorem modEvents_dies (s : State) (f : Events → Events) : (s.modEvents f).dies = s.dies := rfl
@[simp] theorem modEvents_loops (s : State) (f : Events → Events) : (s.modEvents f).loops = s.loops := rfl
@[simp] theorem modEvents_loopStream (s : State) (f : Events → Events) : (s.modEvents f).loopStream = s.loopStream := rfl
@[simp] theorem modEvents_loopSentAt (s : State) (f : Events → Events) : (s.modEvents f).loopSentAt = s.loopSentAt := rfl
@[simp] theorem modEvents_rates (s : State) (f : Events → Events) : (s.modEvents f).rates = s.rates := rfl
@[simp] theorem modEvents_trims (s : State) (f : Events → Events) : (s.modEvents f).trims = s.trims := rfl
@[simp] theorem modEvents_rateRaisedAt (s : State) (f : Events → Events) : (s.modEvents f).rateRaisedAt = s.rateRaisedAt := rfl
@[simp] theorem modEvents_pressureBad (s : State) (f : Events → Events) : (s.modEvents f).pressureBad = s.pressureBad := rfl
@[simp] theorem modEvents_pwmRef (s : State) (f : Events → Events) : (s.modEvents f).pwmRef = s.pwmRef := rfl
@[simp] theorem modEvents_nav (s : State) (f : Events → Events) : (s.modEvents f).nav = s.nav := rfl
@[simp] theorem modEvents_odo (s : State) (f : Events → Events) : (s.modEvents f).odo = s.odo := rfl
@[simp] theorem modEvents_cov (s : State) (f : Events → Events) : (s.modEvents f).cov = s.cov := rfl
@[simp] theorem modEvents_faults (s : State) (f : Events → Events) : (s.modEvents f).faults = s.faults := rfl
@[simp] theorem modEvents_recorder (s : State) (f : Events → Events) : (s.modEvents f).recorder = s.recorder := rfl
@[simp] theorem modEvents_limp (s : State) (f : Events → Events) : (s.modEvents f).limp = s.limp := rfl
@[simp] theorem modEvents_can (s : State) (f : Events → Events) : (s.modEvents f).can = s.can := rfl
@[simp] theorem modEvents_zither (s : State) (f : Events → Events) : (s.modEvents f).zither = s.zither := rfl
@[simp] theorem modEvents_freeCount (s : State) (f : Events → Events) : (s.modEvents f).freeCount = s.freeCount := rfl
@[simp] theorem modEvents_pending (s : State) (f : Events → Events) : (s.modEvents f).pending = s.pending := rfl
@[simp] theorem modEvents_unit (s : State) (f : Events → Events) (j : Nat) : (s.modEvents f).unit j = s.unit j := rfl
@[simp] theorem modEvents_cluster (s : State) (f : Events → Events) (j : Nat) : (s.modEvents f).cluster j = s.cluster j := rfl
@[simp] theorem modEvents_boostOf (s : State) (f : Events → Events) (j : Nat) : (s.modEvents f).boostOf j = s.boostOf j := rfl
@[simp] theorem modEvents_sw (s : State) (f : Events → Events) (j : Nat) : (s.modEvents f).sw j = s.sw j := rfl
@[simp] theorem modEvents_vent (s : State) (f : Events → Events) (j : Nat) : (s.modEvents f).vent j = s.vent j := rfl
@[simp] theorem modEvents_fi (s : State) (f : Events → Events) (j : Nat) : (s.modEvents f).fi j = s.fi j := rfl
@[simp] theorem modEvents_fo (s : State) (f : Events → Events) (j : Nat) : (s.modEvents f).fo j = s.fo j := rfl
@[simp] theorem modEvents_ai (s : State) (f : Events → Events) (j : Nat) : (s.modEvents f).ai j = s.ai j := rfl
@[simp] theorem modEvents_group (s : State) (f : Events → Events) (j : Nat) : (s.modEvents f).group j = s.group j := rfl
@[simp] theorem modEvents_die (s : State) (f : Events → Events) (j : Nat) : (s.modEvents f).die j = s.die j := rfl
@[simp] theorem modEvents_loop (s : State) (f : Events → Events) (j : Nat) : (s.modEvents f).loop j = s.loop j := rfl
@[simp] theorem modEvents_course (s : State) (f : Events → Events) (j : Nat) : (s.modEvents f).course j = s.course j := rfl
@[simp] theorem modEvents_canOf (s : State) (f : Events → Events) (j : Nat) : (s.modEvents f).canOf j = s.canOf j := rfl
@[simp] theorem modEvents_chan (s : State) (f : Events → Events) (j : Nat) : (s.modEvents f).chan j = s.chan j := rfl
@[simp] theorem modEvents_sentOf (s : State) (f : Events → Events) (j : Nat) : (s.modEvents f).sentOf j = s.sentOf j := rfl
@[simp] theorem modSrc_devtime (s : State) (n : Nat) (f : EvtSource → EvtSource) : (s.modSrc n f).devtime = s.devtime := rfl
@[simp] theorem modSrc_cfg (s : State) (n : Nat) (f : EvtSource → EvtSource) : (s.modSrc n f).cfg = s.cfg := rfl
@[simp] theorem modSrc_power (s : State) (n : Nat) (f : EvtSource → EvtSource) : (s.modSrc n f).power = s.power := rfl
@[simp] theorem modSrc_start (s : State) (n : Nat) (f : EvtSource → EvtSource) : (s.modSrc n f).start = s.start := rfl
@[simp] theorem modSrc_storage (s : State) (n : Nat) (f : EvtSource → EvtSource) : (s.modSrc n f).storage = s.storage := rfl
@[simp] theorem modSrc_host (s : State) (n : Nat) (f : EvtSource → EvtSource) : (s.modSrc n f).host = s.host := rfl
@[simp] theorem modSrc_ledger (s : State) (n : Nat) (f : EvtSource → EvtSource) : (s.modSrc n f).ledger = s.ledger := rfl
@[simp] theorem modSrc_units (s : State) (n : Nat) (f : EvtSource → EvtSource) : (s.modSrc n f).units = s.units := rfl
@[simp] theorem modSrc_clusters (s : State) (n : Nat) (f : EvtSource → EvtSource) : (s.modSrc n f).clusters = s.clusters := rfl
@[simp] theorem modSrc_boost (s : State) (n : Nat) (f : EvtSource → EvtSource) : (s.modSrc n f).boost = s.boost := rfl
@[simp] theorem modSrc_switches (s : State) (n : Nat) (f : EvtSource → EvtSource) : (s.modSrc n f).switches = s.switches := rfl
@[simp] theorem modSrc_vents (s : State) (n : Nat) (f : EvtSource → EvtSource) : (s.modSrc n f).vents = s.vents := rfl
@[simp] theorem modSrc_ventHeld (s : State) (n : Nat) (f : EvtSource → EvtSource) : (s.modSrc n f).ventHeld = s.ventHeld := rfl
@[simp] theorem modSrc_inputs (s : State) (n : Nat) (f : EvtSource → EvtSource) : (s.modSrc n f).inputs = s.inputs := rfl
@[simp] theorem modSrc_outputs (s : State) (n : Nat) (f : EvtSource → EvtSource) : (s.modSrc n f).outputs = s.outputs := rfl
@[simp] theorem modSrc_analogs (s : State) (n : Nat) (f : EvtSource → EvtSource) : (s.modSrc n f).analogs = s.analogs := rfl
@[simp] theorem modSrc_groups (s : State) (n : Nat) (f : EvtSource → EvtSource) : (s.modSrc n f).groups = s.groups := rfl
@[simp] theorem modSrc_dies (s : State) (n : Nat) (f : EvtSource → EvtSource) : (s.modSrc n f).dies = s.dies := rfl
@[simp] theorem modSrc_loops (s : State) (n : Nat) (f : EvtSource → EvtSource) : (s.modSrc n f).loops = s.loops := rfl
@[simp] theorem modSrc_loopStream (s : State) (n : Nat) (f : EvtSource → EvtSource) : (s.modSrc n f).loopStream = s.loopStream := rfl
@[simp] theorem modSrc_loopSentAt (s : State) (n : Nat) (f : EvtSource → EvtSource) : (s.modSrc n f).loopSentAt = s.loopSentAt := rfl
@[simp] theorem modSrc_rates (s : State) (n : Nat) (f : EvtSource → EvtSource) : (s.modSrc n f).rates = s.rates := rfl
@[simp] theorem modSrc_trims (s : State) (n : Nat) (f : EvtSource → EvtSource) : (s.modSrc n f).trims = s.trims := rfl
@[simp] theorem modSrc_rateRaisedAt (s : State) (n : Nat) (f : EvtSource → EvtSource) : (s.modSrc n f).rateRaisedAt = s.rateRaisedAt := rfl
@[simp] theorem modSrc_pressureBad (s : State) (n : Nat) (f : EvtSource → EvtSource) : (s.modSrc n f).pressureBad = s.pressureBad := rfl
@[simp] theorem modSrc_pwmRef (s : State) (n : Nat) (f : EvtSource → EvtSource) : (s.modSrc n f).pwmRef = s.pwmRef := rfl
@[simp] theorem modSrc_nav (s : State) (n : Nat) (f : EvtSource → EvtSource) : (s.modSrc n f).nav = s.nav := rfl
@[simp] theorem modSrc_odo (s : State) (n : Nat) (f : EvtSource → EvtSource) : (s.modSrc n f).odo = s.odo := rfl
@[simp] theorem modSrc_cov (s : State) (n : Nat) (f : EvtSource → EvtSource) : (s.modSrc n f).cov = s.cov := rfl
@[simp] theorem modSrc_faults (s : State) (n : Nat) (f : EvtSource → EvtSource) : (s.modSrc n f).faults = s.faults := rfl
@[simp] theorem modSrc_recorder (s : State) (n : Nat) (f : EvtSource → EvtSource) : (s.modSrc n f).recorder = s.recorder := rfl
@[simp] theorem modSrc_limp (s : State) (n : Nat) (f : EvtSource → EvtSource) : (s.modSrc n f).limp = s.limp := rfl
@[simp] theorem modSrc_can (s : State) (n : Nat) (f : EvtSource → EvtSource) : (s.modSrc n f).can = s.can := rfl
@[simp] theorem modSrc_zither (s : State) (n : Nat) (f : EvtSource → EvtSource) : (s.modSrc n f).zither = s.zither := rfl
@[simp] theorem modSrc_freeCount (s : State) (n : Nat) (f : EvtSource → EvtSource) : (s.modSrc n f).freeCount = s.freeCount := rfl
@[simp] theorem modSrc_pending (s : State) (n : Nat) (f : EvtSource → EvtSource) : (s.modSrc n f).pending = s.pending := rfl
@[simp] theorem modSrc_unit (s : State) (n : Nat) (f : EvtSource → EvtSource) (j : Nat) : (s.modSrc n f).unit j = s.unit j := rfl
@[simp] theorem modSrc_cluster (s : State) (n : Nat) (f : EvtSource → EvtSource) (j : Nat) : (s.modSrc n f).cluster j = s.cluster j := rfl
@[simp] theorem modSrc_boostOf (s : State) (n : Nat) (f : EvtSource → EvtSource) (j : Nat) : (s.modSrc n f).boostOf j = s.boostOf j := rfl
@[simp] theorem modSrc_sw (s : State) (n : Nat) (f : EvtSource → EvtSource) (j : Nat) : (s.modSrc n f).sw j = s.sw j := rfl
@[simp] theorem modSrc_vent (s : State) (n : Nat) (f : EvtSource → EvtSource) (j : Nat) : (s.modSrc n f).vent j = s.vent j := rfl
@[simp] theorem modSrc_fi (s : State) (n : Nat) (f : EvtSource → EvtSource) (j : Nat) : (s.modSrc n f).fi j = s.fi j := rfl
@[simp] theorem modSrc_fo (s : State) (n : Nat) (f : EvtSource → EvtSource) (j : Nat) : (s.modSrc n f).fo j = s.fo j := rfl
@[simp] theorem modSrc_ai (s : State) (n : Nat) (f : EvtSource → EvtSource) (j : Nat) : (s.modSrc n f).ai j = s.ai j := rfl
@[simp] theorem modSrc_group (s : State) (n : Nat) (f : EvtSource → EvtSource) (j : Nat) : (s.modSrc n f).group j = s.group j := rfl
@[simp] theorem modSrc_die (s : State) (n : Nat) (f : EvtSource → EvtSource) (j : Nat) : (s.modSrc n f).die j = s.die j := rfl
@[simp] theorem modSrc_loop (s : State) (n : Nat) (f : EvtSource → EvtSource) (j : Nat) : (s.modSrc n f).loop j = s.loop j := rfl
@[simp] theorem modSrc_course (s : State) (n : Nat) (f : EvtSource → EvtSource) (j : Nat) : (s.modSrc n f).course j = s.course j := rfl
@[simp] theorem modSrc_tgt (s : State) (n : Nat) (f : EvtSource → EvtSource) (j : Nat) : (s.modSrc n f).tgt j = s.tgt j := rfl
@[simp] theorem modSrc_canOf (s : State) (n : Nat) (f : EvtSource → EvtSource) (j : Nat) : (s.modSrc n f).canOf j = s.canOf j := rfl
@[simp] theorem modSrc_chan (s : State) (n : Nat) (f : EvtSource → EvtSource) (j : Nat) : (s.modSrc n f).chan j = s.chan j := rfl
@[simp] theorem modSrc_sentOf (s : State) (n : Nat) (f : EvtSource → EvtSource) (j : Nat) : (s.modSrc n f).sentOf j = s.sentOf j := rfl
@[simp] theorem modTgt_devtime (s : State) (n : Nat) (f : EvtTarget → EvtTarget) : (s.modTgt n f).devtime = s.devtime := rfl
@[simp] theorem modTgt_cfg (s : State) (n : Nat) (f : EvtTarget → EvtTarget) : (s.modTgt n f).cfg = s.cfg := rfl
@[simp] theorem modTgt_power (s : State) (n : Nat) (f : EvtTarget → EvtTarget) : (s.modTgt n f).power = s.power := rfl
@[simp] theorem modTgt_start (s : State) (n : Nat) (f : EvtTarget → EvtTarget) : (s.modTgt n f).start = s.start := rfl
@[simp] theorem modTgt_storage (s : State) (n : Nat) (f : EvtTarget → EvtTarget) : (s.modTgt n f).storage = s.storage := rfl
@[simp] theorem modTgt_host (s : State) (n : Nat) (f : EvtTarget → EvtTarget) : (s.modTgt n f).host = s.host := rfl
@[simp] theorem modTgt_ledger (s : State) (n : Nat) (f : EvtTarget → EvtTarget) : (s.modTgt n f).ledger = s.ledger := rfl
@[simp] theorem modTgt_units (s : State) (n : Nat) (f : EvtTarget → EvtTarget) : (s.modTgt n f).units = s.units := rfl
@[simp] theorem modTgt_clusters (s : State) (n : Nat) (f : EvtTarget → EvtTarget) : (s.modTgt n f).clusters = s.clusters := rfl
@[simp] theorem modTgt_boost (s : State) (n : Nat) (f : EvtTarget → EvtTarget) : (s.modTgt n f).boost = s.boost := rfl
@[simp] theorem modTgt_switches (s : State) (n : Nat) (f : EvtTarget → EvtTarget) : (s.modTgt n f).switches = s.switches := rfl
@[simp] theorem modTgt_vents (s : State) (n : Nat) (f : EvtTarget → EvtTarget) : (s.modTgt n f).vents = s.vents := rfl
@[simp] theorem modTgt_ventHeld (s : State) (n : Nat) (f : EvtTarget → EvtTarget) : (s.modTgt n f).ventHeld = s.ventHeld := rfl
@[simp] theorem modTgt_inputs (s : State) (n : Nat) (f : EvtTarget → EvtTarget) : (s.modTgt n f).inputs = s.inputs := rfl
@[simp] theorem modTgt_outputs (s : State) (n : Nat) (f : EvtTarget → EvtTarget) : (s.modTgt n f).outputs = s.outputs := rfl
@[simp] theorem modTgt_analogs (s : State) (n : Nat) (f : EvtTarget → EvtTarget) : (s.modTgt n f).analogs = s.analogs := rfl
@[simp] theorem modTgt_groups (s : State) (n : Nat) (f : EvtTarget → EvtTarget) : (s.modTgt n f).groups = s.groups := rfl
@[simp] theorem modTgt_dies (s : State) (n : Nat) (f : EvtTarget → EvtTarget) : (s.modTgt n f).dies = s.dies := rfl
@[simp] theorem modTgt_loops (s : State) (n : Nat) (f : EvtTarget → EvtTarget) : (s.modTgt n f).loops = s.loops := rfl
@[simp] theorem modTgt_loopStream (s : State) (n : Nat) (f : EvtTarget → EvtTarget) : (s.modTgt n f).loopStream = s.loopStream := rfl
@[simp] theorem modTgt_loopSentAt (s : State) (n : Nat) (f : EvtTarget → EvtTarget) : (s.modTgt n f).loopSentAt = s.loopSentAt := rfl
@[simp] theorem modTgt_rates (s : State) (n : Nat) (f : EvtTarget → EvtTarget) : (s.modTgt n f).rates = s.rates := rfl
@[simp] theorem modTgt_trims (s : State) (n : Nat) (f : EvtTarget → EvtTarget) : (s.modTgt n f).trims = s.trims := rfl
@[simp] theorem modTgt_rateRaisedAt (s : State) (n : Nat) (f : EvtTarget → EvtTarget) : (s.modTgt n f).rateRaisedAt = s.rateRaisedAt := rfl
@[simp] theorem modTgt_pressureBad (s : State) (n : Nat) (f : EvtTarget → EvtTarget) : (s.modTgt n f).pressureBad = s.pressureBad := rfl
@[simp] theorem modTgt_pwmRef (s : State) (n : Nat) (f : EvtTarget → EvtTarget) : (s.modTgt n f).pwmRef = s.pwmRef := rfl
@[simp] theorem modTgt_nav (s : State) (n : Nat) (f : EvtTarget → EvtTarget) : (s.modTgt n f).nav = s.nav := rfl
@[simp] theorem modTgt_odo (s : State) (n : Nat) (f : EvtTarget → EvtTarget) : (s.modTgt n f).odo = s.odo := rfl
@[simp] theorem modTgt_cov (s : State) (n : Nat) (f : EvtTarget → EvtTarget) : (s.modTgt n f).cov = s.cov := rfl
@[simp] theorem modTgt_faults (s : State) (n : Nat) (f : EvtTarget → EvtTarget) : (s.modTgt n f).faults = s.faults := rfl
@[simp] theorem modTgt_recorder (s : State) (n : Nat) (f : EvtTarget → EvtTarget) : (s.modTgt n f).recorder = s.recorder := rfl
@[simp] theorem modTgt_limp (s : State) (n : Nat) (f : EvtTarget → EvtTarget) : (s.modTgt n f).limp = s.limp := rfl
@[simp] theorem modTgt_can (s : State) (n : Nat) (f : EvtTarget → EvtTarget) : (s.modTgt n f).can = s.can := rfl
@[simp] theorem modTgt_zither (s : State) (n : Nat) (f : EvtTarget → EvtTarget) : (s.modTgt n f).zither = s.zither := rfl
@[simp] theorem modTgt_freeCount (s : State) (n : Nat) (f : EvtTarget → EvtTarget) : (s.modTgt n f).freeCount = s.freeCount := rfl
@[simp] theorem modTgt_pending (s : State) (n : Nat) (f : EvtTarget → EvtTarget) : (s.modTgt n f).pending = s.pending := rfl
@[simp] theorem modTgt_unit (s : State) (n : Nat) (f : EvtTarget → EvtTarget) (j : Nat) : (s.modTgt n f).unit j = s.unit j := rfl
@[simp] theorem modTgt_cluster (s : State) (n : Nat) (f : EvtTarget → EvtTarget) (j : Nat) : (s.modTgt n f).cluster j = s.cluster j := rfl
@[simp] theorem modTgt_boostOf (s : State) (n : Nat) (f : EvtTarget → EvtTarget) (j : Nat) : (s.modTgt n f).boostOf j = s.boostOf j := rfl
@[simp] theorem modTgt_sw (s : State) (n : Nat) (f : EvtTarget → EvtTarget) (j : Nat) : (s.modTgt n f).sw j = s.sw j := rfl
@[simp] theorem modTgt_vent (s : State) (n : Nat) (f : EvtTarget → EvtTarget) (j : Nat) : (s.modTgt n f).vent j = s.vent j := rfl
@[simp] theorem modTgt_fi (s : State) (n : Nat) (f : EvtTarget → EvtTarget) (j : Nat) : (s.modTgt n f).fi j = s.fi j := rfl
@[simp] theorem modTgt_fo (s : State) (n : Nat) (f : EvtTarget → EvtTarget) (j : Nat) : (s.modTgt n f).fo j = s.fo j := rfl
@[simp] theorem modTgt_ai (s : State) (n : Nat) (f : EvtTarget → EvtTarget) (j : Nat) : (s.modTgt n f).ai j = s.ai j := rfl
@[simp] theorem modTgt_group (s : State) (n : Nat) (f : EvtTarget → EvtTarget) (j : Nat) : (s.modTgt n f).group j = s.group j := rfl
@[simp] theorem modTgt_die (s : State) (n : Nat) (f : EvtTarget → EvtTarget) (j : Nat) : (s.modTgt n f).die j = s.die j := rfl
@[simp] theorem modTgt_loop (s : State) (n : Nat) (f : EvtTarget → EvtTarget) (j : Nat) : (s.modTgt n f).loop j = s.loop j := rfl
@[simp] theorem modTgt_course (s : State) (n : Nat) (f : EvtTarget → EvtTarget) (j : Nat) : (s.modTgt n f).course j = s.course j := rfl
@[simp] theorem modTgt_src (s : State) (n : Nat) (f : EvtTarget → EvtTarget) (j : Nat) : (s.modTgt n f).src j = s.src j := rfl
@[simp] theorem modTgt_canOf (s : State) (n : Nat) (f : EvtTarget → EvtTarget) (j : Nat) : (s.modTgt n f).canOf j = s.canOf j := rfl
@[simp] theorem modTgt_chan (s : State) (n : Nat) (f : EvtTarget → EvtTarget) (j : Nat) : (s.modTgt n f).chan j = s.chan j := rfl
@[simp] theorem modTgt_sentOf (s : State) (n : Nat) (f : EvtTarget → EvtTarget) (j : Nat) : (s.modTgt n f).sentOf j = s.sentOf j := rfl
@[simp] theorem modFaults_devtime (s : State) (f : Faults → Faults) : (s.modFaults f).devtime = s.devtime := rfl
@[simp] theorem modFaults_cfg (s : State) (f : Faults → Faults) : (s.modFaults f).cfg = s.cfg := rfl
@[simp] theorem modFaults_power (s : State) (f : Faults → Faults) : (s.modFaults f).power = s.power := rfl
@[simp] theorem modFaults_start (s : State) (f : Faults → Faults) : (s.modFaults f).start = s.start := rfl
@[simp] theorem modFaults_storage (s : State) (f : Faults → Faults) : (s.modFaults f).storage = s.storage := rfl
@[simp] theorem modFaults_host (s : State) (f : Faults → Faults) : (s.modFaults f).host = s.host := rfl
@[simp] theorem modFaults_ledger (s : State) (f : Faults → Faults) : (s.modFaults f).ledger = s.ledger := rfl
@[simp] theorem modFaults_units (s : State) (f : Faults → Faults) : (s.modFaults f).units = s.units := rfl
@[simp] theorem modFaults_clusters (s : State) (f : Faults → Faults) : (s.modFaults f).clusters = s.clusters := rfl
@[simp] theorem modFaults_boost (s : State) (f : Faults → Faults) : (s.modFaults f).boost = s.boost := rfl
@[simp] theorem modFaults_switches (s : State) (f : Faults → Faults) : (s.modFaults f).switches = s.switches := rfl
@[simp] theorem modFaults_vents (s : State) (f : Faults → Faults) : (s.modFaults f).vents = s.vents := rfl
@[simp] theorem modFaults_ventHeld (s : State) (f : Faults → Faults) : (s.modFaults f).ventHeld = s.ventHeld := rfl
@[simp] theorem modFaults_inputs (s : State) (f : Faults → Faults) : (s.modFaults f).inputs = s.inputs := rfl
@[simp] theorem modFaults_outputs (s : State) (f : Faults → Faults) : (s.modFaults f).outputs = s.outputs := rfl
@[simp] theorem modFaults_analogs (s : State) (f : Faults → Faults) : (s.modFaults f).analogs = s.analogs := rfl
@[simp] theorem modFaults_groups (s : State) (f : Faults → Faults) : (s.modFaults f).groups = s.groups := rfl
@[simp] theorem modFaults_dies (s : State) (f : Faults → Faults) : (s.modFaults f).dies = s.dies := rfl
@[simp] theorem modFaults_loops (s : State) (f : Faults → Faults) : (s.modFaults f).loops = s.loops := rfl
@[simp] theorem modFaults_loopStream (s : State) (f : Faults → Faults) : (s.modFaults f).loopStream = s.loopStream := rfl
@[simp] theorem modFaults_loopSentAt (s : State) (f : Faults → Faults) : (s.modFaults f).loopSentAt = s.loopSentAt := rfl
@[simp] theorem modFaults_rates (s : State) (f : Faults → Faults) : (s.modFaults f).rates = s.rates := rfl
@[simp] theorem modFaults_trims (s : State) (f : Faults → Faults) : (s.modFaults f).trims = s.trims := rfl
@[simp] theorem modFaults_rateRaisedAt (s : State) (f : Faults → Faults) : (s.modFaults f).rateRaisedAt = s.rateRaisedAt := rfl
@[simp] theorem modFaults_pressureBad (s : State) (f : Faults → Faults) : (s.modFaults f).pressureBad = s.pressureBad := rfl
@[simp] theorem modFaults_pwmRef (s : State) (f : Faults → Faults) : (s.modFaults f).pwmRef = s.pwmRef := rfl
@[simp] theorem modFaults_nav (s : State) (f : Faults → Faults) : (s.modFaults f).nav = s.nav := rfl
@[simp] theorem modFaults_odo (s : State) (f : Faults → Faults) : (s.modFaults f).odo = s.odo := rfl
@[simp] theorem modFaults_cov (s : State) (f : Faults → Faults) : (s.modFaults f).cov = s.cov := rfl
@[simp] theorem modFaults_events (s : State) (f : Faults → Faults) : (s.modFaults f).events = s.events := rfl
@[simp] theorem modFaults_recorder (s : State) (f : Faults → Faults) : (s.modFaults f).recorder = s.recorder := rfl
@[simp] theorem modFaults_limp (s : State) (f : Faults → Faults) : (s.modFaults f).limp = s.limp := rfl
@[simp] theorem modFaults_can (s : State) (f : Faults → Faults) : (s.modFaults f).can = s.can := rfl
@[simp] theorem modFaults_zither (s : State) (f : Faults → Faults) : (s.modFaults f).zither = s.zither := rfl
@[simp] theorem modFaults_freeCount (s : State) (f : Faults → Faults) : (s.modFaults f).freeCount = s.freeCount := rfl
@[simp] theorem modFaults_pending (s : State) (f : Faults → Faults) : (s.modFaults f).pending = s.pending := rfl
@[simp] theorem modFaults_unit (s : State) (f : Faults → Faults) (j : Nat) : (s.modFaults f).unit j = s.unit j := rfl
@[simp] theorem modFaults_cluster (s : State) (f : Faults → Faults) (j : Nat) : (s.modFaults f).cluster j = s.cluster j := rfl
@[simp] theorem modFaults_boostOf (s : State) (f : Faults → Faults) (j : Nat) : (s.modFaults f).boostOf j = s.boostOf j := rfl
@[simp] theorem modFaults_sw (s : State) (f : Faults → Faults) (j : Nat) : (s.modFaults f).sw j = s.sw j := rfl
@[simp] theorem modFaults_vent (s : State) (f : Faults → Faults) (j : Nat) : (s.modFaults f).vent j = s.vent j := rfl
@[simp] theorem modFaults_fi (s : State) (f : Faults → Faults) (j : Nat) : (s.modFaults f).fi j = s.fi j := rfl
@[simp] theorem modFaults_fo (s : State) (f : Faults → Faults) (j : Nat) : (s.modFaults f).fo j = s.fo j := rfl
@[simp] theorem modFaults_ai (s : State) (f : Faults → Faults) (j : Nat) : (s.modFaults f).ai j = s.ai j := rfl
@[simp] theorem modFaults_group (s : State) (f : Faults → Faults) (j : Nat) : (s.modFaults f).group j = s.group j := rfl
@[simp] theorem modFaults_die (s : State) (f : Faults → Faults) (j : Nat) : (s.modFaults f).die j = s.die j := rfl
@[simp] theorem modFaults_loop (s : State) (f : Faults → Faults) (j : Nat) : (s.modFaults f).loop j = s.loop j := rfl
@[simp] theorem modFaults_course (s : State) (f : Faults → Faults) (j : Nat) : (s.modFaults f).course j = s.course j := rfl
@[simp] theorem modFaults_src (s : State) (f : Faults → Faults) (j : Nat) : (s.modFaults f).src j = s.src j := rfl
@[simp] theorem modFaults_tgt (s : State) (f : Faults → Faults) (j : Nat) : (s.modFaults f).tgt j = s.tgt j := rfl
@[simp] theorem modFaults_canOf (s : State) (f : Faults → Faults) (j : Nat) : (s.modFaults f).canOf j = s.canOf j := rfl
@[simp] theorem modFaults_chan (s : State) (f : Faults → Faults) (j : Nat) : (s.modFaults f).chan j = s.chan j := rfl
@[simp] theorem modFaults_sentOf (s : State) (f : Faults → Faults) (j : Nat) : (s.modFaults f).sentOf j = s.sentOf j := rfl
@[simp] theorem modRec_devtime (s : State) (f : Recorder → Recorder) : (s.modRec f).devtime = s.devtime := rfl
@[simp] theorem modRec_cfg (s : State) (f : Recorder → Recorder) : (s.modRec f).cfg = s.cfg := rfl
@[simp] theorem modRec_power (s : State) (f : Recorder → Recorder) : (s.modRec f).power = s.power := rfl
@[simp] theorem modRec_start (s : State) (f : Recorder → Recorder) : (s.modRec f).start = s.start := rfl
@[simp] theorem modRec_storage (s : State) (f : Recorder → Recorder) : (s.modRec f).storage = s.storage := rfl
@[simp] theorem modRec_host (s : State) (f : Recorder → Recorder) : (s.modRec f).host = s.host := rfl
@[simp] theorem modRec_ledger (s : State) (f : Recorder → Recorder) : (s.modRec f).ledger = s.ledger := rfl
@[simp] theorem modRec_units (s : State) (f : Recorder → Recorder) : (s.modRec f).units = s.units := rfl
@[simp] theorem modRec_clusters (s : State) (f : Recorder → Recorder) : (s.modRec f).clusters = s.clusters := rfl
@[simp] theorem modRec_boost (s : State) (f : Recorder → Recorder) : (s.modRec f).boost = s.boost := rfl
@[simp] theorem modRec_switches (s : State) (f : Recorder → Recorder) : (s.modRec f).switches = s.switches := rfl
@[simp] theorem modRec_vents (s : State) (f : Recorder → Recorder) : (s.modRec f).vents = s.vents := rfl
@[simp] theorem modRec_ventHeld (s : State) (f : Recorder → Recorder) : (s.modRec f).ventHeld = s.ventHeld := rfl
@[simp] theorem modRec_inputs (s : State) (f : Recorder → Recorder) : (s.modRec f).inputs = s.inputs := rfl
@[simp] theorem modRec_outputs (s : State) (f : Recorder → Recorder) : (s.modRec f).outputs = s.outputs := rfl
@[simp] theorem modRec_analogs (s : State) (f : Recorder → Recorder) : (s.modRec f).analogs = s.analogs := rfl
@[simp] theorem modRec_groups (s : State) (f : Recorder → Recorder) : (s.modRec f).groups = s.groups := rfl
@[simp] theorem modRec_dies (s : State) (f : Recorder → Recorder) : (s.modRec f).dies = s.dies := rfl
@[simp] theorem modRec_loops (s : State) (f : Recorder → Recorder) : (s.modRec f).loops = s.loops := rfl
@[simp] theorem modRec_loopStream (s : State) (f : Recorder → Recorder) : (s.modRec f).loopStream = s.loopStream := rfl
@[simp] theorem modRec_loopSentAt (s : State) (f : Recorder → Recorder) : (s.modRec f).loopSentAt = s.loopSentAt := rfl
@[simp] theorem modRec_rates (s : State) (f : Recorder → Recorder) : (s.modRec f).rates = s.rates := rfl
@[simp] theorem modRec_trims (s : State) (f : Recorder → Recorder) : (s.modRec f).trims = s.trims := rfl
@[simp] theorem modRec_rateRaisedAt (s : State) (f : Recorder → Recorder) : (s.modRec f).rateRaisedAt = s.rateRaisedAt := rfl
@[simp] theorem modRec_pressureBad (s : State) (f : Recorder → Recorder) : (s.modRec f).pressureBad = s.pressureBad := rfl
@[simp] theorem modRec_pwmRef (s : State) (f : Recorder → Recorder) : (s.modRec f).pwmRef = s.pwmRef := rfl
@[simp] theorem modRec_nav (s : State) (f : Recorder → Recorder) : (s.modRec f).nav = s.nav := rfl
@[simp] theorem modRec_odo (s : State) (f : Recorder → Recorder) : (s.modRec f).odo = s.odo := rfl
@[simp] theorem modRec_cov (s : State) (f : Recorder → Recorder) : (s.modRec f).cov = s.cov := rfl
@[simp] theorem modRec_events (s : State) (f : Recorder → Recorder) : (s.modRec f).events = s.events := rfl
@[simp] theorem modRec_faults (s : State) (f : Recorder → Recorder) : (s.modRec f).faults = s.faults := rfl
@[simp] theorem modRec_limp (s : State) (f : Recorder → Recorder) : (s.modRec f).limp = s.limp := rfl
@[simp] theorem modRec_can (s : State) (f : Recorder → Recorder) : (s.modRec f).can = s.can := rfl
@[simp] theorem modRec_zither (s : State) (f : Recorder → Recorder) : (s.modRec f).zither = s.zither := rfl
@[simp] theorem modRec_freeCount (s : State) (f : Recorder → Recorder) : (s.modRec f).freeCount = s.freeCount := rfl
@[simp] theorem modRec_pending (s : State) (f : Recorder → Recorder) : (s.modRec f).pending = s.pending := rfl
@[simp] theorem modRec_unit (s : State) (f : Recorder → Recorder) (j : Nat) : (s.modRec f).unit j = s.unit j := rfl
@[simp] theorem modRec_cluster (s : State) (f : Recorder → Recorder) (j : Nat) : (s.modRec f).cluster j = s.cluster j := rfl
@[simp] theorem modRec_boostOf (s : State) (f : Recorder → Recorder) (j : Nat) : (s.modRec f).boostOf j = s.boostOf j := rfl
@[simp] theorem modRec_sw (s : State) (f : Recorder → Recorder) (j : Nat) : (s.modRec f).sw j = s.sw j := rfl
@[simp] theorem modRec_vent (s : State) (f : Recorder → Recorder) (j : Nat) : (s.modRec f).vent j = s.vent j := rfl
@[simp] theorem modRec_fi (s : State) (f : Recorder → Recorder) (j : Nat) : (s.modRec f).fi j = s.fi j := rfl
@[simp] theorem modRec_fo (s : State) (f : Recorder → Recorder) (j : Nat) : (s.modRec f).fo j = s.fo j := rfl
@[simp] theorem modRec_ai (s : State) (f : Recorder → Recorder) (j : Nat) : (s.modRec f).ai j = s.ai j := rfl
@[simp] theorem modRec_group (s : State) (f : Recorder → Recorder) (j : Nat) : (s.modRec f).group j = s.group j := rfl
@[simp] theorem modRec_die (s : State) (f : Recorder → Recorder) (j : Nat) : (s.modRec f).die j = s.die j := rfl
@[simp] theorem modRec_loop (s : State) (f : Recorder → Recorder) (j : Nat) : (s.modRec f).loop j = s.loop j := rfl
@[simp] theorem modRec_course (s : State) (f : Recorder → Recorder) (j : Nat) : (s.modRec f).course j = s.course j := rfl
@[simp] theorem modRec_src (s : State) (f : Recorder → Recorder) (j : Nat) : (s.modRec f).src j = s.src j := rfl
@[simp] theorem modRec_tgt (s : State) (f : Recorder → Recorder) (j : Nat) : (s.modRec f).tgt j = s.tgt j := rfl
@[simp] theorem modRec_canOf (s : State) (f : Recorder → Recorder) (j : Nat) : (s.modRec f).canOf j = s.canOf j := rfl
@[simp] theorem modRec_chan (s : State) (f : Recorder → Recorder) (j : Nat) : (s.modRec f).chan j = s.chan j := rfl
@[simp] theorem modRec_sentOf (s : State) (f : Recorder → Recorder) (j : Nat) : (s.modRec f).sentOf j = s.sentOf j := rfl
@[simp] theorem modLedger_devtime (s : State) (f : Ledger → Ledger) : (s.modLedger f).devtime = s.devtime := rfl
@[simp] theorem modLedger_cfg (s : State) (f : Ledger → Ledger) : (s.modLedger f).cfg = s.cfg := rfl
@[simp] theorem modLedger_power (s : State) (f : Ledger → Ledger) : (s.modLedger f).power = s.power := rfl
@[simp] theorem modLedger_start (s : State) (f : Ledger → Ledger) : (s.modLedger f).start = s.start := rfl
@[simp] theorem modLedger_storage (s : State) (f : Ledger → Ledger) : (s.modLedger f).storage = s.storage := rfl
@[simp] theorem modLedger_host (s : State) (f : Ledger → Ledger) : (s.modLedger f).host = s.host := rfl
@[simp] theorem modLedger_units (s : State) (f : Ledger → Ledger) : (s.modLedger f).units = s.units := rfl
@[simp] theorem modLedger_clusters (s : State) (f : Ledger → Ledger) : (s.modLedger f).clusters = s.clusters := rfl
@[simp] theorem modLedger_boost (s : State) (f : Ledger → Ledger) : (s.modLedger f).boost = s.boost := rfl
@[simp] theorem modLedger_switches (s : State) (f : Ledger → Ledger) : (s.modLedger f).switches = s.switches := rfl
@[simp] theorem modLedger_vents (s : State) (f : Ledger → Ledger) : (s.modLedger f).vents = s.vents := rfl
@[simp] theorem modLedger_ventHeld (s : State) (f : Ledger → Ledger) : (s.modLedger f).ventHeld = s.ventHeld := rfl
@[simp] theorem modLedger_inputs (s : State) (f : Ledger → Ledger) : (s.modLedger f).inputs = s.inputs := rfl
@[simp] theorem modLedger_outputs (s : State) (f : Ledger → Ledger) : (s.modLedger f).outputs = s.outputs := rfl
@[simp] theorem modLedger_analogs (s : State) (f : Ledger → Ledger) : (s.modLedger f).analogs = s.analogs := rfl
@[simp] theorem modLedger_groups (s : State) (f : Ledger → Ledger) : (s.modLedger f).groups = s.groups := rfl
@[simp] theorem modLedger_dies (s : State) (f : Ledger → Ledger) : (s.modLedger f).dies = s.dies := rfl
@[simp] theorem modLedger_loops (s : State) (f : Ledger → Ledger) : (s.modLedger f).loops = s.loops := rfl
@[simp] theorem modLedger_loopStream (s : State) (f : Ledger → Ledger) : (s.modLedger f).loopStream = s.loopStream := rfl
@[simp] theorem modLedger_loopSentAt (s : State) (f : Ledger → Ledger) : (s.modLedger f).loopSentAt = s.loopSentAt := rfl
@[simp] theorem modLedger_rates (s : State) (f : Ledger → Ledger) : (s.modLedger f).rates = s.rates := rfl
@[simp] theorem modLedger_trims (s : State) (f : Ledger → Ledger) : (s.modLedger f).trims = s.trims := rfl
@[simp] theorem modLedger_rateRaisedAt (s : State) (f : Ledger → Ledger) : (s.modLedger f).rateRaisedAt = s.rateRaisedAt := rfl
@[simp] theorem modLedger_pressureBad (s : State) (f : Ledger → Ledger) : (s.modLedger f).pressureBad = s.pressureBad := rfl
@[simp] theorem modLedger_pwmRef (s : State) (f : Ledger → Ledger) : (s.modLedger f).pwmRef = s.pwmRef := rfl
@[simp] theorem modLedger_nav (s : State) (f : Ledger → Ledger) : (s.modLedger f).nav = s.nav := rfl
@[simp] theorem modLedger_odo (s : State) (f : Ledger → Ledger) : (s.modLedger f).odo = s.odo := rfl
@[simp] theorem modLedger_cov (s : State) (f : Ledger → Ledger) : (s.modLedger f).cov = s.cov := rfl
@[simp] theorem modLedger_events (s : State) (f : Ledger → Ledger) : (s.modLedger f).events = s.events := rfl
@[simp] theorem modLedger_faults (s : State) (f : Ledger → Ledger) : (s.modLedger f).faults = s.faults := rfl
@[simp] theorem modLedger_recorder (s : State) (f : Ledger → Ledger) : (s.modLedger f).recorder = s.recorder := rfl
@[simp] theorem modLedger_limp (s : State) (f : Ledger → Ledger) : (s.modLedger f).limp = s.limp := rfl
@[simp] theorem modLedger_can (s : State) (f : Ledger → Ledger) : (s.modLedger f).can = s.can := rfl
@[simp] theorem modLedger_zither (s : State) (f : Ledger → Ledger) : (s.modLedger f).zither = s.zither := rfl
@[simp] theorem modLedger_freeCount (s : State) (f : Ledger → Ledger) : (s.modLedger f).freeCount = s.freeCount := rfl
@[simp] theorem modLedger_pending (s : State) (f : Ledger → Ledger) : (s.modLedger f).pending = s.pending := rfl
@[simp] theorem modLedger_unit (s : State) (f : Ledger → Ledger) (j : Nat) : (s.modLedger f).unit j = s.unit j := rfl
@[simp] theorem modLedger_cluster (s : State) (f : Ledger → Ledger) (j : Nat) : (s.modLedger f).cluster j = s.cluster j := rfl
@[simp] theorem modLedger_boostOf (s : State) (f : Ledger → Ledger) (j : Nat) : (s.modLedger f).boostOf j = s.boostOf j := rfl
@[simp] theorem modLedger_sw (s : State) (f : Ledger → Ledger) (j : Nat) : (s.modLedger f).sw j = s.sw j := rfl
@[simp] theorem modLedger_vent (s : State) (f : Ledger → Ledger) (j : Nat) : (s.modLedger f).vent j = s.vent j := rfl
@[simp] theorem modLedger_fi (s : State) (f : Ledger → Ledger) (j : Nat) : (s.modLedger f).fi j = s.fi j := rfl
@[simp] theorem modLedger_fo (s : State) (f : Ledger → Ledger) (j : Nat) : (s.modLedger f).fo j = s.fo j := rfl
@[simp] theorem modLedger_ai (s : State) (f : Ledger → Ledger) (j : Nat) : (s.modLedger f).ai j = s.ai j := rfl
@[simp] theorem modLedger_group (s : State) (f : Ledger → Ledger) (j : Nat) : (s.modLedger f).group j = s.group j := rfl
@[simp] theorem modLedger_die (s : State) (f : Ledger → Ledger) (j : Nat) : (s.modLedger f).die j = s.die j := rfl
@[simp] theorem modLedger_loop (s : State) (f : Ledger → Ledger) (j : Nat) : (s.modLedger f).loop j = s.loop j := rfl
@[simp] theorem modLedger_course (s : State) (f : Ledger → Ledger) (j : Nat) : (s.modLedger f).course j = s.course j := rfl
@[simp] theorem modLedger_src (s : State) (f : Ledger → Ledger) (j : Nat) : (s.modLedger f).src j = s.src j := rfl
@[simp] theorem modLedger_tgt (s : State) (f : Ledger → Ledger) (j : Nat) : (s.modLedger f).tgt j = s.tgt j := rfl
@[simp] theorem modLedger_canOf (s : State) (f : Ledger → Ledger) (j : Nat) : (s.modLedger f).canOf j = s.canOf j := rfl
@[simp] theorem modLedger_chan (s : State) (f : Ledger → Ledger) (j : Nat) : (s.modLedger f).chan j = s.chan j := rfl
@[simp] theorem modLedger_sentOf (s : State) (f : Ledger → Ledger) (j : Nat) : (s.modLedger f).sentOf j = s.sentOf j := rfl
@[simp] theorem modNav_devtime (s : State) (f : NavSt → NavSt) : (s.modNav f).devtime = s.devtime := rfl
@[simp] theorem modNav_cfg (s : State) (f : NavSt → NavSt) : (s.modNav f).cfg = s.cfg := rfl
@[simp] theorem modNav_power (s : State) (f : NavSt → NavSt) : (s.modNav f).power = s.power := rfl
@[simp] theorem modNav_start (s : State) (f : NavSt → NavSt) : (s.modNav f).start = s.start := rfl
@[simp] theorem modNav_storage (s : State) (f : NavSt → NavSt) : (s.modNav f).storage = s.storage := rfl
@[simp] theorem modNav_host (s : State) (f : NavSt → NavSt) : (s.modNav f).host = s.host := rfl
@[simp] theorem modNav_ledger (s : State) (f : NavSt → NavSt) : (s.modNav f).ledger = s.ledger := rfl
@[simp] theorem modNav_units (s : State) (f : NavSt → NavSt) : (s.modNav f).units = s.units := rfl
@[simp] theorem modNav_clusters (s : State) (f : NavSt → NavSt) : (s.modNav f).clusters = s.clusters := rfl
@[simp] theorem modNav_boost (s : State) (f : NavSt → NavSt) : (s.modNav f).boost = s.boost := rfl
@[simp] theorem modNav_switches (s : State) (f : NavSt → NavSt) : (s.modNav f).switches = s.switches := rfl
@[simp] theorem modNav_vents (s : State) (f : NavSt → NavSt) : (s.modNav f).vents = s.vents := rfl
@[simp] theorem modNav_ventHeld (s : State) (f : NavSt → NavSt) : (s.modNav f).ventHeld = s.ventHeld := rfl
@[simp] theorem modNav_inputs (s : State) (f : NavSt → NavSt) : (s.modNav f).inputs = s.inputs := rfl
@[simp] theorem modNav_outputs (s : State) (f : NavSt → NavSt) : (s.modNav f).outputs = s.outputs := rfl
@[simp] theorem modNav_analogs (s : State) (f : NavSt → NavSt) : (s.modNav f).analogs = s.analogs := rfl
@[simp] theorem modNav_groups (s : State) (f : NavSt → NavSt) : (s.modNav f).groups = s.groups := rfl
@[simp] theorem modNav_dies (s : State) (f : NavSt → NavSt) : (s.modNav f).dies = s.dies := rfl
@[simp] theorem modNav_loops (s : State) (f : NavSt → NavSt) : (s.modNav f).loops = s.loops := rfl
@[simp] theorem modNav_loopStream (s : State) (f : NavSt → NavSt) : (s.modNav f).loopStream = s.loopStream := rfl
@[simp] theorem modNav_loopSentAt (s : State) (f : NavSt → NavSt) : (s.modNav f).loopSentAt = s.loopSentAt := rfl
@[simp] theorem modNav_rates (s : State) (f : NavSt → NavSt) : (s.modNav f).rates = s.rates := rfl
@[simp] theorem modNav_trims (s : State) (f : NavSt → NavSt) : (s.modNav f).trims = s.trims := rfl
@[simp] theorem modNav_rateRaisedAt (s : State) (f : NavSt → NavSt) : (s.modNav f).rateRaisedAt = s.rateRaisedAt := rfl
@[simp] theorem modNav_pressureBad (s : State) (f : NavSt → NavSt) : (s.modNav f).pressureBad = s.pressureBad := rfl
@[simp] theorem modNav_pwmRef (s : State) (f : NavSt → NavSt) : (s.modNav f).pwmRef = s.pwmRef := rfl
@[simp] theorem modNav_odo (s : State) (f : NavSt → NavSt) : (s.modNav f).odo = s.odo := rfl
@[simp] theorem modNav_cov (s : State) (f : NavSt → NavSt) : (s.modNav f).cov = s.cov := rfl
@[simp] theorem modNav_events (s : State) (f : NavSt → NavSt) : (s.modNav f).events = s.events := rfl
@[simp] theorem modNav_faults (s : State) (f : NavSt → NavSt) : (s.modNav f).faults = s.faults := rfl
@[simp] theorem modNav_recorder (s : State) (f : NavSt → NavSt) : (s.modNav f).recorder = s.recorder := rfl
@[simp] theorem modNav_limp (s : State) (f : NavSt → NavSt) : (s.modNav f).limp = s.limp := rfl
@[simp] theorem modNav_can (s : State) (f : NavSt → NavSt) : (s.modNav f).can = s.can := rfl
@[simp] theorem modNav_zither (s : State) (f : NavSt → NavSt) : (s.modNav f).zither = s.zither := rfl
@[simp] theorem modNav_freeCount (s : State) (f : NavSt → NavSt) : (s.modNav f).freeCount = s.freeCount := rfl
@[simp] theorem modNav_pending (s : State) (f : NavSt → NavSt) : (s.modNav f).pending = s.pending := rfl
@[simp] theorem modNav_unit (s : State) (f : NavSt → NavSt) (j : Nat) : (s.modNav f).unit j = s.unit j := rfl
@[simp] theorem modNav_cluster (s : State) (f : NavSt → NavSt) (j : Nat) : (s.modNav f).cluster j = s.cluster j := rfl
@[simp] theorem modNav_boostOf (s : State) (f : NavSt → NavSt) (j : Nat) : (s.modNav f).boostOf j = s.boostOf j := rfl
@[simp] theorem modNav_sw (s : State) (f : NavSt → NavSt) (j : Nat) : (s.modNav f).sw j = s.sw j := rfl
@[simp] theorem modNav_vent (s : State) (f : NavSt → NavSt) (j : Nat) : (s.modNav f).vent j = s.vent j := rfl
@[simp] theorem modNav_fi (s : State) (f : NavSt → NavSt) (j : Nat) : (s.modNav f).fi j = s.fi j := rfl
@[simp] theorem modNav_fo (s : State) (f : NavSt → NavSt) (j : Nat) : (s.modNav f).fo j = s.fo j := rfl
@[simp] theorem modNav_ai (s : State) (f : NavSt → NavSt) (j : Nat) : (s.modNav f).ai j = s.ai j := rfl
@[simp] theorem modNav_group (s : State) (f : NavSt → NavSt) (j : Nat) : (s.modNav f).group j = s.group j := rfl
@[simp] theorem modNav_die (s : State) (f : NavSt → NavSt) (j : Nat) : (s.modNav f).die j = s.die j := rfl
@[simp] theorem modNav_loop (s : State) (f : NavSt → NavSt) (j : Nat) : (s.modNav f).loop j = s.loop j := rfl
@[simp] theorem modNav_course (s : State) (f : NavSt → NavSt) (j : Nat) : (s.modNav f).course j = s.course j := rfl
@[simp] theorem modNav_src (s : State) (f : NavSt → NavSt) (j : Nat) : (s.modNav f).src j = s.src j := rfl
@[simp] theorem modNav_tgt (s : State) (f : NavSt → NavSt) (j : Nat) : (s.modNav f).tgt j = s.tgt j := rfl
@[simp] theorem modNav_canOf (s : State) (f : NavSt → NavSt) (j : Nat) : (s.modNav f).canOf j = s.canOf j := rfl
@[simp] theorem modNav_chan (s : State) (f : NavSt → NavSt) (j : Nat) : (s.modNav f).chan j = s.chan j := rfl
@[simp] theorem modNav_sentOf (s : State) (f : NavSt → NavSt) (j : Nat) : (s.modNav f).sentOf j = s.sentOf j := rfl
@[simp] theorem modOdo_devtime (s : State) (f : OdoSt → OdoSt) : (s.modOdo f).devtime = s.devtime := rfl
@[simp] theorem modOdo_cfg (s : State) (f : OdoSt → OdoSt) : (s.modOdo f).cfg = s.cfg := rfl
@[simp] theorem modOdo_power (s : State) (f : OdoSt → OdoSt) : (s.modOdo f).power = s.power := rfl
@[simp] theorem modOdo_start (s : State) (f : OdoSt → OdoSt) : (s.modOdo f).start = s.start := rfl
@[simp] theorem modOdo_storage (s : State) (f : OdoSt → OdoSt) : (s.modOdo f).storage = s.storage := rfl
@[simp] theorem modOdo_host (s : State) (f : OdoSt → OdoSt) : (s.modOdo f).host = s.host := rfl
@[simp] theorem modOdo_ledger (s : State) (f : OdoSt → OdoSt) : (s.modOdo f).ledger = s.ledger := rfl
@[simp] theorem modOdo_units (s : State) (f : OdoSt → OdoSt) : (s.modOdo f).units = s.units := rfl
@[simp] theorem modOdo_clusters (s : State) (f : OdoSt → OdoSt) : (s.modOdo f).clusters = s.clusters := rfl
@[simp] theorem modOdo_boost (s : State) (f : OdoSt → OdoSt) : (s.modOdo f).boost = s.boost := rfl
@[simp] theorem modOdo_switches (s : State) (f : OdoSt → OdoSt) : (s.modOdo f).switches = s.switches := rfl
@[simp] theorem modOdo_vents (s : State) (f : OdoSt → OdoSt) : (s.modOdo f).vents = s.vents := rfl
@[simp] theorem modOdo_ventHeld (s : State) (f : OdoSt → OdoSt) : (s.modOdo f).ventHeld = s.ventHeld := rfl
@[simp] theorem modOdo_inputs (s : State) (f : OdoSt → OdoSt) : (s.modOdo f).inputs = s.inputs := rfl
@[simp] theorem modOdo_outputs (s : State) (f : OdoSt → OdoSt) : (s.modOdo f).outputs = s.outputs := rfl
@[simp] theorem modOdo_analogs (s : State) (f : OdoSt → OdoSt) : (s.modOdo f).analogs = s.analogs := rfl
@[simp] theorem modOdo_groups (s : State) (f : OdoSt → OdoSt) : (s.modOdo f).groups = s.groups := rfl
@[simp] theorem modOdo_dies (s : State) (f : OdoSt → OdoSt) : (s.modOdo f).dies = s.dies := rfl
@[simp] theorem modOdo_loops (s : State) (f : OdoSt → OdoSt) : (s.modOdo f).loops = s.loops := rfl
@[simp] theorem modOdo_loopStream (s : State) (f : OdoSt → OdoSt) : (s.modOdo f).loopStream = s.loopStream := rfl
@[simp] theorem modOdo_loopSentAt (s : State) (f : OdoSt → OdoSt) : (s.modOdo f).loopSentAt = s.loopSentAt := rfl
@[simp] theorem modOdo_rates (s : State) (f : OdoSt → OdoSt) : (s.modOdo f).rates = s.rates := rfl
@[simp] theorem modOdo_trims (s : State) (f : OdoSt → OdoSt) : (s.modOdo f).trims = s.trims := rfl
@[simp] theorem modOdo_rateRaisedAt (s : State) (f : OdoSt → OdoSt) : (s.modOdo f).rateRaisedAt = s.rateRaisedAt := rfl
@[simp] theorem modOdo_pressureBad (s : State) (f : OdoSt → OdoSt) : (s.modOdo f).pressureBad = s.pressureBad := rfl
@[simp] theorem modOdo_pwmRef (s : State) (f : OdoSt → OdoSt) : (s.modOdo f).pwmRef = s.pwmRef := rfl
@[simp] theorem modOdo_nav (s : State) (f : OdoSt → OdoSt) : (s.modOdo f).nav = s.nav := rfl
@[simp] theorem modOdo_cov (s : State) (f : OdoSt → OdoSt) : (s.modOdo f).cov = s.cov := rfl
@[simp] theorem modOdo_events (s : State) (f : OdoSt → OdoSt) : (s.modOdo f).events = s.events := rfl
@[simp] theorem modOdo_faults (s : State) (f : OdoSt → OdoSt) : (s.modOdo f).faults = s.faults := rfl
@[simp] theorem modOdo_recorder (s : State) (f : OdoSt → OdoSt) : (s.modOdo f).recorder = s.recorder := rfl
@[simp] theorem modOdo_limp (s : State) (f : OdoSt → OdoSt) : (s.modOdo f).limp = s.limp := rfl
@[simp] theorem modOdo_can (s : State) (f : OdoSt → OdoSt) : (s.modOdo f).can = s.can := rfl
@[simp] theorem modOdo_zither (s : State) (f : OdoSt → OdoSt) : (s.modOdo f).zither = s.zither := rfl
@[simp] theorem modOdo_freeCount (s : State) (f : OdoSt → OdoSt) : (s.modOdo f).freeCount = s.freeCount := rfl
@[simp] theorem modOdo_pending (s : State) (f : OdoSt → OdoSt) : (s.modOdo f).pending = s.pending := rfl
@[simp] theorem modOdo_unit (s : State) (f : OdoSt → OdoSt) (j : Nat) : (s.modOdo f).unit j = s.unit j := rfl
@[simp] theorem modOdo_cluster (s : State) (f : OdoSt → OdoSt) (j : Nat) : (s.modOdo f).cluster j = s.cluster j := rfl
@[simp] theorem modOdo_boostOf (s : State) (f : OdoSt → OdoSt) (j : Nat) : (s.modOdo f).boostOf j = s.boostOf j := rfl
@[simp] theorem modOdo_sw (s : State) (f : OdoSt → OdoSt) (j : Nat) : (s.modOdo f).sw j = s.sw j := rfl
@[simp] theorem modOdo_vent (s : State) (f : OdoSt → OdoSt) (j : Nat) : (s.modOdo f).vent j = s.vent j := rfl
@[simp] theorem modOdo_fi (s : State) (f : OdoSt → OdoSt) (j : Nat) : (s.modOdo f).fi j = s.fi j := rfl
@[simp] theorem modOdo_fo (s : State) (f : OdoSt → OdoSt) (j : Nat) : (s.modOdo f).fo j = s.fo j := rfl
@[simp] theorem modOdo_ai (s : State) (f : OdoSt → OdoSt) (j : Nat) : (s.modOdo f).ai j = s.ai j := rfl
@[simp] theorem modOdo_group (s : State) (f : OdoSt → OdoSt) (j : Nat) : (s.modOdo f).group j = s.group j := rfl
@[simp] theorem modOdo_die (s : State) (f : OdoSt → OdoSt) (j : Nat) : (s.modOdo f).die j = s.die j := rfl
@[simp] theorem modOdo_loop (s : State) (f : OdoSt → OdoSt) (j : Nat) : (s.modOdo f).loop j = s.loop j := rfl
@[simp] theorem modOdo_course (s : State) (f : OdoSt → OdoSt) (j : Nat) : (s.modOdo f).course j = s.course j := rfl
@[simp] theorem modOdo_src (s : State) (f : OdoSt → OdoSt) (j : Nat) : (s.modOdo f).src j = s.src j := rfl
@[simp] theorem modOdo_tgt (s : State) (f : OdoSt → OdoSt) (j : Nat) : (s.modOdo f).tgt j = s.tgt j := rfl
@[simp] theorem modOdo_canOf (s : State) (f : OdoSt → OdoSt) (j : Nat) : (s.modOdo f).canOf j = s.canOf j := rfl
@[simp] theorem modCov_devtime (s : State) (f : CovSt → CovSt) : (s.modCov f).devtime = s.devtime := rfl
@[simp] theorem modCov_cfg (s : State) (f : CovSt → CovSt) : (s.modCov f).cfg = s.cfg := rfl
@[simp] theorem modCov_power (s : State) (f : CovSt → CovSt) : (s.modCov f).power = s.power := rfl
@[simp] theorem modCov_start (s : State) (f : CovSt → CovSt) : (s.modCov f).start = s.start := rfl
@[simp] theorem modCov_storage (s : State) (f : CovSt → CovSt) : (s.modCov f).storage = s.storage := rfl
@[simp] theorem modCov_host (s : State) (f : CovSt → CovSt) : (s.modCov f).host = s.host := rfl
@[simp] theorem modCov_ledger (s : State) (f : CovSt → CovSt) : (s.modCov f).ledger = s.ledger := rfl
@[simp] theorem modCov_units (s : State) (f : CovSt → CovSt) : (s.modCov f).units = s.units := rfl
@[simp] theorem modCov_clusters (s : State) (f : CovSt → CovSt) : (s.modCov f).clusters = s.clusters := rfl
@[simp] theorem modCov_boost (s : State) (f : CovSt → CovSt) : (s.modCov f).boost = s.boost := rfl
@[simp] theorem modCov_switches (s : State) (f : CovSt → CovSt) : (s.modCov f).switches = s.switches := rfl
@[simp] theorem modCov_vents (s : State) (f : CovSt → CovSt) : (s.modCov f).vents = s.vents := rfl
@[simp] theorem modCov_ventHeld (s : State) (f : CovSt → CovSt) : (s.modCov f).ventHeld = s.ventHeld := rfl
@[simp] theorem modCov_inputs (s : State) (f : CovSt → CovSt) : (s.modCov f).inputs = s.inputs := rfl
@[simp] theorem modCov_outputs (s : State) (f : CovSt → CovSt) : (s.modCov f).outputs = s.outputs := rfl
@[simp] theorem modCov_analogs (s : State) (f : CovSt → CovSt) : (s.modCov f).analogs = s.analogs := rfl
@[simp] theorem modCov_groups (s : State) (f : CovSt → CovSt) : (s.modCov f).groups = s.groups := rfl
@[simp] theorem modCov_dies (s : State) (f : CovSt → CovSt) : (s.modCov f).dies = s.dies := rfl
@[simp] theorem modCov_loops (s : State) (f : CovSt → CovSt) : (s.modCov f).loops = s.loops := rfl
@[simp] theorem modCov_loopStream (s : State) (f : CovSt → CovSt) : (s.modCov f).loopStream = s.loopStream := rfl
@[simp] theorem modCov_loopSentAt (s : State) (f : CovSt → CovSt) : (s.modCov f).loopSentAt = s.loopSentAt := rfl
@[simp] theorem modCov_rates (s : State) (f : CovSt → CovSt) : (s.modCov f).rates = s.rates := rfl
@[simp] theorem modCov_trims (s : State) (f : CovSt → CovSt) : (s.modCov f).trims = s.trims := rfl
@[simp] theorem modCov_rateRaisedAt (s : State) (f : CovSt → CovSt) : (s.modCov f).rateRaisedAt = s.rateRaisedAt := rfl
@[simp] theorem modCov_pressureBad (s : State) (f : CovSt → CovSt) : (s.modCov f).pressureBad = s.pressureBad := rfl
@[simp] theorem modCov_pwmRef (s : State) (f : CovSt → CovSt) : (s.modCov f).pwmRef = s.pwmRef := rfl
@[simp] theorem modCov_nav (s : State) (f : CovSt → CovSt) : (s.modCov f).nav = s.nav := rfl
@[simp] theorem modCov_odo (s : State) (f : CovSt → CovSt) : (s.modCov f).odo = s.odo := rfl
@[simp] theorem modCov_events (s : State) (f : CovSt → CovSt) : (s.modCov f).events = s.events := rfl
@[simp] theorem modCov_faults (s : State) (f : CovSt → CovSt) : (s.modCov f).faults = s.faults := rfl
@[simp] theorem modCov_recorder (s : State) (f : CovSt → CovSt) : (s.modCov f).recorder = s.recorder := rfl
@[simp] theorem modCov_limp (s : State) (f : CovSt → CovSt) : (s.modCov f).limp = s.limp := rfl
@[simp] theorem modCov_can (s : State) (f : CovSt → CovSt) : (s.modCov f).can = s.can := rfl
@[simp] theorem modCov_zither (s : State) (f : CovSt → CovSt) : (s.modCov f).zither = s.zither := rfl
@[simp] theorem modCov_freeCount (s : State) (f : CovSt → CovSt) : (s.modCov f).freeCount = s.freeCount := rfl
@[simp] theorem modCov_pending (s : State) (f : CovSt → CovSt) : (s.modCov f).pending = s.pending := rfl
@[simp] theorem modCov_unit (s : State) (f : CovSt → CovSt) (j : Nat) : (s.modCov f).unit j = s.unit j := rfl
@[simp] theorem modCov_cluster (s : State) (f : CovSt → CovSt) (j : Nat) : (s.modCov f).cluster j = s.cluster j := rfl
@[simp] theorem modCov_boostOf (s : State) (f : CovSt → CovSt) (j : Nat) : (s.modCov f).boostOf j = s.boostOf j := rfl
@[simp] theorem modCov_sw (s : State) (f : CovSt → CovSt) (j : Nat) : (s.modCov f).sw j = s.sw j := rfl
@[simp] theorem modCov_vent (s : State) (f : CovSt → CovSt) (j : Nat) : (s.modCov f).vent j = s.vent j := rfl
@[simp] theorem modCov_fi (s : State) (f : CovSt → CovSt) (j : Nat) : (s.modCov f).fi j = s.fi j := rfl
@[simp] theorem modCov_fo (s : State) (f : CovSt → CovSt) (j : Nat) : (s.modCov f).fo j = s.fo j := rfl
@[simp] theorem modCov_ai (s : State) (f : CovSt → CovSt) (j : Nat) : (s.modCov f).ai j = s.ai j := rfl
@[simp] theorem modCov_group (s : State) (f : CovSt → CovSt) (j : Nat) : (s.modCov f).group j = s.group j := rfl
@[simp] theorem modCov_die (s : State) (f : CovSt → CovSt) (j : Nat) : (s.modCov f).die j = s.die j := rfl
@[simp] theorem modCov_loop (s : State) (f : CovSt → CovSt) (j : Nat) : (s.modCov f).loop j = s.loop j := rfl
@[simp] theorem modCov_course (s : State) (f : CovSt → CovSt) (j : Nat) : (s.modCov f).course j = s.course j := rfl
@[simp] theorem modCov_src (s : State) (f : CovSt → CovSt) (j : Nat) : (s.modCov f).src j = s.src j := rfl
@[simp] theorem modCov_tgt (s : State) (f : CovSt → CovSt) (j : Nat) : (s.modCov f).tgt j = s.tgt j := rfl
@[simp] theorem modCov_canOf (s : State) (f : CovSt → CovSt) (j : Nat) : (s.modCov f).canOf j = s.canOf j := rfl
@[simp] theorem modCov_chan (s : State) (f : CovSt → CovSt) (j : Nat) : (s.modCov f).chan j = s.chan j := rfl
@[simp] theorem modCov_sentOf (s : State) (f : CovSt → CovSt) (j : Nat) : (s.modCov f).sentOf j = s.sentOf j := rfl
@[simp] theorem modPower_devtime (s : State) (f : PowerSt → PowerSt) : (s.modPower f).devtime = s.devtime := rfl
@[simp] theorem modPower_cfg (s : State) (f : PowerSt → PowerSt) : (s.modPower f).cfg = s.cfg := rfl
@[simp] theorem modPower_start (s : State) (f : PowerSt → PowerSt) : (s.modPower f).start = s.start := rfl
@[simp] theorem modPower_storage (s : State) (f : PowerSt → PowerSt) : (s.modPower f).storage = s.storage := rfl
@[simp] theorem modPower_host (s : State) (f : PowerSt → PowerSt) : (s.modPower f).host = s.host := rfl
@[simp] theorem modPower_ledger (s : State) (f : PowerSt → PowerSt) : (s.modPower f).ledger = s.ledger := rfl
@[simp] theorem modPower_units (s : State) (f : PowerSt → PowerSt) : (s.modPower f).units = s.units := rfl
@[simp] theorem modPower_clusters (s : State) (f : PowerSt → PowerSt) : (s.modPower f).clusters = s.clusters := rfl
@[simp] theorem modPower_boost (s : State) (f : PowerSt → PowerSt) : (s.modPower f).boost = s.boost := rfl
@[simp] theorem modPower_switches (s : State) (f : PowerSt → PowerSt) : (s.modPower f).switches = s.switches := rfl
@[simp] theorem modPower_vents (s : State) (f : PowerSt → PowerSt) : (s.modPower f).vents = s.vents := rfl
@[simp] theorem modPower_ventHeld (s : State) (f : PowerSt → PowerSt) : (s.modPower f).ventHeld = s.ventHeld := rfl
@[simp] theorem modPower_inputs (s : State) (f : PowerSt → PowerSt) : (s.modPower f).inputs = s.inputs := rfl
@[simp] theorem modPower_outputs (s : State) (f : PowerSt → PowerSt) : (s.modPower f).outputs = s.outputs := rfl
@[simp] theorem modPower_analogs (s : State) (f : PowerSt → PowerSt) : (s.modPower f).analogs = s.analogs := rfl
@[simp] theorem modPower_groups (s : State) (f : PowerSt → PowerSt) : (s.modPower f).groups = s.groups := rfl
@[simp] theorem modPower_dies (s : State) (f : PowerSt → PowerSt) : (s.modPower f).dies = s.dies := rfl
@[simp] theorem modPower_loops (s : State) (f : PowerSt → PowerSt) : (s.modPower f).loops = s.loops := rfl
@[simp] theorem modPower_loopStream (s : State) (f : PowerSt → PowerSt) : (s.modPower f).loopStream = s.loopStream := rfl
@[simp] theorem modPower_loopSentAt (s : State) (f : PowerSt → PowerSt) : (s.modPower f).loopSentAt = s.loopSentAt := rfl
@[simp] theorem modPower_rates (s : State) (f : PowerSt → PowerSt) : (s.modPower f).rates = s.rates := rfl
@[simp] theorem modPower_trims (s : State) (f : PowerSt → PowerSt) : (s.modPower f).trims = s.trims := rfl
@[simp] theorem modPower_rateRaisedAt (s : State) (f : PowerSt → PowerSt) : (s.modPower f).rateRaisedAt = s.rateRaisedAt := rfl
@[simp] theorem modPower_pressureBad (s : State) (f : PowerSt → PowerSt) : (s.modPower f).pressureBad = s.pressureBad := rfl
@[simp] theorem modPower_pwmRef (s : State) (f : PowerSt → PowerSt) : (s.modPower f).pwmRef = s.pwmRef := rfl
@[simp] theorem modPower_nav (s : State) (f : PowerSt → PowerSt) : (s.modPower f).nav = s.nav := rfl
@[simp] theorem modPower_odo (s : State) (f : PowerSt → PowerSt) : (s.modPower f).odo = s.odo := rfl
@[simp] theorem modPower_cov (s : State) (f : PowerSt → PowerSt) : (s.modPower f).cov = s.cov := rfl
@[simp] theorem modPower_events (s : State) (f : PowerSt → PowerSt) : (s.modPower f).events = s.events := rfl
@[simp] theorem modPower_faults (s : State) (f : PowerSt → PowerSt) : (s.modPower f).faults = s.faults := rfl
@[simp] theorem modPower_recorder (s : State) (f : PowerSt → PowerSt) : (s.modPower f).recorder = s.recorder := rfl
@[simp] theorem modPower_limp (s : State) (f : PowerSt → PowerSt) : (s.modPower f).limp = s.limp := rfl
@[simp] theorem modPower_can (s : State) (f : PowerSt → PowerSt) : (s.modPower f).can = s.can := rfl
@[simp] theorem modPower_zither (s : State) (f : PowerSt → PowerSt) : (s.modPower f).zither = s.zither := rfl
@[simp] theorem modPower_freeCount (s : State) (f : PowerSt → PowerSt) : (s.modPower f).freeCount = s.freeCount := rfl
@[simp] theorem modPower_pending (s : State) (f : PowerSt → PowerSt) : (s.modPower f).pending = s.pending := rfl
@[simp] theorem modPower_unit (s : State) (f : PowerSt → PowerSt) (j : Nat) : (s.modPower f).unit j = s.unit j := rfl
@[simp] theorem modPower_cluster (s : State) (f : PowerSt → PowerSt) (j : Nat) : (s.modPower f).cluster j = s.cluster j := rfl
@[simp] theorem modPower_boostOf (s : State) (f : PowerSt → PowerSt) (j : Nat) : (s.modPower f).boostOf j = s.boostOf j := rfl
@[simp] theorem modPower_sw (s : State) (f : PowerSt → PowerSt) (j : Nat) : (s.modPower f).sw j = s.sw j := rfl
@[simp] theorem modPower_vent (s : State) (f : PowerSt → PowerSt) (j : Nat) : (s.modPower f).vent j = s.vent j := rfl
@[simp] theorem modPower_fi (s : State) (f : PowerSt → PowerSt) (j : Nat) : (s.modPower f).fi j = s.fi j := rfl
@[simp] theorem modPower_fo (s : State) (f : PowerSt → PowerSt) (j : Nat) : (s.modPower f).fo j = s.fo j := rfl
@[simp] theorem modPower_ai (s : State) (f : PowerSt → PowerSt) (j : Nat) : (s.modPower f).ai j = s.ai j := rfl
@[simp] theorem modPower_group (s : State) (f : PowerSt → PowerSt) (j : Nat) : (s.modPower f).group j = s.group j := rfl
@[simp] theorem modPower_die (s : State) (f : PowerSt → PowerSt) (j : Nat) : (s.modPower f).die j = s.die j := rfl
@[simp] theorem modPower_loop (s : State) (f : PowerSt → PowerSt) (j : Nat) : (s.modPower f).loop j = s.loop j := rfl
@[simp] theorem modPower_course (s : State) (f : PowerSt → PowerSt) (j : Nat) : (s.modPower f).course j = s.course j := rfl
@[simp] theorem modPower_src (s : State) (f : PowerSt → PowerSt) (j : Nat) : (s.modPower f).src j = s.src j := rfl
@[simp] theorem modPower_tgt (s : State) (f : PowerSt → PowerSt) (j : Nat) : (s.modPower f).tgt j = s.tgt j := rfl
@[simp] theorem modPower_canOf (s : State) (f : PowerSt → PowerSt) (j : Nat) : (s.modPower f).canOf j = s.canOf j := rfl
@[simp] theorem modPower_chan (s : State) (f : PowerSt → PowerSt) (j : Nat) : (s.modPower f).chan j = s.chan j := rfl
@[simp] theorem modPower_sentOf (s : State) (f : PowerSt → PowerSt) (j : Nat) : (s.modPower f).sentOf j = s.sentOf j := rfl
@[simp] theorem modStart_devtime (s : State) (f : StartSt → StartSt) : (s.modStart f).devtime = s.devtime := rfl
@[simp] theorem modStart_cfg (s : State) (f : StartSt → StartSt) : (s.modStart f).cfg = s.cfg := rfl
@[simp] theorem modStart_power (s : State) (f : StartSt → StartSt) : (s.modStart f).power = s.power := rfl
@[simp] theorem modStart_storage (s : State) (f : StartSt → StartSt) : (s.modStart f).storage = s.storage := rfl
@[simp] theorem modStart_host (s : State) (f : StartSt → StartSt) : (s.modStart f).host = s.host := rfl
@[simp] theorem modStart_ledger (s : State) (f : StartSt → StartSt) : (s.modStart f).ledger = s.ledger := rfl
@[simp] theorem modStart_units (s : State) (f : StartSt → StartSt) : (s.modStart f).units = s.units := rfl
@[simp] theorem modStart_clusters (s : State) (f : StartSt → StartSt) : (s.modStart f).clusters = s.clusters := rfl
@[simp] theorem modStart_boost (s : State) (f : StartSt → StartSt) : (s.modStart f).boost = s.boost := rfl
@[simp] theorem modStart_switches (s : State) (f : StartSt → StartSt) : (s.modStart f).switches = s.switches := rfl
@[simp] theorem modStart_vents (s : State) (f : StartSt → StartSt) : (s.modStart f).vents = s.vents := rfl
@[simp] theorem modStart_ventHeld (s : State) (f : StartSt → StartSt) : (s.modStart f).ventHeld = s.ventHeld := rfl
@[simp] theorem modStart_inputs (s : State) (f : StartSt → StartSt) : (s.modStart f).inputs = s.inputs := rfl
@[simp] theorem modStart_outputs (s : State) (f : StartSt → StartSt) : (s.modStart f).outputs = s.outputs := rfl
@[simp] theorem modStart_analogs (s : State) (f : StartSt → StartSt) : (s.modStart f).analogs = s.analogs := rfl
@[simp] theorem modStart_groups (s : State) (f : StartSt → StartSt) : (s.modStart f).groups = s.groups := rfl
@[simp] theorem modStart_dies (s : State) (f : StartSt → StartSt) : (s.modStart f).dies = s.dies := rfl
@[simp] theorem modStart_loops (s : State) (f : StartSt → StartSt) : (s.modStart f).loops = s.loops := rfl
@[simp] theorem modStart_loopStream (s : State) (f : StartSt → StartSt) : (s.modStart f).loopStream = s.loopStream := rfl
@[simp] theorem modStart_loopSentAt (s : State) (f : StartSt → StartSt) : (s.modStart f).loopSentAt = s.loopSentAt := rfl
@[simp] theorem modStart_rates (s : State) (f : StartSt → StartSt) : (s.modStart f).rates = s.rates := rfl
@[simp] theorem modStart_trims (s : State) (f : StartSt → StartSt) : (s.modStart f).trims = s.trims := rfl
@[simp] theorem modStart_rateRaisedAt (s : State) (f : StartSt → StartSt) : (s.modStart f).rateRaisedAt = s.rateRaisedAt := rfl
@[simp] theorem modStart_pressureBad (s : State) (f : StartSt → StartSt) : (s.modStart f).pressureBad = s.pressureBad := rfl
@[simp] theorem modStart_pwmRef (s : State) (f : StartSt → StartSt) : (s.modStart f).pwmRef = s.pwmRef := rfl
@[simp] theorem modStart_nav (s : State) (f : StartSt → StartSt) : (s.modStart f).nav = s.nav := rfl
@[simp] theorem modStart_odo (s : State) (f : StartSt → StartSt) : (s.modStart f).odo = s.odo := rfl
@[simp] theorem modStart_cov (s : State) (f : StartSt → StartSt) : (s.modStart f).cov = s.cov := rfl
@[simp] theorem modStart_events (s : State) (f : StartSt → StartSt) : (s.modStart f).events = s.events := rfl
@[simp] theorem modStart_faults (s : State) (f : StartSt → StartSt) : (s.modStart f).faults = s.faults := rfl
@[simp] theorem modStart_recorder (s : State) (f : StartSt → StartSt) : (s.modStart f).recorder = s.recorder := rfl
@[simp] theorem modStart_limp (s : State) (f : StartSt → StartSt) : (s.modStart f).limp = s.limp := rfl
@[simp] theorem modStart_can (s : State) (f : StartSt → StartSt) : (s.modStart f).can = s.can := rfl
@[simp] theorem modStart_zither (s : State) (f : StartSt → StartSt) : (s.modStart f).zither = s.zither := rfl
@[simp] theorem modStart_freeCount (s : State) (f : StartSt → StartSt) : (s.modStart f).freeCount = s.freeCount := rfl
@[simp] theorem modStart_pending (s : State) (f : StartSt → StartSt) : (s.modStart f).pending = s.pending := rfl
@[simp] theorem modStart_unit (s : State) (f : StartSt → StartSt) (j : Nat) : (s.modStart f).unit j = s.unit j := rfl
@[simp] theorem modStart_cluster (s : State) (f : StartSt → StartSt) (j : Nat) : (s.modStart f).cluster j = s.cluster j := rfl
@[simp] theorem modStart_boostOf (s : State) (f : StartSt → StartSt) (j : Nat) : (s.modStart f).boostOf j = s.boostOf j := rfl
@[simp] theorem modStart_sw (s : State) (f : StartSt → StartSt) (j : Nat) : (s.modStart f).sw j = s.sw j := rfl
@[simp] theorem modStart_vent (s : State) (f : StartSt → StartSt) (j : Nat) : (s.modStart f).vent j = s.vent j := rfl
@[simp] theorem modStart_fi (s : State) (f : StartSt → StartSt) (j : Nat) : (s.modStart f).fi j = s.fi j := rfl
@[simp] theorem modStart_fo (s : State) (f : StartSt → StartSt) (j : Nat) : (s.modStart f).fo j = s.fo j := rfl
@[simp] theorem modStart_ai (s : State) (f : StartSt → StartSt) (j : Nat) : (s.modStart f).ai j = s.ai j := rfl
@[simp] theorem modStart_group (s : State) (f : StartSt → StartSt) (j : Nat) : (s.modStart f).group j = s.group j := rfl
@[simp] theorem modStart_die (s : State) (f : StartSt → StartSt) (j : Nat) : (s.modStart f).die j = s.die j := rfl
@[simp] theorem modStart_loop (s : State) (f : StartSt → StartSt) (j : Nat) : (s.modStart f).loop j = s.loop j := rfl
@[simp] theorem modStart_course (s : State) (f : StartSt → StartSt) (j : Nat) : (s.modStart f).course j = s.course j := rfl
@[simp] theorem modStart_src (s : State) (f : StartSt → StartSt) (j : Nat) : (s.modStart f).src j = s.src j := rfl
@[simp] theorem modStart_tgt (s : State) (f : StartSt → StartSt) (j : Nat) : (s.modStart f).tgt j = s.tgt j := rfl
@[simp] theorem modStart_canOf (s : State) (f : StartSt → StartSt) (j : Nat) : (s.modStart f).canOf j = s.canOf j := rfl
@[simp] theorem modStart_chan (s : State) (f : StartSt → StartSt) (j : Nat) : (s.modStart f).chan j = s.chan j := rfl
@[simp] theorem modStart_sentOf (s : State) (f : StartSt → StartSt) (j : Nat) : (s.modStart f).sentOf j = s.sentOf j := rfl
@[simp] theorem modStore_devtime (s : State) (f : StorageSt → StorageSt) : (s.modStore f).devtime = s.devtime := rfl
@[simp] theorem modStore_cfg (s : State) (f : StorageSt → StorageSt) : (s.modStore f).cfg = s.cfg := rfl
@[simp] theorem modStore_power (s : State) (f : StorageSt → StorageSt) : (s.modStore f).power = s.power := rfl
@[simp] theorem modStore_start (s : State) (f : StorageSt → StorageSt) : (s.modStore f).start = s.start := rfl
@[simp] theorem modStore_host (s : State) (f : StorageSt → StorageSt) : (s.modStore f).host = s.host := rfl
@[simp] theorem modStore_ledger (s : State) (f : StorageSt → StorageSt) : (s.modStore f).ledger = s.ledger := rfl
@[simp] theorem modStore_units (s : State) (f : StorageSt → StorageSt) : (s.modStore f).units = s.units := rfl
@[simp] theorem modStore_clusters (s : State) (f : StorageSt → StorageSt) : (s.modStore f).clusters = s.clusters := rfl
@[simp] theorem modStore_boost (s : State) (f : StorageSt → StorageSt) : (s.modStore f).boost = s.boost := rfl
@[simp] theorem modStore_switches (s : State) (f : StorageSt → StorageSt) : (s.modStore f).switches = s.switches := rfl
@[simp] theorem modStore_vents (s : State) (f : StorageSt → StorageSt) : (s.modStore f).vents = s.vents := rfl
@[simp] theorem modStore_ventHeld (s : State) (f : StorageSt → StorageSt) : (s.modStore f).ventHeld = s.ventHeld := rfl
@[simp] theorem modStore_inputs (s : State) (f : StorageSt → StorageSt) : (s.modStore f).inputs = s.inputs := rfl
@[simp] theorem modStore_outputs (s : State) (f : StorageSt → StorageSt) : (s.modStore f).outputs = s.outputs := rfl
@[simp] theorem modStore_analogs (s : State) (f : StorageSt → StorageSt) : (s.modStore f).analogs = s.analogs := rfl
@[simp] theorem modStore_groups (s : State) (f : StorageSt → StorageSt) : (s.modStore f).groups = s.groups := rfl
@[simp] theorem modStore_dies (s : State) (f : StorageSt → StorageSt) : (s.modStore f).dies = s.dies := rfl
@[simp] theorem modStore_loops (s : State) (f : StorageSt → StorageSt) : (s.modStore f).loops = s.loops := rfl
@[simp] theorem modStore_loopStream (s : State) (f : StorageSt → StorageSt) : (s.modStore f).loopStream = s.loopStream := rfl
@[simp] theorem modStore_loopSentAt (s : State) (f : StorageSt → StorageSt) : (s.modStore f).loopSentAt = s.loopSentAt := rfl
@[simp] theorem modStore_rates (s : State) (f : StorageSt → StorageSt) : (s.modStore f).rates = s.rates := rfl
@[simp] theorem modStore_trims (s : State) (f : StorageSt → StorageSt) : (s.modStore f).trims = s.trims := rfl
@[simp] theorem modStore_rateRaisedAt (s : State) (f : StorageSt → StorageSt) : (s.modStore f).rateRaisedAt = s.rateRaisedAt := rfl
@[simp] theorem modStore_pressureBad (s : State) (f : StorageSt → StorageSt) : (s.modStore f).pressureBad = s.pressureBad := rfl
@[simp] theorem modStore_pwmRef (s : State) (f : StorageSt → StorageSt) : (s.modStore f).pwmRef = s.pwmRef := rfl
@[simp] theorem modStore_nav (s : State) (f : StorageSt → StorageSt) : (s.modStore f).nav = s.nav := rfl
@[simp] theorem modStore_odo (s : State) (f : StorageSt → StorageSt) : (s.modStore f).odo = s.odo := rfl
@[simp] theorem modStore_cov (s : State) (f : StorageSt → StorageSt) : (s.modStore f).cov = s.cov := rfl
@[simp] theorem modStore_events (s : State) (f : StorageSt → StorageSt) : (s.modStore f).events = s.events := rfl
@[simp] theorem modStore_faults (s : State) (f : StorageSt → StorageSt) : (s.modStore f).faults = s.faults := rfl
@[simp] theorem modStore_recorder (s : State) (f : StorageSt → StorageSt) : (s.modStore f).recorder = s.recorder := rfl
@[simp] theorem modStore_limp (s : State) (f : StorageSt → StorageSt) : (s.modStore f).limp = s.limp := rfl
@[simp] theorem modStore_can (s : State) (f : StorageSt → StorageSt) : (s.modStore f).can = s.can := rfl
@[simp] theorem modStore_zither (s : State) (f : StorageSt → StorageSt) : (s.modStore f).zither = s.zither := rfl
@[simp] theorem modStore_freeCount (s : State) (f : StorageSt → StorageSt) : (s.modStore f).freeCount = s.freeCount := rfl
@[simp] theorem modStore_pending (s : State) (f : StorageSt → StorageSt) : (s.modStore f).pending = s.pending := rfl
@[simp] theorem modStore_unit (s : State) (f : StorageSt → StorageSt) (j : Nat) : (s.modStore f).unit j = s.unit j := rfl
@[simp] theorem modStore_cluster (s : State) (f : StorageSt → StorageSt) (j : Nat) : (s.modStore f).cluster j = s.cluster j := rfl
@[simp] theorem modStore_boostOf (s : State) (f : StorageSt → StorageSt) (j : Nat) : (s.modStore f).boostOf j = s.boostOf j := rfl
@[simp] theorem modStore_sw (s : State) (f : StorageSt → StorageSt) (j : Nat) : (s.modStore f).sw j = s.sw j := rfl
@[simp] theorem modStore_vent (s : State) (f : StorageSt → StorageSt) (j : Nat) : (s.modStore f).vent j = s.vent j := rfl
@[simp] theorem modStore_fi (s : State) (f : StorageSt → StorageSt) (j : Nat) : (s.modStore f).fi j = s.fi j := rfl
@[simp] theorem modStore_fo (s : State) (f : StorageSt → StorageSt) (j : Nat) : (s.modStore f).fo j = s.fo j := rfl
@[simp] theorem modStore_ai (s : State) (f : StorageSt → StorageSt) (j : Nat) : (s.modStore f).ai j = s.ai j := rfl
@[simp] theorem modStore_group (s : State) (f : StorageSt → StorageSt) (j : Nat) : (s.modStore f).group j = s.group j := rfl
@[simp] theorem modStore_die (s : State) (f : StorageSt → StorageSt) (j : Nat) : (s.modStore f).die j = s.die j := rfl
@[simp] theorem modStore_loop (s : State) (f : StorageSt → StorageSt) (j : Nat) : (s.modStore f).loop j = s.loop j := rfl
@[simp] theorem modStore_course (s : State) (f : StorageSt → StorageSt) (j : Nat) : (s.modStore f).course j = s.course j := rfl
@[simp] theorem modStore_src (s : State) (f : StorageSt → StorageSt) (j : Nat) : (s.modStore f).src j = s.src j := rfl
@[simp] theorem modStore_tgt (s : State) (f : StorageSt → StorageSt) (j : Nat) : (s.modStore f).tgt j = s.tgt j := rfl
@[simp] theorem modStore_canOf (s : State) (f : StorageSt → StorageSt) (j : Nat) : (s.modStore f).canOf j = s.canOf j := rfl
@[simp] theorem modStore_chan (s : State) (f : StorageSt → StorageSt) (j : Nat) : (s.modStore f).chan j = s.chan j := rfl
@[simp] theorem modStore_sentOf (s : State) (f : StorageSt → StorageSt) (j : Nat) : (s.modStore f).sentOf j = s.sentOf j := rfl
@[simp] theorem modZ_devtime (s : State) (f : ZitherSt → ZitherSt) : (s.modZ f).devtime = s.devtime := rfl
@[simp] theorem modZ_cfg (s : State) (f : ZitherSt → ZitherSt) : (s.modZ f).cfg = s.cfg := rfl
@[simp] theorem modZ_power (s : State) (f : ZitherSt → ZitherSt) : (s.modZ f).power = s.power := rfl
@[simp] theorem modZ_start (s : State) (f : ZitherSt → ZitherSt) : (s.modZ f).start = s.start := rfl
@[simp] theorem modZ_storage (s : State) (f : ZitherSt → ZitherSt) : (s.modZ f).storage = s.storage := rfl
@[simp] theorem modZ_host (s : State) (f : ZitherSt → ZitherSt) : (s.modZ f).host = s.host := rfl
@[simp] theorem modZ_ledger (s : State) (f : ZitherSt → ZitherSt) : (s.modZ f).ledger = s.ledger := rfl
@[simp] theorem modZ_units (s : State) (f : ZitherSt → ZitherSt) : (s.modZ f).units = s.units := rfl
@[simp] theorem modZ_clusters (s : State) (f : ZitherSt → ZitherSt) : (s.modZ f).clusters = s.clusters := rfl
@[simp] theorem modZ_boost (s : State) (f : ZitherSt → ZitherSt) : (s.modZ f).boost = s.boost := rfl
@[simp] theorem modZ_switches (s : State) (f : ZitherSt → ZitherSt) : (s.modZ f).switches = s.switches := rfl
@[simp] theorem modZ_vents (s : State) (f : ZitherSt → ZitherSt) : (s.modZ f).vents = s.vents := rfl
@[simp] theorem modZ_ventHeld (s : State) (f : ZitherSt → ZitherSt) : (s.modZ f).ventHeld = s.ventHeld := rfl
@[simp] theorem modZ_inputs (s : State) (f : ZitherSt → ZitherSt) : (s.modZ f).inputs = s.inputs := rfl
@[simp] theorem modZ_outputs (s : State) (f : ZitherSt → ZitherSt) : (s.modZ f).outputs = s.outputs := rfl
@[simp] theorem modZ_analogs (s : State) (f : ZitherSt → ZitherSt) : (s.modZ f).analogs = s.analogs := rfl
@[simp] theorem modZ_groups (s : State) (f : ZitherSt → ZitherSt) : (s.modZ f).groups = s.groups := rfl
@[simp] theorem modZ_dies (s : State) (f : ZitherSt → ZitherSt) : (s.modZ f).dies = s.dies := rfl
@[simp] theorem modZ_loops (s : State) (f : ZitherSt → ZitherSt) : (s.modZ f).loops = s.loops := rfl
@[simp] theorem modZ_loopStream (s : State) (f : ZitherSt → ZitherSt) : (s.modZ f).loopStream = s.loopStream := rfl
@[simp] theorem modZ_loopSentAt (s : State) (f : ZitherSt → ZitherSt) : (s.modZ f).loopSentAt = s.loopSentAt := rfl
@[simp] theorem modZ_rates (s : State) (f : ZitherSt → ZitherSt) : (s.modZ f).rates = s.rates := rfl
@[simp] theorem modZ_trims (s : State) (f : ZitherSt → ZitherSt) : (s.modZ f).trims = s.trims := rfl
@[simp] theorem modZ_rateRaisedAt (s : State) (f : ZitherSt → ZitherSt) : (s.modZ f).rateRaisedAt = s.rateRaisedAt := rfl
@[simp] theorem modZ_pressureBad (s : State) (f : ZitherSt → ZitherSt) : (s.modZ f).pressureBad = s.pressureBad := rfl
@[simp] theorem modZ_pwmRef (s : State) (f : ZitherSt → ZitherSt) : (s.modZ f).pwmRef = s.pwmRef := rfl
@[simp] theorem modZ_nav (s : State) (f : ZitherSt → ZitherSt) : (s.modZ f).nav = s.nav := rfl
@[simp] theorem modZ_odo (s : State) (f : ZitherSt → ZitherSt) : (s.modZ f).odo = s.odo := rfl
@[simp] theorem modZ_cov (s : State) (f : ZitherSt → ZitherSt) : (s.modZ f).cov = s.cov := rfl
@[simp] theorem modZ_events (s : State) (f : ZitherSt → ZitherSt) : (s.modZ f).events = s.events := rfl
@[simp] theorem modZ_faults (s : State) (f : ZitherSt → ZitherSt) : (s.modZ f).faults = s.faults := rfl
@[simp] theorem modZ_recorder (s : State) (f : ZitherSt → ZitherSt) : (s.modZ f).recorder = s.recorder := rfl
@[simp] theorem modZ_limp (s : State) (f : ZitherSt → ZitherSt) : (s.modZ f).limp = s.limp := rfl
@[simp] theorem modZ_can (s : State) (f : ZitherSt → ZitherSt) : (s.modZ f).can = s.can := rfl
@[simp] theorem modZ_freeCount (s : State) (f : ZitherSt → ZitherSt) : (s.modZ f).freeCount = s.freeCount := rfl
@[simp] theorem modZ_pending (s : State) (f : ZitherSt → ZitherSt) : (s.modZ f).pending = s.pending := rfl
@[simp] theorem modZ_unit (s : State) (f : ZitherSt → ZitherSt) (j : Nat) : (s.modZ f).unit j = s.unit j := rfl
@[simp] theorem modZ_cluster (s : State) (f : ZitherSt → ZitherSt) (j : Nat) : (s.modZ f).cluster j = s.cluster j := rfl
@[simp] theorem modZ_boostOf (s : State) (f : ZitherSt → ZitherSt) (j : Nat) : (s.modZ f).boostOf j = s.boostOf j := rfl
@[simp] theorem modZ_sw (s : State) (f : ZitherSt → ZitherSt) (j : Nat) : (s.modZ f).sw j = s.sw j := rfl
@[simp] theorem modZ_vent (s : State) (f : ZitherSt → ZitherSt) (j : Nat) : (s.modZ f).vent j = s.vent j := rfl
@[simp] theorem modZ_fi (s : State) (f : ZitherSt → ZitherSt) (j : Nat) : (s.modZ f).fi j = s.fi j := rfl
@[simp] theorem modZ_fo (s : State) (f : ZitherSt → ZitherSt) (j : Nat) : (s.modZ f).fo j = s.fo j := rfl
@[simp] theorem modZ_ai (s : State) (f : ZitherSt → ZitherSt) (j : Nat) : (s.modZ f).ai j = s.ai j := rfl
@[simp] theorem modZ_group (s : State) (f : ZitherSt → ZitherSt) (j : Nat) : (s.modZ f).group j = s.group j := rfl
@[simp] theorem modZ_die (s : State) (f : ZitherSt → ZitherSt) (j : Nat) : (s.modZ f).die j = s.die j := rfl
@[simp] theorem modZ_loop (s : State) (f : ZitherSt → ZitherSt) (j : Nat) : (s.modZ f).loop j = s.loop j := rfl
@[simp] theorem modZ_course (s : State) (f : ZitherSt → ZitherSt) (j : Nat) : (s.modZ f).course j = s.course j := rfl
@[simp] theorem modZ_src (s : State) (f : ZitherSt → ZitherSt) (j : Nat) : (s.modZ f).src j = s.src j := rfl
@[simp] theorem modZ_tgt (s : State) (f : ZitherSt → ZitherSt) (j : Nat) : (s.modZ f).tgt j = s.tgt j := rfl
@[simp] theorem modZ_canOf (s : State) (f : ZitherSt → ZitherSt) (j : Nat) : (s.modZ f).canOf j = s.canOf j := rfl
@[simp] theorem modZ_chan (s : State) (f : ZitherSt → ZitherSt) (j : Nat) : (s.modZ f).chan j = s.chan j := rfl
@[simp] theorem modZ_sentOf (s : State) (f : ZitherSt → ZitherSt) (j : Nat) : (s.modZ f).sentOf j = s.sentOf j := rfl
@[simp] theorem modCan_devtime (s : State) (n : Nat) (f : CanSt → CanSt) : (s.modCan n f).devtime = s.devtime := rfl
@[simp] theorem modCan_cfg (s : State) (n : Nat) (f : CanSt → CanSt) : (s.modCan n f).cfg = s.cfg := rfl
@[simp] theorem modCan_power (s : State) (n : Nat) (f : CanSt → CanSt) : (s.modCan n f).power = s.power := rfl
@[simp] theorem modCan_start (s : State) (n : Nat) (f : CanSt → CanSt) : (s.modCan n f).start = s.start := rfl
@[simp] theorem modCan_storage (s : State) (n : Nat) (f : CanSt → CanSt) : (s.modCan n f).storage = s.storage := rfl
@[simp] theorem modCan_host (s : State) (n : Nat) (f : CanSt → CanSt) : (s.modCan n f).host = s.host := rfl
@[simp] theorem modCan_ledger (s : State) (n : Nat) (f : CanSt → CanSt) : (s.modCan n f).ledger = s.ledger := rfl
@[simp] theorem modCan_units (s : State) (n : Nat) (f : CanSt → CanSt) : (s.modCan n f).units = s.units := rfl
@[simp] theorem modCan_clusters (s : State) (n : Nat) (f : CanSt → CanSt) : (s.modCan n f).clusters = s.clusters := rfl
@[simp] theorem modCan_boost (s : State) (n : Nat) (f : CanSt → CanSt) : (s.modCan n f).boost = s.boost := rfl
@[simp] theorem modCan_switches (s : State) (n : Nat) (f : CanSt → CanSt) : (s.modCan n f).switches = s.switches := rfl
@[simp] theorem modCan_vents (s : State) (n : Nat) (f : CanSt → CanSt) : (s.modCan n f).vents = s.vents := rfl
@[simp] theorem modCan_ventHeld (s : State) (n : Nat) (f : CanSt → CanSt) : (s.modCan n f).ventHeld = s.ventHeld := rfl
@[simp] theorem modCan_inputs (s : State) (n : Nat) (f : CanSt → CanSt) : (s.modCan n f).inputs = s.inputs := rfl
@[simp] theorem modCan_outputs (s : State) (n : Nat) (f : CanSt → CanSt) : (s.modCan n f).outputs = s.outputs := rfl
@[simp] theorem modCan_analogs (s : State) (n : Nat) (f : CanSt → CanSt) : (s.modCan n f).analogs = s.analogs := rfl
@[simp] theorem modCan_groups (s : State) (n : Nat) (f : CanSt → CanSt) : (s.modCan n f).groups = s.groups := rfl
@[simp] theorem modCan_dies (s : State) (n : Nat) (f : CanSt → CanSt) : (s.modCan n f).dies = s.dies := rfl
@[simp] theorem modCan_loops (s : State) (n : Nat) (f : CanSt → CanSt) : (s.modCan n f).loops = s.loops := rfl
@[simp] theorem modCan_loopStream (s : State) (n : Nat) (f : CanSt → CanSt) : (s.modCan n f).loopStream = s.loopStream := rfl
@[simp] theorem modCan_loopSentAt (s : State) (n : Nat) (f : CanSt → CanSt) : (s.modCan n f).loopSentAt = s.loopSentAt := rfl
@[simp] theorem modCan_rates (s : State) (n : Nat) (f : CanSt → CanSt) : (s.modCan n f).rates = s.rates := rfl
@[simp] theorem modCan_trims (s : State) (n : Nat) (f : CanSt → CanSt) : (s.modCan n f).trims = s.trims := rfl
@[simp] theorem modCan_rateRaisedAt (s : State) (n : Nat) (f : CanSt → CanSt) : (s.modCan n f).rateRaisedAt = s.rateRaisedAt := rfl
@[simp] theorem modCan_pressureBad (s : State) (n : Nat) (f : CanSt → CanSt) : (s.modCan n f).pressureBad = s.pressureBad := rfl
@[simp] theorem modCan_pwmRef (s : State) (n : Nat) (f : CanSt → CanSt) : (s.modCan n f).pwmRef = s.pwmRef := rfl
@[simp] theorem modCan_nav (s : State) (n : Nat) (f : CanSt → CanSt) : (s.modCan n f).nav = s.nav := rfl
@[simp] theorem modCan_odo (s : State) (n : Nat) (f : CanSt → CanSt) : (s.modCan n f).odo = s.odo := rfl
@[simp] theorem modCan_cov (s : State) (n : Nat) (f : CanSt → CanSt) : (s.modCan n f).cov = s.cov := rfl
@[simp] theorem modCan_events (s : State) (n : Nat) (f : CanSt → CanSt) : (s.modCan n f).events = s.events := rfl
@[simp] theorem modCan_faults (s : State) (n : Nat) (f : CanSt → CanSt) : (s.modCan n f).faults = s.faults := rfl
@[simp] theorem modCan_recorder (s : State) (n : Nat) (f : CanSt → CanSt) : (s.modCan n f).recorder = s.recorder := rfl
@[simp] theorem modCan_limp (s : State) (n : Nat) (f : CanSt → CanSt) : (s.modCan n f).limp = s.limp := rfl
@[simp] theorem modCan_zither (s : State) (n : Nat) (f : CanSt → CanSt) : (s.modCan n f).zither = s.zither := rfl
@[simp] theorem modCan_freeCount (s : State) (n : Nat) (f : CanSt → CanSt) : (s.modCan n f).freeCount = s.freeCount := rfl
@[simp] theorem modCan_pending (s : State) (n : Nat) (f : CanSt → CanSt) : (s.modCan n f).pending = s.pending := rfl
@[simp] theorem modCan_unit (s : State) (n : Nat) (f : CanSt → CanSt) (j : Nat) : (s.modCan n f).unit j = s.unit j := rfl
@[simp] theorem modCan_cluster (s : State) (n : Nat) (f : CanSt → CanSt) (j : Nat) : (s.modCan n f).cluster j = s.cluster j := rfl
@[simp] theorem modCan_boostOf (s : State) (n : Nat) (f : CanSt → CanSt) (j : Nat) : (s.modCan n f).boostOf j = s.boostOf j := rfl
@[simp] theorem modCan_sw (s : State) (n : Nat) (f : CanSt → CanSt) (j : Nat) : (s.modCan n f).sw j = s.sw j := rfl
@[simp] theorem modCan_vent (s : State) (n : Nat) (f : CanSt → CanSt) (j : Nat) : (s.modCan n f).vent j = s.vent j := rfl
@[simp] theorem modCan_fi (s : State) (n : Nat) (f : CanSt → CanSt) (j : Nat) : (s.modCan n f).fi j = s.fi j := rfl
@[simp] theorem modCan_fo (s : State) (n : Nat) (f : CanSt → CanSt) (j : Nat) : (s.modCan n f).fo j = s.fo j := rfl
@[simp] theorem modCan_ai (s : State) (n : Nat) (f : CanSt → CanSt) (j : Nat) : (s.modCan n f).ai j = s.ai j := rfl
@[simp] theorem modCan_group (s : State) (n : Nat) (f : CanSt → CanSt) (j : Nat) : (s.modCan n f).group j = s.group j := rfl
@[simp] theorem modCan_die (s : State) (n : Nat) (f : CanSt → CanSt) (j : Nat) : (s.modCan n f).die j = s.die j := rfl
@[simp] theorem modCan_loop (s : State) (n : Nat) (f : CanSt → CanSt) (j : Nat) : (s.modCan n f).loop j = s.loop j := rfl
@[simp] theorem modCan_course (s : State) (n : Nat) (f : CanSt → CanSt) (j : Nat) : (s.modCan n f).course j = s.course j := rfl
@[simp] theorem modCan_src (s : State) (n : Nat) (f : CanSt → CanSt) (j : Nat) : (s.modCan n f).src j = s.src j := rfl
@[simp] theorem modCan_tgt (s : State) (n : Nat) (f : CanSt → CanSt) (j : Nat) : (s.modCan n f).tgt j = s.tgt j := rfl
@[simp] theorem modCan_chan (s : State) (n : Nat) (f : CanSt → CanSt) (j : Nat) : (s.modCan n f).chan j = s.chan j := rfl
@[simp] theorem modCan_sentOf (s : State) (n : Nat) (f : CanSt → CanSt) (j : Nat) : (s.modCan n f).sentOf j = s.sentOf j := rfl
@[simp] theorem modGw_devtime (s : State) (n b : Nat) (f : GwBuffer → GwBuffer) : (s.modGw n b f).devtime = s.devtime := rfl
@[simp] theorem modGw_cfg (s : State) (n b : Nat) (f : GwBuffer → GwBuffer) : (s.modGw n b f).cfg = s.cfg := rfl
@[simp] theorem modGw_power (s : State) (n b : Nat) (f : GwBuffer → GwBuffer) : (s.modGw n b f).power = s.power := rfl
@[simp] theorem modGw_start (s : State) (n b : Nat) (f : GwBuffer → GwBuffer) : (s.modGw n b f).start = s.start := rfl
@[simp] theorem modGw_storage (s : State) (n b : Nat) (f : GwBuffer → GwBuffer) : (s.modGw n b f).storage = s.storage := rfl
@[simp] theorem modGw_host (s : State) (n b : Nat) (f : GwBuffer → GwBuffer) : (s.modGw n b f).host = s.host := rfl
@[simp] theorem modGw_ledger (s : State) (n b : Nat) (f : GwBuffer → GwBuffer) : (s.modGw n b f).ledger = s.ledger := rfl
@[simp] theorem modGw_units (s : State) (n b : Nat) (f : GwBuffer → GwBuffer) : (s.modGw n b f).units = s.units := rfl
@[simp] theorem modGw_clusters (s : State) (n b : Nat) (f : GwBuffer → GwBuffer) : (s.modGw n b f).clusters = s.clusters := rfl
@[simp] theorem modGw_boost (s : State) (n b : Nat) (f : GwBuffer → GwBuffer) : (s.modGw n b f).boost = s.boost := rfl
@[simp] theorem modGw_switches (s : State) (n b : Nat) (f : GwBuffer → GwBuffer) : (s.modGw n b f).switches = s.switches := rfl
@[simp] theorem modGw_vents (s : State) (n b : Nat) (f : GwBuffer → GwBuffer) : (s.modGw n b f).vents = s.vents := rfl
@[simp] theorem modGw_ventHeld (s : State) (n b : Nat) (f : GwBuffer → GwBuffer) : (s.modGw n b f).ventHeld = s.ventHeld := rfl
@[simp] theorem modGw_inputs (s : State) (n b : Nat) (f : GwBuffer → GwBuffer) : (s.modGw n b f).inputs = s.inputs := rfl
@[simp] theorem modGw_outputs (s : State) (n b : Nat) (f : GwBuffer → GwBuffer) : (s.modGw n b f).outputs = s.outputs := rfl
@[simp] theorem modGw_analogs (s : State) (n b : Nat) (f : GwBuffer → GwBuffer) : (s.modGw n b f).analogs = s.analogs := rfl
@[simp] theorem modGw_groups (s : State) (n b : Nat) (f : GwBuffer → GwBuffer) : (s.modGw n b f).groups = s.groups := rfl
@[simp] theorem modGw_dies (s : State) (n b : Nat) (f : GwBuffer → GwBuffer) : (s.modGw n b f).dies = s.dies := rfl
@[simp] theorem modGw_loops (s : State) (n b : Nat) (f : GwBuffer → GwBuffer) : (s.modGw n b f).loops = s.loops := rfl
@[simp] theorem modGw_loopStream (s : State) (n b : Nat) (f : GwBuffer → GwBuffer) : (s.modGw n b f).loopStream = s.loopStream := rfl
@[simp] theorem modGw_loopSentAt (s : State) (n b : Nat) (f : GwBuffer → GwBuffer) : (s.modGw n b f).loopSentAt = s.loopSentAt := rfl
@[simp] theorem modGw_rates (s : State) (n b : Nat) (f : GwBuffer → GwBuffer) : (s.modGw n b f).rates = s.rates := rfl
@[simp] theorem modGw_trims (s : State) (n b : Nat) (f : GwBuffer → GwBuffer) : (s.modGw n b f).trims = s.trims := rfl
@[simp] theorem modGw_rateRaisedAt (s : State) (n b : Nat) (f : GwBuffer → GwBuffer) : (s.modGw n b f).rateRaisedAt = s.rateRaisedAt := rfl
@[simp] theorem modGw_pressureBad (s : State) (n b : Nat) (f : GwBuffer → GwBuffer) : (s.modGw n b f).pressureBad = s.pressureBad := rfl
@[simp] theorem modGw_pwmRef (s : State) (n b : Nat) (f : GwBuffer → GwBuffer) : (s.modGw n b f).pwmRef = s.pwmRef := rfl
@[simp] theorem modGw_nav (s : State) (n b : Nat) (f : GwBuffer → GwBuffer) : (s.modGw n b f).nav = s.nav := rfl
@[simp] theorem modGw_odo (s : State) (n b : Nat) (f : GwBuffer → GwBuffer) : (s.modGw n b f).odo = s.odo := rfl
@[simp] theorem modGw_cov (s : State) (n b : Nat) (f : GwBuffer → GwBuffer) : (s.modGw n b f).cov = s.cov := rfl
@[simp] theorem modGw_events (s : State) (n b : Nat) (f : GwBuffer → GwBuffer) : (s.modGw n b f).events = s.events := rfl
@[simp] theorem modGw_faults (s : State) (n b : Nat) (f : GwBuffer → GwBuffer) : (s.modGw n b f).faults = s.faults := rfl
@[simp] theorem modGw_recorder (s : State) (n b : Nat) (f : GwBuffer → GwBuffer) : (s.modGw n b f).recorder = s.recorder := rfl
@[simp] theorem modGw_limp (s : State) (n b : Nat) (f : GwBuffer → GwBuffer) : (s.modGw n b f).limp = s.limp := rfl
@[simp] theorem modGw_zither (s : State) (n b : Nat) (f : GwBuffer → GwBuffer) : (s.modGw n b f).zither = s.zither := rfl
@[simp] theorem modGw_freeCount (s : State) (n b : Nat) (f : GwBuffer → GwBuffer) : (s.modGw n b f).freeCount = s.freeCount := rfl
@[simp] theorem modGw_pending (s : State) (n b : Nat) (f : GwBuffer → GwBuffer) : (s.modGw n b f).pending = s.pending := rfl
@[simp] theorem modGw_unit (s : State) (n b : Nat) (f : GwBuffer → GwBuffer) (j : Nat) : (s.modGw n b f).unit j = s.unit j := rfl
@[simp] theorem modGw_cluster (s : State) (n b : Nat) (f : GwBuffer → GwBuffer) (j : Nat) : (s.modGw n b f).cluster j = s.cluster j := rfl
@[simp] theorem modGw_boostOf (s : State) (n b : Nat) (f : GwBuffer → GwBuffer) (j : Nat) : (s.modGw n b f).boostOf j = s.boostOf j := rfl
@[simp] theorem modGw_sw (s : State) (n b : Nat) (f : GwBuffer → GwBuffer) (j : Nat) : (s.modGw n b f).sw j = s.sw j := rfl
@[simp] theorem modGw_vent (s : State) (n b : Nat) (f : GwBuffer → GwBuffer) (j : Nat) : (s.modGw n b f).vent j = s.vent j := rfl
@[simp] theorem modGw_fi (s : State) (n b : Nat) (f : GwBuffer → GwBuffer) (j : Nat) : (s.modGw n b f).fi j = s.fi j := rfl
@[simp] theorem modGw_fo (s : State) (n b : Nat) (f : GwBuffer → GwBuffer) (j : Nat) : (s.modGw n b f).fo j = s.fo j := rfl
@[simp] theorem modGw_ai (s : State) (n b : Nat) (f : GwBuffer → GwBuffer) (j : Nat) : (s.modGw n b f).ai j = s.ai j := rfl
@[simp] theorem modGw_group (s : State) (n b : Nat) (f : GwBuffer → GwBuffer) (j : Nat) : (s.modGw n b f).group j = s.group j := rfl
@[simp] theorem modGw_die (s : State) (n b : Nat) (f : GwBuffer → GwBuffer) (j : Nat) : (s.modGw n b f).die j = s.die j := rfl
@[simp] theorem modGw_loop (s : State) (n b : Nat) (f : GwBuffer → GwBuffer) (j : Nat) : (s.modGw n b f).loop j = s.loop j := rfl
@[simp] theorem modGw_course (s : State) (n b : Nat) (f : GwBuffer → GwBuffer) (j : Nat) : (s.modGw n b f).course j = s.course j := rfl
@[simp] theorem modGw_src (s : State) (n b : Nat) (f : GwBuffer → GwBuffer) (j : Nat) : (s.modGw n b f).src j = s.src j := rfl
@[simp] theorem modGw_tgt (s : State) (n b : Nat) (f : GwBuffer → GwBuffer) (j : Nat) : (s.modGw n b f).tgt j = s.tgt j := rfl
@[simp] theorem modGw_chan (s : State) (n b : Nat) (f : GwBuffer → GwBuffer) (j : Nat) : (s.modGw n b f).chan j = s.chan j := rfl
@[simp] theorem modGw_sentOf (s : State) (n b : Nat) (f : GwBuffer → GwBuffer) (j : Nat) : (s.modGw n b f).sentOf j = s.sentOf j := rfl
@[simp] theorem modChan_devtime (s : State) (n : Nat) (f : ChannelSt → ChannelSt) : (s.modChan n f).devtime = s.devtime := rfl
@[simp] theorem modChan_cfg (s : State) (n : Nat) (f : ChannelSt → ChannelSt) : (s.modChan n f).cfg = s.cfg := rfl
@[simp] theorem modChan_power (s : State) (n : Nat) (f : ChannelSt → ChannelSt) : (s.modChan n f).power = s.power := rfl
@[simp] theorem modChan_start (s : State) (n : Nat) (f : ChannelSt → ChannelSt) : (s.modChan n f).start = s.start := rfl
@[simp] theorem modChan_storage (s : State) (n : Nat) (f : ChannelSt → ChannelSt) : (s.modChan n f).storage = s.storage := rfl
@[simp] theorem modChan_host (s : State) (n : Nat) (f : ChannelSt → ChannelSt) : (s.modChan n f).host = s.host := rfl
@[simp] theorem modChan_ledger (s : State) (n : Nat) (f : ChannelSt → ChannelSt) : (s.modChan n f).ledger = s.ledger := rfl
@[simp] theorem modChan_units (s : State) (n : Nat) (f : ChannelSt → ChannelSt) : (s.modChan n f).units = s.units := rfl
@[simp] theorem modChan_clusters (s : State) (n : Nat) (f : ChannelSt → ChannelSt) : (s.modChan n f).clusters = s.clusters := rfl
@[simp] theorem modChan_boost (s : State) (n : Nat) (f : ChannelSt → ChannelSt) : (s.modChan n f).boost = s.boost := rfl
@[simp] theorem modChan_switches (s : State) (n : Nat) (f : ChannelSt → ChannelSt) : (s.modChan n f).switches = s.switches := rfl
@[simp] theorem modChan_vents (s : State) (n : Nat) (f : ChannelSt → ChannelSt) : (s.modChan n f).vents = s.vents := rfl
@[simp] theorem modChan_ventHeld (s : State) (n : Nat) (f : ChannelSt → ChannelSt) : (s.modChan n f).ventHeld = s.ventHeld := rfl
@[simp] theorem modChan_inputs (s : State) (n : Nat) (f : ChannelSt → ChannelSt) : (s.modChan n f).inputs = s.inputs := rfl
@[simp] theorem modChan_outputs (s : State) (n : Nat) (f : ChannelSt → ChannelSt) : (s.modChan n f).outputs = s.outputs := rfl
@[simp] theorem modChan_analogs (s : State) (n : Nat) (f : ChannelSt → ChannelSt) : (s.modChan n f).analogs = s.analogs := rfl
@[simp] theorem modChan_groups (s : State) (n : Nat) (f : ChannelSt → ChannelSt) : (s.modChan n f).groups = s.groups := rfl
@[simp] theorem modChan_dies (s : State) (n : Nat) (f : ChannelSt → ChannelSt) : (s.modChan n f).dies = s.dies := rfl
@[simp] theorem modChan_loops (s : State) (n : Nat) (f : ChannelSt → ChannelSt) : (s.modChan n f).loops = s.loops := rfl
@[simp] theorem modChan_loopStream (s : State) (n : Nat) (f : ChannelSt → ChannelSt) : (s.modChan n f).loopStream = s.loopStream := rfl
@[simp] theorem modChan_loopSentAt (s : State) (n : Nat) (f : ChannelSt → ChannelSt) : (s.modChan n f).loopSentAt = s.loopSentAt := rfl
@[simp] theorem modChan_rates (s : State) (n : Nat) (f : ChannelSt → ChannelSt) : (s.modChan n f).rates = s.rates := rfl
@[simp] theorem modChan_trims (s : State) (n : Nat) (f : ChannelSt → ChannelSt) : (s.modChan n f).trims = s.trims := rfl
@[simp] theorem modChan_rateRaisedAt (s : State) (n : Nat) (f : ChannelSt → ChannelSt) : (s.modChan n f).rateRaisedAt = s.rateRaisedAt := rfl
@[simp] theorem modChan_pressureBad (s : State) (n : Nat) (f : ChannelSt → ChannelSt) : (s.modChan n f).pressureBad = s.pressureBad := rfl
@[simp] theorem modChan_pwmRef (s : State) (n : Nat) (f : ChannelSt → ChannelSt) : (s.modChan n f).pwmRef = s.pwmRef := rfl
@[simp] theorem modChan_nav (s : State) (n : Nat) (f : ChannelSt → ChannelSt) : (s.modChan n f).nav = s.nav := rfl
@[simp] theorem modChan_cov (s : State) (n : Nat) (f : ChannelSt → ChannelSt) : (s.modChan n f).cov = s.cov := rfl
@[simp] theorem modChan_events (s : State) (n : Nat) (f : ChannelSt → ChannelSt) : (s.modChan n f).events = s.events := rfl
@[simp] theorem modChan_faults (s : State) (n : Nat) (f : ChannelSt → ChannelSt) : (s.modChan n f).faults = s.faults := rfl
@[simp] theorem modChan_recorder (s : State) (n : Nat) (f : ChannelSt → ChannelSt) : (s.modChan n f).recorder = s.recorder := rfl
@[simp] theorem modChan_limp (s : State) (n : Nat) (f : ChannelSt → ChannelSt) : (s.modChan n f).limp = s.limp := rfl
@[simp] theorem modChan_can (s : State) (n : Nat) (f : ChannelSt → ChannelSt) : (s.modChan n f).can = s.can := rfl
@[simp] theorem modChan_zither (s : State) (n : Nat) (f : ChannelSt → ChannelSt) : (s.modChan n f).zither = s.zither := rfl
@[simp] theorem modChan_freeCount (s : State) (n : Nat) (f : ChannelSt → ChannelSt) : (s.modChan n f).freeCount = s.freeCount := rfl
@[simp] theorem modChan_pending (s : State) (n : Nat) (f : ChannelSt → ChannelSt) : (s.modChan n f).pending = s.pending := rfl
@[simp] theorem modChan_unit (s : State) (n : Nat) (f : ChannelSt → ChannelSt) (j : Nat) : (s.modChan n f).unit j = s.unit j := rfl
@[simp] theorem modChan_cluster (s : State) (n : Nat) (f : ChannelSt → ChannelSt) (j : Nat) : (s.modChan n f).cluster j = s.cluster j := rfl
@[simp] theorem modChan_boostOf (s : State) (n : Nat) (f : ChannelSt → ChannelSt) (j : Nat) : (s.modChan n f).boostOf j = s.boostOf j := rfl
@[simp] theorem modChan_sw (s : State) (n : Nat) (f : ChannelSt → ChannelSt) (j : Nat) : (s.modChan n f).sw j = s.sw j := rfl
@[simp] theorem modChan_vent (s : State) (n : Nat) (f : ChannelSt → ChannelSt) (j : Nat) : (s.modChan n f).vent j = s.vent j := rfl
@[simp] theorem modChan_fi (s : State) (n : Nat) (f : ChannelSt → ChannelSt) (j : Nat) : (s.modChan n f).fi j = s.fi j := rfl
@[simp] theorem modChan_fo (s : State) (n : Nat) (f : ChannelSt → ChannelSt) (j : Nat) : (s.modChan n f).fo j = s.fo j := rfl
@[simp] theorem modChan_ai (s : State) (n : Nat) (f : ChannelSt → ChannelSt) (j : Nat) : (s.modChan n f).ai j = s.ai j := rfl
@[simp] theorem modChan_group (s : State) (n : Nat) (f : ChannelSt → ChannelSt) (j : Nat) : (s.modChan n f).group j = s.group j := rfl
@[simp] theorem modChan_die (s : State) (n : Nat) (f : ChannelSt → ChannelSt) (j : Nat) : (s.modChan n f).die j = s.die j := rfl
@[simp] theorem modChan_loop (s : State) (n : Nat) (f : ChannelSt → ChannelSt) (j : Nat) : (s.modChan n f).loop j = s.loop j := rfl
@[simp] theorem modChan_course (s : State) (n : Nat) (f : ChannelSt → ChannelSt) (j : Nat) : (s.modChan n f).course j = s.course j := rfl
@[simp] theorem modChan_src (s : State) (n : Nat) (f : ChannelSt → ChannelSt) (j : Nat) : (s.modChan n f).src j = s.src j := rfl
@[simp] theorem modChan_tgt (s : State) (n : Nat) (f : ChannelSt → ChannelSt) (j : Nat) : (s.modChan n f).tgt j = s.tgt j := rfl
@[simp] theorem modChan_canOf (s : State) (n : Nat) (f : ChannelSt → ChannelSt) (j : Nat) : (s.modChan n f).canOf j = s.canOf j := rfl
@[simp] theorem modChan_sentOf (s : State) (n : Nat) (f : ChannelSt → ChannelSt) (j : Nat) : (s.modChan n f).sentOf j = s.sentOf j := rfl
@[simp] theorem modSent_devtime (s : State) (n : Nat) (f : SentSt → SentSt) : (s.modSent n f).devtime = s.devtime := rfl
@[simp] theorem modSent_cfg (s : State) (n : Nat) (f : SentSt → SentSt) : (s.modSent n f).cfg = s.cfg := rfl
@[simp] theorem modSent_power (s : State) (n : Nat) (f : SentSt → SentSt) : (s.modSent n f).power = s.power := rfl
@[simp] theorem modSent_start (s : State) (n : Nat) (f : SentSt → SentSt) : (s.modSent n f).start = s.start := rfl
@[simp] theorem modSent_storage (s : State) (n : Nat) (f : SentSt → SentSt) : (s.modSent n f).storage = s.storage := rfl
@[simp] theorem modSent_host (s : State) (n : Nat) (f : SentSt → SentSt) : (s.modSent n f).host = s.host := rfl
@[simp] theorem modSent_ledger (s : State) (n : Nat) (f : SentSt → SentSt) : (s.modSent n f).ledger = s.ledger := rfl
@[simp] theorem modSent_units (s : State) (n : Nat) (f : SentSt → SentSt) : (s.modSent n f).units = s.units := rfl
@[simp] theorem modSent_clusters (s : State) (n : Nat) (f : SentSt → SentSt) : (s.modSent n f).clusters = s.clusters := rfl
@[simp] theorem modSent_boost (s : State) (n : Nat) (f : SentSt → SentSt) : (s.modSent n f).boost = s.boost := rfl
@[simp] theorem modSent_switches (s : State) (n : Nat) (f : SentSt → SentSt) : (s.modSent n f).switches = s.switches := rfl
@[simp] theorem modSent_vents (s : State) (n : Nat) (f : SentSt → SentSt) : (s.modSent n f).vents = s.vents := rfl
@[simp] theorem modSent_ventHeld (s : State) (n : Nat) (f : SentSt → SentSt) : (s.modSent n f).ventHeld = s.ventHeld := rfl
@[simp] theorem modSent_inputs (s : State) (n : Nat) (f : SentSt → SentSt) : (s.modSent n f).inputs = s.inputs := rfl
@[simp] theorem modSent_outputs (s : State) (n : Nat) (f : SentSt → SentSt) : (s.modSent n f).outputs = s.outputs := rfl
@[simp] theorem modSent_analogs (s : State) (n : Nat) (f : SentSt → SentSt) : (s.modSent n f).analogs = s.analogs := rfl
@[simp] theorem modSent_groups (s : State) (n : Nat) (f : SentSt → SentSt) : (s.modSent n f).groups = s.groups := rfl
@[simp] theorem modSent_dies (s : State) (n : Nat) (f : SentSt → SentSt) : (s.modSent n f).dies = s.dies := rfl
@[simp] theorem modSent_loops (s : State) (n : Nat) (f : SentSt → SentSt) : (s.modSent n f).loops = s.loops := rfl
@[simp] theorem modSent_loopStream (s : State) (n : Nat) (f : SentSt → SentSt) : (s.modSent n f).loopStream = s.loopStream := rfl
@[simp] theorem modSent_loopSentAt (s : State) (n : Nat) (f : SentSt → SentSt) : (s.modSent n f).loopSentAt = s.loopSentAt := rfl
@[simp] theorem modSent_rates (s : State) (n : Nat) (f : SentSt → SentSt) : (s.modSent n f).rates = s.rates := rfl
@[simp] theorem modSent_trims (s : State) (n : Nat) (f : SentSt → SentSt) : (s.modSent n f).trims = s.trims := rfl
@[simp] theorem modSent_rateRaisedAt (s : State) (n : Nat) (f : SentSt → SentSt) : (s.modSent n f).rateRaisedAt = s.rateRaisedAt := rfl
@[simp] theorem modSent_pressureBad (s : State) (n : Nat) (f : SentSt → SentSt) : (s.modSent n f).pressureBad = s.pressureBad := rfl
@[simp] theorem modSent_pwmRef (s : State) (n : Nat) (f : SentSt → SentSt) : (s.modSent n f).pwmRef = s.pwmRef := rfl
@[simp] theorem modSent_nav (s : State) (n : Nat) (f : SentSt → SentSt) : (s.modSent n f).nav = s.nav := rfl
@[simp] theorem modSent_cov (s : State) (n : Nat) (f : SentSt → SentSt) : (s.modSent n f).cov = s.cov := rfl
@[simp] theorem modSent_events (s : State) (n : Nat) (f : SentSt → SentSt) : (s.modSent n f).events = s.events := rfl
@[simp] theorem modSent_faults (s : State) (n : Nat) (f : SentSt → SentSt) : (s.modSent n f).faults = s.faults := rfl
@[simp] theorem modSent_recorder (s : State) (n : Nat) (f : SentSt → SentSt) : (s.modSent n f).recorder = s.recorder := rfl
@[simp] theorem modSent_limp (s : State) (n : Nat) (f : SentSt → SentSt) : (s.modSent n f).limp = s.limp := rfl
@[simp] theorem modSent_can (s : State) (n : Nat) (f : SentSt → SentSt) : (s.modSent n f).can = s.can := rfl
@[simp] theorem modSent_zither (s : State) (n : Nat) (f : SentSt → SentSt) : (s.modSent n f).zither = s.zither := rfl
@[simp] theorem modSent_freeCount (s : State) (n : Nat) (f : SentSt → SentSt) : (s.modSent n f).freeCount = s.freeCount := rfl
@[simp] theorem modSent_pending (s : State) (n : Nat) (f : SentSt → SentSt) : (s.modSent n f).pending = s.pending := rfl
@[simp] theorem modSent_unit (s : State) (n : Nat) (f : SentSt → SentSt) (j : Nat) : (s.modSent n f).unit j = s.unit j := rfl
@[simp] theorem modSent_cluster (s : State) (n : Nat) (f : SentSt → SentSt) (j : Nat) : (s.modSent n f).cluster j = s.cluster j := rfl
@[simp] theorem modSent_boostOf (s : State) (n : Nat) (f : SentSt → SentSt) (j : Nat) : (s.modSent n f).boostOf j = s.boostOf j := rfl
@[simp] theorem modSent_sw (s : State) (n : Nat) (f : SentSt → SentSt) (j : Nat) : (s.modSent n f).sw j = s.sw j := rfl
@[simp] theorem modSent_vent (s : State) (n : Nat) (f : SentSt → SentSt) (j : Nat) : (s.modSent n f).vent j = s.vent j := rfl
@[simp] theorem modSent_fi (s : State) (n : Nat) (f : SentSt → SentSt) (j : Nat) : (s.modSent n f).fi j = s.fi j := rfl
@[simp] theorem modSent_fo (s : State) (n : Nat) (f : SentSt → SentSt) (j : Nat) : (s.modSent n f).fo j = s.fo j := rfl
@[simp] theorem modSent_ai (s : State) (n : Nat) (f : SentSt → SentSt) (j : Nat) : (s.modSent n f).ai j = s.ai j := rfl
@[simp] theorem modSent_group (s : State) (n : Nat) (f : SentSt → SentSt) (j : Nat) : (s.modSent n f).group j = s.group j := rfl
@[simp] theorem modSent_die (s : State) (n : Nat) (f : SentSt → SentSt) (j : Nat) : (s.modSent n f).die j = s.die j := rfl
@[simp] theorem modSent_loop (s : State) (n : Nat) (f : SentSt → SentSt) (j : Nat) : (s.modSent n f).loop j = s.loop j := rfl
@[simp] theorem modSent_course (s : State) (n : Nat) (f : SentSt → SentSt) (j : Nat) : (s.modSent n f).course j = s.course j := rfl
@[simp] theorem modSent_src (s : State) (n : Nat) (f : SentSt → SentSt) (j : Nat) : (s.modSent n f).src j = s.src j := rfl
@[simp] theorem modSent_tgt (s : State) (n : Nat) (f : SentSt → SentSt) (j : Nat) : (s.modSent n f).tgt j = s.tgt j := rfl
@[simp] theorem modSent_canOf (s : State) (n : Nat) (f : SentSt → SentSt) (j : Nat) : (s.modSent n f).canOf j = s.canOf j := rfl
@[simp] theorem modSent_chan (s : State) (n : Nat) (f : SentSt → SentSt) (j : Nat) : (s.modSent n f).chan j = s.chan j := rfl

/-! The element that an update changes, and the others of its bank. -/

@[simp] theorem modUnit_unit_self (s : State) (u : Nat) (f : UnitSt → UnitSt) : (s.modUnit u f).unit u = f (s.unit u) := tget_tmod_self _ _ _ _
@[simp] theorem modUnit_unit_of_ne (s : State) (u : Nat) (f : UnitSt → UnitSt) {j : Nat} (h : j ≠ u) : (s.modUnit u f).unit j = s.unit j := tget_tmod_of_ne _ _ _ h
@[simp] theorem modCluster_cluster_self (s : State) (c : Nat) (f : ClusterSt → ClusterSt) : (s.modCluster c f).cluster c = f (s.cluster c) := tget_tmod_self _ _ _ _
@[simp] theorem modCluster_cluster_of_ne (s : State) (c : Nat) (f : ClusterSt → ClusterSt) {j : Nat} (h : j ≠ c) : (s.modCluster c f).cluster j = s.cluster j := tget_tmod_of_ne _ _ _ h
@[simp] theorem modBoost_boostOf_self (s : State) (d : Nat) (f : BoostSt → BoostSt) : (s.modBoost d f).boostOf d = f (s.boostOf d) := tget_tmod_self _ _ _ _
@[simp] theorem modBoost_boostOf_of_ne (s : State) (d : Nat) (f : BoostSt → BoostSt) {j : Nat} (h : j ≠ d) : (s.modBoost d f).boostOf j = s.boostOf j := tget_tmod_of_ne _ _ _ h
@[simp] theorem modSw_sw_self (s : State) (n : Nat) (f : SwitchSt → SwitchSt) : (s.modSw n f).sw n = f (s.sw n) := tget_tmod_self _ _ _ _
@[simp] theorem modSw_sw_of_ne (s : State) (n : Nat) (f : SwitchSt → SwitchSt) {j : Nat} (h : j ≠ n) : (s.modSw n f).sw j = s.sw j := tget_tmod_of_ne _ _ _ h
@[simp] theorem modVent_vent_self (s : State) (c : Nat) (f : VentSt → VentSt) : (s.modVent c f).vent c = f (s.vent c) := tget_tmod_self _ _ _ _
@[simp] theorem modVent_vent_of_ne (s : State) (c : Nat) (f : VentSt → VentSt) {j : Nat} (h : j ≠ c) : (s.modVent c f).vent j = s.vent j := tget_tmod_of_ne _ _ _ h
@[simp] theorem modFi_fi_self (s : State) (i : Nat) (f : InputSt → InputSt) : (s.modFi i f).fi i = f (s.fi i) := tget_tmod_self _ _ _ _
@[simp] theorem modFi_fi_of_ne (s : State) (i : Nat) (f : InputSt → InputSt) {j : Nat} (h : j ≠ i) : (s.modFi i f).fi j = s.fi j := tget_tmod_of_ne _ _ _ h
@[simp] theorem modFo_fo_self (s : State) (o : Nat) (f : OutputSt → OutputSt) : (s.modFo o f).fo o = f (s.fo o) := tget_tmod_self _ _ _ _
@[simp] theorem modFo_fo_of_ne (s : State) (o : Nat) (f : OutputSt → OutputSt) {j : Nat} (h : j ≠ o) : (s.modFo o f).fo j = s.fo j := tget_tmod_of_ne _ _ _ h
@[simp] theorem modAi_ai_self (s : State) (a : Nat) (f : AnalogSt → AnalogSt) : (s.modAi a f).ai a = f (s.ai a) := tget_tmod_self _ _ _ _
@[simp] theorem modAi_ai_of_ne (s : State) (a : Nat) (f : AnalogSt → AnalogSt) {j : Nat} (h : j ≠ a) : (s.modAi a f).ai j = s.ai j := tget_tmod_of_ne _ _ _ h
@[simp] theorem modDie_die_self (s : State) (d : Nat) (f : DieSt → DieSt) : (s.modDie d f).die d = f (s.die d) := tget_tmod_self _ _ _ _
@[simp] theorem modDie_die_of_ne (s : State) (d : Nat) (f : DieSt → DieSt) {j : Nat} (h : j ≠ d) : (s.modDie d f).die j = s.die j := tget_tmod_of_ne _ _ _ h
@[simp] theorem modLoop_loop_self (s : State) (l : Nat) (f : LoopSt → LoopSt) : (s.modLoop l f).loop l = f (s.loop l) := tget_tmod_self _ _ _ _
@[simp] theorem modLoop_loop_of_ne (s : State) (l : Nat) (f : LoopSt → LoopSt) {j : Nat} (h : j ≠ l) : (s.modLoop l f).loop j = s.loop j := tget_tmod_of_ne _ _ _ h
@[simp] theorem modCourse_course_self (s : State) (n : Nat) (f : Course → Course) : (s.modCourse n f).course n = f (s.course n) := tget_tmod_self _ _ _ _
@[simp] theorem modCourse_course_of_ne (s : State) (n : Nat) (f : Course → Course) {j : Nat} (h : j ≠ n) : (s.modCourse n f).course j = s.course j := tget_tmod_of_ne _ _ _ h
@[simp] theorem modSrc_src_self (s : State) (n : Nat) (f : EvtSource → EvtSource) : (s.modSrc n f).src n = f (s.src n) := tget_tmod_self _ _ _ _
@[simp] theorem modSrc_src_of_ne (s : State) (n : Nat) (f : EvtSource → EvtSource) {j : Nat} (h : j ≠ n) : (s.modSrc n f).src j = s.src j := tget_tmod_of_ne _ _ _ h
@[simp] theorem modTgt_tgt_self (s : State) (n : Nat) (f : EvtTarget → EvtTarget) : (s.modTgt n f).tgt n = f (s.tgt n) := tget_tmod_self _ _ _ _
@[simp] theorem modTgt_tgt_of_ne (s : State) (n : Nat) (f : EvtTarget → EvtTarget) {j : Nat} (h : j ≠ n) : (s.modTgt n f).tgt j = s.tgt j := tget_tmod_of_ne _ _ _ h
@[simp] theorem modCan_canOf_self (s : State) (n : Nat) (f : CanSt → CanSt) : (s.modCan n f).canOf n = f (s.canOf n) := tget_tmod_self _ _ _ _
@[simp] theorem modCan_canOf_of_ne (s : State) (n : Nat) (f : CanSt → CanSt) {j : Nat} (h : j ≠ n) : (s.modCan n f).canOf j = s.canOf j := tget_tmod_of_ne _ _ _ h
@[simp] theorem modChan_chan_self (s : State) (n : Nat) (f : ChannelSt → ChannelSt) : (s.modChan n f).chan n = f (s.chan n) := tget_tmod_self _ _ _ _
@[simp] theorem modChan_chan_of_ne (s : State) (n : Nat) (f : ChannelSt → ChannelSt) {j : Nat} (h : j ≠ n) : (s.modChan n f).chan j = s.chan j := tget_tmod_of_ne _ _ _ h
@[simp] theorem modSent_sentOf_self (s : State) (n : Nat) (f : SentSt → SentSt) : (s.modSent n f).sentOf n = f (s.sentOf n) := tget_tmod_self _ _ _ _
@[simp] theorem modSent_sentOf_of_ne (s : State) (n : Nat) (f : SentSt → SentSt) {j : Nat} (h : j ≠ n) : (s.modSent n f).sentOf j = s.sentOf j := tget_tmod_of_ne _ _ _ h
@[simp] theorem modDrive_unit_self (s : State) (u : Nat) (f : Drive → Drive) :
    (s.modDrive u f).unit u = { s.unit u with drive := f (s.unit u).drive } := modUnit_unit_self _ _ _
@[simp] theorem modDrive_unit_of_ne (s : State) (u : Nat) (f : Drive → Drive) {j : Nat} (h : j ≠ u) :
    (s.modDrive u f).unit j = s.unit j := modUnit_unit_of_ne _ _ _ h
@[simp] theorem modLearn_unit_self (s : State) (u : Nat) (f : Learn → Learn) :
    (s.modLearn u f).unit u = { s.unit u with learn := f (s.unit u).learn } := modUnit_unit_self _ _ _
@[simp] theorem modLearn_unit_of_ne (s : State) (u : Nat) (f : Learn → Learn) {j : Nat} (h : j ≠ u) :
    (s.modLearn u f).unit j = s.unit j := modUnit_unit_of_ne _ _ _ h
@[simp] theorem modSect_unit_self (s : State) (u : Nat) (f : SectionSt → SectionSt) :
    (s.modSect u f).unit u = { s.unit u with sect := f (s.unit u).sect } := modUnit_unit_self _ _ _
@[simp] theorem modSect_unit_of_ne (s : State) (u : Nat) (f : SectionSt → SectionSt) {j : Nat} (h : j ≠ u) :
    (s.modSect u f).unit j = s.unit j := modUnit_unit_of_ne _ _ _ h
@[simp] theorem modValve_unit_self (s : State) (u : Nat) (f : ValveCounters → ValveCounters) :
    (s.modValve u f).unit u = { s.unit u with valve := f (s.unit u).valve } := modUnit_unit_self _ _ _
@[simp] theorem modValve_unit_of_ne (s : State) (u : Nat) (f : ValveCounters → ValveCounters) {j : Nat} (h : j ≠ u) :
    (s.modValve u f).unit j = s.unit j := modUnit_unit_of_ne _ _ _ h
@[simp] theorem modFretCnt_unit_self (s : State) (u : Nat) (f : FretCounters → FretCounters) :
    (s.modFretCnt u f).unit u = { s.unit u with fret := f (s.unit u).fret } := modUnit_unit_self _ _ _
@[simp] theorem modFretCnt_unit_of_ne (s : State) (u : Nat) (f : FretCounters → FretCounters) {j : Nat} (h : j ≠ u) :
    (s.modFretCnt u f).unit j = s.unit j := modUnit_unit_of_ne _ _ _ h

/-! The whole records that an update replaces, and what the updates of a part leave of them. -/

@[simp] theorem modHost_host_self (s : State) (f : HostSt → HostSt) : (s.modHost f).host = f s.host := rfl
@[simp] theorem modEvents_events_self (s : State) (f : Events → Events) : (s.modEvents f).events = f s.events := rfl
@[simp] theorem modFaults_faults_self (s : State) (f : Faults → Faults) : (s.modFaults f).faults = f s.faults := rfl
@[simp] theorem modRec_recorder_self (s : State) (f : Recorder → Recorder) : (s.modRec f).recorder = f s.recorder := rfl
@[simp] theorem modLedger_ledger_self (s : State) (f : Ledger → Ledger) : (s.modLedger f).ledger = f s.ledger := rfl
@[simp] theorem modNav_nav_self (s : State) (f : NavSt → NavSt) : (s.modNav f).nav = f s.nav := rfl
@[simp] theorem modOdo_odo_self (s : State) (f : OdoSt → OdoSt) : (s.modOdo f).odo = f s.odo := rfl
@[simp] theorem modCov_cov_self (s : State) (f : CovSt → CovSt) : (s.modCov f).cov = f s.cov := rfl
@[simp] theorem modPower_power_self (s : State) (f : PowerSt → PowerSt) : (s.modPower f).power = f s.power := rfl
@[simp] theorem modStart_start_self (s : State) (f : StartSt → StartSt) : (s.modStart f).start = f s.start := rfl
@[simp] theorem modStore_storage_self (s : State) (f : StorageSt → StorageSt) : (s.modStore f).storage = f s.storage := rfl
@[simp] theorem modZ_zither_self (s : State) (f : ZitherSt → ZitherSt) : (s.modZ f).zither = f s.zither := rfl
@[simp] theorem modCourse_host_outputsEnabled (s : State) (n : Nat) (f : Course → Course) : (s.modCourse n f).host.outputsEnabled = s.host.outputsEnabled := rfl
@[simp] theorem modCourse_host_silent (s : State) (n : Nat) (f : Course → Course) : (s.modCourse n f).host.silent = s.host.silent := rfl
@[simp] theorem modCourse_host_spiErr (s : State) (n : Nat) (f : Course → Course) : (s.modCourse n f).host.spiErr = s.host.spiErr := rfl
@[simp] theorem modCourse_host_statusSeq (s : State) (n : Nat) (f : Course → Course) : (s.modCourse n f).host.statusSeq = s.host.statusSeq := rfl
@[simp] theorem modCourse_host_irqEn (s : State) (n : Nat) (f : Course → Course) : (s.modCourse n f).host.irqEn = s.host.irqEn := rfl
@[simp] theorem modCourse_host_badXfers (s : State) (n : Nat) (f : Course → Course) : (s.modCourse n f).host.badXfers = s.host.badXfers := rfl
@[simp] theorem modCourse_host_beat (s : State) (n : Nat) (f : Course → Course) : (s.modCourse n f).host.beat = s.host.beat := rfl
@[simp] theorem modCourse_host_beatAt (s : State) (n : Nat) (f : Course → Course) : (s.modCourse n f).host.beatAt = s.host.beatAt := rfl
@[simp] theorem modCourse_host_beatSeen (s : State) (n : Nat) (f : Course → Course) : (s.modCourse n f).host.beatSeen = s.host.beatSeen := rfl
@[simp] theorem modCourse_host_devtimeHi (s : State) (n : Nat) (f : Course → Course) : (s.modCourse n f).host.devtimeHi = s.host.devtimeHi := rfl
@[simp] theorem modCourse_host_snap (s : State) (n : Nat) (f : Course → Course) : (s.modCourse n f).host.snap = s.host.snap := rfl
@[simp] theorem modCourse_host_snapNs (s : State) (n : Nat) (f : Course → Course) : (s.modCourse n f).host.snapNs = s.host.snapNs := rfl
@[simp] theorem modCourse_host_snapCount (s : State) (n : Nat) (f : Course → Course) : (s.modCourse n f).host.snapCount = s.host.snapCount := rfl
@[simp] theorem modCourse_host_epoch (s : State) (n : Nat) (f : Course → Course) : (s.modCourse n f).host.epoch = s.host.epoch := rfl
@[simp] theorem modCourse_host_master (s : State) (n : Nat) (f : Course → Course) : (s.modCourse n f).host.master = s.host.master := rfl
@[simp] theorem modCourse_host_masterAuto (s : State) (n : Nat) (f : Course → Course) : (s.modCourse n f).host.masterAuto = s.host.masterAuto := rfl
@[simp] theorem modCourse_host_safeLeft (s : State) (n : Nat) (f : Course → Course) : (s.modCourse n f).host.safeLeft = s.host.safeLeft := rfl
@[simp] theorem modCourse_host_ringBytes (s : State) (n : Nat) (f : Course → Course) : (s.modCourse n f).host.ringBytes = s.host.ringBytes := rfl
@[simp] theorem modTgt_events_sources (s : State) (n : Nat) (f : EvtTarget → EvtTarget) : (s.modTgt n f).events.sources = s.events.sources := rfl
@[simp] theorem modSrc_events_targets (s : State) (n : Nat) (f : EvtSource → EvtSource) : (s.modSrc n f).events.targets = s.events.targets := rfl
@[simp] theorem modSrc_events_hqWr (s : State) (n : Nat) (f : EvtSource → EvtSource) : (s.modSrc n f).events.hqWr = s.events.hqWr := rfl
@[simp] theorem modTgt_events_hqWr (s : State) (n : Nat) (f : EvtTarget → EvtTarget) : (s.modTgt n f).events.hqWr = s.events.hqWr := rfl
@[simp] theorem modSrc_events_hqRd (s : State) (n : Nat) (f : EvtSource → EvtSource) : (s.modSrc n f).events.hqRd = s.events.hqRd := rfl
@[simp] theorem modTgt_events_hqRd (s : State) (n : Nat) (f : EvtTarget → EvtTarget) : (s.modTgt n f).events.hqRd = s.events.hqRd := rfl
@[simp] theorem modSrc_events_hostSlots (s : State) (n : Nat) (f : EvtSource → EvtSource) : (s.modSrc n f).events.hostSlots = s.events.hostSlots := rfl
@[simp] theorem modTgt_events_hostSlots (s : State) (n : Nat) (f : EvtTarget → EvtTarget) : (s.modTgt n f).events.hostSlots = s.events.hostSlots := rfl
@[simp] theorem modSrc_events_stopped (s : State) (n : Nat) (f : EvtSource → EvtSource) : (s.modSrc n f).events.stopped = s.events.stopped := rfl
@[simp] theorem modTgt_events_stopped (s : State) (n : Nat) (f : EvtTarget → EvtTarget) : (s.modTgt n f).events.stopped = s.events.stopped := rfl

end Sys2Proof.Machine.State
end

