-- ==== Sys2Proof/Laws/Frames.lean ====
section
/-! SUPPORT. What the shared operations leave unchanged: events, faults, notifications, the end of a step and the passage of
time. -/

namespace Sys2Proof.Machine

/-! ## Frames compose -/

theorem Bank.same_refl (b : Bank) (s : State) : b.same s s := by cases b <;> simp [Bank.same]

theorem Bank.same_trans {b : Bank} {s t u : State} (h : b.same s t) (k : b.same t u) : b.same s u := by
  cases b <;> simp_all [Bank.same]

theorem SameExcept.refl (bs : List Bank) (s : State) : SameExcept bs s s := fun b _ => b.same_refl s

theorem SameExcept.trans {bs : List Bank} {s t u : State} (h : SameExcept bs s t) (k : SameExcept bs t u) : SameExcept bs s u :=
  fun b hb => Bank.same_trans (h b hb) (k b hb)

theorem SameExcept.mono {bs cs : List Bank} {s t : State} (h : SameExcept bs s t) (hs : ∀ b, b ∈ bs → b ∈ cs) :
    SameExcept cs s t := fun b hb => h b fun hm => hb (hs b hm)

/-- A frame through a loop over a list. -/
theorem SameExcept.foldl {α : Type} {bs : List Bank} (f : State → α → State) (h : ∀ s a, SameExcept bs s (f s a)) (l : List α)
    (s : State) : SameExcept bs s (l.foldl f s) := by
  induction l generalizing s with
  | nil => exact .refl bs s
  | cons a r ih => exact (h s a).trans (ih (f s a))

/-! ## Updates -/

theorem modEvents_frame (s : State) (f : Events → Events) : SameExcept [.events] s (s.modEvents f) := by
  intro b hb; cases b <;> simp_all [Bank.same]

theorem modSrc_frame (s : State) (n : Nat) (f : EvtSource → EvtSource) : SameExcept [.events] s (s.modSrc n f) :=
  modEvents_frame s _

theorem modTgt_frame (s : State) (n : Nat) (f : EvtTarget → EvtTarget) : SameExcept [.events] s (s.modTgt n f) :=
  modEvents_frame s _

theorem modFaults_frame (s : State) (f : Faults → Faults) : SameExcept [.faults] s (s.modFaults f) := by
  intro b hb; cases b <;> simp_all [Bank.same]

theorem modZ_frame (s : State) (f : ZitherSt → ZitherSt) : SameExcept [.zither] s (s.modZ f) := by
  intro b hb; cases b <;> simp_all [Bank.same]

theorem modCan_frame (s : State) (n : Nat) (f : CanSt → CanSt) : SameExcept [.can] s (s.modCan n f) := by
  intro b hb; cases b <;> simp_all [Bank.same]

theorem modDie_frame (s : State) (n : Nat) (f : DieSt → DieSt) : SameExcept [.dies] s (s.modDie n f) := by
  intro b hb; cases b <;> simp_all [Bank.same]

theorem modCourse_frame (s : State) (n : Nat) (f : Course → Course) : SameExcept [.courses] s (s.modCourse n f) := by
  intro b hb; cases b <;> simp_all [Bank.same, State.modCourse, HostSt.registers]

theorem modUnit_frame (s : State) (u : Nat) (f : UnitSt → UnitSt) : SameExcept [.units] s (s.modUnit u f) := by
  intro b hb; cases b <;> simp_all [Bank.same]

theorem modCluster_frame (s : State) (c : Nat) (f : ClusterSt → ClusterSt) : SameExcept [.clusters] s (s.modCluster c f) := by
  intro b hb; cases b <;> simp_all [Bank.same]

theorem modSw_frame (s : State) (n : Nat) (f : SwitchSt → SwitchSt) : SameExcept [.switches] s (s.modSw n f) := by
  intro b hb; cases b <;> simp_all [Bank.same]

theorem modVent_frame (s : State) (n : Nat) (f : VentSt → VentSt) : SameExcept [.vents] s (s.modVent n f) := by
  intro b hb; cases b <;> simp_all [Bank.same]

theorem modFo_frame (s : State) (n : Nat) (f : OutputSt → OutputSt) : SameExcept [.outputs] s (s.modFo n f) := by
  intro b hb; cases b <;> simp_all [Bank.same]

theorem modLoop_frame (s : State) (n : Nat) (f : LoopSt → LoopSt) : SameExcept [.loops] s (s.modLoop n f) := by
  intro b hb; cases b <;> simp_all [Bank.same]

theorem modLedger_frame (s : State) (f : Ledger → Ledger) : SameExcept [.ledger] s (s.modLedger f) := by
  intro b hb; cases b <;> simp_all [Bank.same]

theorem modRec_frame (s : State) (f : Recorder → Recorder) : SameExcept [.recorder] s (s.modRec f) := by
  intro b hb; cases b <;> simp_all [Bank.same]

/-! ## Events -/

theorem writeRecord_frame (n p : Nat) (late : Bool) (time : Nat) (s : State) :
    SameExcept [.events] s (writeRecord n p late time s) := by
  unfold writeRecord
  simp only
  split
  · exact (modSrc_frame _ _ _).trans (modTgt_frame _ _ _)
  · split
    · exact ((modSrc_frame _ _ _).trans (modTgt_frame _ _ _)).trans (modEvents_frame _ _)
    · exact (modSrc_frame _ _ _).trans (modTgt_frame _ _ _)

theorem assertSource_frame (n p : Nat) (late : Bool) (time : Nat) (s : State) :
    SameExcept [.events] s (assertSource n p late time s) := by
  unfold assertSource
  simp only
  split
  · exact modSrc_frame _ _ _
  · exact writeRecord_frame _ _ _ _ _

theorem latchEvent_frame (d n code inst sev : Nat) (s : State) : SameExcept [.dies] s (latchEvent d n code inst sev s) :=
  modDie_frame _ _ _

theorem edgeAt_frame (time n inst code sev : Nat) (late : Bool) (s : State) :
    SameExcept [.events, .dies] s (edgeAt time n inst code sev late s) := by
  unfold edgeAt
  split
  · split
    · exact (latchEvent_frame _ _ _ _ _ _).mono (by simp)
    · exact (modSrc_frame _ _ _).mono (by simp)
  · exact (assertSource_frame _ _ _ _ _).mono (by simp)

theorem edge_frame (n inst code : Nat) (s : State) : SameExcept [.events, .dies] s (edge n inst code s) :=
  edgeAt_frame _ _ _ _ _ _ _

/-- An edge of a source that no power die owns touches the event controller only. -/
theorem edge_frame_own {n inst code : Nat} {s : State} (h : dieOfSource n = none) :
    SameExcept [.events] s (edge n inst code s) := by
  unfold edge edgeAt
  split
  · rw [h]; exact modSrc_frame _ _ _
  · exact assertSource_frame _ _ _ _ _

theorem setLevel_frame (n p : Nat) (on : Bool) (s : State) : SameExcept [.events] s (setLevel n p on s) := by
  unfold setLevel
  simp only
  split
  · exact modSrc_frame _ _ _
  · split
    · exact .refl _ s
    · split
      · exact modSrc_frame _ _ _
      · exact (modSrc_frame _ _ _).trans (assertSource_frame _ _ _ _ _)

theorem claimRecords_frame (t k : Nat) (s : State) : SameExcept [.events] s (claimRecords t k s) := by
  unfold claimRecords
  simp only
  split
  · exact modTgt_frame _ _ _
  · refine (modTgt_frame _ _ _).trans (SameExcept.foldl _ (fun s a => ?_) _ _)
    split
    · exact assertSource_frame _ _ _ _ _
    · exact .refl _ s

theorem acknowledge_frame (t r : Nat) (s : State) : SameExcept [.events] s (acknowledge t r s) := by
  unfold acknowledge
  simp only
  refine (modTgt_frame _ _ _).trans (SameExcept.foldl _ (fun s a => ?_) _ _)
  split
  · split
    · exact (modSrc_frame _ _ _).trans (assertSource_frame _ _ _ _ _)
    · exact (modSrc_frame _ _ _).trans (modSrc_frame _ _ _)
  · exact modSrc_frame _ _ _

/-! ## Faults -/

theorem intakePut_frame (e : IntakeEntry) (s : State) : SameExcept [.faults] s (intakePut e s) := modFaults_frame _ _

theorem fault_frame (n inst code sev ctx : Nat) (s : State) :
    SameExcept [.events, .dies, .faults] s (fault n inst code sev ctx s) := by
  unfold fault
  simp only
  split
  · exact (edgeAt_frame _ _ _ _ _ _ _).mono (by simp)
  · exact ((edgeAt_frame _ _ _ _ _ _ _).mono (by simp)).trans ((intakePut_frame _ _).mono (by simp))

theorem faultLevel_frame (n inst code sev : Nat) (s : State) :
    SameExcept [.events, .dies, .faults] s (faultLevel n inst code sev s) := by
  unfold faultLevel
  simp only
  split
  · exact ((modSrc_frame _ _ _).mono (by simp)).trans ((latchEvent_frame _ _ _ _ _ _).mono (by simp))
  · exact ((setLevel_frame _ _ _ _).mono (by simp)).trans ((intakePut_frame _ _).mono (by simp))

theorem faultCritical_frame (n inst code : Nat) (vals : List Int) (s : State) :
    SameExcept [.events, .dies, .faults] s (faultCritical n inst code vals s) :=
  ((modFaults_frame _ _).mono (by simp)).trans (fault_frame _ _ _ _ _ _)

theorem closeFault_frame (cls inst : Nat) (s : State) : SameExcept [.events, .faults] s (closeFault cls inst s) := by
  unfold closeFault
  split
  · exact .refl _ s
  · exact ((modFaults_frame _ _).mono (by simp)).trans ((edge_frame_own rfl).mono (by simp))

theorem closeCleared_frame (s : State) : SameExcept [.events, .faults] s (closeCleared s) := by
  unfold closeCleared
  refine SameExcept.foldl _ (fun s f => ?_) _ _
  split
  · exact closeFault_frame _ _ _
  · exact .refl _ s

/-! ## Device messages -/

theorem putMsg_frame (n op tag : Nat) (p : List Byte) (s : State) : SameExcept [.courses] s (putMsg n op tag p s) :=
  modCourse_frame _ _ _

theorem addPending_frame (n op : Nat) (p : List Byte) (s : State) :
    SameExcept [.courses, .events] s (addPending n op p s) := by
  unfold addPending
  simp only
  split
  · exact (modCourse_frame _ _ _).mono (by simp)
  · split
    · exact ((modCourse_frame _ _ _).mono (by simp)).trans ((edge_frame_own rfl).mono (by simp))
    · exact (modCourse_frame _ _ _).mono (by simp)

theorem notify_frame (n op : Nat) (p : List Byte) (s : State) : SameExcept [.courses, .events] s (notify n op p s) := by
  unfold notify
  split
  · exact .refl _ s
  · split
    · exact (putMsg_frame _ _ _ _ _).mono (by simp)
    · exact addPending_frame _ _ _ _

theorem sendZ_frame (type dst : Nat) (body : List Int) (s : State) : SameExcept [.can, .zither] s (sendZ type dst body s) :=
  ((SameExcept.foldl _ (fun s n => modCan_frame s n _) _ s).mono (by simp)).trans ((modZ_frame _ _).mono (by simp))

theorem sendReply_frame (h : Hdr) (op : Nat) (r : Reply) (cache : Bool) (s : State) :
    SameExcept [.courses] s (sendReply h op r cache s) := by
  unfold sendReply
  simp only
  split
  · exact (putMsg_frame _ _ _ _ _).trans (modCourse_frame _ _ _)
  · exact putMsg_frame _ _ _ _ _

theorem sendNak_frame (n reason : Nat) (s : State) : SameExcept [.courses, .events] s (sendNak n reason s) := by
  unfold sendNak
  simp only
  split <;> split <;> first
    | exact .refl _ s
    | exact (((modCourse_frame _ _ _).mono (by simp)).trans (notify_frame _ _ _ _)).trans ((edge_frame_own rfl).mono (by simp))

/-! ## The end of a step -/

theorem ringLevels_frame (s : State) : SameExcept [.events] s (ringLevels s) := by
  unfold ringLevels
  split
  · exact .refl _ s
  · refine SameExcept.foldl _ (fun s n => ?_) _ _
    simp only
    repeat' split
    all_goals first | exact .refl _ s | exact setLevel_frame _ _ _ _

theorem gatewayLevels_frame (s : State) : SameExcept [.events] s (gatewayLevels s) := by
  unfold gatewayLevels
  split
  · exact .refl _ s
  · refine SameExcept.foldl _ (fun s n => ?_) _ _
    simp only
    split
    · exact .refl _ s
    · exact setLevel_frame _ _ _ _

theorem signals_frame (s : State) : SameExcept [.events] s (signals s) := by
  unfold signals
  split
  · exact .refl _ s
  · exact modEvents_frame _ _

theorem sendIsobus_frame (c kind course : Nat) (bs : List Byte) (s : State) :
    SameExcept [.can] s (sendIsobus c kind course bs s) := by
  unfold sendIsobus
  split
  · exact modCan_frame _ _ _
  · exact .refl _ s

theorem isobusRecords_frame (s : State) : SameExcept [.events, .can] s (isobusRecords s) := by
  unfold isobusRecords
  split
  · exact .refl _ s
  · split
    · simp only
      refine SameExcept.trans ?_ ((signals_frame _).mono (by simp))
      refine SameExcept.trans ?_ ((sendIsobus_frame _ _ _ _ _).mono (by simp))
      refine SameExcept.trans ?_ ((modEvents_frame _ _).mono (by simp))
      exact ((claimRecords_frame _ _ _).trans (modTgt_frame _ _ _)).mono (by simp)
    · exact .refl _ s

theorem controlChange_frame (s : State) : SameExcept [.can, .zither] s (controlChange s) := by
  unfold controlChange
  split
  · exact ((modZ_frame _ _).mono (by simp)).trans (sendZ_frame _ _ _ _)
  · exact .refl _ s

theorem tokenWatch_frame (s : State) : SameExcept [.zither] s (tokenWatch s) := by
  unfold tokenWatch
  simp only
  split <;> split <;> first | exact .refl _ s | exact modZ_frame _ _

theorem SameExcept.toEnd {bs : List Bank} {s t : State} (h : SameExcept bs s t) (hb : ∀ b, b ∈ bs → b ∈ endBanks) :
    SameExcept endBanks s t := h.mono hb

/-- The end of a step touches nothing but `endBanks`. -/
theorem settle_frame (s0 s : State) : SameExcept endBanks s (settle s0 s) := by
  have h : SameExcept endBanks s
      (isobusRecords (signals (gatewayLevels (ringLevels (closeCleared (tokenWatch (controlChange s))))))) := by
    refine ((controlChange_frame s).toEnd (by simp [endBanks])).trans ?_
    refine ((tokenWatch_frame _).toEnd (by simp [endBanks])).trans ?_
    refine ((closeCleared_frame _).toEnd (by simp [endBanks])).trans ?_
    refine ((ringLevels_frame _).toEnd (by simp [endBanks])).trans ?_
    refine ((gatewayLevels_frame _).toEnd (by simp [endBanks])).trans ?_
    refine ((signals_frame _).toEnd (by simp [endBanks])).trans ?_
    exact (isobusRecords_frame _).toEnd (by simp [endBanks])
  unfold settle
  simp only
  split
  · exact h
  · refine h.trans ?_
    intro b hb; cases b <;> simp_all [Bank.same, endBanks, HostSt.registers]

/-- Time alone moves DEVTIME, the odometers, the vent budgets and the audit's sums, nothing else. -/
theorem advance_frame (s : State) (t : Nat) : SameExcept [.time, .units, .vents, .ledger] s (s.advance t) := by
  unfold State.advance
  split
  · exact .refl _ s
  · intro b hb; cases b <;> simp_all [Bank.same]

end Sys2Proof.Machine
end

