-- ==== Sys2Proof/Laws/Steps.lean ====
section
/-! SUPPORT. What a step answers: its end and the time before it leave these fields and elements as they stand, an event answers a
next state, and a request that is accepted is carried out. -/

namespace Sys2Proof.Machine

/-! ## The end of a step, field by field -/

@[simp] theorem settle_devtime (s0 s : State) : (settle s0 s).devtime = s.devtime := settle_frame s0 s .time (by decide)
@[simp] theorem settle_cfg (s0 s : State) : (settle s0 s).cfg = s.cfg := settle_frame s0 s .cfg (by decide)
@[simp] theorem settle_power (s0 s : State) : (settle s0 s).power = s.power := settle_frame s0 s .power (by decide)
@[simp] theorem settle_start (s0 s : State) : (settle s0 s).start = s.start := settle_frame s0 s .start (by decide)
@[simp] theorem settle_storage (s0 s : State) : (settle s0 s).storage = s.storage := settle_frame s0 s .storage (by decide)
@[simp] theorem settle_ledger (s0 s : State) : (settle s0 s).ledger = s.ledger := settle_frame s0 s .ledger (by decide)
@[simp] theorem settle_units (s0 s : State) : (settle s0 s).units = s.units := settle_frame s0 s .units (by decide)
@[simp] theorem settle_clusters (s0 s : State) : (settle s0 s).clusters = s.clusters := settle_frame s0 s .clusters (by decide)
@[simp] theorem settle_boost (s0 s : State) : (settle s0 s).boost = s.boost := settle_frame s0 s .boost (by decide)
@[simp] theorem settle_switches (s0 s : State) : (settle s0 s).switches = s.switches := settle_frame s0 s .switches (by decide)
@[simp] theorem settle_vents (s0 s : State) : (settle s0 s).vents = s.vents := settle_frame s0 s .vents (by decide)
@[simp] theorem settle_ventHeld (s0 s : State) : (settle s0 s).ventHeld = s.ventHeld := settle_frame s0 s .ventHeld (by decide)
@[simp] theorem settle_inputs (s0 s : State) : (settle s0 s).inputs = s.inputs := settle_frame s0 s .inputs (by decide)
@[simp] theorem settle_outputs (s0 s : State) : (settle s0 s).outputs = s.outputs := settle_frame s0 s .outputs (by decide)
@[simp] theorem settle_analogs (s0 s : State) : (settle s0 s).analogs = s.analogs := settle_frame s0 s .analogs (by decide)
@[simp] theorem settle_groups (s0 s : State) : (settle s0 s).groups = s.groups := settle_frame s0 s .groups (by decide)
@[simp] theorem settle_dies (s0 s : State) : (settle s0 s).dies = s.dies := settle_frame s0 s .dies (by decide)
@[simp] theorem settle_loops (s0 s : State) : (settle s0 s).loops = s.loops := settle_frame s0 s .loops (by decide)
@[simp] theorem settle_nav (s0 s : State) : (settle s0 s).nav = s.nav := settle_frame s0 s .nav (by decide)
@[simp] theorem settle_odo (s0 s : State) : (settle s0 s).odo = s.odo := settle_frame s0 s .odo (by decide)
@[simp] theorem settle_cov (s0 s : State) : (settle s0 s).cov = s.cov := settle_frame s0 s .cov (by decide)
@[simp] theorem settle_recorder (s0 s : State) : (settle s0 s).recorder = s.recorder := settle_frame s0 s .recorder (by decide)
@[simp] theorem settle_limp (s0 s : State) : (settle s0 s).limp = s.limp := settle_frame s0 s .limp (by decide)
@[simp] theorem settle_freeCount (s0 s : State) : (settle s0 s).freeCount = s.freeCount := settle_frame s0 s .freeCount (by decide)
@[simp] theorem settle_pending (s0 s : State) : (settle s0 s).pending = s.pending := settle_frame s0 s .pending (by decide)
@[simp] theorem settle_loopStream (s0 s : State) : (settle s0 s).loopStream = s.loopStream := (settle_frame s0 s .loopStream (by decide)).1
@[simp] theorem settle_loopSentAt (s0 s : State) : (settle s0 s).loopSentAt = s.loopSentAt := (settle_frame s0 s .loopStream (by decide)).2
@[simp] theorem settle_rates (s0 s : State) : (settle s0 s).rates = s.rates := (settle_frame s0 s .rates (by decide)).1
@[simp] theorem settle_trims (s0 s : State) : (settle s0 s).trims = s.trims := (settle_frame s0 s .rates (by decide)).2.1
@[simp] theorem settle_rateRaisedAt (s0 s : State) : (settle s0 s).rateRaisedAt = s.rateRaisedAt := (settle_frame s0 s .rates (by decide)).2.2.1
@[simp] theorem settle_pressureBad (s0 s : State) : (settle s0 s).pressureBad = s.pressureBad := (settle_frame s0 s .rates (by decide)).2.2.2.1
@[simp] theorem settle_pwmRef (s0 s : State) : (settle s0 s).pwmRef = s.pwmRef := (settle_frame s0 s .rates (by decide)).2.2.2.2
@[simp] theorem settle_courses (s0 s : State) : (settle s0 s).host.courses = s.host.courses := settle_frame s0 s .courses (by decide)
theorem registers_outputsEnabled {a b : HostSt} (h : a.registers = b.registers) : a.outputsEnabled = b.outputsEnabled := by
  have e := congrArg HostSt.outputsEnabled h; exact e
theorem registers_silent {a b : HostSt} (h : a.registers = b.registers) : a.silent = b.silent := by
  have e := congrArg HostSt.silent h; exact e
theorem registers_spiErr {a b : HostSt} (h : a.registers = b.registers) : a.spiErr = b.spiErr := by
  have e := congrArg HostSt.spiErr h; exact e
theorem registers_irqEn {a b : HostSt} (h : a.registers = b.registers) : a.irqEn = b.irqEn := by
  have e := congrArg HostSt.irqEn h; exact e
theorem registers_badXfers {a b : HostSt} (h : a.registers = b.registers) : a.badXfers = b.badXfers := by
  have e := congrArg HostSt.badXfers h; exact e
theorem registers_beat {a b : HostSt} (h : a.registers = b.registers) : a.beat = b.beat := by
  have e := congrArg HostSt.beat h; exact e
theorem registers_beatAt {a b : HostSt} (h : a.registers = b.registers) : a.beatAt = b.beatAt := by
  have e := congrArg HostSt.beatAt h; exact e
theorem registers_beatSeen {a b : HostSt} (h : a.registers = b.registers) : a.beatSeen = b.beatSeen := by
  have e := congrArg HostSt.beatSeen h; exact e
theorem registers_devtimeHi {a b : HostSt} (h : a.registers = b.registers) : a.devtimeHi = b.devtimeHi := by
  have e := congrArg HostSt.devtimeHi h; exact e
theorem registers_snap {a b : HostSt} (h : a.registers = b.registers) : a.snap = b.snap := by
  have e := congrArg HostSt.snap h; exact e
theorem registers_snapNs {a b : HostSt} (h : a.registers = b.registers) : a.snapNs = b.snapNs := by
  have e := congrArg HostSt.snapNs h; exact e
theorem registers_snapCount {a b : HostSt} (h : a.registers = b.registers) : a.snapCount = b.snapCount := by
  have e := congrArg HostSt.snapCount h; exact e
theorem registers_epoch {a b : HostSt} (h : a.registers = b.registers) : a.epoch = b.epoch := by
  have e := congrArg HostSt.epoch h; exact e
theorem registers_master {a b : HostSt} (h : a.registers = b.registers) : a.master = b.master := by
  have e := congrArg HostSt.master h; exact e
theorem registers_masterAuto {a b : HostSt} (h : a.registers = b.registers) : a.masterAuto = b.masterAuto := by
  have e := congrArg HostSt.masterAuto h; exact e
theorem registers_safeLeft {a b : HostSt} (h : a.registers = b.registers) : a.safeLeft = b.safeLeft := by
  have e := congrArg HostSt.safeLeft h; exact e
theorem registers_ringBytes {a b : HostSt} (h : a.registers = b.registers) : a.ringBytes = b.ringBytes := by
  have e := congrArg HostSt.ringBytes h; exact e

theorem settle_registers (s0 s : State) : (settle s0 s).host.registers = s.host.registers := settle_frame s0 s .session (by decide)
@[simp] theorem settle_host_outputsEnabled (s0 s : State) : (settle s0 s).host.outputsEnabled = s.host.outputsEnabled :=
  registers_outputsEnabled (settle_registers s0 s)
@[simp] theorem settle_host_silent (s0 s : State) : (settle s0 s).host.silent = s.host.silent :=
  registers_silent (settle_registers s0 s)
@[simp] theorem settle_host_spiErr (s0 s : State) : (settle s0 s).host.spiErr = s.host.spiErr :=
  registers_spiErr (settle_registers s0 s)
@[simp] theorem settle_host_irqEn (s0 s : State) : (settle s0 s).host.irqEn = s.host.irqEn :=
  registers_irqEn (settle_registers s0 s)
@[simp] theorem settle_host_badXfers (s0 s : State) : (settle s0 s).host.badXfers = s.host.badXfers :=
  registers_badXfers (settle_registers s0 s)
@[simp] theorem settle_host_beat (s0 s : State) : (settle s0 s).host.beat = s.host.beat :=
  registers_beat (settle_registers s0 s)
@[simp] theorem settle_host_beatAt (s0 s : State) : (settle s0 s).host.beatAt = s.host.beatAt :=
  registers_beatAt (settle_registers s0 s)
@[simp] theorem settle_host_beatSeen (s0 s : State) : (settle s0 s).host.beatSeen = s.host.beatSeen :=
  registers_beatSeen (settle_registers s0 s)
@[simp] theorem settle_host_devtimeHi (s0 s : State) : (settle s0 s).host.devtimeHi = s.host.devtimeHi :=
  registers_devtimeHi (settle_registers s0 s)
@[simp] theorem settle_host_snap (s0 s : State) : (settle s0 s).host.snap = s.host.snap :=
  registers_snap (settle_registers s0 s)
@[simp] theorem settle_host_snapNs (s0 s : State) : (settle s0 s).host.snapNs = s.host.snapNs :=
  registers_snapNs (settle_registers s0 s)
@[simp] theorem settle_host_snapCount (s0 s : State) : (settle s0 s).host.snapCount = s.host.snapCount :=
  registers_snapCount (settle_registers s0 s)
@[simp] theorem settle_host_epoch (s0 s : State) : (settle s0 s).host.epoch = s.host.epoch :=
  registers_epoch (settle_registers s0 s)
@[simp] theorem settle_host_master (s0 s : State) : (settle s0 s).host.master = s.host.master :=
  registers_master (settle_registers s0 s)
@[simp] theorem settle_host_masterAuto (s0 s : State) : (settle s0 s).host.masterAuto = s.host.masterAuto :=
  registers_masterAuto (settle_registers s0 s)
@[simp] theorem settle_host_safeLeft (s0 s : State) : (settle s0 s).host.safeLeft = s.host.safeLeft :=
  registers_safeLeft (settle_registers s0 s)
@[simp] theorem settle_host_ringBytes (s0 s : State) : (settle s0 s).host.ringBytes = s.host.ringBytes :=
  registers_ringBytes (settle_registers s0 s)
@[simp] theorem settle_unit (s0 s : State) (k : Nat) : (settle s0 s).unit k = s.unit k := by simp [State.unit]
@[simp] theorem settle_cluster (s0 s : State) (k : Nat) : (settle s0 s).cluster k = s.cluster k := by simp [State.cluster]
@[simp] theorem settle_boostOf (s0 s : State) (k : Nat) : (settle s0 s).boostOf k = s.boostOf k := by simp [State.boostOf]
@[simp] theorem settle_sw (s0 s : State) (k : Nat) : (settle s0 s).sw k = s.sw k := by simp [State.sw]
@[simp] theorem settle_vent (s0 s : State) (k : Nat) : (settle s0 s).vent k = s.vent k := by simp [State.vent]
@[simp] theorem settle_fi (s0 s : State) (k : Nat) : (settle s0 s).fi k = s.fi k := by simp [State.fi]
@[simp] theorem settle_fo (s0 s : State) (k : Nat) : (settle s0 s).fo k = s.fo k := by simp [State.fo]
@[simp] theorem settle_ai (s0 s : State) (k : Nat) : (settle s0 s).ai k = s.ai k := by simp [State.ai]
@[simp] theorem settle_group (s0 s : State) (k : Nat) : (settle s0 s).group k = s.group k := by simp [State.group]
@[simp] theorem settle_die (s0 s : State) (k : Nat) : (settle s0 s).die k = s.die k := by simp [State.die]
@[simp] theorem settle_loop (s0 s : State) (k : Nat) : (settle s0 s).loop k = s.loop k := by simp [State.loop]
@[simp] theorem settle_course (s0 s : State) (k : Nat) : (settle s0 s).course k = s.course k := by simp [State.course]
@[simp] theorem settle_chan (s0 s : State) (k : Nat) : (settle s0 s).chan k = s.chan k := by simp [State.chan]
@[simp] theorem settle_sentOf (s0 s : State) (k : Nat) : (settle s0 s).sentOf k = s.sentOf k := by simp [State.sentOf]

/-! ## The passage of time, field by field -/

@[simp] theorem advance_cfg (s : State) (t : Nat) : (s.advance t).cfg = s.cfg := advance_frame s t .cfg (by decide)
@[simp] theorem advance_power (s : State) (t : Nat) : (s.advance t).power = s.power := advance_frame s t .power (by decide)
@[simp] theorem advance_start (s : State) (t : Nat) : (s.advance t).start = s.start := advance_frame s t .start (by decide)
@[simp] theorem advance_storage (s : State) (t : Nat) : (s.advance t).storage = s.storage := advance_frame s t .storage (by decide)
@[simp] theorem advance_clusters (s : State) (t : Nat) : (s.advance t).clusters = s.clusters := advance_frame s t .clusters (by decide)
@[simp] theorem advance_boost (s : State) (t : Nat) : (s.advance t).boost = s.boost := advance_frame s t .boost (by decide)
@[simp] theorem advance_switches (s : State) (t : Nat) : (s.advance t).switches = s.switches := advance_frame s t .switches (by decide)
@[simp] theorem advance_ventHeld (s : State) (t : Nat) : (s.advance t).ventHeld = s.ventHeld := advance_frame s t .ventHeld (by decide)
@[simp] theorem advance_inputs (s : State) (t : Nat) : (s.advance t).inputs = s.inputs := advance_frame s t .inputs (by decide)
@[simp] theorem advance_outputs (s : State) (t : Nat) : (s.advance t).outputs = s.outputs := advance_frame s t .outputs (by decide)
@[simp] theorem advance_analogs (s : State) (t : Nat) : (s.advance t).analogs = s.analogs := advance_frame s t .analogs (by decide)
@[simp] theorem advance_groups (s : State) (t : Nat) : (s.advance t).groups = s.groups := advance_frame s t .groups (by decide)
@[simp] theorem advance_dies (s : State) (t : Nat) : (s.advance t).dies = s.dies := advance_frame s t .dies (by decide)
@[simp] theorem advance_loops (s : State) (t : Nat) : (s.advance t).loops = s.loops := advance_frame s t .loops (by decide)
@[simp] theorem advance_nav (s : State) (t : Nat) : (s.advance t).nav = s.nav := advance_frame s t .nav (by decide)
@[simp] theorem advance_odo (s : State) (t : Nat) : (s.advance t).odo = s.odo := advance_frame s t .odo (by decide)
@[simp] theorem advance_cov (s : State) (t : Nat) : (s.advance t).cov = s.cov := advance_frame s t .cov (by decide)
@[simp] theorem advance_recorder (s : State) (t : Nat) : (s.advance t).recorder = s.recorder := advance_frame s t .recorder (by decide)
@[simp] theorem advance_limp (s : State) (t : Nat) : (s.advance t).limp = s.limp := advance_frame s t .limp (by decide)
@[simp] theorem advance_freeCount (s : State) (t : Nat) : (s.advance t).freeCount = s.freeCount := advance_frame s t .freeCount (by decide)
@[simp] theorem advance_pending (s : State) (t : Nat) : (s.advance t).pending = s.pending := advance_frame s t .pending (by decide)
@[simp] theorem advance_events (s : State) (t : Nat) : (s.advance t).events = s.events := advance_frame s t .events (by decide)
@[simp] theorem advance_faults (s : State) (t : Nat) : (s.advance t).faults = s.faults := advance_frame s t .faults (by decide)
@[simp] theorem advance_can (s : State) (t : Nat) : (s.advance t).can = s.can := advance_frame s t .can (by decide)
@[simp] theorem advance_zither (s : State) (t : Nat) : (s.advance t).zither = s.zither := advance_frame s t .zither (by decide)
@[simp] theorem advance_host (s : State) (t : Nat) : (s.advance t).host = s.host := by unfold State.advance; split <;> rfl
theorem advance_devtime (s : State) (t : Nat) : (s.advance t).devtime = max s.devtime t := by
  unfold State.advance; split <;> simp <;> omega
theorem advance_le {s : State} {t : Nat} (h : t ≤ s.devtime) : s.advance t = s := by simp [State.advance, h]
@[simp] theorem advance_cluster (s : State) (t k : Nat) : (s.advance t).cluster k = s.cluster k := by simp [State.cluster]
@[simp] theorem advance_boostOf (s : State) (t k : Nat) : (s.advance t).boostOf k = s.boostOf k := by simp [State.boostOf]
@[simp] theorem advance_sw (s : State) (t k : Nat) : (s.advance t).sw k = s.sw k := by simp [State.sw]
@[simp] theorem advance_fi (s : State) (t k : Nat) : (s.advance t).fi k = s.fi k := by simp [State.fi]
@[simp] theorem advance_fo (s : State) (t k : Nat) : (s.advance t).fo k = s.fo k := by simp [State.fo]
@[simp] theorem advance_ai (s : State) (t k : Nat) : (s.advance t).ai k = s.ai k := by simp [State.ai]
@[simp] theorem advance_group (s : State) (t k : Nat) : (s.advance t).group k = s.group k := by simp [State.group]
@[simp] theorem advance_die (s : State) (t k : Nat) : (s.advance t).die k = s.die k := by simp [State.die]
@[simp] theorem advance_loop (s : State) (t k : Nat) : (s.advance t).loop k = s.loop k := by simp [State.loop]
@[simp] theorem advance_course (s : State) (t k : Nat) : (s.advance t).course k = s.course k := by simp [State.course]
@[simp] theorem advance_src (s : State) (t k : Nat) : (s.advance t).src k = s.src k := by simp [State.src]
@[simp] theorem advance_tgt (s : State) (t k : Nat) : (s.advance t).tgt k = s.tgt k := by simp [State.tgt]
@[simp] theorem advance_canOf (s : State) (t k : Nat) : (s.advance t).canOf k = s.canOf k := by simp [State.canOf]
@[simp] theorem advance_chan (s : State) (t k : Nat) : (s.advance t).chan k = s.chan k := by simp [State.chan]
@[simp] theorem advance_sentOf (s : State) (t k : Nat) : (s.advance t).sentOf k = s.sentOf k := by simp [State.sentOf]

/-! ## What a step answers -/

theorem at_next (t : Nat) (f : State → State) (s : State) : at_ t f s = .next (settle s (f (s.advance t))) := rfl

theorem about_next {kind : String} {k n t : Nat} {f : State → State} {s : State} (h : k < n) :
    about kind k n t f s = .next (settle s (f (s.advance t))) := by simp [about, h, at_next]

theorem about_refused {kind : String} {k n t : Nat} {f : State → State} {s : State} (h : ¬k < n) :
    about kind k n t f s = .refused (.noSuchElement kind k) := by simp [about, h]

@[simp] theorem modCourse_isobusLink (s : State) (n : Nat) (f : Course → Course) : (s.modCourse n f).isobusLink = s.isobusLink := rfl

/-- A change of a course that leaves its reply ring, its long request and its mark of waiting alone does not change whether the next request may be
taken. -/
theorem canTake_modCourse {s : State} {n : Nat} {f : Course → Course} (h1 : (f (s.course n)).long = (s.course n).long)
    (h2 : (f (s.course n)).ring = (s.course n).ring) (h3 : (f (s.course n)).rplWr = (s.course n).rplWr)
    (h4 : (f (s.course n)).rplRd = (s.course n).rplRd) (h5 : (f (s.course n)).paused = (s.course n).paused) :
    canTake (s.modCourse n f) n = canTake s n := by
  simp [canTake, hasRoom, awake, Course.used, coreOut, restarting, h1, h2, h3, h4, h5]

theorem modCourse_modCourse (s : State) (n : Nat) (f g : Course → Course) :
    (s.modCourse n f).modCourse n g = s.modCourse n fun c => g (f c) := by
  simp [State.modCourse, State.modHost]

theorem modCourse_congr {s : State} {n : Nat} {f g : Course → Course} (h : f (s.course n) = g (s.course n)) :
    s.modCourse n f = s.modCourse n g := by
  have h' : f (tget s.host.courses {} n) = g (tget s.host.courses {} n) := h
  simp [State.modCourse, State.modHost, tmod, h']

/-- A request that is accepted is carried out in `takenState`. -/
theorem request_runs {r : Req} {self : Instr} {h : Hdr} {s : State} (ha : accepts h (s.advance h.t) = true)
    (hr : r.op ≠ 258) : request r self h s = .next (settle s (r.run h (takenState h (s.advance h.t)))) := by
  generalize hs : s.advance h.t = s1 at ha
  simp only [accepts, arrives, Bool.and_eq_true, decide_eq_true_eq, Bool.not_eq_true', Option.isNone_iff_eq_none,
    List.isEmpty_iff] at ha
  obtain ⟨⟨⟨⟨⟨⟨⟨⟨⟨⟨⟨⟨hc, hl⟩, ht⟩, hi⟩, hst⟩, hh⟩, hct⟩, h8⟩, hlen⟩, hcrc⟩, hep⟩, hsq⟩, hex⟩ := ha
  have hf (f : Course → Course) (h1 : (f (s1.course h.course)).long = (s1.course h.course).long)
      (h2 : (f (s1.course h.course)).ring = (s1.course h.course).ring)
      (h3 : (f (s1.course h.course)).rplWr = (s1.course h.course).rplWr)
      (h4 : (f (s1.course h.course)).rplRd = (s1.course h.course).rplRd)
      (h5 : (f (s1.course h.course)).paused = (s1.course h.course).paused) :
      canTake (s1.modCourse h.course f) h.course = true := by
    rw [canTake_modCourse h1 h2 h3 h4 h5]; exact hct
  have hw (f : Course → Course) : waitsSeq2 r (s1.modCourse h.course f) = false := by
    have : restarting (s1.modCourse h.course f) 8 = restarting s1 8 := rfl
    simp [waitsSeq2, this, h8]
  have hl' : ¬1024 < h.len := by omega
  have ha' : seqAhead h.seq h.seq = 0 := by
    have : h.seq % 65536 = h.seq := Nat.mod_eq_of_lt hsq
    simp [seqAhead, this]
  simp only [request, hc, if_true, at_next, hs, arrive, hl, ht, hi, hst, takeOrHold, Bool.false_eq_true, if_false,
    Option.isSome_none, State.modCourse_course_self, hh, List.isEmpty_nil, Bool.true_and, hf, hw, take, hl', hcrc,
    modCourse_isobusLink, modCourse_modCourse, hr, State.modCourse_host_epoch, hep, bne_self_eq_false,
    Bool.not_true, Bool.or_self, decide_false, Option.isNone_none, ← hex, ha']
  congr 3
@[simp] theorem takenState_cfg (h : Hdr) (s : State) : (takenState h s).cfg = s.cfg := rfl
@[simp] theorem takenState_power (h : Hdr) (s : State) : (takenState h s).power = s.power := rfl
@[simp] theorem takenState_start (h : Hdr) (s : State) : (takenState h s).start = s.start := rfl
@[simp] theorem takenState_storage (h : Hdr) (s : State) : (takenState h s).storage = s.storage := rfl
@[simp] theorem takenState_ledger (h : Hdr) (s : State) : (takenState h s).ledger = s.ledger := rfl
@[simp] theorem takenState_units (h : Hdr) (s : State) : (takenState h s).units = s.units := rfl
@[simp] theorem takenState_clusters (h : Hdr) (s : State) : (takenState h s).clusters = s.clusters := rfl
@[simp] theorem takenState_boost (h : Hdr) (s : State) : (takenState h s).boost = s.boost := rfl
@[simp] theorem takenState_switches (h : Hdr) (s : State) : (takenState h s).switches = s.switches := rfl
@[simp] theorem takenState_vents (h : Hdr) (s : State) : (takenState h s).vents = s.vents := rfl
@[simp] theorem takenState_ventHeld (h : Hdr) (s : State) : (takenState h s).ventHeld = s.ventHeld := rfl
@[simp] theorem takenState_inputs (h : Hdr) (s : State) : (takenState h s).inputs = s.inputs := rfl
@[simp] theorem takenState_outputs (h : Hdr) (s : State) : (takenState h s).outputs = s.outputs := rfl
@[simp] theorem takenState_analogs (h : Hdr) (s : State) : (takenState h s).analogs = s.analogs := rfl
@[simp] theorem takenState_groups (h : Hdr) (s : State) : (takenState h s).groups = s.groups := rfl
@[simp] theorem takenState_dies (h : Hdr) (s : State) : (takenState h s).dies = s.dies := rfl
@[simp] theorem takenState_loops (h : Hdr) (s : State) : (takenState h s).loops = s.loops := rfl
@[simp] theorem takenState_loopStream (h : Hdr) (s : State) : (takenState h s).loopStream = s.loopStream := rfl
@[simp] theorem takenState_loopSentAt (h : Hdr) (s : State) : (takenState h s).loopSentAt = s.loopSentAt := rfl
@[simp] theorem takenState_rates (h : Hdr) (s : State) : (takenState h s).rates = s.rates := rfl
@[simp] theorem takenState_trims (h : Hdr) (s : State) : (takenState h s).trims = s.trims := rfl
@[simp] theorem takenState_rateRaisedAt (h : Hdr) (s : State) : (takenState h s).rateRaisedAt = s.rateRaisedAt := rfl
@[simp] theorem takenState_pressureBad (h : Hdr) (s : State) : (takenState h s).pressureBad = s.pressureBad := rfl
@[simp] theorem takenState_pwmRef (h : Hdr) (s : State) : (takenState h s).pwmRef = s.pwmRef := rfl
@[simp] theorem takenState_nav (h : Hdr) (s : State) : (takenState h s).nav = s.nav := rfl
@[simp] theorem takenState_odo (h : Hdr) (s : State) : (takenState h s).odo = s.odo := rfl
@[simp] theorem takenState_cov (h : Hdr) (s : State) : (takenState h s).cov = s.cov := rfl
@[simp] theorem takenState_events (h : Hdr) (s : State) : (takenState h s).events = s.events := rfl
@[simp] theorem takenState_faults (h : Hdr) (s : State) : (takenState h s).faults = s.faults := rfl
@[simp] theorem takenState_recorder (h : Hdr) (s : State) : (takenState h s).recorder = s.recorder := rfl
@[simp] theorem takenState_limp (h : Hdr) (s : State) : (takenState h s).limp = s.limp := rfl
@[simp] theorem takenState_can (h : Hdr) (s : State) : (takenState h s).can = s.can := rfl
@[simp] theorem takenState_zither (h : Hdr) (s : State) : (takenState h s).zither = s.zither := rfl
@[simp] theorem takenState_freeCount (h : Hdr) (s : State) : (takenState h s).freeCount = s.freeCount := rfl
@[simp] theorem takenState_pending (h : Hdr) (s : State) : (takenState h s).pending = s.pending := rfl
@[simp] theorem takenState_devtime (h : Hdr) (s : State) : (takenState h s).devtime = s.devtime := rfl
@[simp] theorem takenState_unit (h : Hdr) (s : State) (k : Nat) : (takenState h s).unit k = s.unit k := rfl
@[simp] theorem takenState_cluster (h : Hdr) (s : State) (k : Nat) : (takenState h s).cluster k = s.cluster k := rfl
@[simp] theorem takenState_boostOf (h : Hdr) (s : State) (k : Nat) : (takenState h s).boostOf k = s.boostOf k := rfl
@[simp] theorem takenState_sw (h : Hdr) (s : State) (k : Nat) : (takenState h s).sw k = s.sw k := rfl
@[simp] theorem takenState_vent (h : Hdr) (s : State) (k : Nat) : (takenState h s).vent k = s.vent k := rfl
@[simp] theorem takenState_fi (h : Hdr) (s : State) (k : Nat) : (takenState h s).fi k = s.fi k := rfl
@[simp] theorem takenState_fo (h : Hdr) (s : State) (k : Nat) : (takenState h s).fo k = s.fo k := rfl
@[simp] theorem takenState_ai (h : Hdr) (s : State) (k : Nat) : (takenState h s).ai k = s.ai k := rfl
@[simp] theorem takenState_group (h : Hdr) (s : State) (k : Nat) : (takenState h s).group k = s.group k := rfl
@[simp] theorem takenState_die (h : Hdr) (s : State) (k : Nat) : (takenState h s).die k = s.die k := rfl
@[simp] theorem takenState_loop (h : Hdr) (s : State) (k : Nat) : (takenState h s).loop k = s.loop k := rfl
@[simp] theorem takenState_src (h : Hdr) (s : State) (k : Nat) : (takenState h s).src k = s.src k := rfl
@[simp] theorem takenState_tgt (h : Hdr) (s : State) (k : Nat) : (takenState h s).tgt k = s.tgt k := rfl
@[simp] theorem takenState_canOf (h : Hdr) (s : State) (k : Nat) : (takenState h s).canOf k = s.canOf k := rfl
@[simp] theorem takenState_chan (h : Hdr) (s : State) (k : Nat) : (takenState h s).chan k = s.chan k := rfl
@[simp] theorem takenState_sentOf (h : Hdr) (s : State) (k : Nat) : (takenState h s).sentOf k = s.sentOf k := rfl
@[simp] theorem takenState_isobusLink (h : Hdr) (s : State) : (takenState h s).isobusLink = s.isobusLink := rfl
@[simp] theorem takenState_follower (h : Hdr) (s : State) : (takenState h s).follower = s.follower := rfl

/-- Taking a request does not change whether it is admitted: it changes no long request. -/
theorem admits_takenState (op courses : Nat) (h : Hdr) (s : State) : admits op courses h (takenState h s) = admits op courses h s := by
  have hl (n : Nat) : ((takenState h s).course n).long = (s.course n).long := by
    by_cases e : n = h.course
    · subst e; simp [takenState]
    · simp [takenState, State.modCourse_course_of_ne _ _ _ e]
  simp [admits, groupBusy, followerRefuses, hl]

/-- Table 14-1: a request that is known, admitted, of a permitted length and not refused by its own checks is not refused. -/
theorem fails_none {r : Req} {h : Hdr} {s : State} (ha : admits r.op r.courses h s = true) (hk : r.known = true)
    (hl : r.lenOk h.len = true) (hj : r.judge s = none) : r.fails h s = none := by
  simp only [admits, Bool.and_eq_true, Bool.or_eq_true, Bool.not_eq_true', beq_iff_eq] at ha
  obtain ⟨⟨⟨⟨⟨hm, hc⟩, hg⟩, hv⟩, hf⟩, hb⟩ := ha
  have h3 : ¬(s.start.maint = true ∧ h.course < 3) := by rintro ⟨h1, h2⟩; rcases hm with hm | hm
                                                         · simp [hm] at h1
                                                         · omega
  have h4 : ¬((s.start.maint = true ∧ groupOf r.op ≠ 1) ∧ groupOf r.op ≠ 11) := by
    rintro ⟨⟨h1, h2⟩, h5⟩; rcases hm with hm | hm
    · simp [hm] at h1
    · rcases hm.2 with e | e
      · exact h2 e
      · exact h5 e
  have h5 : (needsConfig (groupOf r.op) && !s.start.configActive) = false := by
    rcases hg with hg | hg <;> simp [hg]
  simp [Req.fails, h3, h4, h5, hk, hc, hl, hv, hf, hj, hb]

/-- A request that is not refused and answers at once. -/
theorem run_reply {r : Req} {h : Hdr} {s s1 : State} {x : Reply} (hf : r.fails h s = none) (he : r.effect s = (s1, some x)) :
    r.run h s = r.after (sendReply h r.op x true s1) := by simp [Req.run, hf, he]

/-- A request that is not refused and is long. -/
theorem run_long {r : Req} {h : Hdr} {s s1 : State} (hf : r.fails h s = none) (he : r.effect s = (s1, none)) :
    r.run h s = s1.modCourse h.course fun c => { c with long := some (h, r.op) } := by simp [Req.run, hf, he]

/-- A request that is refused has no effect but its reply. -/
theorem run_refused {r : Req} {h : Hdr} {s : State} {x : Reply} (hf : r.fails h s = some x) :
    r.run h s = sendReply h r.op x true s := by simp [Req.run, hf]

/-- A reply stands in its ring once it is sent. -/
theorem replied_sendReply (h : Hdr) (op : Nat) (r : Reply) (cache : Bool) (s : State) :
    Replied h op r (sendReply h op r cache s) := by
  unfold Replied sendReply
  cases cache <;> simp [putMsg]

/-- It stands there as long as the courses are left alone. -/
theorem Replied.of_courses {h : Hdr} {op : Nat} {r : Reply} {s t : State} (hr : Replied h op r s)
    (hc : t.host.courses = s.host.courses) : Replied h op r t := by
  unfold Replied State.course at *
  rw [hc]; exact hr

/-- A message in a ring stays there when another is written. -/
theorem Replied.putMsg {h : Hdr} {op : Nat} {r : Reply} {s : State} (hr : Replied h op r s) (n o tag : Nat) (p : List Byte) :
    Replied h op r (putMsg n o tag p s) := by
  obtain ⟨m, hm, h1⟩ := hr
  refine ⟨m, ?_, h1⟩
  by_cases e : h.course = n
  · subst e; simp [Machine.putMsg, hm]
  · simpa [Machine.putMsg, State.modCourse_course_of_ne _ _ _ e] using hm

end Sys2Proof.Machine
end

