-- ==== Sys2Proof/Tests/Slice0.lean ====
section
/-! SUPPORT. The author's own tests: well-formedness refuses an ill-formed term for each check, worked examples and check values of spec/,
and for every statement of the certificates a state and operands that meet the hypotheses of each of its clauses. -/

namespace Sys2Proof.Tests

open Sys2Proof.Machine

/-! ## Well-formed commands -/

theorem test_wf_header : List.all
    [({ course := 4 } : Hdr), { seq := 65536 }, { ack := 65536 }, { tag := 16777216 }, { epoch := 256 }, { len := 65536 }]
    (fun h => !h.wf) = true := by decide

theorem test_wf_zither_header : List.all [({ src := 4 } : ZHdr), { seq := 65536 }, { epoch := 256 }] (fun z => !z.wf) = true := by decide

theorem test_wf_refuses_1 : List.all (α := Instr)
    [.sysInfo { course := 4 }, .sysResync { course := 4 } {}, .cfgInfo { course := 4 }, .navStatusRead { course := 4 },
     .covFieldClose { course := 4 }, .covReconcile { course := 4 }, .swVentRead { course := 4 }, .swLimpFuseRead { course := 4 },
     .ioOutputRead { course := 4 } {}, .ioInputRead { course := 4 } {}, .ioAnalogRead { course := 4 }, .busSystemRead { course := 4 },
     .recFreeze { course := 4 }, .recThaw { course := 4 }, .mntInfo { course := 4 }, .cfgVerify { course := 4 } {},
     .mntFwCommit { course := 4 } {}, .sysReplay { course := 4 } 0 0 0, .sysReplay {} 256 0 0, .sysReplay {} 0 65536 0,
     .sysReplay {} 0 0 65536, .sysOutputs { course := 4 } 0 [], .sysOutputs {} 256 [], .sysPower { course := 4 } 0 0 [],
     .sysPower {} 256 0 [], .sysPower {} 0 4294967296 [], .sysReset { course := 4 } 0, .sysReset {} 4294967296,
     .sysTimeSet { course := 4 } 0 0 0, .sysTimeSet {} 4294967296 0 0, .sysTimeSet {} 0 65536 0, .sysTimeSet {} 0 0 4294967296,
     .cfgBegin { course := 4 } 0, .cfgBegin {} 4294967296, .mntFwBegin { course := 4 } 0, .mntFwBegin {} 4294967296,
     .cfgWrite { course := 4 } 0 [], .cfgWrite {} 4294967296 [], .cfgWrite {} 0 (List.replicate 1025 0),
     .covPolyLoad { course := 4 } 0 [], .covPolyLoad {} 4294967296 [], .covPolyLoad {} 0 (List.replicate 1025 0),
     .mntFwWrite { course := 4 } 0 [], .mntFwWrite {} 4294967296 [], .mntFwWrite {} 0 (List.replicate 1025 0),
     .cfgCommit { course := 4 } 0 {}, .cfgCommit {} 256 {}, .cfgRead { course := 4 } 0 0 0, .cfgRead {} 256 0 0,
     .cfgRead {} 0 4294967296 0, .cfgRead {} 0 0 4294967296, .navSubscribe { course := 4 } 0 0, .navSubscribe {} 256 0,
     .navSubscribe {} 0 256, .navNavbitsSelect { course := 4 } 0 0, .navNavbitsSelect {} 256 0, .navNavbitsSelect {} 0 256,
     .navRtcm { course := 4 } [], .navRtcm {} (List.replicate 1025 0), .navRetentionClear { course := 4 } 0]
    (fun i => !i.wf) = true := by decide +kernel

theorem test_wf_refuses_2 : List.all (α := Instr)
    [.navRetentionClear {} 4294967296, .covFieldOpen { course := 4 } 0 0 0 0 0 0, .covFieldOpen {} 4294967296 0 0 0 0 0,
     .covFieldOpen {} 0 9223372036854775808 0 0 0 0, .covFieldOpen {} 0 (-9223372036854775809) 0 0 0 0,
     .covFieldOpen {} 0 0 9223372036854775808 0 0 0, .covFieldOpen {} 0 0 (-9223372036854775809) 0 0 0,
     .covFieldOpen {} 0 0 0 2147483648 0 0, .covFieldOpen {} 0 0 0 (-2147483649) 0 0, .covFieldOpen {} 0 0 0 0 256 0,
     .covFieldOpen {} 0 0 0 0 0 256, .covFieldReset { course := 4 } 0, .covFieldReset {} 4294967296, .covFieldDelete { course := 4 } 0,
     .covFieldDelete {} 4294967296, .covPolyCommit { course := 4 } 0 0, .covPolyCommit {} 4294967296 0, .covPolyCommit {} 0 4294967296,
     .covMaster { course := 4 } 0 0, .covMaster {} 256 0, .covMaster {} 0 256, .covSectionMode { course := 4 } 0 0,
     .covSectionMode {} 65536 0, .covSectionMode {} 0 256, .covExport { course := 4 } 0 0 0 0 0 0, .covExport {} 4294967296 0 0 0 0 0,
     .covExport {} 0 256 0 0 0 0, .covExport {} 0 0 32768 0 0 0, .covExport {} 0 0 (-32769) 0 0 0, .covExport {} 0 0 0 32768 0 0,
     .covExport {} 0 0 0 (-32769) 0 0, .covExport {} 0 0 0 0 32768 0, .covExport {} 0 0 0 0 (-32769) 0, .covExport {} 0 0 0 0 0 32768,
     .covExport {} 0 0 0 0 0 (-32769), .covCountersRead { course := 4 } 0 0 0, .covCountersRead {} 256 0 0, .covCountersRead {} 0 256 0,
     .covCountersRead {} 0 0 65536, .fretArm { course := 4 } [], .fretArm {} [{ tag := 65536 }], .fretCancel { course := 4 } 0 0,
     .fretCancel {} 65536 0, .fretCancel {} 0 65536, .unitCmd { course := 4 } 0 0, .unitCmd {} 65536 0, .unitCmd {} 0 256,
     .unitMode { course := 4 } 0 0, .unitMode {} 65536 0, .unitMode {} 0 256, .unitSetpoint { course := 4 } 0 0,
     .unitSetpoint {} 65536 0, .unitSetpoint {} 0 4294967296, .unitFaultClear { course := 4 } 0 0 [] [], .unitFaultClear {} 256 0 [] [],
     .unitFaultClear {} 0 65536 [] [], .unitFaultClear {} 0 0 [128] [], .unitFaultClear {} 0 0 [] [16],
     .unitStatusRead { course := 4 } 0 0 {}, .unitStatusRead {} 65536 0 {}]
    (fun i => !i.wf) = true := by decide +kernel

theorem test_wf_refuses_3 : List.all (α := Instr)
    [.unitStatusRead {} 0 65536 {}, .unitLatencyRead { course := 4 } 0, .unitLatencyRead {} 65536, .unitLatencyReset { course := 4 } 0,
     .unitLatencyReset {} 65536, .loopMode { course := 4 } 0 0 0 0, .loopMode {} 256 0 0 0, .loopMode {} 0 256 0 0,
     .loopMode {} 0 0 256 0, .loopMode {} 0 0 0 2147483648, .loopMode {} 0 0 0 (-2147483649), .loopManual { course := 4 } 0 0,
     .loopManual {} 256 0, .loopManual {} 0 2147483648, .loopManual {} 0 (-2147483649), .loopSetpoint { course := 4 } 0 0,
     .loopSetpoint {} 256 0, .loopSetpoint {} 0 2147483648, .loopSetpoint {} 0 (-2147483649), .loopCoefWrite { course := 4 } 0 0 0,
     .loopCoefWrite {} 256 0 0, .loopCoefWrite {} 0 256 0, .loopCoefWrite {} 0 0 2147483648, .loopCoefWrite {} 0 0 (-2147483649),
     .loopStatusRead { course := 4 } 0 0, .loopStatusRead {} 256 0, .loopStatusRead {} 0 256, .swStatusRead { course := 4 } 0 0 {},
     .swStatusRead {} 256 0 {}, .swStatusRead {} 0 256 {}, .loopStream { course := 4 } 0 0 [], .loopStream {} 256 0 [],
     .loopStream {} 0 256 [], .loopStream {} 0 0 [256], .loopRateSet { course := 4 } 0 0, .loopRateSet {} 256 0,
     .loopRateSet {} 0 4294967296, .loopRateFactors { course := 4 } 0 0 0 [], .loopRateFactors {} 256 0 0 [],
     .loopRateFactors {} 0 65536 0 [], .loopRateFactors {} 0 0 65536 [], .loopRateFactors {} 0 0 0 [4294967296],
     .swSet { course := 4 } 0 0 [], .swSet {} 4294967296 0 [], .swSet {} 0 4294967296 [], .swPwmDuty { course := 4 } 0 0,
     .swPwmDuty {} 256 0, .swPwmDuty {} 0 65536, .swUnlock { course := 4 } 0, .swUnlock {} 256,
     .swLimpFuseProgram { course := 4 } [] 0 0 false, .swLimpFuseProgram {} [256] 0 0 false, .swLimpFuseProgram {} [] 256 0 false,
     .swLimpFuseProgram {} [] 0 4294967296 false, .ioOutputSet { course := 4 } 0 0, .ioOutputSet {} 65536 0, .ioOutputSet {} 0 65536,
     .ioFaultClear { course := 4 } 0 false, .ioFaultClear {} 256 false, .ioGroupRearm { course := 4 } 0]
    (fun i => !i.wf) = true := by decide +kernel

theorem test_wf_refuses_4 : List.all (α := Instr)
    [.ioGroupRearm {} 256, .busFilterSet { course := 4 } 0 0 0 0 0, .busFilterSet {} 256 0 0 0 0, .busFilterSet {} 0 256 0 0 0,
     .busFilterSet {} 0 0 256 0 0, .busFilterSet {} 0 0 0 4294967296 0, .busFilterSet {} 0 0 0 0 4294967296,
     .busStatusRead { course := 4 } 0, .busStatusRead {} 256, .evtSourceSet { course := 4 } 0 0 0 0, .evtSourceSet {} 256 0 0 0,
     .evtSourceSet {} 0 256 0 0, .evtSourceSet {} 0 0 256 0, .evtSourceSet {} 0 0 0 256, .evtTargetSet { course := 4 } 0 0 0 0 0,
     .evtTargetSet {} 256 0 0 0 0, .evtTargetSet {} 0 256 0 0 0, .evtTargetSet {} 0 0 256 0 0, .evtTargetSet {} 0 0 0 256 0,
     .evtTargetSet {} 0 0 0 0 65536, .evtReroute { course := 4 } 0 0, .evtReroute {} 256 0, .evtReroute {} 0 256,
     .evtCountersRead { course := 4 } 0 0, .evtCountersRead {} 256 0, .evtCountersRead {} 0 256, .recRead { course := 4 } 0 0 0,
     .recRead {} 256 0 0, .recRead {} 0 4294967296 0, .recRead {} 0 0 4294967296, .recFaultsRead { course := 4 } 0,
     .recFaultsRead {} 65536, .mntPartition { course := 4 } 0 0, .mntPartition {} 4294967296 0, .mntPartition {} 0 4294967296,
     .mntCfgKeyFuse { course := 4 } [] 0, .mntCfgKeyFuse {} (List.replicate 65 0) 0, .mntCfgKeyFuse {} [] 4294967296,
     .registerWrite 0 { words := List.replicate 1025 0 }, .heartbeat 0 4294967296, .hqRd 0 256, .ack 0 256, .take 0 1000, .txReq 0 4 0,
     .txReq 0 0 16, .cancel 0 4 0 {}, .cancel 0 0 16 {}, .lock 0 4 0 false, .lock 0 0 16 false, .reqWrStall 0 4, .notificationWrite 0 4,
     .autonomousReenable 0 5, .autonomousReenable 0 1, .linkSilence 0 5 [], .linkSilence 0 1 [], .silenceAllOff 0 5 [],
     .silenceAllOff 0 1 [], .linkRestored 0 5, .linkRestored 0 1, .retrainTimeout 0 5]
    (fun i => !i.wf) = true := by decide +kernel

theorem test_wf_refuses_5 : List.all (α := Instr)
    [.retrainTimeout 0 1, .safeTableCheck 0 5 false, .safeTableCheck 0 1 false, .boostFault 0 4, .bridgeFrame 0 3 false false 0,
     .bridgeFrame 0 0 false false 256, .bridgeResend 0 3 false, .bridgeHeartbeatSend 0 3 false, .bridgeDegraded 0 3 0,
     .bridgeDegraded 0 0 4, .coreRestart 0 9 false [], .coreRestartDone 0 9, .coreColdDone 0 9, .vbatGroupLoss 0 7 0 [],
     .vbatGroupReturn 0 7 0, .regionCalibration 0 7 [] [] [] [], .notchEngage 0 2 0 0 0, .notchEngage 0 0 2 0 0,
     .jammingUpdate 0 2 0 0 0, .jammingUpdate 0 0 2 0 0, .antennaLost 0 2, .rfCalFail 0 2 false, .odoEdge 0 { input := 8 } false false,
     .odoEdge 0 { quarter := 4 } false false, .odoNoisy 0 8, .odoNoisyClear 0 8, .standstill 0 8, .sentFrame 0 2 {}, .sentLost 0 2,
     .sourceRejoin 0 9, .suspendCancel 0 128 0, .suspendCancel 0 0 65536, .slotWaitDecay 0 16, .shortToGnd 0 16, .hsOverload 0 16,
     .hsOvertemp 0 16, .hsStuck 0 16, .offStateTest 0 16, .offStateTestEnd 0 16, .senseTrimSample 0 16 0 [], .clusterUngate 0 16,
     .fretFire 0 128, .riseEnd 0 128 0, .ttpLimit 0 128 0 0, .peakHoldEnd 0 128, .transitionEnd 0 128, .shotEnd 0 128 0,
     .pwmCycleStart 0 128 0 false, .pwmOnTimeEnd 0 128 0, .dip 0 128, .openWinEnd 0 128, .knee 0 128, .closeWinEnd 0 128, .crowded 0 128,
     .coilShort 0 128 false, .openLoad 0 128, .unitOvertemp 0 128, .propSaturated 0 128, .pairImbalance 0 128, .senseTrimLimit 0 128]
    (fun i => !i.wf) = true := by decide +kernel

theorem test_wf_refuses_6 : List.all (α := Instr)
    [.coilTemperatureTimeout 0 128 0, .loopSample 0 128 none, .fbHoldExpiry 0 128, .plausibilityUpdate 0 128, .canSpPeriod 0 128,
     .swShort 0 24 [], .swOvercurrent 0 24 [], .swOvertemp 0 24 [], .thermalHold 0 24, .inrushEnd 0 24, .retryReset 0 24,
     .backoffEnd 0 24, .restartRetry 0 24, .swOpenLoad 0 24, .openLoadClear 0 24, .ventUnlock 0 24, .swPwmPeriod 0 24 [],
     .thermalLatchClear 0 40, .disturbanceWindowEnd 0 6, .limpInput 0 8 false [], .inputStateChange 0 32 false, .nOperator 0 32 false 0,
     .fiWireBreak 0 32 0 false, .fiWireBreak 0 0 4 false, .aiOverload 0 8, .burdenTest 0 8 0, .aiInvalid 0 8 0, .aiInvalid 0 0 65536,
     .foOvercurrent 0 16, .foOvertemp 0 16, .foOpenLoad 0 16, .harnessAway 0 8 [] [], .harnessBack 0 8 [], .calDeferred 0 3 0 false,
     .wakeSource 0 8 {}, .canFrameReceived 0 4 {}, .canBusOff 0 4, .canBusBack 0 4, .canPassive 0 4, .addressClaim 0 4 false, .dm1 0 4,
     .tpTimeout 0 4 0, .canTxEnd 0 4 0 false, .canTxEnd 0 0 64 false, .followUp { src := 4 } 0 0, .state { src := 4 } 0 0 0 0 0 0,
     .state {} 18446744073709551616 0 0 0 0 0, .state {} 0 2147483648 0 0 0 0, .state {} 0 (-2147483649) 0 0 0 0,
     .state {} 0 0 2147483648 0 0 0, .state {} 0 0 (-2147483649) 0 0 0, .state {} 0 0 0 2147483648 0 0,
     .state {} 0 0 0 (-2147483649) 0 0, .state {} 0 0 0 0 2147483648 0, .state {} 0 0 0 0 (-2147483649) 0, .state {} 0 0 0 0 0 65536,
     .odo { src := 4 } 0 0 0, .odo {} 18446744073709551616 0 0, .odo {} 0 9223372036854775808 0, .odo {} 0 (-9223372036854775809) 0]
    (fun i => !i.wf) = true := by decide +kernel

theorem test_wf_refuses_7 : List.all (α := Instr)
    [.odo {} 0 0 9223372036854775808, .odo {} 0 0 (-9223372036854775809), .fret { src := 4 } 0 [{}], .fret {} 256 [{}], .fret {} 0 [],
     .fret {} 0 (List.replicate 4 ({} : FretWire)), .fret {} 0 [{ tag := 65536 }], .fretStatus { src := 4 } [(0, 0, 0, 0)],
     .fretStatus {} [], .fretStatus {} (List.replicate 5 (0, 0, 0, 0)), .fretStatus {} [(65536, 0, 0, 0)],
     .fretStatus {} [(0, 65536, 0, 0)], .fretStatus {} [(0, 0, 256, 0)], .fretStatus {} [(0, 0, 0, 4294967296)],
     .stroke { src := 4 } [(0, 0, 0)], .stroke {} [], .stroke {} (List.replicate 5 (0, 0, 0)), .stroke {} [(65536, 0, 0)],
     .stroke {} [(0, 256, 0)], .stroke {} [(0, 0, 18446744073709551616)], .tokenReq { src := 4 } 0, .tokenReq {} 65536,
     .tokenGrant { src := 4 } 0 0, .tokenGrant {} 65536 0, .tokenGrant {} 0 65536, .tokenReturn { src := 4 } 0 0,
     .tokenReturn {} 65536 0, .tokenReturn {} 0 65536, .tokenAck { src := 4 } 0 0, .tokenAck {} 65536 0, .tokenAck {} 0 256,
     .join { src := 4 } 0 0 0, .join {} 4294967296 0 0, .join {} 0 4294967296 0, .join {} 0 0 4294967296, .welcome { src := 4 } 0 0,
     .welcome {} 4294967296 0, .welcome {} 0 256, .control { src := 4 } 0 [], .control {} 4294967296 [], .fwdReq { src := 4 } 0 0 0 [0],
     .fwdReq {} 65536 0 0 [0], .fwdReq {} 0 256 0 [0], .fwdReq {} 0 0 256 [0], .fwdReq {} 0 0 0 [],
     .fwdReq {} 0 0 0 (List.replicate 57 0), .fwdRpl { src := 4 } 0 0 0 [0], .fwdRpl {} 65536 0 0 [0], .fwdRpl {} 0 256 0 [0],
     .fwdRpl {} 0 0 256 [0], .fwdRpl {} 0 0 0 [], .fwdRpl {} 0 0 0 (List.replicate 57 0), .zitherStale 0 4, .tokenRepeat 0 4,
     .followerSilence 0 4, .escrowRelease 0 4, .fwdTimeout 0 65536, .coalescingTimeout 0 10, .oneshotClose 0 65536 0,
     .oneshotClose 0 0 65536]
    (fun i => !i.wf) = true := by decide +kernel

theorem test_wf_refuses_8 : List.all (α := Instr)
    [.emmcError 0 8]
    (fun i => !i.wf) = true := by decide +kernel

theorem test_wf_accepts_1 : List.all (α := Instr)
    [.sysInfo {}, .sysResync {} {}, .cfgInfo {}, .navStatusRead {}, .covFieldClose {}, .covReconcile {}, .swVentRead {},
     .swLimpFuseRead {}, .ioOutputRead {} {}, .ioInputRead {} {}, .ioAnalogRead {}, .busSystemRead {}, .recFreeze {}, .recThaw {},
     .mntInfo {}, .cfgVerify {} {}, .mntFwCommit {} {}, .sysReplay {} 0 0 0, .sysOutputs {} 0 [], .sysPower {} 0 0 [], .sysReset {} 0,
     .sysTimeSet {} 0 0 0, .cfgBegin {} 0, .mntFwBegin {} 0, .cfgWrite {} 0 [], .covPolyLoad {} 0 [], .mntFwWrite {} 0 [],
     .cfgCommit {} 0 {}, .cfgRead {} 0 0 0, .navSubscribe {} 0 0, .navNavbitsSelect {} 0 0, .navRtcm {} [], .navRetentionClear {} 0,
     .covFieldOpen {} 0 0 0 0 0 0, .covFieldReset {} 0, .covFieldDelete {} 0, .covPolyCommit {} 0 0, .covMaster {} 0 0,
     .covSectionMode {} 0 0, .covExport {} 0 0 0 0 0 0, .covCountersRead {} 0 0 0, .fretArm {} [], .fretCancel {} 0 0, .unitCmd {} 0 0,
     .unitMode {} 0 0, .unitSetpoint {} 0 0, .unitFaultClear {} 0 0 [] [], .unitStatusRead {} 0 0 {}, .unitLatencyRead {} 0,
     .unitLatencyReset {} 0, .loopMode {} 0 0 0 0, .loopManual {} 0 0, .loopSetpoint {} 0 0, .loopCoefWrite {} 0 0 0,
     .loopStatusRead {} 0 0, .swStatusRead {} 0 0 {}, .loopStream {} 0 0 [], .loopRateSet {} 0 0, .loopRateFactors {} 0 0 0 [],
     .swSet {} 0 0 [], .swPwmDuty {} 0 0, .swUnlock {} 0, .swLimpFuseProgram {} [] 0 0 false, .ioOutputSet {} 0 0,
     .ioFaultClear {} 0 false, .ioGroupRearm {} 0, .busFilterSet {} 0 0 0 0 0, .busStatusRead {} 0, .evtSourceSet {} 0 0 0 0,
     .evtTargetSet {} 0 0 0 0 0, .evtReroute {} 0 0, .evtCountersRead {} 0 0, .recRead {} 0 0 0, .recFaultsRead {} 0,
     .mntPartition {} 0 0, .mntCfgKeyFuse {} [] 0, .registerWrite 0 {}, .heartbeat 0 0, .hqRd 0 0, .ack 0 0]
    Instr.wf = true := by decide +kernel

theorem test_wf_accepts_2 : List.all (α := Instr)
    [.take 0 0, .txReq 0 0 0, .cancel 0 0 0 {}, .lock 0 0 0 false, .reqWrStall 0 0, .notificationWrite 0 0, .autonomousReenable 0 2,
     .linkSilence 0 2 [], .silenceAllOff 0 2 [], .linkRestored 0 2, .retrainTimeout 0 2, .safeTableCheck 0 2 false, .boostFault 0 2,
     .bridgeFrame 0 0 false false 0, .bridgeResend 0 0 false, .bridgeHeartbeatSend 0 0 false, .bridgeDegraded 0 0 0,
     .coreRestart 0 0 false [], .coreRestartDone 0 0, .coreColdDone 0 0, .vbatGroupLoss 0 0 0 [], .vbatGroupReturn 0 0 0,
     .regionCalibration 0 0 [] [] [] [], .notchEngage 0 0 0 0 0, .jammingUpdate 0 0 0 0 0, .antennaLost 0 0, .rfCalFail 0 0 false,
     .odoEdge 0 {} false false, .odoNoisy 0 0, .odoNoisyClear 0 0, .standstill 0 0, .sentFrame 0 0 {}, .sentLost 0 0, .sourceRejoin 0 0,
     .suspendCancel 0 0 0, .slotWaitDecay 0 0, .shortToGnd 0 0, .hsOverload 0 0, .hsOvertemp 0 0, .hsStuck 0 0, .offStateTest 0 0,
     .offStateTestEnd 0 0, .senseTrimSample 0 0 0 [], .clusterUngate 0 0, .fretFire 0 0, .riseEnd 0 0 0, .ttpLimit 0 0 0 0,
     .peakHoldEnd 0 0, .transitionEnd 0 0, .shotEnd 0 0 0, .pwmCycleStart 0 0 0 false, .pwmOnTimeEnd 0 0 0, .dip 0 0, .openWinEnd 0 0,
     .knee 0 0, .closeWinEnd 0 0, .crowded 0 0, .coilShort 0 0 false, .openLoad 0 0, .unitOvertemp 0 0, .propSaturated 0 0,
     .pairImbalance 0 0, .senseTrimLimit 0 0, .coilTemperatureTimeout 0 0 0, .loopSample 0 0 none, .fbHoldExpiry 0 0,
     .plausibilityUpdate 0 0, .canSpPeriod 0 0, .swShort 0 0 [], .swOvercurrent 0 0 [], .swOvertemp 0 0 [], .thermalHold 0 0,
     .inrushEnd 0 0, .retryReset 0 0, .backoffEnd 0 0, .restartRetry 0 0, .swOpenLoad 0 0, .openLoadClear 0 0, .ventUnlock 0 0,
     .swPwmPeriod 0 0 []]
    Instr.wf = true := by decide +kernel

theorem test_wf_accepts_3 : List.all (α := Instr)
    [.thermalLatchClear 0 0, .disturbanceWindowEnd 0 0, .limpInput 0 0 false [], .inputStateChange 0 0 false, .nOperator 0 0 false 0,
     .fiWireBreak 0 0 0 false, .aiOverload 0 0, .burdenTest 0 0 0, .aiInvalid 0 0 0, .foOvercurrent 0 0, .foOvertemp 0 0,
     .foOpenLoad 0 0, .harnessAway 0 0 [] [], .harnessBack 0 0 [], .calDeferred 0 0 0 false, .wakeSource 0 0 {},
     .canFrameReceived 0 0 {}, .canBusOff 0 0, .canBusBack 0 0, .canPassive 0 0, .addressClaim 0 0 false, .dm1 0 0, .tpTimeout 0 0 0,
     .canTxEnd 0 0 0 false, .followUp {} 0 0, .state {} 0 0 0 0 0 0, .odo {} 0 0 0, .fret {} 0 [{}], .fretStatus {} [(0, 0, 0, 0)],
     .stroke {} [(0, 0, 0)], .tokenReq {} 0, .tokenGrant {} 0 0, .tokenReturn {} 0 0, .tokenAck {} 0 0, .join {} 0 0 0, .welcome {} 0 0,
     .control {} 0 [], .fwdReq {} 0 0 0 [0], .fwdRpl {} 0 0 0 [0], .zitherStale 0 0, .tokenRepeat 0 0, .followerSilence 0 0,
     .escrowRelease 0 0, .fwdTimeout 0 0, .coalescingTimeout 0 0, .oneshotClose 0 0 0, .emmcError 0 0]
    Instr.wf = true := by decide +kernel

theorem test_no_word_spells_a_command : decodeTableWord 8 5 = none := rfl

/-! ## A device that is READY -/

/-- A valve unit with a profile and its seeds. -/
def tUnit : UnitCfg :=
  { used := true, pwmCapable := true, profile := some { seedOpenUs := [3000], seedCloseUs := [2000] }, iMax := some 1000 }

/-- A configuration with units 0 to 2 and the section unit 8, two loops, channels, field I/O and odometry. -/
def tImg : Image :=
  { units := { units := [(0, tUnit), (1, tUnit), (2, { tUnit with mode := .prop }), (8, { tUnit with sec := some {} })],
               fPwmHz := [(0, 10)] }
    products := [(0, {}), (1, {})]
    loops := [(0, { fb := .ai 0 }), (1, {})]
    switches := [(0, { used := true }), (1, { used := true, pwmHz := 100 })]
    fieldIo := { inputs := [(0, { mode := .digital }), (1, { mode := .operator }), (8, { mode := .fast }), (9, { mode := .fast })],
                 analogs := [(0, { used := true }), (1, { used := true, mode := .ma20 })],
                 outputs := [(0, { used := true }), (1, { used := true })],
                 groups := [{ lines := [.ai 1, .switch 0] }] }
    odo := { channels := [(0, {})], sent := [(0, {})] } }

/-- The device with that configuration, READY, in RUN, with outputs enabled. -/
def tReady : State :=
  { cfg := tImg
    start := { ready := true, readyPin := true, configActive := true }
    power := { supplies := true, pll := 2, tcxoEn := true, vddRf := true,
               groups := [(0, true), (1, true), (2, true), (3, true), (4, true), (5, true), (6, true)] }
    host := { outputsEnabled := true, beatAt := some 0 }
    dies := [(2, { linked := true }), (3, { linked := true }), (4, { linked := true })]
    loops := [(0, {}), (1, {})] }

/-- The header of a request of `len` payload bytes, the first on its course. -/
def tHdr (course len : Nat) : Hdr := { course := course, len := len }

/-- A configuration container of Tables 14-17 and 14-18: a header, the eleven required sections, all empty, and a signature. -/
def tBytes : List Byte :=
  le 4 1498169672 ++ le 2 1 ++ le 2 128 ++ [1, 0, 0, 255] ++ le 2 38464 ++ [4, 0] ++ le 4 77 ++ le 4 5 ++ le 4 0 ++ le 4 384 ++ le 4 128
    ++ le 2 11 ++ le 2 0 ++ le 4 3021150729 ++ [1, 2, 3, 4, 5, 6, 7, 8] ++ List.replicate 76 0
    ++ ([1, 2, 3, 4, 5, 7, 8, 9, 10, 11, 12] : List Int).flatMap (fun k => le 2 k ++ le 2 1 ++ le 4 320 ++ le 4 0 ++ le 4 0)
    ++ List.replicate 80 0
/-- A configuration image that passes every check of R429. -/
def tGood : Image := {}
/-- An empty polygon message. -/
def tPoly : List Byte := [0, 0, 0, 0, 0, 0, 0, 0]
/-- A write of window words from address `a`, with its CRC. -/
def tSpi (a : Nat) (ws : List Word) : Spi :=
  let x : Spi := { header := BitVec.ofNat 32 (2147483648 + 4096 * a + (ws.length - 1)), words := ws }
  { x with crc := BitVec.ofNat 32 (spiGoodCrc x) }
/-- The device of the tests with navigation as `f` leaves it. -/
def tNav (f : NavSt → NavSt) : State := tReady.modNav f
/-- The same with the drive of unit `u` as `f` leaves it. -/
def tDrv (u : Nat) (f : Drive → Drive) : State := tReady.modDrive u f
/-- The same with one fast channel. -/
def tChan (c : ChannelCfg) (n : Nat) : State := { tReady with cfg := { tImg with odo := { channels := [(n, c)] } } }
/-- The same with one section unit. -/
def tOne : State := { tReady with cfg := { tImg with units := { units := [(8, { tUnit with sec := some {} })] } } }
/-- A SENT frame of ticks of 3 µs: status 1, data 0, 0, 0, 15, 15, 15 and the CRC nibble `k`, which is 9 in the recommended CRC. -/
def tFrame (k : Nat) : SentFrame :=
  { pulses := [39000, 36000, 36000, 36000, 81000, 81000, 81000, 36000 + 3000 * k] }
/-- The same with the emulation output due for a pulse. -/
def tEmu : State :=
  { tReady with cfg := { tImg with odo := { emulation := { mode := 1 } } }, odo := { emuDist := 100000000000, emuRate := 1 }, outputs := [(14, { st := 3 })] }
/-- The same with peak-hold and transition times, and a PWM section unit. -/
def tPh : State :=
  { tReady with cfg := { tImg with units := { units := [(0, { tUnit with profile := some { tPhUs := 500, tTransUs := 200, shotMs := 50 } }),
      (1, tUnit), (8, { tUnit with mode := .pwm, sec := some {} })], fPwmHz := [(0, 10), (1, 10)] } } }
/-- That device with the drive of unit `u` as `f` leaves it. -/
def tPhD (u : Nat) (f : Drive → Drive) : State := tPh.modDrive u f
/-- Its PWM unit with a cycle due at 100 ms. -/
def tPwm (f : Drive → Drive) : State :=
  (tPhD 8 fun d => f { d with mode := .pwm, modeEnabled := true, cycling := true, duty := 5000, nextCycle := some 100000, base := 4 })
/-- The same unit with a liquid product. -/
def tLiq : State := let s := tPwm id; { s with cfg := { s.cfg with products := [(0, { liquid := true })] } }
/-- The device of the tests with its power state as `f` leaves it. -/
def tPow (f : PowerSt → PowerSt) : State := tReady.modPower f
/-- A lead with one present follower. -/
def tLead : State :=
  { tReady with
    cfg := { tImg with package := { member := true, members := [0, 1], systemId := 9, tokenPool := 500 } }
    zither := { joined := some 3 }
    ledger := { tokensFree := 300, tokens := [(0, { granted := 100 }), (1, { present := true, granted := 100 })] } }
/-- A welcomed follower. -/
def tFol : State :=
  { tReady with
    cfg := { tImg with package := { member := true, pkgIndex := 1, members := [0, 1], systemId := 9, tokenPool := 500, fixedTokens := [5, 5] } }
    zither := { joined := some 3, welcomed := true }
    ledger := { tokens := [(1, { fixed := 5, granted := 10 })], packagePool := 300, els := [(pkgKey, { freeBelowPool := 0 })] } }
/-- A Zither header of SYS_EPOCH 3. -/
def tZ (src seq : Nat) : ZHdr := { t := 10, src := src, seq := seq, epoch := 3 }

/-- Table 15-6: SYNC of the lead is PRIO 0, MARK 0b1010, TYPE 1, SRC 0, BCAST. -/
theorem test_zither_identifier : zIdent 1 0 4 = 0x02810800 ∧ zIdent 9 0 2 = 0x0E892000 := by decide

/-- Table 15-1: CAN0 at 500 kbit/s is refused, CAN2 at 500 kbit/s with 2 Mbit/s is not. -/
theorem test_bit_rates : controllerBad 0 { nominalKbit := 500 } = true
    ∧ controllerBad 2 { fd := true, brs := true, nominalKbit := 500, dataKbit := 2000 } = false := by decide

/-! ## Check values and worked examples of spec/ -/

/-- R377: over "123456789" the CRC-16 gives 0x29B1. -/
theorem test_crc16 : (crc16 [0x31, 0x32, 0x33, 0x34, 0x35, 0x36, 0x37, 0x38, 0x39]).toNat = 0x29B1 := by decide +kernel

/-- R385: over "123456789" the CRC-32C gives 0xE306_9283. -/
theorem test_crc32c : (crc32c [0x31, 0x32, 0x33, 0x34, 0x35, 0x36, 0x37, 0x38, 0x39]).toNat = 0xE3069283 := by decide +kernel

/-- R344, R427: SHA-256 of "abc", as its publication gives it (first eight bytes). -/
theorem test_sha256 : (sha256 [0x61, 0x62, 0x63]).take 8 = [0xba, 0x78, 0x16, 0xbf, 0x8f, 0x01, 0xcf, 0xea] := by decide +kernel

/-- "A full boom on one package": 500 mA are 10 credits, 2,500 mA are 50, so the slot is 40; the pump clutch of 12 A takes 240. -/
theorem test_boom_credits :
    let s : State := { cfg := { units := { units := [(0, { used := true, profile := some { iPeak := 2500, iHold := 500 } })] }
                                switches := [(16, { used := true, iLoad := 12000 })] } }
    baseOf s 0 .onoff = 10 ∧ slotOf s 0 = 40 ∧ swBaseOf s 16 = 240 := by decide

/-- "Fold valves pulsed from a joystick": 60 mH at 1.5 A and 14 V give 99 mJ. -/
theorem test_fold_valve_clamp :
    eDecl { cfg := { switches := [(4, { iLoad := 1500, lLoadUh := 60000 })] } } 4 14000 = 99000 := by decide

/-- "A tight headland turn": at 9 degrees per second the tip at 17,750 mm runs 2,788 mm/s slower than the reference point. -/
theorem test_headland_turn : lateral 9000 17750 / 1000 = 2788 ∧ backwardNow false (-16000) = false ∧ backwardNow false (-95000) = true := by
  decide

/-- "A grant whose acknowledgement is lost": FREE 80 and REQ_TARGET 300 ask for 11 tokens. -/
theorem test_token_request :
    tokensWanted { tLead with ledger := { packagePool := 1200, els := [(pkgKey, { freeBelowPool := -1120 })] } } = 11 := by decide

/-- The same example: 11 tokens on top of 60 make an effective pool of 1,420 credits, and FREE 300. -/
theorem test_token_grant :
    let s : State := { tFol with ledger := { packagePool := 1200, els := [(pkgKey, { drawing := 1120, freeBelowPool := -1120 })]
                                             tokens := [(1, { fixed := 20, granted := 40 })] } }
    (takeGrant 7 11 s).ledger.packagePool = 1420 ∧ freeOf (takeGrant 7 11 s) pkgKey = 300 := by decide

/-- "A nested host handler", record C: words 0, 2 and 3. -/
theorem test_record_words :
    let r : EvtRecord := { source := 205, level := 6, seq := 17, target := 9, payload := evtWord 16 0 2 }
    leNat (r.bytes.take 4) = 0x001106CD ∧ leNat ((r.bytes.drop 8).take 4) = 0x02000010 ∧ leNat (r.bytes.drop 12) = 0x00090000 := by decide

/-- R138, R137: the preset of 130 pulses per metre gives 13 pulses over 100 mm. -/
theorem test_emulation_pulses : emuDue tEmu = 26 := by decide

/-- Table 01-6: unit 77 lies in cluster 9, region 2, valve die 3 ("Locating unit 77 and SW18"). -/
theorem test_numbering : clusterOf 77 = 9 ∧ regionOf 9 = 2 ∧ dieOfUnit 77 = 3 ∧ swClusterOf 18 = 4 ∧ swRegionOf 18 = 5 := by decide

/-! ## One step -/

/-- R374 to R378: a write of COUNT 8 and TIME 300 to HQ_COAL. -/
theorem test_spi_write :
    (spiTransact (tSpi 40 [19660808]) tReady |>.tgt 9).timeUs = 300 := by decide +kernel

/-- R378: a transaction with reserved header bits is refused. -/
theorem test_spi_refused : (spiTransact { header := 0x70000000 } tReady).host.badXfers = 1 := by decide +kernel

/-- R223: OFF to a unit in hold begins its turn-off and its closing window. -/
theorem test_unit_off : (commandOff 0 (tDrv 0 fun d => { d with phase := .hold, base := 4 }) |>.unit 0).drive.phase = .turnOff := by decide

/-- R288: a trip with no retries left exhausts the channel. -/
theorem test_switch_exhausted :
    ∃ t, exec (.swShort 9 0 []) (tReady.modSw 0 fun x => { x with state := .on, base := 2 }) = .next t ∧ (t.sw 0).state = .exhausted :=
  ⟨_, rfl, by decide +kernel⟩

/-! ## The hypotheses of the certificates' statements

Of each clause a state and operands, at a boundary of its ranges where it has one. -/

/-- What must hold of the state at an event's time. -/
abbrev At (τ : Nat) (s : State) (pre : State → Prop) : Prop := pre (s.advance τ)

/-- What must hold of a Zither frame's header and of the state at its time. -/
abbrev Heard (z : ZHdr) (s : State) (pre : ZHdr → State → Prop) : Prop := z.src < 4 ∧ pre z (s.advance z.t)

/-- What must hold of a request's header and of the state at its time. -/
abbrev Asked (op courses : Nat) (len : Nat → Bool) (h : Hdr) (s : State) (pre : State → Prop) : Prop :=
  asked op courses len h s = true ∧ pre (s.advance h.t)

theorem test_meets_IdentityReads :
    (Asked 257 15 (· == 0) (tHdr 0 0) ({ tReady with cfg := { tImg with package := { member := true } } })
        fun s => s.start.configActive = true ∧ s.cfg.package.member = true)
    ∧ (Asked 257 15 (· == 0) (tHdr 0 0) ({ tReady with start := { ready := true } }) fun s => s.start.configActive = false)
    ∧ (Asked 518 15 (· == 0) (tHdr 0 0) (tReady) fun _ => True)
    ∧ (∃ slot : Nat, ∃ offset : Nat, ∃ count : Nat,
        Asked 517 12 (· == 12) (tHdr 2 12) ({ tReady with storage := { activeCfg := 0, cfgA := { st := 2, size := 192, bytes := [1, 2, 3] } } })
        fun s => slot ≤ 1 ∧ 4 ≤ count ∧ count ≤ 1020 ∧ offset + count ≤ (readSlot s slot).size)
    ∧ (Asked 2817 8 (· == 0) (tHdr 3 0) (tReady) fun s => s.start.maint = false ∨ s.start.emmc = true) :=
  ⟨by decide,
   by decide,
   by decide,
   ⟨0, 0, 4, by decide⟩,
   by decide⟩

theorem test_meets_ElementReads :
    (∃ first : Nat, ∃ count : Nat, Asked 1301 15 (· == 4) (tHdr 0 4) (tReady) fun s => s.cfg.package.member = false ∧ 1 ≤ count
        ∧ count ≤ 12 ∧ first + count ≤ 128)
    ∧ (∃ unit : Nat, Asked 1302 5 (· == 4) (tHdr 0 4) (tReady) fun s => s.cfg.package.member = false ∧ unit < 128)
    ∧ (∃ first : Nat, ∃ count : Nat, Asked 1541 15 (· == 4) (tHdr 0 4) (tReady) fun _ => 1 ≤ count ∧ count ≤ 31 ∧ first + count ≤ 128)
    ∧ (∃ first : Nat, ∃ count : Nat, Asked 1796 15 (· == 4) (tHdr 0 4) (tReady) fun _ => 1 ≤ count ∧ first + count ≤ 24)
    ∧ (Asked 1797 15 (· == 0) (tHdr 0 0) (tReady) fun _ => True)
    ∧ (Asked 1799 15 (· == 0) (tHdr 0 0) (tReady) fun _ => True)
    ∧ (Asked 1810 15 (· == 0) (tHdr 0 0) (tReady) fun _ => True)
    ∧ (Asked 1811 15 (· == 0) (tHdr 0 0) (tReady) fun _ => True)
    ∧ (Asked 1812 15 (· == 0) (tHdr 0 0) (tReady) fun _ => True) :=
  ⟨⟨116, 12, by decide⟩,
   ⟨127, by decide⟩,
   ⟨97, 31, by decide⟩,
   ⟨0, 24, by decide⟩,
   by decide,
   by decide,
   by decide,
   by decide,
   by decide⟩

theorem test_meets_SystemReads :
    (Asked 772 15 (· == 0) (tHdr 0 0) (tReady) fun _ => True)
    ∧ (∃ scope : Nat, ∃ product : Nat, ∃ unit : Nat, Asked 1035 15 (· == 4) (tHdr 0 4) (tReady) fun s => product ≤ 1
        ∧ (scope ≤ 1 ∨ scope = 2 ∧ unit ∈ s.sectionUnits))
    ∧ (∃ ctrl : Nat, Asked 2050 15 (· == 4) (tHdr 0 4) (tReady) fun _ => ctrl ≤ 3)
    ∧ (Asked 2051 15 (· == 0) (tHdr 0 0) (tReady) fun s => s.cfg.package.member = false)
    ∧ (∃ first : Nat, ∃ count : Nat, Asked 2308 15 (· == 4) (tHdr 0 4) (tReady) fun _ => 1 ≤ count ∧ count ≤ 60 ∧ first + count ≤ 256)
    ∧ (∃ h : Hdr, ∃ s : State, asked 2564 15 (· == 4) h s = true) :=
  ⟨by decide,
   ⟨2, 1, 8, by decide⟩,
   ⟨3, by decide⟩,
   by decide,
   ⟨196, 60, by decide⟩,
   ⟨tHdr 0 4, tReady, by decide⟩⟩

theorem test_meets_ResyncAndReplay :
    (∃ h : Hdr, ∃ s : State, h.course = 0 ∧ h.seq = 0 ∧ h.len = 0 ∧ arrives h (s.advance h.t) = true
        ∧ admits 258 1 h (s.advance h.t) = true)
    ∧ (∃ course, ∃ first, ∃ m, ∃ h : Hdr, ∃ s : State, asked 259 15 (· == 8) h s = true ∧ course < 4 ∧ first < 65536
        ∧ ((s.advance h.t).course course).kept.find? (fun m => m.seq == first) = some m
        ∧ hasRoom (s.advance h.t) course m.payload.length (if course = h.course then 24 else 0) = true) :=
  ⟨⟨{ epoch := 7 }, { tReady with recorder := { stream := some (1, [], 0) } }, by decide⟩,
   ⟨1, 5, { seq := 5, opcode := 33000 }, tHdr 0 8, tReady.modCourse 1 fun c => { c with kept := [{ seq := 5, opcode := 33000 }] },
        by decide⟩⟩

theorem test_meets_OutputsPowerTime :
    (Asked 260 1 (· == 4) (tHdr 0 4) (tReady.modHost fun h => { h with outputsEnabled := false }) fun s => s.start.ready = true
        ∧ s.start.configActive = true ∧ s.start.maint = false)
    ∧ (Asked 260 1 (· == 4) (tHdr 0 4) (tReady.modDrive 0 fun d => { d with phase := .hold }) fun _ => True)
    ∧ (Asked 261 1 (· == 8) (tHdr 0 8) (tReady) fun s => s.power.state = .run ∧ s.cov.opened = none)
    ∧ (Asked 261 1 (· == 8) (tHdr 0 8) (tReady.modPower fun p => { p with state := .doze }) fun s => s.power.state = .doze
        ∧ s.power.pll ≠ 1)
    ∧ (∃ h : Hdr, ∃ s : State, asked 262 9 (· == 4) h s = true)
    ∧ (∃ utcMs : Nat, ∃ bound : Nat, Asked 263 1 (· == 12) (tHdr 0 12) (tReady) fun s => utcMs ≤ 999 ∧ 1 ≤ bound ∧ bound ≤ 60000
        ∧ s.nav.everLocked = false) :=
  ⟨by decide,
   by decide,
   by decide,
   by decide,
   ⟨tHdr 0 4, tReady, by decide⟩,
   ⟨999, 60000, by decide⟩⟩

set_option maxRecDepth 40000 in
theorem test_meets_ConfigurationLife :
    (∃ size : Nat, Asked 513 8 (· == 4) (tHdr 3 4) (tReady) fun s => 192 ≤ size ∧ size ≤ 8388608 ∧ s.start.activating = none
        ∧ partitionStopped s (cfgPartition (otherSlot s)) = false)
    ∧ (∃ size, ∃ done, ∃ data : List Byte, Asked 514 8 (between' 5 1024) (tHdr 3 8) (tReady.modStore
        fun x => { x with staging := some (192, [1, 2]) }) fun s => s.storage.staging = some (size, done)
        ∧ done.length + data.length ≤ size ∧ data.length % 4 = 0 ∧ partitionStopped s (cfgPartition (otherSlot s)) = false)
    ∧ (∃ size, ∃ bytes : List Byte, Asked 515 8 (· == 0) (tHdr 3 0) (tReady.modStore fun x => { x with staging := some (0, []) })
        fun s => s.storage.staging = some (size, bytes) ∧ bytes.length = size)
    ∧ (∃ img : Image, Asked 516 9 (· == 4) (tHdr 0 4) ({ tReady with storage := { cfgB := { st := 2, image := some tGood }, activeCfg := 0, keyHash := some [1, 2, 3, 4, 5, 6, 7, 8], staging := some (384, tBytes) } })
        fun s => staged s = true ∧ commitAllowed s = true ∧ checkImage s (stagedImage img s) = none)
    ∧ (∃ img : Image, ∃ k, At 0 ({ tReady with start := { ready := true, activating := some (tGood, 1) } })
        fun s => s.start.activating = some (img, k)) :=
  ⟨⟨192, by decide +kernel⟩,
   ⟨192, [1, 2], [3, 4, 5, 6], by decide +kernel⟩,
   ⟨0, [], by decide +kernel⟩,
   ⟨tGood, by decide +kernel⟩,
   ⟨tGood, 1, by decide +kernel⟩⟩

theorem test_meets_NavRequests :
    (∃ rate : Nat, ∃ rtk : Nat, Asked 769 2 (· == 4) (tHdr 1 4) (tReady) fun s => rate ∈ [0, 1, 5, 10, 20, 50, 100] ∧ rtk ≤ 1
        ∧ s.power.state ≠ .doze)
    ∧ (∃ consts : Nat, ∃ ants : Nat, Asked 770 2 (· == 4) (tHdr 1 4) (tReady) fun s => consts ≤ 31 ∧ ants ≤ 3 ∧ s.power.state ≠ .doze)
    ∧ (Asked 771 3 (between' 1 1024) (tHdr 0 1) ({ tReady with cfg := { tImg with nav := { rtcmUart0 := false } } })
        fun s => s.cfg.nav.rtcmUart0 = false)
    ∧ (Asked 773 1 (· == 4) (tHdr 0 4) (tReady.modNav fun n => { n with retentionAt := 5 }) fun _ => True) :=
  ⟨⟨100, 1, by decide⟩,
   ⟨31, 3, by decide⟩,
   by decide,
   by decide⟩

theorem test_meets_FieldLife :
    (∃ fid : Nat, ∃ lat : Int, ∃ lon : Int, ∃ height : Int, ∃ cell : Nat, ∃ flags : Nat, Asked 1025 1 (· == 28) (tHdr 0 28) (tReady)
        fun s => fid ≠ 0 ∧ (cell = 50 ∨ cell = 100 ∧ narrowSection s = false) ∧ flags ≤ 1 ∧ s.cov.opened = none ∧ s.cov.scanning = none
        ∧ s.power.state ≠ .doze ∧ fieldRefusal fid lat lon height cell s = none)
    ∧ (∃ fid, At 0 (tReady.modCov fun c => { c with scanning := some 1, fields := [{ fieldId := 1 }] })
        fun s => s.cov.scanning = some fid)
    ∧ (Asked 1026 1 (· == 0) (tHdr 0 0) (tReady.modCov fun c => { c with opened := some 1, fields := [{ fieldId := 1 }] })
        fun s => s.cov.opened.isSome ∧ s.cov.closingAt = none)
    ∧ (At 2000000 (tReady.modCov fun c => { c with opened := some 1, closingAt := some 0, fields := [{ fieldId := 1 }] })
        fun s => closeDue s = true ∧ (s.cov.opened.bind s.fieldEntry).isSome)
    ∧ (∃ fid : Nat, ∃ e, Asked 1027 1 (· == 4) (tHdr 0 4) (tReady.modCov
        fun c => { c with opened := some 1, fields := [{ fieldId := 1 }] }) fun s => s.cov.opened = some fid ∧ s.fieldEntry fid = some e
        ∧ ∀ u ∈ s.sectionUnits, (s.unit u).sect.commanded = false)
    ∧ (∃ fid : Nat, Asked 1028 1 (· == 4) (tHdr 0 4) (tReady.modCov
        fun c => { c with fields := [{ fieldId := 1 }], tiles := [{ fieldId := 1 }] }) fun s => (s.fieldEntry fid).isSome
        ∧ s.cov.opened ≠ some fid ∧ s.cov.scanning ≠ some fid ∧ mapClosed s = false) :=
  ⟨⟨1, 0, 0, 0, 50, 1, by decide⟩,
   ⟨1, by decide⟩,
   by decide,
   by decide,
   ⟨1, ({ fieldId := 1 } : FieldEntry), by decide⟩,
   ⟨1, by decide⟩⟩

theorem test_meets_PolygonsMastersModes :
    (∃ data : List Byte, Asked 1029 5 (between' 8 1024) (tHdr 0 12) (tReady.modCov fun c => { c with opened := some 1 })
        fun s => data.length ≤ 66568 ∧ s.cov.opened.isSome)
    ∧ (∃ done, ∃ data : List Byte, Asked 1029 5 (between' 8 1024) (tHdr 0 8) (tReady.modCov
        fun c => { c with opened := some 1, polyStage := some [1, 2, 3, 4] }) fun s => s.cov.polyStage = some done ∧ done ≠ []
        ∧ done.length % 4 = 0 ∧ done.length + data.length ≤ 66568 ∧ s.cov.opened.isSome)
    ∧ (∃ d, ∃ fid, ∃ e, ∃ rings, Asked 1030 1 (· == 8) (tHdr 0 8) (tReady.modCov
        fun c => { c with opened := some 1, polyStage := some tPoly, fields := [{ fieldId := 1 }] }) fun s => s.cov.opened = some fid
        ∧ s.cov.polyStage = some d ∧ readPolys d = some rings ∧ mapClosed s = false ∧ s.fieldEntry fid = some e)
    ∧ (∃ fe : FieldEntry, ∃ tc : Int, ∃ tr : Int, ∃ x, At 0 (tReady.modCov
        fun c => { c with opened := some 1, fields := [{ fieldId := 1, polyGen := 1 }], tiles := [{ fieldId := 1, tcol := -1, trow := 2, cached := true }] })
        fun s => s.cov.opened.bind s.fieldEntry = some fe ∧ tileAt s fe.fieldId tc tr = some x ∧ x.cached = true
        ∧ x.polyGen ≠ fe.polyGen ∧ s.cov.miss = [])
    ∧ (∃ mask : Nat, ∃ st : Nat, Asked 1031 1 (· == 4) (tHdr 0 4) (tReady) fun _ => mask ≤ 3 ∧ st ≤ 1)
    ∧ (∃ unit : Nat, ∃ mode : Nat, Asked 1032 1 (· == 4) (tHdr 0 4) (tReady) fun s => mode ≤ 3
        ∧ (unit = 65535 ∨ unit ∈ s.sectionUnits)) :=
  ⟨⟨[1, 2, 3, 4, 5, 6, 7, 8], by decide +kernel⟩,
   ⟨[1, 2, 3, 4], [5, 6, 7, 8], by decide +kernel⟩,
   ⟨tPoly, 1, ({ fieldId := 1 } : FieldEntry), ([] : List Ring), by decide +kernel⟩,
   ⟨{ fieldId := 1, polyGen := 1 }, (-1 : Int), 2, ({ fieldId := 1, tcol := -1, trow := 2, cached := true } : Tile), by decide +kernel⟩,
   ⟨3, 1, by decide +kernel⟩,
   ⟨8, 3, by decide +kernel⟩⟩

theorem test_meets_Streams :
    (∃ fid : Nat, ∃ flags : Nat, Asked 1033 4 (· == 16) (tHdr 2 16) (tReady.modCov
        fun c => { c with fields := [{ fieldId := 1 }], tiles := [{ fieldId := 1 }] }) fun s => (s.fieldEntry fid).isSome ∧ flags ≤ 1
        ∧ s.cov.exporting = none ∧ s.cov.unreadable = false)
    ∧ (∃ fid, ∃ tc, ∃ tr, ∃ rest, ∃ k, ∃ sent, ∃ fe : FieldEntry, ∃ x, At 0 (tReady.modCov
        fun c => { c with fields := [{ fieldId := 1 }], tiles := [{ fieldId := 1 }], exporting := some (1, [(0, 0)], 127, 0) })
        fun s => s.cov.exporting = some (fid, (tc, tr) :: rest, k, sent) ∧ hasRoom s 2 528 (keptFree s 2) = true
        ∧ s.fieldEntry fid = some fe ∧ tileAt s fid tc tr = some x)
    ∧ (∃ fid, ∃ k, ∃ sent, At 0 (tReady.modCov fun c => { c with fields := [{ fieldId := 1 }], exporting := some (1, [], 0, 5) })
        fun s => s.cov.exporting = some (fid, [], k, sent) ∧ hasRoom s 2 (exportEnd fid sent s).length (keptFree s 2) = true)
    ∧ (∃ fe : FieldEntry, Asked 1034 1 (· == 0) (tHdr 0 0) (tReady.modCov
        fun c => { c with opened := some 1, fields := [{ fieldId := 1 }] }) fun s => s.cov.opened.bind s.fieldEntry = some fe)
    ∧ (∃ kind : Nat, ∃ first : Nat, Asked 2561 4 (· == 12) (tHdr 2 12) (tReady) fun s => kind ≤ 3 ∧ (kind = 2 → first = 0)
        ∧ s.recorder.stream = none)
    ∧ (∃ kind, ∃ number, ∃ k, ∃ rest, ∃ sent, At 0 (tReady.modRec
        fun r => { r with stream := some (2, [(0, 0)], 3), streamRecords := [{ kind := 2 }] }) fun s => s.recorder.stream = some (kind,
        (number, k) :: rest, sent) ∧ hasRoom s 2 524 (keptFree s 2) = true)
    ∧ (∃ kind, ∃ sent, At 0 (tReady.modRec fun r => { r with stream := some (1, [], 0) }) fun s => s.recorder.stream = some (kind, [],
        sent) ∧ hasRoom s 2 12 (keptFree s 2) = true)
    ∧ (∃ rate : Nat, ∃ count : Nat, ∃ loops : List Nat, Asked 1542 2 (· == 12) (tHdr 1 12) (tReady) fun s => rate ≤ 100 ∧ count ≤ 8
        ∧ (∀ l ∈ loops.take count, noLoop s l = false) ∧ ∀ l ∈ loops.drop count, l = 255)
    ∧ (At 20000 ({ tReady with loopStream := (100, [0, 1]) }) fun s => loopStreamDue s = true ∧ s.follower = false
        ∧ (s.course 1).pendingNotif = [] ∧ hasRoom s 1 328 (keptFree s 1) = true ∧ s.loopStream.2.length ≤ 8) :=
  ⟨⟨1, 1, by decide +kernel⟩,
   ⟨1, 0, 0, ([] : List (Int × Int)), 127, 0, { fieldId := 1 }, ({ fieldId := 1 } : Tile), by decide +kernel⟩,
   ⟨1, 0, 5, by decide +kernel⟩,
   ⟨{ fieldId := 1 }, by decide +kernel⟩,
   ⟨2, 0, by decide +kernel⟩,
   ⟨2, 0, 0, [], 3, by decide +kernel⟩,
   ⟨1, 0, by decide +kernel⟩,
   ⟨100, 1, [1, 255, 255, 255, 255, 255, 255, 255], by decide +kernel⟩,
   by decide +kernel⟩

theorem test_meets_FretAndUnitCommands :
    (∃ w, Asked 1281 3 (fun n => n % 16 == 0 && decide (16 ≤ n) && decide (n ≤ 1024)) (tHdr 0 16) (tReady)
        fun s => s.cfg.package.member = false ∧ judgeFret s w 0 = none)
    ∧ (∃ u, ∃ tag, ∃ h : Hdr, ∃ s : State, asked 1282 3 (· == 4) h s = true ∧ (s.advance h.t).cfg.package.member = false ∧ u < 128
        ∧ tag < 32768 ∧ linkDown (s.advance h.t) (.unit u) = false ∧ (∀ f ∈ ((s.advance h.t).unit u).frets,
        firesNow (s.advance h.t) u f = false) ∧ (((s.advance h.t).unit u).frets.map (·.id)).Nodup)
    ∧ (∃ u : Nat, Asked 1297 1 (· == 4) (tHdr 0 4) (tReady) fun s => s.cfg.package.member = false ∧ u < 128 ∧ s.secOf u = none
        ∧ pairMember s u = false ∧ unusedUnit s u = false ∧ faulted s u = false ∧ drivable s (.unit u) = true
        ∧ boundLoop s (.unit u) = none ∧ (s.unit u).drive.mode = .onoff ∧ staysOff s u = false ∧ (s.unit u).drive.phase = .off
        ∧ (s.unit u).drive.base = 0 ∧ (s.unit u).drive.openWinEnd = none ∧ (s.cluster (clusterOf u)).holder = none
        ∧ (s.cluster (clusterOf u)).queue = [] ∧ refusal s (firstCharge s u (baseOf s u .onoff)) = none)
    ∧ (∃ u : Nat, Asked 1297 1 (· == 4) (tHdr 0 4) (tReady.modDrive 0 fun d => { d with phase := .hold, base := 4 })
        fun s => s.cfg.package.member = false ∧ u < 128 ∧ s.secOf u = none ∧ pairMember s u = false ∧ linkDown s (.unit u) = false
        ∧ (s.unit u).drive.mode = .onoff ∧ (s.unit u).drive.phase = .hold ∧ (s.cluster (clusterOf u)).holder ≠ some u)
    ∧ (∃ u : Nat, ∃ value : Nat, Asked 1298 3 (· == 8) (tHdr 0 8) (tReady.modDrive 2
        fun d => { d with mode := .prop, modeEnabled := true, base := 20 }) fun s => s.cfg.package.member = false ∧ u < 128
        ∧ value ≤ 3000 ∧ s.secOf u = none ∧ pairMember s u = false ∧ unusedUnit s u = false ∧ faulted s u = false
        ∧ drivable s (.unit u) = true ∧ boundLoop s (.unit u) = none ∧ (s.unit u).drive.mode = .prop) :=
  ⟨⟨{ unit := 0, pos := 100, tag := 1 }, by decide⟩,
   ⟨0, 0, tHdr 0 4, tReady.modUnit 0 fun x => { x with frets := [{ tag := 3, pos := 1000 }] }, by decide⟩,
   ⟨0, by decide⟩,
   ⟨0, by decide⟩,
   ⟨2, 3000, by decide⟩⟩

theorem test_meets_UnitModesAndClears :
    (∃ u : Nat, Asked 1299 1 (· == 4) (tHdr 0 4) (tReady.modDrive 0 fun d => { d with mode := .pwm })
        fun s => s.cfg.package.member = false ∧ u < 128 ∧ s.secOf u = none ∧ pairMember s u = false ∧ unusedUnit s u = false
        ∧ unitOff (s.unit u).drive = true ∧ (∀ f ∈ (s.unit u).frets, f.inDie = false) ∧ drivable s (.unit u) = true
        ∧ boundLoop s (.unit u) = none ∧ (s.unit u).drive.mode ≠ .onoff)
    ∧ (∃ u : Nat, Asked 1299 1 (· == 4) (tHdr 0 4) (tReady) fun s => s.cfg.package.member = false ∧ u < 128 ∧ s.secOf u = none
        ∧ pairMember s u = false ∧ unusedUnit s u = false ∧ pwmCapable (s.unitCfg u) = true ∧ unitOff (s.unit u).drive = true
        ∧ (∀ f ∈ (s.unit u).frets, f.inDie = false) ∧ drivable s (.unit u) = true ∧ boundLoop s (.unit u) = none
        ∧ (s.unit u).drive.mode = .onoff ∧ (s.unit u).drive.base = 0 ∧ refusal s (firstCharge s u (baseOf s u .pwm)) = none)
    ∧ (∃ u : Nat, ∃ still : List Nat, Asked 1300 1 (· == 4) (tHdr 0 4) (tReady.modDrive 0 fun d => { d with fault := true, cause := 1 })
        fun s => s.cfg.package.member = false ∧ u < 128 ∧ linkDown s (.unit u) = false ∧ (s.unit u).drive.fault = true
        ∧ (s.cluster (clusterOf u)).fault = false ∧ partner? s u = none ∧ u ∉ still)
    ∧ (∃ u : Nat, Asked 1303 1 (· == 4) (tHdr 0 4) (tReady) fun s => s.cfg.package.member = false ∧ u < 128
        ∧ partitionStopped s 5 = false) :=
  ⟨⟨0, by decide⟩,
   ⟨0, by decide⟩,
   ⟨0, [], by decide⟩,
   ⟨127, by decide⟩⟩

theorem test_meets_LoopRequests :
    (∃ l : Nat, ∃ mode : Nat, Asked 1537 1 (· == 8) (tHdr 0 8) (tReady) fun s => noLoop s l = false ∧ mode ≤ 3
        ∧ ((s.loop l).deviceHold = false ∨ mode ≤ 1))
    ∧ (∃ l : Nat, Asked 1537 1 (· == 8) (tHdr 0 8) (tReady) fun s => noLoop s l = false)
    ∧ (∃ l : Nat, Asked 1538 3 (· == 8) (tHdr 0 8) (tReady.modLoop 1 fun x => { x with mode := .manual }) fun s => noLoop s l = false
        ∧ (s.loop l).mode = .manual)
    ∧ (∃ l : Nat, Asked 1539 3 (· == 8) (tHdr 0 8) (tReady) fun s => noLoop s l = false ∧ trimming s l = false)
    ∧ (∃ l : Nat, ∃ v : Int, Asked 1540 1 (· == 8) (tHdr 0 8) (tReady) fun s => noLoop s l = false ∧ writeOk s l 0 v = true
        ∧ (s.loop l).mode = .off ∧ (s.loop l).writes = [])
    ∧ (∃ l : Nat, ∃ code : Nat, ∃ v : Int, Asked 1540 1 (· == 8) (tHdr 0 8) (tReady.modLoop 0 fun x => { x with mode := .auto })
        fun s => noLoop s l = false ∧ writeOk s l code v = true ∧ (s.loop l).mode ≠ .off ∧ (s.loop l).writes.length < 16)
    ∧ (∃ p : Nat, Asked 1543 3 (· == 8) (tHdr 0 8) (tReady) fun _ => p ≤ 1)
    ∧ (∃ p : Nat, ∃ first : Nat, ∃ fs : List Nat, Asked 1544 3 (fun n => n == 8 + 4 * fs.length && decide (12 ≤ n)) (tHdr 0 12) (tReady)
        fun s => s.cfg.package.member = false ∧ p ≤ 1 ∧ 1 ≤ fs.length ∧ first + fs.length ≤ 128 ∧ ∀ f ∈ fs, f ≤ 262144) :=
  ⟨⟨0, 3, by decide⟩,
   ⟨1, by decide⟩,
   ⟨1, by decide⟩,
   ⟨1, by decide⟩,
   ⟨0, 5, by decide⟩,
   ⟨0, 0, 5, by decide⟩,
   ⟨1, by decide⟩,
   ⟨0, 127, [262144], by decide⟩⟩

theorem test_meets_SwitchRequests :
    (∃ n, ∃ h : Hdr, ∃ s : State, n < 24 ∧ asked 1793 1 (· == 8) h s = true ∧ ((s.advance h.t).swCfg n).used = true
        ∧ drivable (s.advance h.t) (.switch n) = true ∧ boundLoop (s.advance h.t) (.switch n) = none
        ∧ limpMapped (s.advance h.t) n = false ∧ ((s.advance h.t).sw n).state = .off ∧ ((s.advance h.t).sw n).latch = false
        ∧ ((s.advance h.t).sw n).limp = false ∧ ventOk (s.advance h.t) n = true
        ∧ refusal (s.advance h.t) (along (chainSw (s.advance h.t) n) (swBaseOf (s.advance h.t) n + swSurchargeOf (s.advance h.t) n)) = none)
    ∧ (∃ n, ∃ clamps : Clamps, ∃ h : Hdr, ∃ s : State, n < 24 ∧ asked 1793 1 (· == 8) h s = true ∧ ((s.advance h.t).swCfg n).used = true
        ∧ linkDown (s.advance h.t) (.switch n) = false ∧ boundLoop (s.advance h.t) (.switch n) = none
        ∧ limpMapped (s.advance h.t) n = false ∧ ((s.advance h.t).sw n).state = .on ∧ (clampOf clamps n).1 ≤ clampLimit n
        ∧ ((s.advance h.t).swCfg n).extFreewheel = false)
    ∧ (∃ n : Nat, ∃ duty : Nat, Asked 1794 3 (· == 4) (tHdr 0 4) (tReady) fun s => n < 24 ∧ duty ≤ 10000 ∧ (s.swCfg n).used = true
        ∧ (s.swCfg n).pwmHz ≠ 0 ∧ drivable s (.switch n) = true ∧ boundLoop s (.switch n) = none ∧ limpMapped s n = false)
    ∧ (∃ n : Nat, Asked 1795 1 (· == 4) (tHdr 0 4) (tReady.modSw 0 fun x => { x with state := .locked, lockCause := 1 }) fun s => n < 24
        ∧ (s.sw n).state = .locked ∧ (s.sw n).latch = false ∧ linkDown s (.switch n) = false ∧ limpMapped s n = false)
    ∧ (∃ entries : List Nat, ∃ global : Nat, Asked 1798 1 (· == 16) (tHdr 0 16) (tReady) fun s => sharedChannel entries = false
        ∧ global < 4 ∧ allOff s = true ∧ s.odo.speed = 0 ∧ bitAt s.storage.fuseGlobal 1 = false) :=
  ⟨⟨0, tHdr 0 8, tReady, by decide⟩,
   ⟨0, [], tHdr 0 8, tReady.modSw 0 fun x => { x with state := .on }, by decide⟩,
   ⟨1, 10000, by decide⟩,
   ⟨0, by decide⟩,
   ⟨[255, 255, 255, 255, 255, 255, 255, 255], 3, by decide⟩⟩

theorem test_meets_FieldOutputRequests :
    (∃ o, ∃ h : Hdr, ∃ s : State, o < 16 ∧ asked 1809 1 (· == 4) h s = true ∧ ((s.advance h.t).foCfg o).used = true
        ∧ emulated (s.advance h.t) o = false ∧ drivable (s.advance h.t) (.fo o) = true ∧ ((s.advance h.t).fo o).st = 0
        ∧ refusal (s.advance h.t) (along (chainFo (s.advance h.t) o) 10) = none)
    ∧ (∃ o, ∃ h : Hdr, ∃ s : State, o < 16 ∧ asked 1809 1 (· == 4) h s = true ∧ ((s.advance h.t).foCfg o).used = true
        ∧ emulated (s.advance h.t) o = false ∧ linkDown (s.advance h.t) (.fo o) = false ∧ ((s.advance h.t).fo o).st = 1)
    ∧ (∃ o : Nat, Asked 1813 1 (· == 4) (tHdr 0 4) (tReady.modFo 15 fun x => { x with st := 2, cause := 1 }) fun s => o < 16
        ∧ (s.fo o).st = 2 ∧ (s.fo o).latch = false ∧ linkDown s (.fo o) = false)
    ∧ (∃ g : Nat, Asked 1814 1 (· == 4) (tHdr 0 4) ({ tReady with groups := [(0, .back)] }) fun s => g < s.cfg.fieldIo.groups.length
        ∧ s.group g = .back) :=
  ⟨⟨0, tHdr 0 4, tReady, by decide⟩,
   ⟨0, tHdr 0 4, tReady.modFo 0 fun x => { x with st := 1, base := 10 }, by decide⟩,
   ⟨15, by decide⟩,
   ⟨0, by decide⟩⟩

theorem test_meets_BusEventRequests :
    (∃ ctrl : Nat, ∃ buf : Nat, ∃ flags : Nat, ∃ id : Nat, ∃ mask : Nat, Asked 2049 1 (· == 12) (tHdr 0 12) (tReady) fun s => ctrl ≤ 3
        ∧ buf ≤ 15 ∧ flags ≤ 7 ∧ id < 2 ^ 29 ∧ mask < 2 ^ 29 ∧ (s.canOf ctrl).offered = none ∧ (s.canOf ctrl).binds = [])
    ∧ (∃ ctrl : Nat, ∃ buf : Nat, ∃ flags : Nat, ∃ id : Nat, ∃ mask : Nat, ∃ o, Asked 2049 1 (· == 12) (tHdr 0 12) (tReady.modCan 3
        fun c => { c with offered := some 15 }) fun s => ctrl ≤ 3 ∧ buf ≤ 15 ∧ flags ≤ 7 ∧ id < 2 ^ 29 ∧ mask < 2 ^ 29
        ∧ (s.canOf ctrl).offered = some o)
    ∧ (∃ n : Nat, ∃ priority : Nat, ∃ target : Nat, Asked 2305 1 (· == 4) (tHdr 0 4) (tReady) fun _ => n ≤ 255 ∧ priority ≤ 15
        ∧ target ≤ 9 ∧ reservedSource n = false)
    ∧ (∃ k : Nat, ∃ threshold : Nat, ∃ count : Nat, ∃ flags : Nat, ∃ time : Nat, Asked 2306 1 (· == 8) (tHdr 0 8) (tReady)
        fun _ => k ≤ 9 ∧ threshold ≤ 15 ∧ 1 ≤ count ∧ count ≤ 255 ∧ flags ≤ 1 ∧ time ≤ 65535)
    ∧ (∃ a : Nat, ∃ b : Nat, Asked 2307 1 (· == 4) (tHdr 0 4) (tReady.modTgt 9
        fun t => { t with queue := [{ source := 100, target := 9, level := 3 }] }) fun s => a ≤ 9 ∧ b ≤ 9 ∧ a ≠ b
        ∧ (s.tgt b).queue.length + (s.tgt a).queue.length ≤ queueSize b) :=
  ⟨⟨3, 15, 7, 0, 0, by decide⟩,
   ⟨3, 15, 7, 0, 0, 15, by decide⟩,
   ⟨249, 15, 9, by decide⟩,
   ⟨9, 15, 255, 1, 65535, by decide⟩,
   ⟨9, 0, by decide⟩⟩

theorem test_meets_RecorderMaintenance :
    (Asked 2562 1 (· == 0) (tHdr 0 0) (tReady) fun s => s.recorder.frozenAt = none)
    ∧ (Asked 2563 1 (· == 0) (tHdr 0 0) (tReady.modRec fun r => { r with frozenAt := some 0, shLifetime := some { kind := 2 } })
        fun s => s.recorder.frozenAt.isSome ∧ partitionStopped s 6 = false)
    ∧ (∃ size : Nat, Asked 2818 8 (· == 4) (tHdr 3 4) (tReady) fun s => 192 ≤ size ∧ size ≤ 16777216 ∧ noEmmc s = false
        ∧ partitionStopped s (fwPartition (spareFw s)) = false)
    ∧ (∃ size, ∃ done, ∃ data : List Byte, Asked 2819 8 (between' 5 1024) (tHdr 3 8) (tReady.modStore
        fun x => { x with fwStaging := some (192, []) }) fun s => s.storage.fwStaging = some (size, done)
        ∧ done.length + data.length ≤ size ∧ data.length % 4 = 0 ∧ noEmmc s = false
        ∧ partitionStopped s (fwPartition (spareFw s)) = false)
    ∧ (∃ size, ∃ bytes : List Byte, Asked 2820 8 (· == 0) (tHdr 3 0) (tReady.modStore fun x => { x with fwStaging := some (0, []) })
        fun s => s.storage.fwStaging = some (size, bytes) ∧ bytes.length = size)
    ∧ (∃ mib : Nat, Asked 2821 8 (· == 8) (tHdr 3 8) ({ tReady with start := { maint := true } }) fun s => 256 ≤ mib ∧ mib ≤ 32946
        ∧ 321 + mib ≤ s.storage.capacityMib ∧ s.start.maint = true ∧ noEmmc s = false)
    ∧ (Asked 2822 8 (· == 68) (tHdr 3 68) ({ tReady with storage := { keyHash := none } }) fun s => allOff s = true
        ∧ s.storage.keyHash = none) :=
  ⟨by decide,
   by decide,
   ⟨16777216, by decide⟩,
   ⟨192, [], [1, 2, 3, 4], by decide⟩,
   ⟨0, [], by decide⟩,
   ⟨256, by decide⟩,
   by decide⟩

theorem test_meets_WindowAccesses :
    (∃ x : Spi, At 0 (tReady) fun s => awake s = true ∧ (∀ n, n < 4 → (s.course n).taking = false) ∧ spiRefused x = true)
    ∧ (∃ x : Spi, At 0 (tReady) fun s => awake s = true ∧ (∀ n, n < 4 → (s.course n).taking = false) ∧ spiRefused x = false
        ∧ spiIsWrite x = false)
    ∧ (∃ x : Spi, ∃ w, At 0 (tReady) fun s => awake s = true ∧ (∀ n, n < 4 → (s.course n).taking = false) ∧ spiRefused x = false
        ∧ spiIsWrite x = true ∧ spiAddr x = 40 ∧ x.words = [w] ∧ writeBlocked s 40 = false ∧ w.toNat % 256 ≠ 0)
    ∧ (∃ v : Nat, At 5 (tReady.modHost fun h => { h with silent := true }) fun s => awake s = true ∧ writeBlocked s 16 = false
        ∧ v < 4294967296 ∧ v ≠ s.host.beat ∧ s.host.beatAt.isSome)
    ∧ (At 5 (tReady) fun s => awake s = true ∧ writeBlocked s 16 = false ∧ s.host.beat = 0)
    ∧ (At 5 (tReady) fun s => awake s = true ∧ writeBlocked s 12 = false)
    ∧ (∃ i : Nat, ∃ k, At 5 (tReady.modTgt 9
        fun t => { t with queue := [{ source := 3, target := 9, level := 5 }, { source := 4, target := 9, level := 2 }] })
        fun s => awake s = true ∧ writeBlocked s 36 = false ∧ s.isobusLink = none ∧ i < 256 ∧ (i + 256 - s.events.hqRd) % 256 = k
        ∧ k ≤ (s.tgt 9).queue.length)
    ∧ (∃ i : Nat, At 5 (tReady.modTgt 9 fun t => { t with queue := [{ source := 3, target := 9, level := 5 }] }) fun s => awake s = true
        ∧ writeBlocked s 36 = false ∧ s.isobusLink = none ∧ i < 256 ∧ (s.tgt 9).queue.length < (i + 256 - s.events.hqRd) % 256)
    ∧ (∃ restore : Nat, At 5 (tReady.modTgt 9
        fun t => { t with running := 5, claimed := [{ source := 3, target := 9, level := 5 }, { source := 4, target := 9, level := 2 }] })
        fun s => awake s = true ∧ writeBlocked s 44 = false ∧ s.isobusLink = none ∧ restore < 16)
    ∧ (At 5000000000 (tReady) fun s => awake s = true)
    ∧ (∃ ns : Nat, At 7 (tReady) fun s => awake s = true ∧ writeBlocked s 49160 = false ∧ ns < 1000) :=
  ⟨⟨({ header := 1879048192 } : Spi), by decide +kernel⟩,
   ⟨({ header := 201326592 } : Spi), by decide +kernel⟩,
   ⟨tSpi 40 [19660808], (19660808 : Word), by decide +kernel⟩,
   ⟨1, by decide +kernel⟩,
   by decide +kernel,
   by decide +kernel,
   ⟨1, 1, by decide +kernel⟩,
   ⟨2, by decide +kernel⟩,
   ⟨2, by decide +kernel⟩,
   by decide +kernel,
   ⟨999, by decide +kernel⟩⟩

theorem test_meets_GatewayBuffers :
    (∃ c : Nat, ∃ b : Nat, c < 4 ∧ b < 16 ∧ At 7 (tReady.modGw 3 15 fun b => { b with enable := true, tx := true, retries := 2 })
        fun s => awake s = true ∧ writeBlocked s (gwAddr c b) = false ∧ (s.gw c b).enable = true ∧ (s.gw c b).tx = true
        ∧ (s.gw c b).pending = false ∧ gwRefused s c (s.gw c b).frame = false)
    ∧ (∃ c : Nat, ∃ b : Nat, c < 4 ∧ b < 16
        ∧ At 7 (({ tReady with cfg := { tImg with buses := { controllers := [(0, { isobus := true })] } } }).modGw 0 0
        fun b => { b with enable := true, tx := true }) fun s => awake s = true ∧ writeBlocked s (gwAddr c b) = false
        ∧ (s.gw c b).enable = true ∧ (s.gw c b).tx = true ∧ (s.gw c b).pending = false ∧ gwRefused s c (s.gw c b).frame = true)
    ∧ (∃ c : Nat, ∃ b : Nat, ∃ p : TxPhase, c < 4 ∧ b < 16 ∧ (p.sending && p.afterArbitration) = false ∧ At 7 (tReady.modGw 3 15
        fun b => { b with enable := true, tx := true, pending := true }) fun s => awake s = true ∧ writeBlocked s (gwAddr c b) = false
        ∧ (s.gw c b).enable = true ∧ (s.gw c b).tx = true ∧ (s.gw c b).pending = true)
    ∧ (∃ c : Nat, ∃ b : Nat, ∃ p : TxPhase, c < 4 ∧ b < 16 ∧ (p.sending && p.afterArbitration) = true ∧ At 7 (tReady.modGw 0 0
        fun b => { b with enable := true, tx := true, pending := true }) fun s => awake s = true ∧ writeBlocked s (gwAddr c b) = false
        ∧ (s.gw c b).enable = true ∧ (s.gw c b).tx = true ∧ (s.gw c b).pending = true ∧ ∀ x ∈ (s.canOf c).binds, x.1 ≠ b)
    ∧ (∃ c : Nat, ∃ b : Nat, c < 4 ∧ b < 16 ∧ At 7 (tReady.modGw 2 3 fun b => { b with enable := true, full := true })
        fun s => awake s = true ∧ writeBlocked s (gwAddr c b) = false ∧ (s.gw c b).enable = true ∧ (s.gw c b).tx = false)
    ∧ (∃ c : Nat, ∃ b : Nat, ∃ f, ∃ u, c < 4 ∧ b < 16 ∧ At 7 (tReady.modGw 2 3
        fun b => { b with enable := true, lock := true, shadow := some ({ id := 5 }, 9) }) fun s => awake s = true
        ∧ writeBlocked s (gwAddr c b) = false ∧ (s.gw c b).enable = true ∧ (s.gw c b).tx = false ∧ (s.gw c b).shadow = some (f, u)) :=
  ⟨⟨3, 15, by decide⟩,
   ⟨0, 0, by decide⟩,
   ⟨3, 15, ({ sending := true } : TxPhase), by decide⟩,
   ⟨0, 0, ({ sending := true, afterArbitration := true } : TxPhase), by decide⟩,
   ⟨2, 3, by decide⟩,
   ⟨2, 3, ({ id := 5 } : CanFrame), 9, by decide⟩⟩

theorem test_meets_RingStallAndPending :
    (∃ n : Nat, n < 4 ∧ At 10000 (tReady.modCourse 3 fun c => { c with stallAt := some 0, reqWr := 20 }) fun s => stalled s n = true)
    ∧ (∃ n : Nat, ∃ op, ∃ payload, ∃ rest, n < 4 ∧ At 10000 (tReady.modCourse 1
        fun c => { c with pendingNotif := [(33537, [1, 2]), (5, [])] }) fun s => (s.course n).pendingNotif = (op, payload) :: rest
        ∧ awake s = true ∧ hasRoom s n payload.length (keptFree s n) = true)
    ∧ (∃ n : Nat, n < 4 ∧ At 0 (tReady) fun s => (s.course n).pendingNotif = []) :=
  ⟨⟨3, by decide⟩,
   ⟨1, 33537, ([1, 2] : List Byte), ([(5, [])] : List (Nat × List Byte)), by decide⟩,
   ⟨3, by decide⟩⟩

theorem test_meets_HostSilence :
    (At 200000 (tReady) fun s => silenceDue s = true ∧ s.cfg.host.autonomous = false)
    ∧ (At 200000 ({ (tReady.modHost fun h => { h with beatSeen := true }) with cfg := { tImg with host := { autonomous := true } } })
        fun s => silenceDue s = true ∧ s.cfg.host.autonomous = true ∧ s.host.beatSeen = true)
    ∧ (At 200000 ({ (tReady.modHost fun h => { h with outputsEnabled := false, safeLeft := true }) with cfg := { tImg with host := { autonomous := true } } })
        fun s => silenceDue s = true ∧ s.cfg.host.autonomous = true ∧ s.host.beatSeen = false ∧ s.start.configActive = true)
    ∧ (∃ d : Nat, 2 ≤ d ∧ d < 5
        ∧ At 1000000 (({ (tReady.modHost fun h => { h with silent := true }) with cfg := { tImg with host := { autonomous := true } } }).modDie 4
        fun d => { d with heldSafe := true, allOff := true, backAt := some 0 }) fun s => reenableDue s d = true ∧ enableable s d = true)
    ∧ (∃ d : Nat, 2 ≤ d ∧ d < 5
        ∧ At 1000000 (({ (tReady.modHost fun h => { h with silent := true }) with cfg := { tImg with host := { autonomous := true } }, faults := { opened := [{ cls := 14, severity := 4 }] } }).modDie 2
        fun d => { d with heldSafe := true, backAt := some 0 }) fun s => s.faults.opened.any (fun f => f.severity == 4) = true) :=
  ⟨by decide,
   by decide,
   by decide,
   ⟨4, by decide⟩,
   ⟨2, by decide⟩⟩

theorem test_meets_BridgeFrames :
    (∃ l : Nat, l < 3 ∧ At 9 (tReady) fun s => linkUp s (l + 2) = true ∧ (s.die (l + 2)).retrain = none)
    ∧ (∃ l : Nat, l < 3 ∧ At 9 (tReady.modDie 4 fun d => { d with retrain := some 0, latched := [(192, 0, 3, 2, 5)] })
        fun s => linkUp s (l + 2) = true ∧ (s.die (l + 2)).retrain.isSome = true)
    ∧ (∃ l : Nat, l < 3 ∧ At 9 (tReady) fun s => linkUp s (l + 2) = true)
    ∧ (∃ l : Nat, l < 3 ∧ At 9 (tReady.modDie 4 fun d => { d with lanesOut := [0, 1] }) fun s => linkUp s (l + 2) = true)
    ∧ (∃ l : Nat, l < 3 ∧ At 9 (tReady.modDie 4 fun d => { d with askDie := true }) fun s => (s.die (l + 2)).askDie = true
        ∧ linkUp s (l + 2) = true)
    ∧ (∃ l : Nat, l < 3 ∧ At 9 (tReady.modDie 4 fun d => { d with wantDie := true }) fun s => (s.die (l + 2)).askDie = false)
    ∧ (∃ l : Nat, l < 3 ∧ At 9 (tReady.modDie 2 fun d => { d with askD0 := true }) fun s => (s.die (l + 2)).askD0 = true
        ∧ linkUp s (l + 2) = true)
    ∧ (∃ l : Nat, l < 3 ∧ At 9 (tReady.modDie 4 fun d => { d with seqD0 := 255, wantD0 := true }) fun s => heartbeats s (l + 2) = true)
    ∧ (∃ l : Nat, l < 3 ∧ At 9 (tReady.modDie 2 fun d => { d with seqDie := 255 }) fun s => linkUp s (l + 2) = true)
    ∧ (∃ l : Nat, ∃ n : Nat, l < 3 ∧ n < 4 ∧ At 9 (tReady) fun s => n ∉ (s.die (l + 2)).lanesOut) :=
  ⟨⟨2, by decide⟩,
   ⟨2, by decide⟩,
   ⟨0, by decide⟩,
   ⟨2, by decide⟩,
   ⟨2, by decide⟩,
   ⟨2, by decide⟩,
   ⟨0, by decide⟩,
   ⟨2, by decide⟩,
   ⟨0, by decide⟩,
   ⟨2, 3, by decide⟩⟩

theorem test_meets_LinkSilence :
    (∃ d : Nat, 2 ≤ d ∧ d < 5 ∧ At 20000 (tReady.modDrive 0 fun d => { d with phase := .hold, base := 4 }) fun s => silenceOf s d = true)
    ∧ (∃ d : Nat, 2 ≤ d ∧ d < 5 ∧ At 200000 (tReady.modDie 4 fun d => { d with silent := true, solo := some (0, 0) })
        fun s => allOffDue s d = true)
    ∧ (∃ d : Nat, 2 ≤ d ∧ d < 5 ∧ At 200000 (tReady.modDie 3
        fun d => { d with silent := true, allOff := true, heldSafe := true, solo := some (0, 0) }) fun s => (s.die d).silent = true
        ∧ heartbeats s d = true ∧ (d = 4 → s.limp = none))
    ∧ (∃ d : Nat, 2 ≤ d ∧ d < 5 ∧ At 1000 (tReady.modDie 4 fun d => { d with retrain := some 0 }) fun s => retrainLate s d = true) :=
  ⟨⟨2, by decide⟩,
   ⟨4, by decide⟩,
   ⟨3, by decide⟩,
   ⟨4, by decide⟩⟩

theorem test_meets_CoresAndGroups :
    (∃ c : Nat, c < 9 ∧ At 10 (tReady) fun s => (s.start.coresOut.any fun x => x.1 == c) = false ∧ ¬(c = 0
        ∧ s.start.keeperOut.isSome = true))
    ∧ (∃ c : Nat, c < 6 ∧ c ≠ 0 ∧ At 10 (tReady) fun s => (s.start.coresOut.any fun x => x.1 == c) = false)
    ∧ (∃ c : Nat, 6 ≤ c ∧ c < 9 ∧ At 10 (tReady) fun s => (s.start.coresOut.any fun x => x.1 == c) = false)
    ∧ (At 10 (tReady) fun s => (s.start.coresOut.any fun x => x.1 == 0) = false ∧ s.start.keeperOut = none)
    ∧ (∃ c : Nat, c < 9 ∧ At 10 (tReady.modStart fun x => { x with coresOut := [(8, false, 0), (1, true, 0)] })
        fun s => (s.start.coresOut.any fun x => x.1 == c && x.2.1 == false) = true)
    ∧ (∃ c : Nat, 6 ≤ c ∧ c < 9 ∧ At 10 ((tReady.modStart fun x => { x with coresOut := [(6, true, 0)] }).modDie 2
        fun d => { d with heldSafe := true }) fun s => (s.start.coresOut.any fun x => x.1 == c && x.2.1 == true) = true
        ∧ (s.die (c - 4)).heldSafe = true ∧ (s.die (c - 4)).silent = false)
    ∧ (∃ g : Nat, ∃ mv : Nat, g < 7 ∧ At 10 (tReady) fun s => tget s.power.groups false g = true ∧ mv < 6000)
    ∧ (∃ g : Nat, ∃ mv : Nat, g < 7 ∧ 6300 < mv ∧ mv ≤ 36000 ∧ At 10 (tReady) fun _ => True) :=
  ⟨⟨8, by decide⟩,
   ⟨5, by decide⟩,
   ⟨6, by decide⟩,
   by decide,
   ⟨8, by decide⟩,
   ⟨6, by decide⟩,
   ⟨0, 5999, by decide⟩,
   ⟨6, 36000, by decide⟩⟩

theorem test_meets_AuditAndDerating :
    (At 10000 (tReady) fun s => auditDue s = true ∧ (∀ k ∈ allKeys, balanced s k = true) ∧ (s.lead = true → tokensBalanced s = true)
        ∧ ∀ c, c < 6 → ventBalanced s c = true)
    ∧ (∃ dc : Int, 850 < dc ∧ At 10000 ({ tReady with storage := { variant := 1 } }) fun s => s.storage.variant = 1
        ∧ s.ledger.derated = false ∧ s.ledger.withheld = 0 ∧ s.ledger.withholdDue = 0)
    ∧ (∃ dc : Int, dc ≤ 850 ∧ At 10000 ({ tReady with storage := { variant := 1 } }) fun _ => True)
    ∧ (∃ dc : Int, dc < 820
        ∧ At 10000 ({ tReady with storage := { variant := 1 }, ledger := { derated := true, withheld := 100, withholdDue := 500, els := [(pkgKey, { freeBelowPool := -100 })] } })
        fun s => s.ledger.derated = true) :=
  ⟨by decide +kernel,
   ⟨(851 : Int), by decide +kernel⟩,
   ⟨(850 : Int), by decide +kernel⟩,
   ⟨(819 : Int), by decide +kernel⟩⟩

theorem test_meets_Measurements :
    (At 1000 (tReady) fun s => serves 1 s = true ∧ tracking s = true ∧ s.power.vddRf = true)
    ∧ (At 1000 ({ tReady with power := {} }) fun s => s.power.vddRf = false)
    ∧ (∃ a : Nat, ∃ b : Nat, ∃ f : Nat, ∃ l : Nat, a < 2 ∧ b < 2 ∧ At 1000 (tReady) fun s => navRuns s = true ∧ 10 ≤ l
        ∧ bandCentreKhz b ≤ f + 12000 ∧ f ≤ bandCentreKhz b + 12000 ∧ (tget s.nav.notches [] (2 * a + b)).length < 3)
    ∧ (∃ a : Nat, ∃ b : Nat, ∃ f : Nat, ∃ l : Nat, a < 2 ∧ b < 2 ∧ l < 10 ∧ At 1000 (tReady) fun s => navRuns s = true
        ∧ bandCentreKhz b ≤ f + 12000 ∧ f ≤ bandCentreKhz b + 12000)
    ∧ (∃ a : Nat, ∃ b : Nat, a < 2 ∧ b < 2 ∧ At 1000 (tReady) fun s => navRuns s = true)
    ∧ (∃ p : NavPage, pageOk p = false ∧ At 1000 (tNav fun n => { n with bitsConst := 2, bitsAnt := 1 }) fun s => serves 1 s = true
        ∧ tracking s = true ∧ bitAt s.nav.bitsConst p.const = true ∧ bitAt s.nav.bitsAnt p.ant = true ∧ (s.course 1).pendingNotif = []
        ∧ hasRoom s 1 (pagePayload s s p).length (keptFree s 1) = true)
    ∧ (∃ p : NavPage, ∃ m, ∃ sg, ∃ r, pageOk p = true ∧ osnmaPage p = true ∧ p.data = [] ∧ p.osnma = [.kroot true m sg r]
        ∧ sg.length ≠ 64
        ∧ At 1000 ({ (tNav fun n => { n with osnmaAuthed := [5], quality := 1 }) with cfg := { tImg with nav := { osnmaRequire := true } } })
        fun s => serves 1 s = true ∧ tracking s = true ∧ timeUnsafe s = false)
    ∧ (∃ p : NavPage, ∃ d, pageOk p = true ∧ p.const = 1 ∧ p.osnma = [] ∧ p.data = [.ephemeris d] ∧ At 1000 (tNav
        fun n => { n with osnmaAuthed := [5] }) fun s => serves 1 s = true ∧ tracking s = true
        ∧ (tget s.nav.data.ephemerides {} (satKey 1 p.svid)).data ≠ d)
    ∧ (∃ a : Nat, a < 2 ∧ At 1000000 (tNav fun n => { n with lossSince := (none, some 0) }) fun s => navRuns s = true
        ∧ (if a = 0 then s.nav.antLost.1 else s.nav.antLost.2) = false
        ∧ elapsed s (if a = 0 then s.nav.lossSince.1 else s.nav.lossSince.2) 1000000 = true) :=
  ⟨by decide +kernel,
   by decide +kernel,
   ⟨1, 1, 1164450, 10, by decide +kernel⟩,
   ⟨0, 0, 1575420, 9, by decide +kernel⟩,
   ⟨1, 0, by decide +kernel⟩,
   ⟨({ const := 1, bits := [1] } : NavPage), by decide +kernel⟩,
   ⟨({ const := 1, signal := 2, osnma := [.kroot true [1] [2] [3]], svid := 5 } : NavPage), ([1] : List Byte), ([2] : List Byte),
        ([3] : List Byte), by decide +kernel⟩,
   ⟨({ const := 1, signal := 2, data := [.ephemeris [1, 2]], svid := 5 } : NavPage), ([1, 2] : List Byte), by decide +kernel⟩,
   ⟨1, by decide +kernel⟩⟩

theorem test_meets_Corrections :
    (∃ f : RtcmFrame, At 10 (tReady) fun s => navRuns s = true ∧ f.uart0 ≠ s.cfg.nav.rtcmUart0)
    ∧ (∃ f : RtcmFrame, ∃ p, ∃ r, At 10 (tReady) fun s => navRuns s = true ∧ f.uart0 = s.cfg.nav.rtcmUart0
        ∧ rtcmNext (rtcmInput f s) = some (p, false, r))
    ∧ (∃ f : RtcmFrame, ∃ p, ∃ r, rtcmMsg p ∉ rtcmUsed ∧ At 10 (tReady) fun s => navRuns s = true ∧ f.uart0 = s.cfg.nav.rtcmUart0
        ∧ rtcmNext (rtcmInput f s) = some (p, true, r))
    ∧ (∃ f : RtcmFrame, ∃ p, ∃ r, rtcmMsg p ∈ rtcmUsed ∧ rtcmMsg p ∉ [1005, 1006, 1033] ∧ At 10 (tReady) fun s => navRuns s = true
        ∧ f.uart0 = s.cfg.nav.rtcmUart0 ∧ rtcmNext (rtcmInput f s) = some (p, true, r))
    ∧ (∃ f : RtcmFrame, ∃ p, ∃ r, rtcmMsg p = 1033 ∧ At 10 (tReady) fun s => navRuns s = true ∧ f.uart0 = s.cfg.nav.rtcmUart0
        ∧ rtcmNext (rtcmInput f s) = some (p, true, r))
    ∧ (∃ f : RtcmFrame, ∃ p, ∃ r, ∃ q, rtcmMsg p ∈ [1005, 1006] ∧ At 10 (tNav fun n => { n with arp := some (0, 0, 0), fix := 4 })
        fun s => navRuns s = true ∧ f.uart0 = s.cfg.nav.rtcmUart0 ∧ rtcmNext (rtcmInput f s) = some (p, true, r) ∧ s.nav.arp = some q
        ∧ baseMoved q (rtcmArp p) = true)
    ∧ (∃ e, At 10000001 (tNav fun n => { n with rtkNone := false, corrAt := some 0, fix := 4, sol := some { sbas := true } })
        fun s => navRuns s = true ∧ s.nav.rtkNone = false ∧ s.nav.corrAt = some e ∧ e + 100000 * s.cfg.nav.ageLimitDs < s.devtime
        ∧ (s.nav.fix = 3 ∨ s.nav.fix = 4))
    ∧ (∃ sol : RtkSolution, At 10 (tReady) fun s => serves 2 s = true ∧ navRuns s = true ∧ sol.galileo.all (usable s 1) = true)
    ∧ (At 200000 (tNav fun n => { n with fix := 4, lastSolAt := some 0 }) fun s => navRuns s = true ∧ s.nav.fix ≠ 0 ∧ s.nav.fix ≠ 5
        ∧ elapsed s s.nav.lastSolAt 200000 = true)
    ∧ (∃ v : Int × Int × Int, ∃ g : List Nat, v.1 ≠ 0 ∨ v.2.1 ≠ 0 ∧ At 10 (tReady) fun s => serves 2 s = true ∧ navRuns s = true
        ∧ g.all (usable s 1) = true)
    ∧ (At 1000000 (tNav fun n => { n with baseBadSince := some 0, headingValid := true }) fun s => navRuns s = true
        ∧ s.nav.baseMark = false ∧ elapsed s s.nav.baseBadSince 1000000 = true) :=
  ⟨⟨({ uart0 := false, bytes := [1, 2, 3] } : RtcmFrame), by decide +kernel⟩,
   ⟨({ bytes := [7, 211, 0, 2, 67, 80, 6, 162, 127] } : RtcmFrame), ([67, 80] : List Byte), ([] : List Byte), by decide +kernel⟩,
   ⟨({ bytes := [211, 0, 2, 63, 176, 215, 29, 115, 9] } : RtcmFrame), ([63, 176] : List Byte), ([9] : List Byte), by decide +kernel⟩,
   ⟨({ bytes := [211, 0, 2, 67, 80, 6, 162, 126], epochUs := 5 } : RtcmFrame), ([67, 80] : List Byte), ([] : List Byte), by decide +kernel⟩,
   ⟨({ bytes := [211, 0, 2, 64, 144, 135, 215, 208] } : RtcmFrame), ([64, 144] : List Byte), ([] : List Byte), by decide +kernel⟩,
   ⟨({ bytes := [211, 0, 19, 62, 224, 0, 0, 0, 0, 0, 39, 17, 0, 0, 0, 0, 0, 0, 0, 0, 0, 0, 41, 236, 235] } : RtcmFrame), ([62, 224, 0, 0,
        0, 0, 0, 39, 17, 0, 0, 0, 0, 0, 0, 0, 0, 0, 0] : List Byte), ([] : List Byte), ((0, 0, 0) : Int × Int × Int), by decide +kernel⟩,
   ⟨0, by decide +kernel⟩,
   ⟨({ nsv := 9 } : RtkSolution), by decide +kernel⟩,
   by decide +kernel,
   ⟨((0, 2000000, 30000) : Int × Int × Int), ([5] : List Nat), by decide +kernel⟩,
   by decide +kernel⟩

theorem test_meets_EpochsAndPulses :
    (At 1000 (tReady) fun s => coreOut s 2 = false ∧ navRuns s = true)
    ∧ (At 1000 (tNav fun n => { n with uncertain := true, holdActive := true }) fun s => navRuns s = true ∧ s.nav.uncertain = true
        ∧ s.nav.holdActive = true ∧ s.nav.holdLeft = 0)
    ∧ (At 1000 (tNav fun n => { n with uncertain := false, everFix := true, withinUm := 5000000 }) fun s => navRuns s = true
        ∧ s.nav.uncertain = false ∧ s.nav.everFix = true ∧ 5000000 ≤ s.nav.withinUm)
    ∧ (At 1000 (tNav fun n => { n with epoch := some 0 }) fun s => navRuns s = true ∧ posDue s = true ∧ (s.course 1).pendingNotif = []
        ∧ hasRoom s 1 s.nav.posMsg.length (keptFree s 1) = true)
    ∧ (∃ p : TimeSolution, p.locked = true ∧ At 1000 (tReady) fun s => navRuns s = true)
    ∧ (∃ p : TimeSolution, p.locked = false ∧ p.leapActive = false ∧ At 1000 (tNav fun n => { n with quality := 1, ppsAt := some 0 })
        fun s => awake s = true ∧ s.start.configActive = true ∧ s.follower = false ∧ s.nav.ppsAt.isSome)
    ∧ (∃ p : TimeSolution, p.locked = false ∧ At 1000 (tReady) fun s => s.nav.ppsAt = none)
    ∧ (At 1000000 (tNav fun n => { n with nmea := some (0, []) }) fun s => navRuns s = true ∧ ∀ x,
        s.nav.nmea = some x → x.1 + 1000000 / max 1 s.cfg.nav.nmeaHz ≤ s.devtime) :=
  ⟨by decide,
   by decide,
   by decide,
   by decide,
   ⟨({ utcS := 100, gpsTow := 7 } : TimeSolution), by decide⟩,
   ⟨({ locked := false } : TimeSolution), by decide⟩,
   ⟨({ locked := false } : TimeSolution), by decide⟩,
   by decide⟩

theorem test_meets_RetentionAndRefresh :
    (At 600000000 (tReady) fun s => navRuns s = true ∧ s.nav.retentionAt + 600000000 ≤ s.devtime)
    ∧ (At 599999999 (tReady) fun s => s.devtime < s.nav.retentionAt + 600000000)
    ∧ (At 1800000000 ({ tReady with cfg := { tImg with nav := { keepWarm := true } }, power := { supplies := true, state := .park } })
        fun s => s.power.state = .park ∧ s.cfg.nav.keepWarm = true ∧ s.power.warmFrom + 60000000 * s.cfg.nav.keepWarmMin ≤ s.devtime)
    ∧ (∃ e, At 5 ({ tReady with power := { supplies := true, state := .refresh, refreshEnd := some 5 } })
        fun s => s.power.state = .refresh ∧ s.power.refreshEnd = some e ∧ e ≤ s.devtime) :=
  ⟨by decide,
   by decide,
   by decide,
   ⟨5, by decide⟩⟩

theorem test_meets_OdometryEdges :
    (∃ z : FastEdge, ∃ ch, z.input < 8 ∧ z.quarter < 4 ∧ 2 ≤ z.lasts ∧ At 10 (tChan {} 0) fun s => dieFed s 4 = true
        ∧ channelOf s z.input = some ch ∧ (s.chanCfg ch).quad = false ∧ (s.chanCfg ch).falling = false ∧ (s.chan ch).lineA = false ∧ ∀ e,
        (s.chan ch).lastEdge = some e → e + 4 * (s.chanCfg ch).minEdgeUs ≤ 4 * s.devtime + z.quarter)
    ∧ (∃ z : FastEdge, z.input < 8 ∧ z.lasts < 2 ∧ At 10 (tChan {} 0) fun _ => True)
    ∧ (∃ z : FastEdge, z.input < 8 ∧ 2 ≤ z.lasts
        ∧ At 10 ({ tReady with cfg := { tImg with fieldIo := { inputs := [(5, { mode := .fast, invert := true })] } } })
        fun s => dieFed s 4 = true ∧ channelOf s z.input = none ∧ (s.fiCfg z.input).mode = .fast)
    ∧ (∃ z : FastEdge, ∃ ch, ∃ e, z.input < 8 ∧ z.quarter < 4 ∧ 2 ≤ z.lasts ∧ At 10 ((tChan {} 7).modChan 7
        fun x => { x with lastEdge := some 24 }) fun s => dieFed s 4 = true ∧ channelOf s z.input = some ch
        ∧ (s.chanCfg ch).quad = false ∧ (s.chanCfg ch).falling = false ∧ (s.chan ch).lineA = false ∧ (s.chan ch).lastEdge = some e
        ∧ 4 * s.devtime + z.quarter < e + 4 * (s.chanCfg ch).minEdgeUs)
    ∧ (∃ z : FastEdge, ∃ ch, ∃ a : Bool, z.input < 8 ∧ z.quarter < 4 ∧ 2 ≤ z.lasts ∧ At 10 (tChan { quad := true } 0)
        fun s => dieFed s 4 = true ∧ channelOf s z.input = some ch ∧ (s.chanCfg ch).quad = true ∧ (s.chan ch).lineA ≠ a
        ∧ (s.chan ch).lineB = false ∧ ∀ e, (s.chan ch).lastEdge = some e → e + 4 * (s.chanCfg ch).minEdgeUs ≤ 4 * s.devtime + z.quarter)
    ∧ (∃ z : FastEdge, ∃ ch, ∃ a : Bool, ∃ b : Bool, z.input < 8 ∧ z.quarter < 4 ∧ 2 ≤ z.lasts ∧ At 10 (tChan { quad := true } 6)
        fun s => dieFed s 4 = true ∧ channelOf s z.input = some ch ∧ (s.chanCfg ch).quad = true ∧ (s.chan ch).lineA ≠ a
        ∧ (s.chan ch).lineB ≠ b)
    ∧ (∃ ch : Nat, ch < 8 ∧ At 10 ((tChan {} 7).modChan 7 fun x => { x with refused := List.replicate 101 0 })
        fun s => (s.chan ch).noisy = false ∧ 100 < ((s.chan ch).refused.filter fun u => decide (s.devtime < u + 100000)).length)
    ∧ (∃ ch : Nat, ch < 8 ∧ At 1000000 ((tChan {} 0).modChan 0 fun x => { x with noisy := true, refused := [0] })
        fun s => (s.chan ch).noisy = true ∧ ∀ u, (s.chan ch).refused.head? = some u → u + 1000000 ≤ s.devtime)
    ∧ (∃ ch : Nat, ch < 8 ∧ At 1000000 ((tChan {} 0).modChan 0 fun x => { x with standstill := false, lastEdge := some 0, vMeas := 5 })
        fun s => (s.chan ch).standstill = false ∧ ∀ e,
        (s.chan ch).lastEdge = some e → e + 4000 * s.cfg.package.standstillMs ≤ 4 * s.devtime)
    ∧ (At 1000 (tEmu) fun s => s.cfg.odo.emulation.mode = 1 ∧ emuDrives s = true ∧ s.odo.emuStopped = false ∧ s.odo.emuRate ≠ 0
        ∧ emuGiven s < emuDue s ∧ ∀ l, s.odo.emuLast = some l → 1000000 ≤ (s.devtime - l) * 40000)
    ∧ (∃ l, At 1000 (tEmu.modOdo fun o => { o with emuLast := some 976 }) fun s => emuDrives s = true ∧ s.odo.emuStopped = false
        ∧ s.odo.emuRate ≠ 0 ∧ emuGiven s + emuSteps s.cfg.odo.emulation ≤ emuDue s ∧ s.odo.emuLast = some l
        ∧ (s.devtime - l) * 20000 * emuSteps s.cfg.odo.emulation < 1000000) :=
  ⟨⟨({} : FastEdge), 0, by decide +kernel⟩,
   ⟨({ lasts := 1 } : FastEdge), by decide +kernel⟩,
   ⟨({ input := 5 } : FastEdge), by decide +kernel⟩,
   ⟨({ input := 7, quarter := 3 } : FastEdge), 7, 24, by decide +kernel⟩,
   ⟨({ input := 1 } : FastEdge), 0, true, by decide +kernel⟩,
   ⟨({ input := 6 } : FastEdge), 6, true, true, by decide +kernel⟩,
   ⟨7, by decide +kernel⟩,
   ⟨0, by decide +kernel⟩,
   ⟨0, by decide +kernel⟩,
   by decide +kernel,
   ⟨976, by decide +kernel⟩⟩

theorem test_meets_SentAndSources :
    (∃ ch : Nat, ∃ c, ∃ f : SentFrame, ch < 2 ∧ sentCrcGood c f = false ∧ At 10 (tReady.modSent 0 fun x => { x with badRun := 8 })
        fun s => dieFed s 4 = true ∧ tfind s.cfg.odo.sent ch = some c ∧ (s.sentOf ch).badRun < 9
        ∧ sentFormed c (s.sentOf ch).lastCal f = true)
    ∧ (∃ ch : Nat, ∃ c, ∃ f : SentFrame, ch < 2 ∧ At 10 (tReady.modSent 0 fun x => { x with badRun := 9 }) fun s => dieFed s 4 = true
        ∧ tfind s.cfg.odo.sent ch = some c ∧ 9 ≤ (s.sentOf ch).badRun ∧ (s.sentOf ch).lost = false
        ∧ sentFormed c (s.sentOf ch).lastCal f = false)
    ∧ (∃ ch : Nat, ∃ c, ∃ f : SentFrame, ch < 2 ∧ sentCrcGood c f = true ∧ At 10 (tReady.modSent 0
        fun x => { x with lost := true, goodRun := 9 }) fun s => dieFed s 4 = true ∧ tfind s.cfg.odo.sent ch = some c
        ∧ sentFormed c (s.sentOf ch).lastCal f = true)
    ∧ (∃ ch : Nat, ∃ c, ∃ l, ch < 2 ∧ At 10000 (tReady.modSent 0 fun x => { x with lastAt := some 0, value := 3 })
        fun s => tfind s.cfg.odo.sent ch = some c ∧ (s.sentOf ch).lastAt = some l ∧ l + 10 * c.periodUs ≤ s.devtime
        ∧ (s.sentOf ch).lost = false)
    ∧ (∃ a, ∃ b, ∃ t0, a < b ∧ b < 16 ∧ At 2000000 (tReady.modOdo fun o => { o with pairs := [(1, (0, false))] })
        fun s => s.odo.pairs = [(16 * a + b, (t0, false))] ∧ t0 + 2000000 ≤ s.devtime ∧ (availableSources s).length ≤ 2)
    ∧ (∃ r : Nat, ∃ a, r < 9 ∧ At 10000000 (tReady.modOdo
        fun o => { o with sources := [(8, { excluded := true, agreeSince := some 0 })] })
        fun s => (tget s.odo.sources {} r).excluded = true ∧ (tget s.odo.sources {} r).agreeSince = some a ∧ a + 10000000 ≤ s.devtime) :=
  ⟨⟨0, ({} : SentCfg), tFrame 4, by decide⟩,
   ⟨0, ({} : SentCfg), ({} : SentFrame), by decide⟩,
   ⟨0, ({} : SentCfg), tFrame 9, by decide⟩,
   ⟨0, ({} : SentCfg), 0, by decide⟩,
   ⟨0, 1, 0, by decide⟩,
   ⟨8, 0, by decide⟩⟩

theorem test_meets_DecisionsAndJournal :
    (∃ u, ∃ r, u < 128 ∧ At 100 ({ tOne with host := { outputsEnabled := true, master := [(0, true)] } }) fun s => cyclesRun s = true
        ∧ dozing s = false ∧ coreOut s 3 = false ∧ s.follower = false ∧ s.lead = false
        ∧ (s.host.silent && !s.cfg.host.autonomous) = false ∧ s.sectionUnits = [u] ∧ s.usedUnits = [u] ∧ gateOf s u = some (r,
        some false) ∧ (s.unit u).sect.commanded = false ∧ (s.unit u).sect.wanted = false ∧ (s.unit u).frets = []
        ∧ (s.unit u).sect.reached ≠ some true)
    ∧ (At 100 ({ tReady with start := {} }) fun s => s.start.configActive = false)
    ∧ (At 200000 (tReady.modCov fun c => { c with sectionsAt := some 0 }) fun s => cyclesRun s = true ∧ dozing s = false
        ∧ s.follower = false ∧ s.lead = false ∧ sectionsOld s (sectionsPeriod s) = true ∧ (s.course 1).pendingNotif = []
        ∧ hasRoom s 1 (sectionsPayload s s.cfg.package.pkgIndex).length (keptFree s 1) = true)
    ∧ (∃ tc : Int, ∃ tr : Int, ∃ fe : FieldEntry, At 100 (tReady.modCov
        fun c => { c with opened := some 1, fields := [{ fieldId := 1 }], working := [(-1, 2)] })
        fun s => s.cov.opened.bind s.fieldEntry = some fe ∧ loadable s fe.fieldId tc tr = true ∧ coreOut s 3 = false
        ∧ (cachedTiles s).length < 128 ∧ tileAt s fe.fieldId tc tr = none ∧ s.cov.tiles.length < mapTiles s ∧ (s.cov.tiles.filter
        fun x => x.fieldId == fe.fieldId).length < 65536)
    ∧ (∃ tc : Int, ∃ tr : Int, ∃ fe : FieldEntry, ∃ x, At 100 (tReady.modCov
        fun c => { c with opened := some 1, fields := [{ fieldId := 1, coverEpoch := 3 }], ahead := [(-1, 2)], tiles := [{ fieldId := 1, tcol := -1, trow := 2, slot := 4 }] })
        fun s => s.cov.opened.bind s.fieldEntry = some fe ∧ loadable s fe.fieldId tc tr = true ∧ coreOut s 3 = false
        ∧ (cachedTiles s).length < 128 ∧ tileAt s fe.fieldId tc tr = some x)
    ∧ (At 100000 (tReady.modStore fun x => { x with failedCommits := 3 }) fun s => commitDue s = true)
    ∧ (At 100000 (tReady.modStore fun x => { x with failedCommits := 9 }) fun s => commitDue s = true)
    ∧ (At 600000000 (tReady.modLearn 0 fun l => { l with opening := [(3, { mean := 4 })] }) fun s => awake s = true
        ∧ s.start.configActive = true ∧ partitionStopped s 5 = false ∧ s.storage.latencySavedAt + 600000000 ≤ s.devtime) :=
  ⟨⟨8, 14, by decide⟩,
   by decide,
   by decide,
   ⟨(-1 : Int), (2 : Int), { fieldId := 1 }, by decide⟩,
   ⟨(-1 : Int), (2 : Int), { fieldId := 1, coverEpoch := 3 }, ({ fieldId := 1, tcol := -1, trow := 2, slot := 4 } : Tile), by decide⟩,
   by decide,
   by decide,
   by decide⟩

theorem test_meets_FretEvents :
    (∃ u : Nat, ∃ f, u < 128 ∧ f.action = 0 ∧ At 100 ((tReady.modUnit 0
        fun x => { x with frets := [{ state := .committed, tag := 3 }] }).modNav fun n => { n with fretsLive := true })
        fun s => (s.unit u).frets = [f] ∧ firesNow s u f = true ∧ (s.unit u).drive.mode = .onoff ∧ (s.unit u).drive.phase = .off
        ∧ staysOff s u = false ∧ (s.cluster (clusterOf u)).holder = none ∧ (s.cluster (clusterOf u)).queue = [])
    ∧ (∃ u : Nat, ∃ f, u < 128 ∧ f.action = 1 ∧ At 100 ((tReady.modUnit 1
        fun x => { x with frets := [{ state := .armed, action := 1 }] }).modDrive 1 fun d => { d with phase := .hold, base := 4 })
        fun s => (s.unit u).frets = [f] ∧ firesNow s u f = true ∧ (s.unit u).drive.mode = .onoff ∧ (s.unit u).drive.phase = .hold
        ∧ (s.cluster (clusterOf u)).queue = [])
    ∧ (∃ u : Nat, u < 128 ∧ At 100 (tReady.modUnit 0 fun x => { x with frets := [{ state := .pending }] })
        fun s => ∀ f ∈ (s.unit u).frets, firesNow s u f = false)
    ∧ (At 20000 (tReady) fun s => s.power.state = .run ∧ s.start.configActive = true ∧ s.nav.odoStale = false
        ∧ s.nav.staleBase + 20000 ≤ s.devtime)
    ∧ (∃ u : Nat, ∃ tag : Nat, u < 128 ∧ At 500000 (tReady.modUnit 0
        fun x => { x with frets := [{ state := .suspended, tag := 5 }, { state := .armed, tag := 5 }] })
        fun s => (s.unit u).frets.any (overSuspended s.devtime tag) = true)
    ∧ (∃ c : Nat, c < 16 ∧ At 100000 (tReady.modCluster 15 fun c => { c with slotWaitUs := 19 })
        fun s => (s.cluster c).lastWaitAt + 100000 ≤ s.devtime) :=
  ⟨⟨0, ({ state := .committed, tag := 3 } : Fret), by decide⟩,
   ⟨1, ({ state := .armed, action := 1 } : Fret), by decide⟩,
   ⟨0, by decide⟩,
   by decide,
   ⟨0, 5, by decide⟩,
   ⟨15, by decide⟩⟩

theorem test_meets_ProfilePhases :
    (∃ u : Nat, ∃ mv : Nat, u < 128 ∧ At 10 (tPhD 0 fun d => { d with phase := .rise, base := 4 })
        fun s => (s.unit u).drive.phase = .rise ∧ (s.profile u).tPhUs ≠ 0
        ∧ (s.profile u).ttpMinUs * s.vRef u ≤ (s.devtime - (s.unit u).drive.phaseAt) * mv
        ∧ (s.devtime - (s.unit u).drive.phaseAt) * mv ≤ (s.profile u).ttpMaxUs * s.vRef u)
    ∧ (∃ u : Nat, ∃ mv : Nat, u < 128 ∧ At 9 ((tPhD 0 fun d => { d with phase := .rise, base := 4 }).modUnit 1
        fun x => { x with nextFret := 3 }) fun s => (s.unit u).drive.phase = .rise ∧ (s.profile u).tPhUs ≠ 0
        ∧ (s.unit u).drive.ttpRaisedAt = none ∧ (s.devtime - (s.unit u).drive.phaseAt) * mv < (s.profile u).ttpMinUs * s.vRef u)
    ∧ (∃ u : Nat, u < 128 ∧ At 9 (tPh) fun s => (s.unit u).drive.phase ≠ .rise)
    ∧ (∃ u : Nat, ∃ ma : Nat, ∃ mv : Nat, u < 128 ∧ At 40000 (tPhD 0 fun d => { d with phase := .rise, base := 4 })
        fun s => (s.unit u).drive.phase = .rise ∧ 2 * (s.profile u).ttpMaxUs * s.vRef u ≤ (s.devtime - (s.unit u).drive.phaseAt) * mv
        ∧ 5 * ma < (s.profile u).iPeak ∧ faulted s u = false ∧ muted s (.unit u) = false)
    ∧ (∃ u : Nat, ∃ ma : Nat, ∃ mv : Nat, u < 128 ∧ At 40000 (tPhD 0 fun d => { d with phase := .rise, base := 4 })
        fun s => (s.unit u).drive.phase = .rise ∧ (s.profile u).tPhUs ≠ 0
        ∧ 2 * (s.profile u).ttpMaxUs * s.vRef u ≤ (s.devtime - (s.unit u).drive.phaseAt) * mv ∧ (s.profile u).iPeak ≤ 5 * ma)
    ∧ (∃ u : Nat, u < 128 ∧ At 500 (tPhD 0 fun d => { d with phase := .peakHold, base := 4 })
        fun s => phaseOver s u .peakHold (s.profile u).tPhUs = true ∧ (s.profile u).tTransUs ≠ 0)
    ∧ (∃ u : Nat, u < 128 ∧ At 200 ((tPhD 0 fun d => { d with phase := .transition, base := 4, pairImbalance := true }).modCluster 0
        fun c => { c with holder := some 0, slot := 4 }) fun s => phaseOver s u .transition (s.profile u).tTransUs = true
        ∧ (s.cluster (clusterOf u)).holder = some u ∧ (s.cluster (clusterOf u)).queue = [])
    ∧ (∃ u : Nat, ∃ e, u < 128 ∧ At 50000 (tPhD 0 fun d => { d with phase := .hold, base := 4, shotEnd := some 50000 })
        fun s => (s.unit u).drive.shotEnd = some e ∧ e ≤ s.devtime ∧ (s.unit u).drive.phase = .hold
        ∧ (s.cluster (clusterOf u)).queue = []) :=
  ⟨⟨0, 13500, by decide⟩,
   ⟨0, 13500, by decide⟩,
   ⟨127, by decide⟩,
   ⟨0, 99, 13500, by decide⟩,
   ⟨0, 100, 13500, by decide⟩,
   ⟨0, by decide⟩,
   ⟨0, by decide⟩,
   ⟨0, 50000, by decide⟩⟩

theorem test_meets_PwmCycles :
    (∃ u : Nat, u < 128 ∧ At 100000 (tPwm id) fun s => cycleDueNow s u = true ∧ rateStaged s u = false ∧ 500 ≤ (s.unit u).drive.duty
        ∧ (s.unit u).drive.duty < 10000 ∧ (s.unit u).drive.phase = .off ∧ (s.cluster (clusterOf u)).holder = none
        ∧ (s.cluster (clusterOf u)).queue = [])
    ∧ (∃ u : Nat, u < 128 ∧ At 100000 (tPwm fun d => { d with duty := 0 }) fun s => cycleDueNow s u = true ∧ rateStaged s u = false
        ∧ (s.unit u).drive.duty = 0 ∧ (s.unit u).drive.phase = .off)
    ∧ (∃ u : Nat, ∃ x, u < 128 ∧ At 100000 (tLiq) fun s => cycleDueNow s u = true ∧ rateStaged s u = true ∧ s.secOf u = some x
        ∧ x.product ∉ s.pressureBad)
    ∧ (∃ u : Nat, u < 128 ∧ At 99999 (tPwm id) fun s => cycleDueNow s u = false)
    ∧ (∃ u : Nat, ∃ e, u < 128 ∧ At 50000 (tPwm fun d => { d with phase := .hold, onTimeEnd := some 50000 })
        fun s => (s.unit u).drive.onTimeEnd = some e ∧ e ≤ s.devtime ∧ (s.unit u).drive.phase = .hold
        ∧ (s.cluster (clusterOf u)).queue = []) :=
  ⟨⟨8, by decide⟩,
   ⟨8, by decide⟩,
   ⟨8, ({} : SectionCfg), by decide⟩,
   ⟨8, by decide⟩,
   ⟨8, 50000, by decide⟩⟩

theorem test_meets_StrokeDetections :
    (∃ u : Nat, ∃ e, u < 128 ∧ At 100 (tDrv 0
        fun d => { d with phase := .hold, base := 4, openWinEnd := some 100, missedDips := 2, noMotion := true })
        fun s => (s.unit u).drive.openWinEnd = some e ∧ s.devtime ≤ e ∧ (s.unit u).drive.dipSeen = false ∧ (s.unit u).drive.mode ≠ .prop
        ∧ (s.unit u).drive.phase ≠ .slotWait)
    ∧ (∃ u : Nat, u < 128 ∧ At 100 (tReady) fun s => (s.unit u).drive.openWinEnd = none)
    ∧ (∃ u : Nat, ∃ e, u < 128 ∧ At 100 (tDrv 0 fun d => { d with phase := .hold, base := 4, openWinEnd := some 100, missedDips := 2 })
        fun s => (s.unit u).drive.openWinEnd = some e ∧ e ≤ s.devtime ∧ ∀ m, (s.unit u).learn.openEdge = some m → m.restrike = false)
    ∧ (∃ u : Nat, ∃ e, u < 128 ∧ At 100 (tDrv 0 fun d => { d with phase := .turnOff, closeWinEnd := some 100, missedKnees := 1 })
        fun s => (s.unit u).drive.closeWinEnd = some e ∧ s.devtime ≤ e)
    ∧ (∃ u : Nat, ∃ e, u < 128 ∧ At 100 (tDrv 0 fun d => { d with phase := .turnOff, closeWinEnd := some 100, missedKnees := 2 })
        fun s => (s.unit u).drive.closeWinEnd = some e ∧ e ≤ s.devtime)
    ∧ (∃ u : Nat, u < 128 ∧ At 3001 (tDrv 0 fun d => { d with phase := .slotWait, base := 4 })
        fun s => (s.unit u).drive.phase = .slotWait ∧ (s.unit u).drive.crowdedSeen = false
        ∧ (s.unit u).drive.askedAt + 3000 < s.devtime) :=
  ⟨⟨0, 100, by decide⟩,
   ⟨127, by decide⟩,
   ⟨0, 100, by decide⟩,
   ⟨0, 100, by decide⟩,
   ⟨0, 100, by decide⟩,
   ⟨0, by decide⟩⟩

theorem test_meets_ValveFaults :
    (∃ u : Nat, u < 128 ∧ At 9 (tDrv 0 fun d => { d with phase := .hold, base := 4 }) fun s => faulted s u = false)
    ∧ (∃ u : Nat, u < 128 ∧ At 9 (tReady) fun s => faulted s u = false)
    ∧ (∃ u : Nat, u < 128 ∧ At 9 (tDrv 8 fun d => { d with phase := .rise, base := 4 }) fun s => faulted s u = false)
    ∧ (∃ u : Nat, u < 128 ∧ At 9 (tReady) fun s => faulted s u = false)
    ∧ (∃ u : Nat, u < 128 ∧ At 9 (tDrv 0 fun d => { d with fault := true, cause := 1 }) fun s => faulted s u = true)
    ∧ (∃ u : Nat, u < 128 ∧ At 9 (tDrv 2
        fun d => { d with mode := .prop, modeEnabled := true, phase := .proportional, setpoint := 300, base := 20 })
        fun s => (s.unit u).drive.phase = .proportional ∧ (s.unit u).drive.setpoint ≠ 0 ∧ faulted s u = false)
    ∧ (∃ u : Nat, u < 128
        ∧ At 1000 ({ (tDrv 0 fun d => { d with phase := .hold, base := 4 }) with cfg := { tImg with units := { units := [(0, { tUnit with pairOwner := true }), (1, { tUnit with mode := .pairedMember })] } } })
        fun s => (s.unitCfg u).pairOwner = true ∧ (s.unit u).drive.phase = .hold ∧ (s.unit u).drive.pairImbalance = false
        ∧ (s.unit u).drive.phaseAt + 1000 ≤ s.devtime)
    ∧ (∃ d : Nat, d = 2 ∨ d = 3 ∧ At 9 (tReady.modBoost 3 fun b => { b with running := true }) fun s => (s.boostOf d).running = true)
    ∧ (∃ c : Nat, c < 16 ∧ At 9 ((tDrv 0 fun d => { d with phase := .hold, base := 4 }).modCluster 0
        fun c => { c with highSide := true }) fun s => (s.cluster c).fault = false ∧ (s.cluster c).highSide = true)
    ∧ (∃ c : Nat, c < 16 ∧ At 9 (tReady.modCluster 15 fun c => { c with highSide := true }) fun s => (s.cluster c).fault = false
        ∧ (s.cluster c).highSide = true)
    ∧ (∃ c : Nat, c < 16 ∧ At 9 (tDrv 1 fun d => { d with phase := .hold, base := 4 }) fun s => (s.cluster c).fault = false)
    ∧ (∃ c : Nat, c < 16 ∧ At 9 (tReady) fun s => (s.cluster c).fault = false ∧ (s.cluster c).highSide = false) :=
  ⟨⟨0, by decide⟩,
   ⟨127, by decide⟩,
   ⟨8, by decide⟩,
   ⟨0, by decide⟩,
   ⟨0, by decide⟩,
   ⟨2, by decide⟩,
   ⟨0, by decide⟩,
   ⟨3, by decide⟩,
   ⟨0, by decide⟩,
   ⟨15, by decide⟩,
   ⟨0, by decide⟩,
   ⟨1, by decide⟩⟩

theorem test_meets_ClusterTestsAndTrim :
    (∃ c : Nat, c < 16 ∧ At 1000000 (tReady) fun s => awake s = true ∧ s.power.state = .run ∧ (s.cluster c).fault = false
        ∧ (s.cluster c).testAt = none ∧ clusterIdle s c = true ∧ (s.cluster c).lastTestAt + 1000000 ≤ s.devtime
        ∧ (s.cluster c).gated = false)
    ∧ (∃ c : Nat, c < 16 ∧ At 999999 (tReady) fun s => s.devtime < (s.cluster c).lastTestAt + 1000000)
    ∧ (∃ c : Nat, ∃ a, c < 16 ∧ At 12000 (tReady.modCluster 15 fun c => { c with testAt := some 0, highSide := true })
        fun s => (s.cluster c).testAt = some a ∧ a + 12000 ≤ s.devtime)
    ∧ (∃ c : Nat, c < 16 ∧ At 1000000 (tReady.modCluster 15 fun c => { c with gated := true }) fun s => (s.cluster c).gated = true
        ∧ (s.cluster c).gatedAt + 1000000 ≤ s.devtime)
    ∧ (∃ c : Nat, ∃ m : Nat, ∃ cur : Tbl Nat, ∃ u, c < 16 ∧ 1000 ≤ m ∧ 0 < tget cur 0 u ∧ At 2000 (tDrv 0
        fun d => { d with phase := .hold, base := 4 }) fun s => steadyUnits s c = [u] ∧ trimReady s c = true
        ∧ (s.cluster c).trimAt.all (fun a => decide (a + 1000 ≤ s.devtime)) = true)
    ∧ (∃ u : Nat, ∃ a, u < 128 ∧ At 10000000 (tDrv 0 fun d => { d with clampSince := some 0, trimLimit := true })
        fun s => (s.unit u).drive.clampSince = some a ∧ a + 10000000 ≤ s.devtime)
    ∧ (∃ u : Nat, ∃ a, u < 128 ∧ At 60000000 (tReady.modLearn 0 fun l => { l with lastHold := some 0 })
        fun s => (s.unit u).learn.lastHold = some a ∧ a + 60000000 ≤ s.devtime) :=
  ⟨⟨0, by decide⟩,
   ⟨15, by decide⟩,
   ⟨15, 0, by decide⟩,
   ⟨15, by decide⟩,
   ⟨0, 1000, ([(0, 990)] : Tbl Nat), 0, by decide⟩,
   ⟨0, 0, by decide⟩,
   ⟨0, 0, by decide⟩⟩

theorem test_meets_LoopEvents :
    (∃ l : Nat, ∃ a, l < 128 ∧ At 2000 ((tReady.modLoop 0 fun l => { l with mode := .manual, manual := 20000 }))
        fun s => loopRuns s l = true ∧ onBeat (1000000 / max 1 (s.loopCfg l).rateHz) s.devtime = true ∧ (s.loopCfg l).fb = .ai a
        ∧ (s.ai a).valid = true ∧ (s.loop l).mode = .manual ∧ (s.loop l).newMode = none ∧ (s.loop l).writes = []
        ∧ (s.loop l).deviceHold = false ∧ (s.loop l).fbInvalid = false ∧ (s.loop l).outFault = false
        ∧ (s.loop l).params.outLo ≤ (s.loop l).params.outHi)
    ∧ (∃ l : Nat, l < 128 ∧ At 2000 ((tReady.modLoop 0 fun l => { l with mode := .manual }).modAi 0 fun a => { a with valid := false })
        fun s => loopRuns s l = true ∧ onBeat (1000000 / max 1 (s.loopCfg l).rateHz) s.devtime = true ∧ feedbackValid s l = false
        ∧ (s.loop l).mode = .manual ∧ (s.loop l).newMode = none ∧ (s.loop l).writes = [] ∧ (s.loop l).deviceHold = false
        ∧ (s.loop l).fbInvalid = false)
    ∧ (∃ l : Nat, l < 128 ∧ At 2000 ((tReady.modLoop 0 fun l => { l with mode := .auto, newMode := some .hold }))
        fun s => loopRuns s l = true ∧ onBeat (1000000 / max 1 (s.loopCfg l).rateHz) s.devtime = true ∧ (s.loop l).newMode = some .hold
        ∧ (s.loop l).writes = [] ∧ (s.loop l).outFault = false)
    ∧ (∃ l : Nat, l < 128 ∧ At 2001 (tReady) fun s => onBeat (1000000 / max 1 (s.loopCfg l).rateHz) s.devtime = false)
    ∧ (∃ l : Nat, l < 128 ∧ At 200000 ((tReady.modLoop 0
        fun l => { l with mode := .auto, fbInvalid := true, fbHolding := true, u := 5, params := { outSafe := 77 } }))
        fun s => loopRuns s l = true ∧ (s.loop l).fbHolding = true ∧ (s.loop l).outFault = false
        ∧ (s.loop l).fbInvalidAt + 1000 * (s.loop l).params.fbHoldMs.toNat ≤ s.devtime)
    ∧ (∃ l : Nat, l < 128 ∧ At 20000 ((tReady.modLoop 0
        fun l => { l with mode := .manual, params := { plausEnable := 1, kM := 65536 }, u := 100 })) fun s => loopRuns s l = true
        ∧ onBeat 10000 s.devtime = true ∧ (s.loop l).params.plausEnable ≠ 0 ∧ (s.loop l).mode = .manual ∧ (s.loop l).fbInvalid = false
        ∧ (s.loop l).outFault = false
        ∧ s.devtime < (s.loop l).plausAt + 1000 * ((s.loop l).params.thetaMs + 3 * (s.loop l).params.tauMs).toNat)
    ∧ (∃ l : Nat, ∃ t0, l < 128 ∧ At 100000 ((tReady.modLoop 0
        fun l => { l with mode := .manual, params := { plausEnable := 1, kM := 65536 }, u := 100, pv := 5000, overSince := some 0, rF := 655360000 }))
        fun s => loopRuns s l = true ∧ onBeat 10000 s.devtime = true ∧ (s.loop l).params.plausEnable ≠ 0 ∧ (s.loop l).mode = .manual
        ∧ (s.loop l).fbInvalid = false ∧ (s.loop l).outFault = false ∧ (s.loop l).plausFault = false ∧ (s.loop l).params.policy ≠ 1
        ∧ (s.loop l).plausAt + 1000 * ((s.loop l).params.thetaMs + 3 * (s.loop l).params.tauMs).toNat ≤ s.devtime
        ∧ (s.loop l).overSince = some t0 ∧ t0 + 1000 * (s.loop l).params.rTimeMs.toNat ≤ s.devtime
        ∧ (s.loop l).params.rThr * 65536 < mag (s.loop l).predict.rF) :=
  ⟨⟨0, 0, by decide⟩,
   ⟨0, by decide⟩,
   ⟨0, by decide⟩,
   ⟨0, by decide⟩,
   ⟨0, by decide⟩,
   ⟨0, by decide⟩,
   ⟨0, 0, by decide⟩⟩

theorem test_meets_SwitchFaults :
    (∃ n : Nat, ∃ cl : Clamps, n < 24 ∧ At 9 (tReady.modSw 0
        fun x => { x with state := .on, base := 2, retryLeft := 1, ventReserved := 100 }) fun s => swOn (s.sw n) = true
        ∧ 0 < (s.sw n).retryLeft ∧ (clampOf cl n).1 ≤ clampLimit n ∧ (s.swCfg n).extFreewheel = false)
    ∧ (∃ n : Nat, ∃ cl : Clamps, n < 24 ∧ At 9 (tReady.modSw 23 fun x => { x with state := .inrush }) fun s => swOn (s.sw n) = true
        ∧ (s.sw n).retryLeft = 0 ∧ (clampOf cl n).1 ≤ clampLimit n ∧ (s.swCfg n).extFreewheel = false)
    ∧ (∃ n : Nat, ∃ cl : Clamps, n < 24 ∧ At 2000 (tReady.modSw 0 fun x => { x with state := .on, base := 2, retryLeft := 3 })
        fun s => (s.sw n).state = .on ∧ disturbed s n = false ∧ (s.sw n).onSince + 2000 ≤ s.devtime ∧ 0 < (s.sw n).retryLeft
        ∧ (clampOf cl n).1 ≤ clampLimit n ∧ (s.swCfg n).extFreewheel = false)
    ∧ (∃ n : Nat, n < 24 ∧ At 2000 (tReady.modSw 23 fun x => { x with state := .inrush }) fun s => (s.sw n).state = .inrush)
    ∧ (∃ n : Nat, ∃ cl : Clamps, n < 24 ∧ At 9 (tReady.modSw 0 fun x => { x with state := .inrush, base := 2, retryLeft := 3 })
        fun s => (s.sw n).latch = false ∧ swOn (s.sw n) = true ∧ 0 < (s.sw n).retryLeft ∧ (clampOf cl n).1 ≤ clampLimit n
        ∧ (s.swCfg n).extFreewheel = false)
    ∧ (∃ n : Nat, n < 24 ∧ At 9 (tReady) fun s => (s.sw n).latch = false ∧ swOn (s.sw n) = false)
    ∧ (∃ n : Nat, n < 24 ∧ At 9 (tReady.modSw 0 fun x => { x with state := .backoff, latch := true, latchAt := some 0 })
        fun s => (s.sw n).latch = true ∧ (s.sw n).state ≠ .latchWait)
    ∧ (∃ n : Nat, ∃ a, n < 24 ∧ At 2000000 (tReady.modSw 0 fun x => { x with state := .latchWait, latch := true, latchAt := some 0 })
        fun s => (s.sw n).latchAt = some a ∧ a + 2000000 ≤ s.devtime)
    ∧ (∃ n : Nat, n < 24 ∧ At 100000 (tReady.modSw 0 fun x => { x with state := .on, base := 2 }) fun s => (s.sw n).state = .on
        ∧ (s.sw n).openLoad = false ∧ disturbed s n = false ∧ (s.sw n).onSince + 100000 ≤ s.devtime)
    ∧ (∃ n : Nat, n < 24 ∧ At 100007 (tReady.modSw 23 fun x => { x with state := .on, openLoad := true, openAt := 7 })
        fun s => (s.sw n).state = .on ∧ (s.sw n).onSince + 100000 ≤ s.devtime ∧ (s.sw n).openAt + 100000 ≤ s.devtime) :=
  ⟨⟨0, [(0, 150000, true)], by decide⟩,
   ⟨23, [], by decide⟩,
   ⟨0, [], by decide⟩,
   ⟨23, by decide⟩,
   ⟨0, [(0, 150000, false)], by decide⟩,
   ⟨23, by decide⟩,
   ⟨0, by decide⟩,
   ⟨0, 0, by decide⟩,
   ⟨0, by decide⟩,
   ⟨23, by decide⟩⟩

theorem test_meets_SwitchTimers :
    (∃ n : Nat, ∃ e, ∃ f, n < 24 ∧ At 100 (tReady.modSw 0
        fun x => { x with state := .inrush, base := 2, surcharge := 1, inrushEnd := some 100, surchargeEnd := some 100 })
        fun s => (s.sw n).state = .inrush ∧ (s.sw n).inrushEnd = some e ∧ e ≤ s.devtime ∧ (s.sw n).surchargeEnd = some f ∧ f ≤ s.devtime)
    ∧ (∃ n : Nat, n < 24 ∧ At 10000000 (tReady.modSw 0 fun x => { x with state := .on, base := 2 }) fun s => (s.sw n).state = .on
        ∧ (s.sw n).onSince + 10000000 ≤ s.devtime)
    ∧ (∃ n : Nat, n < 24 ∧ At 100000 (tReady.modSw 0 fun x => { x with state := .backoff, retryLeft := 1, eLast := 1000000 })
        fun s => (s.sw n).state = .backoff ∧ (s.sw n).ventWait = false ∧ (s.sw n).creditWait = false ∧ (s.sw n).limp = false
        ∧ (s.sw n).tripAt + backoffUs s n ≤ s.devtime ∧ (s.sw n).latch = false ∧ 0 < (s.sw n).retryLeft ∧ ventOk s n = true
        ∧ coreOut s 0 = false ∧ refusal s (along (chainSw s n) (swBaseOf s n + swSurchargeOf s n)) = none)
    ∧ (∃ n : Nat, n < 24 ∧ At 100000 (tReady.modSw 0 fun x => { x with state := .backoff, retryLeft := 1, eLast := 1000001 })
        fun s => (s.sw n).state = .backoff ∧ (s.sw n).ventWait = false ∧ (s.sw n).creditWait = false
        ∧ (s.sw n).tripAt + backoffUs s n ≤ s.devtime ∧ (s.sw n).latch = false ∧ 0 < (s.sw n).retryLeft ∧ ventOk s n = false)
    ∧ (∃ n : Nat, n < 24 ∧ At 10000 (tReady.modSw 0 fun x => { x with state := .backoff, retryLeft := 1, ventWait := true })
        fun s => (s.sw n).state = .backoff ∧ (s.sw n).ventWait = true ∧ (s.sw n).triedAt + 10000 ≤ s.devtime ∧ (s.sw n).limp = false
        ∧ (s.sw n).latch = false ∧ 0 < (s.sw n).retryLeft ∧ ventOk s n = true ∧ coreOut s 0 = false
        ∧ refusal s (along (chainSw s n) (swBaseOf s n + swSurchargeOf s n)) = none)
    ∧ (∃ n : Nat, n < 24 ∧ At 9 (tReady.modSw 0 fun x => { x with ventLocked := true, eLast := 1000000 })
        fun s => (s.sw n).ventLocked = true ∧ ventOk s n = true)
    ∧ (∃ n : Nat, n < 24 ∧ At 9 (tReady.modSw 0 fun x => { x with ventLocked := true, eLast := 1000001 }) fun s => ventOk s n = false)
    ∧ (∃ c : Nat, ∃ e, c < 6 ∧ At 9 (tReady.modVent 5 fun v => { v with disturbEnd := some 9 }) fun s => (s.vent c).disturbEnd = some e
        ∧ e ≤ s.devtime)
    ∧ (∃ n : Nat, n < 24 ∧ At 10000 (tReady.modSw 1 fun x => { x with state := .on, base := 2, duty := 5000, dutyNow := 10000 })
        fun s => swOn (s.sw n) = true ∧ (s.swCfg n).pwmHz ≠ 0 ∧ ((s.sw n).dutyNow = 0 ∨ 10000 ≤ (s.sw n).dutyNow))
    ∧ (∃ n : Nat, ∃ cl : Clamps, n < 24 ∧ At 10000 (tReady.modSw 1
        fun x => { x with state := .on, base := 2, duty := 0, dutyNow := 9999 }) fun s => swOn (s.sw n) = true ∧ (s.swCfg n).pwmHz ≠ 0
        ∧ 0 < (s.sw n).dutyNow ∧ (s.sw n).dutyNow < 10000 ∧ (clampOf cl n).1 ≤ clampLimit n ∧ (s.swCfg n).extFreewheel = false) :=
  ⟨⟨0, 100, 100, by decide⟩,
   ⟨0, by decide⟩,
   ⟨0, by decide⟩,
   ⟨0, by decide⟩,
   ⟨0, by decide⟩,
   ⟨0, by decide⟩,
   ⟨0, by decide⟩,
   ⟨5, 9, by decide⟩,
   ⟨1, by decide⟩,
   ⟨1, [(1, 150000, true)], by decide⟩⟩

theorem test_meets_LimpHome :
    (At 9 ({ tReady with storage := { fuses := [32, 0, 0, 0, 0, 0, 0, 0] } }) fun s => s.limp = none ∧ s.start.fuseOk = true)
    ∧ (At 9 (tReady.modStart fun x => { x with fuseOk := false }) fun s => s.start.fuseOk = false)
    ∧ (∃ i : Nat, ∃ n, i < 8
        ∧ At 9 ({ (tReady.modSw 0 fun x => { x with limp := true }) with storage := { fuses := [32, 0, 0, 0, 0, 0, 0, 0] }, limp := some 0 })
        fun s => limpChannel s i = some n ∧ s.limp.isSome ∧ (s.sw n).limp = true ∧ (s.sw n).state = .off ∧ (s.sw n).latch = false
        ∧ regionOff s (.switch n) = false ∧ unavailable s (.switch n) = false ∧ ventOk s n = true ∧ (s.die 4).tableOk = true
        ∧ refusal s (along (chainSw s n) (swBaseOf s n + swSurchargeOf s n)) = none)
    ∧ (∃ i : Nat, ∃ n, ∃ cl : Clamps, i < 8
        ∧ At 9 ({ (tReady.modSw 0 fun x => { x with limp := true, state := .on, base := 2, limpOn := true }) with storage := { fuses := [0, 0, 0, 0, 0, 0, 0, 32] }, limp := some 0 })
        fun s => limpChannel s i = some n ∧ s.limp.isSome ∧ (s.sw n).limp = true ∧ (s.sw n).state = .on
        ∧ (clampOf cl n).1 ≤ clampLimit n ∧ (s.swCfg n).extFreewheel = false)
    ∧ (∃ i : Nat, i < 8 ∧ At 9 (tReady) fun s => s.limp = none)
    ∧ (At 9 ({ (tReady.modSw 0 fun x => { x with limp := true }) with storage := { fuses := [0, 0, 0, 0, 0, 0, 0, 32] }, limp := some 0 })
        fun s => s.limp.isSome ∧ (s.die 4).silent = false ∧ (∀ a, (s.die 4).backAt = some a → a + 10000 ≤ s.devtime) ∧ ∀ n,
        n < 24 → (s.sw n).limp = true → swOn (s.sw n) = false) :=
  ⟨by decide,
   by decide,
   ⟨0, 0, by decide⟩,
   ⟨7, 0, [], by decide⟩,
   ⟨7, by decide⟩,
   by decide⟩

theorem test_meets_FieldInputs :
    (∃ i : Nat, i < 32 ∧ At 9 (tReady) fun s => dieFed s 4 = true ∧ (s.fiCfg i).mode = .digital)
    ∧ (∃ i : Nat, i < 32 ∧ At 9 (tReady) fun s => (s.fiCfg i).mode ≠ .digital)
    ∧ (∃ i : Nat, i < 32 ∧ At 9 ({ tReady with cfg := { tImg with fieldIo := { inputs := [(0, { mode := .digital, wb := true })] } } })
        fun s => dieFed s 4 = true ∧ (s.fiCfg i).wb = true ∧ (s.fi i).cls ≠ 3 ∧ (s.fiCfg i).mode ≠ .fast)
    ∧ (∃ i : Nat, i < 32 ∧ At 9 ({ tReady with cfg := { tImg with fieldIo := { inputs := [(0, { mode := .digital, wb := true })] } } })
        fun s => dieFed s 4 = true ∧ (s.fiCfg i).wb = true ∧ (s.fi i).cls ≠ 2 ∧ (s.fiCfg i).mode ≠ .fast)
    ∧ (∃ i : Nat, ∃ closed : Bool, ∃ first : Nat, 0 < i ∧ i < 32 ∧ At 20000 (tReady) fun s => dieFed s 4 = true
        ∧ (s.fiCfg i).mode = .operator ∧ first + 1000 * (s.fiCfg i).debounceMs ≤ s.devtime ∧ (s.fi i).state ≠ logical s i closed
        ∧ (s.course 0).pendingNotif = [] ∧ hasRoom s 0 16 (keptFree s 0) = true
        ∧ (s.start.configActive && s.cfg.host.link == .none && s.follower) = false)
    ∧ (∃ first : Nat, At 20000 ({ (tReady.modFi 0 fun x => { x with state := true, raw := true }) with cfg := { tImg with host := { autoPark := true }, fieldIo := { inputs := [(0, { mode := .operator, keyOn := true })] } } })
        fun s => dieFed s 4 = true ∧ (s.fiCfg 0).mode = .operator ∧ (s.fiCfg 0).keyOn = true
        ∧ first + 1000 * (s.fiCfg 0).debounceMs ≤ s.devtime ∧ (s.fi 0).state ≠ logical s 0 false ∧ s.cfg.host.autoPark = true)
    ∧ (∃ a : Nat, a < 8 ∧ At 9 (tReady) fun s => dieFed s 4 = true ∧ (s.aiCfg a).used = true ∧ (s.aiCfg a).mode = .ma20
        ∧ (s.ai a).burdenOpen = false)
    ∧ (∃ a : Nat, ∃ ua : Nat, a < 8 ∧ ua ≤ 25000 ∧ At 100000 (tReady.modAi 1
        fun a => { a with burdenOpen := true, wireBreak := true, valid := false }) fun s => dieFed s 4 = true ∧ (s.aiCfg a).used = true
        ∧ (s.ai a).burdenOpen = true ∧ (s.ai a).burdenAt + 100000 ≤ s.devtime)
    ∧ (∃ a : Nat, ∃ ua : Nat, a < 8 ∧ 25000 < ua ∧ At 100000 (tReady.modAi 7
        fun a => { a with burdenOpen := true, wireBreak := true, valid := false }) fun s => dieFed s 4 = true
        ∧ (s.ai a).burdenOpen = true ∧ (s.ai a).burdenAt + 100000 ≤ s.devtime)
    ∧ (∃ a : Nat, a < 8 ∧ At 9 (tReady) fun s => dieFed s 4 = true ∧ (s.aiCfg a).used = true ∧ (s.ai a).burdenOpen = false) :=
  ⟨⟨0, by decide⟩,
   ⟨31, by decide⟩,
   ⟨0, by decide⟩,
   ⟨0, by decide⟩,
   ⟨1, true, 0, by decide⟩,
   ⟨0, by decide⟩,
   ⟨1, by decide⟩,
   ⟨1, 25000, by decide⟩,
   ⟨7, 25001, by decide⟩,
   ⟨0, by decide⟩⟩

theorem test_meets_FieldOutputsAndGroups :
    (∃ o : Nat, o < 16 ∧ At 2000 (tReady.modFo 0 fun x => { x with st := 1, base := 2 }) fun s => foOn (s.fo o) = true
        ∧ (s.fo o).onAt + 2000 ≤ s.devtime)
    ∧ (∃ o : Nat, o < 16 ∧ At 9 (tReady) fun s => foOn (s.fo o) = false)
    ∧ (∃ o : Nat, o < 16 ∧ At 9 (tReady.modFo 0 fun x => { x with st := 3, base := 2 }) fun s => (s.fo o).latch = false)
    ∧ (∃ o : Nat, o < 16 ∧ At 100000 (tReady.modFo 15 fun x => { x with st := 1, base := 2 }) fun s => foOn (s.fo o) = true
        ∧ (s.fo o).openLoad = false ∧ (s.fo o).onAt + 100000 ≤ s.devtime)
    ∧ (∃ g : Nat, ∃ loss : List Nat, g < 8
        ∧ At 9 ({ tReady with cfg := { tImg with fieldIo := { analogs := [(0, { mode := .ma20 }), (1, { mode := .ma20 }), (2, { mode := .ma20 }), (3, { mode := .ma20 })], groups := [{ lines := [.ai 0, .ai 1, .ai 2, .ai 3] }] } } })
        fun s => awake s = true ∧ g < s.cfg.fieldIo.groups.length ∧ s.group g ≠ .away
        ∧ 3 ≤ lossOf (groupCfg s g) (observable s (groupCfg s g)) loss
        ∧ 3 * (observable s (groupCfg s g)).length ≤ 4 * lossOf (groupCfg s g) (observable s (groupCfg s g)) loss)
    ∧ (∃ g : Nat, ∃ loss : List Nat, g < 8 ∧ At 9 ({ tReady with groups := [(0, .away)] }) fun s => awake s = true
        ∧ g < s.cfg.fieldIo.groups.length ∧ s.group g = .away
        ∧ 4 * lossOf (groupCfg s g) (sentinels s (groupCfg s g)) loss < (sentinels s (groupCfg s g)).length)
    ∧ (∃ d : Nat, 2 ≤ d ∧ d < 5 ∧ At 19999 (tReady) fun s => (s.die d).silent = false
        ∧ s.devtime < (s.die d).lastFrameAt + 1000 * s.cfg.package.tSilentMs)
    ∧ (∃ d : Nat, 2 ≤ d ∧ d < 5 ∧ At 9 (tReady.modDie 2 fun d => { d with silent := true }) fun s => (s.die d).silent = true)
    ∧ (∃ d : Nat, 2 ≤ d ∧ d < 5 ∧ At 9 (tReady.modDie 3 fun d => { d with tableOk := false }) fun _ => True)
    ∧ (∃ o, o < 16 ∧ At 9 (tReady.modFo 15 fun x => { x with st := 2, cause := 2, latch := true }) fun _ => True) :=
  ⟨⟨0, by decide⟩,
   ⟨15, by decide⟩,
   ⟨0, by decide⟩,
   ⟨15, by decide⟩,
   ⟨0, [0, 1, 2], by decide⟩,
   ⟨0, [], by decide⟩,
   ⟨4, by decide⟩,
   ⟨2, by decide⟩,
   ⟨3, by decide⟩,
   ⟨15, by decide⟩⟩

theorem test_meets_Resets :
    (∃ x : StartTests, At 9 ({ State.reset with storage := {} }) fun s => s.power.supplies = false ∧ s.power.state ≠ .park
        ∧ x.emmcAnswers = false)
    ∧ (∃ x : StartTests, ∃ slot, ∃ back, At 9 (State.reset) fun s => s.power.supplies = false ∧ s.power.state ≠ .park
        ∧ x.emmcAnswers = true ∧ bootSlot s = some (slot, back) ∧ x.elapsedUs ≤ 1000000)
    ∧ (At 9 ((tDrv 0 fun d => { d with phase := .hold, base := 4 }).modSw 0 fun x => { x with state := .on }) fun _ => True)
    ∧ (At 9 ((tDrv 0 fun d => { d with phase := .hold, base := 4 }).modSw 0 fun x => { x with state := .on })
        fun s => s.power.supplies = true ∧ s.power.state ≠ .park)
    ∧ (At 9 (tPow fun p => { p with state := .park }) fun s => s.power.state = .park)
    ∧ (At 9 ((tDrv 0 fun d => { d with phase := .hold, base := 4 }).modSw 0 fun x => { x with state := .on }) fun _ => True)
    ∧ (∃ t0, At 30000 (tReady.modStart fun x => { x with keeperOut := some 0, tries := 2 }) fun s => s.start.ready = true
        ∧ s.start.keeperOut = some t0 ∧ t0 + 30000 ≤ s.devtime)
    ∧ (At 1000000 (tReady.modStart fun x => { x with ready := false }) fun s => s.power.supplies = true ∧ s.start.ready = false
        ∧ s.start.maint = false ∧ s.power.state = .run ∧ s.start.begunAt + 1000000 ≤ s.devtime)
    ∧ (At 9 (tReady) fun s => s.power.vddRf = true) :=
  ⟨⟨({ emmcAnswers := false } : StartTests), by decide⟩,
   ⟨{}, 0, false, by decide⟩,
   by decide,
   by decide,
   by decide,
   by decide,
   ⟨0, by decide⟩,
   by decide,
   by decide⟩

theorem test_meets_Calibration :
    (∃ r : Nat, ∃ u, r < 7 ∧ u < 128 ∧ At 9 (tReady.modStart fun x => { x with uncalibrated := [0] }) fun s => s.start.ready = true
        ∧ r ∈ s.start.uncalibrated ∧ tget s.power.groups false r = true ∧ regionOf (clusterOf u) = r)
    ∧ (∃ r : Nat, r < 7 ∧ At 9 (tReady) fun s => r ∉ s.start.uncalibrated)
    ∧ (∃ k : Nat, ∃ e : Nat, At 5000 (tReady.modStart fun x => { x with deferred := [(0, 3)] }) fun s => s.start.ready = true ∧ (k,
        e) ∈ s.start.deferred ∧ lineOff s (deferredLine k e) = true ∧ s.start.readyAt + 5000 ≤ s.devtime)
    ∧ (∃ e : Nat, At 5000 (tReady.modStart fun x => { x with deferred := [(1, 23)] }) fun s => s.start.ready = true ∧ (1,
        e) ∈ s.start.deferred ∧ lineOff s (.switch e) = true ∧ s.start.readyAt + 5000 ≤ s.devtime)
    ∧ (∃ a : Nat, a < 2 ∧ At 9 (tReady.modStart fun x => { x with rfBad := [1] }) fun s => awake s = true ∧ a ∈ s.start.rfBad)
    ∧ (∃ a : Nat, a < 2 ∧ At 9 (tReady.modStart fun x => { x with rfBad := [0, 1] }) fun s => awake s = true ∧ a ∈ s.start.rfBad) :=
  ⟨⟨0, 0, by decide⟩,
   ⟨6, by decide⟩,
   ⟨0, 3, by decide⟩,
   ⟨23, by decide⟩,
   ⟨1, by decide⟩,
   ⟨0, by decide⟩⟩

theorem test_meets_PowerMoves :
    (∃ src : Nat, ∃ tgt, ∃ f, src < 8 ∧ At 9 (tPow fun p => { p with state := .entering, entry := some (.park, .run) })
        fun s => s.power.state = .entering ∧ s.power.entry = some (tgt, f) ∧ wakeActs s src = true)
    ∧ (∃ src : Nat, src < 8 ∧ At 9 (tPow fun p => { p with state := .nap, sleptFrom := some 0 }) fun s => s.power.state = .nap
        ∧ wakeActs s src = true)
    ∧ (∃ src : Nat, src < 8 ∧ At 9 (tReady) fun s => s.power.state = .run)
    ∧ (At 9 (tPow fun p => { p with state := .doze, pll := 1, wakeBits := 1 }) fun s => s.power.state = .doze ∧ s.power.pll = 1)
    ∧ (At 9 (tReady) fun s => s.power.pll ≠ 1)
    ∧ (At 9 (tPow fun p => { p with onRc := false }) fun s => s.power.onRc = false)
    ∧ (At 9 (tPow fun p => { p with onRc := true }) fun s => s.power.onRc = true)
    ∧ (At 9 (tReady) fun _ => True)
    ∧ (∃ e, At 9 (tPow fun p => { p with keyOffEnd := some 9 }) fun s => s.power.keyOffEnd = some e ∧ e ≤ s.devtime)
    ∧ (At 9 (tPow fun p => { p with keyOffDue := true }) fun s => s.power.state = .run ∧ s.power.keyOffDue = true
        ∧ s.odo.standstill = true)
    ∧ (At 9 (tReady.modOdo fun o => { o with standstill := false }) fun s => s.odo.standstill = false)
    ∧ (∃ f, At 9 (tPow fun p => { p with state := .entering, entry := some (.nap, .doze) }) fun s => s.power.state = .entering
        ∧ s.power.entry = some (.nap, f))
    ∧ (∃ f, At 9 (tPow fun p => { p with state := .entering, entry := some (.park, .run) }) fun s => s.power.state = .entering
        ∧ s.power.entry = some (.park, f)) :=
  ⟨⟨0, PowerState.park, PowerState.run, by decide⟩,
   ⟨3, by decide⟩,
   ⟨7, by decide⟩,
   by decide,
   by decide,
   by decide,
   by decide,
   by decide,
   ⟨9, by decide⟩,
   by decide,
   by decide,
   ⟨PowerState.doze, by decide⟩,
   ⟨PowerState.run, by decide⟩⟩

theorem test_meets_CanController :
    (∃ n : Nat, ∃ f : CanFrame, n < 4 ∧ At 9 (tReady) fun s => awake s = true ∧ serves 4 s = true ∧ (s.canOf n).st ≠ 2 ∧ f.remote = true
        ∧ (s.canOf n).binds = [])
    ∧ (∃ n : Nat, ∃ f : CanFrame, ∃ b, n < 4 ∧ At 9 (tReady.modGw 0 15
        fun b => { b with enable := true, filterId := 5, filterMask := 2047 }) fun s => awake s = true ∧ serves 4 s = true
        ∧ (s.canOf n).st ≠ 2 ∧ f.remote = false ∧ isobusOn s n = false ∧ gwMatch s n f = some b ∧ (s.gw n b).lock = false
        ∧ ∀ x ∈ (s.canOf n).binds, x.1 ≠ b)
    ∧ (∃ n : Nat, ∃ b : Nat, n < 4 ∧ b < 16 ∧ At 9 (tReady.modGw 3 15 fun b => { b with enable := true, tx := true, pending := true })
        fun s => awake s = true ∧ (s.canOf n).st ≠ 2 ∧ inFlight s n b = true ∧ ∀ x ∈ (s.canOf n).binds, x.1 ≠ b)
    ∧ (∃ n : Nat, ∃ b : Nat, n < 4 ∧ b < 16 ∧ At 9 (tReady.modGw 0 0
        fun b => { b with enable := true, tx := true, pending := true, retries := 3 }) fun s => awake s = true ∧ (s.canOf n).st ≠ 2
        ∧ inFlight s n b = true ∧ (s.canCfg n).gwRetry ≤ (s.gw n b).retries ∧ ∀ x ∈ (s.canOf n).binds, x.1 ≠ b)
    ∧ (∃ n : Nat, ∃ b : Nat, n < 4 ∧ b < 16 ∧ At 9 (tReady.modGw 0 0
        fun b => { b with enable := true, tx := true, pending := true, retries := 2 }) fun s => awake s = true ∧ (s.canOf n).st ≠ 2
        ∧ inFlight s n b = true ∧ (s.gw n b).retries < (s.canCfg n).gwRetry ∧ ∀ x ∈ (s.canOf n).binds, x.1 ≠ b)
    ∧ (∃ n : Nat, n < 4 ∧ At 9 (tReady.modGw 3 15 fun b => { b with enable := true, tx := true, pending := true })
        fun s => awake s = true ∧ (s.canOf n).st ≠ 2)
    ∧ (∃ n : Nat, n < 4 ∧ At 9 (tReady.modCan 3 fun c => { c with st := 2, tec := 256 }) fun s => awake s = true ∧ (s.canOf n).st = 2)
    ∧ (∃ n : Nat, n < 4 ∧ At 9 (tReady) fun s => awake s = true ∧ (s.canOf n).st = 0)
    ∧ (∃ l : Nat, ∃ n, ∃ ident, ∃ off, ∃ w, ∃ sc, ∃ p, l < 128 ∧ n < 4
        ∧ At 9 ({ tReady with cfg := { tImg with loops := [(1, { out := .canSp 0 5 0 16 65536 100 })] } }) fun s => awake s = true
        ∧ coreOut s 4 = false ∧ s.start.configActive = true ∧ (s.loopCfg l).out = .canSp n ident off w sc p
        ∧ ((s.canCfg n).zitherSystem = true → s.lead = false) ∧ (s.loop l).spAt = none ∧ (s.canOf n).st ≠ 2 ∧ isobusOn s n = false)
    ∧ (∃ n : Nat, ∃ f : CanFrame, ∃ buf, ∃ flags, ∃ id, ∃ mask, n < 4 ∧ buf < 16 ∧ At 9 (tReady.modCan 3
        fun c => { c with binds := [(15, 5, 9, 2047)] }) fun s => awake s = true ∧ serves 4 s = true ∧ (s.canOf n).st ≠ 2
        ∧ f.remote = true ∧ (s.canOf n).binds = [(buf, flags, id, mask)]) :=
  ⟨⟨3, ({ remote := true } : CanFrame), by decide⟩,
   ⟨0, ({ id := 5 } : CanFrame), 15, by decide⟩,
   ⟨3, 15, by decide⟩,
   ⟨0, 0, by decide⟩,
   ⟨0, 0, by decide⟩,
   ⟨3, by decide⟩,
   ⟨3, by decide⟩,
   ⟨0, by decide⟩,
   ⟨1, 0, 5, 0, 16, (65536 : Int), 100, by decide⟩,
   ⟨3, ({ remote := true } : CanFrame), 15, 5, 9, 2047, by decide⟩⟩

theorem test_meets_Iso11783 :
    (∃ n : Nat, n < 4 ∧ At 9 ({ tReady with cfg := { tImg with buses := { controllers := [(3, { isobus := true })] } } })
        fun s => awake s = true ∧ coreOut s 4 = false ∧ s.start.configActive = true ∧ isobusOn s n = true
        ∧ (s.canOf n).cannotClaim = false ∧ (s.canOf n).st ≠ 2 ∧ (s.canOf n).claiming = none)
    ∧ (∃ n : Nat, ∃ a, ∃ t0, n < 4
        ∧ At 9 (({ tReady with cfg := { tImg with buses := { controllers := [(0, { isobus := true })], preferredAddr := 127 } } }).modCan 0
        fun c => { c with claiming := some (246, 0) }) fun s => awake s = true ∧ coreOut s 4 = false ∧ s.start.configActive = true
        ∧ isobusOn s n = true ∧ (s.canOf n).cannotClaim = false ∧ (s.canOf n).st ≠ 2 ∧ (s.canOf n).claiming = some (a, t0)
        ∧ s.cfg.buses.selfConfigurable = true ∧ s.cfg.buses.preferredAddr < 128 ∧ 128 ≤ a ∧ a < 247)
    ∧ (∃ n : Nat, n < 4
        ∧ At 9 (({ tReady with cfg := { tImg with buses := { controllers := [(0, { isobus := true })], selfConfigurable := false } } }).modCan 0
        fun c => { c with claiming := some (128, 0), addr := some 128 }) fun s => awake s = true ∧ coreOut s 4 = false
        ∧ s.start.configActive = true ∧ isobusOn s n = true ∧ (s.canOf n).cannotClaim = false ∧ (s.canOf n).st ≠ 2
        ∧ s.cfg.buses.selfConfigurable = false)
    ∧ (∃ n : Nat, n < 4
        ∧ At 250000 (({ tReady with cfg := { tImg with buses := { controllers := [(0, { isobus := true })] } } }).modCan 0
        fun c => { c with claiming := some (128, 0), addr := some 128 }) fun s => awake s = true ∧ coreOut s 4 = false
        ∧ isobusOn s n = true ∧ isoMaySend s n = true ∧ dm1Due s n = true)
    ∧ (∃ ddi : Nat, ∃ sect : Nat, ∃ v,
        At 9 ({ tReady with cfg := { tImg with buses := { controllers := [(0, { isobus := true })], tcEnabled := true, tcSections := [8] } }, zither := { tcConnected := true } })
        fun s => awake s = true ∧ coreOut s 4 = false ∧ s.cfg.buses.tcEnabled = true ∧ s.zither.tcConnected = true
        ∧ tcValue s ddi sect = some v ∧ tcDue s ddi sect v = true)
    ∧ (∃ n : Nat, ∃ k : Nat, n < 4 ∧ k < 4 ∧ At 9 (tReady.modCan 3 fun c => { c with sessions := [{}, {}, {}, { src := 4 }] })
        fun s => awake s = true ∧ coreOut s 4 = false)
    ∧ (∃ n : Nat, ∃ k : Nat, n < 4 ∧ 4 ≤ k ∧ At 9 (tReady) fun _ => True)
    ∧ (At 9 ({ tReady with zither := { tcConnected := true } }) fun s => s.zither.tcConnected = true)
    ∧ (∃ n : Nat, ∃ f : CanFrame, n < 4 ∧ At 9 (tReady) fun s => awake s = true ∧ serves 4 s = true ∧ (s.canOf n).st ≠ 2
        ∧ f.remote = false ∧ isobusOn s n = false ∧ gwMatch s n f = none ∧ (s.canOf n).binds = [])
    ∧ (∃ n : Nat, ∃ b : Nat, n < 4 ∧ 16 ≤ b ∧ b < 64 ∧ At 9 (tReady.modCan 1 fun c => { c with tec := 4 }) fun s => awake s = true
        ∧ (s.canOf n).st ≠ 2 ∧ s.isobusLink ≠ some n ∧ (s.canCfg n).zitherSystem = false ∧ (s.canOf n).binds = [])
    ∧ (∃ n : Nat, n < 4 ∧ At 9 (tReady.modGw 0 3 fun b => { b with enable := true, tx := true, pending := true })
        fun s => awake s = true ∧ (s.canOf n).st ≠ 2 ∧ (s.canOf n).binds = [])
    ∧ (∃ n : Nat, n < 4 ∧ At 9 (tReady.modCan 0 fun c => { c with st := 2, tec := 256 }) fun s => awake s = true ∧ (s.canOf n).st = 2)
    ∧ (∃ n : Nat, n < 4 ∧ At 9 (tReady.modCan 3 fun c => { c with tec := 130 }) fun s => awake s = true ∧ (s.canOf n).st = 0)
    ∧ (∃ l : Nat, ∃ n, ∃ ident, ∃ off, ∃ w, ∃ sc, ∃ p, ∃ a, l < 128 ∧ n < 4
        ∧ At 100000 ({ tReady with cfg := { tImg with loops := [(1, { out := .canSp 0 5 0 16 65536 100 })] }, loops := [(1, { spAt := some 0 })] })
        fun s => awake s = true ∧ coreOut s 4 = false ∧ s.start.configActive = true ∧ (s.loopCfg l).out = .canSp n ident off w sc p
        ∧ ((s.canCfg n).zitherSystem = true → s.lead = false) ∧ (s.loop l).spAt = some a ∧ a + 1000 * p ≤ s.devtime ∧ (s.canOf n).st ≠ 2
        ∧ isobusOn s n = false) :=
  ⟨⟨3, by decide⟩,
   ⟨0, 246, 0, by decide⟩,
   ⟨0, by decide⟩,
   ⟨0, by decide⟩,
   ⟨141, 0, 0, by decide⟩,
   ⟨3, 3, by decide⟩,
   ⟨3, 5, by decide⟩,
   by decide,
   ⟨2, ({ id := 5 } : CanFrame), by decide⟩,
   ⟨1, 63, by decide⟩,
   ⟨0, by decide⟩,
   ⟨0, by decide⟩,
   ⟨3, by decide⟩,
   ⟨1, 0, 5, 0, 16, (65536 : Int), 100, 0, by decide⟩⟩

theorem test_meets_ZitherTimeMotionFrets :
    (At 10000 (tLead) fun s => zitherRuns s = true ∧ s.lead = true ∧ (s.zither.syncAt = 0 ∨ s.zither.syncAt + 10000 ≤ s.devtime))
    ∧ (Heard (tZ 0 5) (tFol) fun z s => leadFrame z s = true ∧ (s.zither.stepOffset = true ∨ s.zither.offsetNs = none))
    ∧ (∃ o, ∃ at_, Heard (tZ 0 5) (tFol.modZ fun z => { z with offsetNs := some 300, followAt := some 0 })
        fun z s => leadFrame z s = true ∧ s.zither.stepOffset = false ∧ s.zither.offsetNs = some o ∧ s.zither.followAt = some at_)
    ∧ (∃ at_, At 100000 (tFol.modZ fun z => { z with followAt := some 0 }) fun s => zitherRuns s = true ∧ s.follower = true
        ∧ s.zither.welcomed = true ∧ s.zither.timeLost = false ∧ s.zither.followAt = some at_ ∧ at_ + 100000 ≤ s.devtime)
    ∧ (Heard (tZ 0 5) (tFol) fun z s => leadFrame z s = true)
    ∧ (Heard (tZ 1 5) (tLead.modZ fun z => { z with stale := [1] }) fun z s => followerFrame z s = true)
    ∧ (∃ p : Nat, ∃ e, ∃ d, ∃ th, ∃ at_, p < 4 ∧ At 5000 (tLead.modZ fun z => { z with odo := [(1, 5, 100, 7, 0)] })
        fun s => zitherRuns s = true ∧ s.lead = true ∧ (tok s p).present = true ∧ p ∉ s.zither.stale ∧ tfind s.zither.odo p = some (e, d,
        th, at_) ∧ at_ + 5000 ≤ s.devtime)
    ∧ (∃ u, ∃ w : FretWire, Heard (tZ 0 5) (tFol) fun z s => leadFrame z s = true ∧ unitRef s w.unit = .own u ∧ (s.unit u).frets = [])
    ∧ (∃ u, ∃ w : FretWire, Heard (tZ 0 5) (tFol.modUnit 0 fun x => { x with frets := [{ tag := 7, state := .armed }, { tag := 8 }] })
        fun z s => leadFrame z s = true ∧ unitRef s w.unit = .own u)
    ∧ (∃ u, Heard (tZ 1 5) (tLead.modUnit 130 fun x => { x with frets := [{ tag := 7, state := .armed }] })
        fun z s => followerFrame z s = true ∧ u / 128 = z.src)
    ∧ (∃ u, Heard (tZ 1 5) (tLead) fun z s => followerFrame z s = true ∧ u / 128 ≠ z.src)
    ∧ (∃ u, ∃ x, Heard (tZ 1 5) ({ tLead with cfg := { tLead.cfg with units := { tLead.cfg.units with units := (130, { tUnit with sec := some {} }) :: tLead.cfg.units.units } }, cov := { opened := some 1 } })
        fun z s => followerFrame z s = true ∧ u / 128 = z.src ∧ s.secOf u = some x ∧ s.cov.opened.isSome ∧ (s.unit u).sect.strokes = [])
    ∧ (∃ u, ∃ x, ∃ k, Heard (tZ 1 5) (({ tLead with cfg := { tLead.cfg with units := { tLead.cfg.units with units := (130, { tUnit with sec := some {} }) :: tLead.cfg.units.units } } }).modSect 130
        fun x => { x with strokes := [{ from_ := 2 }] }) fun z s => followerFrame z s = true ∧ u / 128 = z.src ∧ s.secOf u = some x
        ∧ (s.unitCfg u).mode ≠ .pwm ∧ (s.unit u).sect.strokes = [k] ∧ k.to_ = none) :=
  ⟨by decide,
   by decide,
   ⟨(300 : Int), 0, by decide⟩,
   ⟨0, by decide⟩,
   by decide,
   by decide,
   ⟨1, 5, (100 : Int), (7 : Int), 0, by decide⟩,
   ⟨0, ({ unit := 128, tag := 7, pos := 1000 } : FretWire), by decide⟩,
   ⟨0, ({ unit := 128, tag := 7 } : FretWire), by decide⟩,
   ⟨130, by decide⟩,
   ⟨300, by decide⟩,
   ⟨130, ({} : SectionCfg), by decide⟩,
   ⟨130, ({} : SectionCfg), ({ from_ := 2 } : Stroke), by decide⟩⟩

theorem test_meets_ZitherTokens :
    (∃ count : Nat, Heard (tZ 1 5) (tLead) fun z s => followerFrame z s = true ∧ (tok s z.src).present = true ∧ 0 < count
        ∧ 0 < s.ledger.tokensFree)
    ∧ (∃ tseq : Nat, Heard (tZ 0 5) (tFol) fun z s => leadFrame z s = true ∧ applied s (ownPkg s) tseq = false)
    ∧ (∃ tseq : Nat, Heard (tZ 0 5) ({ tFol with ledger := { tokens := [(1, { tseqApplied := [7], granted := 10 })] } })
        fun z s => leadFrame z s = true ∧ applied s (ownPkg s) tseq = true)
    ∧ (∃ tseq : Nat, ∃ count : Nat, Heard (tZ 1 5) (tLead) fun z s => followerFrame z s = true ∧ applied s z.src tseq = false
        ∧ count ≤ (tok s z.src).granted)
    ∧ (Heard (tZ 0 5) ({ tFol with ledger := { tokens := [(1, { granted := 10, inTransit := [(7, 3, 0)] })] } })
        fun z s => leadFrame z s = true)
    ∧ (Heard (tZ 1 5) ({ tLead with ledger := { tokens := [(1, { present := true, granted := 10, inTransit := [(7, 3, 0), (8, 2, 0)] })] } })
        fun z s => followerFrame z s = true)
    ∧ (∃ p : Nat, ∃ q, ∃ n, ∃ at_, p < 4
        ∧ At 5000 ({ tLead with ledger := { tokens := [(1, { present := true, granted := 10, inTransit := [(7, 3, 0)] })] } })
        fun s => zitherRuns s = true ∧ s.lead = true ∧ (tok s p).inTransit = [(q, n, at_)] ∧ at_ + 5000 ≤ s.devtime)
    ∧ (At 9 ({ tFol with ledger := { tokens := [(1, { fixed := 5, granted := 10 })], packagePool := 300, els := [(pkgKey, { freeBelowPool := -201 })] } })
        fun s => zitherRuns s = true ∧ s.follower = true ∧ s.zither.welcomed = true ∧ 0 < tokensWanted s ∧ s.zither.tokenAskedAt = none)
    ∧ (∃ at_, At 1000000 ({ tFol with zither := { joined := some 3, welcomed := true, highSince := some 0 }, ledger := { tokens := [(1, { granted := 50 })], packagePool := 1000 } })
        fun s => zitherRuns s = true ∧ s.follower = true ∧ s.zither.welcomed = true ∧ s.zither.highSince = some at_
        ∧ at_ + 1000000 ≤ s.devtime ∧ 0 < (tok s (ownPkg s)).granted ∧ (s.cfg.package.reqTarget : Int) + 20 ≤ freeOf s pkgKey) :=
  ⟨⟨400, by decide⟩,
   ⟨7, by decide⟩,
   ⟨7, by decide⟩,
   ⟨7, 100, by decide⟩,
   by decide,
   by decide,
   ⟨1, (7 : Nat), (3 : Nat), 0, by decide⟩,
   by decide,
   ⟨0, by decide⟩⟩

theorem test_meets_Membership :
    (∃ sid : Nat, Heard (tZ 1 5) ({ tLead with ledger := { tokensFree := 400, tokens := [] } }) fun z s => fresh s z = true
        ∧ s.lead = true ∧ declared s z.src = true ∧ sid = s.cfg.package.systemId ∧ (tok s z.src).present = false
        ∧ (tok s z.src).escrow = 0)
    ∧ (At 9 (tFol.modZ fun z => { z with welcomed := false }) fun s => zitherRuns s = true ∧ s.follower = true
        ∧ s.zither.welcomed = false ∧ s.zither.turnedAway = false ∧ s.zither.joinAt = none)
    ∧ (∃ sid : Nat, Heard (tZ 0 5) (tFol.modZ fun z => { z with welcomed := false, joined := none }) fun z s => fresh s z = true
        ∧ s.follower = true ∧ z.src = 0 ∧ s.zither.welcomed = false ∧ s.zither.turnedAway = false ∧ sid = s.cfg.package.systemId)
    ∧ (Heard (tZ 0 5) (tFol.modZ fun z => { z with welcomed := false, joined := none }) fun z s => fresh s z = true ∧ s.follower = true
        ∧ z.src = 0 ∧ s.zither.welcomed = false ∧ s.zither.turnedAway = false)
    ∧ (Heard (tZ 0 5) (tFol.modHost fun h => { h with outputsEnabled := false }) fun z s => leadFrame z s = true
        ∧ s.host.outputsEnabled = false)
    ∧ (Heard (tZ 0 5) (tFol) fun z s => leadFrame z s = true ∧ bitAt s.zither.controlFlags 2 = false)
    ∧ (At 100000 (tLead.modZ fun z => { z with controlAt := some 0 }) fun s => zitherRuns s = true ∧ controlDue s = true)
    ∧ (At 100000 (tFol) fun s => zitherRuns s = true ∧ s.follower = true ∧ s.zither.welcomed = true
        ∧ (tok s (ownPkg s)).heardAt + silenceUs s ≤ s.devtime)
    ∧ (∃ p : Nat, p < 4 ∧ At 100000 (tLead) fun s => zitherRuns s = true ∧ s.lead = true ∧ p ≠ 0 ∧ (tok s p).present = true
        ∧ (tok s p).inTransit = [] ∧ (tok s p).heardAt + silenceUs s ≤ s.devtime)
    ∧ (∃ p : Nat, p < 4 ∧ At 200000 ({ tLead with ledger := { tokens := [(1, { escrow := 30 })] } }) fun s => zitherRuns s = true
        ∧ s.lead = true ∧ s.start.ready = true ∧ escrowDue s p = true) :=
  ⟨⟨9, by decide⟩,
   by decide,
   ⟨9, by decide⟩,
   by decide,
   by decide,
   by decide,
   by decide,
   by decide,
   ⟨1, by decide⟩,
   ⟨1, by decide⟩⟩

theorem test_meets_Forwarding :
    (∃ r : Nat, ∃ bs, Heard (tZ 0 5) (tFol.modZ fun z => { z with fwdReplies := [(3, [1])] }) fun z s => leadFrame z s = true
        ∧ (s.zither.fwdReplies.find? fun p => p.1 == r) = some (r, bs) ∧ bs ≠ [])
    ∧ (Heard (tZ 0 5) (tFol) fun z s => leadFrame z s = true ∧ s.zither.fwdReplies = [] ∧ s.zither.fwdParts = [])
    ∧ (Heard (tZ 0 5) (tFol) fun z s => leadFrame z s = true ∧ s.zither.fwdReplies = [] ∧ s.zither.fwdParts = [])
    ∧ (∃ r : Nat, ∃ h, ∃ op, ∃ at_, Heard (tZ 1 5) ((tLead.modZ
        fun z => { z with fwd := [(3, { course := 0, len := 4 }, 1537, 0)] }).modCourse 0
        fun c => { c with long := some ({ course := 0, len := 4 }, 1537) }) fun z s => followerFrame z s = true ∧ s.zither.fwdParts = []
        ∧ s.zither.fwd = [(r, h, op, at_)] ∧ h.course < 4 ∧ (s.course h.course).long = some (h, op))
    ∧ (∃ r : Nat, ∃ h, ∃ op, ∃ at_, At 20000 ((tLead.modZ
        fun z => { z with fwd := [(3, { course := 0, len := 4 }, 1537, 0)] }).modCourse 0
        fun c => { c with long := some ({ course := 0, len := 4 }, 1537) }) fun s => zitherRuns s = true ∧ s.zither.fwd = [(r, h, op,
        at_)] ∧ at_ + 20000 ≤ s.devtime ∧ h.course < 4 ∧ (s.course h.course).long = some (h, op)) :=
  ⟨⟨3, ([1] : List Byte), by decide⟩,
   by decide,
   by decide,
   ⟨3, ({ course := 0, len := 4 } : Hdr), 1537, 0, by decide⟩,
   ⟨3, ({ course := 0, len := 4 } : Hdr), 1537, 0, by decide⟩⟩

theorem test_meets_FaultManager :
    (∃ k : Nat, k < 9 ∧ At 1000 (tReady.modTgt 8 fun t => { t with running := 5, queue := [{ source := 3, target := 8, level := 7 }] })
        fun s => s.events.stopped = false ∧ awake s = true ∧ signalOf (s.tgt k) s.devtime = true ∧ coreServes s k = true)
    ∧ (At 1000 (tReady.modTgt 9 fun t => { t with queue := [{ source := 3, target := 9, level := 7 }] }) fun _ => True)
    ∧ (∃ e : IntakeEntry,
        At 9 ({ tReady with faults := { intake := [{ cls := 1169, inst := 0, severity := 3, source := 20, time := 5 }] } })
        fun s => keeperServes s = true ∧ s.faults.intake = [e] ∧ s.faults.ovfTotal = 0 ∧ e.cls ≠ 3920 ∧ e.severity < 4 ∧ 0 < e.severity
        ∧ faultShows s e.cls e.inst = none ∧ s.faults.opened = [])
    ∧ (∃ first, At 9 ({ tReady with faults := { rebuildDue := some 5 } }) fun s => keeperServes s = true
        ∧ s.faults.rebuildDue = some first ∧ s.faults.intake = [])
    ∧ (∃ cls : Nat, ∃ inst : Nat, ∃ f : OpenFault, At 10000000 ({ tReady with faults := { opened := [{ cls := 320, severity := 3 }] } })
        fun s => keeperServes s = true ∧ s.faults.opened = [f] ∧ f.cls = cls ∧ f.inst = inst ∧ f.kind = 2 ∧ f.severity ≤ 3
        ∧ f.last + 10000000 ≤ s.devtime) :=
  ⟨⟨8, by decide⟩,
   by decide,
   ⟨({ cls := 1169, inst := 0, severity := 3, source := 20, time := 5 } : IntakeEntry), by decide⟩,
   ⟨5, by decide⟩,
   ⟨320, 0, ({ cls := 320, severity := 3 } : OpenFault), by decide⟩⟩

theorem test_meets_RecorderEvents :
    (At 3600000000 (tReady.modRec fun r => { r with hour := some 0, hourly := some { isOpen := true } }) fun s => recorderRuns s = true
        ∧ hourTurns s = true)
    ∧ (At 9 (tReady) fun s => hourTurns s = false)
    ∧ (At 9 (tReady) fun s => serves 5 s = true ∧ recorderRuns s = true ∧ s.power.state = .run ∧ s.recorder.frozenAt = none ∧ (∀ u,
        s.recorder.sampledAt = some u → u + 100000 ≤ s.devtime))
    ∧ (∃ f, At 3600000000 (tReady.modRec fun r => { r with frozenAt := some 0, shLifetime := some { kind := 2, isOpen := true } })
        fun s => recorderRuns s = true ∧ s.recorder.frozenAt = some f ∧ f + 3600000000 ≤ s.devtime ∧ partitionStopped s 6 = false)
    ∧ (∃ p : Nat, p < 8 ∧ At 9 (tReady) fun s => awake s = true)
    ∧ (∃ i : Image, At 9 ((tReady.modStore fun x => { x with verifying := some {}, keyHash := some [] }).modCourse 3
        fun c => { c with long := some ({ course := 3, len := 0 }, 515) }) fun s => s.storage.verifying = some i ∧ checkImage s i = none)
    ∧ (∃ f, ∃ n, ∃ d, At 9 ((tReady.modStore fun x => { x with fwCommitting := some {}, fwStaging := some (0, []) }).modCourse 3
        fun c => { c with long := some ({ course := 3, len := 0 }, 2820) }) fun s => s.storage.fwCommitting = some f
        ∧ fwPasses s f = true ∧ s.storage.fwStaging = some (n, d) ∧ s.storage.runningFw ≤ 1)
    ∧ (∃ f, At 9 ((tReady.modStore
        fun x => { x with fwCommitting := some { headerOk := false }, fwStaging := some (0, []) }).modCourse 3
        fun c => { c with long := some ({ course := 3, len := 0 }, 2820) }) fun s => s.storage.fwCommitting = some f
        ∧ fwPasses s f = false)
    ∧ (∃ mib, At 9 (({ tReady with storage := { partitioning := some 256, tableOk := false } }).modCourse 3
        fun c => { c with long := some ({ course := 3, len := 8 }, 2821) }) fun s => s.storage.partitioning = some mib) :=
  ⟨by decide,
   by decide,
   by decide,
   ⟨0, by decide⟩,
   ⟨7, by decide⟩,
   ⟨{}, by decide⟩,
   ⟨({} : Firmware), 0, ([] : List Byte), by decide⟩,
   ⟨({ headerOk := false } : Firmware), by decide⟩,
   ⟨256, by decide⟩⟩

theorem test_meets_StepRunsFront :
    (∃ c rest, ∃ s : State, s.pending = c :: rest)
    ∧ (∃ s : State, s.pending = [] ∧ (nextHeld s).isSome = true)
    ∧ ∃ s : State, s.pending = [] ∧ nextHeld s = none :=
  ⟨⟨.devtimeLo 0, [], { tReady with pending := [.devtimeLo 0] }, rfl⟩,
   ⟨tReady.modCourse 0 fun c => { c with held := [.sysInfo {}] }, rfl, by decide +kernel⟩, ⟨tReady, rfl, by decide +kernel⟩⟩

theorem test_meets_StepKeepsInvariant : ∃ s t, Invariant s ∧ step s = .next t :=
  ⟨{ tReady with pending := [.devtimeLo 7] }, _, ⟨fun _ => ⟨by decide, by decide, by decide⟩, by simp [tReady]⟩, rfl⟩

theorem test_meets_LedgerGrants :
    (∃ (ks : List Nat) (n : Nat) (s t : State), ks.Nodup ∧ s.ledger.withholdDue = 0 ∧ ledgerRequest false (along ks n) s = .ok t)
    ∧ ∃ (ks : List Nat) (n : Nat) (s : State) (l : Nat), ks.Nodup ∧ ledgerRequest true (along ks n) s = .error l :=
  ⟨⟨[0, 128, 216, 240], 80, tReady, _, by decide, rfl, rfl⟩, [0, 128, 216, 240], 81, tReady, 0, by decide, rfl⟩

theorem test_meets_CommandsComplete :
    (∃ i : Instr, i.wf = true) ∧ (∃ i s r, exec i s = .refused r) ∧ ∃ s t, exec (.vbatGroupLoss 5 6 36000 []) s = .next t :=
  ⟨⟨.devtimeLo 0, rfl⟩, ⟨.dip 0 128, tReady, _, rfl⟩, tReady, _, rfl⟩

end Sys2Proof.Tests
end

section
/-! Credits of the current ledger (R6, R31 to R33): the conversion of a current, the answer to a request along a chain, and what a
grant and a release do to the counts of each element. -/

namespace Sys2Proof.Machine

/-! ## Credits that cover a current (R6) -/

/-- The model's conversion is the library's division rounded up. -/
theorem ceilDiv_le_iff {a b c : Nat} (hb : 0 < b) : ceilDiv a b ≤ c ↔ a ≤ b * c := ceilDiv_le_iff_le_mul hb

/-! ## Changing the counts of an element -/

theorem ledgerEl_modEl (s : State) (j k : Nat) (f : LedgerEl → LedgerEl) :
    ledgerEl (modEl s k f) j = if j = k then f (ledgerEl s k) else ledgerEl s j := tget_tmod _ _ _ _ _

/-- Change the counts of each element of a chain by the same `f`. -/
def modEls (ks : List Nat) (f : LedgerEl → LedgerEl) (s : State) : State := ks.foldl (fun s k => modEl s k f) s

/-- On a chain without repeats each element is changed once, and no other element is. -/
theorem ledgerEl_modEls {ks : List Nat} (hks : ks.Nodup) (f : LedgerEl → LedgerEl) (s : State) (j : Nat) :
    ledgerEl (modEls ks f s) j = if j ∈ ks then f (ledgerEl s j) else ledgerEl s j := by
  induction ks generalizing s with
  | nil => simp [modEls]
  | cons k ks ih =>
    obtain ⟨hk, hks⟩ := List.nodup_cons.1 hks
    have hrest : ledgerEl (modEls (k :: ks) f s) j =
        if j ∈ ks then f (ledgerEl (modEl s k f) j) else ledgerEl (modEl s k f) j := ih hks (modEl s k f)
    rw [hrest, ledgerEl_modEl]
    by_cases hj : j = k
    · subst hj; simp [hk]
    · simp [hj]

/-- Only the table of counts changes, in the ledger and in the whole state. -/
theorem modEls_eq_modLedger (ks : List Nat) (f : LedgerEl → LedgerEl) (s : State) :
    ∃ els, modEls ks f s = s.modLedger fun l => { l with els := els } := by
  induction ks generalizing s with
  | nil => exact ⟨s.ledger.els, rfl⟩
  | cons k ks ih => exact ih (modEl s k f)

theorem modEls_frame (ks : List Nat) (f : LedgerEl → LedgerEl) (s : State) : SameExcept [.ledger] s (modEls ks f s) :=
  .foldl _ (fun s _ => modLedger_frame s _) ks s

@[simp] theorem withholdDue_modEls (ks : List Nat) (f : LedgerEl → LedgerEl) (s : State) :
    (modEls ks f s).ledger.withholdDue = s.ledger.withholdDue := by
  obtain ⟨els, h⟩ := modEls_eq_modLedger ks f s
  rw [h]; rfl

@[simp] theorem withheld_modEls (ks : List Nat) (f : LedgerEl → LedgerEl) (s : State) :
    (modEls ks f s).ledger.withheld = s.ledger.withheld := by
  obtain ⟨els, h⟩ := modEls_eq_modLedger ks f s
  rw [h]; rfl

@[simp] theorem poolOf_modEls (ks : List Nat) (f : LedgerEl → LedgerEl) (s : State) (k : Nat) :
    poolOf (modEls ks f s) k = poolOf s k := by
  obtain ⟨els, h⟩ := modEls_eq_modLedger ks f s
  rw [h]; rfl

/-! ## What a grant and a release do to the counts of one element -/

/-- The counts of an element after a grant of `n` credits, RESERVED or DRAWING. -/
def LedgerEl.charge (reserved : Bool) (n : Nat) (e : LedgerEl) : LedgerEl :=
  if reserved then { e with reserved := e.reserved + n, freeBelowPool := e.freeBelowPool - n }
  else { e with drawing := e.drawing + n, freeBelowPool := e.freeBelowPool - n }

/-- The counts of an element after a release of `n` credits, RESERVED or DRAWING. -/
def LedgerEl.discharge (reserved : Bool) (n : Nat) (e : LedgerEl) : LedgerEl :=
  if reserved then { e with reserved := e.reserved - n, freeBelowPool := e.freeBelowPool + n }
  else { e with drawing := e.drawing - n, freeBelowPool := e.freeBelowPool + n }

theorem LedgerEl.charge_held (reserved : Bool) (n : Nat) (e : LedgerEl) :
    (e.charge reserved n).drawing + (e.charge reserved n).reserved = e.drawing + e.reserved + n := by
  cases reserved <;> simp [charge] <;> omega

theorem LedgerEl.charge_freeBelowPool (reserved : Bool) (n : Nat) (e : LedgerEl) :
    (e.charge reserved n).freeBelowPool = e.freeBelowPool - n := by
  cases reserved <;> rfl

@[simp] theorem LedgerEl.discharge_charge (reserved : Bool) (n : Nat) (e : LedgerEl) :
    (e.charge reserved n).discharge reserved n = e := by
  cases reserved <;> simp [charge, discharge]

theorem debit_eq_modEl (reserved : Bool) (s : State) (c : Charge) :
    debit reserved s c = modEl s c.1 (·.charge reserved c.2) := rfl

/-- While derating has nothing still to withhold, a release only moves the element's own credits (R45). -/
theorem credit_eq_modEl {s : State} (hdue : s.ledger.withholdDue = 0) (reserved : Bool) (c : Charge) :
    credit reserved s c = modEl s c.1 (·.discharge reserved c.2) := by
  cases reserved <;> simp [credit, hdue, LedgerEl.discharge]

theorem foldl_debit_along (reserved : Bool) (ks : List Nat) (n : Nat) (s : State) :
    (along ks n).foldl (debit reserved) s = modEls ks (·.charge reserved n) s := by
  simp only [along, List.foldl_map, debit_eq_modEl, modEls]

theorem ledgerRelease_along (reserved : Bool) (ks : List Nat) (n : Nat) {s : State} (hdue : s.ledger.withholdDue = 0) :
    ledgerRelease reserved (along ks n) s = modEls ks (·.discharge reserved n) s := by
  induction ks generalizing s with
  | nil => rfl
  | cons k ks ih =>
    calc ledgerRelease reserved (along (k :: ks) n) s
        = ledgerRelease reserved (along ks n) (credit reserved s (k, n)) := rfl
      _ = ledgerRelease reserved (along ks n) (modEl s k (·.discharge reserved n)) := by rw [credit_eq_modEl hdue]
      _ = modEls (k :: ks) (·.discharge reserved n) s := ih hdue

/-! ## The level that refuses a request (R32) -/

theorem foldl_need_along (ks : List Nat) (n k m : Nat) :
    (along ks n).foldl (fun m c => if c.1 = k then m + c.2 else m) m = m + n * ks.count k := by
  induction ks generalizing m with
  | nil => rfl
  | cons j ks ih =>
    rw [along, List.map_cons, List.foldl_cons, ← along, ih]
    by_cases hj : j = k
    · simp [hj]; ring
    · simp [hj]

/-- A chain without repeats asks each of its elements for the credits once. -/
theorem needOf_along {ks : List Nat} (hks : ks.Nodup) {k : Nat} (hk : k ∈ ks) (n : Nat) : needOf (along ks n) k = n := by
  simpa [needOf, List.count_eq_one_of_mem hks hk] using foldl_need_along ks n k 0

/-- Keeping the smaller of what stands and each new answer comes to the minimum of the answers. -/
theorem foldl_merge_min_eq_min? {α : Type} (g : α → Option Nat) (l : List α) (r : Option Nat) :
    l.foldl (fun r a => (g a).merge min r) r = (r.toList ++ l.filterMap g).min? := by
  induction l generalizing r with
  | nil => cases r <;> rfl
  | cons a l ih =>
    rw [List.foldl_cons, ih]
    cases hg : g a with
    | none => cases r <;> simp [hg]
    | some m =>
      cases r with
      | none => simp [hg]
      | some x => simp only [List.filterMap_cons, hg, Option.merge_some_some, Option.toList_some, List.singleton_append,
          List.min?_cons', List.foldl_cons, min_comm m x]

theorem refusal_eq_min? (s : State) (cs : List Charge) :
    refusal s cs = (cs.filterMap fun c => refusesAt s c.1 (needOf cs c.1)).min? := by
  have hmerge : refusal s cs = cs.foldl (fun r c => (refusesAt s c.1 (needOf cs c.1)).merge min r) none := by
    unfold refusal
    congr 1
    funext r c
    cases refusesAt s c.1 (needOf cs c.1) <;> cases r <;> rfl
  simpa using hmerge.trans (foldl_merge_min_eq_min? _ cs none)

theorem refusal_along {ks : List Nat} (hks : ks.Nodup) (n : Nat) (s : State) :
    refusal s (along ks n) = (ks.filterMap fun k => refusesAt s k n).min? := by
  rw [refusal_eq_min?, along, List.filterMap_map]
  congr 1
  refine List.filterMap_congr fun k hk => ?_
  exact congrArg (refusesAt s k) (needOf_along hks hk n)

/-- An element that does not refuse is not broken and has the credits (R32, R49). -/
theorem not_broken_and_le_freeOf_of_refusesAt_eq_none {s : State} {k n : Nat} (h : refusesAt s k n = none) :
    k ∉ s.ledger.broken ∧ (n : Int) ≤ freeOf s k := by
  unfold refusesAt at h
  split_ifs at h with hbroken hsys hfree
  exact ⟨by simpa using hbroken, hfree⟩

/-! ## The answer to a request along a chain -/

theorem ledgerRequest_along_ok {reserved : Bool} {ks : List Nat} {n : Nat} {s t : State} (hks : ks.Nodup)
    (h : ledgerRequest reserved (along ks n) s = .ok t) :
    (∀ k ∈ ks, refusesAt s k n = none) ∧ t = modEls ks (·.charge reserved n) s := by
  unfold ledgerRequest at h
  split at h
  next => cases h
  next hnone =>
    rw [refusal_along hks, List.min?_eq_none_iff, List.filterMap_eq_nil_iff] at hnone
    exact ⟨hnone, by rw [← foldl_debit_along]; exact (Except.ok.inj h).symm⟩

theorem ledgerRequest_along_error {reserved : Bool} {ks : List Nat} {n : Nat} {s : State} {l : Nat} (hks : ks.Nodup)
    (h : ledgerRequest reserved (along ks n) s = .error l) :
    (∃ k, k ∈ ks ∧ refusesAt s k n = some l) ∧ ∀ k m, k ∈ ks → refusesAt s k n = some m → l ≤ m := by
  unfold ledgerRequest at h
  split at h
  next m hsome =>
    obtain rfl : m = l := Except.error.inj h
    rw [refusal_along hks, List.min?_eq_some_iff] at hsome
    obtain ⟨hmem, hleast⟩ := hsome
    exact ⟨List.mem_filterMap.1 hmem, fun k j hk hj => hleast j (List.mem_filterMap.2 ⟨k, hk, hj⟩)⟩
  next => cases h

/-! ## HELD and FREE after a grant and after its release (R31, R33) -/

theorem heldOf_modEls_charge {ks : List Nat} (hks : ks.Nodup) (reserved : Bool) (n : Nat) (s : State) (k : Nat) :
    heldOf (modEls ks (·.charge reserved n) s) k = heldOf s k + if k ∈ ks then n else 0 := by
  have hheld := (ledgerEl s k).charge_held reserved n
  by_cases hk : k ∈ ks <;> simp [heldOf, ledgerEl_modEls hks, hk] at hheld ⊢
  omega

theorem freeOf_modEls_charge {ks : List Nat} (hks : ks.Nodup) (reserved : Bool) (n : Nat) (s : State) (k : Nat) :
    freeOf (modEls ks (·.charge reserved n) s) k = freeOf s k - if k ∈ ks then (n : Int) else 0 := by
  by_cases hk : k ∈ ks
  · simp [freeOf, ledgerEl_modEls hks, hk, LedgerEl.charge_freeBelowPool]; omega
  · simp [freeOf, ledgerEl_modEls hks, hk]

/-- A grant keeps HELD + FREE of every element, and with it whether the element balances. -/
theorem balanced_modEls_charge {ks : List Nat} (hks : ks.Nodup) (reserved : Bool) (n : Nat) (s : State) (k : Nat) :
    balanced (modEls ks (·.charge reserved n) s) k = balanced s k := by
  have hsum : (heldOf (modEls ks (·.charge reserved n) s) k : Int) + freeOf (modEls ks (·.charge reserved n) s) k =
      heldOf s k + freeOf s k := by
    rw [heldOf_modEls_charge hks, freeOf_modEls_charge hks]
    split <;> omega
  rw [balanced, balanced, hsum, poolOf_modEls]

/-- A release undoes the grant of the same credits in every element. -/
theorem ledgerEl_modEls_discharge_charge {ks : List Nat} (hks : ks.Nodup) (reserved : Bool) (n : Nat) (s : State) (k : Nat) :
    ledgerEl (modEls ks (·.discharge reserved n) (modEls ks (·.charge reserved n) s)) k = ledgerEl s k := by
  by_cases hk : k ∈ ks <;> simp [ledgerEl_modEls hks, hk]

theorem ledgerRelease_restores {reserved : Bool} {ks : List Nat} {n : Nat} {s t : State} (hks : ks.Nodup)
    (hdue : s.ledger.withholdDue = 0) (h : ledgerRequest reserved (along ks n) s = .ok t) (k : Nat) :
    freeOf (ledgerRelease reserved (along ks n) t) k = freeOf s k
      ∧ heldOf (ledgerRelease reserved (along ks n) t) k = heldOf s k := by
  obtain ⟨-, rfl⟩ := ledgerRequest_along_ok hks h
  rw [ledgerRelease_along reserved ks n (by simpa using hdue)]
  simp [freeOf, heldOf, ledgerEl_modEls_discharge_charge hks]

/-- Settles O59: a request grants every element of the chain the same charge or refuses with the minimum of the refusing levels, and a
charge moves its credits from FREE to HELD, which its release undoes. -/
theorem ledgerGrants : Obligations.LedgerGrants := by
  unfold Obligations.LedgerGrants
  refine ⟨fun mA => ⟨(ceilDiv_le_iff (by decide)).1 le_rfl, fun c => (ceilDiv_le_iff (by decide)).2⟩, ?_,
    fun _ _ _ _ _ hks h => ledgerRequest_along_error hks h, fun _ _ _ _ _ hks hdue h => ledgerRelease_restores hks hdue h⟩
  intro reserved ks n s t hks h
  obtain ⟨hnone, rfl⟩ := ledgerRequest_along_ok hks h
  refine ⟨fun k hk => ?_, fun k hk => ?_, balanced_modEls_charge hks reserved n s, modEls_frame _ _ s⟩
  · obtain ⟨hbroken, hfree⟩ := not_broken_and_le_freeOf_of_refusesAt_eq_none (hnone k hk)
    refine ⟨hbroken, hfree, ?_, ?_⟩
    · simp [freeOf_modEls_charge hks, hk]
    · simp [heldOf_modEls_charge hks, hk]
  · simp [ledgerEl_modEls hks, hk]

end Sys2Proof.Machine
end

section
/-! What an event's row answers, and what its bank frames give for odometry: the rules that the proofs about events start from. -/

namespace Sys2Proof.Machine

/-! ## Events -/

/-- An event whose effect on the state at its time is `f` does what holds between that state and the settled end of its step. -/
theorem Does.of_settle {c : Nat → Instr} {pre : State → Prop} {post : State → State → Prop} (f : State → State)
    (hexec : ∀ τ s, pre (s.advance τ) → exec (c τ) s = .next (settle s (f (s.advance τ))))
    (hpost : ∀ s0 s, pre s → post s (settle s0 (f s))) : Does c pre post :=
  fun τ s hpre => ⟨_, hexec τ s hpre, hpost s (s.advance τ) hpre⟩

/-- Two changes in turn leave what both leave. -/
theorem SameExcept.append {bs cs : List Bank} {s t u : State} (h : SameExcept bs s t) (k : SameExcept cs t u) :
    SameExcept (bs ++ cs) s u :=
  (h.mono fun _ => List.mem_append_left _).trans (k.mono fun _ => List.mem_append_right _)

/-- `Only` need not name the banks of a frame that the end of every step may touch anyhow. -/
theorem SameExcept.only_settle_of {bs cs : List Bank} {s t : State} (h : SameExcept bs s t) (s0 : State)
    (hbanks : ∀ b, b ∈ bs → b ∈ cs ++ endBanks) : Only cs s (settle s0 t) :=
  (h.mono hbanks).trans ((settle_frame s0 t).mono fun _ => List.mem_append_right _)

theorem SameExcept.only_settle {bs : List Bank} {s t : State} (h : SameExcept bs s t) (s0 : State) : Only bs s (settle s0 t) :=
  h.only_settle_of s0 fun _ => List.mem_append_left _

/-! ## Updates of odometry, inputs and totals -/

theorem modOdo_frame (s : State) (f : OdoSt → OdoSt) : SameExcept [.odo] s (s.modOdo f) := by
  intro b hb; cases b <;> simp_all [Bank.same]

theorem modChan_frame (s : State) (n : Nat) (f : ChannelSt → ChannelSt) : SameExcept [.odo] s (s.modChan n f) := modOdo_frame s _

theorem modFi_frame (s : State) (n : Nat) (f : InputSt → InputSt) : SameExcept [.inputs] s (s.modFi n f) := by
  intro b hb; cases b <;> simp_all [Bank.same]

theorem modChan_modChan (s : State) (n : Nat) (f g : ChannelSt → ChannelSt) :
    (s.modChan n f).modChan n g = s.modChan n fun x => g (f x) := by
  simp [State.modChan, State.modOdo]

theorem addTotal_frame (i n : Nat) (s : State) : SameExcept [.recorder] s (addTotal i n s) := by
  unfold addTotal
  split
  · exact .refl _ s
  · exact modRec_frame s _

theorem SameExcept.chan {bs : List Bank} {s t : State} (h : SameExcept bs s t) (hb : .odo ∉ bs) (k : Nat) : t.chan k = s.chan k :=
  congrArg (fun o : OdoSt => tget o.channels {} k) (h .odo hb)

theorem SameExcept.fi {bs : List Bank} {s t : State} (h : SameExcept bs s t) (hb : .inputs ∉ bs) (k : Nat) : t.fi k = s.fi k :=
  congrArg (fun x : Tbl InputSt => tget x {} k) (h .inputs hb)

/-! ## Entries of the error intake (R482) -/

/-- An edge of a source that no power die owns touches the event controller only. -/
theorem edgeAt_frame_own {n : Nat} (h : dieOfSource n = none) (time inst code sev : Nat) (late : Bool) (s : State) :
    SameExcept [.events] s (edgeAt time n inst code sev late s) := by
  unfold edgeAt
  split
  · rw [h]; exact modSrc_frame _ _ _
  · exact assertSource_frame _ _ _ _ _

/-- A fault of a source that no power die owns leaves the dies alone. -/
theorem fault_frame_own {n : Nat} (h : dieOfSource n = none) (inst code sev ctx : Nat) (s : State) :
    SameExcept [.events, .faults] s (fault n inst code sev ctx s) := by
  simpa [fault, h] using (edgeAt_frame_own h s.devtime inst code sev false s).append
    (intakePut_frame { cls := classOf n code, inst := inst, severity := sev, source := n, time := s.devtime, context := ctx } _)

@[simp] theorem fault_odo (n inst code sev ctx : Nat) (s : State) : (fault n inst code sev ctx s).odo = s.odo :=
  fault_frame n inst code sev ctx s .odo (by decide)

theorem edgeAt_faults (time n inst code sev : Nat) (late : Bool) (s : State) :
    (edgeAt time n inst code sev late s).faults = s.faults := edgeAt_frame time n inst code sev late s .faults (by decide)

theorem mem_intake_intakePut {e : IntakeEntry} {s : State} (he : e ∈ s.faults.intake) (x : IntakeEntry) :
    e ∈ (intakePut x s).faults.intake := by
  rw [intakePut, State.modFaults_faults_self]
  split
  · exact List.mem_append_left _ he
  · exact he

theorem mem_intake_intakePut_self {x : IntakeEntry} {s : State} (hroom : s.faults.intake.length < 64) :
    x ∈ (intakePut x s).faults.intake := by
  simp [intakePut, hroom]

/-- Entries leave the intake only when the fault manager takes them, never by another fault. -/
theorem mem_intake_fault {e : IntakeEntry} {s : State} (he : e ∈ s.faults.intake) (n inst code sev ctx : Nat) :
    e ∈ (fault n inst code sev ctx s).faults.intake := by
  rw [← edgeAt_faults s.devtime n inst code sev false s] at he
  unfold fault
  simp only
  split
  · exact he
  · exact mem_intake_intakePut he _

theorem raised_fault (n inst code sev ctx : Nat) (s : State) : Raised n inst code sev s (fault n inst code sev ctx s) := by
  intro hrun hroom
  refine ⟨{ cls := classOf n code, inst := inst, severity := sev, source := n, time := s.devtime, context := ctx }, ?_,
    rfl, rfl, rfl, rfl, rfl⟩
  rw [← edgeAt_faults s.devtime n inst code sev false s] at hroom
  simpa [fault, hrun] using mem_intake_intakePut_self hroom

theorem Raised.mono {n inst code sev : Nat} {s t u : State} (h : Raised n inst code sev s t)
    (hmem : ∀ e, e ∈ t.faults.intake → e ∈ u.faults.intake) : Raised n inst code sev s u := fun hrun hroom =>
  let ⟨e, he, hfields⟩ := h hrun hroom
  ⟨e, hmem e he, hfields⟩

theorem raised_modOdo (n inst code sev : Nat) (s t : State) (f : OdoSt → OdoSt) :
    Raised n inst code sev (s.modOdo f) t ↔ Raised n inst code sev s t := Iff.rfl

@[simp] theorem closeFault_intake (cls inst : Nat) (s : State) : (closeFault cls inst s).faults.intake = s.faults.intake := by
  unfold closeFault
  split
  · rfl
  · simp only
    rw [edge_frame_own (n := 246) rfl .faults (by decide)]
    rfl

@[simp] theorem closeCleared_intake (s : State) : (closeCleared s).faults.intake = s.faults.intake := by
  unfold closeCleared
  generalize s.faults.opened = fs
  induction fs generalizing s with
  | nil => rfl
  | cons f r ih =>
    rw [List.foldl_cons, ih]
    split
    · exact closeFault_intake _ _ _
    · rfl

/-- The end of a step closes faults and takes no entry from the intake. -/
@[simp] theorem settle_intake (s0 s : State) : (settle s0 s).faults.intake = s.faults.intake := by
  have hcleared : (closeCleared (tokenWatch (controlChange s))).faults.intake = s.faults.intake := by
    rw [closeCleared_intake, tokenWatch_frame _ .faults (by decide), controlChange_frame s .faults (by decide)]
  have hend : (isobusRecords (signals (gatewayLevels (ringLevels (closeCleared (tokenWatch (controlChange s))))))).faults.intake
      = s.faults.intake := by
    rw [isobusRecords_frame _ .faults (by decide), signals_frame _ .faults (by decide), gatewayLevels_frame _ .faults (by decide),
      ringLevels_frame _ .faults (by decide), hcleared]
  unfold settle
  simp only
  split <;> exact hend

theorem Raised.settle {n inst code sev : Nat} {s t : State} (h : Raised n inst code sev s t) (s0 : State) :
    Raised n inst code sev s (settle s0 t) := h.mono fun _ he => by rwa [settle_intake]

end Sys2Proof.Machine
end

section
/-! Odometry: what a counted or refused edge does to its channel, what the lines' levels do to their inputs, and the rows of edges, NOISY,
standstill and the emulation (R108 to R119, R137, R138, R307). -/

namespace Sys2Proof.Machine

/-! ## A channel's counters after one edge -/

/-- Parts of a milli-unit in which DIST is exact: SCALE × E (R108, R114). -/
def distParts (c : ChannelCfg) : Int := max 1 (c.scale * edgesPer c)

/-- DIST in those parts, with what it holds above whole milli-units. -/
def ChannelSt.travel (c : ChannelCfg) (x : ChannelSt) : Int := x.dist * distParts c + x.distPart

theorem travelled_iff {ch : Nat} {d : Int} {s t : State} :
    Travelled ch d s t ↔ (t.chan ch).travel (s.chanCfg ch) = (s.chan ch).travel (s.chanCfg ch) + d := Iff.rfl

theorem ChannelSt.moved_travel (c : ChannelCfg) (neg : Bool) (x : ChannelSt) :
    (x.moved c neg).travel c = x.travel c + if neg then -1000000 else 1000000 := by
  have hpos : 0 < distParts c := lt_of_lt_of_le one_pos (le_max_left _ _)
  generalize hacc : (x.distPart : Int) + (if neg then -1000000 else 1000000) = acc
  have hmoved : (x.moved c neg).travel c = (x.dist + acc / distParts c) * distParts c + ((acc % distParts c).toNat : Int) := by
    rw [← hacc]; rfl
  have hrest : ((acc % distParts c).toNat : Int) = acc % distParts c := Int.toNat_of_nonneg (Int.emod_nonneg _ hpos.ne')
  have hdiv : acc / distParts c * distParts c + acc % distParts c = acc := Int.ediv_mul_add_emod acc _
  rw [hmoved, hrest, ChannelSt.travel, add_mul]
  omega

section
variable (c : ChannelCfg) (t : Nat) (neg : Bool) (x : ChannelSt)

/-- Whatever an edge means for the speed (R115, R118, R119), it moves DIST by one edge (R108). -/
@[simp] theorem ChannelSt.edge_travel : (x.edge c t neg).travel c = x.travel c + if neg then -1000000 else 1000000 := by
  rw [← ChannelSt.moved_travel]; unfold ChannelSt.edge; split_ifs <;> rfl

@[simp] theorem ChannelSt.edge_edgeCount : (x.edge c t neg).edgeCount = (x.edgeCount + 1) % 4294967296 := by
  unfold ChannelSt.edge; split_ifs <;> rfl

@[simp] theorem ChannelSt.edge_lastEdge : (x.edge c t neg).lastEdge = some t := by
  unfold ChannelSt.edge; split_ifs <;> rfl

@[simp] theorem ChannelSt.edge_lineA : (x.edge c t neg).lineA = x.lineA := by
  unfold ChannelSt.edge; split_ifs <;> rfl

end

/-! ## The lines of a channel (R108 to R111) -/

/-- A channel whose last counted edge, if it has one, is MIN_EDGE or more before `q` steps of 0.25 µs past DEVTIME (R110). -/
def edgeAllowed (s : State) (ch q : Nat) : Prop :=
  ∀ e, (s.chan ch).lastEdge = some e → e + 4 * (s.chanCfg ch).minEdgeUs ≤ 4 * s.devtime + q

/-- What `lineChange` does at an edge in a direction, once the levels of the lines stand in `s`: the edge is refused or counts, by
what the channel was in `s0`. -/
def edgeOf (s0 : State) (ch q : Nat) (neg : Bool) (s : State) : State :=
  if (s0.chan ch).lastEdge.any fun e => decide (4 * s0.devtime + q < e + 4 * (s0.chanCfg ch).minEdgeUs) then
    s.modChan ch (ChannelSt.refuse s0.devtime false)
  else
    let s1 := s.modChan ch (ChannelSt.edge (s0.chanCfg ch) (4 * s0.devtime + q) neg)
    match (s0.chanCfg ch).type, (s0.chanCfg ch).product with
    | .flow, some p => addTotal (totProduct + p) (1000000000000 / max 1 (s0.chanCfg ch).scale) s1
    | _, _ => s1

section
variable {s : State} {ch q : Nat} {a b : Bool}

/-- The branches of `lineChange`: which change of the lines is an edge, and in which direction (R108, R111, R120). -/
theorem lineChange_eq (s : State) (ch q : Nat) (a b : Bool) : lineChange ch q a b s =
    let x := s.chan ch
    let s1 := s.modChan ch fun x => { x with lineA := a, lineB := b }
    if (s.chanCfg ch).quad then
      if x.lineA != a && x.lineB != b then s1.modChan ch (ChannelSt.refuse s.devtime true)
      else if x.lineA != a then edgeOf s ch q (a == b) s1
      else if x.lineB != b then edgeOf s ch q (b != a) s1
      else s1
    else if x.lineA != a && a != (s.chanCfg ch).falling then
      edgeOf s ch q (dirOf s ch).1 (s1.modChan ch fun x => { x with dirUnknown := (dirOf s ch).2 })
    else s1 := by
  simp only [lineChange, edgeOf]
  cases hlast : (s.chan ch).lastEdge <;> rfl

theorem lineChange_of_single_edge (hquad : (s.chanCfg ch).quad = false) (hA : (s.chan ch).lineA ≠ a)
    (hedge : a ≠ (s.chanCfg ch).falling) :
    lineChange ch q a b s = edgeOf s ch q (dirOf s ch).1
      (s.modChan ch fun x => { x with lineA := a, lineB := b, dirUnknown := (dirOf s ch).2 }) := by
  simp [lineChange_eq, hquad, hA, hedge, modChan_modChan]

theorem lineChange_of_lineA_edge (hquad : (s.chanCfg ch).quad = true) (hA : (s.chan ch).lineA ≠ a) (hB : (s.chan ch).lineB = b) :
    lineChange ch q a b s = edgeOf s ch q (a == b) (s.modChan ch fun x => { x with lineA := a, lineB := b }) := by
  simp [lineChange_eq, hquad, hA, hB]

theorem lineChange_of_both_edges (hquad : (s.chanCfg ch).quad = true) (hA : (s.chan ch).lineA ≠ a) (hB : (s.chan ch).lineB ≠ b) :
    lineChange ch q a b s = s.modChan ch fun x => ChannelSt.refuse s.devtime true { x with lineA := a, lineB := b } := by
  simp [lineChange_eq, hquad, hA, hB, modChan_modChan]

/-- A counted edge changes its channel; a FLOW channel's counts into TOTALS besides (R491). -/
theorem edgeOf_counts (hok : edgeAllowed s ch q) (neg : Bool) (f : ChannelSt → ChannelSt) :
    SameExcept [.recorder] (s.modChan ch fun x => (f x).edge (s.chanCfg ch) (4 * s.devtime + q) neg)
      (edgeOf s ch q neg (s.modChan ch f)) := by
  have hearly : ((s.chan ch).lastEdge.any fun e => decide (4 * s.devtime + q < e + 4 * (s.chanCfg ch).minEdgeUs)) = false := by
    cases hlast : (s.chan ch).lastEdge with
    | none => rfl
    | some e => simpa using hok e hlast
  simp only [edgeOf, hearly, modChan_modChan, Bool.false_eq_true, if_false]
  split
  · exact addTotal_frame _ _ _
  · exact .refl _ _

theorem edgeOf_chan (hok : edgeAllowed s ch q) (neg : Bool) (f : ChannelSt → ChannelSt) :
    (edgeOf s ch q neg (s.modChan ch f)).chan ch = (f (s.chan ch)).edge (s.chanCfg ch) (4 * s.devtime + q) neg := by
  rw [(edgeOf_counts hok neg f).chan (by decide), State.modChan_chan_self]

theorem edgeOf_chan_of_ne (hok : edgeAllowed s ch q) (neg : Bool) (f : ChannelSt → ChannelSt) {k : Nat} (hk : k ≠ ch) :
    (edgeOf s ch q neg (s.modChan ch f)).chan k = s.chan k := by
  rw [(edgeOf_counts hok neg f).chan (by decide), State.modChan_chan_of_ne _ _ _ hk]

theorem edgeOf_frame (hok : edgeAllowed s ch q) (neg : Bool) (f : ChannelSt → ChannelSt) :
    SameExcept [.odo, .recorder] s (edgeOf s ch q neg (s.modChan ch f)) :=
  (modChan_frame s ch _).append (edgeOf_counts hok neg f)

theorem edgeOf_refuses {e : Nat} (hlast : (s.chan ch).lastEdge = some e)
    (hearly : 4 * s.devtime + q < e + 4 * (s.chanCfg ch).minEdgeUs) (neg : Bool) (f : ChannelSt → ChannelSt) :
    edgeOf s ch q neg (s.modChan ch f) = s.modChan ch fun x => (f x).refuse s.devtime false := by
  simp [edgeOf, hlast, hearly, modChan_modChan]

end

/-! ## The channel of an input (R106) -/

theorem tget_of_tfind {α : Type} {t : Tbl α} {k : Nat} {a : α} (h : tfind t k = some a) (d : α) : tget t d k = a := by
  induction t with
  | nil => cases h
  | cons p r ih =>
    obtain ⟨j, b⟩ := p
    by_cases e : k = j
    · simpa [tfind, tget, e] using h
    · simp only [tfind, tget, e, if_false] at h ⊢
      exact ih h

/-- A single-channel input is its own channel: a channel of another input takes two lines. -/
theorem eq_of_channelOf_single {s : State} {i ch : Nat} (h : channelOf s i = some ch) (hquad : (s.chanCfg ch).quad = false) :
    ch = i := by
  unfold channelOf at h
  split_ifs at h with hodd
  · obtain rfl : i - 1 = ch := Option.some.inj h
    simp only [Bool.and_eq_true, Option.any_eq_true] at hodd
    obtain ⟨-, c, hc, hcq⟩ := hodd
    rw [State.chanCfg, tget_of_tfind hc, hcq] at hquad
    cases hquad
  · obtain ⟨c, -, rfl⟩ := Option.map_eq_some_iff.1 h
    rfl

/-! ## Levels of FAST inputs (R307) -/

theorem fastLevel_frame (i : Nat) (v : Bool) (s : State) : SameExcept [.inputs] s (fastLevel i v s) := by
  unfold fastLevel
  split
  · exact .refl _ s
  · exact modFi_frame s _ _

/-- The input takes the level by its INVERT, whatever else but inputs and configuration has changed since `s`. -/
theorem fastLevel_fi_self {bs : List Bank} {i : Nat} {s t : State} (h : SameExcept bs s t) (hinputs : .inputs ∉ bs) (hcfg : .cfg ∉ bs)
    (hfast : (s.fiCfg i).mode = .fast) (v : Bool) :
    (fastLevel i v t).fi i = { s.fi i with raw := v != (s.fiCfg i).invert, state := logical s i (v != (s.fiCfg i).invert) } := by
  have hi : t.fiCfg i = s.fiCfg i := congrArg (fun c : Image => tget c.fieldIo.inputs {} i) (h .cfg hcfg)
  simp [fastLevel, logical, hi, hfast, h.fi hinputs]

theorem fastLevel_fi_of_ne {i k : Nat} (h : k ≠ i) (v : Bool) (s : State) : (fastLevel i v s).fi k = s.fi k := by
  unfold fastLevel
  split
  · rfl
  · exact State.modFi_fi_of_ne _ _ _ h

@[simp] theorem fastLevel_chan (i : Nat) (v : Bool) (s : State) (k : Nat) : (fastLevel i v s).chan k = s.chan k :=
  (fastLevel_frame i v s).chan (by decide) k

/-! ## The row of edges -/

section
variable {z : FastEdge} {a b : Bool} {s : State} {τ ch : Nat}

/-- R109: a level that lasts less than 0.5 µs is no edge. -/
theorem exec_odoEdge_short (hz : z.input < 8) (hlasts : z.lasts < 2) :
    exec (.odoEdge τ z a b) s = .next (settle s (s.advance τ)) := by
  have hrow : exec (.odoEdge τ z a b) s = execOdoEdge τ z a b s := rfl
  simp [hrow, execOdoEdge, about_next hz, sampled, hlasts]

theorem exec_odoEdge_plain (hz : z.input < 8) (hlasts : 2 ≤ z.lasts) (hfed : dieFed (s.advance τ) 4 = true)
    (hch : channelOf (s.advance τ) z.input = none) :
    exec (.odoEdge τ z a b) s = .next (settle s (fastLevel z.input a (s.advance τ))) := by
  have hrow : exec (.odoEdge τ z a b) s = execOdoEdge τ z a b s := rfl
  simp [hrow, execOdoEdge, about_next hz, sampled, hfed, hch, not_lt.2 hlasts]

theorem exec_odoEdge_single (hz : z.input < 8) (hlasts : 2 ≤ z.lasts) (hfed : dieFed (s.advance τ) 4 = true)
    (hch : channelOf (s.advance τ) z.input = some ch) (hquad : ((s.advance τ).chanCfg ch).quad = false) :
    exec (.odoEdge τ z a b) s = .next (settle s (fastLevel ch a (lineChange ch z.quarter a b (s.advance τ)))) := by
  have hrow : exec (.odoEdge τ z a b) s = execOdoEdge τ z a b s := rfl
  simp [hrow, execOdoEdge, about_next hz, sampled, hfed, hch, not_lt.2 hlasts, hquad]

theorem exec_odoEdge_quad (hz : z.input < 8) (hlasts : 2 ≤ z.lasts) (hfed : dieFed (s.advance τ) 4 = true)
    (hch : channelOf (s.advance τ) z.input = some ch) (hquad : ((s.advance τ).chanCfg ch).quad = true) :
    exec (.odoEdge τ z a b) s
      = .next (settle s (fastLevel (ch + 1) b (fastLevel ch a (lineChange ch z.quarter a b (s.advance τ))))) := by
  have hrow : exec (.odoEdge τ z a b) s = execOdoEdge τ z a b s := rfl
  simp [hrow, execOdoEdge, about_next hz, sampled, hfed, hch, not_lt.2 hlasts, hquad]

end

/-! ## The primary after a change of what is available (R127) -/

/-- The choice of the primary leaves the channels as they are, and raises nothing but SPEED_SOURCE. -/
theorem repick_cases (s : State) : ∃ o : OdoSt, o.channels = s.odo.channels ∧
    (repick s = s.modOdo (fun _ => o) ∨ ∃ inst, repick s = fault 202 inst 0 1 0 (s.modOdo fun _ => o)) := by
  unfold repick
  split
  · exact ⟨s.odo, rfl, .inl rfl⟩
  · unfold changePrimary
    simp only
    split
    · exact ⟨s.odo, rfl, .inl rfl⟩
    · split
      · exact ⟨{ s.odo with primary := _, primarySeen := true, blendFrom := none }, rfl, .inl rfl⟩
      · exact ⟨{ s.odo with primary := _, blendFrom := some (s.devtime, s.odo.speed) }, rfl, .inr ⟨_, rfl⟩⟩

theorem repick_frame (s : State) : SameExcept [.odo, .events, .faults] s (repick s) := by
  obtain ⟨o, -, h | ⟨inst, h⟩⟩ := repick_cases s <;> rw [h]
  · exact (modOdo_frame s _).mono (by simp)
  · exact (modOdo_frame s _).append (fault_frame_own rfl inst 0 1 0 _)

@[simp] theorem repick_chan (s : State) (k : Nat) : (repick s).chan k = s.chan k := by
  obtain ⟨o, ho, h | ⟨inst, h⟩⟩ := repick_cases s <;> rw [h]
  · exact congrArg (fun t => tget t {} k) ho
  · rw [(fault_frame 202 inst 0 1 0 _).chan (by decide)]
    exact congrArg (fun t => tget t {} k) ho

theorem mem_intake_repick {e : IntakeEntry} {s : State} (he : e ∈ s.faults.intake) : e ∈ (repick s).faults.intake := by
  obtain ⟨o, -, h | ⟨inst, h⟩⟩ := repick_cases s <;> rw [h]
  · exact he
  · exact mem_intake_fault (s := s.modOdo fun _ => o) he _ _ _ _ _

/-! ## NOISY and standstill (R112, R117) -/

theorem markNoisy_of_due {s : State} {ch : Nat} (hclear : (s.chan ch).noisy = false)
    (hmany : 100 < ((s.chan ch).refused.filter fun u => decide (s.devtime < u + 100000)).length) :
    markNoisy ch s = repick (fault (192 + ch) 0 0 2 0 (s.modChan ch fun x => { x with noisy := true })) := by
  simp [markNoisy, hclear, not_le.2 hmany]

theorem clearNoisy_of_quiet {s : State} {ch : Nat} (hnoisy : (s.chan ch).noisy = true)
    (hquiet : ∀ u, (s.chan ch).refused.head? = some u → u + 1000000 ≤ s.devtime) :
    clearNoisy ch s = repick (s.modChan ch fun x => { x with noisy := false, refused := [] }) := by
  cases hrefused : (s.chan ch).refused with
  | nil => simp [clearNoisy, hnoisy, hrefused]
  | cons u r => simp [clearNoisy, hnoisy, hrefused, hquiet u (by rw [hrefused]; rfl)]

theorem standStill_of_due {s : State} {ch : Nat} (hmoving : (s.chan ch).standstill = false)
    (hdue : ∀ e, (s.chan ch).lastEdge = some e → e + 4000 * s.cfg.package.standstillMs ≤ 4 * s.devtime) :
    standStill ch s = s.modChan ch fun x =>
      { x with standstill := true, starting := false, reversal := false, edges := [], vMeas := 0 } := by
  cases hlast : (s.chan ch).lastEdge with
  | none => simp [standStill, hmoving, hlast]
  | some e => simp [standStill, hmoving, hlast, hdue e hlast]

theorem bit_le_one (b : Bool) : bit b ≤ 1 := by cases b <;> decide

theorem bit_true : bit true = 1 := rfl

theorem bit_false : bit false = 0 := rfl

/-- Table 04-5: bit 1 is STANDSTILL. -/
theorem bitAt_channelWord_one (s : State) (n : Nat) : bitAt (channelWord s n) 1 = (s.chan n).standstill := by
  have hvalid := bit_le_one (validChannel s n)
  simp only [channelWord, pack, List.foldl, bitAt]
  cases (s.chan n).standstill <;> simp [bit_true, bit_false] <;> omega

/-! ## The emulation's pulses (R137, R138) -/

section
variable {s : State}

/-- R137: in SINGLE a step that is due, and not too soon, turns the output's level. -/
theorem emuPulse_of_single (hmode : s.cfg.odo.emulation.mode = 1) (hdrives : emuDrives s = true) (hruns : s.odo.emuStopped = false)
    (hrate : s.odo.emuRate ≠ 0) (hdue : emuGiven s < emuDue s)
    (hslow : ∀ l, s.odo.emuLast = some l → 1000000 ≤ (s.devtime - l) * 40000) :
    emuPulse s = (s.modOdo fun o => { o with emuDone := o.emuDone + 1, emuLast := some s.devtime }).modFo 14
      fun x => { x with level := s.odo.emuDone % 2 == 0 } := by
  have hnotFast : emuFast s = false := by
    cases hlast : s.odo.emuLast with
    | none => simp [emuFast, hlast]
    | some l =>
      have := hslow l hlast
      simp [emuFast, hlast, emuSteps, hmode]
      omega
  simp [emuPulse, hmode, hdrives, hruns, hrate, not_le.2 hdue, hnotFast]

/-- R138: beyond 20 kHz a whole pulse is dropped, and the first one raises EMULATION_CLAMPED. -/
theorem emuPulse_of_fast {l : Nat} (hdrives : emuDrives s = true) (hruns : s.odo.emuStopped = false) (hrate : s.odo.emuRate ≠ 0)
    (hdue : emuGiven s + emuSteps s.cfg.odo.emulation ≤ emuDue s) (hlast : s.odo.emuLast = some l)
    (hfast : (s.devtime - l) * 20000 * emuSteps s.cfg.odo.emulation < 1000000) :
    emuPulse s =
      let s1 := s.modOdo fun o => { o with emuDropped := o.emuDropped + 1, emuClamped := true }
      if s.odo.emuClamped then s1 else fault 203 0 0 1 0 s1 := by
  have hsteps : 0 < emuSteps s.cfg.odo.emulation := by unfold emuSteps; split <;> decide
  have hmore : ¬emuDue s ≤ emuGiven s := by omega
  simp [emuPulse, hdrives, hruns, hrate, hmore, not_lt.2 hdue, emuFast, hlast, hfast]

end

/-! ## The other rows -/

section
variable {s : State} {τ ch : Nat}

theorem exec_odoNoisy (hch : ch < 8) : exec (.odoNoisy τ ch) s = .next (settle s (markNoisy ch (s.advance τ))) := by
  have hrow : exec (.odoNoisy τ ch) s = execOdoNoisy τ ch s := rfl
  rw [hrow, execOdoNoisy, about_next hch]

theorem exec_odoNoisyClear (hch : ch < 8) : exec (.odoNoisyClear τ ch) s = .next (settle s (clearNoisy ch (s.advance τ))) := by
  have hrow : exec (.odoNoisyClear τ ch) s = execOdoNoisyClear τ ch s := rfl
  rw [hrow, execOdoNoisyClear, about_next hch]

theorem exec_standstill (hch : ch < 8) : exec (.standstill τ ch) s = .next (settle s (standStill ch (s.advance τ))) := by
  have hrow : exec (.standstill τ ch) s = execStandstill τ ch s := rfl
  rw [hrow, execStandstill, about_next hch]

theorem exec_emulationPulse : exec (.emulationPulse τ) s = .next (settle s (emuPulse (s.advance τ))) := rfl

end

/-! ## Rows of edges, as the statements put them -/

section
variable {z : FastEdge} {a b : Bool} {ch : Nat} {pre : State → Prop} {post : State → State → Prop}

theorem does_odoEdge_single (hz : z.input < 8) (hlasts : 2 ≤ z.lasts)
    (hpre : ∀ s, pre s → dieFed s 4 = true ∧ channelOf s z.input = some ch ∧ (s.chanCfg ch).quad = false)
    (hpost : ∀ s0 s, pre s → post s (settle s0 (fastLevel ch a (lineChange ch z.quarter a b s)))) :
    Does (fun τ => .odoEdge τ z a b) pre post :=
  .of_settle (fun s => fastLevel ch a (lineChange ch z.quarter a b s))
    (fun _ _ h =>
      let ⟨hfed, hch, hquad⟩ := hpre _ h
      exec_odoEdge_single hz hlasts hfed hch hquad) hpost

theorem does_odoEdge_quad (hz : z.input < 8) (hlasts : 2 ≤ z.lasts)
    (hpre : ∀ s, pre s → dieFed s 4 = true ∧ channelOf s z.input = some ch ∧ (s.chanCfg ch).quad = true)
    (hpost : ∀ s0 s, pre s → post s (settle s0 (fastLevel (ch + 1) b (fastLevel ch a (lineChange ch z.quarter a b s))))) :
    Does (fun τ => .odoEdge τ z a b) pre post :=
  .of_settle (fun s => fastLevel (ch + 1) b (fastLevel ch a (lineChange ch z.quarter a b s)))
    (fun _ _ h =>
      let ⟨hfed, hch, hquad⟩ := hpre _ h
      exec_odoEdge_quad hz hlasts hfed hch hquad) hpost

end

/-! ## The statement -/

/-- Settles O30, row by row: each row's effect is the equation of its case above, and the frames of the updates in it say what else may
have changed. -/
theorem odometryEdges : Obligations.OdometryEdges := by
  unfold Obligations.OdometryEdges
  refine ⟨?counted, ?short, ?plain, ?early, ?quadrature, ?both, ?noisy, ?noisyClear, ?standstill, ?pulse, ?dropped⟩
  case counted =>
    intro z ch b hz hquarter hlasts
    refine does_odoEdge_single hz hlasts (fun _ ⟨hfed, hch, hquad, _⟩ => ⟨hfed, hch, hquad⟩) ?_
    rintro s0 s ⟨-, hch, hquad, hfalling, hlow, hok⟩
    obtain rfl := eq_of_channelOf_single hch hquad
    rw [lineChange_of_single_edge hquad (by simp [hlow]) (by simp [hfalling])]
    refine ⟨?_, ?_, ?_, ?_, fun hfast => ?_, fun k hk => ?_, fun k hk => ?_, ?_⟩
    · simp [edgeOf_chan hok]
    · simp [edgeOf_chan hok]
    · rw [travelled_iff, settle_chan, fastLevel_chan, edgeOf_chan hok, ChannelSt.edge_travel]; rfl
    · simp [edgeOf_chan hok]
    · simp [fastLevel_fi_self (edgeOf_frame hok _ _) (by decide) (by decide) hfast]
    · simp [fastLevel_fi_of_ne hk, (edgeOf_frame hok _ _).fi]
    · simp [edgeOf_chan_of_ne hok _ _ hk]
    · exact ((edgeOf_frame hok _ _).append (fastLevel_frame _ _ _)).only_settle s0
  case short =>
    intro z a b hz hlasts
    exact .of_settle id (fun τ s _ => exec_odoEdge_short hz hlasts) fun s0 s _ => (SameExcept.refl _ s).only_settle s0
  case plain =>
    intro z a b hz hlasts
    refine .of_settle (fastLevel z.input a) (fun _ _ ⟨hfed, hch, _⟩ => exec_odoEdge_plain hz hlasts hfed hch) ?_
    rintro s0 s ⟨-, -, hfast⟩
    have hfi := fastLevel_fi_self (.refl [] s) (by decide) (by decide) hfast a
    refine ⟨?_, ?_, fun k hk => ?_, (fastLevel_frame _ _ s).only_settle s0⟩
    · simp [hfi]
    · simp [hfi]
    · simp [fastLevel_fi_of_ne hk]
  case early =>
    intro z ch e b hz hquarter hlasts
    refine does_odoEdge_single hz hlasts (fun _ ⟨hfed, hch, hquad, _⟩ => ⟨hfed, hch, hquad⟩) ?_
    rintro s0 s ⟨-, hch, hquad, hfalling, hlow, hlast, hearly⟩
    obtain rfl := eq_of_channelOf_single hch hquad
    rw [lineChange_of_single_edge hquad (by simp [hlow]) (by simp [hfalling]), edgeOf_refuses hlast hearly]
    refine ⟨?_, ?_, ?_, fun k hk => ?_, ?_⟩
    · simp [ChannelSt.refuse]
    · simp [ChannelSt.refuse]
    · simp [ChannelSt.refuse, hlast]
    · simp [fastLevel_fi_of_ne hk]
    · exact ((modChan_frame s _ _).append (fastLevel_frame _ _ _)).only_settle s0
  case quadrature =>
    intro z ch a hz hquarter hlasts
    refine does_odoEdge_quad hz hlasts (fun _ ⟨hfed, hch, hquad, _⟩ => ⟨hfed, hch, hquad⟩) ?_
    rintro s0 s ⟨-, hch, hquad, hA, hB, hok⟩
    rw [lineChange_of_lineA_edge hquad hA hB]
    refine ⟨?_, ?_, fun k hk hk' => ?_, ?_⟩
    · simp [edgeOf_chan hok]
    · rw [travelled_iff, settle_chan, fastLevel_chan, fastLevel_chan, edgeOf_chan hok, ChannelSt.edge_travel]
      cases a <;> rfl
    · simp [fastLevel_fi_of_ne hk, fastLevel_fi_of_ne hk', (edgeOf_frame hok _ _).fi]
    · exact ((edgeOf_frame hok _ _).append ((fastLevel_frame _ _ _).trans (fastLevel_frame _ _ _))).only_settle s0
  case both =>
    intro z ch a b hz hquarter hlasts
    refine does_odoEdge_quad hz hlasts (fun _ ⟨hfed, hch, hquad, _⟩ => ⟨hfed, hch, hquad⟩) ?_
    rintro s0 s ⟨-, hch, hquad, hA, hB⟩
    rw [lineChange_of_both_edges hquad hA hB]
    refine ⟨?_, ?_, ?_, fun k hk hk' => ?_, ?_⟩
    · simp [ChannelSt.refuse]
    · simp [ChannelSt.refuse]
    · simp [travelled_iff, ChannelSt.travel, ChannelSt.refuse]
    · simp [fastLevel_fi_of_ne hk, fastLevel_fi_of_ne hk']
    · exact ((modChan_frame s _ _).append ((fastLevel_frame _ _ _).trans (fastLevel_frame _ _ _))).only_settle s0
  case noisy =>
    intro ch hch
    refine .of_settle (markNoisy ch) (fun τ s _ => exec_odoNoisy hch) ?_
    rintro s0 s ⟨hclear, hmany⟩
    rw [markNoisy_of_due hclear hmany]
    refine ⟨?_, ?_, ?_⟩
    · simp [(fault_frame (192 + ch) 0 0 2 0 _).chan (by decide)]
    · exact (((raised_modOdo _ _ _ _ _ _ _).1 (raised_fault (192 + ch) 0 0 2 0 _)).mono fun _ => mem_intake_repick).settle s0
    · exact (((modChan_frame s ch _).append (fault_frame (192 + ch) 0 0 2 0 _)).append (repick_frame _)).only_settle_of s0
        (by decide)
  case noisyClear =>
    intro ch hch
    refine .of_settle (clearNoisy ch) (fun τ s _ => exec_odoNoisyClear hch) ?_
    rintro s0 s ⟨hnoisy, hquiet⟩
    rw [clearNoisy_of_quiet hnoisy hquiet]
    refine ⟨by simp, by simp, ?_⟩
    exact ((modChan_frame s ch _).append (repick_frame _)).only_settle_of s0 (by decide)
  case standstill =>
    intro ch hch
    refine .of_settle (standStill ch) (fun τ s _ => exec_standstill hch) ?_
    rintro s0 s ⟨hmoving, hdue⟩
    rw [standStill_of_due hmoving hdue]
    refine ⟨by simp, by simp [bitAt_channelWord_one], by simp, by simp, fun k hk => by simp [hk], (modChan_frame s ch _).only_settle s0⟩
  case pulse =>
    refine .of_settle emuPulse (fun τ s _ => exec_emulationPulse) ?_
    rintro s0 s ⟨hmode, hdrives, hruns, hrate, hdue, hslow⟩
    rw [emuPulse_of_single hmode hdrives hruns hrate hdue hslow]
    refine ⟨by simp, by simp, by simp, by simp, fun k hk => by simp [hk], ?_⟩
    exact ((modOdo_frame s _).append (modFo_frame _ 14 _)).only_settle s0
  case dropped =>
    intro l
    refine .of_settle emuPulse (fun τ s _ => exec_emulationPulse) ?_
    rintro s0 s ⟨hdrives, hruns, hrate, hdue, hlast, hfast⟩
    rw [emuPulse_of_fast hdrives hruns hrate hdue hlast hfast]
    cases hclamped : s.odo.emuClamped with
    | true => exact ⟨by simp, by simp, by simp, (modOdo_frame s _).only_settle s0⟩
    | false =>
      refine ⟨by simp, by simp, fun _ => ?_, ?_⟩
      · exact ((raised_modOdo _ _ _ _ _ _ _).1 (raised_fault 203 0 0 1 0 _)).settle s0
      · exact ((modOdo_frame s _).append (fault_frame_own rfl 0 0 1 0 _)).only_settle_of s0 (by decide)

end Sys2Proof.Machine
end

section
/-! The event controller: what asserting sources, claims and the end of a step leave of its counts, queues and records in service
(R462 to R474). -/

namespace Sys2Proof.Machine

/-! ## What the operations of the event controller keep -/

/-- A target to which records were only added. -/
structure EvtTarget.Grows (x y : EvtTarget) : Prop where
  count : y.count = x.count
  timeUs : y.timeUs = x.timeUs
  running : y.running = x.running
  claimed : y.claimed = x.claimed
  queue : x.queue <+: y.queue

theorem EvtTarget.Grows.refl (x : EvtTarget) : x.Grows x := ⟨rfl, rfl, rfl, rfl, [], List.append_nil _⟩

theorem EvtTarget.Grows.trans {x y z : EvtTarget} (h : x.Grows y) (k : y.Grows z) : x.Grows z :=
  ⟨k.count.trans h.count, k.timeUs.trans h.timeUs, k.running.trans h.running, k.claimed.trans h.claimed, h.queue.trans k.queue⟩

/-- What no operation of the event controller undoes: assertions stay counted, and no target's COUNT and TIME change. -/
structure EventsKept (s t : State) : Prop where
  asserted : ∀ n, (s.src n).delivered + (s.src n).lost ≤ (t.src n).delivered + (t.src n).lost
  coalescing : ∀ k, (t.tgt k).count = (s.tgt k).count ∧ (t.tgt k).timeUs = (s.tgt k).timeUs

/-- Sources have asserted, and nothing has been claimed or acknowledged. -/
structure EventsGrow (s t : State) : Prop where
  asserted : ∀ n, (s.src n).delivered + (s.src n).lost ≤ (t.src n).delivered + (t.src n).lost
  targets : ∀ k, (s.tgt k).Grows (t.tgt k)
  hqRd : t.events.hqRd = s.events.hqRd

theorem EventsKept.trans {s t u : State} (h : EventsKept s t) (k : EventsKept t u) : EventsKept s u where
  asserted n := (h.asserted n).trans (k.asserted n)
  coalescing j := ⟨(k.coalescing j).1.trans (h.coalescing j).1, (k.coalescing j).2.trans (h.coalescing j).2⟩

theorem EventsGrow.kept {s t : State} (h : EventsGrow s t) : EventsKept s t :=
  ⟨h.asserted, fun k => ⟨(h.targets k).count, (h.targets k).timeUs⟩⟩

theorem EventsGrow.trans {s t u : State} (h : EventsGrow s t) (k : EventsGrow t u) : EventsGrow s u :=
  ⟨fun n => (h.asserted n).trans (k.asserted n), fun j => (h.targets j).trans (k.targets j), k.hqRd.trans h.hqRd⟩

theorem EventsGrow.of_banks {s t : State} (hsources : t.events.sources = s.events.sources)
    (htargets : t.events.targets = s.events.targets) (hread : t.events.hqRd = s.events.hqRd) : EventsGrow s t where
  asserted n := by simp only [State.src, hsources]; exact le_rfl
  targets k := by simp only [State.tgt, htargets]; exact .refl _
  hqRd := hread

theorem EventsGrow.of_events {s t : State} (h : t.events = s.events) : EventsGrow s t := .of_banks (by rw [h]) (by rw [h]) (by rw [h])

theorem EventsGrow.refl (s : State) : EventsGrow s s := .of_events rfl

theorem EventsGrow.foldl {α : Type} {f : State → α → State} (h : ∀ s a, EventsGrow s (f s a)) (l : List α) (s : State) :
    EventsGrow s (l.foldl f s) := by
  induction l generalizing s with
  | nil => exact .refl s
  | cons a r ih => exact (h s a).trans (ih (f s a))

theorem modSrc_grows (s : State) (n : Nat) {f : EvtSource → EvtSource}
    (hf : ∀ x, x.delivered + x.lost ≤ (f x).delivered + (f x).lost) : EventsGrow s (s.modSrc n f) where
  asserted j := by
    by_cases hj : j = n
    · subst hj; simpa using hf _
    · simp [hj]
  targets k := .refl _
  hqRd := rfl

theorem modTgt_grows (s : State) (k : Nat) {f : EvtTarget → EvtTarget} (hf : ∀ x : EvtTarget, x.Grows (f x)) :
    EventsGrow s (s.modTgt k f) where
  asserted j := le_rfl
  targets j := by
    by_cases hj : j = k
    · subst hj; simpa using hf _
    · simpa [hj] using EvtTarget.Grows.refl _
  hqRd := rfl

theorem modTgt_kept (s : State) (k : Nat) {f : EvtTarget → EvtTarget} (hf : ∀ x, (f x).count = x.count ∧ (f x).timeUs = x.timeUs) :
    EventsKept s (s.modTgt k f) where
  asserted j := le_rfl
  coalescing j := by
    by_cases hj : j = k
    · subst hj; simpa using hf _
    · simp [hj]

theorem modEvents_grows (s : State) {f : Events → Events} (hsources : (f s.events).sources = s.events.sources)
    (htargets : (f s.events).targets = s.events.targets) (hread : (f s.events).hqRd = s.events.hqRd) :
    EventsGrow s (s.modEvents f) := .of_banks hsources htargets hread

theorem modEvents_kept (s : State) {f : Events → Events} (hsources : (f s.events).sources = s.events.sources)
    (htargets : (f s.events).targets = s.events.targets) : EventsKept s (s.modEvents f) where
  asserted n := le_of_eq (by rw [State.src, State.src, State.modEvents_events_self, hsources])
  coalescing k := by rw [State.tgt, State.tgt, State.modEvents_events_self, htargets]; exact ⟨rfl, rfl⟩

/-! ## Assertions (R462 to R466, R474) -/

theorem modSrc_asserted (s : State) (n : Nat) {f : EvtSource → EvtSource}
    (hf : ∀ x, x.delivered + x.lost < (f x).delivered + (f x).lost) : Asserted n s (s.modSrc n f) := by
  simpa [Asserted] using hf (s.src n)

theorem Asserted.kept {n : Nat} {s t u : State} (h : Asserted n s t) (k : EventsKept t u) : Asserted n s u :=
  lt_of_lt_of_le h (k.asserted n)

/-- A record is counted as delivered or lost by its source; its target's queue takes it, or counts it as dropped. -/
theorem writeRecord_counts (n p : Nat) (late : Bool) (time : Nat) (s : State) : ∃ f : EvtSource → EvtSource,
    (∀ x, x.delivered + x.lost < (f x).delivered + (f x).lost) ∧ EventsGrow (s.modSrc n f) (writeRecord n p late time s) := by
  unfold writeRecord
  simp only
  split
  · exact ⟨_, fun x => Nat.lt_succ_self _, modTgt_grows _ _ fun x => ⟨rfl, rfl, rfl, rfl, [], List.append_nil _⟩⟩
  · refine ⟨fun x => { x with delivered := x.delivered + 1, inService := true, payload := p },
      fun x => Nat.add_lt_add_right (Nat.lt_succ_self _) _, ?_⟩
    split
    · refine .trans (modTgt_grows _ _ ?_) (modEvents_grows _ rfl rfl rfl)
      exact fun x => ⟨rfl, rfl, rfl, rfl, ⟨_, rfl⟩⟩
    · exact modTgt_grows _ _ fun x => ⟨rfl, rfl, rfl, rfl, ⟨_, rfl⟩⟩

theorem writeRecord_grows (n p : Nat) (late : Bool) (time : Nat) (s : State) : EventsGrow s (writeRecord n p late time s) :=
  let ⟨_, hcounts, hgrows⟩ := writeRecord_counts n p late time s
  (modSrc_grows s n fun x => (hcounts x).le).trans hgrows

theorem writeRecord_asserted (n p : Nat) (late : Bool) (time : Nat) (s : State) : Asserted n s (writeRecord n p late time s) :=
  let ⟨_, hcounts, hgrows⟩ := writeRecord_counts n p late time s
  (modSrc_asserted s n hcounts).kept hgrows.kept

theorem assertSource_grows (n p : Nat) (late : Bool) (time : Nat) (s : State) : EventsGrow s (assertSource n p late time s) := by
  unfold assertSource
  simp only
  split
  · exact modSrc_grows s n fun x => Nat.le_succ _
  · exact writeRecord_grows n p late time s

theorem edgeAt_grows (time n inst code sev : Nat) (late : Bool) (s : State) : EventsGrow s (edgeAt time n inst code sev late s) := by
  unfold edgeAt
  split
  · split
    · exact .of_events rfl
    · exact modSrc_grows s n fun x => Nat.le_succ _
  · exact assertSource_grows _ _ _ _ _

theorem edge_grows (n inst code : Nat) (s : State) : EventsGrow s (edge n inst code s) := edgeAt_grows _ _ _ _ _ _ _

theorem setLevel_grows (n p : Nat) (on : Bool) (s : State) : EventsGrow s (setLevel n p on s) := by
  unfold setLevel
  simp only
  split
  · exact modSrc_grows s n fun x => le_rfl
  · split
    · exact .refl s
    · have hactive := modSrc_grows s n (f := fun x => { x with active := true, payload := p }) fun x => le_rfl
      split
      · exact hactive
      · exact hactive.trans (assertSource_grows _ _ _ _ _)

theorem fault_grows (n inst code sev ctx : Nat) (s : State) : EventsGrow s (fault n inst code sev ctx s) := by
  unfold fault
  simp only
  split
  · exact edgeAt_grows _ _ _ _ _ _ _
  · exact (edgeAt_grows _ _ _ _ _ _ _).trans (.of_events rfl)

/-- While the controller acts, an assertion is delivered or lost; while it is stopped, the edge of a source that no power die owns is
lost (R474, R478). -/
theorem edge_asserted {n : Nat} (hown : dieOfSource n = none) (inst code : Nat) (s : State) : Asserted n s (edge n inst code s) := by
  have hlost : Asserted n s (s.modSrc n fun x => { x with lost := x.lost + 1 }) := modSrc_asserted s n fun x => Nat.lt_succ_self _
  unfold edge edgeAt assertSource
  simp only [hown]
  split
  · exact hlost
  · split
    · exact hlost
    · exact writeRecord_asserted _ _ _ _ _

theorem SameExcept.isobusLink {bs : List Bank} {s t : State} (h : SameExcept bs s t)
    (hbanks : .start ∉ bs ∧ .cfg ∉ bs) : t.isobusLink = s.isobusLink := by
  have hstart : t.start = s.start := h .start hbanks.1
  have hcfg : t.cfg = s.cfg := h .cfg hbanks.2
  rw [State.isobusLink, State.isobusLink, hstart, hcfg]

/-! ## Claims and acknowledgements (R468, R469) -/

/-- After a claim, level sources whose records were dropped may assert again (R466). -/
theorem claimRecords_grows (k n : Nat) (s : State) : EventsGrow
    (s.modTgt k fun x =>
      { x with queue := x.queue.drop n, claimed := x.claimed ++ (s.tgt k).queue.take n,
               running := max x.running (((s.tgt k).queue.take n).foldl (fun m r => max m r.level) 0),
               redo := if ((s.tgt k).queue.take n).isEmpty then x.redo else [] })
    (claimRecords k n s) := by
  unfold claimRecords
  simp only
  split
  · exact .refl _
  · refine .foldl (fun s n => ?_) _ _
    split
    · exact assertSource_grows _ _ _ _ _
    · exact .refl s

@[simp] theorem claimRecords_isobusLink (k n : Nat) (s : State) : (claimRecords k n s).isobusLink = s.isobusLink :=
  (claimRecords_frame k n s).isobusLink (by decide)

theorem claimRecords_kept (k n : Nat) (s : State) : EventsKept s (claimRecords k n s) :=
  .trans (modTgt_kept s k fun _ => by exact ⟨rfl, rfl⟩) (claimRecords_grows k n s).kept

/-- After an acknowledgement, active level sources assert again. -/
theorem acknowledge_grows (k restore : Nat) (s : State) : EventsGrow
    (s.modTgt k fun x =>
      { x with claimed := x.claimed.filter (fun r => decide (r.level ≤ restore)), running := min x.running restore })
    (acknowledge k restore s) := by
  unfold acknowledge
  simp only
  refine .foldl (fun s r => ?_) _ _
  have hended := modSrc_grows s r.source (f := fun x => { x with inService := false }) fun x => le_rfl
  split
  · split
    · exact hended.trans (assertSource_grows _ _ _ _ _)
    · exact hended.trans (modSrc_grows _ _ fun x => le_rfl)
  · exact hended

@[simp] theorem acknowledge_isobusLink (k restore : Nat) (s : State) : (acknowledge k restore s).isobusLink = s.isobusLink :=
  (acknowledge_frame k restore s).isobusLink (by decide)

/-! ## The end of a step -/

theorem closeFault_grows (cls inst : Nat) (s : State) : EventsGrow s (closeFault cls inst s) := by
  unfold closeFault
  simp only
  split
  · exact .refl s
  · exact EventsGrow.trans (t := s.modFaults _) (.of_events rfl) (edge_grows 246 cls 0 _)

theorem closeCleared_grows (s : State) : EventsGrow s (closeCleared s) := by
  refine .foldl (fun s f => ?_) _ s
  split
  · exact closeFault_grows _ _ s
  · exact .refl s

theorem ringLevels_grows (s : State) : EventsGrow s (ringLevels s) := by
  unfold ringLevels
  split
  · exact .refl s
  · refine .foldl (fun s n => ?_) _ s
    simp only
    split_ifs
    · exact .refl s
    · exact setLevel_grows _ _ _ s

theorem gatewayLevels_grows (s : State) : EventsGrow s (gatewayLevels s) := by
  unfold gatewayLevels
  split
  · exact .refl s
  · refine .foldl (fun s n => ?_) _ s
    simp only
    split_ifs
    · exact .refl s
    · exact setLevel_grows _ _ _ s

/-- The signals are the only thing of a target that the end of a step sets anew (R470). -/
theorem signals_grows (s : State) : EventsGrow s (signals s) := by
  unfold signals
  split
  · exact .refl s
  · refine ⟨fun n => le_rfl, fun k => ?_, rfl⟩
    have htgt : (s.modEvents fun e =>
        { e with targets := e.targets.map fun p => (p.1, { p.2 with ne := signalOf p.2 s.devtime }) }).tgt k
        = { s.tgt k with ne := signalOf (s.tgt k) s.devtime } :=
      tget_map s.events.targets {} (fun _ x => { x with ne := signalOf x s.devtime }) k rfl
    rw [htgt]
    exact ⟨rfl, rfl, rfl, rfl, [], List.append_nil _⟩

theorem sendIsobus_grows (c kind course : Nat) (bs : List Byte) (s : State) : EventsGrow s (sendIsobus c kind course bs s) :=
  .of_events (sendIsobus_frame c kind course bs s .events (by decide))

theorem isobusRecords_kept (s : State) : EventsKept s (isobusRecords s) := by
  unfold isobusRecords
  split
  · exact (EventsGrow.refl s).kept
  · split
    · exact ((((claimRecords_kept 9 _ s).trans (modTgt_kept _ 9 (by simp))).trans (modEvents_kept _ rfl rfl)).trans
        (sendIsobus_grows _ _ _ _ _).kept).trans (signals_grows _).kept
    · exact (EventsGrow.refl s).kept

/-- The state at the end of a step before the host's records go out over ISOBUS (R407). -/
def levelsFollow (s : State) : State := signals (gatewayLevels (ringLevels (closeCleared (tokenWatch (controlChange s)))))

theorem levelsFollow_grows (s : State) : EventsGrow s (levelsFollow s) := by
  have hwatch : (tokenWatch (controlChange s)).events = s.events :=
    (tokenWatch_frame _ .events (by decide)).trans (controlChange_frame s .events (by decide))
  exact (EventsGrow.of_events hwatch).trans ((closeCleared_grows _).trans ((ringLevels_grows _).trans
    ((gatewayLevels_grows _).trans (signals_grows _))))

theorem settle_events (s0 s : State) : (settle s0 s).events = (isobusRecords (levelsFollow s)).events := by
  simp only [settle, levelsFollow, apply_ite State.events, State.modHost_events, ite_self]

theorem levelsFollow_isobusLink (s : State) : (levelsFollow s).isobusLink = s.isobusLink := by
  unfold levelsFollow
  rw [(signals_frame _).isobusLink (by decide), (gatewayLevels_frame _).isobusLink (by decide),
    (ringLevels_frame _).isobusLink (by decide), (closeCleared_frame _).isobusLink (by decide),
    (tokenWatch_frame _).isobusLink (by decide), (controlChange_frame s).isobusLink (by decide)]

/-- The end of a step keeps what was asserted, whatever it sends and claims itself. -/
theorem settle_kept (s0 s : State) : EventsKept s (settle s0 s) :=
  ((levelsFollow_grows s).kept.trans (isobusRecords_kept _)).trans (EventsGrow.of_events (settle_events s0 s)).kept

/-- Without a host on ISOBUS the end of a step claims nothing (R407). -/
theorem settle_grows (s0 : State) {s : State} (hlink : s.isobusLink = none) : EventsGrow s (settle s0 s) := by
  have hrecords : isobusRecords (levelsFollow s) = levelsFollow s := by
    simp [isobusRecords, levelsFollow_isobusLink, hlink]
  exact (levelsFollow_grows s).trans (.of_events (by rw [settle_events, hrecords]))

end Sys2Proof.Machine
end

section
/-! What turning outputs off may touch: the credits, slots and records of valve units, switch channels and field outputs, and the loops
that follow them (R223, R238, R249, R262, R290 to R294, R394). -/

namespace Sys2Proof.Machine

theorem SameExcept.ite {bs : List Bank} {s t u : State} {p : Prop} [Decidable p] (h : SameExcept bs s t) (k : SameExcept bs s u) :
    SameExcept bs s (if p then t else u) := by
  split
  · exact h
  · exact k

/-! ## The recorder and the ledger -/

theorem accumulate_frame (f : RecRecord → RecRecord) (s : State) : SameExcept [.recorder] s (accumulate f s) := modRec_frame s _

theorem offerOne_frame (q inst : Nat) (v : Int) (s : State) : SameExcept [.recorder] s (offerOne q inst v s) := accumulate_frame _ s

theorem credit_frame (reserved : Bool) (s : State) (c : Charge) : SameExcept [.ledger] s (credit reserved s c) := by
  unfold credit
  simp only
  exact .ite (modLedger_frame s _) ((modLedger_frame s _).trans (modLedger_frame _ _))

theorem ledgerRelease_frame (reserved : Bool) (cs : List Charge) (s : State) : SameExcept [.ledger] s (ledgerRelease reserved cs s) :=
  .foldl _ (credit_frame reserved) cs s

theorem ledgerMove_frame (toDrawing : Bool) (cs : List Charge) (s : State) : SameExcept [.ledger] s (ledgerMove toDrawing cs s) :=
  .foldl _ (fun s _ => modLedger_frame s _) cs s

/-! ## Charges and slots of valve units -/

theorem drawBase_frame (u : Nat) (toDrawing : Bool) (s : State) : SameExcept [.units, .ledger] s (drawBase u toDrawing s) := by
  unfold drawBase
  simp only
  split
  · exact .refl _ s
  · exact (ledgerMove_frame _ _ s).append (modUnit_frame _ _ _) |>.mono (by decide)

theorem releaseBase_frame (u : Nat) (s : State) : SameExcept [.units, .clusters, .ledger] s (releaseBase u s) := by
  unfold releaseBase
  simp only
  have hreleased := fun reserved cs f => (ledgerRelease_frame reserved cs s).append (modUnit_frame _ u f)
  refine .ite (.refl _ s) (.ite ((hreleased _ _ _).mono (by decide)) ?_)
  exact (hreleased _ _ _).append (ledgerRelease_frame _ _ _) |>.append (modCluster_frame _ _ _) |>.mono (by decide)

theorem takeSlot_frame (u : Nat) (s : State) : SameExcept [.clusters, .ledger] s (takeSlot u s) :=
  (ledgerMove_frame _ _ s).append (modLedger_frame _ _) |>.append (modCluster_frame _ _ _) |>.mono (by decide)

theorem freeSlot_frame (u : Nat) (s : State) : SameExcept [.clusters, .ledger] s (freeSlot u s) := by
  unfold freeSlot
  simp only
  split
  · exact (ledgerMove_frame _ _ s).append (credit_frame _ _ _) |>.append (modCluster_frame _ _ _) |>.mono (by decide)
  · exact .refl _ s

theorem updateRail_frame (c : Nat) (s : State) : SameExcept [.clusters] s (updateRail c s) := modCluster_frame s c _

theorem settleBase_frame (u : Nat) (s : State) : SameExcept [.units, .clusters, .ledger] s (settleBase u s) := by
  unfold settleBase
  simp only
  split
  · exact .refl _ s
  · split
    · exact (drawBase_frame u false s).mono (by decide)
    · exact releaseBase_frame u s

/-! ## Valve units -/

theorem enterRise_frame (u : Nat) (s : State) : SameExcept [.units, .clusters, .ledger, .recorder] s (enterRise u s) :=
  (drawBase_frame u true s).append (takeSlot_frame u _) |>.append (modUnit_frame _ u _)
    |>.append (modUnit_frame _ u _) |>.append (addTotal_frame _ _ _) |>.append (updateRail_frame _ _) |>.mono (by decide)

theorem learnWait_frame (c w : Nat) (s : State) : SameExcept [.clusters] s (learnWait c w s) := modCluster_frame s c _

theorem passSlot_frame (c : Nat) (us : List Nat) (s : State) :
    SameExcept [.units, .clusters, .ledger, .recorder] s (passSlot c us s) := by
  induction us generalizing s with
  | nil => exact (modCluster_frame s c _).mono (by decide)
  | cons u rest ih =>
    have hleft := (learnWait_frame c (s.devtime - (s.unit u).drive.askedAt) s).append
      (modCluster_frame _ c fun x => { x with queue := rest })
    unfold passSlot
    simp only
    split
    · refine SameExcept.trans ?_ (ih _)
      exact hleft.append (drawBase_frame u true _) |>.append (modUnit_frame _ u _) |>.append (modUnit_frame _ u _)
        |>.append (settleBase_frame u _) |>.mono (by decide)
    · split
      · exact hleft.append (modUnit_frame _ u _) |>.append (modUnit_frame _ u _) |>.append (enterRise_frame u _)
          |>.mono (by decide)
      · exact hleft.append (modUnit_frame _ u _) |>.append (enterRise_frame u _) |>.mono (by decide)

theorem yieldSlot_frame (u : Nat) (s : State) : SameExcept [.units, .clusters, .ledger, .recorder] s (yieldSlot u s) := by
  unfold yieldSlot
  simp only
  split
  · exact (freeSlot_frame u s).append (passSlot_frame _ _ _) |>.append (updateRail_frame _ _) |>.mono (by decide)
  · exact .refl _ s

theorem endHold_frame (u ppm : Nat) (s : State) : SameExcept [.units] s (endHold u ppm s) := by
  unfold endHold
  simp only
  split
  · exact .refl _ s
  · split <;> exact modUnit_frame s u _

theorem turnOff_frame (u : Nat) (s : State) : SameExcept [.units, .clusters, .ledger, .recorder] s (turnOff u s) :=
  (endHold_frame u _ s).append (modUnit_frame _ u _) |>.append (modUnit_frame _ u _)
    |>.append (yieldSlot_frame u _) |>.append (settleBase_frame u _) |>.append (updateRail_frame _ _)
    |>.mono (by decide)

theorem regrid_frame (c : Nat) (s : State) : SameExcept [.units] s (regrid c s) :=
  .foldl _ (fun s u => modUnit_frame s u _) _ s

theorem reportFret_frame (u : Nat) (f : Fret) (outcome : Nat) (s : State) : SameExcept [.can, .zither] s (reportFret u f outcome s) := by
  unfold reportFret
  split
  · exact sendZ_frame _ _ _ s
  · exact .refl _ s

theorem cancelFrets_frame (u : Nat) (p : Fret → Bool) (s : State) :
    SameExcept [.units, .clusters, .ledger, .can, .zither] s (cancelFrets u p s) := by
  unfold cancelFrets
  simp only
  split
  · exact .refl _ s
  · have hreported := fun f => (modUnit_frame s u f).append
      (SameExcept.foldl _ (fun s f => reportFret_frame u f 3 s) ((s.unit u).frets.filter fun f => f.live && p f) _)
    split
    · exact (hreported _).append (releaseBase_frame u _) |>.mono (by decide)
    · exact (hreported _).mono (by decide)

theorem leaveQueue_frame (u : Nat) (s : State) : SameExcept [.clusters] s (leaveQueue u s) := modCluster_frame s _ _

theorem forceOff_frame (u : Nat) (s : State) :
    SameExcept [.units, .clusters, .ledger, .recorder, .can, .zither] s (forceOff u s) := by
  have hleft := (cancelFrets_frame u (fun _ => true) s).append (leaveQueue_frame u _)
  have hreleased : ∀ {t}, SameExcept [.units, .clusters, .ledger, .recorder, .can, .zither] s t → ∀ f,
      SameExcept [.units, .clusters, .ledger, .recorder, .can, .zither] s (releaseBase u (t.modDrive u f)) :=
    fun ht f => ht.append (modUnit_frame _ u _) |>.append (releaseBase_frame u _) |>.mono (by decide)
  unfold forceOff
  simp only
  refine SameExcept.trans (.ite (((hreleased ?phase _).append (regrid_frame _ _)).mono (by decide)) (hreleased ?phase _))
    ((updateRail_frame _ _).mono (by decide))
  case phase =>
    split
    · exact (hleft.append (turnOff_frame u _)).mono (by decide)
    · exact (hleft.append (turnOff_frame u _)).mono (by decide)
    · exact (hleft.append (turnOff_frame u _)).mono (by decide)
    · exact (hleft.append (turnOff_frame u _)).mono (by decide)
    · exact hleft.append (modUnit_frame _ u _) |>.append (modUnit_frame _ u _) |>.mono (by decide)
    · exact (hleft.append (modUnit_frame _ u _)).mono (by decide)
    · exact hleft.mono (by decide)
    · exact hleft.mono (by decide)

/-! ## Switch channels and field outputs -/

theorem releaseSw_frame (n : Nat) (s : State) : SameExcept [.ledger, .switches] s (releaseSw n s) :=
  (ledgerRelease_frame _ _ s).append (modSw_frame _ n _)

theorem releaseVent_frame (n : Nat) (s : State) : SameExcept [.switches, .vents] s (releaseVent n s) :=
  (modVent_frame s _ _).append (modSw_frame _ n _) |>.mono (by decide)

theorem countSw_frame (n i k : Nat) (s : State) : SameExcept [.switches] s (countSw n i k s) := modSw_frame s n _

theorem clampEnergy_frame (n : Nat) (cs : Clamps) (s : State) : SameExcept [.switches, .vents, .recorder] s (clampEnergy n cs s) := by
  have hcounted := fun f g k => (modVent_frame s (swClusterOf n) f).append (modSw_frame _ n g) |>.append (countSw_frame n 7 k _)
    |>.mono (cs := [.switches, .vents, .recorder]) (by decide)
  unfold clampEnergy
  simp only
  exact (SameExcept.ite (hcounted _ _ _) (((hcounted _ _ _).append (offerOne_frame _ _ _ _)).mono (by decide))).append
    (accumulate_frame _ _) |>.mono (by decide)

theorem swLocked_frame (n reason : Nat) (cleared : Bool) (need : Nat) (free : Int) (eta : Nat) (s : State) :
    SameExcept [.courses, .events] s (swLocked n reason cleared need free eta s) := notify_frame _ _ _ s

theorem lockSw_frame (n cause : Nat) (s : State) : SameExcept [.switches, .courses, .events] s (lockSw n cause s) :=
  (modSw_frame s n _).append (swLocked_frame _ _ _ _ _ _ _)

theorem judgeClamp_frame (n : Nat) (cs : Clamps) (s : State) :
    SameExcept [.switches, .courses, .events, .dies, .faults] s (judgeClamp n cs s) := by
  have hlocked := fun code ctx cause => (fault_frame (160 + n) n code 3 ctx s).append (lockSw_frame n cause _)
    |>.mono (cs := [.switches, .courses, .events, .dies, .faults]) (by decide)
  unfold judgeClamp
  exact .ite (hlocked _ _ _) (.ite (hlocked _ _ _) (.refl _ s))

theorem cutSw_frame (n : Nat) (next : SwState) (cs : Clamps) (s : State) :
    SameExcept [.ledger, .switches, .vents, .recorder, .courses, .events, .dies, .faults] s (cutSw n next cs s) :=
  (releaseSw_frame n s).append (releaseVent_frame n _) |>.append (clampEnergy_frame n cs _)
    |>.append (modSw_frame _ n _) |>.append (judgeClamp_frame n cs _) |>.mono (by decide)

theorem offSw_frame (n : Nat) (cs : Clamps) (s : State) :
    SameExcept [.ledger, .switches, .vents, .recorder, .courses, .events, .dies, .faults] s (offSw n cs s) := by
  unfold offSw
  split
  · exact cutSw_frame n .off cs s
  · exact cutSw_frame n .off cs s
  · exact (modSw_frame s n _).mono (by decide)
  · exact (modSw_frame s n _).mono (by decide)
  · exact .refl _ s
  · exact .refl _ s
  · exact .refl _ s

theorem offFo_frame (o : Nat) (s : State) : SameExcept [.ledger, .outputs] s (offFo o s) := by
  unfold offFo
  refine .ite ?_ (.refl _ s)
  exact (ledgerRelease_frame _ _ s).append (modFo_frame _ o _) |>.append (modFo_frame _ o _) |>.mono (by decide)

theorem leaveExhausted_frame (n : Nat) (s : State) : SameExcept [.courses, .events] s (leaveExhausted n s) :=
  .ite (swLocked_frame _ _ _ _ _ _ s) (.refl _ s)

/-! ## All outputs off (R394) -/

/-- The banks that an output's turning off may touch, whatever the output is. -/
def offBanks : List Bank :=
  [.units, .clusters, .ledger, .switches, .vents, .outputs, .recorder, .courses, .events, .dies, .faults, .can, .zither]

theorem offLine_frame (cs : Clamps) (s : State) (l : Line) : SameExcept offBanks s (offLine cs s l) := by
  cases l with
  | unit u => exact (forceOff_frame u s).mono (by decide)
  | switch n => exact .ite (.refl _ s) ((offSw_frame n cs s).mono (by decide))
  | fo o => exact (offFo_frame o s).mono (by decide)
  | fi i => exact .refl _ s
  | ai a => exact .refl _ s

theorem offExhausted_frame (s : State) : SameExcept [.switches, .courses, .events] s (offExhausted s) :=
  .foldl _ (fun s (p : Nat × SwitchCfg) =>
    .ite (((leaveExhausted_frame p.1 s).append (modSw_frame _ p.1 _)).mono (by decide)) (.refl _ s)) s.cfg.switches s

/-! ## Loops (R262, R264) -/

theorem trims_frame (s : State) (x : Tbl Nat) : SameExcept [.rates] s { s with trims := x } := by
  intro b hb; cases b <;> simp_all [Bank.same]

/-- While outputs are disabled the device drives none of them for a loop; a trim is no output. -/
theorem applyLoop_frame {s : State} (hdisabled : s.host.outputsEnabled = false) (l : Nat) : SameExcept [.rates] s (applyLoop l s) := by
  have hdriven : ∀ o, drivable s o = false := fun o => by simp [drivable, enabled, hdisabled]
  unfold applyLoop
  simp only [hdriven, Bool.false_and, Bool.false_eq_true, if_false]
  split
  · exact .refl _ s
  · exact .refl _ s
  · exact .refl _ s
  · exact trims_frame s _
  · exact .refl _ s
  · exact .refl _ s

theorem setMode_frame {s : State} (hdisabled : s.host.outputsEnabled = false) (l : Nat) (m : LoopMode) :
    SameExcept [.loops, .rates] s (setMode l m s) := by
  unfold setMode
  exact .ite ((modLoop_frame s l _).append (applyLoop_frame (s := s.modLoop l _) hdisabled l))
    ((modLoop_frame s l _).mono (by decide))

theorem SameExcept.outputsEnabled {bs : List Bank} {s t : State} (h : SameExcept bs s t) (hb : .session ∉ bs) :
    t.host.outputsEnabled = s.host.outputsEnabled := registers_outputsEnabled (h .session hb)

theorem loopsOff_frame {s : State} (hdisabled : s.host.outputsEnabled = false) : SameExcept [.loops, .rates] s (loopsOff s) := by
  unfold loopsOff
  generalize s.cfg.loops = ls
  induction ls generalizing s with
  | nil => exact .refl _ s
  | cons p r ih =>
    have hoff := setMode_frame hdisabled p.1 .off
    exact hoff.trans (ih ((hoff.outputsEnabled (by decide)).trans hdisabled))

theorem followOutput_frame (l : Nat) (s : State) : SameExcept [.loops, .events, .faults] s (followOutput l s) := by
  unfold followOutput
  exact .ite (.refl _ s) (.ite ((modLoop_frame s l _).append (fault_frame_own rfl _ _ _ _ _))
    ((modLoop_frame s l _).mono (by decide)))

theorem followLoops_frame (s : State) : SameExcept [.loops, .events, .faults] s (followLoops s) :=
  .foldl _ (fun s (p : Nat × LoopCfg) => followOutput_frame p.1 s) s.cfg.loops s

/-- Disabling turns every output off and then clears OUTPUTS_ENABLED; the loops follow (R394). -/
theorem disableOutputs_frame (cs : Clamps) (s : State) : ∃ t, SameExcept offBanks s t
    ∧ SameExcept [.loops, .rates] (t.modHost fun h => { h with outputsEnabled := false }) (disableOutputs cs s) :=
  ⟨_, (SameExcept.foldl _ (fun s l => .ite (.refl _ s) (offLine_frame cs s l)) (usedOutputs s) s).append
    (offExhausted_frame _) |>.mono (by decide),
    loopsOff_frame rfl⟩

end Sys2Proof.Machine
end

section
/-! The host window: what a transaction and a write of its own row do, register by register (R374 to R382, R394 to R397, R469). -/

namespace Sys2Proof.Machine

/-! ## The host's registers in frames -/

theorem modHost_frame (s : State) {f : HostSt → HostSt} (hcourses : (f s.host).courses = s.host.courses)
    (hseq : (f s.host).statusSeq = s.host.statusSeq) : SameExcept [.session] s (s.modHost f) := by
  intro b hb; cases b <;> simp_all [Bank.same]

theorem SameExcept.host {bs : List Bank} {s t : State} (h : SameExcept bs s t)
    (hbanks : .session ∉ bs ∧ .courses ∉ bs ∧ .statusSeq ∉ bs) : t.host = s.host := by
  obtain ⟨hsession, hcourses, hseq⟩ := hbanks
  have hregisters : t.host.registers = s.host.registers := h .session hsession
  have hcourses : t.host.courses = s.host.courses := h .courses hcourses
  have hseq : t.host.statusSeq = s.host.statusSeq := h .statusSeq hseq
  calc t.host = { t.host.registers with courses := t.host.courses, statusSeq := t.host.statusSeq } := rfl
    _ = s.host := by rw [hregisters, hcourses, hseq]; rfl

@[simp] theorem followLoops_host (s : State) : (followLoops s).host = s.host := (followLoops_frame s).host (by decide)

theorem followLoops_grows (s : State) : EventsGrow s (followLoops s) := by
  refine .foldl (fun s p => ?_) _ s
  unfold followOutput
  simp only
  split
  · exact .refl s
  · split
    · exact .trans (t := s.modLoop p.1 _) (.of_events rfl) (fault_grows _ _ _ _ _ _)
    · exact .of_events rfl

theorem registers_hmiso {a b : HostSt} (h : a.registers = b.registers) : a.hmiso = b.hmiso := by
  have hmiso := congrArg HostSt.hmiso h
  exact hmiso

@[simp] theorem settle_host_hmiso (s0 s : State) : (settle s0 s).host.hmiso = s.host.hmiso :=
  registers_hmiso (settle_registers s0 s)

/-! ## Transactions (R376, R378, R380) -/

theorem drives_frame (ws : List Nat) (s : State) : SameExcept [.session] s (drives ws s) := modHost_frame s rfl rfl

/-- The state in which a transaction that is not refused takes effect: SPI_ERR is clear, and the device has driven `ws`. -/
def answered (ws : List Nat) (s : State) : State := drives ws (s.modHost fun h => { h with spiErr := false })

theorem answered_frame (ws : List Nat) (s : State) : SameExcept [.session] s (answered ws s) :=
  (modHost_frame s rfl rfl).trans (drives_frame ws _)

@[simp] theorem answered_host (ws : List Nat) (s : State) : (answered ws s).host = { s.host with spiErr := false, hmiso := ws } := rfl

@[simp] theorem writeBlocked_answered (ws : List Nat) (s : State) (a : Nat) : writeBlocked (answered ws s) a = writeBlocked s a := rfl

@[simp] theorem answered_devtime (ws : List Nat) (s : State) : (answered ws s).devtime = s.devtime := rfl

theorem spiRefuse_frame (s : State) : SameExcept [.session, .events] s (spiRefuse s) :=
  (modHost_frame s rfl rfl).append (edge_frame_own rfl)

theorem spiRefuse_host (s : State) :
    (spiRefuse s).host = { s.host with spiErr := true, badXfers := (s.host.badXfers + 1) % 256 } :=
  (edge_frame_own (n := 24) rfl).host (by decide)

theorem spiRefuse_asserted (s : State) : Asserted 24 s (spiRefuse s) :=
  edge_asserted rfl 0 0 (s.modHost fun h => { h with spiErr := true, badXfers := (h.badXfers + 1) % 256 })

theorem latchHi_frame (s : State) : SameExcept [.session] s (latchHi s) := modHost_frame s rfl rfl

section
variable {x : Spi} {s : State}

theorem spiTransact_of_refused (hawake : awake s = true) (hrefused : spiRefused x = true) :
    spiTransact x s = drives (spiOut x s) (spiRefuse s) := by
  simp [spiTransact, hawake, hrefused]

theorem spiTransact_of_read (hawake : awake s = true) (hgood : spiRefused x = false) (hread : spiIsWrite x = false) :
    spiTransact x s = if latches x then latchHi (answered (spiOut x s) s) else answered (spiOut x s) s := by
  simp [spiTransact, hawake, hgood, hread, answered]

theorem spiTransact_of_write (hawake : awake s = true) (hgood : spiRefused x = false) (hwrite : spiIsWrite x = true) :
    spiTransact x s =
      x.words.zipIdx.foldl (fun s w => writeWord (spiAddr x + 4 * w.2) w.1.toNat s) (answered (spiOut x s) s) := by
  simp [spiTransact, hawake, hgood, hwrite, answered]

theorem spiOut_of_read (hgood : spiRefused x = false) (hread : spiIsWrite x = false) : spiOut x s =
    readOut (statusWord s) x.header ((List.range (spiCount x + 1)).map fun i => windowWord (latchHi s) (spiAddr x + 4 * i)) true := by
  simp [spiOut, hgood, hread]

theorem writeWord_coalescing (w : Nat) (hopen : writeBlocked s 40 = false) : writeWord 40 w s = writeCoalescing w s := by
  simp [writeWord, hopen]

theorem exec_registerWrite {τ : Nat} (htaking : ∀ n, n < 4 → ((s.advance τ).course n).taking = false) :
    exec (.registerWrite τ x) s = .next (settle s (followLoops (spiTransact x (s.advance τ)))) := by
  have hrow : exec (.registerWrite τ x) s = execRegisterWrite τ x s := rfl
  have hnone : [0, 1, 2, 3].find? (fun n => (s.course n).taking) = none := by
    simp only [advance_course] at htaking
    simp [htaking]
  rw [hrow, execRegisterWrite, hnone, atOut, at_next]

end

/-- A transaction that the device answers while no course takes a held message (R353, R384): `post` holds between the state at its time
and the settled end of its step. -/
theorem does_registerWrite {x : Spi} {pre : State → Prop} {post : State → State → Prop}
    (hpost : ∀ s0 s, awake s = true → pre s → post s (settle s0 (followLoops (spiTransact x s)))) :
    Does (fun τ => .registerWrite τ x) (fun s => awake s = true ∧ (∀ n, n < 4 → (s.course n).taking = false) ∧ pre s) post :=
  .of_settle (fun s => followLoops (spiTransact x s)) (fun _ _ ⟨_, htaking, _⟩ => exec_registerWrite htaking)
    fun s0 s ⟨hawake, _, hpre⟩ => hpost s0 s hawake hpre

/-! ## Writes of their own row (R360, R405, R450) -/

theorem spiGood_of_awake {s : State} (hawake : awake s = true) (f : State → State) :
    spiGood f s = f (answered [statusWord s, 0, 0] s) := by
  simp [spiGood, hawake, answered]

theorem windowWrite_of_open {a : Nat} {s : State} (hawake : awake s = true) (hopen : writeBlocked s a = false) (f : State → State) :
    windowWrite a f s = f (answered [statusWord s, 0, 0] s) := by
  simp [windowWrite, spiGood_of_awake hawake, writeBlocked_answered, hopen]

/-- A write that its address takes now does what `post` says once its effect `f` has been applied and the step has ended, whatever the
device drives meanwhile. -/
theorem Does.of_windowWrite {c : Nat → Instr} {a : Nat} {f : State → State} {pre : State → Prop} {post : State → State → Prop}
    (hrow : ∀ τ s, exec (c τ) s = at_ τ (windowWrite a f) s)
    (hpost : ∀ ws s0 s, pre s → post s (settle s0 (f (answered ws s)))) :
    Does c (fun s => awake s = true ∧ writeBlocked s a = false ∧ pre s) post := by
  refine .of_settle (windowWrite a f) (fun τ s _ => hrow τ s) fun s0 s ⟨hawake, hopen, hpre⟩ => ?_
  rw [windowWrite_of_open hawake hopen]
  exact hpost _ s0 s hpre

/-! ## Heartbeat (R395, R397) -/

theorem raised_modHost (n inst code sev : Nat) (s t : State) (f : HostSt → HostSt) :
    Raised n inst code sev (s.modHost f) t ↔ Raised n inst code sev s t := Iff.rfl

theorem Raised.unchanged {n inst code sev : Nat} {bs : List Bank} {s t u : State} (h : Raised n inst code sev s t)
    (k : SameExcept bs t u) (hfaults : .faults ∉ bs) : Raised n inst code sev s u :=
  h.mono fun _ he => (k .faults hfaults : u.faults = t.faults) ▸ he

theorem beat_same {v : Nat} {s : State} (hsame : v = s.host.beat) : beat v s = s := by simp [beat, hsame]

/-- A new value restarts the timeout; one that ends host silence offers its length to the recorder and raises HOST_RETURNED. -/
theorem beat_new {v : Nat} {s : State} (hnew : v ≠ s.host.beat) : ∃ ms : Int, beat v s =
    let s1 := s.modHost fun h => { h with beat := v, beatSeen := true, beatAt := h.beatAt.map fun _ => s.devtime }
    if s.host.silent then offerOne 12 0 ms (fault 21 0 0 1 0 (s1.modHost fun h => { h with silent := false })) else s1 :=
  ⟨_, if_neg hnew⟩

theorem beat_host {v : Nat} {s : State} (hnew : v ≠ s.host.beat) : (beat v s).host =
    { s.host with beat := v, beatSeen := true, beatAt := s.host.beatAt.map fun _ => s.devtime, silent := false } := by
  obtain ⟨ms, hbeat⟩ := beat_new hnew
  rw [hbeat]
  cases hsilent : s.host.silent with
  | false => rw [if_neg (by decide), ← hsilent]; rfl
  | true => exact ((offerOne_frame 12 0 ms _).host (by decide)).trans ((fault_frame_own rfl 0 0 1 0 _).host (by decide))

theorem beat_frame (v : Nat) (s : State) : SameExcept [.session, .recorder, .events, .faults] s (beat v s) := by
  by_cases hnew : v = s.host.beat
  · rw [beat_same hnew]; exact .refl _ s
  · obtain ⟨ms, hbeat⟩ := beat_new hnew
    have hset := modHost_frame s
      (f := fun h => { h with beat := v, beatSeen := true, beatAt := h.beatAt.map fun _ => s.devtime }) rfl rfl
    rw [hbeat]
    refine .ite ?_ (hset.mono (by decide))
    exact hset.append (modHost_frame _ rfl rfl) |>.append (fault_frame_own rfl 0 0 1 0 _) |>.append (offerOne_frame _ _ _ _)
      |>.mono (by decide)

theorem beat_raised {v : Nat} {s : State} (hnew : v ≠ s.host.beat) (hsilent : s.host.silent = true) : Raised 21 0 0 1 s (beat v s) := by
  obtain ⟨ms, hbeat⟩ := beat_new hnew
  rw [hbeat, hsilent, if_pos rfl]
  have hraised := fun f g => (raised_modHost 21 0 0 1 s _ f).1 ((raised_modHost 21 0 0 1 _ _ g).1 (raised_fault 21 0 0 1 0 _))
  exact (hraised _ _).unchanged (offerOne_frame 12 0 ms _) (by decide)

/-! ## The host queue (R381, R468) -/

theorem writeHqRd_claims {i : Nat} {s : State} (hi : i < 256) (hheld : (i + 256 - s.events.hqRd) % 256 ≤ (s.tgt 9).queue.length) :
    writeHqRd i s = claimRecords 9 ((i + 256 - s.events.hqRd) % 256) (s.modEvents fun e => { e with hqRd := i }) := by
  simp [writeHqRd, not_lt.2 hheld, Nat.mod_eq_of_lt hi]

theorem writeHqRd_ignored {i : Nat} {s : State} (hbeyond : (s.tgt 9).queue.length < (i + 256 - s.events.hqRd) % 256) :
    writeHqRd i s = s := by
  simp [writeHqRd, hbeyond]

/-! ## The statement -/

/-- Settles O18: a transaction by its three outcomes (refused, read, write), and each row of its own by the equation of its effect in the
state in which the write is answered; what the end of the step may add to the event controller is `EventsGrow`. -/
theorem windowAccesses : Obligations.WindowAccesses := by
  unfold Obligations.WindowAccesses
  refine ⟨?refused, ?read, ?coalescing, ?newBeat, ?sameBeat, ?outDisable, ?claim, ?ignored, ?acknowledge, ?devtimeLo, ?snapshot⟩
  case refused =>
    intro x
    refine does_registerWrite fun s0 s hawake hrefused => ?_
    rw [spiTransact_of_refused hawake hrefused]
    have hdriven : EventsGrow (spiRefuse s) (drives (spiOut x s) (spiRefuse s)) := .of_events rfl
    refine ⟨?_, ?_, ?_, ?_, ?_⟩
    · simp [drives, spiRefuse_host]
    · simp [drives, spiRefuse_host]
    · simp [drives, spiRefuse_host]
    · exact (spiRefuse_asserted s).kept ((hdriven.trans (followLoops_grows _)).kept.trans (settle_kept s0 _))
    · exact (((spiRefuse_frame s).append (drives_frame _ _)).append (followLoops_frame _)).only_settle_of s0 (by decide)
  case read =>
    intro x
    refine does_registerWrite fun s0 s hawake ⟨hgood, hread⟩ => ?_
    rw [spiTransact_of_read hawake hgood hread, ← spiOut_of_read hgood hread]
    refine ⟨?_, ?_, ?_⟩
    · split <;> simp [latchHi]
    · split <;> simp [latchHi]
    · exact (((answered_frame (spiOut x s) s).trans (.ite (p := latches x) (latchHi_frame _) (.refl _ _))).append
        (followLoops_frame _)).only_settle_of s0 (by decide)
  case coalescing =>
    intro x w
    refine does_registerWrite fun s0 s hawake ⟨hgood, hwrite, haddr, hwords, hopen, hnonzero⟩ => ?_
    have hwritten : spiTransact x s = writeCoalescing w.toNat (answered (spiOut x s) s) := by
      simp [spiTransact_of_write hawake hgood hwrite, hwords, haddr, writeWord_coalescing, hopen]
    rw [hwritten]
    obtain ⟨hcount, htime⟩ :=
      ((followLoops_grows (writeCoalescing w.toNat (answered (spiOut x s) s))).kept.trans (settle_kept s0 _)).coalescing 9
    refine ⟨?_, ?_, ?_, ?_⟩
    · simp [writeCoalescing]
    · rw [hcount, writeCoalescing, State.modTgt_tgt_self, if_neg hnonzero]
    · rw [htime, writeCoalescing, State.modTgt_tgt_self]
      exact Nat.mod_eq_of_lt (Nat.div_lt_of_lt_mul w.isLt)
    · exact (((answered_frame _ s).append (modTgt_frame _ 9 _)).append (followLoops_frame _)).only_settle_of s0 (by decide)
  case newBeat =>
    intro v
    refine .of_windowWrite (fun _ _ => rfl) fun ws s0 s ⟨hv, hnew, hrunning⟩ => ?_
    rw [Nat.mod_eq_of_lt hv]
    obtain ⟨b, hb⟩ := Option.isSome_iff_exists.1 hrunning
    have hhost := beat_host (s := answered ws s) hnew
    refine ⟨by simp [hhost], by simp [hhost], by simp [hhost, hb], by simp [hhost], fun hsilent => ?_, ?_⟩
    · exact (beat_raised (s := answered ws s) hnew hsilent).settle s0
    · exact ((answered_frame ws s).append (beat_frame v _)).only_settle_of s0 (by decide)
  case sameBeat =>
    refine .of_windowWrite (fun _ _ => rfl) fun ws s0 s hzero => ?_
    rw [beat_same (s := answered ws s) hzero.symm]
    exact ⟨by simp [hzero], by simp, by simp, (answered_frame ws s).only_settle s0⟩
  case outDisable =>
    intro clamps
    refine .of_settle (fun s => followLoops (windowWrite 12 (disableOutputs clamps) s)) (fun _ _ _ => rfl) ?_
    rintro s0 s ⟨hawake, hopen⟩
    rw [windowWrite_of_open hawake hopen]
    obtain ⟨u, hoff, hloops⟩ := disableOutputs_frame clamps (answered [statusWord s, 0, 0] s)
    have hbeat : u.host.beat = (answered [statusWord s, 0, 0] s).host.beat := registers_beat (hoff .session (by decide))
    have hhost := hloops.host (by decide)
    refine ⟨by simp [hhost], by simp [hhost, hbeat], ?_⟩
    exact (((((answered_frame _ s).append hoff).append (modHost_frame u rfl rfl)).append hloops).append
      (followLoops_frame _)).only_settle_of s0 (by decide)
  case claim =>
    intro i k
    refine .of_windowWrite (fun _ _ => rfl) ?_
    rintro ws s0 s ⟨hlink, hi, rfl, hheld⟩
    rw [Nat.mod_eq_of_lt hi, writeHqRd_claims (s := answered ws s) hi hheld]
    have hgrows := (claimRecords_grows 9 ((i + 256 - s.events.hqRd) % 256) ((answered ws s).modEvents fun e =>
      { e with hqRd := i })).trans (settle_grows s0 ((claimRecords_isobusLink _ _ _).trans hlink))
    obtain ⟨-, -, hrunning, hclaimed, hqueue⟩ := hgrows.targets 9
    rw [State.modTgt_tgt_self] at hrunning hclaimed hqueue
    refine ⟨hgrows.hqRd, hclaimed, hqueue, hrunning, ?_⟩
    exact ((answered_frame ws s).append ((modEvents_frame _ _).trans (claimRecords_frame 9 _ _))).only_settle_of s0 (by decide)
  case ignored =>
    intro i
    refine .of_windowWrite (fun _ _ => rfl) fun ws s0 s ⟨hlink, hi, hbeyond⟩ => ?_
    rw [Nat.mod_eq_of_lt hi, writeHqRd_ignored (s := answered ws s) hbeyond]
    have hgrows := settle_grows s0 (s := answered ws s) hlink
    obtain ⟨-, -, hrunning, hclaimed, hqueue⟩ := hgrows.targets 9
    exact ⟨hgrows.hqRd, hclaimed, hrunning, hqueue, (answered_frame ws s).only_settle s0⟩
  case acknowledge =>
    intro restore
    refine .of_windowWrite (fun _ _ => rfl) fun ws s0 s ⟨hlink, hrestore⟩ => ?_
    rw [Nat.mod_eq_of_lt hrestore]
    have hgrows := (acknowledge_grows 9 restore (answered ws s)).trans
      (settle_grows s0 ((acknowledge_isobusLink _ _ _).trans hlink))
    obtain ⟨-, -, hrunning, hclaimed, -⟩ := hgrows.targets 9
    rw [State.modTgt_tgt_self] at hrunning hclaimed
    exact ⟨hclaimed, hrunning, ((answered_frame ws s).append (acknowledge_frame 9 restore _)).only_settle_of s0 (by decide)⟩
  case devtimeLo =>
    refine .of_settle (spiGood readDevtimeLo) (fun _ _ _ => rfl) fun s0 s hawake => ?_
    rw [spiGood_of_awake hawake]
    refine ⟨by rw [settle_host_devtimeHi]; rfl, ?_⟩
    exact ((answered_frame _ s).trans ((drives_frame _ _).trans (latchHi_frame _))).only_settle s0
  case snapshot =>
    intro ns
    refine .of_windowWrite (fun _ _ => rfl) fun ws s0 s hns => ?_
    refine ⟨by simp [takeSnapshot], by simp [takeSnapshot, Nat.mod_eq_of_lt hns], by simp [takeSnapshot], ?_⟩
    exact ((answered_frame ws s).trans (modHost_frame _ rfl rfl)).only_settle s0

end Sys2Proof.Machine
end

section
/-! Gateway buffers (R433 to R440, Table 15-4): what a change of one buffer leaves of the others, what the end of a step leaves of the
CAN controllers, and TX_REQ, CANCEL and LOCK case by case. -/

namespace Sys2Proof.Machine

/-! ## One buffer and the others -/

section
variable (s : State) (n b : Nat) (f : GwBuffer → GwBuffer)

@[simp] theorem modGw_gw_self : (s.modGw n b f).gw n b = f (s.gw n b) := by simp [State.gw, State.modGw]

@[simp] theorem modGw_gw_of_ne {k : Nat} (h : k ≠ b) : (s.modGw n b f).gw n k = s.gw n k := by
  simp [State.gw, State.modGw, tget_tmod_of_ne _ _ _ h]

@[simp] theorem modGw_canOf_of_ne {k : Nat} (h : k ≠ n) : (s.modGw n b f).canOf k = s.canOf k := State.modCan_canOf_of_ne _ _ _ h

@[simp] theorem modGw_binds : ((s.modGw n b f).canOf n).binds = (s.canOf n).binds := by simp [State.modGw]

theorem modGw_frame : SameExcept [.can] s (s.modGw n b f) := modCan_frame s n _

end

/-! ## Changes of controllers that leave the gateway buffers alone -/

/-- No gateway buffer has changed, and of the controllers none but those in `changed`. -/
structure GatewaysKept (changed : Nat → Prop) (s t : State) : Prop where
  buffers : ∀ k, (t.canOf k).buffers = (s.canOf k).buffers
  others : ∀ k, ¬changed k → t.canOf k = s.canOf k

section
variable {P Q : Nat → Prop} {s t u : State}

theorem GatewaysKept.gw (h : GatewaysKept P s t) (n b : Nat) : t.gw n b = s.gw n b := by
  rw [State.gw, State.gw, h.buffers]

theorem GatewaysKept.trans (h : GatewaysKept P s t) (k : GatewaysKept P t u) : GatewaysKept P s u :=
  ⟨fun j => (k.buffers j).trans (h.buffers j), fun j hj => (k.others j hj).trans (h.others j hj)⟩

theorem GatewaysKept.mono (h : GatewaysKept P s t) (hPQ : ∀ k, P k → Q k) : GatewaysKept Q s t :=
  ⟨h.buffers, fun k hk => h.others k fun hP => hk (hPQ k hP)⟩

theorem GatewaysKept.of_frame {bs : List Bank} (h : SameExcept bs s t) (hcan : .can ∉ bs) : GatewaysKept P s t := by
  have hsame : ∀ k, t.canOf k = s.canOf k := fun k => by rw [State.canOf, State.canOf, (h .can hcan : t.can = s.can)]
  exact ⟨fun k => by rw [hsame], fun k _ => hsame k⟩

theorem GatewaysKept.refl (P : Nat → Prop) (s : State) : GatewaysKept P s s := ⟨fun _ => rfl, fun _ _ => rfl⟩

theorem GatewaysKept.ite {p : Prop} [Decidable p] (h : GatewaysKept P s t) (k : GatewaysKept P s u) :
    GatewaysKept P s (if p then t else u) := by
  split
  · exact h
  · exact k

theorem GatewaysKept.foldl {α : Type} {f : State → α → State} {l : List α} (h : ∀ a ∈ l, ∀ s, GatewaysKept P s (f s a))
    (s : State) : GatewaysKept P s (l.foldl f s) := by
  induction l generalizing s with
  | nil => exact .refl P s
  | cons a r ih => exact (h a List.mem_cons_self s).trans (ih (fun x hx => h x (List.mem_cons_of_mem a hx)) (f s a))

end

theorem modCan_gateways {f : CanSt → CanSt} (hf : ∀ x, (f x).buffers = x.buffers) (s : State) (n : Nat) :
    GatewaysKept (· = n) s (s.modCan n f) where
  buffers k := by
    by_cases hk : k = n
    · subst hk; simp [hf]
    · simp [hk]
  others k hk := State.modCan_canOf_of_ne s n f hk

/-! ## The controllers at the end of a step (R407, R450) -/

/-- The controllers on which the end of a step may send: the ISOBUS host link's, and at the lead those for system frames. -/
def sendsAtEnd (s : State) (k : Nat) : Prop := some k = s.isobusLink ∨ ((s.canCfg k).zitherSystem = true ∧ s.lead = true)

/-- Which controllers these are is the configuration's and the start-up's. -/
theorem SameExcept.sendsAtEnd_iff {bs : List Bank} {s t : State} (h : SameExcept bs s t) (hbanks : .start ∉ bs ∧ .cfg ∉ bs) (k : Nat) :
    sendsAtEnd t k ↔ sendsAtEnd s k := by
  have hcfg : t.cfg = s.cfg := h .cfg hbanks.2
  simp only [sendsAtEnd, h.isobusLink hbanks, State.canCfg, State.lead, hcfg]

theorem not_sendsAtEnd {s : State} {k : Nat} (hlink : some k ≠ s.isobusLink)
    (hsystem : (s.canCfg k).zitherSystem = true → s.lead = false) : ¬sendsAtEnd s k := by
  rintro (hk | ⟨hz, hlead⟩)
  · exact hlink hk
  · exact Bool.false_ne_true ((hsystem hz).symm.trans hlead)

theorem sendZ_gateways (type dst : Nat) (body : List Int) (s : State) :
    GatewaysKept (fun k => (s.canCfg k).zitherSystem = true) s (sendZ type dst body s) := by
  refine (GatewaysKept.foldl (fun n hn u => ?_) s).trans (.of_frame (modZ_frame _ _) (by decide))
  have hsystem : (s.canCfg n).zitherSystem = true := (List.mem_filter.1 hn).2
  exact (modCan_gateways (fun _ => by rfl) u n).mono fun k hk => hk ▸ hsystem

theorem controlChange_gateways (s : State) :
    GatewaysKept (fun k => (s.canCfg k).zitherSystem = true ∧ s.lead = true) s (controlChange s) := by
  unfold controlChange
  split
  case isTrue hsends =>
    have hlead : s.lead = true := by simp_all
    have hset := modZ_frame s fun z => { z with controlAt := some s.devtime, controlFlags := controlNow s }
    exact (GatewaysKept.of_frame hset (by decide)).trans ((sendZ_gateways _ _ _ _).mono fun k hk => ⟨hk, hlead⟩)
  case isFalse => exact .refl _ s

theorem sendIsobus_gateways (c kind course : Nat) (bs : List Byte) (s : State) :
    GatewaysKept (· = c) s (sendIsobus c kind course bs s) := by
  unfold sendIsobus
  split
  · exact modCan_gateways (fun _ => by rfl) s c
  · exact .refl _ s

theorem isobusRecords_gateways (s : State) : GatewaysKept (fun k => some k = s.isobusLink) s (isobusRecords s) := by
  unfold isobusRecords
  split
  case h_1 => exact .refl _ s
  case h_2 c hlink =>
    split
    · have hclaimed := ((claimRecords_frame 9 ((s.tgt 9).queue.take 16).length s).trans
        (modTgt_frame _ 9 fun t => { t with running := (s.tgt 9).running })).trans
        (modEvents_frame _ fun e => { e with hqRd := (e.hqRd + ((s.tgt 9).queue.take 16).length) % 256 })
      refine (GatewaysKept.of_frame hclaimed (by decide)).trans (.trans ?_ (.of_frame (signals_frame _) (by decide)))
      exact (sendIsobus_gateways c _ _ _ _).mono fun k hk => by rw [hk, hlink]
    · exact .refl _ s

theorem levelsFollow_gateways (s : State) : GatewaysKept (sendsAtEnd s) s (levelsFollow s) := by
  have hlevels : SameExcept [.zither, .events, .faults] (controlChange s) (levelsFollow s) :=
    (tokenWatch_frame _).append (closeCleared_frame _) |>.append (ringLevels_frame _) |>.append (gatewayLevels_frame _)
      |>.append (signals_frame _) |>.mono (by decide)
  exact ((controlChange_gateways s).mono fun k => .inr).trans (.of_frame hlevels (by decide))

theorem settle_can (s0 s : State) : (settle s0 s).can = (isobusRecords (levelsFollow s)).can := by
  simp only [settle, levelsFollow, apply_ite State.can, State.modHost_can, ite_self]

theorem settle_gateways (s0 s : State) : GatewaysKept (sendsAtEnd s) s (settle s0 s) := by
  have hrecords : GatewaysKept (sendsAtEnd s) (levelsFollow s) (isobusRecords (levelsFollow s)) :=
    (isobusRecords_gateways _).mono fun k hk => .inl (hk.trans (levelsFollow_isobusLink s))
  have hend := (levelsFollow_gateways s).trans hrecords
  have hcan : ∀ k, (settle s0 s).canOf k = (isobusRecords (levelsFollow s)).canOf k := fun k => by
    rw [State.canOf, State.canOf, settle_can]
  exact ⟨fun k => by rw [hcan, hend.buffers], fun k hk => by rw [hcan, hend.others k hk]⟩

@[simp] theorem settle_gw (s0 s : State) (n b : Nat) : (settle s0 s).gw n b = s.gw n b := (settle_gateways s0 s).gw n b

/-! ## The end of a gateway transmission (R433, R437, R460) -/

/-- No power die owns the sources of gateway transmissions. -/
theorem dieOfSource_gateway (n : Nat) : dieOfSource (232 + n) = none := by
  unfold dieOfSource
  repeat rw [if_neg (by simp; omega)]

theorem gwEnded_frame (n b : Nat) (s : State) : SameExcept [.events] s (gwEnded n b s) := edge_frame_own (dieOfSource_gateway n)

theorem gwEnded_gateways (n b : Nat) (s : State) : GatewaysKept (fun _ => False) s (gwEnded n b s) :=
  .of_frame (gwEnded_frame n b s) (by decide)

@[simp] theorem gwEnded_gw (n b : Nat) (s : State) (j k : Nat) : (gwEnded n b s).gw j k = s.gw j k := (gwEnded_gateways n b s).gw j k

@[simp] theorem gwEnded_canOf (n b : Nat) (s : State) (k : Nat) : (gwEnded n b s).canOf k = s.canOf k :=
  (gwEnded_gateways n b s).others k id

/-- The end of a transmission asserts its controller's source, whatever was written into the buffer before it. -/
theorem gwEnded_asserted (n b : Nat) {s t : State} (hevents : t.events = s.events) : Asserted (232 + n) s (gwEnded n b t) :=
  lt_of_le_of_lt ((EventsGrow.of_events hevents).asserted _) (edge_asserted (dieOfSource_gateway n) _ _ t)

theorem Asserted.frame {n : Nat} {bs : List Bank} {s t u : State} (h : Asserted n s t) (k : SameExcept bs t u) (hevents : .events ∉ bs) :
    Asserted n s u := h.kept (EventsGrow.of_events (k .events hevents)).kept

theorem Asserted.settle {n : Nat} {s t : State} (h : Asserted n s t) (s0 : State) : Asserted n s (settle s0 t) :=
  h.kept (settle_kept s0 t)

theorem offerNext_frame (n : Nat) (s : State) : SameExcept [.can] s (offerNext n s) := modCan_frame s n _

theorem offerNext_gateways (n : Nat) (s : State) : GatewaysKept (· = n) s (offerNext n s) := modCan_gateways (fun _ => by rfl) s n

@[simp] theorem offerNext_gw (n : Nat) (s : State) (j k : Nat) : (offerNext n s).gw j k = s.gw j k := (offerNext_gateways n s).gw j k

theorem bindWaiting_frame (n : Nat) (s : State) : SameExcept [.can] s (bindWaiting n s) :=
  (modCan_frame s n _).trans (.foldl _ (fun _ _ => modGw_frame _ _ _ _) _ _)

theorem busIdle_frame (n : Nat) (s : State) : SameExcept [.can] s (busIdle n s) := (bindWaiting_frame n s).trans (offerNext_frame n _)

theorem foldl_bindBuffer_gw {n b : Nat} {l : List (Nat × Nat × Nat × Nat)} (hl : ∀ x ∈ l, x.1 ≠ b) (s : State) :
    (l.foldl (fun s x => bindBuffer n x.1 x.2.1 x.2.2.1 x.2.2.2 s) s).gw n b = s.gw n b := by
  induction l generalizing s with
  | nil => rfl
  | cons x r ih =>
    rw [List.foldl_cons, ih fun y hy => hl y (List.mem_cons_of_mem x hy)]
    exact modGw_gw_of_ne _ _ _ _ (hl x List.mem_cons_self).symm

/-- A buffer for which no binding waits is as it was once the bus is idle. -/
theorem busIdle_gw {n b : Nat} {s : State} (hbinds : ∀ x ∈ (s.canOf n).binds, x.1 ≠ b) : (busIdle n s).gw n b = s.gw n b := by
  rw [busIdle, offerNext_gw, bindWaiting, foldl_bindBuffer_gw hbinds]
  exact (modCan_gateways (fun _ => by rfl) s n).gw n b

/-! ## TX_REQ (R440) -/

section
variable {n b : Nat} {s : State}

theorem txRequest_frame (n b : Nat) (s : State) : SameExcept [.can, .events] s (txRequest n b s) := by
  have hset := fun f => modGw_frame s n b f
  unfold txRequest
  refine .ite (.refl _ s) (.ite ((hset _).append (gwEnded_frame n b _)) (.ite ((hset _).mono (by decide)) ?_))
  exact ((hset _).append (offerNext_frame n _)).mono (by decide)

section
variable (henable : (s.gw n b).enable = true) (htx : (s.gw n b).tx = true) (hidle : (s.gw n b).pending = false)
include henable htx hidle

/-- A frame that the controller may send waits, and is offered at once where none is. -/
theorem txRequest_of_allowed (hallowed : gwRefused s n (s.gw n b).frame = false) : txRequest n b s =
      let s1 := s.modGw n b fun g => { g with pending := true, retries := 0 }
      if (s.canOf n).offered.isSome then s1 else offerNext n s1 := by
  simp [txRequest, henable, htx, hidle, hallowed]

theorem txRequest_of_refused (hrefused : gwRefused s n (s.gw n b).frame = true) :
    txRequest n b s = gwEnded n b (s.modGw n b fun g => { g with refused := true }) := by
  simp [txRequest, henable, htx, hidle, hrefused]

/-- After the request of a frame that may be sent only its buffer differs, and the controller's choice of the frame it offers. -/
theorem txRequest_gateways (hallowed : gwRefused s n (s.gw n b).frame = false) :
    GatewaysKept (· = n) (s.modGw n b fun g => { g with pending := true, retries := 0 }) (txRequest n b s) := by
  rw [txRequest_of_allowed henable htx hidle hallowed]
  exact .ite (.refl _ _) (offerNext_gateways n _)

end

/-! ## CANCEL (R436, Table 15-3) -/

theorem gwSent_frame (n b : Nat) (late : Bool) (s : State) : SameExcept [.can, .events] s (gwSent n b late s) :=
  ((modGw_frame s n b _).trans (modCan_frame _ n _)).append (gwEnded_frame n b _) |>.append (busIdle_frame n _) |>.mono (by decide)

theorem gwFailed_frame (n b : Nat) (late : Bool) (s : State) : SameExcept [.can, .events] s (gwFailed n b late s) :=
  (modGw_frame s n b _).append (gwEnded_frame n b _) |>.append (busIdle_frame n _) |>.mono (by decide)

theorem cancelTx_frame (n b : Nat) (p : TxPhase) (s : State) : SameExcept [.can, .events] s (cancelTx n b p s) := by
  have hended := (modGw_frame s n b fun g => { g with pending := false, cancelled := true }).append (gwEnded_frame n b _)
  unfold cancelTx
  refine .ite (.refl _ s) (.ite (.ite (gwSent_frame n b true s) (gwFailed_frame n b true s)) (.ite ?_ hended))
  exact (hended.append (offerNext_frame n _)).mono (by decide)

theorem gwSent_asserted (n b : Nat) (late : Bool) (s : State) : Asserted (232 + n) s (gwSent n b late s) :=
  (gwEnded_asserted n b (by rfl)).frame (busIdle_frame n _) (by decide)

theorem gwFailed_asserted (n b : Nat) (late : Bool) (s : State) : Asserted (232 + n) s (gwFailed n b late s) :=
  (gwEnded_asserted n b (by rfl)).frame (busIdle_frame n _) (by decide)

theorem gwSent_gw (hbinds : ∀ x ∈ (s.canOf n).binds, x.1 ≠ b) (late : Bool) : (gwSent n b late s).gw n b =
    { s.gw n b with pending := false, transmitted := true, cancelLate := (s.gw n b).cancelLate || late,
                    frames := ((s.gw n b).frames + 1) % 65536, timeStamp := s.devtime } := by
  have hkept := fun u f => (modCan_gateways (f := fun c => { c with txFrames := (c.txFrames + 1) % 4294967296, sent := c.sent ++ f })
    (fun _ => by rfl) u n).gw n b
  unfold gwSent
  rw [busIdle_gw (by simpa using hbinds), gwEnded_gw, hkept, modGw_gw_self]

theorem gwFailed_gw (hbinds : ∀ x ∈ (s.canOf n).binds, x.1 ≠ b) (late : Bool) : (gwFailed n b late s).gw n b =
    { s.gw n b with pending := false, txFailed := true, cancelLate := (s.gw n b).cancelLate || late } := by
  unfold gwFailed
  rw [busIdle_gw (by simpa using hbinds), gwEnded_gw, modGw_gw_self]

section
variable {p : TxPhase} (henable : (s.gw n b).enable = true) (htx : (s.gw n b).tx = true) (hpending : (s.gw n b).pending = true)
include henable htx hpending

theorem cancelTx_of_late (hlate : (p.sending && p.afterArbitration) = true) :
    cancelTx n b p s = if p.completes then gwSent n b true s else gwFailed n b true s := by
  simp [cancelTx, henable, htx, hpending, hlate]

theorem cancelTx_of_early (hearly : (p.sending && p.afterArbitration) = false) : cancelTx n b p s =
      let s1 := gwEnded n b (s.modGw n b fun g => { g with pending := false, cancelled := true })
      if (s.canOf n).offered = some b then offerNext n s1 else s1 := by
  simp [cancelTx, henable, htx, hpending, hearly]

theorem cancelTx_gw_of_early (hearly : (p.sending && p.afterArbitration) = false) :
    (cancelTx n b p s).gw n b = { s.gw n b with pending := false, cancelled := true } := by
  rw [cancelTx_of_early henable htx hpending hearly]
  simp [apply_ite (State.gw · n b)]

theorem cancelTx_asserted : Asserted (232 + n) s (cancelTx n b p s) := by
  cases hphase : p.sending && p.afterArbitration with
  | true =>
    rw [cancelTx_of_late henable htx hpending hphase]
    split
    · exact gwSent_asserted n b true s
    · exact gwFailed_asserted n b true s
  | false =>
    have hended : Asserted (232 + n) s (gwEnded n b (s.modGw n b fun g => { g with pending := false, cancelled := true })) :=
      gwEnded_asserted n b rfl
    rw [cancelTx_of_early henable htx hpending hphase]
    simp only
    split
    · exact hended.frame (offerNext_frame n _) (by decide)
    · exact hended

end

/-! ## LOCK (R10, R439) -/

theorem setLock_frame (n b : Nat) (v : Bool) (s : State) : SameExcept [.can] s (setLock n b v s) := by
  unfold setLock
  refine .ite (modGw_frame s n b _) ?_
  split
  · exact (modGw_frame s n b _).trans (modGw_frame _ n b _)
  · exact modGw_frame s n b _

@[simp] theorem gwWrite_gw_self (n b : Nat) (f : CanFrame) (t : Nat) (s : State) : (gwWrite n b f t s).gw n b =
    { s.gw n b with
      frame := f, length := f.data.length, timeStamp := t, full := true, frames := ((s.gw n b).frames + 1) % 65536,
      lost := if (s.gw n b).full then ((s.gw n b).lost + 1) % 65536 else (s.gw n b).lost } :=
  modGw_gw_self s n b _

@[simp] theorem gwWrite_gw_of_ne (n : Nat) {b k : Nat} (f : CanFrame) (t : Nat) (s : State) (h : k ≠ b) :
    (gwWrite n b f t s).gw n k = s.gw n k :=
  modGw_gw_of_ne s n b _ h

theorem setLock_set : setLock n b true s = s.modGw n b fun g => { g with lock := true } := rfl

theorem setLock_of_shadow {f : CanFrame} {u : Nat} (hshadow : (s.gw n b).shadow = some (f, u)) :
    setLock n b false s = gwWrite n b f u (s.modGw n b fun g => { g with lock := false, shadow := none }) := by
  simp [setLock, hshadow]

end

/-! ## Rows of gateway buffers, as the statement puts them -/

@[simp] theorem answered_gw (ws : List Nat) (s : State) (n b : Nat) : (answered ws s).gw n b = s.gw n b := rfl

/-- A command about a gateway buffer of Table 15-4 that its address takes now: `post` holds between the state at its time, whatever the
device drives then, and the settled end of its step. -/
theorem Does.of_gateway {c : Nat → Instr} {n b : Nat} {f : State → State} {pre : State → Prop} {post : State → State → Prop}
    (hn : n < 4) (hb : b < 16) (hrow : ∀ τ s, exec (c τ) s = atGateway τ n b f s)
    (hpost : ∀ ws s0 s, pre s → post s (settle s0 (f (answered ws s)))) :
    Does c (fun s => awake s = true ∧ writeBlocked s (gwAddr n b) = false ∧ pre s) post :=
  .of_windowWrite (fun τ s => by simp [hrow, atGateway, hn, hb]) hpost

/-- A command that changes controllers and events only, in the answered state. -/
theorem only_session_of_gateway {f : State → State} (hf : ∀ s, SameExcept [.can, .events] s (f s)) (ws : List Nat) (s0 s : State) :
    Only [.session] s (settle s0 (f (answered ws s))) :=
  ((answered_frame ws s).append (hf _)).only_settle_of s0 (by decide)

/-! ## The statement -/

/-- Settles O19, row by row: each row's effect on its buffer is the equation of its case above, in the state in which the write is
answered, and the end of the step changes no buffer (`settle_gateways`). -/
theorem gatewayBuffers : Obligations.GatewayBuffers := by
  unfold Obligations.GatewayBuffers
  refine ⟨?waits, ?refused, ?cancelled, ?tooLate, ?locks, ?unlocks⟩
  case waits =>
    intro n b hn hb
    refine .of_gateway hn hb (fun _ _ => rfl) fun ws s0 s ⟨henable, htx, hidle, hallowed⟩ => ?_
    have hkept := txRequest_gateways (s := answered ws s) henable htx hidle hallowed
    have hbuffer := (settle_gw s0 _ n b).trans ((hkept.gw n b).trans (modGw_gw_self _ n b _))
    refine ⟨by rw [hbuffer], by rw [hbuffer], by rw [hbuffer]; rfl, fun k hk hlink hsystem => ?_,
      only_session_of_gateway (txRequest_frame n b) ws s0 s⟩
    have hframe := (answered_frame ws s).append (txRequest_frame n b (answered ws s))
    have hquiet := fun h => not_sendsAtEnd hlink hsystem ((hframe.sendsAtEnd_iff (by decide) k).1 h)
    calc (settle s0 (txRequest n b (answered ws s))).canOf k
        = (txRequest n b (answered ws s)).canOf k := (settle_gateways s0 _).others k hquiet
      _ = ((answered ws s).modGw n b _).canOf k := hkept.others k hk
      _ = s.canOf k := modGw_canOf_of_ne _ n b _ hk
  case refused =>
    intro n b hn hb
    refine .of_gateway hn hb (fun _ _ => rfl) fun ws s0 s ⟨henable, htx, hidle, hrefused⟩ => ?_
    have honly := only_session_of_gateway (txRequest_frame n b) ws s0 s
    rw [txRequest_of_refused (s := answered ws s) henable htx hidle hrefused] at honly ⊢
    exact ⟨by simp [hidle], by simp, (gwEnded_asserted n b (by rfl)).settle s0, honly⟩
  case cancelled =>
    intro n b p hn hb hearly
    refine .of_gateway hn hb (fun _ _ => rfl) fun ws s0 s ⟨henable, htx, hpending⟩ => ?_
    have hbuffer := (settle_gw s0 _ n b).trans (cancelTx_gw_of_early (s := answered ws s) henable htx hpending hearly)
    refine ⟨by rw [hbuffer], by rw [hbuffer], by rw [hbuffer]; rfl, ?_, only_session_of_gateway (cancelTx_frame n b p) ws s0 s⟩
    exact (cancelTx_asserted (s := answered ws s) henable htx hpending).settle s0
  case tooLate =>
    intro n b p hn hb hlate
    refine .of_gateway hn hb (fun _ _ => rfl) fun ws s0 s ⟨henable, htx, hpending, hbinds⟩ => ?_
    have hasserted := (cancelTx_asserted (p := p) (s := answered ws s) henable htx hpending).settle s0
    have honly := only_session_of_gateway (cancelTx_frame n b p) ws s0 s
    rw [cancelTx_of_late (s := answered ws s) henable htx hpending hlate] at hasserted honly ⊢
    have hsent := gwSent_gw (s := answered ws s) hbinds true
    have hfailed := gwFailed_gw (s := answered ws s) hbinds true
    cases hcompletes : p.completes with
    | true =>
      rw [hcompletes, if_pos rfl] at hasserted honly
      exact ⟨by simp [hsent], by simp [hsent], by simp [hsent], by simp [hsent], by simp, hasserted, honly⟩
    | false =>
      rw [hcompletes, if_neg Bool.false_ne_true] at hasserted honly
      exact ⟨by simp [hfailed], by simp [hfailed], by simp [hfailed], by simp, by simp [hfailed], hasserted, honly⟩
  case locks =>
    intro n b hn hb
    refine .of_gateway hn hb (fun _ _ => rfl) fun ws s0 s _ => ?_
    have honly := only_session_of_gateway (fun s => (setLock_frame n b true s).mono (by decide)) ws s0 s
    exact ⟨by simp [setLock_set], fun k hk => by simp [setLock_set, hk], honly⟩
  case unlocks =>
    intro n b f u hn hb
    refine .of_gateway hn hb (fun _ _ => rfl) fun ws s0 s ⟨_, _, hshadow⟩ => ?_
    have honly := only_session_of_gateway (fun s => (setLock_frame n b false s).mono (by decide)) ws s0 s
    rw [setLock_of_shadow (s := answered ws s) hshadow] at honly ⊢
    exact ⟨by simp, by simp, by simp, by simp, by simp, fun k hk => by simp [hk], honly⟩

end Sys2Proof.Machine
end

section
/-! The whole machine: how every command ends, and what holds at every such end. -/

namespace Sys2Proof.Machine

/-! ## How a command ends -/

/-- The report of a VBAT group above 36 V, for which the manual gives no meaning (R506). -/
def AboveMaximum (i : Instr) : Prop :=
  ∃ τ g mv cl, (i = .vbatGroupLoss τ g mv cl ∨ i = .vbatGroupReturn τ g mv) ∧ 36000 < mv

/-- What a command may answer: the settled end of a step, a refusal when its operands do not fit, or the stop at a supply above its
maximum. -/
inductive Ends (fits tooHigh : Prop) : Out → Prop
  | settled (s0 s : State) : Ends fits tooHigh (.next (settle s0 s))
  | refused (kind : String) (n : Nat) (hwf : ¬fits) : Ends fits tooHigh (.refused (.noSuchElement kind n))
  | stopped (g : Nat) (hhigh : tooHigh) : Ends fits tooHigh (.fault (.supplyUnspecified g))

section
variable {fits tooHigh : Prop} {t : Nat} {f : State → State} {s : State}

theorem ends_at : Ends fits tooHigh (at_ t f s) := .settled s _

theorem ends_atReset : Ends fits tooHigh (atReset t f s) := .settled _ _

theorem ends_atOut : Ends fits tooHigh (atOut t f s) := .settled s _

/-- A row about an element is refused where the element's number is out of its range. -/
theorem ends_if {p : Prop} [Decidable p] {o : Out} {kind : String} {n : Nat} (h : Ends fits tooHigh o) (hp : fits → p) :
    Ends fits tooHigh (if p then o else .refused (.noSuchElement kind n)) := by
  split_ifs with hq
  · exact h
  · exact .refused kind n fun hf => hq (hp hf)

theorem ends_atBand {a b : Nat} (hwf : fits → a < 2 ∧ b < 2) : Ends fits tooHigh (atBand t a b f s) := by
  rw [atBand]
  split_ifs with ha hb
  · exact .refused _ _ fun h => absurd (hwf h).1 (by omega)
  · exact .refused _ _ fun h => absurd (hwf h).2 (by omega)
  · exact ends_at

theorem ends_atGroup {g mv : Nat} (hwf : fits → g < 7) (hhigh : 36000 < mv → tooHigh) :
    Ends fits tooHigh (atGroup t g mv f s) := by
  rw [atGroup]
  split_ifs with hg hmv
  · exact .refused _ _ fun h => absurd (hwf h) (by omega)
  · exact .stopped g (hhigh hmv)
  · exact ends_atOut

end

section
variable {τ n b g mv : Nat} {ok : Bool} {x : Spi} {cl : Clamps} {s : State} {tooHigh : Prop}

theorem exec_ends_canTxEnd : Ends ((Instr.canTxEnd τ n b ok).wf = true) tooHigh (exec (.canTxEnd τ n b ok) s) := by
  change Ends _ _ (execCanTxEnd τ n b ok s)
  unfold execCanTxEnd
  split_ifs with hb
  · exact .refused _ _ (by unfold Instr.wf; simp [hb])
  · exact ends_if ends_at (by unfold Instr.wf; simp +contextual [isCan])

theorem exec_ends_registerWrite : Ends ((Instr.registerWrite τ x).wf = true) tooHigh (exec (.registerWrite τ x) s) := by
  change Ends _ _ (execRegisterWrite τ x s)
  unfold execRegisterWrite
  split <;> exact ends_atOut

theorem exec_ends_thermalLatchClear :
    Ends ((Instr.thermalLatchClear τ n).wf = true) tooHigh (exec (.thermalLatchClear τ n) s) := by
  change Ends _ _ (execThermalLatchClear τ n s)
  unfold execThermalLatchClear
  split_ifs with hn
  · exact ends_atOut
  · exact ends_if ends_atOut fun hwf => by unfold Instr.wf at hwf; simp at hwf hn; omega

theorem exec_ends_vbatGroupLoss : Ends ((Instr.vbatGroupLoss τ g mv cl).wf = true) (AboveMaximum (.vbatGroupLoss τ g mv cl))
    (exec (.vbatGroupLoss τ g mv cl) s) := by
  unfold exec
  exact ends_atGroup of_decide_eq_true fun hmv => ⟨τ, g, mv, cl, .inl rfl, hmv⟩

theorem exec_ends_vbatGroupReturn : Ends ((Instr.vbatGroupReturn τ g mv).wf = true) (AboveMaximum (.vbatGroupReturn τ g mv))
    (exec (.vbatGroupReturn τ g mv) s) := by
  unfold exec
  exact ends_atGroup of_decide_eq_true fun hmv => ⟨τ, g, mv, [], .inr rfl, hmv⟩

end

/-- Every command ends in one of these ways: its row is one of a request, an event or an access, each of which settles a step. -/
theorem exec_ends (i : Instr) (s : State) : Ends (i.wf = true) (AboveMaximum i) (exec i s) := by
  cases i
  case configurationActivationDone | fieldOpenScanDone | fieldCloseDone | rerasterisationDone | nExportChunk | nLoop |
    fwCommitDone | partitionDone | nRecChunk | tcReport | tcConnectionLost | pps | keepWarm | refreshEnd | decisionCycle |
    nSections | tileLoadDone | journalCommit | latencySave | odoStale | faultHandling | rebuildScan | oneshotClose |
    hourChange | histogramSample | autoThaw | cfgVerifyDone | speedImplausible | emulationPulse | derateEnter | derateExit
    | suppliesValid | vddRfLoss | calDeferred | tcxoStable | clk32Fail | crystalStable | crystalTemperatureRead |
    keyOffDelay | entrySequenceDone | heartbeat | hqRd | ack | devtimeLo | take | measurementEpoch | navPage | rtcmFrame |
    correctionAgeExceeded | rtkSolution | deadReckoning | baselineSolution | baselineMismatch | fusedEpoch |
    holdDistanceUsedUp | holdDistanceRestored | nPos | nmeaEpoch | navRetentionSave | sync | zitherTimeLost |
    tokenRequestTimer | tokenReturnTimer | joinSend | controlSend | fwdTimeout =>
    unfold exec; exact ends_at
  case ledgerAudit | autoParkEntry | limpEnter | limpExit | outDisable | hostSilent | systemSilence =>
    unfold exec; exact ends_atOut
  case vddAonBrownout | vddCoreBrownout | rstN | watchdog =>
    unfold exec; exact ends_atReset
  case sysInfo | sysResync | sysReplay | sysReset | sysTimeSet | cfgBegin | cfgWrite | cfgVerify | cfgCommit | cfgRead |
    cfgInfo | navSubscribe | navNavbitsSelect | navRtcm | navStatusRead | navRetentionClear | covFieldOpen | covFieldClose
    | covFieldReset | covFieldDelete | covPolyLoad | covPolyCommit | covMaster | covSectionMode | covExport | covReconcile
    | covCountersRead | fretArm | fretCancel | unitSetpoint | unitMode | unitStatusRead | unitLatencyRead |
    unitLatencyReset | loopMode | loopManual | loopSetpoint | loopCoefWrite | loopStatusRead | loopStream | loopRateSet |
    loopRateFactors | swPwmDuty | swStatusRead | swVentRead | swLimpFuseProgram | swLimpFuseRead | ioOutputSet |
    ioOutputRead | ioInputRead | ioAnalogRead | ioFaultClear | busFilterSet | busStatusRead | busSystemRead | evtSourceSet
    | evtTargetSet | evtReroute | evtCountersRead | recRead | recFreeze | recThaw | recFaultsRead | mntInfo | mntFwBegin |
    mntFwWrite | mntFwCommit | mntPartition | mntCfgKeyFuse =>
    unfold exec; exact ends_if ends_at (by unfold Instr.wf; simp +contextual [Hdr.wf])
  case swSet | swUnlock | ioGroupRearm | sysOutputs | sysPower | unitCmd | unitFaultClear =>
    unfold exec; exact ends_if ends_atOut (by unfold Instr.wf; simp +contextual [Hdr.wf])
  case followUp | state | odo | fret | fretStatus | stroke | tokenReq | tokenGrant | tokenReturn | tokenAck | join | welcome
    | control | fwdReq | fwdRpl =>
    unfold exec; exact ends_if ends_atOut (by unfold Instr.wf; simp +contextual [ZHdr.wf])
  case addressClaim | dm1 | tpTimeout | canBusOff | canBusBack | canPassive | canSpPeriod | fretFire | slotWaitDecay |
    coalescingTimeout | emmcError | odoNoisy | odoNoisyClear | standstill | sentFrame | sentLost | sourceRejoin |
    inputStateChange | nOperator | aiOverload | burdenTest | coreRestartDone | coreColdDone | regionCalibration |
    rfCalFail | wakeSource | disturbanceWindowEnd | offStateTest | offStateTestEnd | clusterUngate | senseTrimSample |
    reqWrStall | notificationWrite | bridgeResend | bridgeHeartbeatSend | riseEnd | peakHoldEnd | transitionEnd | shotEnd
    | pwmCycleStart | pwmOnTimeEnd | dip | openWinEnd | knee | closeWinEnd | crowded | propSaturated | pairImbalance |
    senseTrimLimit | coilTemperatureTimeout | zitherStale | tokenRepeat | followerSilence | escrowRelease =>
    unfold exec; exact ends_if ends_at of_decide_eq_true
  case suspendCancel | odoEdge | fiWireBreak | aiInvalid | bridgeFrame | safeTableCheck | txReq | cancel | lock =>
    unfold exec; exact ends_if ends_at (by unfold Instr.wf; simp +contextual [isUnit, isDie, isGateway])
  case canFrameReceived | foOvercurrent | foOvertemp | foOpenLoad | harnessAway | harnessBack | coreRestart | loopSample |
    fbHoldExpiry | plausibilityUpdate | swShort | swOvercurrent | swOvertemp | thermalHold | inrushEnd | retryReset |
    backoffEnd | restartRetry | swOpenLoad | openLoadClear | ventUnlock | swPwmPeriod | limpInput | ttpLimit | coilShort |
    openLoad | unitOvertemp | shortToGnd | hsOverload | hsOvertemp | hsStuck =>
    unfold exec; exact ends_if ends_atOut of_decide_eq_true
  case autonomousReenable | linkSilence | silenceAllOff | linkRestored | retrainTimeout =>
    unfold exec; exact ends_if ends_atOut (by unfold Instr.wf; simp +contextual [isDie])
  case boostFault => unfold exec; exact ends_if ends_at id
  case bridgeDegraded =>
    unfold exec; exact ends_if (ends_if ends_at (by unfold Instr.wf; simp +contextual)) (by unfold Instr.wf; simp +contextual)
  case canTxEnd => exact exec_ends_canTxEnd
  case registerWrite => exact exec_ends_registerWrite
  case thermalLatchClear => exact exec_ends_thermalLatchClear
  case notchEngage | jammingUpdate | antennaLost => unfold exec; exact ends_atBand (by unfold Instr.wf; simp +contextual)
  case vbatGroupLoss => exact exec_ends_vbatGroupLoss
  case vbatGroupReturn => exact exec_ends_vbatGroupReturn

/-! ## Well-formed commands complete (R506, Table 01-6) -/

theorem exec_next_of_wf {i : Instr} (hwf : i.wf = true) (hlow : ¬AboveMaximum i) (s : State) : ∃ t, exec i s = .next t := by
  have h := exec_ends i s
  generalize exec i s = o at h
  cases h with
  | settled s0 t => exact ⟨_, rfl⟩
  | refused kind n hunfit => exact absurd hwf hunfit
  | stopped g hhigh => exact absurd hhigh hlow

theorem wf_eq_false_of_refused {i : Instr} {s : State} {r : Refusal} (hexec : exec i s = .refused r) :
    i.wf = false ∧ ∃ kind n, r = .noSuchElement kind n := by
  have h := exec_ends i s
  rw [hexec] at h
  cases h with
  | refused kind n hunfit => exact ⟨Bool.eq_false_iff.2 hunfit, kind, n, rfl⟩

/-- Settles O60: how every command ends (`exec_ends`), and the rows of a group above its maximum, of a unit, a switch channel and a course
that the package does not have. -/
theorem commandsComplete : Obligations.CommandsComplete := by
  unfold Obligations.CommandsComplete
  refine ⟨fun i s hwf hloss hreturn => exec_next_of_wf hwf ?_ s, fun τ g mv cl s hg hmv => ?_,
    fun i s r => wf_eq_false_of_refused, fun τ u s hu => ?_, fun τ n s hn => ?_, fun h s hcourse => ?_⟩
  · rintro ⟨τ, g, mv, cl, rfl | rfl, hmv⟩
    · exact absurd (hloss τ g mv cl rfl) (by omega)
    · exact absurd (hreturn τ g mv rfl) (by omega)
  · change execVbatGroupLoss τ g mv cl s = _ ∧ execVbatGroupReturn τ g mv s = _
    simp [execVbatGroupLoss, execVbatGroupReturn, atGroup, hmv, Nat.not_le.2 hg]
  · exact about_refused (by omega)
  · change execInrushEnd τ n s = _
    simp [execInrushEnd, aboutSwitch, Nat.not_lt.2 hn]
  · change execSysInfo h s = _
    simp [execSysInfo, request, Nat.not_lt.2 hcourse]

end Sys2Proof.Machine
end

section
/-! The invariant (R400, R460, R470, R487): the end of a step makes the signals, the level sources and the open faults what they report, whatever the command
did, and every command ends in it. -/

namespace Sys2Proof.Machine

/-! ## Sources that stay active or inactive -/

/-- Records and claims of `s` may differ in `t`, but no source becomes active or inactive, and the controller runs on or stays stopped. -/
structure ActiveKept (s t : State) : Prop where
  active : ∀ n, (t.src n).active = (s.src n).active
  stopped : t.events.stopped = s.events.stopped

theorem ActiveKept.refl (s : State) : ActiveKept s s := ⟨fun _ => rfl, rfl⟩

theorem ActiveKept.trans {s t u : State} (h : ActiveKept s t) (k : ActiveKept t u) : ActiveKept s u :=
  ⟨fun n => (k.active n).trans (h.active n), k.stopped.trans h.stopped⟩

theorem ActiveKept.of_sources {s t : State} (h : t.events.sources = s.events.sources) (k : t.events.stopped = s.events.stopped) :
    ActiveKept s t := ⟨fun n => by rw [State.src, h, State.src], k⟩

theorem ActiveKept.of_events {s t : State} (h : t.events = s.events) : ActiveKept s t := .of_sources (by rw [h]) (by rw [h])

theorem ActiveKept.foldl {α : Type} {f : State → α → State} (h : ∀ s a, ActiveKept s (f s a)) (l : List α) (s : State) :
    ActiveKept s (l.foldl f s) := by
  induction l generalizing s with
  | nil => exact .refl s
  | cons a r ih => exact (h s a).trans (ih _)

theorem modSrc_activeKept {f : EvtSource → EvtSource} (hf : ∀ x, (f x).active = x.active) (n : Nat) (s : State) :
    ActiveKept s (s.modSrc n f) := by
  refine ⟨fun k => ?_, rfl⟩
  by_cases hk : k = n
  · subst hk; simp [hf]
  · simp [State.modSrc_src_of_ne _ _ _ hk]

theorem modTgt_activeKept (n : Nat) (f : EvtTarget → EvtTarget) (s : State) : ActiveKept s (s.modTgt n f) := .of_sources rfl rfl

theorem writeRecord_activeKept (n p : Nat) (late : Bool) (time : Nat) (s : State) : ActiveKept s (writeRecord n p late time s) := by
  unfold writeRecord
  simp only
  split
  · exact (modSrc_activeKept (fun _ => by rfl) _ _).trans (modTgt_activeKept _ _ _)
  · refine .trans (t := s.modSrc n fun x => { x with delivered := x.delivered + 1, inService := true, payload := p })
      (modSrc_activeKept (fun _ => by rfl) n s) ?_
    split <;> exact .of_sources rfl rfl

theorem assertSource_activeKept (n p : Nat) (late : Bool) (time : Nat) (s : State) : ActiveKept s (assertSource n p late time s) := by
  unfold assertSource
  simp only
  split_ifs
  · exact modSrc_activeKept (fun _ => by rfl) _ _
  · exact writeRecord_activeKept _ _ _ _ _

theorem claimRecords_activeKept (t k : Nat) (s : State) : ActiveKept s (claimRecords t k s) := by
  unfold claimRecords
  simp only
  split_ifs
  · exact modTgt_activeKept _ _ _
  · refine (modTgt_activeKept _ _ _).trans (.foldl (fun s n => ?_) _ _)
    split_ifs
    · exact assertSource_activeKept _ _ _ _ _
    · exact .refl s

/-- A level source becomes what it is set to, and no other source changes. -/
theorem setLevel_active (n p : Nat) (on : Bool) (s : State) (k : Nat) :
    ((setLevel n p on s).src k).active = if k = n then on else (s.src k).active := by
  unfold setLevel
  simp only
  by_cases hk : k = n
  · subst hk
    cases on <;> simp
    split_ifs with h1 h2
    · exact h1
    · simp
    · rw [(assertSource_activeKept _ _ _ _ _).active]; simp
  · cases on <;> simp [State.modSrc_src_of_ne _ _ _ hk, hk]
    split_ifs
    · rfl
    · simp [State.modSrc_src_of_ne _ _ _ hk]
    · rw [(assertSource_activeKept _ _ _ _ _).active]; simp [State.modSrc_src_of_ne _ _ _ hk]

/-! ## Level sources at the end of a step (R400, R460) -/

/-- The loop over four controllers or courses that sets the level source of each. -/
theorem foldl_levels_active (base : Nat) (p : Nat → Nat) (on : Nat → State → Bool) (hon : ∀ n s t, SameExcept [.events] s t → on n t = on n s)
    (ns : List Nat) (s : State) (k : Nat) :
    ((ns.foldl (fun s n => if on n s == (s.src (base + n)).active then s else setLevel (base + n) (p n) (on n s) s) s).src k).active =
      if ∃ n ∈ ns, k = base + n then on (k - base) s else (s.src k).active := by
  induction ns generalizing s with
  | nil => simp
  | cons n ns ih =>
    simp only [List.foldl_cons]
    generalize hs1 : (if on n s == (s.src (base + n)).active then s else setLevel (base + n) (p n) (on n s) s) = s1
    have hframe : SameExcept [.events] s s1 := by
      rw [← hs1]; split_ifs
      · exact .refl _ s
      · exact setLevel_frame _ _ _ _
    have hactive : (s1.src k).active = if k = base + n then on n s else (s.src k).active := by
      rw [← hs1]
      by_cases hsame : on n s = (s.src (base + n)).active
      · simp only [hsame, beq_self_eq_true, if_true]
        split_ifs with hk
        · rw [hk]
        · rfl
      · simp only [beq_eq_false_iff_ne.2 hsame, Bool.false_eq_true, if_false, setLevel_active]
    rw [ih, hon _ _ _ hframe, hactive]
    by_cases hk : k = base + n
    · subst hk; simp
    · simp [hk]

/-- Whether the reply ring of course `n` holds unread bytes (R400; over ISOBUS it has no window, R407). -/
def ringUnread (n : Nat) (s : State) : Bool := s.isobusLink.isNone && decide ((s.course n).used ≠ 0)

/-- Whether a gateway receive buffer of controller `n` is full (R460). -/
def gatewayFull (n : Nat) (s : State) : Bool := (s.canOf n).buffers.any fun b => b.2.enable && !b.2.tx && b.2.full

theorem SameExcept.ringUnread {bs : List Bank} {s t : State} (h : SameExcept bs s t) (hb : .start ∉ bs ∧ .cfg ∉ bs ∧ .courses ∉ bs)
    (n : Nat) : ringUnread n t = ringUnread n s := by
  obtain ⟨hstart, hcfg, hcourses⟩ := hb
  have hc : t.host.courses = s.host.courses := h .courses hcourses
  rw [Machine.ringUnread, Machine.ringUnread, h.isobusLink ⟨hstart, hcfg⟩, State.course, hc, State.course]

theorem SameExcept.gatewayFull {bs : List Bank} {s t : State} (h : SameExcept bs s t) (hb : .can ∉ bs) (n : Nat) :
    gatewayFull n t = gatewayFull n s := by
  have hc : t.can = s.can := h .can hb
  simp [Machine.gatewayFull, State.canOf, hc]

theorem ringLevels_active {s : State} (hruns : s.events.stopped = false) (k : Nat) :
    ((ringLevels s).src k).active = if ∃ n ∈ [0, 1, 2, 3], k = 16 + n then ringUnread (k - 16) s else (s.src k).active := by
  rw [← foldl_levels_active 16 (fun _ => 0) ringUnread (fun n s t h => h.ringUnread (by decide) n)]
  simp only [ringLevels, hruns, Bool.false_eq_true, if_false]
  congr 4
  funext s n
  cases hlink : s.isobusLink <;> simp [ringUnread, hlink]

theorem gatewayLevels_active {s : State} (hruns : s.events.stopped = false) (k : Nat) :
    ((gatewayLevels s).src k).active = if ∃ n ∈ [0, 1, 2, 3], k = 228 + n then gatewayFull (k - 228) s else (s.src k).active := by
  rw [← foldl_levels_active 228 (fun n => n) gatewayFull (fun n s t h => h.gatewayFull (by decide) n)]
  simp only [gatewayLevels, hruns, Bool.false_eq_true, if_false]
  rfl

/-! ## Signals at the end of a step (R470) -/

/-- A signal that has been brought up to date stays as it is. -/
theorem signalOf_signalOf (x : EvtTarget) (now : Nat) : signalOf { x with ne := signalOf x now } now = signalOf x now := by
  have hkept : eligible { x with ne := signalOf x now } = eligible x ∧ signalDue { x with ne := signalOf x now } now = signalDue x now :=
    ⟨rfl, rfl⟩
  rw [signalOf, hkept.1, hkept.2, signalOf]
  cases (eligible x).isEmpty <;> cases x.ne <;> simp

theorem signals_follow {s : State} (hruns : s.events.stopped = false) :
    ∀ p ∈ (signals s).events.targets, p.2.ne = signalOf p.2 (signals s).devtime := by
  simp only [signals, hruns, Bool.false_eq_true, if_false, State.modEvents_devtime]
  intro p hp
  obtain ⟨q, -, rfl⟩ := List.mem_map.1 hp
  exact (signalOf_signalOf q.2 s.devtime).symm

theorem signals_activeKept (s : State) : ActiveKept s (signals s) := by
  unfold signals
  split_ifs
  · exact .refl s
  · exact .of_sources (by rfl) (by rfl)

theorem isobusRecords_activeKept (s : State) : ActiveKept s (isobusRecords s) := by
  unfold isobusRecords
  split
  · exact .refl s
  · split_ifs
    · refine ActiveKept.trans ?_ (signals_activeKept _)
      refine ActiveKept.trans ?_ (.of_events (sendIsobus_frame _ _ _ _ _ .events (by decide)))
      exact (claimRecords_activeKept _ _ _).trans (.of_sources (by rfl) (by rfl))
    · exact .refl s

/-! ## Faults at the end of a step (R487) -/

/-- Whether an element shows a fault is a matter of its own bank, which the end of a step leaves alone. -/
theorem SameExcept.faultShows {s t : State} (h : SameExcept endBanks s t) : faultShows t = faultShows s := by
  have hpower : t.power = s.power := h .power (by decide)
  have hstart : t.start = s.start := h .start (by decide)
  have hnav : t.nav = s.nav := h .nav (by decide)
  have hunits : t.units = s.units := h .units (by decide)
  have hboost : t.boost = s.boost := h .boost (by decide)
  have hclusters : t.clusters = s.clusters := h .clusters (by decide)
  have hswitches : t.switches = s.switches := h .switches (by decide)
  have hodo : t.odo = s.odo := h .odo (by decide)
  have hinputs : t.inputs = s.inputs := h .inputs (by decide)
  have hanalogs : t.analogs = s.analogs := h .analogs (by decide)
  have houtputs : t.outputs = s.outputs := h .outputs (by decide)
  have hgroups : t.groups = s.groups := h .groups (by decide)
  have hloops : t.loops = s.loops := h .loops (by decide)
  have hpressure : t.pressureBad = s.pressureBad := (h .rates (by decide)).2.2.2.1
  have hsilent : t.host.silent = s.host.silent := registers_silent (h .session (by decide))
  funext cls inst
  simp only [Machine.faultShows, State.sw, State.unit, State.boostOf, State.cluster, State.fi, State.ai, State.fo, State.loop,
    hpower, hstart, hnav, hunits, hboost, hclusters, hswitches, hodo, hinputs, hanalogs, houtputs, hgroups, hloops,
    hpressure, hsilent]

theorem closeFault_opened (cls inst : Nat) (s : State) :
    (closeFault cls inst s).faults.opened = s.faults.opened.filter fun g => !(g.cls == cls && g.inst == inst) := by
  unfold closeFault
  split
  · rename_i hnone
    rw [List.find?_eq_none] at hnone
    exact (List.filter_eq_self.2 fun g hg => by simpa [or_iff_not_imp_left] using hnone g hg).symm
  · simp only
    rw [edge_frame_own (n := 246) rfl .faults (by decide)]
    rfl

/-- The loop of `closeCleared`: no fault of the list stays open that its element no longer shows. -/
theorem foldl_close_shows (l : List OpenFault) (s : State) {g : OpenFault}
    (hg : g ∈ (l.foldl (fun s f => match faultShows s f.cls f.inst with
      | some (_, false) => closeFault f.cls f.inst s
      | _ => s) s).faults.opened) :
    g ∈ s.faults.opened ∧ (g ∈ l → ∀ k, faultShows s g.cls g.inst ≠ some (k, false)) := by
  induction l generalizing s with
  | nil => exact ⟨hg, by simp⟩
  | cons f r ih =>
    rw [List.foldl_cons] at hg
    obtain ⟨hopen, hrest⟩ := ih _ hg
    split at hopen
    · rename_i k hshows
      have hsame : faultShows (closeFault f.cls f.inst s) = faultShows s :=
        ((closeFault_frame f.cls f.inst s).mono (by simp [endBanks])).faultShows
      simp only [hshows, hsame] at hrest
      rw [closeFault_opened, List.mem_filter] at hopen
      refine ⟨hopen.1, fun hmem => ?_⟩
      rcases List.mem_cons.1 hmem with rfl | hr
      · simp at hopen
      · exact hrest hr
    · rename_i hshows
      refine ⟨hopen, fun hmem => ?_⟩
      rcases List.mem_cons.1 hmem with rfl | hr
      · exact fun k hk => hshows k hk
      · have := hrest hr
        split at this
        · rename_i k hk; exact absurd hk (hshows k)
        · exact this

theorem closeCleared_shows {s : State} {g : OpenFault} (hg : g ∈ (closeCleared s).faults.opened) (k : Nat) :
    faultShows s g.cls g.inst ≠ some (k, false) :=
  let ⟨hopen, hshows⟩ := foldl_close_shows _ s hg
  hshows hopen k

/-! ## The invariant at the end of a step -/

theorem edge_activeKept {n inst code : Nat} {s : State} (hown : dieOfSource n = none) : ActiveKept s (edge n inst code s) := by
  unfold edge edgeAt
  split_ifs
  · rw [hown]; exact modSrc_activeKept (fun _ => by rfl) _ _
  · exact assertSource_activeKept _ _ _ _ _

theorem closeCleared_activeKept (s : State) : ActiveKept s (closeCleared s) := by
  unfold closeCleared
  refine .foldl (fun s f => ?_) _ _
  split
  · unfold closeFault
    split
    · exact .refl s
    · refine ActiveKept.trans ?_ (edge_activeKept (n := 246) rfl)
      exact .of_events rfl
  · exact .refl s

theorem setLevel_stopped (n p : Nat) (on : Bool) (s : State) : (setLevel n p on s).events.stopped = s.events.stopped := by
  unfold setLevel
  simp only
  split_ifs
  · rfl
  · rfl
  · rfl
  · exact (assertSource_activeKept _ _ _ _ _).stopped

theorem foldl_stopped {f : State → Nat → State} (hf : ∀ s n, (f s n).events.stopped = s.events.stopped) (ns : List Nat) (s : State) :
    (ns.foldl f s).events.stopped = s.events.stopped := by
  induction ns generalizing s with
  | nil => rfl
  | cons n ns ih => rw [List.foldl_cons, ih, hf]

theorem ringLevels_stopped (s : State) : (ringLevels s).events.stopped = s.events.stopped := by
  unfold ringLevels
  split_ifs
  · rfl
  · refine foldl_stopped (fun s n => ?_) _ _
    simp only
    split_ifs
    · rfl
    · exact setLevel_stopped _ _ _ _

theorem gatewayLevels_stopped (s : State) : (gatewayLevels s).events.stopped = s.events.stopped := by
  unfold gatewayLevels
  split_ifs
  · rfl
  · refine foldl_stopped (fun s n => ?_) _ _
    simp only
    split_ifs
    · rfl
    · exact setLevel_stopped _ _ _ _

/-- Where the controller runs, the levels and the signals stand as they should once they have been brought up to date. -/
theorem eventsFollow_levels {s : State} (hruns : s.events.stopped = false) : EventsFollow (signals (gatewayLevels (ringLevels s))) := by
  have hring : (ringLevels s).events.stopped = false := (ringLevels_stopped s).trans hruns
  have hgateway : (gatewayLevels (ringLevels s)).events.stopped = false := (gatewayLevels_stopped _).trans hring
  have hevents : SameExcept [.events] s (signals (gatewayLevels (ringLevels s))) :=
    ((ringLevels_frame s).trans (gatewayLevels_frame _)).trans (signals_frame _)
  refine ⟨signals_follow hgateway, fun n hn => ?_, fun n hn => ?_⟩
  · change _ = ringUnread n _
    rw [hevents.ringUnread (by decide), (signals_activeKept _).active, gatewayLevels_active hring, if_neg, ringLevels_active hruns, if_pos]
    · simp
    · exact ⟨n, by simp; omega, rfl⟩
    · simp; omega
  · change _ = gatewayFull n _
    rw [hevents.gatewayFull (by decide), (signals_activeKept _).active, gatewayLevels_active hring, if_pos]
    · simp [(ringLevels_frame s).gatewayFull (bs := [.events]) (by decide)]
    · exact ⟨n, by simp; omega, rfl⟩

/-- The host records that go over ISOBUS keep it so (R407). -/
theorem EventsFollow.isobusRecords {s : State} (h : EventsFollow s) (hruns : s.events.stopped = false) :
    EventsFollow (isobusRecords s) := by
  obtain ⟨hsignals, hrings, hgateways⟩ := h
  refine ⟨?_, fun n hn => ?_, fun n hn => ?_⟩
  · unfold Machine.isobusRecords
    split
    · exact hsignals
    · split_ifs
      · refine signals_follow ?_
        rw [sendIsobus_frame _ _ _ _ _ .events (by decide)]
        exact (claimRecords_activeKept _ _ _).stopped.trans hruns
      · exact hsignals
  · rw [(isobusRecords_activeKept s).active, hrings n hn]
    exact ((isobusRecords_frame s).ringUnread (by decide) n).symm
  · rw [(isobusRecords_activeKept s).active, hgateways n hn]
    simp only [(isobusRecords_gateways s).buffers]

theorem SameExcept.eventsFollow {s t : State} (h : SameExcept [.statusSeq] s t) (hfollow : EventsFollow s) : EventsFollow t := by
  have hevents : t.events = s.events := h .events (by decide)
  have htime : t.devtime = s.devtime := h .time (by decide)
  obtain ⟨hsignals, hrings, hgateways⟩ := hfollow
  refine ⟨?_, fun n hn => ?_, fun n hn => ?_⟩
  · rw [hevents, htime]; exact hsignals
  · rw [State.src, hevents]; exact (hrings n hn).trans (h.ringUnread (by decide) n).symm
  · rw [State.src, hevents]; exact (hgateways n hn).trans (h.gatewayFull (by decide) n).symm

theorem SameExcept.invariant {s t : State} (h : SameExcept [.statusSeq] s t) (hinv : Invariant s) : Invariant t := by
  have hevents : t.events = s.events := h .events (by decide)
  have hfaults : t.faults = s.faults := h .faults (by decide)
  obtain ⟨hfollow, hshows⟩ := hinv
  rw [Invariant, hevents, hfaults, (h.mono (by simp [endBanks])).faultShows]
  exact ⟨fun hruns => h.eventsFollow (hfollow hruns), hshows⟩

/-- The last loops of a step make the invariant hold, in whatever state they begin. -/
theorem invariant_isobusRecords_levelsFollow (s : State) : Invariant (isobusRecords (levelsFollow s)) := by
  generalize hs1 : tokenWatch (controlChange s) = s1
  have hlevels : levelsFollow s = signals (gatewayLevels (ringLevels (closeCleared s1))) := by rw [← hs1]; rfl
  generalize hc : closeCleared s1 = c at hlevels
  have hend : SameExcept [.events, .can] c (isobusRecords (levelsFollow s)) := by
    rw [hlevels]
    exact ((((ringLevels_frame c).trans (gatewayLevels_frame _)).trans (signals_frame _)).mono (by simp)).trans (isobusRecords_frame _)
  have hlevelsStopped : (levelsFollow s).events.stopped = c.events.stopped := by
    rw [hlevels, (signals_activeKept _).stopped, gatewayLevels_stopped, ringLevels_stopped]
  refine ⟨fun hruns => ?_, fun f hf k => ?_⟩
  · rw [(isobusRecords_activeKept _).stopped] at hruns
    refine EventsFollow.isobusRecords ?_ hruns
    rw [hlevels]
    exact eventsFollow_levels (hlevelsStopped.symm.trans hruns)
  · rw [show (isobusRecords (levelsFollow s)).faults = c.faults from hend .faults (by decide), ← hc] at hf
    rw [(hend.mono (by simp [endBanks])).faultShows, ← hc, ((closeCleared_frame s1).mono (by simp [endBanks])).faultShows]
    exact closeCleared_shows hf k

/-- SEQ of STATUS is a bank of its own. -/
theorem countStatus_frame (s : State) : SameExcept [.statusSeq] s (s.modHost fun x => { x with statusSeq := (x.statusSeq + 1) % 256 }) := by
  intro b hb; cases b <;> simp_all [Bank.same, HostSt.registers]

/-- The end of a step makes the invariant hold, whatever the step did. -/
theorem invariant_settle (s0 s : State) : Invariant (settle s0 s) := by
  have h := invariant_isobusRecords_levelsFollow s
  unfold settle
  simp only
  split_ifs
  · exact h
  · exact (countStatus_frame _).invariant h

theorem invariant_exec {i : Instr} {s t : State} (hexec : exec i s = .next t) : Invariant t := by
  have h := exec_ends i s
  rw [hexec] at h
  cases h with
  | settled s0 s1 => exact invariant_settle s0 s1

/-- That work had waited for a core has no part in the invariant. -/
theorem invariant_coreTaking {s : State} (h : Invariant s) (b : Bool) : Invariant (s.modStart fun x => { x with coreTaking := b }) := h

/-- Settles O58: each way of a step (the front command, a held request, waiting work, a tick) ends as `settle` ends it, and that end makes the
invariant hold from any state. -/
theorem stepKeepsInvariant : Obligations.StepKeepsInvariant := by
  intro s t _ hstep
  unfold step at hstep
  split at hstep
  · exact invariant_exec hstep
  · split at hstep
    · exact invariant_exec hstep
    · split at hstep
      · rename_i c s1 _
        cases hexec : exec c s1 with
        | next u =>
          rw [hexec] at hstep
          obtain rfl : (u.modStart fun x => { x with coreTaking := false }) = t := by simpa [workDone] using hstep
          exact invariant_coreTaking (invariant_exec hexec) false
        | fault r => simp [hexec, workDone] at hstep
        | refused r => simp [hexec, workDone] at hstep
      · obtain rfl := Host.Outcome.next.inj hstep
        exact invariant_settle _ _

end Sys2Proof.Machine
end

section
/-! The step and the state after reset. -/

namespace Sys2Proof.Machine

/-- Settles O56, by the branches of `step`; the last of them is the passage of 10 µs, whose end touches nothing else. -/
theorem stepRunsFront : Obligations.StepRunsFront := by
  unfold Obligations.StepRunsFront
  refine ⟨fun c rest s h => ?_, fun c s1 s h hheld => ?_, fun c s1 s h hheld hwork => ?_, fun s h hheld hwork => ?_⟩
  · simp [step, h]
  · simp [step, h, hheld]
  · simp [step, h, hheld, hwork]
  · refine ⟨_, by simp only [step, h, hheld, hwork]; exact at_next _ _ _, ?_, ?_⟩
    · simp [advance_devtime]
    · exact (advance_frame s (s.devtime + 10)).only_settle s

/-- Settles O57: each field is read off the state after reset, and its empty banks meet the invariant. -/
theorem resetState : Obligations.ResetState := by
  unfold Obligations.ResetState
  refine ⟨rfl, rfl, rfl, rfl, rfl, rfl, rfl, rfl, rfl, rfl, rfl, rfl, rfl, rfl, fun n _ => ⟨rfl, rfl, rfl⟩, fun n _ => rfl, fun u _ => ?_,
    fun k => rfl, by decide, by decide, rfl, rfl, by decide, by decide, ?_, ?_⟩
  · rfl
  · exact fun _ => ⟨by decide, by decide, by decide⟩
  · intro f hf
    cases hf

end Sys2Proof.Machine
end

section
/-! Requests: a request that arrives is taken, and what follows when its row answers at once, is long, or only reads. -/

namespace Sys2Proof.Machine

/-! ## Frames of the banks that no earlier part needed -/

theorem modNav_frame (s : State) (f : NavSt → NavSt) : SameExcept [.nav] s (s.modNav f) := by
  intro b hb; cases b <;> simp_all [Bank.same]

theorem modCov_frame (s : State) (f : CovSt → CovSt) : SameExcept [.cov] s (s.modCov f) := by
  intro b hb; cases b <;> simp_all [Bank.same]

theorem modPower_frame (s : State) (f : PowerSt → PowerSt) : SameExcept [.power] s (s.modPower f) := by
  intro b hb; cases b <;> simp_all [Bank.same]

theorem modStart_frame (s : State) (f : StartSt → StartSt) : SameExcept [.start] s (s.modStart f) := by
  intro b hb; cases b <;> simp_all [Bank.same]

theorem modStore_frame (s : State) (f : StorageSt → StorageSt) : SameExcept [.storage] s (s.modStore f) := by
  intro b hb; cases b <;> simp_all [Bank.same]

theorem modAi_frame (s : State) (a : Nat) (f : AnalogSt → AnalogSt) : SameExcept [.analogs] s (s.modAi a f) := by
  intro b hb; cases b <;> simp_all [Bank.same]

theorem modBoost_frame (s : State) (d : Nat) (f : BoostSt → BoostSt) : SameExcept [.boost] s (s.modBoost d f) := by
  intro b hb; cases b <;> simp_all [Bank.same]

theorem modSent_frame (s : State) (n : Nat) (f : SentSt → SentSt) : SameExcept [.odo] s (s.modSent n f) := modOdo_frame s _

theorem modField_frame (s : State) (fid : Nat) (f : FieldEntry → FieldEntry) : SameExcept [.cov] s (s.modField fid f) := modCov_frame s _

/-! ## Taking a request -/

/-- The state in which a request that has arrived is taken: its bytes stand in the ring (R383). -/
def arrivedState (h : Hdr) (s : State) : State :=
  s.modCourse h.course fun c => { c with reqWr := (c.reqWr + reqSize h) % 4096, reqEnd := (c.reqWr + reqSize h) % 4096 }

theorem arrive_takes {r : Req} {self : Instr} {h : Hdr} {s : State} (ha : arrives h s = true) :
    arrive r self h s = take r h (arrivedState h s) := by
  simp only [arrives, Bool.and_eq_true, decide_eq_true_eq, Bool.not_eq_true', Option.isNone_iff_eq_none, List.isEmpty_iff] at ha
  obtain ⟨⟨⟨⟨⟨⟨⟨⟨⟨hcourse, hcourseless⟩, htaking⟩, hlink⟩, hstall⟩, hheld⟩, htake⟩, hseq2⟩, hlen⟩, hcrc⟩ := ha
  have htake' : canTake (arrivedState h s) h.course = true := by
    rw [arrivedState, canTake_modCourse rfl rfl rfl rfl rfl]; exact htake
  have hserved : waitsSeq2 r (arrivedState h s) = false := by
    have hsame : restarting (arrivedState h s) 8 = restarting s 8 := rfl
    simp [waitsSeq2, hsame, hseq2]
  have hheld' : ((arrivedState h s).course h.course).held = [] := by simp [arrivedState, hheld]
  simp only [arrive, hcourseless, htaking, hlink, hstall, Bool.false_eq_true, if_false, Option.isSome_none]
  change takeOrHold r self h (arrivedState h s) = _
  simp [takeOrHold, hheld', htake', hserved]

/-- Check 1 of R387 passes for a request that arrives whole. -/
theorem take_of_arrives {r : Req} {h : Hdr} {s : State} (ha : arrives h s = true) (hop : r.op ≠ 258)
    (hepoch : h.epoch = s.host.epoch) (hlt : h.seq < 65536) (hseq : h.seq = (s.course h.course).expected) :
    take r h (arrivedState h s) = r.run h (takenState h s) := by
  simp only [arrives, Bool.and_eq_true, decide_eq_true_eq, Option.isNone_iff_eq_none] at ha
  obtain ⟨⟨⟨⟨⟨⟨⟨⟨⟨-, -⟩, -⟩, hlink⟩, -⟩, -⟩, -⟩, -⟩, hlen⟩, hcrc⟩ := ha
  have hlen' : ¬1024 < h.len := by omega
  have hahead : seqAhead h.seq h.seq = 0 := by
    have hmod : h.seq % 65536 = h.seq := Nat.mod_eq_of_lt hlt
    simp [seqAhead, hmod]
  simp only [take, arrivedState, hlen', hcrc, hop, hepoch, hlink, modCourse_isobusLink, modCourse_modCourse, State.modCourse_host_epoch,
    bne_self_eq_false, Bool.not_true, Bool.or_self, decide_false, Bool.false_eq_true, if_false, if_true, Option.isNone_none,
    State.modCourse_course_self, ← hseq, hahead, Bool.false_and]
  rfl

theorem arrive_runs {r : Req} {self : Instr} {h : Hdr} {s : State} (ha : accepts h s = true) (hop : r.op ≠ 258) :
    arrive r self h s = r.run h (takenState h s) := by
  simp only [accepts, Bool.and_eq_true, decide_eq_true_eq] at ha
  obtain ⟨⟨⟨harrives, hepoch⟩, hlt⟩, hseq⟩ := ha
  rw [arrive_takes harrives, take_of_arrives harrives hop hepoch hlt hseq]

/-! ## Replies -/

/-- A reply changes its course only. -/
theorem sendReply_eq (h : Hdr) (op : Nat) (x : Reply) (cache : Bool) (s : State) :
    ∃ g, sendReply h op x cache s = s.modCourse h.course g := by
  cases cache
  · exact ⟨_, rfl⟩
  · exact ⟨_, modCourse_modCourse _ _ _ _⟩

theorem takenState_frame (h : Hdr) (s : State) : SameExcept [.courses] s (takenState h s) := modCourse_frame _ _ _

/-- What a row's effect leaves alone, the whole request leaves alone, but for its course. -/
theorem SameExcept.only_request {bs : List Bank} {h : Hdr} {s u : State} (k : SameExcept bs (takenState h s) u) (s0 : State)
    (g : Course → Course) : Only (.courses :: bs) s (settle s0 (u.modCourse h.course g)) :=
  (((takenState_frame h s).append k).append (modCourse_frame u h.course g)).only_settle_of s0 fun b => by simp; tauto

theorem accepts_of_asked {op courses : Nat} {len : Nat → Bool} {h : Hdr} {s : State} (hasked : asked op courses len h s = true) :
    accepts h (s.advance h.t) = true := by
  simp only [asked, Bool.and_eq_true] at hasked
  exact hasked.1.1

theorem canTake_of_accepts {h : Hdr} {s : State} (haccepts : accepts h s = true) : canTake s h.course = true := by
  simp only [accepts, arrives, Bool.and_eq_true] at haccepts
  exact haccepts.1.1.1.1.1.1.2

theorem awake_of_accepts {h : Hdr} {s : State} (haccepts : accepts h s = true) : awake s = true := by
  have htake := canTake_of_accepts haccepts
  simp only [canTake, Bool.and_eq_true] at htake
  exact htake.1.1.1.1.1.1.1.1

/-! ## Rows -/

/-- R411: no check fails. -/
@[simp] theorem firstFail_eq_none {cs : List (Bool × Nat)} : firstFail cs = none ↔ ∀ c ∈ cs, c.1 = false := by
  induction cs with
  | nil => simp [firstFail]
  | cons c cs ih => cases hc : c.1 <;> simp_all [firstFail, refuse]

@[simp] theorem outside_eq_false {lo hi x : Nat} : outside lo hi x = false ↔ lo ≤ x ∧ x ≤ hi := by
  simp [outside]

/-- The row of a request of opcode `op` as Tables 14-3 to 14-15 give it. -/
structure Req.IsRow (r : Req) (op courses : Nat) (len : Nat → Bool) : Prop where
  op_eq : r.op = op
  courses_eq : r.courses = courses
  lenOk_eq : r.lenOk = len
  known : r.known = true
  plain : op ≠ 258

/-- A row that is asked and refused by none of its own checks is carried out. -/
theorem Req.IsRow.carried {r : Req} {op courses : Nat} {len : Nat → Bool} {h : Hdr} {s : State} (hrow : r.IsRow op courses len)
    (hasked : asked op courses len h s = true) (hjudge : r.judge (takenState h (s.advance h.t)) = none) (self : Instr) :
    h.course < 4 ∧ arrive r self h (s.advance h.t) = r.run h (takenState h (s.advance h.t))
      ∧ r.fails h (takenState h (s.advance h.t)) = none := by
  obtain ⟨rfl, rfl, rfl, hknown, hplain⟩ := hrow
  simp only [asked, Bool.and_eq_true] at hasked
  obtain ⟨⟨haccepts, hadmits⟩, hlen⟩ := hasked
  have hcourse : h.course < 4 := by
    simp only [accepts, arrives, Bool.and_eq_true, decide_eq_true_eq] at haccepts
    exact haccepts.1.1.1.1.1.1.1.1.1.1.1.1
  exact ⟨hcourse, arrive_runs haccepts hplain, fails_none (by rw [admits_takenState]; exact hadmits) hknown hlen hjudge⟩

section
variable {r : Req} {op courses : Nat} {len : Nat → Bool} {c : Instr} {h : Hdr} {s s1 : State} {x : Reply}

/-- A row that answers at once. -/
theorem Req.IsRow.replies (hrow : r.IsRow op courses len) (hexec : exec c s = request r c h s) (hasked : asked op courses len h s = true)
    (hjudge : r.judge (takenState h (s.advance h.t)) = none)
    (heffect : r.effect (takenState h (s.advance h.t)) = (s1, some x)) (hafter : r.after = fun s => s) :
    ∃ g, exec c s = .next (settle s (s1.modCourse h.course g)) ∧ Replied h op x (settle s (s1.modCourse h.course g)) := by
  obtain ⟨hcourse, harrive, hfails⟩ := hrow.carried hasked hjudge c
  have hrun := harrive.trans (run_reply hfails heffect)
  rw [hafter, hrow.op_eq] at hrun
  obtain ⟨g, hg⟩ := sendReply_eq h op x true s1
  refine ⟨g, ?_, ?_⟩
  · rw [hexec, request, if_pos hcourse, at_next, hrun, hg]
  · rw [← hg]; exact (replied_sendReply h op x true s1).of_courses (settle_courses _ _)

/-- A row that answers at once and whose effect may take outputs out of or into a fault state (R262). -/
theorem Req.IsRow.repliesOut (hrow : r.IsRow op courses len) (hexec : exec c s = requestOut r c h s)
    (hasked : asked op courses len h s = true) (hjudge : r.judge (takenState h (s.advance h.t)) = none)
    (heffect : r.effect (takenState h (s.advance h.t)) = (s1, some x)) (hafter : r.after = fun s => s) :
    ∃ g, exec c s = .next (settle s (followLoops (s1.modCourse h.course g)))
      ∧ Replied h op x (settle s (followLoops (s1.modCourse h.course g))) := by
  obtain ⟨hcourse, harrive, hfails⟩ := hrow.carried hasked hjudge c
  have hrun := harrive.trans (run_reply hfails heffect)
  rw [hafter, hrow.op_eq] at hrun
  obtain ⟨g, hg⟩ := sendReply_eq h op x true s1
  refine ⟨g, ?_, ?_⟩
  · rw [hexec, requestOut, if_pos hcourse, atOut, at_next, hrun, hg]
  · rw [← hg]
    refine (replied_sendReply h op x true s1).of_courses ((settle_courses _ _).trans ?_)
    exact followLoops_frame _ .courses (by decide)

/-- A long row (R412). -/
theorem Req.IsRow.begins (hrow : r.IsRow op courses len) (hexec : exec c s = request r c h s) (hasked : asked op courses len h s = true)
    (hjudge : r.judge (takenState h (s.advance h.t)) = none) (heffect : r.effect (takenState h (s.advance h.t)) = (s1, none)) :
    exec c s = .next (settle s (s1.modCourse h.course fun c => { c with long := some (h, op) })) := by
  obtain ⟨hcourse, harrive, hfails⟩ := hrow.carried hasked hjudge c
  have hrun := harrive.trans (run_long hfails heffect)
  rw [hrow.op_eq] at hrun
  rw [hexec, request, if_pos hcourse, at_next, hrun]

end

/-! ## Families of requests -/

section
variable {c : Hdr → Instr} {op courses : Nat} {len : Nat → Bool} {pre : State → Prop} {data : State → List Byte}
  {post : State → State → Prop}

/-- A request whose row has the effect `f` and answers OK. -/
theorem Answers.of_reply (r : Hdr → Req) (f : Hdr → State → State)
    (hpost : ∀ h s s0 g, accepts h s = true → pre s → post s (settle s0 ((f h (takenState h s)).modCourse h.course g)))
    (hrow : ∀ h, (r h).IsRow op courses len := by exact fun _ => ⟨rfl, rfl, rfl, rfl, by decide⟩)
    (hexec : ∀ h s, exec (c h) s = request (r h) (c h) h s := by exact fun _ _ => rfl)
    (hafter : ∀ h, (r h).after = fun s => s := by exact fun _ => rfl)
    (hjudge : ∀ h s, accepts h s = true → pre s → (r h).judge (takenState h s) = none := by exact fun _ _ _ _ => rfl)
    (heffect : ∀ h s, accepts h s = true → pre s → (r h).effect (takenState h s) = (f h (takenState h s), some { data := data s })
      := by exact fun _ _ _ _ => rfl) :
    Answers c op courses len pre data post := fun h s hasked hpre =>
  have haccepts := accepts_of_asked hasked
  let ⟨g, hnext, hreplied⟩ := (hrow h).replies (hexec h s) hasked (hjudge h _ haccepts hpre) (heffect h _ haccepts hpre) (hafter h)
  ⟨_, hnext, hreplied, hpost h _ s g haccepts hpre⟩

/-- A request whose row only reads. -/
theorem Answers.of_read (r : Hdr → Req) (hrow : ∀ h, (r h).IsRow op courses len := by exact fun _ => ⟨rfl, rfl, rfl, rfl, by decide⟩)
    (hexec : ∀ h s, exec (c h) s = request (r h) (c h) h s := by exact fun _ _ => rfl)
    (hafter : ∀ h, (r h).after = fun s => s := by exact fun _ => rfl)
    (hjudge : ∀ h s, accepts h s = true → pre s → (r h).judge (takenState h s) = none := by exact fun _ _ _ _ => rfl)
    (heffect : ∀ h s, accepts h s = true → pre s → (r h).effect (takenState h s) = (takenState h s, some { data := data s })
      := by exact fun _ _ _ _ => rfl) :
    Answers c op courses len pre data fun s t => Only [.courses] s t :=
  .of_reply r (fun _ s => s) (fun _ _ s0 g _ _ => (SameExcept.refl [] _).only_request s0 g)
    hrow hexec hafter hjudge heffect

/-- A request whose row has the effect `f` on outputs and answers OK. -/
theorem Answers.of_replyOut (r : Hdr → Req) (f : Hdr → State → State)
    (hpost : ∀ h s s0 g, accepts h s = true → pre s → post s (settle s0 (followLoops ((f h (takenState h s)).modCourse h.course g))))
    (hrow : ∀ h, (r h).IsRow op courses len := by exact fun _ => ⟨rfl, rfl, rfl, rfl, by decide⟩)
    (hexec : ∀ h s, exec (c h) s = requestOut (r h) (c h) h s := by exact fun _ _ => rfl)
    (hafter : ∀ h, (r h).after = fun s => s := by exact fun _ => rfl)
    (hjudge : ∀ h s, accepts h s = true → pre s → (r h).judge (takenState h s) = none := by exact fun _ _ _ _ => rfl)
    (heffect : ∀ h s, accepts h s = true → pre s → (r h).effect (takenState h s) = (f h (takenState h s), some { data := data s })
      := by exact fun _ _ _ _ => rfl) :
    Answers c op courses len pre data post := fun h s hasked hpre =>
  have haccepts := accepts_of_asked hasked
  let ⟨g, hnext, hreplied⟩ := (hrow h).repliesOut (hexec h s) hasked (hjudge h _ haccepts hpre) (heffect h _ haccepts hpre) (hafter h)
  ⟨_, hnext, hreplied, hpost h _ s g haccepts hpre⟩

/-- A long request whose row has the effect `f`. -/
theorem Begins.of_effect (r : Hdr → Req) (f : Hdr → State → State)
    (hpost : ∀ h s s0 g, accepts h s = true → pre s → post s (settle s0 ((f h (takenState h s)).modCourse h.course g)))
    (hrow : ∀ h, (r h).IsRow op courses len := by exact fun _ => ⟨rfl, rfl, rfl, rfl, by decide⟩)
    (hexec : ∀ h s, exec (c h) s = request (r h) (c h) h s := by exact fun _ _ => rfl)
    (hjudge : ∀ h s, accepts h s = true → pre s → (r h).judge (takenState h s) = none := by exact fun _ _ _ _ => rfl)
    (heffect : ∀ h s, accepts h s = true → pre s → (r h).effect (takenState h s) = (f h (takenState h s), none)
      := by exact fun _ _ _ _ => rfl) :
    Begins c op courses len pre post := fun h s hasked hpre =>
  have haccepts := accepts_of_asked hasked
  ⟨_, (hrow h).begins (hexec h s) hasked (hjudge h _ haccepts hpre) (heffect h _ haccepts hpre), by simp, hpost h _ s _ haccepts hpre⟩

end

end Sys2Proof.Machine
end

section
/-! Requests that read (Tables 14-3 to 14-15): each row's data are those of the state, and nothing but the course changes. -/

namespace Sys2Proof.Machine

theorem noEmmc_eq_false {s : State} : noEmmc s = false ↔ s.start.maint = false ∨ s.start.emmc = true := by
  cases hmaint : s.start.maint <;> simp [noEmmc, hmaint]

/-- REVISION is read in every awake state. -/
theorem windowWord_four {s : State} (hawake : awake s = true) :
    windowWord s 4 = pack [(s.storage.siRev, 0), (4, 8), (if s.start.maint then 0 else s.storage.fwBuild, 16)] := by
  simp only [awake, Bool.and_eq_true] at hawake
  simp [windowWord, hawake.1]

theorem windowWord_four_taken {h : Hdr} {s : State} (haccepts : accepts h s = true) : windowWord (takenState h s) 4
    = pack [(s.storage.siRev, 0), (4, 8), (if s.start.maint then 0 else s.storage.fwBuild, 16)] := by
  have hawake : awake (takenState h s) = true := by simpa [awake] using awake_of_accepts haccepts
  rw [windowWord_four hawake]; rfl

/-- Settles O1: each row reads what its table lists. -/
theorem identityReads : Obligations.IdentityReads := by
  unfold Obligations.IdentityReads
  refine ⟨?_, ?_, .of_read fun _ => reqCfgInfo, fun slot offset count => ?_, ?_⟩
  · refine .of_read (fun _ => reqSysInfo) (heffect := fun h s haccepts ⟨hactive, hmember⟩ => ?_)
    simp [reqSysInfo, windowWord_four_taken haccepts, hactive, hmember, okData]
  · refine .of_read (fun _ => reqSysInfo) (heffect := fun h s haccepts hactive => ?_)
    simp [reqSysInfo, windowWord_four_taken haccepts, hactive, okData]
  · refine .of_read (fun _ => reqCfgRead slot offset count) (hjudge := fun h s _ ⟨hslot, hlo, hhi, hsize⟩ => ?_)
    have hsame : readSlot (takenState h s) slot = readSlot s slot := rfl
    simp [reqCfgRead, hsame, hslot, hlo, hhi, hsize]
  · refine .of_read (fun _ => reqMntInfo) (heffect := fun h s _ hemmc => ?_)
    have hsame : noEmmc (takenState h s) = false := noEmmc_eq_false.mpr hemmc
    simp only [reqMntInfo, hsame, Bool.false_eq_true, if_false]
    rfl

end Sys2Proof.Machine
end

section
/-! Reads of elements (Tables 14-9, 14-10, 14-12). -/

namespace Sys2Proof.Machine

theorem lead_of_alone {s : State} (halone : s.cfg.package.member = false) : s.lead = false := by simp [State.lead, halone]

theorem follower_of_alone {s : State} (halone : s.cfg.package.member = false) : s.follower = false := by
  simp [State.follower, halone]

/-- R413: a package outside a system has the units 0 to 127. -/
theorem unitRef_of_alone {s : State} {u : Nat} (halone : s.cfg.package.member = false) (hu : u < 128) : unitRef s u = .own u := by
  simp [unitRef, follower_of_alone halone, hu]

theorem unitBeyond_of_alone {s : State} {u : Nat} (halone : s.cfg.package.member = false) (hu : u < 128) : unitBeyond s u = false := by
  rw [unitBeyond, unitRef_of_alone halone hu]
  rfl

theorem ownUnit_of_alone {s : State} {u : Nat} (halone : s.cfg.package.member = false) (hu : u < 128) : ownUnit s u = u := by
  rw [ownUnit, unitRef_of_alone halone hu]

/-- Settles O2: each row reads what its table lists. -/
theorem elementReads : Obligations.ElementReads := by
  unfold Obligations.ElementReads
  refine ⟨fun first count sense => ?_, fun unit => ?_, fun first count => ?_, fun first count sense => ?_,
    .of_read fun _ => reqSwVentRead, .of_read fun _ => reqSwLimpFuseRead, fun sense => .of_read fun _ => reqIoOutputRead sense,
    fun sense => .of_read fun _ => reqIoInputRead sense, .of_read fun _ => reqIoAnalogRead⟩
  · refine .of_read (fun h => reqUnitStatusRead h first count sense)
      (hjudge := fun h s _ ⟨halone, hlo, hhi, hend⟩ => ?_) (heffect := fun h s _ ⟨halone, hlo, hhi, hend⟩ => ?_)
    · have halone' : (takenState h s).cfg.package.member = false := halone
      have hlast : (first + count - 1) / 128 = 0 := Nat.div_eq_of_lt (by omega)
      have hfirst : first / 128 = 0 := Nat.div_eq_of_lt (by omega)
      simp [reqUnitStatusRead, unitBeyond_of_alone halone', hfirst, hlast, hlo, hhi, show first < 128 by omega,
        show first + count - 1 < 128 by omega]
    · simp only [reqUnitStatusRead, unitRef_of_alone (s := takenState h s) halone (show first < 128 by omega)]
      rfl
  · refine .of_read (fun h => reqUnitLatencyRead h unit)
      (hjudge := fun h s _ ⟨halone, hu⟩ => ?_) (heffect := fun h s _ ⟨halone, hu⟩ => ?_)
    · have halone' : (takenState h s).cfg.package.member = false := halone
      simp [reqUnitLatencyRead, unitBeyond_of_alone halone' hu]
    · simp only [reqUnitLatencyRead, unitRef_of_alone (s := takenState h s) halone hu]
      rfl
  · exact .of_read (fun _ => reqLoopStatusRead first count)
      (hjudge := fun h s _ ⟨hlo, hhi, hend⟩ => by simp [reqLoopStatusRead, hlo, hhi, hend])
  · exact .of_read (fun _ => reqSwStatusRead first count sense)
      (hjudge := fun h s _ ⟨hlo, hend⟩ => by simp [reqSwStatusRead, hlo, hend, show count ≤ 24 by omega])

/-- Settles O3: each row reads what its table lists. -/
theorem systemReads : Obligations.SystemReads := by
  unfold Obligations.SystemReads
  refine ⟨.of_read fun _ => reqNavStatusRead, fun scope product unit => ?_, fun ctrl => ?_, ?_, fun first count => ?_,
    fun first h s hasked => ?_⟩
  · refine .of_read (fun _ => reqCovCountersRead scope product unit) (hjudge := fun h s _ ⟨hproduct, hscope⟩ => ?_)
    have hsame : (takenState h s).sectionUnits = s.sectionUnits := rfl
    obtain hscope | ⟨rfl, hunit⟩ := hscope
    · simp [reqCovCountersRead, hproduct, show scope ≤ 2 by omega, show scope ≠ 2 by omega]
    · simp [reqCovCountersRead, hproduct, hsame, hunit]
  · exact .of_read (fun _ => reqBusStatusRead ctrl) (hjudge := fun h s _ hctrl => by simp [reqBusStatusRead, hctrl])
  · refine .of_read (fun _ => reqBusSystemRead) (heffect := fun h s _ halone => ?_)
    have hlead := lead_of_alone (s := takenState h s) halone
    have hfollower := follower_of_alone (s := takenState h s) halone
    have hmember : (takenState h s).cfg.package.member = false := halone
    simp only [reqBusSystemRead, heardMembers, tokenSum, hlead, hfollower, hmember, Bool.false_eq_true, if_false]
    rfl
  · exact .of_read (fun _ => reqEvtCountersRead first count)
      (hjudge := fun h s _ ⟨hlo, hhi, hend⟩ => by simp [reqEvtCountersRead, hlo, hhi, hend])
  · have hrow : (reqRecFaultsRead first).IsRow 2564 15 (· == 4) := ⟨rfl, rfl, rfl, rfl, by decide⟩
    obtain ⟨g, hnext, hreplied⟩ := hrow.replies (c := .recFaultsRead h first) rfl hasked rfl rfl rfl
    exact ⟨_, hnext, hreplied, (SameExcept.refl [] _).only_request s g⟩

end Sys2Proof.Machine
end

section
/-! Requests to navigation and to the rate loops (Tables 14-6, 14-10). -/

namespace Sys2Proof.Machine

/-! ## Navigation -/

/-- Settles O7: each request sets its own fields of the navigation bank. -/
theorem navRequests : Obligations.NavRequests := by
  unfold Obligations.NavRequests
  refine ⟨fun rate rtk => ?_, fun consts ants => ?_, fun data => ?_, ?_⟩
  · refine .of_reply (fun _ => reqNavSubscribe rate rtk) (fun _ s => s.modNav fun n => { n with posRate := rate, rtk := rtk == 1 })
      (fun h s s0 g _ _ => ⟨by simp, (modNav_frame _ _).only_request s0 g⟩) (hjudge := fun h s _ ⟨hrate, hrtk, hpower⟩ => ?_)
    have hdozing : dozing (takenState h s) = false := by simpa [dozing] using hpower
    have hrate' : rate ∈ posRates := hrate
    simp [reqNavSubscribe, hdozing, hrate', hrtk]
  · refine .of_reply (fun _ => reqNavNavbitsSelect consts ants) (fun _ s => s.modNav fun n => { n with bitsConst := consts, bitsAnt := ants })
      (fun h s s0 g _ _ => ⟨by simp, (modNav_frame _ _).only_request s0 g⟩) (hjudge := fun h s _ ⟨hconsts, hants, hpower⟩ => ?_)
    have hdozing : dozing (takenState h s) = false := by simpa [dozing] using hpower
    simp [reqNavNavbitsSelect, hdozing, hconsts, hants]
  · refine .of_reply (fun _ => reqNavRtcm data) (fun _ s => s.modNav fun n => { n with rtcmStream := n.rtcmStream ++ data })
      (fun h s s0 g _ _ => ⟨by simp, (modNav_frame _ _).only_request s0 g⟩) (heffect := fun h s _ hsource => ?_)
    simp [reqNavRtcm, hsource, okReply]
  · exact .of_reply (fun _ => reqNavRetentionClear 0x9640A5A5) (fun _ s => s.modNav fun n => { n with retention := none })
      (fun h s s0 g _ _ => ⟨by simp, (modNav_frame _ _).only_request s0 g⟩) (hjudge := fun _ _ _ _ => by simp [reqNavRetentionClear])

/-! ## Rate loops -/

/-- LOOP_RATE_FACTORS: the factors of the units from `first` on, one after another (R273). -/
def withFactors (first : Nat) (fs : List (Nat × Nat)) (s : State) : State :=
  fs.foldl (fun s f => s.modUnit (first + f.2) fun x => { x with rateFactor := f.1 }) s

theorem withFactors_frame (first : Nat) (fs : List (Nat × Nat)) (s : State) : SameExcept [.units] s (withFactors first fs s) :=
  .foldl _ (fun s f => by exact modUnit_frame s (first + f.2) _) fs s

/-- In a package outside a system the units are named by their own numbers throughout (R413). -/
theorem factors_eq {s : State} {first : Nat} (halone : s.cfg.package.member = false) (hfirst : first < 128) (fs : List (Nat × Nat)) :
    fs.foldl (fun s f => s.modUnit (ownUnit s first + f.2) fun x => { x with rateFactor := f.1 }) s = withFactors first fs s := by
  induction fs generalizing s with
  | nil => rfl
  | cons f fs ih =>
    rw [List.foldl_cons, ownUnit_of_alone halone hfirst]
    exact ih halone

theorem withFactors_unit_of_lt {first i u : Nat} (fs : List Nat) (s : State) (hu : u < first + i) :
    (withFactors first (fs.zipIdx i) s).unit u = s.unit u := by
  induction fs generalizing i s with
  | nil => rfl
  | cons f fs ih =>
    rw [List.zipIdx_cons]
    refine (ih _ (show u < first + (i + 1) by omega)).trans ?_
    exact State.modUnit_unit_of_ne _ _ _ (by simp; omega)

theorem withFactors_unit_of_ge {first i u : Nat} (fs : List Nat) (s : State) (hu : first + i + fs.length ≤ u) :
    (withFactors first (fs.zipIdx i) s).unit u = s.unit u := by
  induction fs generalizing i s with
  | nil => rfl
  | cons f fs ih =>
    rw [List.length_cons] at hu
    rw [List.zipIdx_cons]
    refine (ih _ (show first + (i + 1) + fs.length ≤ u by omega)).trans ?_
    exact State.modUnit_unit_of_ne _ _ _ (by simp; omega)

theorem withFactors_rateFactor {first i k : Nat} (fs : List Nat) (s : State) (hk : k < fs.length) :
    ((withFactors first (fs.zipIdx i) s).unit (first + i + k)).rateFactor = nth fs 0 k := by
  induction fs generalizing i k s with
  | nil => simp at hk
  | cons f fs ih =>
    rw [List.zipIdx_cons]
    cases k with
    | zero =>
      refine (congrArg UnitSt.rateFactor (withFactors_unit_of_lt fs _ (by omega))).trans ?_
      simp [nth]
    | succ k =>
      have htail := ih (i := i + 1) (s.modUnit (first + i) fun x => { x with rateFactor := f }) (by simpa using hk)
      rw [show first + (i + 1) + k = first + i + (k + 1) by omega] at htail
      exact htail.trans (by simp [nth])

/-- One loop's state after a request that writes that loop alone. -/
theorem onlyLoop {l : Nat} {f : LoopSt → LoopSt} {h : Hdr} {s s0 : State} {g : Course → Course} :
    (∀ k, k ≠ l → (settle s0 (((takenState h s).modLoop l f).modCourse h.course g)).loop k = s.loop k)
      ∧ Only [.courses, .loops] s (settle s0 (((takenState h s).modLoop l f).modCourse h.course g)) :=
  ⟨fun k hk => by simp [hk], (modLoop_frame _ _ _).only_request s0 g⟩

/-- Settles O13: each request writes its own fields of the loop or the units that it names. -/
theorem loopRequests : Obligations.LoopRequests := by
  unfold Obligations.LoopRequests
  refine ⟨fun l mode manual => ?_, fun l manual => ?_, fun l v => ?_, fun l v => ?_, fun l v => ?_, fun l code v => ?_,
    fun p rate => ?_, fun p first fs => ?_⟩
  · refine .of_reply (fun _ => reqLoopMode l mode 0 manual) (fun _ => askMode l mode 0 manual)
      (fun h s s0 g _ _ => ⟨by simp [askMode], by simp [askMode], fun hmode => by simp [askMode, hmode, bitAt], onlyLoop⟩)
      (hjudge := fun h s _ ⟨hloop, hmode, hheld⟩ => ?_)
    have hloop' : noLoop (takenState h s) l = false := hloop
    have hlocked : (s.loop l).deviceHold = true → mode ≤ 1 := fun hlock => by simpa [hlock] using hheld
    simpa [reqLoopMode, hloop', hmode, bitAt] using hlocked
  · refine .of_reply (fun _ => reqLoopMode l 1 1 manual) (fun _ => askMode l 1 1 manual)
      (fun h s s0 g _ _ => ⟨by simp [askMode, loopModeOf], by simp [askMode, bitAt], onlyLoop.2⟩) (hjudge := fun h s _ hloop => ?_)
    have hloop' : noLoop (takenState h s) l = false := hloop
    simp [reqLoopMode, hloop']
  · refine .of_reply (fun _ => reqLoopManual l v) (fun _ s => s.modLoop l fun x => { x with manual := v })
      (fun h s s0 g _ _ => ⟨by simp, onlyLoop⟩) (hjudge := fun h s _ ⟨hloop, hmode⟩ => ?_)
    have hloop' : noLoop (takenState h s) l = false := hloop
    simp [reqLoopManual, hloop', hmode]
  · refine .of_reply (fun _ => reqLoopSetpoint l v) (fun _ s => s.modLoop l fun x => { x with sp := v })
      (fun h s s0 g _ _ => ⟨by simp, onlyLoop⟩) (hjudge := fun h s _ ⟨hloop, htrim⟩ => ?_)
    have hloop' : noLoop (takenState h s) l = false := hloop
    have htrim' : trimming (takenState h s) l = false := htrim
    simp [reqLoopSetpoint, hloop', htrim']
  · refine .of_reply (fun _ => reqLoopCoefWrite l 0 v) (fun _ => queueWrite l 0 v)
      (fun h s s0 g _ ⟨_, _, hmode, _⟩ => ⟨by simp [queueWrite, hmode, LoopSt.write, setParam, restartsPlaus], onlyLoop⟩)
      (hjudge := fun h s _ ⟨hloop, hok, _, hwrites⟩ => ?_)
    have hloop' : noLoop (takenState h s) l = false := hloop
    have hok' : writeOk (takenState h s) l 0 v = true := hok
    simp [reqLoopCoefWrite, hloop', hok', hwrites]
  · refine .of_reply (fun _ => reqLoopCoefWrite l code v) (fun _ => queueWrite l code v)
      (fun h s s0 g _ ⟨_, _, hmode, _⟩ => ⟨by simp [queueWrite, hmode], onlyLoop⟩)
      (hjudge := fun h s _ ⟨hloop, hok, _, hwrites⟩ => ?_)
    have hloop' : noLoop (takenState h s) l = false := hloop
    have hok' : writeOk (takenState h s) l code v = true := hok
    have hroom : decide (16 ≤ ((takenState h s).loop l).writes.length) = false := decide_eq_false (Nat.not_le.mpr hwrites)
    simp only [reqLoopCoefWrite, hloop', hok', hroom]
    rfl
  · refine .of_reply (fun _ => reqLoopRateSet p rate) (fun _ s => { s with rates := tset s.rates p rate })
      (fun h s s0 g _ _ => ⟨by simp, fun q hq => by simp [tget_tset_of_ne _ _ _ hq], by simp, ?_⟩)
      (hjudge := fun h s _ hp => by simp [reqLoopRateSet, hp])
    have hframe : SameExcept [.rates] (takenState h s) { takenState h s with rates := tset (takenState h s).rates p rate } := by
      intro b hb
      cases b <;> simp_all [Bank.same]
    exact hframe.only_request s0 g
  · refine .of_reply (fun _ => reqLoopRateFactors p first fs.length fs) (fun _ => withFactors first fs.zipIdx)
      (fun h s s0 g _ ⟨_, _, _, hend, _⟩ => ⟨fun k hk => ?_, fun u hu => ?_, (withFactors_frame first _ _).only_request s0 g⟩)
      (hjudge := fun h s _ ⟨halone, hp, hlo, hend, hfs⟩ => ?_) (heffect := fun h s _ ⟨halone, hp, hlo, hend, hfs⟩ => ?_)
    · simpa using withFactors_rateFactor (first := first) (i := 0) fs (takenState h s) hk
    · rcases hu with hu | hu
      · simpa using withFactors_unit_of_lt (first := first) (i := 0) fs (takenState h s) hu
      · simpa using withFactors_unit_of_ge (first := first) (i := 0) fs (takenState h s) hu
    · have hfirst : ownUnit (takenState h s) first = first := ownUnit_of_alone halone (by omega)
      have hlast : ownUnit (takenState h s) (first + fs.length - 1) = first + fs.length - 1 := ownUnit_of_alone halone (by omega)
      have hcount : fs.length ≤ 128 := by omega
      have hend' : first + fs.length - 1 ≤ 127 := by omega
      simpa [reqLoopRateFactors, hfirst, hlast, hp, hlo, hcount, hend', show first ≤ 127 by omega] using hfs
    · exact congrArg (·, okReply) (factors_eq (s := takenState h s) halone (show first < 128 by omega) _)

end Sys2Proof.Machine
end

section
/-! Long requests: what ends one, and where its reply stands (R412). -/

namespace Sys2Proof.Machine

/-- The long request of opcode `op` on course `n`, if there is one, ends with the reply `r`. -/
def endLongOn (op : Nat) (r : Reply) (s : State) (n : Nat) : State :=
  match (s.course n).long with
  | some (h, o) => if o = op then sendReply h op r true (s.modCourse n fun c => { c with long := none }) else s
  | none => s

section
variable {op : Nat} {r : Reply} {s : State} {m n : Nat} {h : Hdr}

theorem course_long_sendReply (h : Hdr) (op : Nat) (r : Reply) (cache : Bool) (s : State) (n : Nat) :
    ((sendReply h op r cache s).course n).long = (s.course n).long := by
  by_cases hn : n = h.course
  · subst hn
    cases cache <;> simp [sendReply, putMsg]
  · cases cache <;> simp [sendReply, putMsg, State.modCourse_course_of_ne _ _ _ hn]

theorem endLongOn_of_long (hlong : (s.course n).long = some (h, op)) :
    endLongOn op r s n = sendReply h op r true (s.modCourse n fun c => { c with long := none }) := by
  simp [endLongOn, hlong]

/-- A course carries on its long request, or has ended it as one of opcode `op`. -/
theorem endLongOn_cases (op : Nat) (r : Reply) (s : State) (m : Nat) :
    endLongOn op r s m = s ∨ ∃ h, endLongOn op r s m = sendReply h op r true (s.modCourse m fun c => { c with long := none }) := by
  unfold endLongOn
  split
  · split
    · exact .inr ⟨_, rfl⟩
    · exact .inl rfl
  · exact .inl rfl

theorem endLongOn_frame (op : Nat) (r : Reply) (s : State) (m : Nat) : SameExcept [.courses] s (endLongOn op r s m) := by
  obtain heq | ⟨h, heq⟩ := endLongOn_cases op r s m
  · rw [heq]; exact .refl _ s
  · rw [heq]; exact (modCourse_frame _ _ _).trans (sendReply_frame _ _ _ _ _)

theorem endLong_frame (op : Nat) (r : Reply) (s : State) : SameExcept [.courses] s (endLong op r s) :=
  .foldl _ (endLongOn_frame op r) _ s

theorem endLongOn_long_of_ne (hn : n ≠ m) : ((endLongOn op r s m).course n).long = (s.course n).long := by
  obtain heq | ⟨h, heq⟩ := endLongOn_cases op r s m
  · rw [heq]
  · rw [heq, course_long_sendReply, State.modCourse_course_of_ne _ _ _ hn]

theorem endLongOn_long_none (hnone : (s.course n).long = none) : ((endLongOn op r s m).course n).long = none := by
  by_cases hn : n = m
  · subst hn
    simp [endLongOn, hnone]
  · rw [endLongOn_long_of_ne hn, hnone]

theorem Replied.modCourse {x : Reply} {o : Nat} (hreplied : Replied h o x s) (g : Course → Course)
    (hring : (g (s.course m)).ring = (s.course m).ring) : Replied h o x (s.modCourse m g) := by
  obtain ⟨msg, hmsg, hbody⟩ := hreplied
  refine ⟨msg, ?_, hbody⟩
  by_cases hm : h.course = m
  · rw [hm] at hmsg ⊢
    rwa [State.modCourse_course_self, hring]
  · rwa [State.modCourse_course_of_ne _ _ _ hm]

theorem Replied.sendReply {x y : Reply} {o p : Nat} {h' : Hdr} (hreplied : Replied h o x s) : Replied h o x (sendReply h' p y true s) := by
  rw [Machine.sendReply, if_pos rfl]
  exact (hreplied.putMsg _ _ _ _).modCourse _ rfl

theorem Replied.endLongOn {x : Reply} {o : Nat} (hreplied : Replied h o x s) : Replied h o x (endLongOn op r s m) := by
  obtain heq | ⟨h', heq⟩ := endLongOn_cases op r s m
  · rw [heq]; exact hreplied
  · rw [heq]
    exact (hreplied.modCourse (m := m) (fun c => { c with long := none }) rfl).sendReply

theorem endLong_keeps (hreplied : Replied h op r s) (hnone : (s.course n).long = none) (ms : List Nat) :
    Replied h op r (ms.foldl (endLongOn op r) s) ∧ ((ms.foldl (endLongOn op r) s).course n).long = none := by
  induction ms generalizing s with
  | nil => exact ⟨hreplied, hnone⟩
  | cons m ms ih => exact ih hreplied.endLongOn (endLongOn_long_none hnone)

theorem endLong_ends (hlong : (s.course n).long = some (h, op)) {ms : List Nat} (hn : n ∈ ms) :
    Replied h op r (ms.foldl (endLongOn op r) s) ∧ ((ms.foldl (endLongOn op r) s).course n).long = none := by
  induction ms generalizing s with
  | nil => simp at hn
  | cons m ms ih =>
    by_cases hm : n = m
    · subst hm
      rw [List.foldl_cons, endLongOn_of_long hlong]
      refine endLong_keeps (replied_sendReply h op r true _) ?_ ms
      rw [course_long_sendReply, State.modCourse_course_self]
    · refine ih ((endLongOn_long_of_ne hm).trans hlong) ?_
      simpa [hm] using hn

end

/-! ## What leaves long requests alone -/

/-- Every course carries on the long request that it carried on before. -/
def LongKept (s t : State) : Prop := ∀ n, (t.course n).long = (s.course n).long

theorem LongKept.refl (s : State) : LongKept s s := fun _ => rfl

theorem LongKept.trans {s t u : State} (h : LongKept s t) (k : LongKept t u) : LongKept s u := fun n => (k n).trans (h n)

theorem LongKept.of_courses {s t : State} (hcourses : t.host.courses = s.host.courses) : LongKept s t := fun n => by
  simp [State.course, hcourses]

theorem LongKept.of_frame {bs : List Bank} {s t : State} (h : SameExcept bs s t) (hbanks : .courses ∉ bs) : LongKept s t :=
  .of_courses (h .courses hbanks)

theorem LongKept.ite {s t u : State} {p : Prop} [Decidable p] (h : LongKept s t) (k : LongKept s u) : LongKept s (if p then t else u) := by
  split
  · exact h
  · exact k

theorem LongKept.foldl {α : Type} (f : State → α → State) (h : ∀ s a, LongKept s (f s a)) (l : List α) (s : State) :
    LongKept s (l.foldl f s) := by
  induction l generalizing s with
  | nil => exact .refl s
  | cons a l ih => exact (h s a).trans (ih _)

theorem LongKept.modCourse (s : State) (m : Nat) {g : Course → Course} (hg : ∀ c, (g c).long = c.long) : LongKept s (s.modCourse m g) := by
  intro n
  by_cases hn : n = m
  · rw [hn, State.modCourse_course_self, hg]
  · rw [State.modCourse_course_of_ne _ _ _ hn]

theorem addPending_long (n op : Nat) (p : List Byte) (s : State) : LongKept s (addPending n op p s) := by
  unfold addPending
  simp only
  split
  · exact .modCourse s n fun _ => rfl
  · split
    · exact (LongKept.modCourse s n fun _ => by rfl).trans (.of_frame (edge_frame _ _ _ _) (by decide))
    · exact .modCourse s n fun _ => rfl

theorem notify_long (n op : Nat) (p : List Byte) (s : State) : LongKept s (notify n op p s) := by
  unfold notify
  split
  · exact .refl s
  · split
    · exact .modCourse s n fun _ => rfl
    · exact addPending_long n op p s

/-- Every long request of opcode `op` is done when it is ended, whatever was done before it and left long requests alone. -/
theorem LongDone.of_endLong {op : Nat} {r : Reply} {s s1 s0 : State} (hkept : LongKept s s1) :
    LongDone op r s (settle s0 (endLong op r s1)) := by
  intro n h hn hlong _
  have hlong' : (s1.course n).long = some (h, op) := (hkept n).trans hlong
  obtain ⟨hreplied, hnone⟩ := endLong_ends (r := r) hlong' (ms := [0, 1, 2, 3]) (by simp; omega)
  exact ⟨hreplied.of_courses (settle_courses _ _), by rw [settle_course]; exact hnone⟩

end Sys2Proof.Machine
end

section
/-! The recorder's own operations: counting time, storing records, freeze and thaw (R491, R495, R496, R500). -/

namespace Sys2Proof.Machine

theorem countTime_frame (s : State) : SameExcept [.recorder] s (countTime s) := by
  unfold countTime
  simp only
  split
  · exact (addTotal_frame _ _ s).trans (modRec_frame _ _)
  · exact modRec_frame s _

theorem store_frame (r : RecRecord) (s : State) : SameExcept [.recorder] s (store r s) :=
  .ite (.refl _ s) (modRec_frame s _)

theorem freeze_frame (s : State) : SameExcept [.recorder, .events] s (freeze s) :=
  .ite (.refl _ s) ((countTime_frame s).append (modRec_frame _ _) |>.append (setLevel_frame _ _ _ _) |>.mono (by decide))

theorem thaw_frame (s : State) : SameExcept [.recorder, .events] s (thaw s) := by
  unfold thaw
  split
  · exact .refl _ s
  · exact (countTime_frame s).append (modRec_frame _ _) |>.append (.foldl _ (fun s p => store_frame p s) _ _)
      |>.append (modRec_frame _ _) |>.append (setLevel_frame _ _ _ _) |>.mono (by decide)

theorem makeRoom_keeps (kind : Nat) (r : Recorder) : (makeRoom kind r).frozenAt = r.frozenAt ∧ (makeRoom kind r).shLifetime = r.shLifetime
    ∧ (makeRoom kind r).pending = r.pending := by
  unfold makeRoom
  split <;> exact ⟨rfl, rfl, rfl⟩

/-- A recorder that is not frozen has no shadows and no pending records (R496). -/
def Thawed (r : Recorder) : Prop := r.frozenAt = none ∧ r.shLifetime = none ∧ r.pending = []

theorem Thawed.makeRoom {r : Recorder} (h : Thawed r) (kind : Nat) : Thawed (makeRoom kind r) := by
  obtain ⟨hfrozen, hshadow, hpending⟩ := makeRoom_keeps kind r
  exact ⟨hfrozen.trans h.1, hshadow.trans h.2.1, hpending.trans h.2.2⟩

theorem Thawed.roomed {r : Recorder} {p : Prop} [Decidable p] (kind : Nat) (h : Thawed r) :
    Thawed (if p then Machine.makeRoom kind r else r) := by
  split
  · exact h.makeRoom kind
  · exact h

theorem Thawed.store {s : State} (h : Thawed s.recorder) (r : RecRecord) : Thawed (store r s).recorder := by
  unfold Machine.store
  split
  · exact h
  · have hroom := h.makeRoom r.kind
    simp only [State.modRec_recorder_self]
    split <;> exact hroom

theorem Thawed.stores {s : State} (h : Thawed s.recorder) (rs : List RecRecord) : Thawed (rs.foldl (fun s r => Machine.store r s) s).recorder := by
  induction rs generalizing s with
  | nil => exact h
  | cons r rs ih => exact ih (h.store r)

theorem setLevel_recorder (n p : Nat) (on : Bool) (s : State) : (setLevel n p on s).recorder = s.recorder :=
  setLevel_frame n p on s .recorder (by decide)

theorem thaw_thawed {s : State} (hfrozen : s.recorder.frozenAt.isSome = true) : Thawed (thaw s).recorder := by
  unfold thaw
  split
  case h_1 hnone => simp [hnone] at hfrozen
  case h_2 =>
    simp only [setLevel_recorder, State.modRec_recorder_self]
    exact .roomed 1 (.roomed 0 (.stores ⟨rfl, rfl, rfl⟩ _))

theorem freeze_recorder {s : State} (hthawed : s.recorder.frozenAt = none) :
    (freeze s).recorder.frozenAt = some s.devtime ∧ (freeze s).recorder.shLifetime.isSome = true := by
  have htime : (countTime s).devtime = s.devtime := countTime_frame s .time (by decide)
  simp [freeze, hthawed, setLevel_recorder, htime]

end Sys2Proof.Machine
end

section
/-! Requests to the recorder and for maintenance (Tables 14-14, 14-15). -/

namespace Sys2Proof.Machine

theorem setFwSlot_frame (k : Nat) (c : FwSlot) (s : State) : SameExcept [.storage] s (setFwSlot k c s) := modStore_frame s _

theorem setCfgSlot_frame (k : Nat) (c : CfgSlot) (s : State) : SameExcept [.storage] s (setCfgSlot k c s) := modStore_frame s _

theorem fwSlot_of_storage {s t : State} (hstorage : t.storage = s.storage) (k : Nat) : fwSlot t k = fwSlot s k := by
  simp [fwSlot, hstorage]

theorem cfgSlot_of_storage {s t : State} (hstorage : t.storage = s.storage) (k : Nat) : cfgSlot t k = cfgSlot s k := by
  simp [cfgSlot, hstorage]

theorem fwSlot_setFwSlot (k : Nat) (c : FwSlot) (s : State) : fwSlot (setFwSlot k c s) k = c := by
  by_cases hk : k = 0 <;> simp [fwSlot, setFwSlot, hk]

theorem cfgSlot_setCfgSlot (k : Nat) (c : CfgSlot) (s : State) : cfgSlot (setCfgSlot k c s) k = c := by
  by_cases hk : k = 0 <;> simp [cfgSlot, setCfgSlot, hk]

/-- R418: a write at the end of what is staged keeps the rules. -/
theorem stageOk_next {size done len : Nat} (hfits : done + len ≤ size) (hwords : len % 4 = 0) : stageOk size done done len = true := by
  simp [stageOk, hfits, hwords]

/-- Settles O17: each request changes the recorder, or the storage, as its rule says. -/
theorem recorderMaintenance : Obligations.RecorderMaintenance := by
  unfold Obligations.RecorderMaintenance
  refine ⟨?_, ?_, fun size => ?_, fun size done data => ?_, fun fw size bytes => ?_, fun mib => ?_, fun key => ?_⟩
  · refine .of_reply (fun _ => reqRecFreeze) (fun _ => freeze) (fun h s s0 g _ hthawed => ?_)
    obtain ⟨hfrozen, hshadow⟩ := freeze_recorder (s := takenState h s) hthawed
    refine ⟨by simpa using hfrozen, by simpa using hshadow, ?_⟩
    exact ((freeze_frame (takenState h s)).only_request s0 g).mono (by decide)
  · refine .of_reply (fun _ => reqRecThaw) (fun _ => thaw) (fun h s s0 g _ ⟨hfrozen, _⟩ => ?_)
      (heffect := fun h s _ ⟨_, hstopped⟩ => ?_)
    · simpa [Thawed] using thaw_thawed (s := takenState h s) hfrozen
    · have hstopped' : partitionStopped (takenState h s) recorderPartition = false := hstopped
      simp [reqRecThaw, hstopped', okReply]
  · refine .of_reply (fun _ => reqMntFwBegin size)
      (fun _ s => setFwSlot (spareFw s) { st := 1 } (s.modStore fun x => { x with fwStaging := some (size, []) }))
      (fun h s s0 g _ _ => ⟨?_, ?_, ?_⟩) (hjudge := fun h s _ ⟨hlo, hhi, _⟩ => by simp [reqMntFwBegin, hlo, hhi])
      (heffect := fun h s _ ⟨_, _, hemmc, hstopped⟩ => ?_)
    · simp [setFwSlot]
      split <;> rfl
    · rw [fwSlot_of_storage (s := setFwSlot (spareFw s) { st := 1 } ((takenState h s).modStore _)) (by simp; rfl)]
      exact fwSlot_setFwSlot _ _ _
    · exact ((modStore_frame (takenState h s) _).trans (setFwSlot_frame _ _ _)).only_request s0 g
    · have hemmc' : noEmmc (takenState h s) = false := hemmc
      have hstopped' : partitionStopped (takenState h s) (fwPartition (spareFw (takenState h s))) = false := hstopped
      simp only [reqMntFwBegin, hemmc', hstopped']
      rfl
  · refine .of_reply (fun _ => reqMntFwWrite done.length data)
      (fun _ s => s.modStore fun x => { x with fwStaging := x.fwStaging.map fun p => (p.1, p.2 ++ data) })
      (fun h s s0 g _ ⟨hstaging, _⟩ => ⟨by simp [hstaging], (modStore_frame _ _).only_request s0 g⟩)
      (hjudge := fun h s _ ⟨hstaging, hfits, hwords, _⟩ => ?_) (heffect := fun h s _ ⟨_, _, _, hemmc, hstopped⟩ => ?_)
    · simp [reqMntFwWrite, hstaging, stageOk_next hfits hwords]
    · have hemmc' : noEmmc (takenState h s) = false := hemmc
      have hstopped' : partitionStopped (takenState h s) (fwPartition (spareFw (takenState h s))) = false := hstopped
      simp only [reqMntFwWrite, hemmc', hstopped']
      rfl
  · refine .of_effect (fun _ => reqMntFwCommit fw)
      (fun _ s => s.modStore fun x => { x with fwCommitting := some (readFirmware ((x.fwStaging.map (·.2)).getD []) fw) })
      (fun h s s0 g _ ⟨hstaging, _⟩ => ⟨by simp [hstaging], (modStore_frame _ _).only_request s0 g⟩)
      (hjudge := fun h s _ ⟨hstaging, hfull⟩ => by simp [reqMntFwCommit, fwStaged, hstaging, hfull])
  · refine .of_effect (fun _ => reqMntPartition 0x50415254 mib) (fun _ s => s.modStore fun x => { x with partitioning := some mib })
      (fun h s s0 g _ _ => ⟨by simp, (modStore_frame _ _).only_request s0 g⟩)
      (hjudge := fun h s _ ⟨hlo, hhi, hcapacity, hmaint, _⟩ => ?_) (heffect := fun h s _ ⟨_, _, _, _, hemmc⟩ => ?_)
    · change (reqMntPartition 0x50415254 mib).judge s = none
      simp [reqMntPartition, hlo, hhi, hcapacity, hmaint]
    have hemmc' : noEmmc (takenState h s) = false := hemmc
    simp [reqMntPartition, hemmc']
  · refine .of_reply (fun _ => reqMntCfgKeyFuse key 0x4B455946) (fun _ s => s.modStore fun x => { x with keyHash := some (sha256 key) })
      (fun h s s0 g _ _ => ⟨by simp, (modStore_frame _ _).only_request s0 g⟩) (hjudge := fun h s _ ⟨hoff, hkey⟩ => ?_)
    have hoff' : allOff (takenState h s) = true := hoff
    simp [reqMntCfgKeyFuse, hoff', hkey]

end Sys2Proof.Machine
end

section
/-! Activation of a configuration (R373, R461): what it sets, and what the mode charges that follow may touch. -/

namespace Sys2Proof.Machine

/-! ## Charges and mode charges -/

theorem modEl_frame (k : Nat) (f : LedgerEl → LedgerEl) (s : State) : SameExcept [.ledger] s (modEl s k f) := modLedger_frame s _

theorem debit_frame (reserved : Bool) (s : State) (c : Charge) : SameExcept [.ledger] s (debit reserved s c) := modLedger_frame s _

theorem setPool_frame (pool : Nat) (derated : Bool) (s : State) : SameExcept [.ledger] s (setPool pool derated s) :=
  (modLedger_frame s _).trans (modEl_frame pkgKey _ _) |>.trans (modLedger_frame _ _)

theorem acquireBase_frame {u base : Nat} {reserved : Bool} {s t : State} (hok : acquireBase u base reserved s = .ok t) :
    SameExcept [.units, .clusters, .ledger] s t := by
  unfold acquireBase at hok
  simp only at hok
  split at hok
  · cases hok
  · simp only [Except.ok.injEq] at hok
    subst hok
    have hcharged : ∀ (cs cs' : List Charge) f, SameExcept [.units, .clusters, .ledger] s
        ((cs'.foldl (debit true) (cs.foldl (debit reserved) s)).modDrive u f) := fun cs cs' f =>
      ((SameExcept.foldl _ (debit_frame reserved) cs s).trans (.foldl _ (debit_frame true) cs' _)).append (modUnit_frame _ u _)
        |>.mono (by decide)
    exact .ite (hcharged _ _ _) ((hcharged _ _ _).append (modCluster_frame _ _ _) |>.mono (by decide))

theorem enableMode_frame {u : Nat} {s t : State} (hok : enableMode u s = .ok t) : SameExcept [.units, .clusters, .ledger] s t := by
  unfold enableMode at hok
  simp only at hok
  split at hok
  · cases hok
  case h_2 s1 hacquired =>
    have henabled := fun f => (acquireBase_frame hacquired).append (modUnit_frame s1 u f)
    cases hok
    refine SameExcept.trans (t := ite _ _ _) ?_ ((updateRail_frame _ _).mono (by decide))
    exact .ite (((henabled _).append (regrid_frame _ _)).mono (by decide)) ((henabled _).mono (by decide))

theorem noteShort_frame (level : Nat) (s : State) : SameExcept [.zither] s (noteShort level s) := .ite (.refl _ s) (modZ_frame s _)

theorem creditShort_frame (u level need : Nat) (s : State) : SameExcept [.units, .courses, .events] s (creditShort u level need s) := by
  unfold creditShort
  refine .ite (.refl _ s) ?_
  exact (modUnit_frame s u _).append (notify_frame _ _ _ _) |>.append (edge_frame_own rfl) |>.mono (by decide)

theorem countRefusal_frame (u level need : Nat) (s : State) :
    SameExcept [.units, .courses, .events, .zither] s (countRefusal u level need s) :=
  .ite (.refl _ s) ((noteShort_frame level s).append (modUnit_frame _ u _) |>.append (modUnit_frame _ u _)
    |>.append (creditShort_frame u level need _) |>.mono (by decide))

theorem creditShort_long (u level need : Nat) (s : State) : LongKept s (creditShort u level need s) := by
  unfold creditShort
  refine .ite (.refl s) (.trans ?_ (.of_frame (edge_frame _ _ _ _) (by decide)))
  exact (LongKept.of_frame (modUnit_frame s u _) (by decide)).trans (notify_long _ _ _ _)

theorem countRefusal_long (u level need : Nat) (s : State) : LongKept s (countRefusal u level need s) := by
  refine .ite (.refl s) (.trans (.of_frame (bs := [.zither, .units]) ?_ (by decide)) (creditShort_long u level need _))
  exact (noteShort_frame level s).append (modUnit_frame _ u _) |>.append (modUnit_frame _ u _) |>.mono (by decide)

theorem requestModes_frame (s : State) :
    SameExcept [.units, .clusters, .ledger, .courses, .events, .zither] s (requestModes s) := by
  refine .foldl _ (fun s u => ?_) _ s
  simp only
  split
  · exact .refl _ s
  · split
    · exact (enableMode_frame ‹_›).mono (by decide)
    · exact ((modUnit_frame s u _).append (countRefusal_frame u _ _ _)).mono (by decide)

theorem requestModes_long (s : State) : LongKept s (requestModes s) := by
  refine .foldl _ (fun s u => ?_) s.usedUnits s
  simp only
  split
  · exact .refl s
  · split
    · exact .of_frame (enableMode_frame ‹_›) (by decide)
    · exact (LongKept.of_frame (modUnit_frame s u _) (by decide)).trans (countRefusal_long u _ _ _)

/-! ## Activation -/

theorem activateTokens_frame (anew : Bool) (s : State) : SameExcept [.ledger] s (activateTokens anew s) := by
  unfold activateTokens
  refine SameExcept.trans ?_ (setPool_frame _ _ _)
  exact .ite (modLedger_frame s _) (.ite (modLedger_frame s _) (modLedger_frame s _))

theorem activateEvents_frame (s : State) : SameExcept [.events] s (activateEvents s) :=
  (modEvents_frame s _).trans (.foldl _ (fun s _ => .ite (assertSource_frame _ _ _ _ _) (.refl _ s)) _ _)

/-- What an activation sets of the machine's frame. -/
structure Activated (img : Image) (slot : Nat) (s t : State) : Prop where
  cfg : t.cfg = img
  activeCfg : t.storage.activeCfg = slot
  start : t.start = { s.start with configActive := true, activating := none }
  host : t.host = { s.host with outputsEnabled := false }

theorem activate_activated (img : Image) (slot : Nat) (start : Bool) (s : State) : Activated img slot s (activate img slot start s) := by
  unfold activate
  have hframe := fun anew s2 => ((SameExcept.foldl _ (fun s d => modBoost_frame s d fun b => { b with running := boostWanted s d && !b.fault })
    [2, 3] s2).append (activateTokens_frame anew _)).append (activateEvents_frame _)
  exact ⟨hframe _ _ .cfg (by decide), congrArg StorageSt.activeCfg (hframe _ _ .storage (by decide)), hframe _ _ .start (by decide),
    (hframe _ _).host (by decide)⟩

theorem Activated.long {img : Image} {slot : Nat} {s t : State} (h : Activated img slot s t) : LongKept s t :=
  .of_courses (by rw [h.host])

theorem Activated.frame {bs : List Bank} {img : Image} {slot : Nat} {s t u : State} (h : Activated img slot s t) (k : SameExcept bs t u)
    (hcfg : .cfg ∉ bs) (hstorage : .storage ∉ bs) (hstart : .start ∉ bs) (hsession : .session ∉ bs) : u.cfg = img
    ∧ u.storage.activeCfg = slot ∧ u.start.configActive = true ∧ u.start.activating = none ∧ u.host.outputsEnabled = false := by
  have hcfg' : u.cfg = t.cfg := k .cfg hcfg
  have hstorage' : u.storage = t.storage := k .storage hstorage
  have hstart' : u.start = t.start := k .start hstart
  have houtputs : u.host.outputsEnabled = t.host.outputsEnabled := k.outputsEnabled hsession
  simp [hcfg', hstorage', hstart', houtputs, h.cfg, h.activeCfg, h.start, h.host]

/-! ## The end of an activation -/

/-- A staged image lies in its slot when it is activated (R373). -/
def storeStaged (img : Image) (k : Nat) (s : State) : State :=
  match s.storage.staging with
  | some (size, bytes) =>
    setCfgSlot k { st := 2, image := some img, bytes := bytes, size := size } (s.modStore fun x => { x with staging := none })
  | none => s

theorem storeStaged_frame (img : Image) (k : Nat) (s : State) : SameExcept [.storage] s (storeStaged img k s) := by
  unfold storeStaged
  split
  · exact (modStore_frame s _).trans (setCfgSlot_frame _ _ _)
  · exact .refl _ s

/-- The state in which the configuration is activated: the old modes' charges are released (R373). -/
def readyToActivate (img : Image) (k : Nat) (s : State) : State :=
  storeStaged img k ((upFrom 0 128).foldl (fun s u => releaseBase u s) s)

theorem readyToActivate_frame (img : Image) (k : Nat) (s : State) :
    SameExcept [.units, .clusters, .ledger, .storage] s (readyToActivate img k s) :=
  (SameExcept.foldl (fun s u => releaseBase u s) (fun s u => releaseBase_frame u s) (upFrom 0 128) s).append (storeStaged_frame img k _)

theorem finishActivation_eq {img : Image} {k : Nat} {s : State} (hactivating : s.start.activating = some (img, k)) :
    finishActivation s = endLong 516 {} (requestModes (activate img k false (readyToActivate img k s))) := by
  unfold finishActivation readyToActivate
  rw [hactivating]
  dsimp only
  generalize (upFrom 0 128).foldl (fun s u => releaseBase u s) s = s1
  rfl

/-! ## The life of a configuration -/

theorem checkImage_taken (h : Hdr) (s : State) (img : Image) : checkImage (takenState h s) img = checkImage s img := rfl

theorem exec_configurationActivationDone (τ : Nat) (s : State) :
    exec (.configurationActivationDone τ) s = .next (settle s (finishActivation (s.advance τ))) := by
  change execConfigurationActivationDone τ s = _
  rw [execConfigurationActivationDone, at_next]

/-- Settles O6: staging and committing change the storage and the start bank; the end of the activation sets what `Activated` lists. -/
theorem configurationLife : Obligations.ConfigurationLife := by
  unfold Obligations.ConfigurationLife
  refine ⟨fun size => ?_, fun size done data => ?_, fun img size bytes => ?_, fun img => ?_, fun img k => ?_⟩
  · refine .of_reply (fun _ => reqCfgBegin size)
      (fun _ s => setCfgSlot (otherSlot s) { st := 1 } (s.modStore fun x => { x with staging := some (size, []) }))
      (fun h s s0 g _ _ => ⟨?_, ?_, ?_⟩) (hjudge := fun h s _ ⟨hlo, hhi, hidle, _⟩ => ?_) (heffect := fun h s _ ⟨_, _, _, hstopped⟩ => ?_)
    · simp [setCfgSlot]
      split <;> rfl
    · rw [cfgSlot_of_storage (s := setCfgSlot (otherSlot s) { st := 1 } ((takenState h s).modStore _)) (by simp; rfl)]
      exact cfgSlot_setCfgSlot _ _ _
    · exact ((modStore_frame (takenState h s) _).trans (setCfgSlot_frame _ _ _)).only_request s0 g
    · simp [reqCfgBegin, cfgMax, hlo, hhi, hidle]
    · have hstopped' : partitionStopped (takenState h s) (cfgPartition (otherSlot (takenState h s))) = false := hstopped
      simp only [reqCfgBegin, hstopped']
      rfl
  · refine .of_reply (fun _ => reqCfgWrite done.length data)
      (fun _ s => s.modStore fun x => { x with staging := x.staging.map fun p => (p.1, p.2 ++ data) })
      (fun h s s0 g _ ⟨hstaging, _⟩ => ⟨by simp [hstaging], (modStore_frame _ _).only_request s0 g⟩)
      (hjudge := fun h s _ ⟨hstaging, hfits, hwords, _⟩ => ?_) (heffect := fun h s _ ⟨_, _, _, hstopped⟩ => ?_)
    · simp [reqCfgWrite, hstaging, stageOk_next hfits hwords]
    · have hstopped' : partitionStopped (takenState h s) (cfgPartition (otherSlot (takenState h s))) = false := hstopped
      simp only [reqCfgWrite, hstopped']
      rfl
  · refine .of_effect (fun _ => reqCfgVerify img) (fun _ s => s.modStore fun x => { x with verifying := some (stagedImage img s) })
      (fun h s s0 g _ ⟨hstaging, _⟩ => ⟨by simp [stagedImage, hstaging], (modStore_frame _ _).only_request s0 g⟩)
      (hjudge := fun h s _ ⟨hstaging, hfull⟩ => by simp [reqCfgVerify, staged, hstaging, hfull])
  · refine .of_effect (fun _ => reqCfgCommit 0 img)
      (fun _ s => s.modStart fun x => { x with activating := some (stagedImage img s, otherSlot s), configActive := false })
      (fun h s s0 g _ _ => ⟨by simp; exact ⟨rfl, rfl⟩, by simp, (modStart_frame _ _).only_request s0 g⟩)
      (hjudge := fun h s _ ⟨hstaged, hallowed, _⟩ => ?_) (heffect := fun h s _ ⟨hstaged, _, hpasses⟩ => ?_)
    · have hcommit : commitImg 0 img (takenState h s) = some (stagedImage img s) := if_pos hstaged
      have hallowed' : commitAllowed (takenState h s) = true := hallowed
      simp [reqCfgCommit, hcommit, hallowed']
    · have hcommit : commitImg 0 img (takenState h s) = some (stagedImage img s) := if_pos hstaged
      simp only [reqCfgCommit, hcommit, checkImage_taken, hpasses]
      rfl
  · refine .of_settle finishActivation (fun τ s _ => exec_configurationActivationDone τ s) fun s0 s hactivating => ?_
    have hactivated := activate_activated img k false (readyToActivate img k s)
    have hended := (requestModes_frame (activate img k false (readyToActivate img k s))).append (endLong_frame 516 {} _)
    obtain ⟨hcfg, hslot, hactive, hidle, houtputs⟩ := hactivated.frame hended (by decide) (by decide) (by decide) (by decide)
    have hkept : LongKept s (requestModes (activate img k false (readyToActivate img k s))) :=
      (LongKept.of_frame (readyToActivate_frame img k s) (by decide)).trans
        (hactivated.long.trans (requestModes_long _))
    rw [finishActivation_eq hactivating]
    exact ⟨by simpa using hcfg, by simpa using hslot, by simpa using hactive, by simpa using hidle, by simpa using houtputs,
      .of_endLong hkept⟩

end Sys2Proof.Machine
end

section
/-! What the end of a step leaves of the settings of sources and targets, and of the CAN controllers (R407, R461 to R477). -/

namespace Sys2Proof.Machine

/-! ## Settings of sources and targets -/

/-- No source's or target's setting has changed, and every new record was written now. -/
structure SettingsKept (s t : State) : Prop where
  devtime : t.devtime = s.devtime
  source : ∀ n, (t.src n).priority = (s.src n).priority ∧ (t.src n).target = (s.src n).target
  target : ∀ k, (t.tgt k).threshold = (s.tgt k).threshold ∧ (t.tgt k).wake = (s.tgt k).wake
  fresh : ∀ k, ∀ r ∈ (t.tgt k).queue, r ∈ (s.tgt k).queue ∨ r.writtenAt = s.devtime

section
variable {s t u : State}

theorem SettingsKept.refl (s : State) : SettingsKept s s :=
  ⟨rfl, fun _ => ⟨rfl, rfl⟩, fun _ => ⟨rfl, rfl⟩, fun _ _ => .inl⟩

theorem SettingsKept.trans (h : SettingsKept s t) (k : SettingsKept t u) : SettingsKept s u where
  devtime := k.devtime.trans h.devtime
  source n := ⟨(k.source n).1.trans (h.source n).1, (k.source n).2.trans (h.source n).2⟩
  target j := ⟨(k.target j).1.trans (h.target j).1, (k.target j).2.trans (h.target j).2⟩
  fresh j r hr := by
    rcases k.fresh j r hr with hr | hr
    · exact h.fresh j r hr
    · exact .inr (hr.trans h.devtime)

theorem SettingsKept.of_events (hevents : t.events = s.events) (hdevtime : t.devtime = s.devtime) : SettingsKept s t := by
  have hsrc : ∀ n, t.src n = s.src n := fun n => by rw [State.src, State.src, hevents]
  have htgt : ∀ k, t.tgt k = s.tgt k := fun k => by rw [State.tgt, State.tgt, hevents]
  exact ⟨hdevtime, fun n => by simp [hsrc], fun k => by simp [htgt], fun k r hr => .inl (htgt k ▸ hr)⟩

theorem SettingsKept.of_frame {bs : List Bank} (h : SameExcept bs s t) (hbanks : .events ∉ bs ∧ .time ∉ bs) : SettingsKept s t :=
  .of_events (h .events hbanks.1) (h .time hbanks.2)

theorem SettingsKept.ite {p : Prop} [Decidable p] (h : SettingsKept s t) (k : SettingsKept s u) : SettingsKept s (if p then t else u) := by
  split
  · exact h
  · exact k

theorem SettingsKept.foldl {α : Type} {f : State → α → State} (h : ∀ s a, SettingsKept s (f s a)) (l : List α) (s : State) :
    SettingsKept s (l.foldl f s) := by
  induction l generalizing s with
  | nil => exact .refl s
  | cons a r ih => exact (h s a).trans (ih (f s a))

end

theorem modSrc_settings (s : State) (n : Nat) {f : EvtSource → EvtSource}
    (hf : ∀ x, (f x).priority = x.priority ∧ (f x).target = x.target) : SettingsKept s (s.modSrc n f) where
  devtime := rfl
  source j := by
    by_cases hj : j = n
    · subst hj; simpa using hf _
    · simp [hj]
  target _ := ⟨rfl, rfl⟩
  fresh _ _ := .inl

theorem modTgt_settings (s : State) (k : Nat) {f : EvtTarget → EvtTarget}
    (hf : ∀ x, (f x).threshold = x.threshold ∧ (f x).wake = x.wake)
    (hfresh : ∀ x, ∀ r ∈ (f x).queue, r ∈ x.queue ∨ r.writtenAt = s.devtime) : SettingsKept s (s.modTgt k f) where
  devtime := rfl
  source _ := ⟨rfl, rfl⟩
  target j := by
    by_cases hj : j = k
    · subst hj; simpa using hf _
    · simp [hj]
  fresh j r hr := by
    by_cases hj : j = k
    · subst hj; exact hfresh _ r (by simpa using hr)
    · exact .inl (by simpa [hj] using hr)

theorem modEvents_settings (s : State) {f : Events → Events} (hsources : (f s.events).sources = s.events.sources)
    (htargets : (f s.events).targets = s.events.targets) : SettingsKept s (s.modEvents f) := by
  have hsrc : ∀ n, (s.modEvents f).src n = s.src n := fun n => by rw [State.src, State.src, State.modEvents_events_self, hsources]
  have htgt : ∀ k, (s.modEvents f).tgt k = s.tgt k := fun k => by rw [State.tgt, State.tgt, State.modEvents_events_self, htargets]
  exact ⟨rfl, fun n => by simp [hsrc], fun k => by simp [htgt], fun k r hr => .inl (htgt k ▸ hr)⟩

theorem addRecord_settings (s : State) (k : Nat) {r : EvtRecord} (hnow : r.writtenAt = s.devtime) :
    SettingsKept s (s.modTgt k fun x => { x with queue := x.queue ++ [r], overflow := false }) :=
  modTgt_settings s k (fun _ => ⟨rfl, rfl⟩) fun x r' hr => (List.mem_append.mp hr).imp_right fun hr => by
    rw [List.mem_singleton.mp hr, hnow]

theorem writeRecord_settings (n p : Nat) (late : Bool) (time : Nat) (s : State) : SettingsKept s (writeRecord n p late time s) := by
  unfold writeRecord
  simp only
  split
  · exact (modSrc_settings s n fun _ => by exact ⟨rfl, rfl⟩).trans (modTgt_settings _ _ (fun _ => by exact ⟨rfl, rfl⟩) fun _ _ => .inl)
  · have hmarked := modSrc_settings s n (f := fun x => { x with delivered := x.delivered + 1, inService := true, payload := p })
      fun _ => ⟨rfl, rfl⟩
    split
    · exact (hmarked.trans (addRecord_settings _ _ rfl)).trans (modEvents_settings _ rfl rfl)
    · exact hmarked.trans (addRecord_settings _ _ rfl)

theorem assertSource_settings (n p : Nat) (late : Bool) (time : Nat) (s : State) : SettingsKept s (assertSource n p late time s) :=
  .ite (modSrc_settings s n fun _ => by exact ⟨rfl, rfl⟩) (writeRecord_settings n p late time s)

theorem edgeAt_settings (time n inst code sev : Nat) (late : Bool) (s : State) : SettingsKept s (edgeAt time n inst code sev late s) := by
  unfold edgeAt
  split
  · split
    · exact .of_frame (latchEvent_frame _ _ _ _ _ _) (by decide)
    · exact modSrc_settings s n fun _ => by exact ⟨rfl, rfl⟩
  · exact assertSource_settings _ _ _ _ _

theorem setLevel_settings (n p : Nat) (on : Bool) (s : State) : SettingsKept s (setLevel n p on s) := by
  unfold setLevel
  simp only
  split
  · exact modSrc_settings s n fun _ => by exact ⟨rfl, rfl⟩
  · split
    · exact .refl s
    · have hactive := modSrc_settings s n (f := fun x => { x with active := true, payload := p }) fun _ => ⟨rfl, rfl⟩
      exact .ite hactive (hactive.trans (assertSource_settings _ _ _ _ _))

theorem dropRecords_settings (s : State) (k : Nat) {n : Nat} {f : EvtTarget → EvtTarget}
    (hf : ∀ x, (f x).threshold = x.threshold ∧ (f x).wake = x.wake) (hqueue : ∀ x, (f x).queue = x.queue.drop n) :
    SettingsKept s (s.modTgt k f) :=
  modTgt_settings s k hf fun x _ hr => .inl (List.mem_of_mem_drop (hqueue x ▸ hr))

theorem claimRecords_settings (k n : Nat) (s : State) : SettingsKept s (claimRecords k n s) := by
  unfold claimRecords
  simp only
  split
  · exact dropRecords_settings s k (fun _ => by exact ⟨rfl, rfl⟩) fun _ => by rfl
  · exact (dropRecords_settings s k (fun _ => by exact ⟨rfl, rfl⟩) fun _ => by rfl).trans
      (.foldl (fun s n => by exact .ite (assertSource_settings _ _ _ _ _) (.refl s)) _ _)

theorem closeCleared_settings (s : State) : SettingsKept s (closeCleared s) := by
  refine .foldl (fun s f => ?_) _ s
  split
  · unfold closeFault
    split
    · exact .refl s
    · exact (SettingsKept.of_frame (modFaults_frame s _) (by decide)).trans (edgeAt_settings _ _ _ _ _ _ _)
  · exact .refl s

theorem ringLevels_settings (s : State) : SettingsKept s (ringLevels s) := by
  unfold ringLevels
  split
  · exact .refl s
  · refine .foldl (fun s n => ?_) _ s
    simp only
    exact .ite (.refl s) (setLevel_settings _ _ _ s)

theorem gatewayLevels_settings (s : State) : SettingsKept s (gatewayLevels s) := by
  unfold gatewayLevels
  split
  · exact .refl s
  · refine .foldl (fun s n => ?_) _ s
    simp only
    exact .ite (.refl s) (setLevel_settings _ _ _ s)

theorem signals_settings (s : State) : SettingsKept s (signals s) := by
  unfold signals
  split
  · exact .refl s
  · have htgt : ∀ k, (s.modEvents fun e => { e with targets := e.targets.map fun p => (p.1, { p.2 with ne := signalOf p.2 s.devtime }) }).tgt k
        = { s.tgt k with ne := signalOf (s.tgt k) s.devtime } := fun k =>
      tget_map s.events.targets {} (fun _ x => { x with ne := signalOf x s.devtime }) k rfl
    exact ⟨rfl, fun _ => ⟨rfl, rfl⟩, fun k => by rw [htgt]; exact ⟨rfl, rfl⟩, fun k r hr => .inl (by rw [htgt] at hr; exact hr)⟩

theorem isobusRecords_settings (s : State) : SettingsKept s (isobusRecords s) := by
  unfold isobusRecords
  split
  · exact .refl s
  · refine .ite ?_ (.refl s)
    exact (claimRecords_settings 9 _ s).trans (modTgt_settings _ 9 (f := fun t => { t with running := (s.tgt 9).running }) (fun _ => ⟨rfl, rfl⟩) fun _ _ => .inl)
      |>.trans (modEvents_settings _ rfl rfl) |>.trans (.of_frame (sendIsobus_frame _ _ _ _ _) (by decide)) |>.trans (signals_settings _)

theorem levelsFollow_settings (s : State) : SettingsKept s (levelsFollow s) :=
  (SettingsKept.of_frame (controlChange_frame s) (by decide)).trans (.of_frame (tokenWatch_frame _) (by decide))
    |>.trans (closeCleared_settings _) |>.trans (ringLevels_settings _) |>.trans (gatewayLevels_settings _) |>.trans (signals_settings _)

theorem settle_settings (s0 s : State) : SettingsKept s (settle s0 s) := by
  refine ((levelsFollow_settings s).trans (isobusRecords_settings _)).trans (.of_events (settle_events s0 s) ?_)
  rw [settle_devtime]
  exact ((levelsFollow_settings s).trans (isobusRecords_settings _)).devtime.symm

/-! ## Controllers -/

/-- A controller but for the frames that were handed to its bus. -/
def CanSt.unsent (c : CanSt) : CanSt := { c with sent := [] }

/-- Of the controllers, nothing has changed but that frames were handed to the bus. -/
def SentOnly (s t : State) : Prop := ∀ n, (t.canOf n).unsent = (s.canOf n).unsent

theorem SentOnly.refl (s : State) : SentOnly s s := fun _ => rfl

theorem SentOnly.trans {s t u : State} (h : SentOnly s t) (k : SentOnly t u) : SentOnly s u := fun n => (k n).trans (h n)

theorem SentOnly.of_frame {bs : List Bank} {s t : State} (h : SameExcept bs s t) (hcan : .can ∉ bs) : SentOnly s t := fun n => by
  rw [State.canOf, State.canOf, (h .can hcan : t.can = s.can)]

theorem SentOnly.ite {s t u : State} {p : Prop} [Decidable p] (h : SentOnly s t) (k : SentOnly s u) : SentOnly s (if p then t else u) := by
  split
  · exact h
  · exact k

theorem SentOnly.foldl {α : Type} {f : State → α → State} (h : ∀ s a, SentOnly s (f s a)) (l : List α) (s : State) :
    SentOnly s (l.foldl f s) := by
  induction l generalizing s with
  | nil => exact .refl s
  | cons a r ih => exact (h s a).trans (ih (f s a))

theorem modCan_sentOnly (s : State) (n : Nat) {f : CanSt → CanSt} (hf : ∀ x, (f x).unsent = x.unsent) : SentOnly s (s.modCan n f) := by
  intro k
  by_cases hk : k = n
  · subst hk; simp [hf]
  · simp [hk]

theorem sendZ_sentOnly (type dst : Nat) (body : List Int) (s : State) : SentOnly s (sendZ type dst body s) :=
  (SentOnly.foldl (fun s n => modCan_sentOnly s n fun _ => by rfl) _ s).trans (.of_frame (modZ_frame _ _) (by decide))

theorem controlChange_sentOnly (s : State) : SentOnly s (controlChange s) :=
  .ite ((SentOnly.of_frame (modZ_frame s _) (by decide)).trans (sendZ_sentOnly _ _ _ _)) (.refl s)

theorem sendIsobus_sentOnly (c kind course : Nat) (bs : List Byte) (s : State) : SentOnly s (sendIsobus c kind course bs s) := by
  unfold sendIsobus
  split
  · exact modCan_sentOnly s c fun _ => rfl
  · exact .refl s

theorem isobusRecords_sentOnly (s : State) : SentOnly s (isobusRecords s) := by
  unfold isobusRecords
  split
  · exact .refl s
  · refine .ite ?_ (.refl s)
    have hclaimed := fun k f g => ((claimRecords_frame 9 k s).trans (modTgt_frame _ 9 f)).trans (modEvents_frame _ g)
    exact (SentOnly.of_frame (hclaimed _ _ _) (by decide)).trans (sendIsobus_sentOnly _ _ _ _ _)
      |>.trans (.of_frame (signals_frame _) (by decide))

theorem levelsFollow_sentOnly (s : State) : SentOnly s (levelsFollow s) := by
  have hlevels : SameExcept [.zither, .events, .faults] (controlChange s) (levelsFollow s) :=
    (tokenWatch_frame _).append (closeCleared_frame _) |>.append (ringLevels_frame _) |>.append (gatewayLevels_frame _)
      |>.append (signals_frame _) |>.mono (by decide)
  exact (controlChange_sentOnly s).trans (.of_frame hlevels (by decide))

theorem settle_sentOnly (s0 s : State) : SentOnly s (settle s0 s) := by
  refine ((levelsFollow_sentOnly s).trans (isobusRecords_sentOnly _)).trans fun n => ?_
  rw [State.canOf, State.canOf, settle_can]

end Sys2Proof.Machine
end

section
/-! Requests to the gateway and to the event controller (Table 14-14). -/

namespace Sys2Proof.Machine

theorem isobusLink_of_accepts {h : Hdr} {s : State} (haccepts : accepts h s = true) : s.isobusLink = none := by
  simp only [accepts, arrives, Bool.and_eq_true, Option.isNone_iff_eq_none] at haccepts
  exact haccepts.1.1.1.1.1.1.1.1.1.2

@[simp] theorem modCourse_gw (s : State) (m : Nat) (g : Course → Course) (n b : Nat) : (s.modCourse m g).gw n b = s.gw n b := rfl

@[simp] theorem takenState_gw (h : Hdr) (s : State) (n b : Nat) : (takenState h s).gw n b = s.gw n b := rfl

theorem modGw_gw_of_controller_ne {s : State} {n b k j : Nat} {f : GwBuffer → GwBuffer} (hk : k ≠ n) :
    (s.modGw n b f).gw k j = s.gw k j := by
  rw [State.gw, State.gw, modGw_canOf_of_ne _ _ _ _ hk]

theorem settle_binds (s0 s : State) (n : Nat) : ((settle s0 s).canOf n).binds = (s.canOf n).binds :=
  show ((settle s0 s).canOf n).unsent.binds = (s.canOf n).unsent.binds by rw [settle_sentOnly s0 s n]

/-! ## Moving a queue (R476) -/

theorem writeHostSlots_frame (rs : List EvtRecord) (s : State) : SameExcept [.events] s (writeHostSlots rs s) :=
  .foldl _ (fun s _ => by exact modEvents_frame s _) rs s

theorem writeHostSlots_tgt (rs : List EvtRecord) (s : State) (k : Nat) : (writeHostSlots rs s).tgt k = s.tgt k := by
  unfold writeHostSlots
  induction rs generalizing s with
  | nil => rfl
  | cons r rs ih => exact (ih _).trans rfl

theorem reroute_frame (a b : Nat) (s : State) : SameExcept [.events] s (reroute a b s) := by
  have hmoved := fun f g => (modTgt_frame s a f).trans (modTgt_frame _ b g)
  have hread : ∀ f g, SameExcept [.events] s (if a = 9 then ((s.modTgt a f).modTgt b g).modEvents fun e => { e with hqWr := e.hqRd }
      else (s.modTgt a f).modTgt b g) := fun f g => .ite ((hmoved f g).trans (modEvents_frame _ _)) (hmoved f g)
  exact .ite ((hread _ _).trans (writeHostSlots_frame _ _)) (hread _ _)

/-- The records leave one queue, stand at the end of the other, and nothing else of a target changes. -/
theorem reroute_tgt (a b k : Nat) (s : State) : (reroute a b s).tgt k
    = ((s.modTgt a fun x => { x with queue := [] }).modTgt b fun x =>
        { x with queue := x.queue ++ (s.tgt a).queue.map fun r => { r with target := b } }).tgt k := by
  unfold reroute
  simp only
  split
  · rw [writeHostSlots_tgt]
    split <;> rfl
  · split <;> rfl

/-- The settings that a request gives a target stand at the end of its step. -/
theorem targetSet_settled {h : Hdr} {s s0 : State} {g : Course → Course} {k : Nat} {f : EvtTarget → EvtTarget} :
    ((settle s0 (((takenState h s).modTgt k f).modCourse h.course g)).tgt k).threshold = (f (s.tgt k)).threshold
    ∧ ((settle s0 (((takenState h s).modTgt k f).modCourse h.course g)).tgt k).wake = (f (s.tgt k)).wake
    ∧ ((settle s0 (((takenState h s).modTgt k f).modCourse h.course g)).tgt k).count = (f (s.tgt k)).count
    ∧ ((settle s0 (((takenState h s).modTgt k f).modCourse h.course g)).tgt k).timeUs = (f (s.tgt k)).timeUs := by
  have htgt : (((takenState h s).modTgt k f).modCourse h.course g).tgt k = f (s.tgt k) := by simp
  obtain ⟨hthreshold, hwake⟩ := (settle_settings s0 (((takenState h s).modTgt k f).modCourse h.course g)).target k
  obtain ⟨hcount, htime⟩ := (settle_kept s0 (((takenState h s).modTgt k f).modCourse h.course g)).coalescing k
  exact ⟨hthreshold.trans (by rw [htgt]), hwake.trans (by rw [htgt]), hcount.trans (by rw [htgt]), htime.trans (by rw [htgt])⟩

/-- Settles O16: bindings follow the state of the controller, settings are kept to the end of the step, and a queue moves whole. -/
theorem busEventRequests : Obligations.BusEventRequests := by
  unfold Obligations.BusEventRequests
  refine ⟨fun ctrl buf flags id mask => ?_, fun ctrl buf flags id mask o => ?_, fun n priority target => ?_,
    fun k threshold count flags time => ?_, fun a b => ?_⟩
  · refine .of_reply (fun _ => reqBusFilterSet ctrl buf flags id mask) (fun _ => bindBuffer ctrl buf flags id mask)
      (fun h s s0 g _ _ => ?_)
      (hjudge := fun h s _ ⟨hctrl, hbuf, hflags, hid, hmask, _⟩ => ?_) (heffect := fun h s _ ⟨_, _, _, _, _, hoffered, hbinds⟩ => ?_)
    · simp +contextual [bindBuffer, modGw_gw_of_controller_ne]
    · simp [reqBusFilterSet, hctrl, hbuf, hflags]
      omega
    · simp [reqBusFilterSet, requestBinding, hoffered, hbinds, okReply]
  · refine .of_reply (fun _ => reqBusFilterSet ctrl buf flags id mask)
      (fun _ s => s.modCan ctrl fun c => { c with binds := c.binds ++ [(buf, flags, id, mask)] })
      (fun h s s0 g _ _ => ⟨?_, fun k b => ?_⟩)
      (hjudge := fun h s _ ⟨hctrl, hbuf, hflags, hid, hmask, _⟩ => ?_) (heffect := fun h s _ ⟨_, _, _, _, _, hoffered⟩ => ?_)
    · simp [settle_binds]
    · have hkept := modCan_gateways (f := fun c => { c with binds := c.binds ++ [(buf, flags, id, mask)] }) (fun _ => rfl)
        (takenState h s) ctrl
      rw [settle_gw]
      exact hkept.gw k b
    · simp [reqBusFilterSet, hctrl, hbuf, hflags]
      omega
    · simp [reqBusFilterSet, requestBinding, hoffered, okReply]
  · refine .of_reply (fun _ => reqEvtSourceSet n priority (bit (levelSource n)) target) (fun _ => setSource n priority target)
      (fun h s s0 g _ _ => ?_) (hjudge := fun h s _ ⟨hn, hpriority, htarget, hreserved⟩ => ?_)
    · have hset : SettingsKept ((takenState h s).modSrc n fun x => { x with priority := priority, target := target })
          (setSource n priority target (takenState h s)) := .ite (assertSource_settings _ _ _ _ _) (.refl _)
      have hend := (hset.trans (.of_frame (modCourse_frame _ h.course g) (by decide))).trans (settle_settings s0 _)
      simpa using hend.source n
    · simp [reqEvtSourceSet, hn, hpriority, htarget, hreserved]
  · refine .of_reply (fun _ => reqEvtTargetSet k threshold count flags time)
      (fun _ s => s.modTgt k fun x => { x with threshold := threshold, count := count, timeUs := time, wake := bitAt flags 0 })
      (fun h s s0 g _ _ => ?_) (hjudge := fun h s _ ⟨hk, hthreshold, hlo, hhi, hflags, htime⟩ => ?_)
    · obtain ⟨hthreshold, hwake, hcount, htime⟩ := targetSet_settled (h := h) (s := s) (s0 := s0) (g := g) (k := k)
        (f := fun x => { x with threshold := threshold, count := count, timeUs := time, wake := bitAt flags 0 })
      exact ⟨hthreshold, hcount, htime, hwake, ((modTgt_frame (takenState h s) k _).only_request s0 g).mono (by decide)⟩
    · simp [reqEvtTargetSet, hk, hthreshold, hlo, hhi, hflags, htime]
  · refine .of_reply (fun _ => reqEvtReroute a b) (fun _ => reroute a b)
      (fun h s s0 g haccepts ⟨ha, hb, hne, _⟩ => ?_) (hjudge := fun h s _ ⟨ha, hb, hne, hroom⟩ => ?_)
    · have hcourse := modCourse_frame (reroute a b (takenState h s)) h.course g
      have hlink : ((reroute a b (takenState h s)).modCourse h.course g).isobusLink = none := by
        rw [hcourse.isobusLink (by decide), (reroute_frame a b _).isobusLink (by decide), takenState_isobusLink,
          isobusLink_of_accepts haccepts]
      have hgrows := (EventsGrow.of_events (hcourse .events (by decide))).trans (settle_grows s0 hlink)
      have hsettings := (SettingsKept.of_frame hcourse (by decide)).trans (settle_settings s0 _)
      have htgta : (reroute a b (takenState h s)).tgt a = { s.tgt a with queue := [] } := by
        rw [reroute_tgt, State.modTgt_tgt_of_ne _ _ _ hne, State.modTgt_tgt_self]; rfl
      have htgtb : (reroute a b (takenState h s)).tgt b
          = { s.tgt b with queue := (s.tgt b).queue ++ (s.tgt a).queue.map fun r => { r with target := b } } := by
        rw [reroute_tgt, State.modTgt_tgt_self, State.modTgt_tgt_of_ne _ _ _ (Ne.symm hne)]; rfl
      refine ⟨fun r hr => ?_, ?_, ?_, ((reroute_frame a b (takenState h s)).only_request s0 g).mono (by decide)⟩
      · have htime : (reroute a b (takenState h s)).devtime = s.devtime := reroute_frame a b (takenState h s) .time (by decide)
        have hfresh := hsettings.fresh a r hr
        rw [htgta, htime] at hfresh
        simpa using hfresh
      · have hqueue := (hgrows.targets b).queue
        rw [htgtb] at hqueue
        exact hqueue
      · exact (hgrows.targets a).claimed.trans (by rw [htgta])
    · have hroom' : decide (queueSize b < ((takenState h s).tgt b).queue.length + ((takenState h s).tgt a).queue.length) = false :=
        decide_eq_false (Nat.not_lt.mpr hroom)
      simp only [reqEvtReroute, hroom']
      simp [ha, hb, hne]

end Sys2Proof.Machine
end

section
/-! What driving a valve unit may touch (Tables 07-2, 07-3, R181 to R203, R222 to R242): units, clusters, credits, records, messages, events
and what goes to other packages. -/

namespace Sys2Proof.Machine

/-- The banks that a unit's commands, strokes and frets may touch. -/
def driveBanks : List Bank := [.units, .clusters, .ledger, .recorder, .courses, .events, .dies, .faults, .can, .zither]

/-- A frame of fewer banks is one of `driveBanks`. -/
theorem SameExcept.drives {bs : List Bank} {s t : State} (h : SameExcept bs s t)
    (hbanks : ∀ b, b ∈ bs → b ∈ driveBanks := by decide) : SameExcept driveBanks s t := h.mono hbanks

section
variable (u : Nat) (s : State)

theorem modUnit_drives (f : UnitSt → UnitSt) : SameExcept driveBanks s (s.modUnit u f) := (modUnit_frame s u f).drives

theorem modCluster_drives (f : ClusterSt → ClusterSt) : SameExcept driveBanks s (s.modCluster u f) := (modCluster_frame s u f).drives

theorem fault_drives (n inst code sev ctx : Nat) : SameExcept driveBanks s (fault n inst code sev ctx s) := (fault_frame n inst code sev ctx s).drives

theorem sendZ_drives (type dst : Nat) (body : List Int) : SameExcept driveBanks s (sendZ type dst body s) := (sendZ_frame type dst body s).drives

/-! ## Samples and strokes -/

theorem excludeSample_drives : SameExcept driveBanks s (excludeSample u s) := modUnit_drives u s _

theorem strokeEndedThere_drives : SameExcept driveBanks s (strokeEndedThere u s) := modUnit_drives u s _

theorem missDip_drives : SameExcept driveBanks s (missDip u s) := by
  unfold missDip
  simp only
  have hclosed : ∀ f g, SameExcept driveBanks s ((s.modDrive u f).modLearn u g) := fun f g =>
    (modUnit_drives u s _).trans (modUnit_drives u _ _)
  have hcounted : ∀ {t} f g, SameExcept driveBanks s t → SameExcept driveBanks s (excludeSample u ((t.modValve u f).modDrive u g)) :=
    fun f g ht => ((ht.trans (modUnit_drives u _ _)).trans (modUnit_drives u _ _)).trans (excludeSample_drives u _)
  have hended : ∀ {p : Prop} [Decidable p] f g, SameExcept driveBanks s (if p then strokeEndedThere u ((s.modDrive u f).modLearn u g)
      else (s.modDrive u f).modLearn u g) := fun f g => .ite ((hclosed f g).trans (strokeEndedThere_drives u _)) (hclosed f g)
  refine .ite (hclosed _ _) (.ite (((hcounted _ _ (hended _ _)).trans (modUnit_drives u _ _)).trans (fault_drives _ _ _ _ _ _)) ?_)
  exact hcounted _ _ (hended _ _)

theorem startStroke_drives (i : EdgeInfo) (restrike : Bool) : SameExcept driveBanks s (startStroke u i restrike s) := by
  unfold startStroke
  simp only
  have hclosed : SameExcept driveBanks s (if ((s.unit u).drive.openWinEnd.isSome && !(s.unit u).drive.dipSeen) = true then missDip u s else s) :=
    .ite (missDip_drives u s) (.refl _ s)
  have hmarked : ∀ f g, SameExcept driveBanks s (((if ((s.unit u).drive.openWinEnd.isSome && !(s.unit u).drive.dipSeen) = true
      then missDip u s else s).modLearn u f).modDrive u g) := fun f g => (hclosed.trans (modUnit_drives u _ _)).trans (modUnit_drives u _ _)
  refine .ite ((hmarked _ _).trans (enterRise_frame u _).drives) ?_
  exact (((hmarked _ _).trans (drawBase_frame u true _).drives).trans (modCluster_drives _ _ _)).trans (modUnit_drives u _ _)

/-! ## Commands -/

theorem applyOff_drives : SameExcept driveBanks s (applyOff u s) := by
  unfold applyOff
  split
  · exact .refl _ s
  · exact .refl _ s
  · exact (modUnit_drives u s _).trans (modUnit_drives u _ _)
  · exact (turnOff_frame u s).drives
  · exact (turnOff_frame u s).drives
  · exact (turnOff_frame u s).drives
  · exact (turnOff_frame u s).drives
  · exact modUnit_drives u s _

theorem restrike_drives (i : EdgeInfo) : SameExcept driveBanks s (restrike u i s) := (modUnit_drives u s _).trans (startStroke_drives u _ i true)

theorem applyOn_drives (i : EdgeInfo) : SameExcept driveBanks s (applyOn u i s) := by
  unfold applyOn
  split
  · exact startStroke_drives u s i false
  · exact .refl _ s
  · exact modUnit_drives u s _
  · exact modUnit_drives u s _
  · exact modUnit_drives u s _
  · exact modUnit_drives u s _
  · exact restrike_drives u s i
  · exact modUnit_drives u s _

theorem dipOverdue_drives : SameExcept driveBanks s (dipOverdue u s) := .ite (missDip_drives u s) (.refl _ s)

theorem countClamped_drives : SameExcept driveBanks s (countClamped u s) := .ite (modUnit_drives u s _) (.refl _ s)

theorem startCycle_drives (duty : Nat) (i : EdgeInfo) : SameExcept driveBanks s (startCycle u duty i s) := by
  unfold startCycle
  simp only
  have hbegun : ∀ f, SameExcept driveBanks s ((countClamped u s).modDrive u f) := fun f =>
    (countClamped_drives u s).trans (modUnit_drives u _ _)
  split
  · exact (((hbegun _).trans (dipOverdue_drives u _)).trans (modUnit_drives u _ _)).trans (startStroke_drives u _ _ _)
  · exact ((hbegun _).trans (modUnit_drives u _ _)).trans (restrike_drives u _ _)
  · exact hbegun _

theorem pwmOn_drives (i : EdgeInfo) : SameExcept driveBanks s (pwmOn u i s) := by
  unfold pwmOn
  simp only
  have hcycling := modUnit_drives u s fun x => { x with drive := { x.drive with cycling := true } }
  refine .ite (modUnit_drives u s _) (.ite ?_ (.ite hcycling ?_))
  · exact (hcycling.trans (regrid_frame _ _).drives).trans (modUnit_drives u _ _)
  · exact (hcycling.trans (startCycle_drives u _ _ i)).trans (regrid_frame _ _).drives

theorem pwmOff_drives : SameExcept driveBanks s (pwmOff u s) :=
  .ite (modUnit_drives u s _) (((modUnit_drives u s _).trans (applyOff_drives u _)).trans (regrid_frame _ _).drives)

theorem commandOn_drives (i : EdgeInfo) : SameExcept driveBanks s (commandOn u i s) := by
  unfold commandOn
  split
  · exact .ite (.refl _ s) (.ite (pwmOn_drives u s i) (modUnit_drives u s _))
  · exact .ite (.refl _ s) (applyOn_drives u s i)
  · exact modUnit_drives u s _
  · exact .refl _ s

theorem commandOff_drives : SameExcept driveBanks s (commandOff u s) := by
  unfold commandOff
  split
  · exact pwmOff_drives u s
  · exact applyOff_drives u s
  · exact modUnit_drives u s _
  · exact .refl _ s

/-! ## Frets and immediate commands -/

theorem countRefusal_drives (level need : Nat) : SameExcept driveBanks s (countRefusal u level need s) := (countRefusal_frame u level need s).drives

theorem dropDevice_drives (p : Fret → Bool) : SameExcept driveBanks s (dropDevice u p s) := by
  have hremote : ∀ q, SameExcept driveBanks s (cancelRemote u q s) := fun q =>
    .ite (.refl _ s) (.foldl _ (fun s _ => sendZ_drives s _ _ _) _ s)
  exact (hremote _).trans (cancelFrets_frame u _ _).drives

theorem giveCommand_drives (on : Bool) : SameExcept driveBanks s (giveCommand u on s) := by
  unfold giveCommand
  simp only
  refine .ite ((sendZ_drives s _ _ _).trans (modUnit_drives u _ _)) (.ite ((commandOff_drives u s).trans (modUnit_drives u _ _)) (.ite (.ite (.refl _ s) ?_)
    ((commandOn_drives u s _).trans (modUnit_drives u _ _))))
  split
  · exact ((acquireBase_frame ‹_›).drives.trans (commandOn_drives u _ _)).trans (modUnit_drives u _ _)
  · exact (countRefusal_drives u s _ _).trans (modUnit_drives u _ _)

theorem immediate_drives (on : Bool) : SameExcept driveBanks s (immediate u on s) := by
  unfold immediate
  simp only
  have hgiven : ∀ {p : Prop} [Decidable p] q, SameExcept driveBanks s (if p then dropDevice u q s else giveCommand u on (dropDevice u q s)) :=
    fun q => .ite (dropDevice_drives u s q) ((dropDevice_drives u s q).trans (giveCommand_drives u _ on))
  exact .ite (hgiven _) ((hgiven _).trans (modUnit_drives u _ _))

end

end Sys2Proof.Machine
end

section
/-! Coverage: field entries and tiles, commits of the journal, and the closing of a field (R141 to R177, R490, R498). -/

namespace Sys2Proof.Machine

/-! ## Field entries -/

theorem fieldEntry_modField {s : State} {fid : Nat} {f : FieldEntry → FieldEntry} (hf : ∀ e, (f e).fieldId = e.fieldId) :
    (s.modField fid f).fieldEntry fid = (s.fieldEntry fid).map f := by
  have hlist : ∀ l : List FieldEntry, (l.map fun e => if e.fieldId = fid then f e else e).find? (fun e => e.fieldId == fid)
      = (l.find? fun e => e.fieldId == fid).map f := fun l => by
    induction l with
    | nil => rfl
    | cons e l ih =>
      by_cases he : e.fieldId = fid
      · simp [he, hf]
      · simpa [he] using ih
  exact hlist s.cov.fields

theorem fieldEntry_of_cov {s t : State} (hcov : t.cov = s.cov) (fid : Nat) : t.fieldEntry fid = s.fieldEntry fid := by
  rw [State.fieldEntry, State.fieldEntry, hcov]

@[simp] theorem modCov_fieldEntry {s : State} {f : CovSt → CovSt} (hf : ∀ c, (f c).fields = c.fields) (fid : Nat) :
    (s.modCov f).fieldEntry fid = s.fieldEntry fid := by
  rw [State.fieldEntry, State.fieldEntry, State.modCov_cov_self, hf]

@[simp] theorem settle_fieldEntry (s0 s : State) (fid : Nat) : (settle s0 s).fieldEntry fid = s.fieldEntry fid :=
  fieldEntry_of_cov (settle_cov s0 s) fid

@[simp] theorem modCourse_fieldEntry (s : State) (n : Nat) (g : Course → Course) (fid : Nat) :
    (s.modCourse n g).fieldEntry fid = s.fieldEntry fid := rfl

@[simp] theorem takenState_fieldEntry (h : Hdr) (s : State) (fid : Nat) : (takenState h s).fieldEntry fid = s.fieldEntry fid := rfl

/-! ## Opening -/

theorem beginField_frame (fid : Nat) (lat lon height : Int) (cell : Nat) (resume : Bool) (s : State) :
    SameExcept [.cov] s (beginField fid lat lon height cell resume s) := by
  have hreset : ∀ {t : State}, SameExcept [.cov] s t → ∀ f g,
      SameExcept [.cov] s ((if resume = true then t else t.modField fid f).modCov g) := fun ht f g =>
    .trans (.ite ht (ht.trans (modField_frame _ fid f))) (modCov_frame _ g)
  refine hreset ?_ _ _
  split
  · exact .refl _ s
  · exact modCov_frame s _

theorem beginField_sets (fid : Nat) (lat lon height : Int) (cell : Nat) (resume : Bool) (s : State) :
    (beginField fid lat lon height cell resume s).cov.scanning = some fid
    ∧ (beginField fid lat lon height cell resume s).cov.scanResume = resume := ⟨rfl, rfl⟩

/-- A field that is opened has its entry, which is created where it is new. -/
theorem beginField_entry (fid : Nat) (lat lon height : Int) (cell : Nat) (resume : Bool) (s : State) :
    ((beginField fid lat lon height cell resume s).fieldEntry fid).isSome = true := by
  have hreset : ∀ {t : State}, (t.fieldEntry fid).isSome = true →
      ((if resume then t else t.modField fid fun e => { e with session := [], units := [], pageMiss := 0 }).fieldEntry fid).isSome = true := by
    intro t ht
    split
    · exact ht
    · rw [fieldEntry_modField]
      · simpa using ht
      · exact fun _ => rfl
  unfold beginField
  simp only
  rw [modCov_fieldEntry]
  · refine hreset ?_
    split
    case h_1 hentry => simp [hentry]
    case h_2 => simp [State.fieldEntry, List.find?_append]
  · exact fun _ => rfl

theorem openSession_frame (fid : Nat) (resumed : Bool) (s : State) : SameExcept [.recorder] s (openSession fid resumed s) :=
  (countTime_frame s).trans (modRec_frame _ _)

/-! ## Closing -/

theorem closeRecord_frame (kind : Nat) (isPartial byReset : Bool) (s : State) :
    SameExcept [.recorder, .events] s (closeRecord kind isPartial byReset s) := by
  have hthawed : ∀ {p : Prop} [Decidable p], SameExcept [.recorder, .events] s (if p then thaw (countTime s) else countTime s) :=
    .ite ((countTime_frame s).append (thaw_frame _) |>.mono (by decide)) ((countTime_frame s).mono (by decide))
  unfold closeRecord
  simp only
  split
  · exact hthawed
  · refine .ite (hthawed.append (modRec_frame _ _) |>.mono (by decide)) ?_
    exact hthawed.append (modRec_frame _ _) |>.append (store_frame _ _) |>.mono (by decide)

theorem unwritten_frame (fid u p mm2 : Nat) (s : State) : SameExcept [.cov, .recorder] s (unwritten fid u p mm2 s) :=
  (modField_frame s fid _).append (addTotal_frame _ _ _)

theorem dropMiss_frame (fe : FieldEntry) (s : State) : SameExcept [.cov, .recorder] s (dropMiss fe s) :=
  .foldl _ (fun s _ => unwritten_frame _ _ _ _ s) _ s

theorem reconcile_frame (fe : FieldEntry) (s : State) : SameExcept [.events, .dies, .faults] s (reconcile fe s) :=
  .foldl _ (fun s p => by exact .ite (.refl _ s) (faultCritical_frame _ _ _ _ s)) _ s

theorem commitWith_frame (full : Bool) (s : State) : SameExcept [.recorder, .faults, .cov, .storage] s (commitWith full s) := by
  have hcounted : ∀ {p : Prop} [Decidable p] i n f, SameExcept [.recorder, .faults] s
      ((if p then countTime s else addTotal i n (countTime s)).modRec f) := fun i n f =>
    (SameExcept.ite (countTime_frame s) ((countTime_frame s).trans (addTotal_frame i n _))).trans (modRec_frame _ f) |>.mono (by decide)
  unfold commitWith
  simp only
  refine SameExcept.mono (bs := [.recorder, .faults] ++ [.cov] ++ [.storage]) ?_ (by decide)
  refine SameExcept.append ?_ (modStore_frame _ _)
  refine .ite ((SameExcept.ite (hcounted _ _ _) ((hcounted _ _ _).trans ((modFaults_frame _ _).mono (by decide)))).mono (by decide)) ?_
  exact (SameExcept.ite (hcounted _ _ _) ((hcounted _ _ _).trans ((modFaults_frame _ _).mono (by decide)))).append (modCov_frame _ _)

/-! ## The number of the last commit (R498) -/

/-- The recorder's last commit is the same. -/
def CommitKept (s t : State) : Prop := t.recorder.commitNo = s.recorder.commitNo

theorem CommitKept.of_frame {bs : List Bank} {s t : State} (h : SameExcept bs s t) (hbanks : .recorder ∉ bs) : CommitKept s t :=
  congrArg Recorder.commitNo (h .recorder hbanks)

theorem CommitKept.refl (s : State) : CommitKept s s := rfl

theorem CommitKept.trans {s t u : State} (h : CommitKept s t) (k : CommitKept t u) : CommitKept s u := Eq.trans k h

theorem CommitKept.ite {s t u : State} {p : Prop} [Decidable p] (h : CommitKept s t) (k : CommitKept s u) : CommitKept s (if p then t else u) := by
  split
  · exact h
  · exact k

theorem CommitKept.foldl {α : Type} {f : State → α → State} (h : ∀ s a, CommitKept s (f s a)) (l : List α) (s : State) :
    CommitKept s (l.foldl f s) := by
  induction l generalizing s with
  | nil => exact .refl s
  | cons a l ih => exact (h s a).trans (ih _)

theorem accumulate_commitNo (f : RecRecord → RecRecord) (s : State) : CommitKept s (accumulate f s) := by
  simp only [CommitKept, accumulate, State.modRec_recorder_self]
  split <;> rfl

theorem addTotal_commitNo (i n : Nat) (s : State) : CommitKept s (addTotal i n s) := .ite (.refl s) (accumulate_commitNo _ s)

theorem countTime_commitNo (s : State) : CommitKept s (countTime s) := by
  unfold countTime
  simp only
  split
  · exact (addTotal_commitNo _ _ s).trans rfl
  · rfl

theorem makeRoom_commitNo (kind : Nat) (r : Recorder) : (makeRoom kind r).commitNo = r.commitNo := by
  unfold makeRoom
  split <;> rfl

theorem store_commitNo (r : RecRecord) (s : State) : CommitKept s (store r s) := by
  unfold store
  split
  · rfl
  · simp only [CommitKept, State.modRec_recorder_self]
    split <;> exact makeRoom_commitNo _ _

theorem roomed_commitNo {p : Prop} [Decidable p] (kind : Nat) (r : Recorder) :
    (if p then makeRoom kind r else r).commitNo = r.commitNo := by
  split
  · exact makeRoom_commitNo kind r
  · rfl

theorem stores_commitNo (rs : List RecRecord) (s : State) :
    (rs.foldl (fun s r => store r s) s).recorder.commitNo = s.recorder.commitNo :=
  CommitKept.foldl (fun s r => store_commitNo r s) rs s

theorem thaw_commitNo (s : State) : CommitKept s (thaw s) := by
  unfold thaw
  split
  · rfl
  · simp only [CommitKept, setLevel_recorder, State.modRec_recorder_self, roomed_commitNo, stores_commitNo]
    exact countTime_commitNo s

theorem closeRecord_commitNo (kind : Nat) (isPartial byReset : Bool) (s : State) : CommitKept s (closeRecord kind isPartial byReset s) := by
  have hthawed : ∀ (p : Prop) [Decidable p], CommitKept s (if p then thaw (countTime s) else countTime s) := fun _ _ =>
    .ite ((countTime_commitNo s).trans (thaw_commitNo _)) (countTime_commitNo s)
  unfold closeRecord
  simp only
  split
  · exact hthawed _
  · refine .ite ?_ (.trans ?_ (store_commitNo _ _))
    · simp only [CommitKept, State.modRec_recorder_self]
      split <;> exact hthawed _
    · simp only [CommitKept, State.modRec_recorder_self]
      split <;> exact hthawed _

theorem unwritten_commitNo (fid u p mm2 : Nat) (s : State) : CommitKept s (unwritten fid u p mm2 s) :=
  (CommitKept.of_frame (modField_frame s fid _) (by decide)).trans (addTotal_commitNo _ _ _)

theorem dropMiss_commitNo (fe : FieldEntry) (s : State) : CommitKept s (dropMiss fe s) :=
  .foldl (fun s _ => unwritten_commitNo _ _ _ _ s) _ s

/-- A commit that is written has the next number. -/
theorem commitWith_commitNo (full : Bool) (s : State) : (commitWith full s).recorder.commitNo = s.recorder.commitNo + 1 := by
  have hcounted : ∀ {p : Prop} [Decidable p] n, (if p then countTime s else addTotal totCalderaFull n (countTime s)).recorder.commitNo
      = s.recorder.commitNo := fun n =>
    CommitKept.ite (countTime_commitNo s) ((countTime_commitNo s).trans (addTotal_commitNo _ n _))
  have hkept : ∀ {p : Prop} [Decidable p] (t u : State), u.recorder = t.recorder → (if p then t else u).recorder = t.recorder := by
    intro p _ t u hu
    split
    · rfl
    · exact hu
  unfold commitWith
  simp only [State.modStore_recorder]
  rw [hkept _ _ (State.modCov_recorder _ _), hkept _ _ (State.modFaults_recorder _ _), State.modRec_recorder_self]
  split <;> exact congrArg (· + 1) (hcounted _)

theorem markBack_eq (p : Tile → Bool) (c : CovSt) : markBack p c = { c with tiles := (markBack p c).tiles } := by
  have hlist : ∀ (l : List Tile) (c : CovSt), ∃ ts, l.foldl (fun c t =>
      if p t && t.moveTo.isNone then
        { c with tiles := c.tiles.map fun x => if x.slot = t.slot then { x with moveTo := some (freeSlotNo c) } else x }
      else c) c = { c with tiles := ts } := fun l => by
    induction l with
    | nil => exact fun c => ⟨c.tiles, rfl⟩
    | cons t l ih =>
      intro c
      obtain ⟨ts, hts⟩ := ih (if p t && t.moveTo.isNone then
        { c with tiles := c.tiles.map fun x => if x.slot = t.slot then { x with moveTo := some (freeSlotNo c) } else x } else c)
      refine ⟨ts, hts.trans ?_⟩
      split <;> rfl
  obtain ⟨ts, hts⟩ := hlist c.tiles c
  unfold markBack
  rw [hts]

end Sys2Proof.Machine
end

section
/-! Requests to coverage (Table 14-8): fields, polygons, masters and section modes. -/

namespace Sys2Proof.Machine

/-- The state in which an opened field's session record begins: the cache is empty (R149, R177). -/
def fieldOpened (fid : Nat) (s : State) : State :=
  s.modCov fun c =>
    { c with opened := some fid, scanning := none, closingAt := none, miss := [], polyStage := none, strokeCells := [],
             tiles := c.tiles.map fun t => { t with cached := false } }

theorem openScanned_eq {fid : Nat} {s : State} (hscanning : s.cov.scanning = some fid) :
    openScanned s = endLong 1025 {} (edge 65 0 0 (openSession fid s.cov.scanResume (fieldOpened fid s))) := by
  unfold openScanned fieldOpened
  rw [hscanning]

/-- What stands once the miss buffer is dropped, the counters are compared and the session's record is closed (R175, R177). -/
def fieldReconciled (fe : FieldEntry) (s : State) : State := reconcile fe (closeRecord 1 false false (dropMiss fe s))

/-- The state whose commit ends a field's session: changed tiles are to be written back (R177). -/
def fieldLeft (fe : FieldEntry) (s : State) : State :=
  (fieldReconciled fe s).modCov fun c =>
    { markBack (fun t => t.changed) c with opened := none, closingAt := none, miss := [], polyStage := none, working := [], ahead := [],
                                           strokeCells := [] }

/-- The section units take no part in a stroke any more. -/
def strokesDropped (s : State) : State :=
  { s with units := s.units.map fun p => (p.1, { p.2 with sect := { p.2.sect with strokes := [], applying := false } }) }

theorem strokesDropped_frame (s : State) : SameExcept [.units] s (strokesDropped s) := by
  intro b hb; cases b <;> simp_all [Bank.same, strokesDropped]

theorem finishClose_eq {fe : FieldEntry} {s : State} (hentry : s.cov.opened.bind s.fieldEntry = some fe) :
    finishClose s = edge 65 0 1 (strokesDropped (commit (fieldLeft fe s))) := by
  unfold finishClose fieldLeft fieldReconciled strokesDropped
  rw [hentry]

theorem fieldReconciled_frame (fe : FieldEntry) (s : State) :
    SameExcept [.cov, .recorder, .events, .dies, .faults] s (fieldReconciled fe s) :=
  ((dropMiss_frame fe s).append (closeRecord_frame _ _ _ _)).append (reconcile_frame fe _) |>.mono (by decide)

theorem fieldReconciled_commitNo (fe : FieldEntry) (s : State) : CommitKept s (fieldReconciled fe s) :=
  ((dropMiss_commitNo fe s).trans (closeRecord_commitNo _ _ _ _)).trans (.of_frame (reconcile_frame fe _) (by decide))

theorem fieldLeft_frame (fe : FieldEntry) (s : State) : SameExcept [.cov, .recorder, .events, .dies, .faults] s (fieldLeft fe s) :=
  (fieldReconciled_frame fe s).trans ((modCov_frame _ _).mono (by decide))

theorem commitMap_opened (no : Nat) (c : CovSt) : (commitMap no c).opened = c.opened ∧ (commitMap no c).closingAt = c.closingAt := by
  unfold commitMap storeCommit
  simp only
  split
  · rw [markBack_eq]; exact ⟨rfl, rfl⟩
  · exact ⟨rfl, rfl⟩

/-- A commit keeps which field is open and closing. -/
theorem commitWith_opened (full : Bool) (s : State) :
    (commitWith full s).cov.opened = s.cov.opened ∧ (commitWith full s).cov.closingAt = s.cov.closingAt := by
  have hcounted : ∀ {p : Prop} [Decidable p] n, (if p then countTime s else addTotal totCalderaFull n (countTime s)).cov = s.cov := fun n =>
    SameExcept.ite (countTime_frame s) ((countTime_frame s).trans (addTotal_frame _ n _)) .cov (by decide)
  have hfaults : ∀ {p : Prop} [Decidable p] (t : State) f, (if p then t else t.modFaults f).cov = t.cov := by
    intro p _ t f
    split <;> rfl
  have hmapped : ∀ {p : Prop} [Decidable p] (t : State) no, (if p then t else t.modCov (commitMap no)).cov.opened = t.cov.opened
      ∧ (if p then t else t.modCov (commitMap no)).cov.closingAt = t.cov.closingAt := by
    intro p _ t no
    split
    · exact ⟨rfl, rfl⟩
    · exact commitMap_opened no t.cov
  unfold commitWith
  simp only [State.modStore_cov]
  obtain ⟨hopened, hclosing⟩ := hmapped (p := partitionStopped _ 7 = true) _ _
  rw [hopened, hclosing, hfaults, State.modRec_cov, hcounted]
  exact ⟨rfl, rfl⟩

theorem fieldLeft_commit_frame (fe : FieldEntry) (s : State) : SameExcept [.cov, .recorder, .events, .dies, .faults, .storage, .units] s
    (edge 65 0 1 (strokesDropped (commit (fieldLeft fe s)))) :=
  ((fieldLeft_frame fe s).append (commitWith_frame _ _)).append (strokesDropped_frame _) |>.append (edge_frame_own rfl) |>.mono (by decide)

/-- A closed field leaves its commit and no field open or closing (R177, R498). -/
theorem finishClose_closes {fe : FieldEntry} {s : State} (hentry : s.cov.opened.bind s.fieldEntry = some fe) :
    (finishClose s).cov.opened = none ∧ (finishClose s).cov.closingAt = none
      ∧ (finishClose s).recorder.commitNo = s.recorder.commitNo + 1 ∧ LongKept s (finishClose s) := by
  rw [finishClose_eq hentry]
  have htail := (strokesDropped_frame (commit (fieldLeft fe s))).append (edge_frame_own (n := 65) (inst := 0) (code := 1) rfl)
  have hcov : (edge 65 0 1 (strokesDropped (commit (fieldLeft fe s)))).cov = (commit (fieldLeft fe s)).cov := htail .cov (by decide)
  have hrec : (edge 65 0 1 (strokesDropped (commit (fieldLeft fe s)))).recorder = (commit (fieldLeft fe s)).recorder :=
    htail .recorder (by decide)
  obtain ⟨hopened, hclosing⟩ := commitWith_opened (histDue (fieldLeft fe s)) (fieldLeft fe s)
  refine ⟨?_, ?_, ?_, .of_frame (fieldLeft_commit_frame fe s) (by decide)⟩
  · rw [hcov, commit, hopened]; rfl
  · rw [hcov, commit, hclosing]; rfl
  · rw [hrec, commit, commitWith_commitNo]
    exact congrArg (· + 1) (fieldReconciled_commitNo fe s)

theorem exec_fieldCloseDone_of_due {τ : Nat} {s : State} (hdue : closeDue (s.advance τ) = true) :
    exec (.fieldCloseDone τ) s = .next (settle s (endLong 1026 {} (finishClose (s.advance τ)))) := by
  change execFieldCloseDone τ s = _
  rw [execFieldCloseDone, at_next, if_pos hdue]

theorem closeUnits_drives (us : List Nat) (s : State) : SameExcept driveBanks s (us.foldl (fun s u => immediate u false s) s) :=
  .foldl _ (fun s u => immediate_drives u s false) us s

/-- Settles O8: opening and closing are long requests with the rules of `openScanned_eq` and `finishClose_eq`; a reset and a deletion
write the field's entry. -/
theorem fieldLife : Obligations.FieldLife := by
  unfold Obligations.FieldLife
  refine ⟨fun fid lat lon height cell flags => ?_, fun fid => ?_, ?_, ?_, fun fid e => ?_, fun fid => ?_⟩
  · refine .of_effect (fun _ => reqCovFieldOpen fid lat lon height cell flags)
      (fun _ => beginField fid lat lon height cell (flags == 1)) (fun h s s0 g _ _ => ⟨?_, ?_, ?_, ?_⟩)
      (hjudge := fun h s _ ⟨hfid, hcell, hflags, hopened, hscanning, hpower, _⟩ => ?_) (heffect := fun h s _ ⟨_, _, _, _, _, _, hfits⟩ => ?_)
    · simp [beginField_sets]
    · simp [beginField_sets]
    · simp [beginField_entry]
    · exact (beginField_frame _ _ _ _ _ _ (takenState h s)).only_request s0 g
    · have hdozing : dozing (takenState h s) = false := by simpa [dozing] using hpower
      have hcell' : (cell = 50 ∨ cell = 100 ∧ narrowSection (takenState h s) = false) := hcell
      rcases hcell' with rfl | ⟨rfl, hwide⟩
      · simp [reqCovFieldOpen, hfid, hflags, hopened, hscanning, hdozing]
      · simp [reqCovFieldOpen, hfid, hflags, hopened, hscanning, hdozing, hwide]
    · have hfits' : fieldRefusal fid lat lon height cell (takenState h s) = none := hfits
      simp only [reqCovFieldOpen, hfits']
  · refine .of_settle openScanned (fun τ s _ => at_next _ _ _) fun s0 s hscanning => ?_
    have hopened : SameExcept [.cov, .recorder, .events] s (edge 65 0 0 (openSession fid s.cov.scanResume (fieldOpened fid s))) :=
      (modCov_frame s _).append (openSession_frame _ _ _) |>.append (edge_frame_own rfl)
    rw [openScanned_eq hscanning]
    have hended := hopened.append (endLong_frame 1025 {} _)
    have hcov : (endLong 1025 {} (edge 65 0 0 (openSession fid s.cov.scanResume (fieldOpened fid s)))).cov = (fieldOpened fid s).cov :=
      ((openSession_frame _ _ _).append (edge_frame_own rfl) |>.append (endLong_frame 1025 {} _)) .cov (by decide)
    refine ⟨by rw [settle_cov, hcov]; rfl, by rw [settle_cov, hcov]; rfl, .of_endLong (.of_frame hopened (by decide)), ?_⟩
    exact (settle_units s0 _).trans (hended .units (by decide))
  · refine .of_effect (fun _ => reqCovFieldClose)
      (fun _ s => (closeUnits s).foldl (fun s u => immediate u false s) (s.modCov fun c => { c with closingAt := some s.devtime }))
      (fun h s s0 g _ _ => ?_) (hjudge := fun h s _ ⟨hopened, hidle⟩ => ?_)
    · have hcov : ∀ t us, (List.foldl (fun s u => immediate u false s) t us).cov = t.cov := fun t us => closeUnits_drives us t .cov (by decide)
      simp [hcov]
    · simp [reqCovFieldClose, hopened, hidle]
  · refine .of_settle (fun s => endLong 1026 {} (finishClose s)) (fun τ s hpre => exec_fieldCloseDone_of_due hpre.1) fun s0 s ⟨_, hentry⟩ => ?_
    obtain ⟨fe, hfe⟩ := Option.isSome_iff_exists.mp hentry
    obtain ⟨hopened, hclosing, hcommit, hlong⟩ := finishClose_closes hfe
    have hcov : (endLong 1026 {} (finishClose s)).cov = (finishClose s).cov := endLong_frame _ _ _ .cov (by decide)
    have hrec : (endLong 1026 {} (finishClose s)).recorder = (finishClose s).recorder := endLong_frame _ _ _ .recorder (by decide)
    exact ⟨by simpa [hcov] using hopened, by simpa [hcov] using hclosing, by simpa [hrec] using hcommit, .of_endLong hlong⟩
  · refine .of_reply (fun _ => reqCovFieldReset fid)
      (fun _ s => edge 65 0 2 (s.modField fid fun e => { e with coverEpoch := (e.coverEpoch + 1) % 4294967296, lifetime := [] }))
      (fun h s s0 g _ ⟨_, hentry, _⟩ => ⟨?_, ?_⟩) (hjudge := fun h s _ ⟨hopened, _, hoff⟩ => ?_)
    · rw [settle_fieldEntry, modCourse_fieldEntry, fieldEntry_of_cov (edge_frame_own (n := 65) rfl .cov (by decide)), fieldEntry_modField]
      · rw [takenState_fieldEntry, hentry]
        rfl
      · exact fun _ => rfl
    · exact (((modField_frame (takenState h s) _ _).append (edge_frame_own rfl)).only_request s0 g).mono (by decide)
    · change (reqCovFieldReset fid).judge s = none
      simpa [reqCovFieldReset, hopened] using hoff
  · refine .of_reply (fun _ => reqCovFieldDelete fid) (fun _ => deleteField fid)
      (fun h s s0 g _ _ => ⟨?_, ?_, (modCov_frame (takenState h s) _).only_request s0 g⟩)
      (hjudge := fun h s _ ⟨hentry, hopened, hscanning, _⟩ => ?_) (heffect := fun h s _ ⟨_, _, _, hmap⟩ => ?_)
    · simp [State.fieldEntry, deleteField, List.find?_eq_none]
    · simp [deleteField]
    · simp [reqCovFieldDelete, hopened, hscanning, hentry]
    · have hmap' : mapClosed (takenState h s) = false := hmap
      simp only [reqCovFieldDelete, hmap']
      rfl

end Sys2Proof.Machine
end

section
/-! Polygon sets, masters and section modes (R159, R166, R420, Table 05-9). -/

namespace Sys2Proof.Machine

@[simp] theorem takenState_sectionUnits (h : Hdr) (s : State) : (takenState h s).sectionUnits = s.sectionUnits := rfl

@[simp] theorem takenState_host_master (h : Hdr) (s : State) : (takenState h s).host.master = s.host.master := rfl

@[simp] theorem takenState_host_masterAuto (h : Hdr) (s : State) : (takenState h s).host.masterAuto = s.host.masterAuto := rfl

@[simp] theorem takenState_host_outputsEnabled (h : Hdr) (s : State) : (takenState h s).host.outputsEnabled = s.host.outputsEnabled := rfl

/-! ## Polygon sets and tiles -/

/-- A change of one tile's state is what is read at its place. -/
theorem tileAt_modTile {fid : Nat} {tc tr : Int} {f : Tile → Tile} (s : State)
    (hf : ∀ t, (f t).fieldId = t.fieldId ∧ (f t).tcol = t.tcol ∧ (f t).trow = t.trow) :
    tileAt (modTile fid tc tr f s) fid tc tr = (tileAt s fid tc tr).map f := by
  have hlist : ∀ l : List Tile,
      (l.map fun t => if t.fieldId = fid && t.tcol = tc && t.trow = tr then f t else t).find?
          (fun t => t.fieldId == fid && t.tcol == tc && t.trow == tr)
        = (l.find? fun t => t.fieldId == fid && t.tcol == tc && t.trow == tr).map f := fun l => by
    induction l with
    | nil => rfl
    | cons t l ih =>
      obtain ⟨hfield, hcol, hrow⟩ := hf t
      by_cases ht : t.fieldId = fid ∧ t.tcol = tc ∧ t.trow = tr
      · simp [ht, hfield, hcol, hrow]
      · have hnot : (t.fieldId == fid && t.tcol == tc && t.trow == tr) = false := by simpa [and_assoc] using ht
        have hnot' : ¬((t.fieldId = fid && t.tcol = tc && t.trow = tr) = true) := by simpa [and_assoc] using ht
        rw [List.map_cons, if_neg hnot', List.find?_cons, hnot, List.find?_cons, hnot]
        exact ih
  exact hlist s.cov.tiles

theorem tileAt_of_tiles {s t : State} (htiles : t.cov.tiles = s.cov.tiles) (fid : Nat) (tc tr : Int) :
    tileAt t fid tc tr = tileAt s fid tc tr := by rw [tileAt, tileAt, htiles]

/-- No write waits where the miss buffer is empty. -/
theorem drainMiss_of_empty {s : State} (hempty : s.cov.miss = []) (fe : FieldEntry) (tc tr : Int) :
    drainMiss fe tc tr s = s.modCov fun c => { c with miss := [] } := by
  simp [drainMiss, hempty, State.modCov]

theorem modTile_frame (fid : Nat) (tc tr : Int) (f : Tile → Tile) (s : State) : SameExcept [.cov] s (modTile fid tc tr f s) :=
  modCov_frame s _

theorem commitPolys_frame (fid : Nat) (rings : List Ring) (s : State) : SameExcept [.cov] s (commitPolys fid rings s) :=
  (modField_frame s fid _).trans (modCov_frame _ _)

/-- R159: the field takes the next set, which is the rings'. -/
theorem commitPolys_entry {fid : Nat} {e : FieldEntry} {s : State} (hentry : s.fieldEntry fid = some e) (rings : List Ring) :
    ∃ e', (commitPolys fid rings s).fieldEntry fid = some e' ∧ e'.polyGen = e.polyGen + 1 ∧ (e.polyGen + 1, rings) ∈ e'.polys := by
  unfold commitPolys
  simp only
  rw [modCov_fieldEntry, fieldEntry_modField, hentry]
  · exact ⟨_, rfl, rfl, List.mem_cons_self⟩
  · exact fun _ => rfl
  · exact fun _ => rfl

/-- R159: one tile has taken the set, with an empty miss buffer; whether it was the last is an event's matter. -/
theorem rasterised_cases {fe : FieldEntry} {tc tr : Int} {x : Tile} {s : State} (hfield : s.cov.opened.bind s.fieldEntry = some fe)
    (htile : tileAt s fe.fieldId tc tr = some x) (hcached : x.cached = true) (hold : x.polyGen ≠ fe.polyGen) (hempty : s.cov.miss = []) :
    rasterised tc tr s = ((rerasterise fe tc tr s).modCov fun c => { c with miss := [] })
      ∨ rasterised tc tr s = edge 65 0 3 ((rerasterise fe tc tr s).modCov fun c => { c with miss := [] }) := by
  have hdrained := drainMiss_of_empty (s := rerasterise fe tc tr s) hempty fe tc tr
  unfold rasterised
  simp only [hfield, htile, hcached, hold, hdrained, Bool.not_true, decide_false, Bool.or_self, Bool.false_eq_true, if_false]
  split
  · exact .inl rfl
  · exact .inr rfl

/-! ## Masters (Table 05-9) -/

/-- What COV_MASTER makes of one product's master in the table `t`. -/
def withMaster (auto : Bool) (mask st p : Nat) (t : Tbl Bool) : Tbl Bool :=
  if bitAt mask p then tset t p (st == 1) else if auto then tset t p true else t

theorem withMaster_named {auto : Bool} {mask st p : Nat} (hnamed : bitAt mask p = true) (t : Tbl Bool) :
    tget (withMaster auto mask st p t) false p = (st == 1) := by simp [withMaster, hnamed]

theorem withMaster_unnamed {mask st p : Nat} (hother : bitAt mask p = false) (t : Tbl Bool) : withMaster false mask st p t = t := by
  simp [withMaster, hother]

theorem withMaster_of_ne {auto : Bool} {mask st p q : Nat} (hq : q ≠ p) (t : Tbl Bool) :
    tget (withMaster auto mask st p t) false q = tget t false q := by
  unfold withMaster
  split_ifs
  · exact tget_tset_of_ne _ _ _ hq
  · exact tget_tset_of_ne _ _ _ hq
  · rfl

/-- COV_MASTER names the masters of the two products. -/
def withMasters (mask st : Nat) (s : State) : State :=
  s.modHost fun h => { h with masterAuto := false, master := withMaster h.masterAuto mask st 1 (withMaster h.masterAuto mask st 0 h.master) }

/-! ## Section modes -/

/-- R166: the modes of the section units among `us`. -/
def setModes (mode : Nat) (us : List Nat) (s : State) : State := us.foldl (fun s u => State.modSect s u fun x => { x with hostMode := mode }) s

theorem setModes_frame (mode : Nat) (us : List Nat) (s : State) : SameExcept [.units] s (setModes mode us s) :=
  .foldl _ (fun s u => by exact modUnit_frame s u _) us s

theorem setModes_unit_of_not_mem {mode u : Nat} {us : List Nat} (hu : u ∉ us) (s : State) : (setModes mode us s).unit u = s.unit u := by
  induction us generalizing s with
  | nil => rfl
  | cons v us ih =>
    rw [List.mem_cons, not_or] at hu
    exact (ih hu.2 _).trans (State.modUnit_unit_of_ne _ _ _ hu.1)

theorem setModes_kept {mode u : Nat} (us : List Nat) {s : State} (hmode : (s.unit u).sect.hostMode = mode) :
    ((setModes mode us s).unit u).sect.hostMode = mode := by
  induction us generalizing s with
  | nil => exact hmode
  | cons v us ih =>
    refine ih ?_
    by_cases hv : u = v
    · subst hv; simp [State.modSect]
    · simpa [State.modSect, hv] using hmode

theorem setModes_hostMode {mode u : Nat} {us : List Nat} (hu : u ∈ us) (s : State) :
    ((setModes mode us s).unit u).sect.hostMode = mode := by
  induction us generalizing s with
  | nil => simp at hu
  | cons v us ih =>
    by_cases hv : u = v
    · subst hv
      exact setModes_kept us (s := State.modSect s u _) (by simp [State.modSect])
    · exact ih (by simpa [hv] using hu) _

/-! ## The statement -/

/-- Settles O9: each request writes the stage, the field's entry, the masters or the modes that it names; a tile takes the set. -/
theorem polygonsMastersModes : Obligations.PolygonsMastersModes := by
  unfold Obligations.PolygonsMastersModes
  refine ⟨fun data => ?_, fun done data => ?_, fun d fid e rings => ?_, fun fe tc tr x => ?_, fun mask st => ?_, fun unit mode => ?_⟩
  · refine .of_reply (fun _ => reqCovPolyLoad 0 data) (fun _ s => s.modCov fun c => { c with polyStage := some data })
      (fun h s s0 g _ _ => ⟨by simp, (modCov_frame _ _).only_request s0 g⟩) (hjudge := fun h s _ ⟨hfits, hopened⟩ => ?_)
    obtain ⟨fid, hfid⟩ := Option.isSome_iff_exists.mp hopened
    simp [reqCovPolyLoad, polyStageOk, polyMax, hfits, hfid]
  · refine .of_reply (fun _ => reqCovPolyLoad done.length data)
      (fun _ s => s.modCov fun c => { c with polyStage := some (if done.length = 0 then data else c.polyStage.getD [] ++ data) })
      (fun h s s0 g _ ⟨hstage, hbegun, _⟩ => ⟨by simp [hstage, hbegun], (modCov_frame _ _).only_request s0 g⟩)
      (hjudge := fun h s _ ⟨hstage, _, hwords, hfits, hopened⟩ => ?_)
    obtain ⟨fid, hfid⟩ := Option.isSome_iff_exists.mp hopened
    simp [reqCovPolyLoad, polyStageOk, polyMax, hfits, hfid, hstage, hwords]
  · refine .of_reply (fun _ => reqCovPolyCommit d.length (crc32c d).toNat) (fun _ => commitPolys fid rings)
      (fun h s s0 g _ ⟨_, _, _, _, hentry⟩ => ⟨?_, ?_, (commitPolys_frame fid rings _).only_request s0 g⟩)
      (hjudge := fun h s _ ⟨hopened, hstage, _⟩ => ?_) (heffect := fun h s _ ⟨hopened, hstage, hpolys, hmap, _⟩ => ?_)
    · rw [settle_cov, State.modCourse_cov]; rfl
    · simpa using commitPolys_entry (s := takenState h s) hentry rings
    · simp [reqCovPolyCommit, hopened, hstage]
    · have hmap' : mapClosed (takenState h s) = false := hmap
      have hopened' : (takenState h s).cov.opened = some fid := hopened
      have hstage' : (takenState h s).cov.polyStage = some d := hstage
      simp only [reqCovPolyCommit, hopened', hstage', hpolys, hmap', ne_eq, not_true_eq_false, if_false]
      rfl
  · refine .of_settle (rasterised tc tr) (fun τ s _ => at_next _ _ _)
      fun s0 s ⟨hfield, htile, hcached, hold, hempty⟩ => ?_
    have htaken : tileAt ((rerasterise fe tc tr s).modCov fun c => { c with miss := [] }) fe.fieldId tc tr
        = some { x with polyGen := fe.polyGen, changed := true } := by
      refine (tileAt_of_tiles (s := rerasterise fe tc tr s) rfl _ _ _).trans ?_
      rw [rerasterise, tileAt_modTile s, htile]
      · simp [hold]
      · exact fun _ => ⟨rfl, rfl, rfl⟩
    have hframe : SameExcept [.cov] s ((rerasterise fe tc tr s).modCov fun c => { c with miss := [] }) :=
      (modTile_frame _ _ _ _ s).trans (modCov_frame _ _)
    rw [tileAt_of_tiles (congrArg CovSt.tiles (settle_cov s0 (rasterised tc tr s)))]
    obtain heq | heq := rasterised_cases hfield htile hcached hold hempty
    · rw [heq]
      exact ⟨htaken, hframe.only_settle s0⟩
    · rw [heq, tileAt_of_tiles (congrArg CovSt.tiles (edge_frame_own (n := 65) rfl .cov (by decide)))]
      exact ⟨htaken, (hframe.append (edge_frame_own rfl)).only_settle_of s0 (by decide)⟩
  · refine .of_reply (fun _ => reqCovMaster mask st) (fun _ => withMasters mask st)
      (fun h s s0 g _ _ => ⟨by simp [withMasters], fun p hp hnamed => ?_, fun hnotAuto p hp hother => ?_, ?_⟩)
      (hjudge := fun h s _ ⟨hmask, hst⟩ => by simp [reqCovMaster, hmask, hst])
    · obtain rfl | rfl : p = 0 ∨ p = 1 := by omega
      · simp [withMasters, withMaster_of_ne, withMaster_named hnamed]
      · simp [withMasters, withMaster_named hnamed]
    · obtain rfl | rfl : p = 0 ∨ p = 1 := by omega
      · simp [withMasters, hnotAuto, withMaster_of_ne, withMaster_unnamed hother]
      · simp [withMasters, hnotAuto, withMaster_of_ne, withMaster_unnamed hother]
    · exact (modHost_frame (takenState h s) (by rfl) (by rfl)).only_request s0 g
  · refine .of_reply (fun _ => reqCovSectionMode unit mode)
      (fun _ s => setModes mode (s.sectionUnits.filter fun u => unit == 65535 || u == unit) s)
      (fun h s s0 g _ _ => ⟨fun u hu hnamed => ?_, fun u hother => ?_, (setModes_frame _ _ _).only_request s0 g⟩)
      (hjudge := fun h s _ ⟨hmode, hunit⟩ => ?_)
    · simpa using setModes_hostMode (mode := mode) (us := s.sectionUnits.filter fun u => unit == 65535 || u == unit)
        (by simpa [hu] using hnamed) (takenState h s)
    · simpa using setModes_unit_of_not_mem (mode := mode) (us := s.sectionUnits.filter fun u => unit == 65535 || u == unit)
        (by simpa using hother) (takenState h s)
    · change (reqCovSectionMode unit mode).judge s = none
      rcases hunit with rfl | hunit
      · simp [reqCovSectionMode, hmode]
      · simp [reqCovSectionMode, hmode, hunit]

end Sys2Proof.Machine
end

section
/-! Valve units one by one: what driving unit `u` makes of that unit, and that the other units stay as they are (Tables 07-2, 07-3). -/

namespace Sys2Proof.Machine

/-! ## The other units -/

/-- Every unit but `u` stands as it stood. -/
def OthersKept (u : Nat) (s t : State) : Prop := ∀ v, v ≠ u → t.unit v = s.unit v

theorem OthersKept.refl (u : Nat) (s : State) : OthersKept u s s := fun _ _ => rfl

theorem OthersKept.trans {u : Nat} {s t w : State} (h : OthersKept u s t) (k : OthersKept u t w) : OthersKept u s w :=
  fun v hv => (k v hv).trans (h v hv)

theorem OthersKept.ite {u : Nat} {s t w : State} {p : Prop} [Decidable p] (h : OthersKept u s t) (k : OthersKept u s w) :
    OthersKept u s (if p then t else w) := by
  split
  · exact h
  · exact k

theorem OthersKept.foldl {u : Nat} {α : Type} {f : State → α → State} (h : ∀ s a, OthersKept u s (f s a)) (l : List α) (s : State) :
    OthersKept u s (l.foldl f s) := by
  induction l generalizing s with
  | nil => exact .refl u s
  | cons a l ih => exact (h s a).trans (ih _)

theorem SameExcept.unit {bs : List Bank} {s t : State} (h : SameExcept bs s t) (hb : .units ∉ bs) (v : Nat) : t.unit v = s.unit v := by
  have hunits : t.units = s.units := h .units hb
  rw [State.unit, State.unit, hunits]

theorem SameExcept.cluster {bs : List Bank} {s t : State} (h : SameExcept bs s t) (hb : .clusters ∉ bs) (c : Nat) :
    t.cluster c = s.cluster c := by
  have hclusters : t.clusters = s.clusters := h .clusters hb
  rw [State.cluster, State.cluster, hclusters]

theorem OthersKept.of_frame {u : Nat} {bs : List Bank} {s t : State} (h : SameExcept bs s t) (hb : .units ∉ bs) : OthersKept u s t :=
  fun v _ => h.unit hb v

theorem modUnit_others (u : Nat) (s : State) (f : UnitSt → UnitSt) : OthersKept u s (s.modUnit u f) :=
  fun _ hv => State.modUnit_unit_of_ne _ _ _ hv

theorem unit_settled (s0 s : State) (v : Nat) : (settle s0 s).unit v = s.unit v := by simp

/-! ## Charges -/

section
variable (u : Nat) (s : State)

theorem debits_frame (reserved : Bool) (cs : List Charge) : SameExcept [.ledger] s (cs.foldl (debit reserved) s) :=
  .foldl _ (fun s c => debit_frame reserved s c) cs s

theorem releaseBase_others : OthersKept u s (releaseBase u s) := by
  unfold releaseBase
  simp only
  have hreleased : ∀ f, OthersKept u s ((ledgerRelease (s.unit u).drive.baseReserved (along (chainUnit s u) (s.unit u).drive.base) s).modDrive u f) :=
    fun f => (OthersKept.of_frame (ledgerRelease_frame _ _ s) (by decide)).trans (modUnit_others u _ _)
  have hreturned : ∀ {t} cs c f, OthersKept u s t → OthersKept u s ((ledgerRelease true cs t).modCluster c f) := fun cs c f ht =>
    ht.trans (.of_frame ((ledgerRelease_frame true cs _).append (modCluster_frame _ c f)) (by decide))
  exact .ite (.refl u s) (.ite (hreleased _) (hreturned _ _ _ (hreleased _)))

/-- A unit that gives up its base charge has none. -/
theorem releaseBase_unit : ∃ b, (releaseBase u s).unit u =
    { s.unit u with drive := { (s.unit u).drive with base := 0, baseReserved := b } } := by
  unfold releaseBase
  simp only
  split
  case isTrue hnone => exact ⟨_, by rw [← hnone]⟩
  case isFalse =>
    have hledger := (ledgerRelease_frame (s.unit u).drive.baseReserved (along (chainUnit s u) (s.unit u).drive.base) s).unit (by decide) u
    refine ⟨false, ?_⟩
    split
    · simp [hledger]
    · refine (((ledgerRelease_frame _ _ _).append (modCluster_frame _ _ _)).unit (by decide) u).trans ?_
      simp [hledger]

theorem drawBase_others (toDrawing : Bool) : OthersKept u s (drawBase u toDrawing s) :=
  .ite (.refl u s) ((OthersKept.of_frame (ledgerMove_frame _ _ s) (by decide)).trans (modUnit_others u _ _))

theorem drawBase_unit (toDrawing : Bool) : ∃ b, (drawBase u toDrawing s).unit u =
    { s.unit u with drive := { (s.unit u).drive with baseReserved := b } } := by
  unfold drawBase
  simp only
  split
  · exact ⟨_, rfl⟩
  · have hledger := (ledgerMove_frame toDrawing (along (chainUnit s u) (s.unit u).drive.base) s).unit (by decide) u
    exact ⟨!toDrawing, by simp [hledger]⟩

theorem settleBase_others : OthersKept u s (settleBase u s) :=
  .ite (.refl u s) (.ite (drawBase_others u s false) (releaseBase_others u s))

/-- Where the charge of a stroke that ended goes is all that its end changes (R39). -/
theorem settleBase_unit : ∃ n b, (settleBase u s).unit u =
    { s.unit u with drive := { (s.unit u).drive with base := n, baseReserved := b } } := by
  unfold settleBase
  simp only
  split
  · exact ⟨_, _, rfl⟩
  · split
    · obtain ⟨b, hb⟩ := drawBase_unit u s false
      exact ⟨_, b, hb⟩
    · obtain ⟨b, hb⟩ := releaseBase_unit u s
      exact ⟨_, b, hb⟩

end

/-! ## Clusters -/

theorem updateRail_holder (c k : Nat) (s : State) : ((updateRail c s).cluster k).holder = (s.cluster k).holder := by
  by_cases hk : k = c
  · subst hk; simp [updateRail]
  · simp [updateRail, hk]

theorem takeSlot_holder (u : Nat) (s : State) : ((takeSlot u s).cluster (clusterOf u)).holder = some u := by
  simp [takeSlot]

/-! ## Strokes -/

section
variable (u : Nat) (s : State)

theorem risen_others {t : State} (ht : OthersKept u s t) (f : Drive → Drive) (g : ValveCounters → ValveCounters) :
    OthersKept u s (updateRail (clusterOf u) (addTotal totStrokes 1 ((t.modDrive u f).modValve u g))) :=
  ((ht.trans (modUnit_others u _ _)).trans (modUnit_others u _ _)).trans
    (.of_frame ((addTotal_frame _ _ _).append (updateRail_frame _ _)) (by decide))

theorem enterRise_others : OthersKept u s (enterRise u s) := by
  unfold enterRise
  simp only
  refine risen_others u s ?_ _ _
  exact (drawBase_others u s true).trans (.of_frame (takeSlot_frame u _) (by decide))

/-- R220: the unit is in its rise, and its stroke counts. -/
theorem enterRise_unit : ∃ b, (enterRise u s).unit u =
    { s.unit u with drive := { (s.unit u).drive with baseReserved := b, phase := .rise, phaseAt := s.devtime, boostRise := boostPlanned s u,
                                                     offWaiting := false },
                    valve := { (s.unit u).valve with strokes := (s.unit u).valve.strokes + 1 } } := by
  obtain ⟨b, hb⟩ := drawBase_unit u s true
  refine ⟨b, ?_⟩
  have hslot := (takeSlot_frame u (drawBase u true s)).unit (by decide) u
  refine (((addTotal_frame _ _ _).append (updateRail_frame _ _)).unit (by decide) u).trans ?_
  simp [hslot, hb]

theorem enterRise_holder : ((enterRise u s).cluster (clusterOf u)).holder = some u := by
  unfold enterRise
  simp only
  rw [updateRail_holder, (addTotal_frame _ _ _).cluster (by decide)]
  simpa using takeSlot_holder u (drawBase u true s)

theorem endHold_others (ppm : Nat) : OthersKept u s (endHold u ppm s) := by
  unfold endHold
  simp only
  split
  · exact .refl u s
  · split
    · exact modUnit_others u s _
    · exact modUnit_others u s _

/-- R208: the end of a hold changes what is learnt of the coil. -/
theorem endHold_unit (ppm : Nat) : ∃ t h, (endHold u ppm s).unit u =
    { s.unit u with learn := { (s.unit u).learn with tempMc := t, lastHold := h } } := by
  unfold endHold
  simp only
  split
  · exact ⟨_, _, rfl⟩
  · split
    · exact ⟨(s.unit u).learn.tempMc, some s.devtime, by simp⟩
    · exact ⟨_, some s.devtime, by simp; exact rfl⟩

theorem freeSlot_queue (c : Nat) : ((freeSlot u s).cluster c).queue = (s.cluster c).queue := by
  unfold freeSlot
  simp only
  split
  · have hledger := ((ledgerMove_frame false (along (chainSlot s (clusterOf u)) (s.cluster (clusterOf u)).slot) s).append
      (credit_frame false _ (u, (s.cluster (clusterOf u)).slot))).cluster (by decide)
    by_cases hc : c = clusterOf u
    · subst hc; simp [hledger]
    · simp [hc, hledger]
  · rfl

/-- R238: nobody waits for the slot that unit `u` may hold. -/
def passesNoSlot (u : Nat) (s : State) : Prop := (s.cluster (clusterOf u)).holder = some u → (s.cluster (clusterOf u)).queue = []

/-- R238: where nobody waits for the slot, the unit that gives it up changes no unit. -/
theorem yieldSlot_frame_of_alone {u : Nat} {s : State} (halone : passesNoSlot u s) : SameExcept [.clusters, .ledger] s (yieldSlot u s) := by
  unfold yieldSlot
  simp only
  split
  · rw [freeSlot_queue, halone ‹_›]
    exact ((freeSlot_frame u s).append (modCluster_frame _ _ _)).append (updateRail_frame _ _) |>.mono (by decide)
  · exact .refl _ s

theorem turningOff_others {t : State} (ht : OthersKept u s t) (f : Drive → Drive) (g : Learn → Learn)
    (halone : passesNoSlot u t) :
    OthersKept u s (updateRail (clusterOf u) (settleBase u (yieldSlot u ((t.modDrive u f).modLearn u g)))) := by
  have hyield : SameExcept [.clusters, .ledger] ((t.modDrive u f).modLearn u g) (yieldSlot u ((t.modDrive u f).modLearn u g)) :=
    yieldSlot_frame_of_alone halone
  refine OthersKept.trans ?_ (.of_frame (updateRail_frame _ _) (by decide))
  refine OthersKept.trans ?_ (settleBase_others u _)
  exact ((ht.trans (modUnit_others u _ _)).trans (modUnit_others u _ _)).trans (.of_frame hyield (by decide))

theorem turnOff_others_of_alone (halone : passesNoSlot u s) : OthersKept u s (turnOff u s) := by
  have hcluster := (endHold_frame u (dutyOf s u) s).cluster (by decide) (clusterOf u)
  unfold turnOff
  exact turningOff_others u s (endHold_others u s _) _ _ (by rw [passesNoSlot, hcluster]; exact halone)

/-- Phase 5 (Table 07-2): the closing window opens, and the charge goes where it is due. -/
theorem turnOff_unit_of_alone (halone : passesNoSlot u s) : ∃ n b l, (turnOff u s).unit u =
    { s.unit u with
        drive := { (s.unit u).drive with phase := .turnOff, phaseAt := s.devtime, shotEnd := keptShot (s.unit u).drive, onTimeEnd := none,
                                         closeWinEnd := some (s.devtime + s.closeWin u), base := n, baseReserved := b },
        learn := l } := by
  obtain ⟨t, h, hhold⟩ := endHold_unit u s (dutyOf s u)
  have hcluster := (endHold_frame u (dutyOf s u) s).cluster (by decide) (clusterOf u)
  have hended : ∀ f g, ∃ n b, (updateRail (clusterOf u) (settleBase u (yieldSlot u (((endHold u (dutyOf s u) s).modDrive u f).modLearn u g)))).unit u
      = { s.unit u with drive := { f (s.unit u).drive with base := n, baseReserved := b },
                        learn := g { (s.unit u).learn with tempMc := t, lastHold := h } } := by
    intro f g
    have hyield := yieldSlot_frame_of_alone (u := u) (s := ((endHold u (dutyOf s u) s).modDrive u f).modLearn u g)
      (by rw [passesNoSlot, State.modLearn_cluster, State.modDrive_cluster, hcluster]; exact halone)
    obtain ⟨n, b, hbase⟩ := settleBase_unit u (yieldSlot u (((endHold u (dutyOf s u) s).modDrive u f).modLearn u g))
    refine ⟨n, b, ((updateRail_frame _ _).unit (by decide) u).trans ?_⟩
    rw [hbase, hyield.unit (by decide) u]
    simp [hhold]
  obtain ⟨n, b, hunit⟩ := hended _ _
  exact ⟨n, b, _, hunit⟩

/-! ## Acquiring a base charge (R34, R35) -/

/-- What a granted base charge makes of its unit, and what it leaves. -/
structure BaseGranted (u base : Nat) (reserved : Bool) (s t : State) : Prop where
  frame : SameExcept [.units, .clusters, .ledger] s t
  unit : t.unit u = { s.unit u with drive := { (s.unit u).drive with base := base, baseReserved := reserved } }
  others : OthersKept u s t
  holder : ∀ c, (t.cluster c).holder = (s.cluster c).holder
  queue : ∀ c, (t.cluster c).queue = (s.cluster c).queue

/-- R32: a charge that no level refuses is granted. -/
theorem acquireBase_of_granted {base : Nat} {reserved : Bool} (hgranted : refusal s (firstCharge s u base) = none) :
    ∃ t, acquireBase u base reserved s = .ok t ∧ BaseGranted u base reserved s t := by
  have hledger : ∀ slot, SameExcept [.ledger] s ((along (chainSlot s (clusterOf u)) slot).foldl (debit true)
      ((along (chainUnit s u) base).foldl (debit reserved) s)) := fun slot => (debits_frame s _ _).trans (debits_frame _ _ _)
  have hdriven : ∀ slot, BaseGranted u base reserved s (((along (chainSlot s (clusterOf u)) slot).foldl (debit true)
      ((along (chainUnit s u) base).foldl (debit reserved) s)).modDrive u fun d => { d with base := base, baseReserved := reserved }) := by
    intro slot
    refine ⟨((hledger slot).append (modUnit_frame _ u _)).mono (by decide), ?_,
      (OthersKept.of_frame (hledger slot) (by decide)).trans (modUnit_others u _ _), fun c => ?_, fun c => ?_⟩
    · simp [(hledger slot).unit (by decide) u]
    · simp [(hledger slot).cluster (by decide) c]
    · simp [(hledger slot).cluster (by decide) c]
  have hslotted : ∀ {t} slot, BaseGranted u base reserved s t →
      BaseGranted u base reserved s (t.modCluster (clusterOf u) fun x => { x with slot := slot }) := by
    rintro t slot ⟨hframe, hunit, hothers, hholder, hqueue⟩
    refine ⟨(hframe.append (modCluster_frame _ _ _)).mono (by decide), by simpa using hunit,
      hothers.trans (.of_frame (modCluster_frame _ _ _) (by decide)), fun c => ?_, fun c => ?_⟩
    · by_cases hc : c = clusterOf u
      · subst hc; simpa using hholder _
      · simpa [hc] using hholder c
    · by_cases hc : c = clusterOf u
      · subst hc; simpa using hqueue _
      · simpa [hc] using hqueue c
  unfold acquireBase
  simp only [hgranted]
  have hended : ∀ {p : Prop} [Decidable p] {t} slot, BaseGranted u base reserved s t →
      BaseGranted u base reserved s (if p then t else t.modCluster (clusterOf u) fun x => { x with slot := slot }) := by
    intro p _ t slot ht
    split
    · exact ht
    · exact hslotted slot ht
  exact ⟨_, rfl, hended _ (hdriven _)⟩

/-- R31: what a request is refused by is a matter of the ledger and the configuration. -/
theorem refusal_of_ledger {s t : State} (hledger : t.ledger = s.ledger) (hcfg : t.cfg = s.cfg) (cs : List Charge) : refusal t cs = refusal s cs := by
  have hat : ∀ k n, refusesAt t k n = refusesAt s k n := fun k n => by
    have hfree : freeOf t k = freeOf s k := by
      unfold freeOf poolOf ledgerEl ownsPair State.unitCfg
      rw [hledger, hcfg]
    unfold refusesAt ledgerEl
    rw [hfree, hledger, hcfg]
  simp only [refusal, hat]

/-- A unit's first charge does not follow from what it drives. -/
theorem firstCharge_modDrive {f : Drive → Drive} (hf : ∀ d, (f d).base = d.base) (base : Nat) :
    firstCharge (s.modDrive u f) u base = firstCharge s u base := by
  have hcharged : clusterCharged (s.modDrive u f) (clusterOf u) = clusterCharged s (clusterOf u) := by
    unfold clusterCharged
    congr 1
    funext v
    by_cases hv : v = u
    · subst hv; simp [hf]
    · simp [hv]
  simp only [firstCharge, hcharged]
  rfl

end

end Sys2Proof.Machine
end

section
/-! Unit modes, fault clears and latency resets (R215, R228, R251). -/

namespace Sys2Proof.Machine

@[simp] theorem followLoops_unit (s : State) (v : Nat) : (followLoops s).unit v = s.unit v := (followLoops_frame s).unit (by decide) v

/-- The state that an answer of the ledger leaves: unchanged where it refuses (R32). -/
def grantedState (r : Except Nat State) (s : State) : State :=
  match r with
  | .ok t => t
  | .error _ => s

/-! ## Modes -/

/-- A unit on the way to the mode `m`: its old charge is released, and it is not enabled (R228). -/
def modeLeft (u : Nat) (m : UnitMode) (s : State) : State :=
  (releaseBase u s).modDrive u fun d =>
    { d with mode := m, modeEnabled := false, modeWait := false, cycling := false, resume := false, nextCycle := none, setpoint := 0,
             phase := if d.phase == Phase.proportional then Phase.off else d.phase }

/-- A mode's end: the rail and the boost converter follow the units. -/
def modeTaken (u : Nat) (s : State) : State :=
  (updateRail (clusterOf u) s).modBoost (dieOfUnit u) fun b => { b with running := boostWanted s (dieOfUnit u) && !b.fault }

theorem changeMode_eq (u : Nat) (m : UnitMode) (s : State) : changeMode u m s =
    (if m == UnitMode.onoff then .ok (modeLeft u m s) else enableMode u (modeLeft u m s)).map (modeTaken u) := rfl

theorem modeTaken_frame (u : Nat) (s : State) : SameExcept [.clusters, .boost] s (modeTaken u s) :=
  (updateRail_frame _ s).append (modBoost_frame _ _ _)

/-- R228: a unit on the way to a mode is off, without charge, duty cycle and setpoint. -/
theorem modeLeft_unit (u : Nat) (m : UnitMode) (s : State) : ∃ b p, (modeLeft u m s).unit u = { s.unit u with
    drive := { (s.unit u).drive with mode := m, modeEnabled := false, modeWait := false, cycling := false, resume := false,
                                     nextCycle := none, setpoint := 0, phase := p, base := 0, baseReserved := b } } := by
  obtain ⟨b, hb⟩ := releaseBase_unit u s
  exact ⟨b, _, by simp [modeLeft, hb]; rfl⟩

/-- R228, R34: a unit that does not resume is enabled by its mode charge alone. -/
theorem enableMode_of_granted {u : Nat} {s : State} (hfresh : (s.unit u).drive.resume = false)
    (hgranted : refusal s (firstCharge s u (baseOf s u (s.unit u).drive.mode)) = none) : ∃ t, enableMode u s = .ok t
      ∧ (t.unit u).drive.mode = (s.unit u).drive.mode ∧ (t.unit u).drive.modeEnabled = true
      ∧ (t.unit u).drive.base = baseOf s u (s.unit u).drive.mode := by
  obtain ⟨t, ht, hbase⟩ := acquireBase_of_granted u s (reserved := false) hgranted
  unfold enableMode
  simp only [ht, hfresh, Bool.and_false, Bool.false_and, Bool.false_eq_true, if_false]
  refine ⟨_, rfl, ?_⟩
  rw [(updateRail_frame _ _).unit (by decide) u]
  simp [hbase.unit]

/-- R228: a unit in ON/OFF mode and without charge takes the PWM mode with its charge. -/
theorem changeMode_pwm {u : Nat} {s : State} (hbase : (s.unit u).drive.base = 0)
    (hgranted : refusal s (firstCharge s u (baseOf s u .pwm)) = none) : ∃ t, changeMode u .pwm s = .ok t
      ∧ (t.unit u).drive.mode = .pwm ∧ (t.unit u).drive.modeEnabled = true ∧ (t.unit u).drive.base = baseOf s u .pwm := by
  have hleft : modeLeft u .pwm s = s.modDrive u fun d =>
      { d with mode := .pwm, modeEnabled := false, modeWait := false, cycling := false, resume := false, nextCycle := none, setpoint := 0,
               phase := if d.phase == Phase.proportional then Phase.off else d.phase } := by
    simp [modeLeft, releaseBase, hbase]
  have hmode : ((modeLeft u .pwm s).unit u).drive.mode = .pwm := by simp [hleft]
  have hcharge : refusal (modeLeft u .pwm s) (firstCharge (modeLeft u .pwm s) u
      (baseOf (modeLeft u .pwm s) u ((modeLeft u .pwm s).unit u).drive.mode)) = none := by
    rw [hmode, hleft, firstCharge_modDrive]
    · exact (refusal_of_ledger rfl rfl _).trans hgranted
    · exact fun _ => rfl
  obtain ⟨t, ht, hpwm, henabled, hfull⟩ := enableMode_of_granted (by simp [hleft]) hcharge
  have hunit := (modeTaken_frame u t).unit (by decide) u
  rw [hmode] at hpwm hfull
  have hsame : baseOf (modeLeft u .pwm s) u .pwm = baseOf s u .pwm := by rw [hleft]; rfl
  refine ⟨modeTaken u t, by rw [changeMode_eq, if_neg (by decide), ht]; rfl, ?_⟩
  rw [hunit]
  exact ⟨hpwm, henabled, hfull.trans hsame⟩

/-- A mode change of an own unit outside a system, as its row judges it. -/
theorem judge_unitMode {u mode : Nat} {s : State} (halone : s.cfg.package.member = false) (hu : u < 128) (hmode : mode ≤ 2) (h : Hdr) :
    (reqUnitMode h u mode).judge s = judgeMode s u mode := by
  have hrange : firstFail [(decide (2 < mode) || unitBeyond s u, resRange)] = none := by simp [hmode, unitBeyond_of_alone halone hu]
  simp only [reqUnitMode, hrange]

/-- What R228 asks of a unit whose mode changes. -/
theorem judgeMode_of_allowed {u mode : Nat} {s : State} (halone : s.cfg.package.member = false) (hu : u < 128)
    (hcapable : (mode == 1 && !pwmCapable (s.unitCfg u)) = false ∧ (mode == 2 && (s.unitCfg u).iMax.isNone) = false)
    (hsec : s.secOf u = none) (hpair : pairMember s u = false) (hused : unusedUnit s u = false) (hoff : unitOff (s.unit u).drive = true)
    (hfrets : ∀ f ∈ (s.unit u).frets, f.inDie = false) (hdrive : drivable s (.unit u) = true) (hbound : boundLoop s (.unit u) = none) :
    judgeMode s u mode = none := by
  simp only [drivable, Bool.and_eq_true, Bool.not_eq_true'] at hdrive
  obtain ⟨⟨⟨⟨⟨-, -⟩, -⟩, hheld⟩, hlink⟩, havail⟩ := hdrive
  simp only [judgeMode, unitRef_of_alone halone hu]
  simpa [hcapable, hsec, hpair, hused, hoff, hheld, hlink, havail, hbound] using hfrets

theorem modeEffect {u mode : Nat} {s : State} (halone : s.cfg.package.member = false) (hu : u < 128)
    (hother : (s.unit u).drive.mode ≠ modeOf mode) (h : Hdr) :
    (reqUnitMode h u mode).effect s = credited s (changeMode u (modeOf mode) s) := by
  simp only [reqUnitMode, unitRef_of_alone halone hu, beq_eq_false_iff_ne.mpr hother, Bool.false_eq_true, if_false]

/-! ## Fault states -/

/-- R251: one unit's own fault state ends where its cause is gone. -/
def faultEnded (u : Nat) (s : State) : State := s.modDrive u fun d => { d with fault := false, cause := 0 }

theorem clearFaults_unit {u : Nat} {still stillC : List Nat} {s : State} (hfault : (s.unit u).drive.fault = true)
    (hcluster : (s.cluster (clusterOf u)).fault = false) (hsingle : partner? s u = none) (hgone : u ∉ still) :
    clearFaults 0 u still stillC s = (faultEnded u s, some 0) := by
  have hcleared : clearPair still u s = faultEnded u s := by simp [clearPair, hsingle, clearUnit, hcluster, hgone, faultEnded]
  simp [clearFaults, clearNames, faultedCount, hcleared, hfault, faultEnded]

/-! ## Latency tables -/

theorem tget_clearedTable (t : Tbl LatBin) (b : Nat) : tget (clearedTable t) {} b =
    { tget t {} b with count := 0, mean := 0, var := 0, runOut := 0, range := false } :=
  tget_map t {} (fun _ x => { x with count := 0, mean := 0, var := 0, runOut := 0, range := false }) b rfl

theorem resetLatency_others (u : Nat) (s : State) : OthersKept u s (resetLatency u s) :=
  (modUnit_others u s _).trans (.of_frame (modStore_frame _ _) (by decide))

theorem resetLatency_unit (u : Nat) (s : State) : (resetLatency u s).unit u = { s.unit u with
    learn := { (s.unit u).learn with opening := clearedTable (s.unit u).learn.opening, closing := clearedTable (s.unit u).learn.closing } } := by
  simp [resetLatency]

/-! ## The statement -/

/-- Settles O12: the mode's change follows the ledger's answer; a clear and a reset write the unit they name. -/
theorem unitModesAndClears : Obligations.UnitModesAndClears := by
  unfold Obligations.UnitModesAndClears
  refine ⟨fun u => ?_, fun u => ?_, fun u still stillC => ?_, fun u => ?_⟩
  · refine .of_reply (fun h => reqUnitMode h u 0) (fun _ s => modeTaken u (modeLeft u .onoff s))
      (fun h s s0 g _ _ => ?_)
      (hjudge := fun h s _ ⟨halone, hu, hsec, hpair, hused, hoff, hfrets, hdrive, hbound, _⟩ => ?_)
      (heffect := fun h s _ ⟨halone, hu, _, _, _, _, _, _, _, hmode⟩ => ?_)
    · obtain ⟨b, p, hunit⟩ := modeLeft_unit u .onoff (takenState h s)
      have htaken := (modeTaken_frame u (modeLeft u .onoff (takenState h s))).unit (by decide) u
      simp [htaken, hunit]
    · change (reqUnitMode h u 0).judge s = none
      rw [judge_unitMode halone hu (by decide)]
      exact judgeMode_of_allowed halone hu ⟨rfl, rfl⟩ hsec hpair hused hoff hfrets hdrive hbound
    · exact modeEffect (s := takenState h s) (mode := 0) halone hu hmode h
  · refine .of_reply (fun h => reqUnitMode h u 1) (fun _ s => grantedState (changeMode u .pwm s) s)
      (fun h s s0 g _ ⟨_, _, _, _, _, _, _, _, _, _, _, hbase, hgranted⟩ => ?_)
      (hjudge := fun h s _ ⟨halone, hu, hsec, hpair, hused, hcapable, hoff, hfrets, hdrive, hbound, _⟩ => ?_)
      (heffect := fun h s _ ⟨halone, hu, _, _, _, _, _, _, _, _, hmode, hbase, hgranted⟩ => ?_)
    · obtain ⟨t, ht, hpwm, henabled, hcharge⟩ := changeMode_pwm (s := takenState h s) hbase hgranted
      simp only [ht, grantedState]
      simpa using ⟨hpwm, henabled, hcharge⟩
    · change (reqUnitMode h u 1).judge s = none
      rw [judge_unitMode halone hu (by decide)]
      exact judgeMode_of_allowed halone hu ⟨by simp [hcapable], rfl⟩ hsec hpair hused hoff hfrets hdrive hbound
    · obtain ⟨t, ht, _⟩ := changeMode_pwm (s := takenState h s) hbase hgranted
      have hother : ((takenState h s).unit u).drive.mode ≠ modeOf 1 := by
        rw [takenState_unit, hmode]; decide
      rw [modeEffect (s := takenState h s) halone hu hother h]
      change credited _ (changeMode u .pwm (takenState h s)) = _
      rw [ht]
      rfl
  · refine .of_replyOut (fun h => reqUnitFaultClear h 0 u still stillC) (fun _ => faultEnded u)
      (fun h s s0 g _ _ => ?_) (hjudge := fun h s _ ⟨halone, hu, hlink, _⟩ => ?_)
      (heffect := fun h s _ ⟨halone, hu, _, hfault, hcluster, hsingle, hgone⟩ => ?_)
    · simp +contextual [faultEnded]
    · change (reqUnitFaultClear h 0 u still stillC).judge s = none
      simp [reqUnitFaultClear, clearBeyond, unitBeyond_of_alone halone hu, ownLine, ownUnit_of_alone halone hu, hlink]
    · have hclear := clearFaults_unit (s := takenState h s) (stillC := stillC) hfault hcluster hsingle hgone
      simp only [reqUnitFaultClear, unitRef_of_alone (s := takenState h s) halone hu, hclear, if_true]
  · refine .of_reply (fun h => reqUnitLatencyReset h u) (fun _ s => commit (resetLatency u s))
      (fun h s s0 g _ _ => ?_) (hjudge := fun h s _ ⟨halone, hu, _⟩ => ?_) (heffect := fun h s _ ⟨halone, hu, hstopped⟩ => ?_)
    · have hunits := fun v => (commitWith_frame (histDue (resetLatency u (takenState h s))) (resetLatency u (takenState h s))).unit (by decide) v
      refine ⟨fun closing b => ?_, ?_, fun v hv => ?_⟩
      · cases closing <;> simp [latEntry, commit, hunits, resetLatency_unit, tget_clearedTable]
      · simp [commit, hunits, resetLatency_unit]
      · simp [commit, hunits, resetLatency_others u _ v hv]
    · change (reqUnitLatencyReset h u).judge s = none
      simp [reqUnitLatencyReset, unitBeyond_of_alone halone hu]
    · have hstopped' : partitionStopped (takenState h s) 5 = false := hstopped
      simp only [reqUnitLatencyReset, unitRef_of_alone (s := takenState h s) halone hu, hstopped', show u ≠ 65535 by omega]
      rfl

end Sys2Proof.Machine
end

section
/-! Strokes and frets of one unit, and the host's requests that bring them about (R181, R182, R222, R242, R422 to R424). -/

namespace Sys2Proof.Machine

/-! ## A stroke without a dip -/

theorem SameExcept.devtime {bs : List Bank} {s t : State} (h : SameExcept bs s t) (hb : .time ∉ bs) : t.devtime = s.devtime := h .time hb

theorem SameExcept.cfg {bs : List Bank} {s t : State} (h : SameExcept bs s t) (hb : .cfg ∉ bs) : t.cfg = s.cfg := h .cfg hb

section
variable (u : Nat) (s : State)

/-- What a missed dip may touch. -/
theorem missDip_frame : SameExcept [.units, .events, .dies, .faults] s (missDip u s) := by
  have hcounted : ∀ {t} f g, SameExcept [.units, .events, .dies, .faults] s t →
      SameExcept [.units, .events, .dies, .faults] s (excludeSample u ((t.modValve u f).modDrive u g)) := fun f g ht =>
    ((ht.trans ((modUnit_frame _ u _).mono (by decide))).trans ((modUnit_frame _ u _).mono (by decide))).trans
      ((modUnit_frame _ u _).mono (by decide))
  have hclosed : ∀ f g, SameExcept [.units, .events, .dies, .faults] s ((s.modDrive u f).modLearn u g) := fun f g =>
    ((modUnit_frame s u _).trans (modUnit_frame _ u _)).mono (by decide)
  have hended : ∀ {p : Prop} [Decidable p] f g, SameExcept [.units, .events, .dies, .faults] s
      (if p then strokeEndedThere u ((s.modDrive u f).modLearn u g) else (s.modDrive u f).modLearn u g) := fun f g =>
    .ite ((hclosed f g).trans ((modUnit_frame _ u _).mono (by decide))) (hclosed f g)
  unfold missDip
  simp only
  refine .ite (hclosed _ _) (.ite (.trans ?_ ((fault_frame _ _ _ _ _ _).mono (by decide))) (hcounted _ _ (hended _ _)))
  exact (hcounted _ _ (hended _ _)).trans ((modUnit_frame _ u _).mono (by decide))

theorem missDip_others : OthersKept u s (missDip u s) := by
  have hcounted : ∀ {t} f g, OthersKept u s t → OthersKept u s (excludeSample u ((t.modValve u f).modDrive u g)) := fun f g ht =>
    ((ht.trans (modUnit_others u _ _)).trans (modUnit_others u _ _)).trans (modUnit_others u _ _)
  have hclosed : ∀ f g, OthersKept u s ((s.modDrive u f).modLearn u g) := fun f g => (modUnit_others u s _).trans (modUnit_others u _ _)
  have hended : ∀ {p : Prop} [Decidable p] f g, OthersKept u s
      (if p then strokeEndedThere u ((s.modDrive u f).modLearn u g) else (s.modDrive u f).modLearn u g) := fun f g =>
    .ite ((hclosed f g).trans (modUnit_others u _ _)) (hclosed f g)
  unfold missDip
  simp only
  refine .ite (hclosed _ _) (.ite (.trans ?_ (.of_frame (fault_frame _ _ _ _ _ _) (by decide))) (hcounted _ _ (hended _ _)))
  exact (hcounted _ _ (hended _ _)).trans (modUnit_others u _ _)

end

/-! ## What windows, misses and samples leave of a unit -/

/-- A unit without the marks of its strokes' windows, its samples and what it learns. -/
def UnitSt.strokeless (x : UnitSt) : UnitSt :=
  { x with drive := { x.drive with openWinEnd := none, closeWinEnd := none, dipSeen := false, missedDips := 0, missedKnees := 0, noMotion := false },
           learn := {}, valve := { x.valve with dipsMissed := 0 }, fret := { x.fret with latExcluded := 0 },
           sect := { x.sect with strokes := [], unconfirmed := 0 } }

/-- Of unit `u`, only the marks of its strokes' windows, its samples and what it learns have changed. -/
def WindowsOnly (u : Nat) (s t : State) : Prop := (t.unit u).strokeless = (s.unit u).strokeless

theorem WindowsOnly.refl (u : Nat) (s : State) : WindowsOnly u s s := rfl

theorem WindowsOnly.trans {u : Nat} {s t w : State} (h : WindowsOnly u s t) (k : WindowsOnly u t w) : WindowsOnly u s w := Eq.trans k h

theorem WindowsOnly.ite {u : Nat} {s t w : State} {p : Prop} [Decidable p] (h : WindowsOnly u s t) (k : WindowsOnly u s w) :
    WindowsOnly u s (if p then t else w) := by
  split
  · exact h
  · exact k

theorem WindowsOnly.of_frame {u : Nat} {bs : List Bank} {s t : State} (h : SameExcept bs s t) (hb : .units ∉ bs) : WindowsOnly u s t :=
  congrArg UnitSt.strokeless (h.unit hb u)

theorem modUnit_windows (u : Nat) (s : State) {f : UnitSt → UnitSt} (hf : ∀ x, (f x).strokeless = x.strokeless) : WindowsOnly u s (s.modUnit u f) := by
  rw [WindowsOnly, State.modUnit_unit_self, hf]

theorem missDip_windows (u : Nat) (s : State) : WindowsOnly u s (missDip u s) := by
  have hcounted : ∀ {t} n, WindowsOnly u s t → WindowsOnly u s (excludeSample u ((t.modValve u fun v => { v with dipsMissed := v.dipsMissed + 1 }).modDrive u
      fun d => { d with missedDips := n })) := fun n ht =>
    ((ht.trans (modUnit_windows u _ fun _ => by rfl)).trans (modUnit_windows u _ fun _ => by rfl)).trans (modUnit_windows u _ fun _ => by rfl)
  have hclosed : ∀ g, WindowsOnly u s ((s.modDrive u fun d => { d with openWinEnd := none }).modLearn u g) := fun g =>
    (modUnit_windows u s fun _ => by rfl).trans (modUnit_windows u _ fun _ => by rfl)
  have hended : ∀ {p : Prop} [Decidable p] g, WindowsOnly u s
      (if p then strokeEndedThere u ((s.modDrive u fun d => { d with openWinEnd := none }).modLearn u g)
        else (s.modDrive u fun d => { d with openWinEnd := none }).modLearn u g) := fun g =>
    .ite ((hclosed g).trans (modUnit_windows u _ fun _ => by rfl)) (hclosed g)
  unfold missDip
  simp only
  refine .ite (hclosed _) (.ite (.trans ?_ (.of_frame (fault_frame _ _ _ _ _ _) (by decide))) (hcounted _ (hended _)))
  exact (hcounted _ (hended _)).trans (modUnit_windows u _ fun _ => by rfl)

/-! ## The start of a stroke with the slot free (Table 07-3) -/

/-- R36: the slot of the unit's cluster is free. -/
def slotFree (u : Nat) (s : State) : Prop := (s.cluster (clusterOf u)).holder = none ∧ (s.cluster (clusterOf u)).queue = []

/-- Everything that a stroke's start leaves before its rise begins. -/
structure StrokeBegun (u : Nat) (s t : State) : Prop where
  frame : SameExcept [.units, .events, .dies, .faults] s t
  others : OthersKept u s t
  windows : WindowsOnly u s t
  openWinEnd : (t.unit u).drive.openWinEnd = some (s.devtime + s.openWin u)

theorem startStroke_of_free {u : Nat} {s : State} (hfree : slotFree u s) (i : EdgeInfo) (again : Bool) :
    ∃ t, startStroke u i again s = enterRise u t ∧ StrokeBegun u s t := by
  have hclosed : ∀ {p : Prop} [Decidable p], SameExcept [.units, .events, .dies, .faults] s (if p then missDip u s else s)
      ∧ OthersKept u s (if p then missDip u s else s) ∧ WindowsOnly u s (if p then missDip u s else s) :=
    ⟨.ite (missDip_frame u s) (.refl _ s), .ite (missDip_others u s) (.refl u s), .ite (missDip_windows u s) (.refl u s)⟩
  have hbegun : ∀ {t} g (c : Drive → Option Nat), SameExcept [.units, .events, .dies, .faults] s t ∧ OthersKept u s t ∧ WindowsOnly u s t →
      StrokeBegun u s ((t.modLearn u g).modDrive u fun d =>
        { d with dipSeen := false, openWinEnd := some (s.devtime + s.openWin u), closeWinEnd := c d }) := fun g c ht =>
    ⟨(ht.1.trans ((modUnit_frame _ u _).mono (by decide))).trans ((modUnit_frame _ u _).mono (by decide)),
      (ht.2.1.trans (modUnit_others u _ _)).trans (modUnit_others u _ _),
      (ht.2.2.trans (modUnit_windows u _ fun _ => by rfl)).trans (modUnit_windows u _ fun _ => by rfl), by simp⟩
  unfold startStroke
  simp only
  rw [(hclosed).1.cluster (by decide) (clusterOf u), hfree.1, hfree.2]
  exact ⟨_, rfl, hbegun _ _ hclosed⟩

end Sys2Proof.Machine
end

section
/-! Frets and unit commands from the host (R181, R182, R222, R242, R422 to R424). -/

namespace Sys2Proof.Machine

/-! ## Starting a profile -/

/-- A unit in its rise since `now`, which `boost` says comes from VBOOST (R220). -/
def UnitSt.risen (x : UnitSt) (now : Nat) (reserved boost : Bool) : UnitSt :=
  { x with drive := { x.drive with baseReserved := reserved, phase := .rise, phaseAt := now, boostRise := boost, offWaiting := false },
           valve := { x.valve with strokes := x.valve.strokes + 1 } }

/-- What a stroke of unit `u` that begins in `s` with the slot free has done (R220, R238, R240). -/
structure Risen (u : Nat) (s t : State) : Prop where
  frame : SameExcept [.units, .clusters, .ledger, .recorder, .events, .dies, .faults] s t
  others : OthersKept u s t
  unit : ∃ (x : UnitSt) (b r : Bool), x.strokeless = (s.unit u).strokeless ∧ x.drive.openWinEnd = some (s.devtime + s.openWin u)
    ∧ t.unit u = x.risen s.devtime b r
  holder : (t.cluster (clusterOf u)).holder = some u

theorem startStroke_risen {u : Nat} {s : State} (hfree : slotFree u s) (i : EdgeInfo) (again : Bool) : Risen u s (startStroke u i again s) := by
  obtain ⟨t, heq, hframe, hothers, hwindows, hend⟩ := startStroke_of_free hfree i again
  obtain ⟨b, hunit⟩ := enterRise_unit u t
  rw [heq]
  refine ⟨(hframe.append (enterRise_frame u t)).mono (by decide), hothers.trans (enterRise_others u t), ?_, enterRise_holder u t⟩
  exact ⟨t.unit u, b, _, hwindows, hend, by rw [hunit, ← hframe.devtime (by decide)]; rfl⟩

theorem openWin_of_cfg {s t : State} (hcfg : t.cfg = s.cfg) (u : Nat) : t.openWin u = s.openWin u := by
  unfold State.openWin State.profile State.unitCfg
  rw [hcfg]

/-- R222: ON to a unit in ON/OFF mode that is off starts its profile. -/
theorem commandOn_of_off {u : Nat} {s : State} (hmode : (s.unit u).drive.mode = .onoff) (hstays : staysOff s u = false)
    (hphase : (s.unit u).drive.phase = .off) (i : EdgeInfo) : commandOn u i s = startStroke u i false s := by
  simp [commandOn, hmode, hstays, applyOn, hphase]

theorem commandOff_of_hold {u : Nat} {s : State} (hmode : (s.unit u).drive.mode = .onoff) (hphase : (s.unit u).drive.phase = .hold) :
    commandOff u s = turnOff u s := by
  simp [commandOff, hmode, applyOff, hphase]

/-! ## UNIT_CMD (R424) -/

/-- R424: ON to a unit that is off, and whose first charge is granted, starts its profile with that charge. -/
theorem startUnit_of_granted {u : Nat} {s : State} (hmode : (s.unit u).drive.mode = .onoff) (hstays : staysOff s u = false)
    (hphase : (s.unit u).drive.phase = .off) (hbase : (s.unit u).drive.base = 0) (hfree : slotFree u s)
    (hgranted : refusal s (firstCharge s u (baseOf s u .onoff)) = none) :
    ∃ c t, startUnit u false s = .ok t ∧ BaseGranted u (baseOf s u .onoff) false s c ∧ Risen u c t := by
  obtain ⟨c, hc, hcharged⟩ := acquireBase_of_granted u s (reserved := false) hgranted
  obtain ⟨hframe, hunit, -, hholder, hqueue⟩ := id hcharged
  have hrisen := startStroke_risen (u := u) (s := c) ⟨(hholder _).trans hfree.1, (hqueue _).trans hfree.2⟩ {} false
  refine ⟨c, _, ?_, hcharged, hrisen⟩
  have hmotion : staysOff c u = false := by
    rw [← hstays]
    simp [staysOff, State.unitCfg, hframe.cfg (by decide), hunit]
  have hon := commandOn_of_off (s := c) (u := u) (by rw [hunit]; exact hmode) hmotion (by rw [hunit]; exact hphase) {}
  simp [startUnit, hmode, hbase, hc, Except.map, hon]

theorem judge_unitCmd {u cmd : Nat} {s : State} (halone : s.cfg.package.member = false) (hu : u < 128) (hcmd : cmd ≤ 2) (h : Hdr) :
    (reqUnitCmd h u cmd).judge s = judgeUnitCmd s u cmd := by
  have hrange : firstFail [(decide (2 < cmd) || unitBeyond s u, resRange)] = none := by simp [hcmd, unitBeyond_of_alone halone hu]
  simp only [reqUnitCmd, hrange]

/-! ## UNIT_SETPOINT (R234) -/

theorem judge_setpoint {u value : Nat} {s : State} (halone : s.cfg.package.member = false) (hu : u < 128) (hvalue : value ≤ 10000) (h : Hdr) :
    (reqUnitSetpoint h u value).judge s = judgeSetpoint s u value := by
  have hrange : firstFail [(decide (10000 < value) || unitBeyond s u, resRange)] = none := by simp [hvalue, unitBeyond_of_alone halone hu]
  simp only [reqUnitSetpoint, hrange]

/-! ## Frets (R182, R423) -/

theorem cancelFrets_others (u : Nat) (p : Fret → Bool) (s : State) : OthersKept u s (cancelFrets u p s) := by
  have hreported : ∀ (l : List Fret) f, OthersKept u s (l.foldl (fun s f => reportFret u f 3 s) (s.modUnit u f)) := fun l f =>
    (modUnit_others u s f).trans (.of_frame (SameExcept.foldl _ (fun s f => reportFret_frame u f 3 s) l _) (by decide))
  unfold cancelFrets
  simp only
  exact .ite (.refl u s) (.ite ((hreported _ _).trans (releaseBase_others u _)) (hreported _ _))

/-- R183: the frets that are cancelled leave the unit's list. -/
theorem cancelFrets_frets (u : Nat) (p : Fret → Bool) (s : State) :
    ((cancelFrets u p s).unit u).frets = (s.unit u).frets.filter fun f => !(f.live && p f) := by
  have hreported : ∀ (l : List Fret) f, (l.foldl (fun s f => reportFret u f 3 s) (s.modUnit u f)).unit u = f (s.unit u) := fun l f =>
    ((SameExcept.foldl _ (fun s f => reportFret_frame u f 3 s) l _).unit (by decide) u).trans (State.modUnit_unit_self _ _ _)
  have hreleased : ∀ t, ((releaseBase u t).unit u).frets = (t.unit u).frets := fun t => by
    obtain ⟨b, hb⟩ := releaseBase_unit u t
    rw [hb]
  unfold cancelFrets
  simp only
  split
  case isTrue hnone =>
    rw [List.isEmpty_iff, List.filter_eq_nil_iff] at hnone
    exact (List.filter_eq_self.mpr fun f hf => by simpa [or_iff_not_imp_left] using hnone f hf).symm
  case isFalse =>
    split
    · rw [hreleased, hreported]
    · rw [hreported]

/-- The live host frets of a unit with a tag, 0 for all (R423). -/
def hostFrets (s : State) (u tag : Nat) : List Fret :=
  (s.unit u).frets.filter fun f => f.live && decide (f.tag < 32768) && (tag == 0 || f.tag == tag)

/-- R423: where none of them is due, all host frets with the tag are cancelled. -/
theorem cancelHost_of_idle {u tag : Nat} {s : State} (hidle : ∀ f ∈ (s.unit u).frets, firesNow s u f = false) :
    cancelHost u tag s = (cancelFrets u (fun f => ((hostFrets s u tag).map (·.id)).contains f.id) s, (hostFrets s u tag).length) := by
  have hdue : ((s.unit u).frets.filter fun f => f.live && decide (f.tag < 32768) && (tag == 0 || f.tag == tag) && firesNow s u f) = [] := by
    rw [List.filter_eq_nil_iff]
    intro f hf
    simp [hidle f hf]
  simp only [cancelHost, hdue, List.foldl_nil, List.any_nil, Bool.not_false, Bool.and_true, List.length_map, Nat.zero_add]
  rfl

@[simp] theorem takenState_fretOf (h : Hdr) (s : State) (u : Nat) (w : FretWire) : fretOf (takenState h s) u w = fretOf s u w := rfl

@[simp] theorem takenState_hostFrets (h : Hdr) (s : State) (u tag : Nat) : hostFrets (takenState h s) u tag = hostFrets s u tag := rfl

/-- R423: no live host fret with the tag is left. -/
theorem not_hostFret_of_cancelled {u tag : Nat} {s : State} {f : Fret}
    (hf : f ∈ ((cancelFrets u (fun f => ((hostFrets s u tag).map (·.id)).contains f.id) s).unit u).frets) (hlive : f.live = true)
    (hhost : f.tag < 32768) : tag ≠ 0 ∧ f.tag ≠ tag := by
  rw [cancelFrets_frets, List.mem_filter] at hf
  obtain ⟨hmem, hleft⟩ := hf
  by_contra hnamed
  have hmine : f ∈ hostFrets s u tag := by
    rw [hostFrets, List.mem_filter]
    refine ⟨hmem, ?_⟩
    simp only [hlive, hhost, decide_true, Bool.true_and, Bool.or_eq_true, beq_iff_eq]
    tauto
  have hid : ((hostFrets s u tag).map (·.id)).contains f.id = true := by
    rw [List.contains_iff_mem]
    exact List.mem_map_of_mem hmine
  simp only [hlive, hid, Bool.and_self, Bool.not_true, Bool.false_eq_true] at hleft

/-- R422: a fret that passes its checks names a unit that the package has. -/
theorem unit_lt_of_judged {s : State} {w : FretWire} {n : Nat} (halone : s.cfg.package.member = false) (hjudged : judgeFret s w n = none) :
    w.unit < 128 := by
  by_contra hbeyond
  have hunit : unitBeyond s w.unit = true := by simp [unitBeyond, unitRef, lead_of_alone halone, follower_of_alone halone, hbeyond]
  simp [judgeFret, hunit] at hjudged

theorem effect_fretArm {s : State} {w : FretWire} (halone : s.cfg.package.member = false) (hw : w.unit < 128) (h : Hdr) :
    (reqFretArm h [w]).effect s = (putFret w.unit (fretOf s w.unit w) s, okReply) := by
  have hown := unitRef_of_alone halone hw
  have hfollowers : followersOf s [w] = [] := by simp [followersOf, hown]
  simp only [reqFretArm, hfollowers, armFrets, List.foldl_cons, List.foldl_nil, hown, List.isEmpty_nil, if_true]

/-! ## The statement -/

/-- Settles O11: frets join and leave their unit's list; a unit's command starts its rise with its charge, or turns it off. -/
theorem fretAndUnitCommands : Obligations.FretAndUnitCommands := by
  unfold Obligations.FretAndUnitCommands
  refine ⟨fun w => ?_, fun u tag h s hasked halone hu htag hlink hidle _ => ?_, fun u => ?_, fun u => ?_, fun u value => ?_⟩
  · refine .of_reply (fun h => reqFretArm h [w]) (fun _ s => putFret w.unit (fretOf s w.unit w) s)
      (fun h s s0 g _ _ => ⟨by simp [putFret], fun v hv => by simp [putFret, hv], (modUnit_frame (takenState h s) _ _).only_request s0 g⟩)
      (hjudge := fun h s _ ⟨_, hjudged⟩ => ?_)
      (heffect := fun h s _ ⟨halone, hjudged⟩ => effect_fretArm (s := takenState h s) halone (unit_lt_of_judged halone hjudged) h)
    change judgeFrets s [w] 0 [] = none
    simp [judgeFrets, hjudged]
  · have hrow : (reqFretCancel h u tag).IsRow 1282 3 (· == 4) := ⟨rfl, rfl, rfl, rfl, by decide⟩
    have hjudge : (reqFretCancel h u tag).judge (takenState h (s.advance h.t)) = none := by
      change (reqFretCancel h u tag).judge (s.advance h.t) = none
      simp [reqFretCancel, unitBeyond_of_alone halone hu, ownLine, ownUnit_of_alone halone hu, hlink, htag]
    have heffect : (reqFretCancel h u tag).effect (takenState h (s.advance h.t)) =
        (cancelFrets u (fun f => ((hostFrets (s.advance h.t) u tag).map (·.id)).contains f.id) (takenState h (s.advance h.t)),
          some { detail := (hostFrets (s.advance h.t) u tag).length }) := by
      have hcancel := cancelHost_of_idle (s := takenState h (s.advance h.t)) (tag := tag) hidle
      simp only [reqFretCancel, unitRef_of_alone (s := takenState h (s.advance h.t)) halone hu, hcancel]
      rfl
    obtain ⟨g, hnext, hreplied⟩ := hrow.replies (c := .fretCancel h u tag) rfl hasked hjudge heffect rfl
    refine ⟨_, hnext, fun f hf hlive hhost => ?_, hreplied, fun v hv => ?_⟩
    · exact not_hostFret_of_cancelled (s := takenState h (s.advance h.t)) (by simpa using hf) hlive hhost
    · simpa using cancelFrets_others u _ (takenState h (s.advance h.t)) v hv
  · refine .of_replyOut (fun h => reqUnitCmd h u 1) (fun _ s => grantedState (startUnit u false s) s)
      (fun h s s0 g _ ⟨_, _, _, _, _, _, _, _, hmode, hstays, hphase, hbase, _, hholder, hqueue, hgranted⟩ => ?_)
      (hjudge := fun h s _ ⟨halone, hu, hsec, hpair, hused, hfault, hdrive, hbound, hmode, hstays, _⟩ => ?_)
      (heffect := fun h s _ ⟨halone, hu, _, _, _, _, _, _, hmode, hstays, hphase, hbase, _, hholder, hqueue, hgranted⟩ => ?_)
    · obtain ⟨c, t, ht, hcharged, hrisen⟩ := startUnit_of_granted (s := takenState h s) hmode hstays hphase hbase ⟨hholder, hqueue⟩ hgranted
      obtain ⟨x, b, r, hx, hend, hunit⟩ := hrisen.unit
      have htime : c.devtime = s.devtime := hcharged.frame.devtime (by decide)
      have hwin : c.openWin u = s.openWin u := by
        rw [openWin_of_cfg (hcharged.frame.cfg (by decide))]
        rfl
      have hcluster := (followLoops_frame (t.modCourse h.course g)).cluster (by decide) (clusterOf u)
      have hxbase : x.drive.base = baseOf s u .onoff := by
        rw [show x.drive.base = (c.unit u).drive.base from congrArg (·.drive.base) hx, hcharged.unit]
        rfl
      have hxstrokes : x.valve.strokes = (s.unit u).valve.strokes := by
        rw [show x.valve.strokes = (c.unit u).valve.strokes from congrArg (·.valve.strokes) hx, hcharged.unit]
        rfl
      simp only [ht, grantedState]
      simp [hunit, UnitSt.risen, hcluster, hrisen.holder, hend, htime, hwin, hxbase, hxstrokes]
    · change (reqUnitCmd h u 1).judge s = none
      rw [judge_unitCmd halone hu (by decide)]
      simp only [drivable, Bool.and_eq_true, Bool.not_eq_true'] at hdrive
      obtain ⟨⟨⟨⟨⟨hon, hregion⟩, haway⟩, hheld⟩, hlink⟩, havail⟩ := hdrive
      simp [judgeUnitCmd, unitRef_of_alone halone hu, driveChecks, hsec, hpair, hused, hfault, hstays, hon, hregion, haway, hheld, hlink,
        havail, hbound]
    · obtain ⟨c, t, ht, -⟩ := startUnit_of_granted (s := takenState h s) hmode hstays hphase hbase ⟨hholder, hqueue⟩ hgranted
      simp only [reqUnitCmd, unitRef_of_alone (s := takenState h s) halone hu]
      change credited _ (startUnit u false (takenState h s)) = _
      rw [ht]
      rfl
  · refine .of_replyOut (fun h => reqUnitCmd h u 0) (fun _ => commandOff u)
      (fun h s s0 g _ ⟨_, _, _, _, _, hmode, hphase, hholder⟩ => ?_)
      (hjudge := fun h s _ ⟨halone, hu, hsec, hpair, hlink, _⟩ => ?_)
      (heffect := fun h s _ ⟨halone, hu, _⟩ => ?_)
    · obtain ⟨n, b, l, hunit⟩ := turnOff_unit_of_alone u (takenState h s) fun hmine => absurd hmine hholder
      have hshot : keptShot (s.unit u).drive = none := by simp [keptShot, hmode]
      rw [commandOff_of_hold (s := takenState h s) hmode hphase]
      simp [hunit, hshot]
      rfl
    · change (reqUnitCmd h u 0).judge s = none
      rw [judge_unitCmd halone hu (by decide)]
      simp [judgeUnitCmd, unitRef_of_alone halone hu, hsec, hpair, hlink]
    · simp only [reqUnitCmd, unitRef_of_alone (s := takenState h s) halone hu, if_true]
      rfl
  · refine .of_reply (fun h => reqUnitSetpoint h u value) (fun _ => setProp u value)
      (fun h s s0 g _ _ => ⟨by simp [setProp]; rfl, fun v hv => by simp [setProp, hv], (modUnit_frame (takenState h s) _ _).only_request s0 g⟩)
      (hjudge := fun h s _ ⟨halone, hu, hvalue, hsec, hpair, hused, hfault, hdrive, hbound, hmode⟩ => ?_)
      (heffect := fun h s _ ⟨halone, hu, _, _, _, _, _, _, _, hmode⟩ => ?_)
    · change (reqUnitSetpoint h u value).judge s = none
      rw [judge_setpoint halone hu (by omega)]
      simp only [drivable, Bool.and_eq_true, Bool.not_eq_true'] at hdrive
      obtain ⟨⟨⟨⟨⟨hon, hregion⟩, haway⟩, hheld⟩, hlink⟩, havail⟩ := hdrive
      simp [judgeSetpoint, unitRef_of_alone halone hu, hmode, hvalue, hsec, hpair, hused, hfault, hon, hregion, haway, hheld, hlink, havail, hbound]
    · simp only [reqUnitSetpoint, unitRef_of_alone (s := takenState h s) halone hu, takenState_unit, hmode, beq_self_eq_true, if_true]
      rfl

end Sys2Proof.Machine
end

section
/-! Statements about frets, profiles and clusters that fail in a state that their premises leave open. -/

namespace Sys2Proof.Machine

/-- What a statement about an event says of the state in which the event ends. -/
theorem Does.of_next {c : Nat → Instr} {pre : State → Prop} {post : State → State → Prop} {τ : Nat} {s t : State} (h : Does c pre post)
    (hpre : pre (s.advance τ)) (hexec : exec (c τ) s = .next t) : post (s.advance τ) t := by
  obtain ⟨t', ht', hpost⟩ := h τ s hpre
  exact Host.Outcome.next.inj (ht'.symm.trans hexec) ▸ hpost

/-! ## A wait that does not decay (R202) -/

/-- Unit 1 waits for the slot of cluster 0, whose slot-wait estimate is 100 µs and 100 ms old. -/
def waitedCluster : State := { devtime := 100000, clusters := [(0, { queue := [1], slotWaitUs := 100 })] }

theorem exec_slotWaitDecay_waited : exec (.slotWaitDecay 0 0) waitedCluster = .next (settle waitedCluster waitedCluster) := by
  change execSlotWaitDecay 0 0 waitedCluster = _
  rw [execSlotWaitDecay, about_next (by decide)]
  rfl

/-- Refutes O33: its last clause lets the slot-wait estimate halve while a unit waits for the slot; R202 asks for 100 ms in which no edge
waited. -/
theorem not_fretEvents : ¬Obligations.FretEvents := by
  unfold Obligations.FretEvents
  rintro ⟨-, -, -, -, -, hdecay⟩
  obtain ⟨hcluster, -⟩ := (hdecay 0 (by decide)).of_next (by decide) exec_slotWaitDecay_waited
  rw [settle_cluster] at hcluster
  exact absurd (congrArg ClusterSt.lastWaitAt hcluster) (by decide)

/-! ## A shot end that turns nothing off (R222) -/

/-- A paired member in hold whose shot end has come. -/
def pairedShot : State := { units := [(0, { drive := { mode := .pairedMember, phase := .hold, shotEnd := some 0 } })] }

theorem exec_shotEnd_paired : ∃ t, exec (.shotEnd 0 0 0) pairedShot = .next t ∧ (t.unit 0).drive.phase = .hold := by
  refine ⟨_, by change execShotEnd 0 0 0 pairedShot = _; rw [execShotEnd, aboutUnit, about_next (by decide)], ?_⟩
  rw [unit_settled]
  rfl

/-- Refutes O34: its last clause lets the shot end of a unit in any mode turn it off; a unit that is no ON/OFF unit and does not cycle
goes on in its phase (R222, R232). -/
theorem not_profilePhases : ¬Obligations.ProfilePhases := by
  unfold Obligations.ProfilePhases
  rintro ⟨-, -, -, -, -, -, -, hshot⟩
  obtain ⟨t, ht, hstays⟩ := exec_shotEnd_paired
  obtain ⟨hphase, -⟩ := (hshot 0 0 0 (by decide)).of_next (by decide) ht
  exact absurd (hphase.symm.trans hstays) (by decide)

/-! ## A pair's imbalance at a unit that owns no pair (R26, R237) -/

/-- An odd unit whose configuration says that it owns a pair, in hold for 1 ms. -/
def oddOwner : State :=
  { devtime := 1000, cfg := { units := { units := [(1, { pairOwner := true })] } }, units := [(1, { drive := { phase := .hold } })] }

theorem exec_pairImbalance_odd : exec (.pairImbalance 0 1) oddOwner = .next (settle oddOwner oddOwner) := by
  change execPairImbalance 0 1 oddOwner = _
  rw [execPairImbalance, aboutUnit, about_next (by decide)]
  rfl

/-- Refutes O37: its clause on PAIR_IMBALANCE takes every unit that is configured as an owner; only an even unit owns a pair (R26). -/
theorem not_valveFaults : ¬Obligations.ValveFaults := by
  unfold Obligations.ValveFaults
  rintro ⟨-, -, -, -, -, -, himbalance, -⟩
  obtain ⟨hdrive, -⟩ := (himbalance 1 (by decide)).of_next (by decide) exec_pairImbalance_odd
  rw [unit_settled] at hdrive
  exact absurd (congrArg Drive.pairImbalance hdrive) (by decide)

/-! ## An off-state test without the VBAT group (R524, R527) -/

/-- A device in RUN, cluster 0 quiet, its VBAT group away. -/
def unfedCluster : State := { devtime := 1000000, power := { supplies := true, state := .run, groups := [] } }

theorem exec_offStateTest_unfed : ∃ t, exec (.offStateTest 0 0) unfedCluster = .next t ∧ (t.cluster 0).highSide = false := by
  refine ⟨_, by change execOffStateTest 0 0 unfedCluster = _; rw [execOffStateTest, about_next (by decide)], ?_⟩
  rw [settle_cluster]
  rfl

/-- Refutes O38: its first clause closes the high-side switch of a cluster whose VBAT group is away; without the group it stays off
(R527). -/
theorem not_clusterTestsAndTrim : ¬Obligations.ClusterTestsAndTrim := by
  unfold Obligations.ClusterTestsAndTrim
  rintro ⟨htest, -⟩
  obtain ⟨t, ht, hopen⟩ := exec_offStateTest_unfed
  obtain ⟨-, -, hclosed, -⟩ := (htest 0 (by decide)).of_next (by decide) ht
  exact absurd (hclosed.symm.trans hopen) (by decide)

end Sys2Proof.Machine
end

section
/-! Switch channels one by one: what turning channel `n` on and off makes of that channel, of its cluster's vent budget, and that the
other channels stay as they are (Table 09-3, R37, R290 to R293). -/

namespace Sys2Proof.Machine

/-! ## The other channels -/

/-- Every switch channel but `n` stands as it stood. -/
def ChannelsKept (n : Nat) (s t : State) : Prop := ∀ m, m ≠ n → t.sw m = s.sw m

theorem ChannelsKept.refl (n : Nat) (s : State) : ChannelsKept n s s := fun _ _ => rfl

theorem ChannelsKept.trans {n : Nat} {s t u : State} (h : ChannelsKept n s t) (k : ChannelsKept n t u) : ChannelsKept n s u :=
  fun m hm => (k m hm).trans (h m hm)

theorem ChannelsKept.ite {n : Nat} {s t u : State} {p : Prop} [Decidable p] (h : ChannelsKept n s t) (k : ChannelsKept n s u) :
    ChannelsKept n s (if p then t else u) := by
  split
  · exact h
  · exact k

theorem SameExcept.sw {bs : List Bank} {s t : State} (h : SameExcept bs s t) (hb : .switches ∉ bs) (m : Nat) : t.sw m = s.sw m := by
  have hswitches : t.switches = s.switches := h .switches hb
  rw [State.sw, State.sw, hswitches]

theorem SameExcept.vent {bs : List Bank} {s t : State} (h : SameExcept bs s t) (hb : .vents ∉ bs) (c : Nat) : t.vent c = s.vent c := by
  have hvents : t.vents = s.vents := h .vents hb
  rw [State.vent, State.vent, hvents]

theorem ChannelsKept.of_frame {n : Nat} {bs : List Bank} {s t : State} (h : SameExcept bs s t) (hb : .switches ∉ bs) : ChannelsKept n s t :=
  fun m _ => h.sw hb m

theorem modSw_kept (n : Nat) (s : State) (f : SwitchSt → SwitchSt) : ChannelsKept n s (s.modSw n f) := fun _ hm => by simp [hm]

@[simp] theorem followLoops_sw (s : State) (m : Nat) : (followLoops s).sw m = s.sw m := (followLoops_frame s).sw (by decide) m

@[simp] theorem followLoops_vent (s : State) (c : Nat) : (followLoops s).vent c = s.vent c := (followLoops_frame s).vent (by decide) c

/-! ## The end of an output -/

/-- A channel without what its clamps and events are counted in. -/
def SwitchSt.uncounted (x : SwitchSt) : SwitchSt := { x with eLast := 0, counters := [], clampTotal := 0, clampMax := 0, turnOffs := 0 }

/-- A channel whose output is off: it holds no credits, no reservation and no window (R37, R293). -/
def SwitchSt.cut (x : SwitchSt) (next : SwState) : SwitchSt :=
  { x with base := 0, surcharge := 0, ventReserved := 0, state := next, inrushEnd := none, surchargeEnd := none, extended := false, dutyNow := 0 }

/-- R290, R292: the turn-off's clamp energy is one that the channel may have. -/
def clampAllowed (n : Nat) (cs : Clamps) (s : State) : Prop := (clampOf cs n).1 ≤ clampLimit n ∧ (s.swCfg n).extFreewheel = false

section
variable (n : Nat) (cs : Clamps) (s : State)

theorem releaseSw_kept : ChannelsKept n s (releaseSw n s) :=
  (ChannelsKept.of_frame (ledgerRelease_frame _ _ s) (by decide)).trans (modSw_kept n _ _)

theorem releaseSw_sw : (releaseSw n s).sw n = { s.sw n with base := 0, surcharge := 0 } := by
  simp [releaseSw, (ledgerRelease_frame false (along (chainSw s n) ((s.sw n).base + (s.sw n).surcharge)) s).sw (by decide) n]

theorem releaseVent_kept : ChannelsKept n s (releaseVent n s) := (ChannelsKept.of_frame (modVent_frame s _ _) (by decide)).trans (modSw_kept n _ _)

theorem releaseVent_sw : (releaseVent n s).sw n = { s.sw n with ventReserved := 0 } := by simp [releaseVent]

theorem releaseVent_used (c : Nat) : ((releaseVent n s).vent c).used = (s.vent c).used := by
  by_cases hc : c = swClusterOf n
  · subst hc; simp [releaseVent]
  · simp [releaseVent, hc]

theorem clampEnergy_kept : ChannelsKept n s (clampEnergy n cs s) := by
  have hcounted : ∀ f g k, ChannelsKept n s (countSw n 7 k ((s.modVent (swClusterOf n) f).modSw n g)) := fun f g k =>
    ((ChannelsKept.of_frame (modVent_frame s _ f) (by decide)).trans (modSw_kept n _ g)).trans (modSw_kept n _ _)
  have hoffered : ∀ {t} q i v, ChannelsKept n s t → ChannelsKept n s (offerOne q i v t) := fun q i v ht =>
    ht.trans (.of_frame (offerOne_frame q i v _) (by decide))
  have hended : ∀ {t} f, ChannelsKept n s t → ChannelsKept n s (accumulate f t) := fun f ht =>
    ht.trans (.of_frame (accumulate_frame f _) (by decide))
  unfold clampEnergy
  simp only
  exact hended _ (.ite (hcounted _ _ _) (hoffered _ _ _ (hcounted _ _ _)))

theorem counted_sw {t : State} (ht : t.sw n = s.sw n) (g : SwitchSt → SwitchSt) (hg : ∀ x, (g x).uncounted = x.uncounted) (k : Nat) :
    ((countSw n 7 k (t.modSw n g)).sw n).uncounted = (s.sw n).uncounted := by
  simp only [countSw, State.modSw_sw_self, ht]
  exact hg _

/-- R290, R291: a clamp interval is counted at its channel, and changes nothing else of it. -/
theorem clampEnergy_sw : ((clampEnergy n cs s).sw n).uncounted = (s.sw n).uncounted := by
  have hvent : (s.modVent (swClusterOf n) fun v =>
      { v with used := v.used + (clampOf cs n).1, freeBelowCap := v.freeBelowCap - (clampOf cs n).1 }).sw n = s.sw n := rfl
  have hcounted := fun g hg => counted_sw n s hvent g hg (ceilDiv (clampOf cs n).1 1000)
  have hoffered : ∀ {p : Prop} [Decidable p] {t : State} q i v, (t.sw n).uncounted = (s.sw n).uncounted →
      ((if p then t else offerOne q i v t).sw n).uncounted = (s.sw n).uncounted := by
    intro p _ t q i v ht
    split
    · exact ht
    · rw [(offerOne_frame q i v t).sw (by decide) n]; exact ht
  unfold clampEnergy
  simp only
  rw [(accumulate_frame _ _).sw (by decide) n]
  exact hoffered _ _ _ (hcounted _ fun _ => rfl)

/-- R290: the clamp's energy enters USED of the channel's cluster. -/
theorem clampEnergy_used : ((clampEnergy n cs s).vent (swClusterOf n)).used = (s.vent (swClusterOf n)).used + (clampOf cs n).1 := by
  have hoffered : ∀ {p : Prop} [Decidable p] (t : State) q i v, (if p then t else offerOne q i v t).vent (swClusterOf n) = t.vent (swClusterOf n) := by
    intro p _ t q i v
    split
    · rfl
    · exact (offerOne_frame q i v t).vent (by decide) _
  unfold clampEnergy
  simp only
  rw [(accumulate_frame _ _).vent (by decide), hoffered]
  simp [countSw]

/-- What leaves a channel in the state `next` with an allowed clamp. -/
def cutOff (next : SwState) : State :=
  (clampEnergy n cs (releaseVent n (releaseSw n s))).modSw n fun x =>
    { x with state := next, inrushEnd := none, surchargeEnd := none, extended := false, dutyNow := 0 }

theorem clampedState_frame : SameExcept [.ledger, .switches, .vents, .recorder] s (clampEnergy n cs (releaseVent n (releaseSw n s))) :=
  ((releaseSw_frame n s).append (releaseVent_frame n _)).append (clampEnergy_frame n cs _) |>.mono (by decide)

theorem cutOff_frame (next : SwState) : SameExcept [.ledger, .switches, .vents, .recorder] s (cutOff n cs s next) :=
  ((clampedState_frame n cs s).append (modSw_frame _ n _)).mono (by decide)

theorem cutOff_kept (next : SwState) : ChannelsKept n s (cutOff n cs s next) :=
  (((releaseSw_kept n s).trans (releaseVent_kept n _)).trans (clampEnergy_kept n cs _)).trans (modSw_kept n _ _)

/-- R287, R293: a channel that went off holds nothing. -/
theorem cutOff_sw (next : SwState) : ((cutOff n cs s next).sw n).uncounted = ((s.sw n).cut next).uncounted := by
  have hclamp := clampEnergy_sw n cs (releaseVent n (releaseSw n s))
  rw [releaseVent_sw, releaseSw_sw] at hclamp
  have hcut : ∀ x : SwitchSt, ({ x with state := next, inrushEnd := none, surchargeEnd := none, extended := false, dutyNow := 0 } : SwitchSt).uncounted
      = { x.uncounted with state := next, inrushEnd := none, surchargeEnd := none, extended := false, dutyNow := 0 } := fun _ => rfl
  rw [cutOff, State.modSw_sw_self, hcut, hclamp]
  rfl

theorem cutOff_used (next : SwState) : ((cutOff n cs s next).vent (swClusterOf n)).used = (s.vent (swClusterOf n)).used + (clampOf cs n).1 := by
  rw [cutOff, State.modSw_vent, clampEnergy_used, releaseVent_used, (releaseSw_frame n s).vent (by decide)]

/-- R292: an allowed clamp locks nothing. -/
theorem cutSw_of_allowed {n : Nat} {cs : Clamps} {s : State} (hallowed : clampAllowed n cs s) (next : SwState) :
    cutSw n next cs s = cutOff n cs s next := by
  have hcfg : (cutOff n cs s next).cfg = s.cfg := (cutOff_frame n cs s next).cfg (by decide)
  have hchannel : (cutOff n cs s next).swCfg n = s.swCfg n := by rw [State.swCfg, State.swCfg, hcfg]
  change judgeClamp n cs (cutOff n cs s next) = _
  simp [judgeClamp, hchannel, hallowed.1, hallowed.2]

/-! ## Turning on (R37, R293) -/

theorem reserveVent_kept : ChannelsKept n s (reserveVent n s) := (ChannelsKept.of_frame (modVent_frame s _ _) (by decide)).trans (modSw_kept n _ _)

theorem reserveVent_sw : (reserveVent n s).sw n = { s.sw n with ventReserved := (s.sw n).eLast } := by simp [reserveVent]

theorem reserveVent_frame : SameExcept [.switches, .vents] s (reserveVent n s) := ((modVent_frame s _ _).append (modSw_frame _ n _)).mono (by decide)

theorem skipDrift_frame (ks : List Nat) : SameExcept [.ledger] s (skipDrift ks s) := modLedger_frame s _

theorem startSw_frame (restart : Bool) : SameExcept [.switches, .vents, .ledger, .recorder] s (startSw n restart s) := by
  have hcounted : ∀ {p : Prop} [Decidable p] f, SameExcept [.switches, .vents, .ledger, .recorder] s
      (countSw n 0 1 (if p then countSw n 1 1 ((reserveVent n s).modSw n f) else (reserveVent n s).modSw n f)) := fun f =>
    ((SameExcept.ite (((reserveVent_frame n s).append (modSw_frame _ n f)).append (countSw_frame n 1 1 _) |>.mono (by decide))
      (((reserveVent_frame n s).append (modSw_frame _ n f)).mono (by decide))).trans ((countSw_frame n 0 1 _).mono (by decide)))
  have hskipped : ∀ {p : Prop} [Decidable p] {t} ks, SameExcept [.switches, .vents, .ledger, .recorder] s t →
      SameExcept [.switches, .vents, .ledger, .recorder] s (addTotal totSwOns 1 (if p then t else skipDrift ks t)) := fun ks ht =>
    (SameExcept.ite ht (ht.trans ((skipDrift_frame _ ks).mono (by decide)))).trans ((addTotal_frame _ _ _).mono (by decide))
  unfold startSw
  simp only
  exact hskipped _ (hcounted _)

theorem startSw_kept (restart : Bool) : ChannelsKept n s (startSw n restart s) := by
  have hcounted : ∀ {p : Prop} [Decidable p] f, ChannelsKept n s
      (countSw n 0 1 (if p then countSw n 1 1 ((reserveVent n s).modSw n f) else (reserveVent n s).modSw n f)) := fun f =>
    (ChannelsKept.ite (((reserveVent_kept n s).trans (modSw_kept n _ f)).trans (modSw_kept n _ _))
      ((reserveVent_kept n s).trans (modSw_kept n _ f))).trans (modSw_kept n _ _)
  have hskipped : ∀ {p : Prop} [Decidable p] {t} ks, ChannelsKept n s t →
      ChannelsKept n s (addTotal totSwOns 1 (if p then t else skipDrift ks t)) := fun ks ht =>
    (ChannelsKept.ite ht (ht.trans (.of_frame (skipDrift_frame _ ks) (by decide)))).trans (.of_frame (addTotal_frame _ _ _) (by decide))
  unfold startSw
  simp only
  exact hskipped _ (hcounted _)

/-- A channel that has turned on now, with an inrush window of `us` (Table 09-3). -/
def SwitchSt.started (x : SwitchSt) (now us retries : Nat) : SwitchSt :=
  { x with state := if us = 0 then .on else .inrush, inrushEnd := if us = 0 then none else some (now + us),
           surchargeEnd := if x.surcharge = 0 then none else some (now + us), extended := false, retryLeft := retries, onSince := now,
           ventWait := false, creditWait := false, lockCause := 0, dutyNow := x.duty, ventReserved := x.eLast }

/-- A channel without its counters. -/
def SwitchSt.countless (x : SwitchSt) : SwitchSt := { x with counters := [] }

/-- R37, R288, R293: a channel that turns on holds its reservation, and its retries are its own or one fewer. -/
theorem startSw_sw (restart : Bool) : ((startSw n restart s).sw n).countless =
    ((s.sw n).started s.devtime (inrushUs s n) (if restart then (s.sw n).retryLeft - 1 else retryN s n)).countless := by
  have hskipped : ∀ {p : Prop} [Decidable p] (t : State) ks, (if p then t else skipDrift ks t).sw n = t.sw n := by
    intro p _ t ks
    split <;> rfl
  unfold startSw
  simp only
  rw [(addTotal_frame _ _ _).sw (by decide), hskipped]
  cases restart
  · simp [countSw, reserveVent_sw, SwitchSt.countless, SwitchSt.started]
  · simp [countSw, reserveVent_sw, SwitchSt.countless, SwitchSt.started]

/-! ## Charges of a turn-on (R37) -/

/-- What the ledger's grant makes of a channel. -/
structure ChannelCharged (n : Nat) (s t : State) : Prop where
  frame : SameExcept [.ledger, .switches] s t
  sw : t.sw n = { s.sw n with base := swBaseOf s n, surcharge := swSurchargeOf s n }
  kept : ChannelsKept n s t

theorem chargeSw_of_granted {n : Nat} {s : State} (hown : limpDefaults s n = false)
    (hgranted : refusal s (along (chainSw s n) (swBaseOf s n + swSurchargeOf s n)) = none) :
    ∃ t, chargeSw n s = .ok t ∧ ChannelCharged n s t := by
  have hdebited := debits_frame s false (along (chainSw s n) (swBaseOf s n + swSurchargeOf s n))
  refine ⟨_, by simp only [chargeSw, hown, Bool.false_eq_true, if_false, acquireSw, ledgerRequest, hgranted]; rfl, ?_⟩
  refine ⟨hdebited.append (modSw_frame _ n _), ?_, (ChannelsKept.of_frame hdebited (by decide)).trans (modSw_kept n _ _)⟩
  simp [hdebited.sw (by decide) n]

end

/-- What a granted turn-on of channel `n` has done (R37, R288, R293, Table 09-3). -/
structure TurnedOn (n : Nat) (restart : Bool) (s t : State) : Prop where
  frame : SameExcept [.switches, .vents, .ledger, .recorder] s t
  kept : ChannelsKept n s t
  state : (t.sw n).state = if inrushMsOf (s.swCfg n) = 0 then SwState.on else .inrush
  base : (t.sw n).base = swBaseOf s n
  surcharge : (t.sw n).surcharge = swSurchargeOf s n
  reserved : (t.sw n).ventReserved = (s.sw n).eLast
  retries : restart = true → (t.sw n).retryLeft = (s.sw n).retryLeft - 1
  vents : (t.sw n).ventWait = false
  limpOn : (t.sw n).limpOn = (s.sw n).limpOn

theorem turnedOn_of_granted {n : Nat} {s : State} (hown : limpDefaults s n = false)
    (hgranted : refusal s (along (chainSw s n) (swBaseOf s n + swSurchargeOf s n)) = none) (restart : Bool) :
    ∃ c, chargeSw n s = .ok c ∧ (c.sw n).state = (s.sw n).state ∧ TurnedOn n restart s (startSw n restart c) := by
  obtain ⟨c, hc, hframe, hsw, hkept⟩ := chargeSw_of_granted hown hgranted
  have hcfg := hframe.cfg (by decide)
  have hdies : c.dies = s.dies := hframe .dies (by decide)
  have hinrush : (inrushUs c n = 0) = (inrushMsOf (s.swCfg n) = 0) := by
    have hlimp : limpDefaults c n = false := by
      rw [← hown, limpDefaults, limpDefaults, State.die, State.die, hdies, hsw]
    simp [inrushUs, hlimp, State.swCfg, hcfg]
  have hstarted := startSw_sw n c restart
  have hfield : ∀ {α : Type} (f : SwitchSt → α), (∀ x, f x.countless = f x) → f ((startSw n restart c).sw n)
      = f ((c.sw n).started c.devtime (inrushUs c n) (if restart then (c.sw n).retryLeft - 1 else retryN c n)) := fun f hf => by
    rw [← hf, hstarted, hf]
  refine ⟨c, hc, by rw [hsw], (hframe.append (startSw_frame n c restart)).mono (by decide), hkept.trans (startSw_kept n c restart), ?_, ?_, ?_, ?_, ?_, ?_, ?_⟩
  · refine (hfield SwitchSt.state fun _ => rfl).trans ?_
    simp only [SwitchSt.started, hinrush]
  · exact (hfield SwitchSt.base fun _ => rfl).trans (by simp [SwitchSt.started, hsw])
  · exact (hfield SwitchSt.surcharge fun _ => rfl).trans (by simp [SwitchSt.started, hsw])
  · exact (hfield SwitchSt.ventReserved fun _ => rfl).trans (by simp [SwitchSt.started, hsw])
  · rintro rfl
    exact (hfield SwitchSt.retryLeft fun _ => rfl).trans (by simp [SwitchSt.started, hsw])
  · exact hfield SwitchSt.ventWait fun _ => rfl
  · exact (hfield SwitchSt.limpOn fun _ => rfl).trans (by simp [SwitchSt.started, hsw])

end Sys2Proof.Machine
end

section
/-! Requests to switch channels, field outputs and connector groups (Table 14-12, R284, R289, R300, R315, R319, R425). -/

namespace Sys2Proof.Machine

/-! ## One element of a mask (R425) -/

theorem bitAt_two_pow (k j : Nat) : bitAt (2 ^ k) j = decide (j = k) := by
  have htest := Nat.testBit_two_pow (n := k) (m := j)
  rw [Nat.testBit_eq_decide_div_mod_eq] at htest
  simpa [bitAt, beq_eq_decide, eq_comm] using htest

/-- R425: a mask of one bit asks one element. -/
theorem eachElement_two_pow {n k : Nat} (hk : k < n) (act : Nat → State → State × Verdict2) (s : State) :
    eachElement n (2 ^ k) act s = ((act k s).1, (List.range n).map fun j => if j = k then some (act k s).2 else none) := by
  have hbelow : ∀ m, eachElement m (2 ^ k) act s =
      (if k < m then (act k s).1 else s, (List.range m).map fun j => if j = k then some (act k s).2 else none) := by
    intro m
    induction m with
    | zero => rfl
    | succ m ih =>
      rw [eachElement, List.range_succ, List.foldl_append, ← eachElement, ih]
      by_cases hm : m = k
      · subst hm; simp [bitAt_two_pow]
      · have hlt : k < m + 1 ↔ k < m := by omega
        simp [bitAt_two_pow, hm, hlt]
  rw [hbelow n, if_pos hk]

/-- R425: the reply where the one element that was asked did what it was asked. -/
theorem eachReply_one (n k : Nat) : eachReply ((List.range n).map fun j => if j = k then some (resOk, 0) else none)
    = { data := (List.range n).map fun j => if j = k then 0 else 255 } := by
  have hgood : (((List.range n).map fun j => if j = k then some ((resOk, 0) : Verdict2) else none).filterMap id).find? (fun v => v.1 != resOk)
      = none := by
    rw [List.find?_eq_none]
    intro v hv
    obtain ⟨o, ho, hv⟩ := List.mem_filterMap.mp hv
    obtain ⟨j, -, rfl⟩ := List.mem_map.mp ho
    by_cases hj : j = k
    · obtain rfl : (resOk, 0) = v := by simpa [hj] using hv
      decide
    · simp [hj] at hv
  simp only [eachReply, hgood, List.map_map, Option.map_none, Option.getD_none]
  refine congrArg (Reply.mk resOk 0) (List.map_congr_left fun j _ => ?_)
  by_cases hj : j = k
  · simp [hj, resOk]
  · simp [hj]

/-! ## Switch channels -/

/-- R425: a mask with one bit asks channel `n`. -/
theorem effect_swSet {n on : Nat} {cs : Clamps} {s t : State} (hn : n < 24)
    (hasked : (if bitAt on n then swOnCommand n s else swOffCommand n cs s) = (t, (resOk, 0))) :
    (reqSwSet (2 ^ n) on cs).effect s = (t, some { data := (List.range 24).map fun k => if k = n then 0 else 255 }) := by
  simp only [reqSwSet, eachElement_two_pow hn, hasked, eachReply_one]

theorem judge_swSet {n on : Nat} {cs : Clamps} (hn : n < 24) (s : State) : (reqSwSet (2 ^ n) on cs).judge s = none := by
  have hmask : 2 ^ n < 2 ^ 24 := Nat.pow_lt_pow_right (by decide) hn
  simp only [reqSwSet]
  rw [if_neg (by omega)]

/-- R37, R293: host on to a channel that is off and may be driven turns it on, where the ledger and the vent budget grant it. -/
theorem swOnCommand_of_granted {n : Nat} {s : State} (hused : (s.swCfg n).used = true) (hdrive : drivable s (.switch n) = true)
    (hbound : boundLoop s (.switch n) = none) (hlimp : limpMapped s n = false) (hoff : (s.sw n).state = .off)
    (hlatch : (s.sw n).latch = false) (hown : (s.sw n).limp = false) (hvent : ventOk s n = true)
    (hgranted : refusal s (along (chainSw s n) (swBaseOf s n + swSurchargeOf s n)) = none) :
    ∃ t, swOnCommand n s = (t, (resOk, 0)) ∧ TurnedOn n false s t := by
  obtain ⟨c, hcharge, hstate, ht⟩ := turnedOn_of_granted (n := n) (by simp [limpDefaults, hown]) hgranted false
  have hleft : leaveExhausted n c = c := by simp [leaveExhausted, hstate, hoff]
  simp only [drivable, Bool.and_eq_true, Bool.not_eq_true'] at hdrive
  obtain ⟨⟨⟨⟨⟨hon, hregion⟩, haway⟩, hheld⟩, hlink⟩, havail⟩ := hdrive
  refine ⟨_, ?_, ht⟩
  simp [swOnCommand, swStart, firstBad, unusedSwitch, hused, hon, hregion, haway, hheld, hlink, havail, hbound, hlimp, hoff, hlatch, hvent,
    hcharge, hleft]

/-- R290: host off to a channel that is on, with a clamp that it may have. -/
theorem swOffCommand_of_on {n : Nat} {cs : Clamps} {s : State} (hused : (s.swCfg n).used = true) (hlink : linkDown s (.switch n) = false)
    (hbound : boundLoop s (.switch n) = none) (hlimp : limpMapped s n = false) (hon : (s.sw n).state = .on)
    (hallowed : clampAllowed n cs s) : swOffCommand n cs s = (cutOff n cs s .off, (resOk, 0)) := by
  simp [swOffCommand, firstBad, unusedSwitch, hused, hlink, hbound, hlimp, hon, offSw, cutSw_of_allowed hallowed]

/-! ## The statement -/

/-- Settles O14: a channel turns on with what its grant gives it, or off and holds nothing. -/
theorem switchRequests : Obligations.SwitchRequests := by
  unfold Obligations.SwitchRequests
  refine ⟨fun n cs h s hn hasked hused hdrive hbound hlimp hoff hlatch hown hvent hgranted => ?_,
    fun n cs h s hn hasked hused hlink hbound hlimp hon henergy hfree => ?_, fun n duty => ?_, fun n => ?_, fun entries global => ?_⟩
  · obtain ⟨c, hcommand, ht⟩ := swOnCommand_of_granted (s := takenState h (s.advance h.t)) (n := n) hused hdrive hbound hlimp hoff hlatch hown hvent hgranted
    have hrow : (reqSwSet (2 ^ n) (2 ^ n) cs).IsRow 1793 1 (· == 8) := ⟨rfl, rfl, rfl, rfl, by decide⟩
    obtain ⟨g, hnext, hreplied⟩ := hrow.repliesOut (c := .swSet h (2 ^ n) (2 ^ n) cs) rfl hasked (judge_swSet hn _)
      (effect_swSet hn (by simpa [bitAt_two_pow] using hcommand)) rfl
    have hsame : ∀ m, (settle s (followLoops (c.modCourse h.course g))).sw m = c.sw m := by simp
    refine ⟨_, hnext, ?_⟩
    simp only [hsame]
    exact ⟨ht.state, ht.base, ht.surcharge, ht.reserved, ht.kept, hreplied⟩
  · have hcommand := swOffCommand_of_on (s := takenState h (s.advance h.t)) hused hlink hbound hlimp hon ⟨henergy, hfree⟩
    have hrow : (reqSwSet (2 ^ n) 0 cs).IsRow 1793 1 (· == 8) := ⟨rfl, rfl, rfl, rfl, by decide⟩
    obtain ⟨g, hnext, hreplied⟩ := hrow.repliesOut (c := .swSet h (2 ^ n) 0 cs) rfl hasked (judge_swSet hn _)
      (effect_swSet hn (by simpa [bitAt] using hcommand)) rfl
    have hsw := cutOff_sw n cs (takenState h (s.advance h.t)) .off
    have hsame : ∀ m, (settle s (followLoops ((cutOff n cs (takenState h (s.advance h.t)) .off).modCourse h.course g))).sw m
        = (cutOff n cs (takenState h (s.advance h.t)) .off).sw m := by simp
    refine ⟨_, hnext, ?_⟩
    simp only [hsame]
    exact ⟨congrArg SwitchSt.state hsw, congrArg SwitchSt.base hsw, congrArg SwitchSt.surcharge hsw, congrArg SwitchSt.ventReserved hsw,
      cutOff_kept n cs _ .off, hreplied⟩
  · refine .of_reply (fun h => reqSwPwmDuty n duty) (fun _ => setSwDuty n duty)
      (fun h s s0 g _ _ => ⟨by simp [setSwDuty], fun m hm => by simp [setSwDuty, hm], (modSw_frame (takenState h s) _ _).only_request s0 g⟩)
      (hjudge := fun h s _ ⟨hn, hduty, hused, hpwm, hdrive, hbound, hlimp⟩ => ?_)
    change (reqSwPwmDuty n duty).judge s = none
    simp only [drivable, Bool.and_eq_true, Bool.not_eq_true'] at hdrive
    obtain ⟨⟨⟨⟨⟨hon, hregion⟩, haway⟩, hheld⟩, hlink⟩, havail⟩ := hdrive
    simp [reqSwPwmDuty, unusedSwitch, hused, hpwm, hheld, hlink, havail, hbound, hlimp, hduty, Nat.le_of_lt_succ hn]
  · refine .of_replyOut (fun h => reqSwUnlock n) (fun _ => unlockSw n) (fun h s s0 g _ _ => ?_)
      (hjudge := fun h s _ ⟨hn, hlocked, hlatch, hlink, hlimp⟩ => ?_)
    · have hnoticed : ∀ m, (unlockSw n (takenState h s)).sw m = ((takenState h s).modSw n fun x => { x with state := .off, lockCause := 0 }).sw m :=
        fun m => (notify_frame _ _ _ _).sw (by decide) m
      exact ⟨by simp [hnoticed], fun m hm => by simp [hnoticed, hm]⟩
    · change (reqSwUnlock n).judge s = none
      simp [reqSwUnlock, hlocked, hlatch, hlink, hlimp]
      omega
  · refine .of_reply (fun h => reqSwLimpFuseProgram entries global 0x4C494D50 true)
      (fun _ s => s.modStore fun x => { x with fuses := entries, fuseGlobal := 2 + global % 2 })
      (fun h s s0 g _ _ => ⟨by simp, by simp, (modStore_frame (takenState h s) _).only_request s0 g⟩)
      (hjudge := fun h s _ ⟨hshared, hglobal, hoff, hstill, hlock⟩ => ?_)
    change (reqSwLimpFuseProgram entries global 0x4C494D50 true).judge s = none
    simp [reqSwLimpFuseProgram, hshared, hoff, hstill, hlock]
    omega

end Sys2Proof.Machine
end

section
/-! Requests to field outputs and connector groups (R315, R319, R425). -/

namespace Sys2Proof.Machine

theorem SameExcept.fo {bs : List Bank} {s t : State} (h : SameExcept bs s t) (hb : .outputs ∉ bs) (o : Nat) : t.fo o = s.fo o := by
  have houtputs : t.outputs = s.outputs := h .outputs hb
  rw [State.fo, State.fo, houtputs]

/-- A field output that holds its 10 credits and has been on since `now` (Table 02-1, R315). -/
def OutputSt.turnedOn (x : OutputSt) (now : Nat) : OutputSt := { x with base := 10, st := 1, onAt := now }

/-- Table 02-1: a field output turns on with the 10 credits that the ledger grants it. -/
theorem onFo_of_granted {o : Nat} {s : State} (hoff : (s.fo o).st = 0) (hgranted : refusal s (along (chainFo s o) 10) = none) :
    ∃ t, onFo o s = .ok t ∧ t.fo o = (s.fo o).turnedOn s.devtime ∧ ∀ k, k ≠ o → t.fo k = s.fo k := by
  have hdebited := debits_frame s false (along (chainFo s o) 10)
  refine ⟨_, by simp only [onFo, hoff, acquireFo, ledgerRequest, hgranted]; rfl, ?_, fun k hk => ?_⟩
  · simp [hdebited.fo (by decide), hdebited.devtime (by decide), OutputSt.turnedOn]
  · simp [hdebited.fo (by decide), hk]

/-- Table 02-1: a field output that goes off returns its credits. -/
theorem offFo_of_on {o : Nat} {s : State} (hon : (s.fo o).st = 1) :
    (offFo o s).fo o = { s.fo o with base := 0, st := 0, openLoad := false, level := false } ∧ ∀ k, k ≠ o → (offFo o s).fo k = s.fo k := by
  have hreleased := ledgerRelease_frame false (along (chainFo s o) (s.fo o).base) s
  simp only [offFo, hon, releaseFo]
  exact ⟨by simp [hreleased.fo (by decide)], fun k hk => by simp [hreleased.fo (by decide), hk]⟩

/-- R425: host on to a field output that is off and may be driven. -/
theorem foCommand_of_granted {o : Nat} {s : State} (hused : (s.foCfg o).used = true) (hemulated : emulated s o = false)
    (hdrive : drivable s (.fo o) = true) (hoff : (s.fo o).st = 0) (hgranted : refusal s (along (chainFo s o) 10) = none) :
    ∃ t, foCommand o true s = (t, (resOk, 0)) ∧ t.fo o = (s.fo o).turnedOn s.devtime ∧ ∀ k, k ≠ o → t.fo k = s.fo k := by
  obtain ⟨t, hturned, hfo, hkept⟩ := onFo_of_granted hoff hgranted
  simp only [drivable, Bool.and_eq_true, Bool.not_eq_true'] at hdrive
  obtain ⟨⟨⟨⟨⟨hon, hregion⟩, haway⟩, hheld⟩, hlink⟩, havail⟩ := hdrive
  refine ⟨t, ?_, hfo, hkept⟩
  simp [foCommand, firstBad, hused, hemulated, hon, hregion, haway, hheld, hlink, havail, hoff, hturned]

theorem foCommand_off {o : Nat} {s : State} (hused : (s.foCfg o).used = true) (hemulated : emulated s o = false)
    (hlink : linkDown s (.fo o) = false) : foCommand o false s = (offFo o s, (resOk, 0)) := by
  simp [foCommand, firstBad, hused, hemulated, hlink]

/-- R425: a mask with one bit asks output `o`. -/
theorem effect_ioOutputSet {o on : Nat} {s t : State} (ho : o < 16) (hasked : foCommand o (bitAt on o) s = (t, (resOk, 0))) :
    (reqIoOutputSet (2 ^ o) on).effect s = (t, some { data := (List.range 16).map fun k => if k = o then 0 else 255 }) := by
  simp only [reqIoOutputSet, eachElement_two_pow ho, hasked, eachReply_one]

theorem setGroup_group (g : Nat) (v : GroupSt) (s : State) (k : Nat) : (setGroup g v s).group k = if k = g then v else s.group k := by
  rw [State.group, State.group, setGroup]
  split
  case isTrue h => subst h; simp
  case isFalse h => exact tget_tset_of_ne _ _ _ h

theorem SameExcept.group {bs : List Bank} {s t : State} (h : SameExcept bs s t) (hb : .groups ∉ bs) (k : Nat) : t.group k = s.group k := by
  have hgroups : t.groups = s.groups := h .groups hb
  rw [State.group, State.group, hgroups]

/-! ## The statement -/

/-- Settles O15: an output turns on with its credits and off without; a fault state ends and a group is armed alone. -/
theorem fieldOutputRequests : Obligations.FieldOutputRequests := by
  unfold Obligations.FieldOutputRequests
  refine ⟨fun o h s ho hasked hused hemulated hdrive hoff hgranted => ?_, fun o h s ho hasked hused hemulated hlink hon => ?_,
    fun o => ?_, fun g => ?_⟩
  · obtain ⟨t, hcommand, hfo, hkept⟩ := foCommand_of_granted (s := takenState h (s.advance h.t)) hused hemulated hdrive hoff hgranted
    have hrow : (reqIoOutputSet (2 ^ o) (2 ^ o)).IsRow 1809 1 (· == 4) := ⟨rfl, rfl, rfl, rfl, by decide⟩
    obtain ⟨g, hnext, hreplied⟩ := hrow.replies (c := .ioOutputSet h (2 ^ o) (2 ^ o)) rfl hasked rfl
      (effect_ioOutputSet ho (by simpa [bitAt_two_pow] using hcommand)) rfl
    have hsame : ∀ k, (settle s (t.modCourse h.course g)).fo k = t.fo k := by simp
    refine ⟨_, hnext, ?_⟩
    simp only [hsame]
    exact ⟨congrArg OutputSt.st hfo, congrArg OutputSt.base hfo, hkept, hreplied⟩
  · have hcommand := foCommand_off (s := takenState h (s.advance h.t)) hused hemulated hlink
    obtain ⟨hfo, hkept⟩ := offFo_of_on (s := takenState h (s.advance h.t)) hon
    have hrow : (reqIoOutputSet (2 ^ o) 0).IsRow 1809 1 (· == 4) := ⟨rfl, rfl, rfl, rfl, by decide⟩
    obtain ⟨g, hnext, hreplied⟩ := hrow.replies (c := .ioOutputSet h (2 ^ o) 0) rfl hasked rfl
      (effect_ioOutputSet ho (by simpa [bitAt] using hcommand)) rfl
    have hsame : ∀ k, (settle s ((offFo o (takenState h (s.advance h.t))).modCourse h.course g)).fo k
        = (offFo o (takenState h (s.advance h.t))).fo k := by simp
    refine ⟨_, hnext, ?_⟩
    simp only [hsame]
    exact ⟨congrArg OutputSt.st hfo, congrArg OutputSt.base hfo, hkept, hreplied⟩
  · refine .of_reply (fun h => reqIoFaultClear o false) (fun _ s => s.modFo o fun x => { x with st := 0, cause := 0 })
      (fun h s s0 g _ _ => ⟨by simp, fun m hm => by simp [hm], (modFo_frame (takenState h s) _ _).only_request s0 g⟩)
      (hjudge := fun h s _ ⟨ho, _, hlatch, hlink⟩ => ?_) (heffect := fun h s _ ⟨_, hfaulted, _⟩ => ?_)
    · change (reqIoFaultClear o false).judge s = none
      simp [reqIoFaultClear, hlatch, hlink, Nat.le_of_lt_succ ho]
    · have hst : ((takenState h s).fo o).st = 2 := hfaulted
      simp only [reqIoFaultClear, hst, if_true]
      rfl
  · refine .of_replyOut (fun h => reqIoGroupRearm g) (fun _ => rearm g) (fun h s s0 c _ _ => ?_) (hjudge := fun h s _ ⟨hg, hback⟩ => ?_)
    · have hgroup : ∀ k, (settle s0 (followLoops ((rearm g (takenState h s)).modCourse h.course c))).group k
          = if k = g then .present else s.group k := fun k => by
        have hkept := (followLoops_frame ((rearm g (takenState h s)).modCourse h.course c)).append (settle_frame s0 _)
        exact (hkept.group (by decide) k).trans (setGroup_group g .present (takenState h s) k)
      exact ⟨by simp [hgroup], fun k hk => by simp [hgroup, hk]⟩
    · change (reqIoGroupRearm g).judge s = none
      simp [reqIoGroupRearm, hback, hg]

end Sys2Proof.Machine
end

section
/-! What notifications leave of the courses, and the requests SYS_RESYNC and SYS_REPLAY (R392, R401, R417). -/

namespace Sys2Proof.Machine

/-! ## Courses that only send (R391) -/

/-- The courses of `t` have sent what those of `s` have, and maybe more; what they await and what they answered stands. -/
def CoursesGrow (s t : State) : Prop := ∀ n, (t.course n).expected = (s.course n).expected
  ∧ (t.course n).lastAccepted = (s.course n).lastAccepted ∧ (t.course n).cache = (s.course n).cache ∧ (s.course n).ring ⊆ (t.course n).ring

theorem CoursesGrow.refl (s : State) : CoursesGrow s s := fun _ => ⟨rfl, rfl, rfl, List.Subset.refl _⟩

theorem CoursesGrow.trans {s t u : State} (h : CoursesGrow s t) (k : CoursesGrow t u) : CoursesGrow s u := fun n => by
  obtain ⟨hexpected, haccepted, hcache, hring⟩ := h n
  obtain ⟨kexpected, kaccepted, kcache, kring⟩ := k n
  exact ⟨kexpected.trans hexpected, kaccepted.trans haccepted, kcache.trans hcache, List.Subset.trans hring kring⟩

theorem CoursesGrow.of_courses {s t : State} (h : t.host.courses = s.host.courses) : CoursesGrow s t := fun n => by
  rw [State.course, State.course, h]
  exact ⟨rfl, rfl, rfl, List.Subset.refl _⟩

theorem CoursesGrow.of_frame {bs : List Bank} {s t : State} (h : SameExcept bs s t) (hb : .courses ∉ bs) : CoursesGrow s t :=
  .of_courses (h .courses hb)

theorem CoursesGrow.foldl {α : Type} {f : State → α → State} (h : ∀ s a, CoursesGrow s (f s a)) (l : List α) (s : State) :
    CoursesGrow s (l.foldl f s) := by
  induction l generalizing s with
  | nil => exact .refl s
  | cons a l ih => exact (h s a).trans (ih _)

theorem CoursesGrow.replied {h : Hdr} {op : Nat} {r : Reply} {s t : State} (hgrow : CoursesGrow s t) (hreplied : Replied h op r s) :
    Replied h op r t := by
  obtain ⟨m, hm, hfields⟩ := hreplied
  exact ⟨m, (hgrow h.course).2.2.2 hm, hfields⟩

theorem CoursesGrow.told {n op : Nat} {p : List Byte} {s t : State} (hgrow : CoursesGrow s t) (htold : Told n op p s) : Told n op p t := by
  obtain ⟨m, hm, hfields⟩ := htold
  exact ⟨m, (hgrow n).2.2.2 hm, hfields⟩

theorem modCourse_grows (s : State) (n : Nat) {f : Course → Course} (hexpected : ∀ c, (f c).expected = c.expected)
    (haccepted : ∀ c, (f c).lastAccepted = c.lastAccepted) (hcache : ∀ c, (f c).cache = c.cache) (hring : ∀ c, c.ring ⊆ (f c).ring) :
    CoursesGrow s (s.modCourse n f) := fun k => by
  by_cases hk : k = n
  · subst hk
    rw [State.modCourse_course_self]
    exact ⟨hexpected _, haccepted _, hcache _, hring _⟩
  · rw [State.modCourse_course_of_ne _ _ _ hk]
    exact ⟨rfl, rfl, rfl, List.Subset.refl _⟩

theorem putMsg_grows (n op tag : Nat) (p : List Byte) (s : State) : CoursesGrow s (putMsg n op tag p s) :=
  modCourse_grows s n (fun _ => rfl) (fun _ => rfl) (fun _ => rfl) fun _ => List.subset_append_left _ _

theorem addPending_grows (n op : Nat) (p : List Byte) (s : State) : CoursesGrow s (addPending n op p s) := by
  unfold addPending
  simp only
  split
  · exact modCourse_grows s n (fun _ => rfl) (fun _ => rfl) (fun _ => rfl) fun _ => List.Subset.refl _
  · split
    · refine CoursesGrow.trans ?_ (.of_frame (edge_frame _ _ _ _) (by decide))
      exact modCourse_grows s n (fun _ => rfl) (fun _ => rfl) (fun _ => rfl) fun _ => List.Subset.refl _
    · exact modCourse_grows s n (fun _ => rfl) (fun _ => rfl) (fun _ => rfl) fun _ => List.Subset.refl _

theorem notify_grows (n op : Nat) (p : List Byte) (s : State) : CoursesGrow s (notify n op p s) := by
  unfold notify
  split
  · exact .refl s
  · split
    · exact putMsg_grows n op 0 p s
    · exact addPending_grows n op p s

/-- R417: the snapshot's notifications. -/
theorem sendSnapshot_grows (parts : List (Nat × List Byte)) (s : State) : CoursesGrow s (sendSnapshot parts s) :=
  .foldl (fun s _ => notify_grows 0 33026 _ s) _ s

theorem sendSnapshot_frame (parts : List (Nat × List Byte)) (s : State) : SameExcept [.courses, .events] s (sendSnapshot parts s) :=
  .foldl _ (fun s _ => notify_frame 0 33026 _ s) _ s

/-! ## SYS_RESYNC (R401) -/

/-- R401: a SYS_RESYNC on course 0 with SEQ 0 is taken whatever the numbers are: the state in which it is carried out. -/
def resyncTaken (h : Hdr) (s : State) : State :=
  s.modCourse h.course fun c =>
    { c with reqWr := (c.reqWr + reqSize h) % 4096, reqEnd := (c.reqWr + reqSize h) % 4096, reqRd := (c.reqRd + msgSize h.len) % 4096
             hostAcked := h.ack }

theorem resync_runs {r : Req} {self : Instr} {h : Hdr} {s : State} (hcourse : h.course = 0) (hseq : h.seq = 0) (hop : r.op = 258)
    (harrives : arrives h (s.advance h.t) = true) :
    request r self h s = .next (settle s (r.run h (resyncTaken h (s.advance h.t)))) := by
  generalize hs : s.advance h.t = s1 at harrives
  simp only [arrives, Bool.and_eq_true, decide_eq_true_eq, Bool.not_eq_true', Option.isNone_iff_eq_none, List.isEmpty_iff] at harrives
  obtain ⟨⟨⟨⟨⟨⟨⟨⟨⟨hc, hl⟩, ht⟩, hi⟩, hst⟩, hh⟩, hct⟩, h8⟩, hlen⟩, hcrc⟩ := harrives
  have htakes (f : Course → Course) (hsame : ∀ c, (f c).long = c.long ∧ (f c).ring = c.ring ∧ (f c).rplWr = c.rplWr
      ∧ (f c).rplRd = c.rplRd ∧ (f c).paused = c.paused) : canTake (s1.modCourse h.course f) h.course = true := by
    obtain ⟨hlong, hring, hwr, hrd, hpaused⟩ := hsame (s1.course h.course)
    rw [canTake_modCourse hlong hring hwr hrd hpaused]
    exact hct
  have hlong : ¬1024 < h.len := by omega
  have hwaits : ∀ t, waitsSeq2 r t = false := fun t => by simp [waitsSeq2, hop, groupOf]
  have hfirst : (decide (r.op = 258) && decide (h.course = 0) && decide (h.seq = 0)) = true := by simp [hop, hcourse, hseq]
  simp only [request, hc, if_true, at_next, hs, arrive, hl, ht, hi, hst, takeOrHold, Bool.false_eq_true, if_false, Option.isSome_none,
    State.modCourse_course_self, hh, List.isEmpty_nil, Bool.true_and, htakes, hwaits, take, hlong, hcrc, modCourse_isobusLink,
    modCourse_modCourse, hfirst, decide_false, Bool.not_true, Bool.or_self, Option.isNone_none, implies_true, and_self]
  congr 3

/-- R401: what a course is once the host's new EPOCH stands. -/
def Course.fresh (n : Nat) (c : Course) : Course :=
  { c with expected := if n = 0 then 1 else 0, nextDev := 0, lastAccepted := if n = 0 then 0 else 65535, cache := [], kept := [],
           pendingNotif := [] }

theorem resync_course (epoch : Nat) (s : State) {n : Nat} (hn : n ≤ 3) : (resync epoch s).course n = (s.course n).fresh n := by
  have hkept : (resync epoch s).course n = ([0, 1, 2, 3].foldl (fun s n => s.modCourse n (Course.fresh n)) s).course n := rfl
  rw [hkept]
  obtain rfl | rfl | rfl | rfl : n = 0 ∨ n = 1 ∨ n = 2 ∨ n = 3 := by omega
  all_goals simp [State.modCourse_course_of_ne]

theorem resync_frame (epoch : Nat) (s : State) : SameExcept [.courses, .session, .recorder, .cov] s (resync epoch s) := by
  have hhost : SameExcept [.session] s (s.modHost fun h => { h with epoch := epoch }) := modHost_frame s rfl rfl
  have hfresh := SameExcept.foldl (fun s n => s.modCourse n (Course.fresh n)) (fun s n => modCourse_frame s n _) [0, 1, 2, 3]
    (s.modHost fun h => { h with epoch := epoch })
  exact (((hhost.append hfresh).append (modRec_frame _ _)).append (modCov_frame _ _)).mono (by decide)

/-- Whether a request is admitted does not follow from what a course counts: only from its long request. -/
theorem admits_modCourse {op courses n : Nat} {h : Hdr} {s : State} {f : Course → Course} (hlong : (f (s.course n)).long = (s.course n).long) :
    admits op courses h (s.modCourse n f) = admits op courses h s := by
  have hl : ∀ k, ((s.modCourse n f).course k).long = (s.course k).long := fun k => by
    by_cases hk : k = n
    · subst hk
      rw [State.modCourse_course_self, hlong]
    · rw [State.modCourse_course_of_ne _ _ _ hk]
  have hfollower : (s.modCourse n f).follower = s.follower := rfl
  simp [admits, groupBusy, followerRefuses, hl, hfollower]

/-- R386: a reply takes the course's next number and the host's EPOCH. -/
theorem sendReply_mem (h : Hdr) (op : Nat) (r : Reply) (s : State) :
    { seq := (s.course h.course).nextDev, ack := (s.course h.course).lastAccepted, opcode := op, tag := h.tag, epoch := s.host.epoch,
      payload := r.payload false : DevMsg } ∈ ((sendReply h op r true s).course h.course).ring := by
  simp [sendReply, putMsg]

theorem sendReply_course_of_ne (h : Hdr) (op : Nat) (r : Reply) (s : State) {n : Nat} (hn : n ≠ h.course) :
    (sendReply h op r true s).course n = s.course n := by
  simp [sendReply, putMsg, State.modCourse_course_of_ne _ _ _ hn]

theorem sendReply_numbers (h : Hdr) (op : Nat) (r : Reply) (s : State) (n : Nat) :
    ((sendReply h op r true s).course n).expected = (s.course n).expected
      ∧ ((sendReply h op r true s).course n).lastAccepted = (s.course n).lastAccepted := by
  by_cases hn : n = h.course
  · subst hn
    simp [sendReply, putMsg]
  · rw [sendReply_course_of_ne _ _ _ _ hn]
    exact ⟨rfl, rfl⟩

/-- R401: what a SYS_RESYNC leaves: the snapshot stands behind its reply. -/
def resynced (h : Hdr) (sense : Sense) (s : State) : State :=
  let parts := snapshotParts sense (resyncTaken h s)
  sendSnapshot (snapshotParts sense (sendReply h 258 { data := snapshotHeader parts.length (resync h.epoch (resyncTaken h s)) } true
    (resync h.epoch (resyncTaken h s)))) (sendReply h 258 { data := snapshotHeader parts.length (resync h.epoch (resyncTaken h s)) } true
    (resync h.epoch (resyncTaken h s)))

theorem resynced_frame (h : Hdr) (sense : Sense) (s : State) :
    SameExcept [.courses, .session, .recorder, .cov, .events] s (resynced h sense s) :=
  ((((modCourse_frame s _ _).append (resync_frame h.epoch _)).append (sendReply_frame _ _ _ _ _)).append (sendSnapshot_frame _ _)).mono (by decide)

theorem settle_resynced_frame (h : Hdr) (sense : Sense) (s0 s : State) :
    SameExcept (.courses :: endBanks) (resync h.epoch (resyncTaken h s)) (settle s0 (resynced h sense s)) :=
  (((sendReply_frame _ _ _ _ _).append (sendSnapshot_frame _ _)).append (settle_frame s0 _)).mono (by decide)

theorem settle_resynced_course (h : Hdr) (sense : Sense) (s0 s : State) : CoursesGrow
    (sendReply h 258 { data := snapshotHeader (snapshotParts sense (resyncTaken h s)).length (resync h.epoch (resyncTaken h s)) } true
      (resync h.epoch (resyncTaken h s))) (settle s0 (resynced h sense s)) :=
  (sendSnapshot_grows _ _).trans (.of_courses (settle_courses _ _))

theorem exec_sysResync {h : Hdr} {sense : Sense} {s : State} (hcourse : h.course = 0) (hseq : h.seq = 0) (hlen : h.len = 0)
    (harrives : arrives h (s.advance h.t) = true) (hadmits : admits 258 1 h (s.advance h.t) = true) :
    exec (.sysResync h sense) s = .next (settle s (resynced h sense (s.advance h.t))) := by
  refine (resync_runs (r := reqSysResync h sense) hcourse hseq rfl harrives).trans ?_
  have hfails : (reqSysResync h sense).fails h (resyncTaken h (s.advance h.t)) = none :=
    fails_none ((admits_modCourse rfl).trans hadmits) rfl (by simp [reqSysResync, hlen, exactly]) rfl
  rw [run_reply hfails rfl]
  rfl

/-! ## SYS_REPLAY (R392) -/

theorem isobusLink_of_asked {op courses : Nat} {len : Nat → Bool} {h : Hdr} {s : State} (hasked : asked op courses len h s = true) :
    (s.advance h.t).isobusLink = none := by
  simp only [asked, accepts, arrives, Bool.and_eq_true, Option.isNone_iff_eq_none] at hasked
  obtain ⟨⟨⟨⟨⟨⟨⟨⟨⟨⟨⟨⟨-, hlink⟩, -⟩, -⟩, -⟩, -⟩, -⟩, -⟩, -⟩, -⟩, -⟩, -⟩, -⟩ := hasked
  exact hlink

theorem course_of_courses {s t : State} (h : t.host.courses = s.host.courses) (n : Nat) : t.course n = s.course n := by
  rw [State.course, State.course, h]

theorem sendReply_ring (h : Hdr) (op : Nat) (r : Reply) (s : State) (n : Nat) :
    (s.course n).ring ⊆ ((sendReply h op r true s).course n).ring := by
  by_cases hn : n = h.course
  · subst hn
    simp [sendReply, putMsg]
  · rw [sendReply_course_of_ne _ _ _ _ hn]
    exact List.Subset.refl _

/-- A row that answers at once, with the reply that it sends. -/
theorem Req.IsRow.nexts {r : Req} {op courses : Nat} {len : Nat → Bool} {c : Instr} {h : Hdr} {s s1 : State} {x : Reply}
    (hrow : r.IsRow op courses len) (hexec : exec c s = request r c h s) (hasked : asked op courses len h s = true)
    (hjudge : r.judge (takenState h (s.advance h.t)) = none)
    (heffect : r.effect (takenState h (s.advance h.t)) = (s1, some x)) (hafter : r.after = fun s => s) :
    exec c s = .next (settle s (sendReply h op x true s1)) := by
  obtain ⟨hcourse, harrive, hfails⟩ := hrow.carried hasked hjudge c
  have hrun := harrive.trans (run_reply hfails heffect)
  rw [hafter, hrow.op_eq] at hrun
  rw [hexec, request, if_pos hcourse, at_next, hrun]

/-- R392: one kept message for which the ring has room is written again. -/
theorem rewriteFrom_one {n keep first : Nat} {m : DevMsg} {s : State} (hkept : (s.course n).kept.find? (fun m => m.seq == first) = some m)
    (hroom : hasRoom s n m.payload.length keep = true) : ∃ g, (∀ c, (g c).ring = c.ring ++ [m]) ∧
    rewriteFrom n keep 1 first s = (s.modCourse n g, 1, none) := by
  refine ⟨_, fun c => ?_, by simp only [rewriteFrom, hkept, rewriteMsg, hroom, if_true]; rfl⟩
  rfl

/-! ## The statement -/

/-- Settles O4: the resync's four fresh courses only send the reply and the snapshot; a replayed message is appended as it was kept. -/
theorem resyncAndReplay : Obligations.ResyncAndReplay := by
  unfold Obligations.ResyncAndReplay
  refine ⟨fun h sense s hcourse hseq hlen harrives hadmits => ?_, fun course first m h s hasked hcourse hfirst hkept hroom => ?_⟩
  · have hgrow := settle_resynced_course h sense s (s.advance h.t)
    have hframe := (resynced_frame h sense (s.advance h.t)).only_settle_of s (cs := [.courses, .session, .recorder, .cov]) (by decide)
    have hkept := settle_resynced_frame h sense s (s.advance h.t)
    have hnumbers : ∀ n, n ≤ 3 → ((settle s (resynced h sense (s.advance h.t))).course n).expected = (if n = 0 then 1 else 0)
        ∧ ((settle s (resynced h sense (s.advance h.t))).course n).lastAccepted = (if n = 0 then 0 else 65535) := fun n hn => by
      obtain ⟨hexpected, haccepted, -⟩ := hgrow n
      rw [hexpected, haccepted, (sendReply_numbers _ _ _ _ n).1, (sendReply_numbers _ _ _ _ n).2, resync_course _ _ hn]
      exact ⟨rfl, rfl⟩
    refine ⟨_, exec_sysResync hcourse hseq hlen harrives hadmits, ?_, (hnumbers 0 (by decide)).1, (hnumbers 0 (by decide)).2, fun n hn hn3 => ?_,
      ?_, ?_, ?_, hframe⟩
    · exact registers_epoch (hkept .session (by decide))
    · obtain ⟨hexpected, haccepted⟩ := hnumbers n hn3
      obtain ⟨-, -, hcache, -⟩ := hgrow n
      have hpos : n ≠ 0 := by omega
      refine ⟨by simpa [hpos] using hexpected, by simpa [hpos] using haccepted, ?_⟩
      rw [hcache, sendReply_course_of_ne _ _ _ _ (by omega), resync_course _ _ hn3]
      rfl
    · exact congrArg Recorder.stream (hkept .recorder (by decide))
    · exact congrArg CovSt.exporting (hkept .cov (by decide))
    · have hmem := sendReply_mem h 258 ⟨0, 0, snapshotHeader (snapshotParts sense (resyncTaken h (s.advance h.t))).length
        (resync h.epoch (resyncTaken h (s.advance h.t)))⟩ (resync h.epoch (resyncTaken h (s.advance h.t)))
      rw [hcourse] at hmem
      refine ⟨_, (hgrow 0).2.2.2 hmem, rfl, rfl, rfl, ?_⟩
      rw [resync_course _ _ (by decide)]
      rfl
  · have hsame : ∀ n, ((takenState h (s.advance h.t)).course n).kept = ((s.advance h.t).course n).kept
        ∧ ((takenState h (s.advance h.t)).course n).used = ((s.advance h.t).course n).used := fun n => by
      by_cases hn : n = h.course
      · subst hn
        simp [takenState, Course.used]
      · rw [takenState, State.modCourse_course_of_ne _ _ _ hn]
        exact ⟨rfl, rfl⟩
    have hlink : (s.advance h.t).isobusLink = none := isobusLink_of_asked hasked
    obtain ⟨g, hring, hrewrite⟩ := rewriteFrom_one (s := takenState h (s.advance h.t)) (n := course) (first := first) (m := m)
      (keep := if course = h.course then 24 else 0) (by rw [(hsame course).1]; exact hkept)
      (by simpa [hasRoom, hlink, (hsame course).2] using hroom)
    have hspan : (first + 65536 - first % 65536) % 65536 = 0 := by omega
    have hjudge : (reqSysReplay h course first first).judge (takenState h (s.advance h.t)) = none := by
      simp [reqSysReplay, hspan, Nat.le_of_lt_succ hcourse]
    have heffect : (reqSysReplay h course first first).effect (takenState h (s.advance h.t)) =
        ((takenState h (s.advance h.t)).modCourse course g, some { detail := 1, data := le 2 65535 ++ le 2 0 }) := by
      simp only [reqSysReplay, hspan, Nat.zero_add, hrewrite]
      rfl
    have hrow : (reqSysReplay h course first first).IsRow 259 15 (· == 8) := ⟨rfl, rfl, rfl, rfl, by decide⟩
    refine ⟨_, hrow.nexts (c := .sysReplay h course first first) rfl hasked hjudge heffect rfl, ?_, ?_, ?_⟩
    · rw [course_of_courses (settle_courses _ _)]
      refine sendReply_ring _ _ _ _ _ ?_
      rw [State.modCourse_course_self, hring]
      exact List.mem_append_right _ (List.mem_singleton_self m)
    · exact (replied_sendReply _ _ _ _ _).of_courses (settle_courses _ _)
    · exact (((modCourse_frame _ _ _).append (modCourse_frame _ course g)).append (sendReply_frame _ _ _ _ _)).only_settle_of s (by decide)

end Sys2Proof.Machine
end

section
/-! Outputs, power moves, the reset on request and the RTC's setting (R393, R394, R414 to R416). -/

namespace Sys2Proof.Machine

theorem SameExcept.power {bs : List Bank} {s t : State} (h : SameExcept bs s t) (hb : .power ∉ bs) : t.power = s.power := h .power hb

/-- A row that answers at once and may take outputs out of or into a fault state (R262), with what follows its reply. -/
theorem Req.IsRow.nextsOut {r : Req} {op courses : Nat} {len : Nat → Bool} {c : Instr} {h : Hdr} {s s1 : State} {x : Reply}
    (hrow : r.IsRow op courses len) (hexec : exec c s = requestOut r c h s) (hasked : asked op courses len h s = true)
    (hjudge : r.judge (takenState h (s.advance h.t)) = none)
    (heffect : r.effect (takenState h (s.advance h.t)) = (s1, some x)) :
    exec c s = .next (settle s (followLoops (r.after (sendReply h op x true s1)))) := by
  obtain ⟨hcourse, harrive, hfails⟩ := hrow.carried hasked hjudge c
  have hrun := harrive.trans (run_reply hfails heffect)
  rw [hrow.op_eq] at hrun
  rw [hexec, requestOut, if_pos hcourse, atOut, at_next, hrun]

/-- What follows a reply that was sent, where it only sends more. -/
theorem replied_settle_followLoops {h : Hdr} {op : Nat} {x : Reply} {s0 s1 t : State} (hgrow : CoursesGrow (sendReply h op x true s1) t) :
    Replied h op x (settle s0 (followLoops t)) :=
  (hgrow.replied (replied_sendReply h op x true s1)).of_courses
    ((settle_courses _ _).trans (followLoops_frame t .courses (by decide)))

/-! ## Enabling outputs (R393, R399) -/

/-- Only the emulation and the credits of its outputs change; what R49 holds in its safe state stays held. -/
def EmulationOnly (s t : State) : Prop := SameExcept [.odo, .outputs, .ledger] s t ∧ t.ledger.heldSafe = s.ledger.heldSafe

theorem EmulationOnly.refl (s : State) : EmulationOnly s s := ⟨.refl _ s, rfl⟩

theorem EmulationOnly.trans {s t u : State} (h : EmulationOnly s t) (k : EmulationOnly t u) : EmulationOnly s u :=
  ⟨h.1.trans k.1, k.2.trans h.2⟩

theorem EmulationOnly.foldl {α : Type} {f : State → α → State} (h : ∀ s a, EmulationOnly s (f s a)) (l : List α) (s : State) :
    EmulationOnly s (l.foldl f s) := by
  induction l generalizing s with
  | nil => exact .refl s
  | cons a l ih => exact (h s a).trans (ih _)

theorem acquireFo_emulation {o : Nat} {s t : State} (hok : acquireFo o s = .ok t) : EmulationOnly s t := by
  have hheld : ∀ (cs : List Charge) (s : State), (cs.foldl (debit false) s).ledger.heldSafe = s.ledger.heldSafe := fun cs => by
    induction cs with
    | nil => exact fun _ => rfl
    | cons c cs ih => exact fun s => ih _
  simp only [acquireFo, ledgerRequest] at hok
  split at hok
  · cases hok
  · obtain rfl := Except.ok.inj hok
    exact ⟨((debits_frame s false _).append (modFo_frame _ _ _)).mono (by decide), hheld _ s⟩

theorem startEmulation_only (s : State) : EmulationOnly s (startEmulation s) := by
  have hstart : ∀ (p : Prop) [Decidable p] f, EmulationOnly s (if p then s.modOdo f else s) := by
    intro p _ f
    split
    · exact ⟨(modOdo_frame s f).mono (by decide), rfl⟩
    · exact .refl s
  unfold startEmulation
  refine (hstart _ _).trans (.foldl (fun s o => ?_) [14, 15] _)
  split
  · exact .refl s
  · split
    next t hok => exact (acquireFo_emulation hok).trans ⟨(modFo_frame t _ _).mono (by decide), rfl⟩
    next => exact .refl s

theorem enableDies_frame (ds : List Nat) (s : State) : SameExcept [.dies] s (ds.foldl (fun s d => enableDie d s) s) :=
  .foldl _ (fun s d => .ite (modDie_frame s d _) (.refl _ s)) ds s

theorem clearVentHeld_frame (s : State) : SameExcept [.ventHeld] s { s with ventHeld := [] } := fun b hb => by cases b <;> simp_all [Bank.same]

/-- The state in which the emulation starts once the host has enabled outputs (R393, R399). -/
def beforeEmulation (s : State) : State :=
  ({ [2, 3, 4].foldl (fun s d => enableDie d s) (s.modHost fun h => { h with outputsEnabled := true, safeLeft := false }) with
      ventHeld := [] } : State).modLedger fun l => { l with heldSafe := [] }

theorem enableOutputs_eq (s : State) : enableOutputs s = startEmulation (beforeEmulation s) := rfl

theorem beforeEmulation_frame (s : State) : SameExcept [.dies, .ventHeld, .ledger]
    (s.modHost fun h => { h with outputsEnabled := true, safeLeft := false }) (beforeEmulation s) := by
  unfold beforeEmulation
  generalize (s.modHost fun h => { h with outputsEnabled := true, safeLeft := false }) = t
  exact ((enableDies_frame [2, 3, 4] t).append (clearVentHeld_frame _)).append (modLedger_frame _ _)

theorem enableOutputs_frame (s : State) : SameExcept [.session, .dies, .ventHeld, .odo, .outputs, .ledger] s (enableOutputs s) := by
  have hhost : SameExcept [.session] s (s.modHost fun h => { h with outputsEnabled := true, safeLeft := false }) := modHost_frame s rfl rfl
  rw [enableOutputs_eq]
  exact ((hhost.append (beforeEmulation_frame s)).append (startEmulation_only _).1).mono (by decide)

/-- R393, R399: what an enabling sets; nothing is held any longer. -/
theorem enableOutputs_sets (s : State) : (enableOutputs s).host.outputsEnabled = true ∧ (enableOutputs s).host.safeLeft = false
    ∧ (enableOutputs s).ventHeld = [] ∧ (enableOutputs s).ledger.heldSafe = [] := by
  have hregisters := beforeEmulation_frame s .session (by decide)
  obtain ⟨hframe, hheld⟩ := startEmulation_only (beforeEmulation s)
  have hafter := hframe .session (by decide)
  rw [enableOutputs_eq]
  exact ⟨(registers_outputsEnabled hafter).trans (registers_outputsEnabled hregisters),
    (registers_safeLeft hafter).trans (registers_safeLeft hregisters), hframe .ventHeld (by decide), hheld⟩

/-! ## Power moves (R331, R414) -/

theorem moveAwake_power (target : PowerState) (s : State) : (moveAwake target s).power = { s.power with state := target } := by
  have hcounted : (countTime s).power = s.power := countTime_frame s .power (by decide)
  have hmoved : (moveAwake target s).power = ((countTime s).modPower fun p => { p with state := target }).power := by
    unfold moveAwake stopTracking
    simp only
    split <;> rfl
  rw [hmoved]
  exact congrArg (fun p : PowerSt => { p with state := target }) hcounted

theorem sendPower_grows (from_ to_ : PowerState) (aborted : Bool) (wake : Nat) (s : State) :
    CoursesGrow s (sendPower from_ to_ aborted wake s) :=
  ((CoursesGrow.of_frame (modPower_frame s _) (by decide)).trans (notify_grows _ _ _ _)).trans (.of_frame (edge_frame_own rfl) (by decide))

/-- Table 11-7: what N_POWER changes of the power state is its SLEPT. -/
theorem sendPower_power (from_ to_ : PowerState) (aborted : Bool) (wake : Nat) (s : State) :
    (sendPower from_ to_ aborted wake s).power = { s.power with slept := 0 } := by
  have hsent : SameExcept [.courses, .events] (s.modPower fun p => { p with slept := 0 }) (sendPower from_ to_ aborted wake s) :=
    ((notify_frame _ _ _ _).append (edge_frame_own rfl)).mono (by decide)
  exact hsent .power (by decide)

/-! ## A reset of D0 (R415, Table 12-4) -/

theorem lossyRestart_frame (lostS : Nat) (s : State) : SameExcept [.recorder, .cov] s (lossyRestart lostS s) :=
  (modRec_frame s _).append (modCov_frame _ _)

theorem closeAtReset_frame (s : State) : SameExcept [.recorder, .events] s (closeAtReset s) :=
  (closeRecord_frame _ _ _ s).trans (closeRecord_frame _ _ _ _)

theorem resetD0_switches (cause : Nat) (s : State) : (resetD0 cause s).switches = s.switches := by
  have hlost : ∀ n, (closeAtReset (lossyRestart n s)).switches = s.switches := fun n =>
    ((lossyRestart_frame n s).append (closeAtReset_frame _)) .switches (by decide)
  exact hlost _

/-! ## The statement -/

/-- What a SYS_POWER to an awake state carries out before it replies: no alarm and no key-off timer stays (R339). -/
def movedAwake (target : PowerState) (s : State) : State :=
  moveAwake target ((s.modPower fun p => { p with keyOffEnd := none, keyOffDue := false }).modPower fun p => { p with alarm := none })

theorem movedAwake_power (target : PowerState) (s : State) :
    (movedAwake target s).power = { s.power with keyOffEnd := none, keyOffDue := false, alarm := none, state := target } :=
  moveAwake_power _ _

/-- Table 12-4: what a reset of D0 takes, and the cause that it leaves. -/
structure ResetBy (cause : Nat) (s t : State) : Prop where
  ready : t.start.ready = false
  active : t.start.configActive = false
  cause : t.start.cause = cause
  supplies : t.power.supplies = false
  outputs : t.host.outputsEnabled = false
  epoch : t.host.epoch = 0
  loops : t.loops = []
  switches : t.switches = s.switches

theorem resetD0_resets (cause : Nat) (s : State) : ResetBy cause s (resetD0 cause s) :=
  ⟨rfl, rfl, rfl, rfl, rfl, rfl, rfl, resetD0_switches cause s⟩

theorem ResetBy.settle {cause : Nat} {s t : State} (h : ResetBy cause s t) (s0 : State) : ResetBy cause s (settle s0 t) := by
  have hend := settle_frame s0 t
  have hregisters := hend .session (by decide)
  have hstart : (Machine.settle s0 t).start = t.start := hend .start (by decide)
  exact ⟨hstart ▸ h.ready, hstart ▸ h.active, hstart ▸ h.cause, (congrArg PowerSt.supplies (hend.power (by decide))).trans h.supplies,
    (registers_outputsEnabled hregisters).trans h.outputs, (registers_epoch hregisters).trans h.epoch, (hend .loops (by decide)).trans h.loops,
    (hend .switches (by decide)).trans h.switches⟩

/-- A SYS_POWER to an awake state that Table 11-5 allows, and that differs from the present one. -/
theorem exec_sysPower {st : Nat} {cs : Clamps} {h : Hdr} {s : State} (hasked : asked 261 1 (· == 8) h s = true) (hst : st ≤ 1)
    (hdiffers : powerTarget st ≠ s.power.state) (hallowed : powerAllowed (takenState h (s.advance h.t)) (powerTarget st) = true) :
    exec (.sysPower h st 0 cs) s = .next (settle s (followLoops (sendPower s.power.state (powerTarget st) false 0
      (sendReply h 261 {} true (movedAwake (powerTarget st) (takenState h (s.advance h.t))))))) := by
  have htarget : powerTarget st = .run ∨ powerTarget st = .doze := by
    obtain rfl | rfl : st = 0 ∨ st = 1 := by omega
    · exact .inl rfl
    · exact .inr rfl
  have hawake : (powerTarget st == PowerState.nap || powerTarget st == PowerState.park) = false := by
    obtain he | he := htarget <;> rw [he] <;> rfl
  have hmoves : (powerTarget st == s.power.state) = false := by simpa using hdiffers
  have hsame : (takenState h (s.advance h.t)).power = s.power := by simp
  have hrow : (reqSysPower st 0 cs s.power.state).IsRow 261 1 (· == 8) := ⟨rfl, rfl, rfl, rfl, by decide⟩
  have hjudge : (reqSysPower st 0 cs s.power.state).judge (takenState h (s.advance h.t)) = none := by
    simp [reqSysPower, hallowed]
    omega
  have hnext := hrow.nextsOut (c := .sysPower h st 0 cs) rfl hasked hjudge (x := {}) (s1 := movedAwake (powerTarget st) (takenState h (s.advance h.t)))
    (by
      have hstill : (powerTarget st == (takenState h (s.advance h.t)).power.state) = false := by rw [hsame, hmoves]
      simp only [reqSysPower, hstill, hawake, Bool.false_eq_true, if_false]
      rfl)
  refine hnext.trans ?_
  simp only [reqSysPower, hmoves, hawake, Bool.false_eq_true, if_false]

theorem settle_sendPower_power (s0 s1 : State) (h : Hdr) (x : Reply) (from_ to_ : PowerState) :
    (settle s0 (followLoops (sendPower from_ to_ false 0 (sendReply h 261 x true s1)))).power = { s1.power with slept := 0 } := by
  have hend := ((followLoops_frame (sendPower from_ to_ false 0 (sendReply h 261 x true s1))).append (settle_frame s0 _)).power (by decide)
  have hreply := (sendReply_frame h 261 x true s1).power (by decide)
  rw [hend, sendPower_power, hreply]

theorem hourAfterSet_frame (s : State) : SameExcept [.recorder, .events] s (hourAfterSet s) := by
  have hhour : SameExcept [.recorder, .events] s (newHour s) :=
    ((closeRecord_frame _ _ _ s).append ((countTime_frame _).trans (modRec_frame _ _))).mono (by decide)
  exact .ite hhour (.refl _ s)

theorem exec_sysReset {h : Hdr} {s : State} (hasked : asked 262 9 (· == 4) h s = true) : exec (.sysReset h 0x9640A5A5) s
    = .next (settle s (resetD0 5 (sendReply h 262 {} true (takenState h (s.advance h.t))))) := by
  have hrow : (reqSysReset 0x9640A5A5).IsRow 262 9 (· == 4) := ⟨rfl, rfl, rfl, rfl, by decide⟩
  obtain ⟨hcourse, harrive, hfails⟩ := hrow.carried hasked rfl (.sysReset h 0x9640A5A5)
  change execSysReset h 0x9640A5A5 s = _
  rw [execSysReset, request, if_pos hcourse, at_next, harrive, run_reply hfails rfl]
  rfl

/-- R394: a disabling leaves outputs disabled, and nothing that the SAFE policy left. -/
theorem disabled_sets (cs : Clamps) (s : State) : ((disableOutputs cs s).modHost fun h => { h with safeLeft := false }).host.outputsEnabled = false
    ∧ ((disableOutputs cs s).modHost fun h => { h with safeLeft := false }).host.safeLeft = false := by
  obtain ⟨t, -, hdisabled⟩ := disableOutputs_frame cs s
  have hregisters := registers_outputsEnabled (hdisabled .session (by decide))
  exact ⟨hregisters, rfl⟩

/-- Settles O5: what each command leaves stands under the reply, the loops that follow and the end of the step. -/
theorem outputsPowerTime : Obligations.OutputsPowerTime := by
  unfold Obligations.OutputsPowerTime
  refine ⟨fun cs => ?_, fun cs => ?_, fun cs h s hasked ⟨hrun, hfield⟩ => ?_, fun cs h s hasked ⟨hdoze, hpll⟩ => ?_, fun h s hasked => ?_,
    fun utcS utcMs bound => ?_⟩
  · refine .of_replyOut (fun _ => reqSysOutputs 1 cs) (fun _ => enableOutputs) (fun h s s0 g _ _ => ?_)
      (hjudge := fun h s _ ⟨hready, hactive, hmaint⟩ => ?_)
    · obtain ⟨henabled, hleft, hvents, hheld⟩ := enableOutputs_sets (takenState h s)
      have hend := ((modCourse_frame (enableOutputs (takenState h s)) h.course g).append (followLoops_frame _)).append (settle_frame s0 _)
      have hregisters := hend .session (by decide)
      have hunits := ((enableOutputs_frame (takenState h s)).append hend) .units (by decide)
      have hswitches := ((enableOutputs_frame (takenState h s)).append hend) .switches (by decide)
      exact ⟨(registers_outputsEnabled hregisters).trans henabled, (registers_safeLeft hregisters).trans hleft,
        (hend .ventHeld (by decide)).trans hvents, (congrArg Ledger.heldSafe (hend .ledger (by decide))).trans hheld, hunits, hswitches⟩
    · change (reqSysOutputs 1 cs).judge s = none
      simp [reqSysOutputs, hready, hactive, hmaint]
  · refine .of_replyOut (fun _ => reqSysOutputs 0 cs)
      (fun _ s => (disableOutputs cs s).modHost fun h => { h with safeLeft := false }) (fun h s s0 g _ _ => ?_)
    obtain ⟨hdisabled, hleft⟩ := disabled_sets cs (takenState h s)
    generalize (disableOutputs cs (takenState h s)).modHost (fun h => { h with safeLeft := false }) = u at hdisabled hleft ⊢
    have hend := (((modCourse_frame u h.course g).append (followLoops_frame _)).append (settle_frame s0 _)) .session (by decide)
    exact ⟨(registers_outputsEnabled hend).trans hdisabled, (registers_safeLeft hend).trans hleft⟩
  · have hrun' : s.power.state = .run := by simpa using hrun
    have hnext := exec_sysPower (cs := cs) hasked (st := 1) (by decide)
      (by rw [hrun']; decide) (by simp_all [powerAllowed, powerTarget])
    refine ⟨_, hnext, replied_settle_followLoops (sendPower_grows _ _ _ _ _), ?_⟩
    simp only [settle_sendPower_power, movedAwake_power]
    exact ⟨rfl, trivial, trivial, trivial⟩
  · have hdoze' : s.power.state = .doze := by simpa using hdoze
    have hnext := exec_sysPower (cs := cs) hasked (st := 0) (by decide)
      (by rw [hdoze']; decide) (by simp_all [powerAllowed, powerTarget])
    refine ⟨_, hnext, replied_settle_followLoops (sendPower_grows _ _ _ _ _), ?_⟩
    simp only [settle_sendPower_power, movedAwake_power]
    exact ⟨rfl, trivial, trivial⟩
  · refine ⟨_, exec_sysReset hasked, ?_⟩
    obtain ⟨hready, hactive, hcause, hsupplies, houtputs, hepoch, hloops, hswitches⟩ :=
      (resetD0_resets 5 (sendReply h 262 {} true (takenState h (s.advance h.t)))).settle s
    have hreply := (modCourse_frame (s.advance h.t) _ _).append (sendReply_frame h 262 {} true (takenState h (s.advance h.t)))
    exact ⟨hready, hactive, hcause, hsupplies, houtputs, hepoch, hloops, hswitches.trans (hreply .switches (by decide))⟩
  · refine .of_reply (fun _ => reqSysTimeSet utcS utcMs bound)
      (fun _ s => hourAfterSet (s.modPower fun p =>
        { p with rtcMs := utcS * 1000 + utcMs, rtcAt := s.devtime, rtcSet := true, rtcErrUs := 1000 * bound })) (fun h s s0 g _ _ => ?_)
      (hjudge := fun h s _ ⟨hms, hlo, hhi, hlocked⟩ => ?_)
    · have hset := ((hourAfterSet_frame ((takenState h s).modPower fun p =>
        { p with rtcMs := utcS * 1000 + utcMs, rtcAt := s.devtime, rtcSet := true, rtcErrUs := 1000 * bound })).append
          (modCourse_frame _ h.course g)).append (settle_frame s0 _)
      have hkept := (modPower_frame (takenState h s) _).append hset
      have hpower := hset.power (by decide)
      exact ⟨congrArg PowerSt.rtcMs hpower, congrArg PowerSt.rtcAt hpower, congrArg PowerSt.rtcSet hpower, congrArg PowerSt.rtcErrUs hpower,
        hkept .units (by decide), hkept .switches (by decide), hkept .ledger (by decide)⟩
    · change (reqSysTimeSet utcS utcMs bound).judge s = none
      simp [reqSysTimeSet, hms, hlo, hhi, hlocked]

end Sys2Proof.Machine
end

section
/-! Streams of coverage, records and loop values (R178, R277, R421, R503). -/

namespace Sys2Proof.Machine

/-! ## Messages that have room -/

theorem le_length (n : Nat) (v : Int) : (le n v).length = n := by
  induction n generalizing v with
  | zero => rfl
  | succ n ih => rw [le, List.length_cons, ih]

theorem putMsg_mem (n op : Nat) (p : List Byte) (s : State) : ∃ m ∈ ((putMsg n op 0 p s).course n).ring, m.opcode = op ∧ m.payload = p :=
  ⟨_, by rw [putMsg, State.modCourse_course_self]; exact List.mem_append_right _ (List.mem_singleton_self _), rfl, rfl⟩

/-- A message that was written stands in its ring at the end of the step. -/
theorem told_settle_putMsg (n op : Nat) (p : List Byte) (s0 s : State) : Told n op p (settle s0 (putMsg n op 0 p s)) :=
  (CoursesGrow.of_courses (settle_courses s0 _)).told (putMsg_mem n op p s)

theorem Told.some {n op : Nat} {p : List Byte} {t : State} (h : Told n op p t) : ∃ m ∈ (t.course n).ring, m.opcode = op :=
  let ⟨m, hm, hop, _⟩ := h
  ⟨m, hm, hop⟩

theorem hasRoom_mono {s : State} {n len more keep : Nat} (hlen : len ≤ more) (hroom : hasRoom s n more keep = true) :
    hasRoom s n len keep = true := by
  have hsize : msgSize len ≤ msgSize more := by
    unfold msgSize
    omega
  unfold hasRoom at *
  split
  case h_1 hlink => simpa [hlink] using hroom
  case h_2 hlink =>
    simp only [hlink, decide_eq_true_eq] at *
    omega

/-- R391: a notification that has room goes into its ring. -/
theorem notify_of_room {n op : Nat} {p : List Byte} {s : State} (hhost : s.follower = false) (hnone : (s.course n).pendingNotif = [])
    (hroom : hasRoom s n p.length (keptFree s n) = true) : notify n op p s = putMsg n op 0 p s := by
  simp [notify, hhost, hnone, hroom]

/-! ## Exports (R178, R421) -/

theorem judge_covExport {fid flags : Nat} {a b c d : Int} {s : State} (hfield : (s.fieldEntry fid).isSome) (hflags : flags ≤ 1)
    (hnone : s.cov.exporting = none) : (reqCovExport fid flags a b c d).judge s = none := by
  simp [reqCovExport, hnone, hflags, hfield]

/-- The 528 bytes of one chunk (Table 14-17). -/
def exportPayload (fid : Nat) (tc tr : Int) (k : Nat) (copy : List Host.Cell × Nat) : List Byte :=
  le 4 ((fid : Nat) : Int) ++ le 2 tc ++ le 2 tr ++ le 4 ((copy.2 : Nat) : Int) ++ le 1 ((k : Nat) : Int) ++ le 3 0
    ++ (upFrom (512 * k) 512).map fun o => Memory.read copy.1 o

theorem exportPayload_length (fid : Nat) (tc tr : Int) (k : Nat) (copy : List Host.Cell × Nat) : (exportPayload fid tc tr k copy).length = 528 := by
  simp [exportPayload, le_length, upFrom]

/-- R421: a chunk that has room goes out, with the copy that its tile was taken into. -/
theorem exportChunk_of_room {fid k sent : Nat} {tc tr : Int} {rest : List (Int × Int)} {fe : FieldEntry} {x : Tile} {s : State}
    (hrun : s.cov.exporting = some (fid, (tc, tr) :: rest, k, sent)) (hroom : hasRoom s 2 528 (keptFree s 2) = true)
    (hfield : s.fieldEntry fid = some fe) (htile : tileAt s fid tc tr = some x) :
    ∃ copy, exportChunk s = putMsg 2 33794 0 (exportPayload fid tc tr k copy) (s.modCov fun c =>
      { c with exporting := some (if k = 127 then (fid, rest, 0, sent + 1) else (fid, (tc, tr) :: rest, k + 1, sent)), exportCopy := copy }) := by
  simp only [exportChunk, hrun, hroom, hfield, htile, Bool.not_true, Bool.false_eq_true, if_false]
  exact ⟨_, rfl⟩

theorem exportChunk_of_last {fid k sent : Nat} {s : State} (hrun : s.cov.exporting = some (fid, [], k, sent))
    (hroom : hasRoom s 2 (exportEnd fid sent s).length (keptFree s 2) = true) :
    exportChunk s = putMsg 2 33795 0 (exportEnd fid sent s) (s.modCov fun c => { c with exporting := none, exportCopy := ([], 0) }) := by
  simp only [exportChunk, hrun, hroom, if_true]
  rfl

/-! ## Record streams (R503) -/

theorem beginStream_stream (kind first count : Nat) (s : State) : ∃ cs n, (beginStream kind first count s).recorder.stream = some (kind, cs, n) := by
  unfold beginStream
  split
  case isTrue hkind => exact ⟨_, _, by rw [hkind]; rfl⟩
  case isFalse => exact ⟨_, _, rfl⟩

theorem beginStream_frame (kind first count : Nat) (s : State) : SameExcept [.recorder] s (beginStream kind first count s) :=
  .ite (modRec_frame s _) (modRec_frame s _)

theorem recordChunk_of_room {kind number k sent : Nat} {rest : List (Nat × Nat)} {s : State}
    (hrun : s.recorder.stream = some (kind, (number, k) :: rest, sent)) (hroom : hasRoom s 2 524 (keptFree s 2) = true) :
    ∃ p, recordChunk s = putMsg 2 35329 0 p (s.modRec fun r => { r with stream := some (kind, rest, sent) }) := by
  simp only [recordChunk, hrun, hroom, Bool.not_true, Bool.false_eq_true, if_false]
  exact ⟨_, rfl⟩

theorem recordChunk_of_last {kind sent : Nat} {s : State} (hrun : s.recorder.stream = some (kind, [], sent))
    (hroom : hasRoom s 2 12 (keptFree s 2) = true) :
    recordChunk s = putMsg 2 35329 0 (recChunk kind 1 0 sent []) (s.modRec fun r => { r with stream := none, streamRecords := [] }) := by
  simp only [recordChunk, hrun, hroom, if_true]

/-! ## Loop values (R277) -/

theorem setLoopStream_frame (s : State) (x : Nat × List Nat) (at_ : Option Nat) :
    SameExcept [.loopStream] s { s with loopStream := x, loopSentAt := at_ } := by
  intro b hb
  cases b <;> simp_all [Bank.same]

/-- Table 14-16: the subscribed loops' values. -/
def loopsPayload (s : State) : List Byte :=
  le 8 s.devtime ++ s.loopStream.2.flatMap fun l => le 1 ((l : Nat) : Int) ++ le 3 0 ++ loopEntry s l

/-- Table 14-16: N_LOOP of at most 8 loops fits into 328 bytes. -/
theorem sendLoops_of_room {s : State} (hdue : loopStreamDue s = true) (hhost : s.follower = false) (hnone : (s.course 1).pendingNotif = [])
    (hroom : hasRoom s 1 328 (keptFree s 1) = true) (hcount : s.loopStream.2.length ≤ 8) :
    sendLoops s = putMsg 1 34305 0 (loopsPayload s) { s with loopSentAt := some s.devtime } := by
  have hbody : (loopsPayload s).length ≤ 328 := by
    simp [loopsPayload, le_length, loopEntry, List.length_flatMap]
    omega
  simp only [sendLoops, hdue, Bool.not_true, Bool.false_eq_true, if_false]
  exact notify_of_room (s := { s with loopSentAt := some s.devtime }) hhost hnone (hasRoom_mono (s := s) hbody hroom)

/-! ## The statement -/

/-- Settles O10: each stream's chunk is one message that has room, and the last one ends the stream. -/
theorem streams : Obligations.Streams := by
  unfold Obligations.Streams
  refine ⟨fun fid flags a b c d => ?_, fun fid tc tr rest k sent fe x => ?_, fun fid k sent => ?_, fun fe => ?_, fun kind first count => ?_,
    fun kind number k rest sent => ?_, fun kind sent => ?_, fun rate count loops => ?_, ?_⟩
  · refine .of_reply (fun _ => reqCovExport fid flags a b c d)
      (fun _ s => s.modCov fun x => { x with exporting := some (fid, exportTiles fid flags a b c d s, 0, 0) })
      (fun h s s0 g _ _ => ⟨by simp; rfl, (modCov_frame (takenState h s) _).only_request s0 g⟩)
      (hjudge := fun h s _ ⟨hfield, hflags, hnone, _⟩ => judge_covExport (s := takenState h s) hfield hflags hnone)
      (heffect := fun h s _ ⟨_, _, _, hread⟩ => ?_)
    have hread' : (takenState h s).cov.unreadable = false := hread
    simp only [reqCovExport, hread', Bool.false_eq_true, if_false]
    rfl
  · refine .of_settle exportChunk (fun τ s _ => by unfold exec; exact at_next _ _ _) fun s0 s ⟨hrun, hroom, hfield, htile⟩ => ?_
    obtain ⟨copy, hchunk⟩ := exportChunk_of_room hrun hroom hfield htile
    rw [hchunk]
    obtain ⟨m, hm, hop, hpayload⟩ := told_settle_putMsg 2 33794 (exportPayload fid tc tr k copy) s0 (s.modCov fun c =>
      { c with exporting := some (if k = 127 then (fid, rest, 0, sent + 1) else (fid, (tc, tr) :: rest, k + 1, sent)), exportCopy := copy })
    refine ⟨by simp [putMsg], ⟨m, hm, hop, by rw [hpayload, exportPayload_length]⟩, ?_⟩
    exact ((modCov_frame s _).append (putMsg_frame _ _ _ _ _)).only_settle_of s0 (by decide)
  · refine .of_settle exportChunk (fun τ s _ => by unfold exec; exact at_next _ _ _) fun s0 s ⟨hrun, hroom⟩ => ?_
    rw [exportChunk_of_last hrun hroom]
    exact ⟨by simp [putMsg], told_settle_putMsg _ _ _ _ _, ((modCov_frame s _).append (putMsg_frame _ _ _ _ _)).only_settle_of s0 (by decide)⟩
  · refine .of_reply (fun _ => reqCovReconcile) (fun _ => reconcile fe)
      (fun h s s0 g _ _ => ((modCourse_frame s _ _).append (((reconcile_frame fe (takenState h s)).append (modCourse_frame _ _ g)))).only_settle_of s0 (by decide))
      (hjudge := fun h s _ hfield => ?_) (heffect := fun h s _ hfield => ?_)
    · change reqCovReconcile.judge s = none
      obtain ⟨fid, hopened, -⟩ := Option.bind_eq_some_iff.mp hfield
      simp [reqCovReconcile, hopened]
    · have hfield' : (takenState h s).cov.opened.bind (takenState h s).fieldEntry = some fe := hfield
      simp only [reqCovReconcile, hfield']
      rfl
  · refine .of_reply (fun _ => reqRecRead kind first count) (fun _ => beginStream kind first count) (fun h s s0 g _ _ => ?_)
      (hjudge := fun h s _ ⟨hkind, hfirst, hnone⟩ => ?_)
    · obtain ⟨cs, n, hstream⟩ := beginStream_stream kind first count (takenState h s)
      exact ⟨⟨cs, n, by simpa using hstream⟩, (beginStream_frame kind first count (takenState h s)).only_request s0 g⟩
    · change (reqRecRead kind first count).judge s = none
      simp [reqRecRead, hnone, hkind]
      exact fun hk => hfirst hk
  · refine .of_settle recordChunk (fun τ s _ => by unfold exec; exact at_next _ _ _) fun s0 s ⟨hrun, hroom⟩ => ?_
    obtain ⟨p, hchunk⟩ := recordChunk_of_room hrun hroom
    rw [hchunk]
    exact ⟨by simp [putMsg], (told_settle_putMsg 2 35329 p s0 _).some, ((modRec_frame s _).append (putMsg_frame _ _ _ _ _)).only_settle_of s0 (by decide)⟩
  · refine .of_settle recordChunk (fun τ s _ => by unfold exec; exact at_next _ _ _) fun s0 s ⟨hrun, hroom⟩ => ?_
    rw [recordChunk_of_last hrun hroom]
    exact ⟨by simp [putMsg], told_settle_putMsg _ _ _ _ _, ((modRec_frame s _).append (putMsg_frame _ _ _ _ _)).only_settle_of s0 (by decide)⟩
  · refine .of_reply (fun _ => reqLoopStream rate count loops) (fun _ s => { s with loopStream := (rate, loops.take count), loopSentAt := none })
      (fun h s s0 g _ _ => ⟨by simp, by simp, (setLoopStream_frame (takenState h s) _ _).only_request s0 g⟩)
      (hjudge := fun h s _ ⟨hrate, hcount, hloops, hrest⟩ => ?_)
    change (reqLoopStream rate count loops).judge s = none
    have hknown : (loops.take count).any (noLoop s) = false := by simpa using hloops
    have hunused : (loops.drop count).any (· != 255) = false := by simpa using hrest
    simp only [reqLoopStream, hknown, hunused]
    simp [hrate, hcount]
  · refine .of_settle sendLoops (fun τ s _ => by unfold exec; exact at_next _ _ _) fun s0 s ⟨hdue, hhost, hnone, hroom, hcount⟩ => ?_
    rw [sendLoops_of_room hdue hhost hnone hroom hcount]
    refine ⟨by simp [putMsg], (told_settle_putMsg 1 34305 (loopsPayload s) s0 _).some, ?_⟩
    exact ((setLoopStream_frame s s.loopStream (some s.devtime)).append (putMsg_frame _ _ _ _ _)).only_settle_of s0 (by decide)

end Sys2Proof.Machine
end

section
/-! The request ring's stall, pending notifications and bridge frames (R15 to R19, R384, R391). -/

namespace Sys2Proof.Machine

/-! ## The other courses -/

/-- Every course but `n` stands as it stood. -/
def CoursesKept (n : Nat) (s t : State) : Prop := ∀ k, k ≠ n → t.course k = s.course k

theorem CoursesKept.trans {n : Nat} {s t u : State} (h : CoursesKept n s t) (k : CoursesKept n t u) : CoursesKept n s u :=
  fun m hm => (k m hm).trans (h m hm)

theorem CoursesKept.ite {n : Nat} {s t u : State} {p : Prop} [Decidable p] (h : CoursesKept n s t) (k : CoursesKept n s u) :
    CoursesKept n s (if p then t else u) := by
  split
  · exact h
  · exact k

theorem CoursesKept.of_frame {n : Nat} {bs : List Bank} {s t : State} (h : SameExcept bs s t) (hb : .courses ∉ bs) : CoursesKept n s t :=
  fun k _ => course_of_courses (h .courses hb) k

theorem modCourse_kept (n : Nat) (s : State) (f : Course → Course) : CoursesKept n s (s.modCourse n f) :=
  fun _ hk => State.modCourse_course_of_ne _ _ _ hk

theorem addPending_kept (n op : Nat) (p : List Byte) (s : State) : CoursesKept n s (addPending n op p s) := by
  unfold addPending
  simp only
  split
  · exact modCourse_kept n s _
  · split
    · exact (modCourse_kept n s _).trans (.of_frame (edge_frame _ _ _ _) (by decide))
    · exact modCourse_kept n s _

theorem notify_kept (n op : Nat) (p : List Byte) (s : State) : CoursesKept n s (notify n op p s) := by
  unfold notify
  split
  · exact fun _ _ => rfl
  · split
    · exact modCourse_kept n s _
    · exact addPending_kept n op p s

theorem sendNak_kept (n reason : Nat) (s : State) : CoursesKept n s (sendNak n reason s) := by
  have hsent : ∀ f p, CoursesKept n s (edge 22 n 0 (notify n 33025 p (s.modCourse n f))) := fun f p =>
    ((modCourse_kept n s f).trans (notify_kept n _ p _)).trans (.of_frame (edge_frame _ _ _ _) (by decide))
  exact .ite (fun _ _ => rfl) (hsent _ _)

/-! ## A corrupt request ring (R384, R387) -/

/-- What REQ_WR, REQ_RD and BAD_FRAMES count, and what a course holds. -/
def Course.intake (c : Course) : Nat × Nat × Nat × Option Nat × List Instr × Nat := (c.reqWr, c.reqRd, c.reqEnd, c.stallAt, c.held, c.badFrames)

/-- No course's request ring has moved. -/
def IntakeKept (s t : State) : Prop := ∀ k, (t.course k).intake = (s.course k).intake

theorem IntakeKept.refl (s : State) : IntakeKept s s := fun _ => rfl

theorem IntakeKept.trans {s t u : State} (h : IntakeKept s t) (k : IntakeKept t u) : IntakeKept s u := fun m => (k m).trans (h m)

theorem IntakeKept.ite {s t u : State} {p : Prop} [Decidable p] (h : IntakeKept s t) (k : IntakeKept s u) : IntakeKept s (if p then t else u) := by
  split
  · exact h
  · exact k

theorem IntakeKept.of_frame {bs : List Bank} {s t : State} (h : SameExcept bs s t) (hb : .courses ∉ bs) : IntakeKept s t := fun k => by
  rw [course_of_courses (h .courses hb)]

theorem modCourse_intake {n : Nat} {s : State} {f : Course → Course} (hf : ∀ c, (f c).intake = c.intake) : IntakeKept s (s.modCourse n f) := by
  intro k
  by_cases hk : k = n
  · subst hk
    rw [State.modCourse_course_self, hf]
  · rw [State.modCourse_course_of_ne _ _ _ hk]

theorem addPending_intake (n op : Nat) (p : List Byte) (s : State) : IntakeKept s (addPending n op p s) := by
  refine .ite (modCourse_intake ?_) (.ite (.trans (modCourse_intake ?_) (.of_frame (edge_frame _ _ _ _) (by decide))) (modCourse_intake ?_))
  all_goals exact fun _ => rfl

theorem notify_intake (n op : Nat) (p : List Byte) (s : State) : IntakeKept s (notify n op p s) := by
  refine .ite (.refl s) (.ite (modCourse_intake ?_) (addPending_intake n op p s))
  exact fun _ => rfl

theorem sendNak_intake (n reason : Nat) (s : State) : IntakeKept s (sendNak n reason s) := by
  refine .ite (.refl s) (.trans (.trans (modCourse_intake ?_) (notify_intake n _ _ _)) (.of_frame (edge_frame _ _ _ _) (by decide)))
  exact fun _ => rfl

theorem corrupt_frame (n : Nat) (s : State) : SameExcept [.courses, .events] s (corrupt n s) :=
  ((modCourse_frame s n _).append (sendNak_frame _ _ _)).mono (by decide)

theorem corrupt_kept (n : Nat) (s : State) : CoursesKept n s (corrupt n s) := (modCourse_kept n s _).trans (sendNak_kept n 2 _)

theorem corrupt_intake (n : Nat) (s : State) : ((corrupt n s).course n).intake =
    ((s.course n).reqWr, (s.course n).reqWr, (s.course n).reqWr, none, [], ((s.course n).badFrames + 1) % 4294967296) := by
  rw [corrupt, sendNak_intake, State.modCourse_course_self]
  rfl

theorem settle_keptCourses (n : Nat) (s0 s : State) : CoursesKept n s (settle s0 s) := fun k _ => course_of_courses (settle_courses s0 s) k

/-- Settles O20: a stalled ring is corrupt; a pending notification that has room is one message of its own course. -/
theorem ringStallAndPending : Obligations.RingStallAndPending := by
  unfold Obligations.RingStallAndPending
  refine ⟨fun n hn => ?_, fun n op p rest hn => ?_, fun n hn => ?_⟩
  · refine .of_settle (fun s => if stalled s n then corrupt n s else s) (fun τ s _ => by unfold exec; exact about_next hn) fun s0 s hstalled => ?_
    rw [if_pos hstalled]
    have hintake := corrupt_intake n s
    have hsame : (settle s0 (corrupt n s)).course n = (corrupt n s).course n := course_of_courses (settle_courses _ _) n
    simp only [Course.intake, Prod.mk.injEq] at hintake
    obtain ⟨-, hread, -, hstall, hheld, hbad⟩ := hintake
    rw [hsame]
    exact ⟨hread, hstall, hheld, hbad, (corrupt_kept n s).trans (settle_keptCourses n s0 _), (corrupt_frame n s).only_settle_of s0 (by decide)⟩
  · refine .of_settle (writePending n) (fun τ s _ => by unfold exec; exact about_next hn) fun s0 s ⟨hpending, hawake, hroom⟩ => ?_
    have hwrite : writePending n s = putMsg n op 0 p (s.modCourse n fun c => { c with pendingNotif := rest }) := by
      simp only [writePending, hpending, hawake, hroom, Bool.and_self, if_true]
    have hsame : (settle s0 (putMsg n op 0 p (s.modCourse n fun c => { c with pendingNotif := rest }))).course n
        = (putMsg n op 0 p (s.modCourse n fun c => { c with pendingNotif := rest })).course n := course_of_courses (settle_courses _ _) n
    rw [hwrite]
    refine ⟨by rw [hsame]; simp [putMsg], told_settle_putMsg _ _ _ _ _, by rw [hsame]; simp [putMsg], ?_, ?_⟩
    · exact ((modCourse_kept n s _).trans (modCourse_kept n _ _)).trans (settle_keptCourses n s0 _)
    · exact ((modCourse_frame s n _).append (putMsg_frame _ _ _ _ _)).only_settle_of s0 (by decide)
  · refine .of_settle (writePending n) (fun τ s _ => by unfold exec; exact about_next hn) fun s0 s hnone => ?_
    have hwrite : writePending n s = s := by simp only [writePending, hnone]
    rw [hwrite]
    exact (SameExcept.refl [] s).only_settle s0

end Sys2Proof.Machine
end

section
/-! Bridge frames, heartbeats and lanes (R15 to R19). -/

namespace Sys2Proof.Machine

theorem SameExcept.die {bs : List Bank} {s t : State} (h : SameExcept bs s t) (hb : .dies ∉ bs) (d : Nat) : t.die d = s.die d := by
  have hdies : t.dies = s.dies := h .dies hb
  rw [State.die, State.die, hdies]

/-- A fault is raised against the state before a change that touches neither the controller, nor the intake, nor the time. -/
theorem Raised.of_before {n inst code sev : Nat} {bs : List Bank} {s t u : State} (h : Raised n inst code sev t u) (k : SameExcept bs s t)
    (hb : Bank.events ∉ bs ∧ Bank.faults ∉ bs ∧ Bank.time ∉ bs) : Raised n inst code sev s u := by
  obtain ⟨hevents, hfaults, htime⟩ := hb
  have hsame : t.events = s.events := k .events hevents
  have hintake : t.faults = s.faults := k .faults hfaults
  have hnow : t.devtime = s.devtime := k .time htime
  intro hrun hroom
  rw [← hsame] at hrun
  rw [← hintake] at hroom
  rw [← hnow]
  exact h hrun hroom

/-- R479: delivery touches events, fault intake and the die's own latch. -/
theorem deliverLatched_frame (d : Nat) (s : State) : SameExcept [.events, .faults] (s.modDie d fun y => { y with latched := [], excess := [] })
    (deliverLatched d s) := by
  unfold deliverLatched
  simp only
  refine SameExcept.trans (.foldl _ (fun t e => ?_) _ _) (.foldl _ (fun t p => (modSrc_frame t _ _).mono (by decide)) _ _)
  have hasserted : ∀ {p : Prop} [Decidable p] n w l u, SameExcept [.events, .faults] t (if p then t else assertSource n w l u t) :=
    fun n w l u => .ite (.refl _ t) ((assertSource_frame _ _ _ _ t).mono (by decide))
  exact .ite (hasserted _ _ _ _) ((hasserted _ _ _ _).trans ((intakePut_frame _ _).mono (by decide)))

/-- R15, R16: a good frame at an end of a link that is not retraining renews the link at the die's end. -/
theorem takeFrame_of_linked {d : Nat} {s : State} (hup : linkUp s d = true) (hnone : (s.die d).retrain = none) :
    takeFrame d true true s = s.modDie d fun x => { x with lastFrameAt := s.devtime, linked := true } := by
  simp [takeFrame, hup, retrained, hnone]

/-- R19: a good frame ends a retraining; the audit's window counts from here. -/
theorem takeFrame_of_retraining {d : Nat} {atDie : Bool} {s : State} (hup : linkUp s d = true) (hretrains : (s.die d).retrain.isSome = true) :
    ∃ u, SameExcept [.dies, .ledger] s u ∧ (u.die d).retrain = none ∧ (u.die d).latched = [] ∧ u.ledger.windowAt = s.devtime
      ∧ (∀ k, k ≠ d → u.die k = s.die k) ∧ SameExcept [.events, .faults] u (takeFrame d atDie true s) := by
  have hrenewed : ∀ t, SameExcept [.dies] s t → (t.die d).retrain.isSome = true → (∀ k, k ≠ d → t.die k = s.die k) →
      ∃ u, SameExcept [.dies, .ledger] s u ∧ (u.die d).retrain = none ∧ (u.die d).latched = [] ∧ u.ledger.windowAt = s.devtime
      ∧ (∀ k, k ≠ d → u.die k = s.die k) ∧ SameExcept [.events, .faults] u (retrained d t) := by
    intro t hframe hsome hothers
    have hisnone : (t.die d).retrain.isNone = false := by simpa [← Option.not_isSome] using hsome
    simp only [retrained, hisnone, Bool.false_eq_true, if_false]
    refine ⟨_, ?_, ?_, ?_, ?_, ?_, deliverLatched_frame d _⟩
    · exact (((hframe.append (modDie_frame t d _)).append (modLedger_frame _ _)).append (modDie_frame _ d _)).mono (by decide)
    · simp
    · simp
    · exact hframe .time (by decide)
    · exact fun k hk => by simp [hk, hothers k hk]
  cases atDie
  · simpa [takeFrame, hup] using hrenewed s (.refl _ s) hretrains fun _ _ => rfl
  · simpa [takeFrame, hup] using hrenewed (s.modDie d fun x => { x with lastFrameAt := s.devtime, linked := true })
      (modDie_frame s d _) (by simpa using hretrains) fun k hk => by simp [hk]

theorem loseLane_of_held {l n : Nat} {s : State} (hheld : n ∉ (s.die (l + 2)).lanesOut) : loseLane l n s
    = fault (4 + l) n 0 2 0 (s.modDie (l + 2) fun x => { x with lanesOut := x.lanesOut ++ [n] }) := by
  have hcontains : (s.die (l + 2)).lanesOut.contains n = false := by simpa using hheld
  simp only [loseLane, hcontains, Bool.false_eq_true, if_false]

/-- Settles O22: what a frame, a resend, a heartbeat and a lane change is one die's link. -/
theorem bridgeFrames : Obligations.BridgeFrames := by
  unfold Obligations.BridgeFrames
  refine ⟨fun l q hl => ?_, fun l q atDie hl => ?_, fun l q hl => ?_, fun l q hl => ?_, fun l hl => ?_, fun l hl => ?_, fun l hl => ?_,
    fun l hl => ?_, fun l hl => ?_, fun l n hl hn => ?_⟩
  · refine .of_settle (takeFrame (l + 2) true true) (fun τ s _ => by unfold exec; exact about_next hl) fun s0 s ⟨hup, hnone⟩ => ?_
    rw [takeFrame_of_linked hup hnone]
    exact ⟨by simp, fun k hk => by simp [hk], (modDie_frame s _ _).only_settle s0⟩
  · refine .of_settle (takeFrame (l + 2) atDie true) (fun τ s _ => by unfold exec; exact about_next hl) fun s0 s ⟨hup, hretrains⟩ => ?_
    obtain ⟨u, hframe, hnone, hlatched, hwindow, hothers, hevents⟩ := takeFrame_of_retraining (atDie := atDie) hup hretrains
    have hend := hevents.append (settle_frame s0 _)
    refine ⟨by rw [hend.die (by decide), hnone], by rw [hend.die (by decide), hlatched], ?_, fun k hk => by rw [hend.die (by decide), hothers k hk], ?_⟩
    · exact (congrArg Ledger.windowAt (hend .ledger (by decide))).trans hwindow
    · exact (hframe.append hevents).only_settle_of s0 (by decide)
  · refine .of_settle (takeFrame (l + 2) true false) (fun τ s _ => by unfold exec; exact about_next hl) fun s0 s hup => ?_
    have htaken : takeFrame (l + 2) true false s = s.modDie (l + 2) fun x => { x with crc := x.crc + 1, wantDie := true } := by
      simp [takeFrame, show linkUp s (l + 2) = true from hup]
    rw [htaken]
    exact ⟨by simp, (modDie_frame s _ _).only_settle s0⟩
  · refine .of_settle (takeFrame (l + 2) false false) (fun τ s _ => by unfold exec; exact about_next hl) fun s0 s hup => ?_
    have htaken : takeFrame (l + 2) false false s = s.modDie (l + 2) fun x => { x with crc := x.crc + 1, wantD0 := true } := by
      simp [takeFrame, show linkUp s (l + 2) = true from hup]
    rw [htaken]
    exact ⟨by simp, (modDie_frame s _ _).only_settle s0⟩
  · refine .of_settle (resend (l + 2) true) (fun τ s _ => by unfold exec; exact about_next hl) fun s0 s ⟨hasked, hup⟩ => ?_
    have hsent : resend (l + 2) true s = s.modDie (l + 2) fun x => { x with askDie := false, lastFrameAt := s.devtime, linked := true } := by
      simp [resend, hasked, hup]
    rw [hsent]
    exact ⟨by simp, by simp, (modDie_frame s _ _).only_settle s0⟩
  · refine .of_settle (resend (l + 2) true) (fun τ s _ => by unfold exec; exact about_next hl) fun s0 s hasked => ?_
    have hsent : resend (l + 2) true s = s := by simp [resend, show (s.die (l + 2)).askDie = false from hasked]
    rw [hsent]
    exact (SameExcept.refl [] s).only_settle s0
  · refine .of_settle (resend (l + 2) false) (fun τ s _ => by unfold exec; exact about_next hl) fun s0 s ⟨hasked, hup⟩ => ?_
    have hsent : resend (l + 2) false s = s.modDie (l + 2) fun x => { x with askD0 := false } := by simp [resend, hasked, hup]
    rw [hsent]
    exact ⟨by simp, (modDie_frame s _ _).only_settle s0⟩
  · refine .of_settle (sendHeartbeat (l + 2) false) (fun τ s _ => by unfold exec; exact about_next hl) fun s0 s hbeats => ?_
    have hsent : sendHeartbeat (l + 2) false s
        = s.modDie (l + 2) fun x => { x with seqD0 := (x.seqD0 + 1) % 256, wantD0 := false, askD0 := x.askD0 || x.wantD0 } := by
      simp [sendHeartbeat, show heartbeats s (l + 2) = true from hbeats]
    rw [hsent]
    exact ⟨by simp, by simp, by simp, by simp, fun k hk => by simp [hk], (modDie_frame s _ _).only_settle s0⟩
  · refine .of_settle (sendHeartbeat (l + 2) true) (fun τ s _ => by unfold exec; exact about_next hl) fun s0 s hup => ?_
    have hsent : sendHeartbeat (l + 2) true s
        = s.modDie (l + 2) fun x => { x with seqDie := (x.seqDie + 1) % 256, wantDie := false, askDie := x.askDie || x.wantDie } := by
      simp [sendHeartbeat, show linkUp s (l + 2) = true from hup]
    rw [hsent]
    exact ⟨by simp, by simp, by simp, by simp, fun k hk => by simp [hk], (modDie_frame s _ _).only_settle s0⟩
  · refine .of_settle (loseLane l n) (fun τ s _ => by unfold exec; exact (if_pos hn).trans (about_next hl)) fun s0 s hheld => ?_
    have hown : dieOfSource (4 + l) = none := by
      obtain rfl | rfl | rfl : l = 0 ∨ l = 1 ∨ l = 2 := by omega
      all_goals rfl
    have hframe := (modDie_frame s (l + 2) fun x => { x with lanesOut := x.lanesOut ++ [n] }).append (fault_frame_own hown n 0 2 0 _)
    rw [loseLane_of_held hheld]
    refine ⟨?_, ?_, hframe.only_settle_of s0 (by decide)⟩
    · rw [((fault_frame_own hown n 0 2 0 _).append (settle_frame s0 _)).die (by decide)]
      simp
    · exact ((raised_fault (4 + l) n 0 2 0 _).of_before (modDie_frame s _ _) (by decide)).settle s0

end Sys2Proof.Machine
end

section
/-! The ledger's audit and derating, and retained navigation data (R2, R45 to R48, R102, R104). -/

namespace Sys2Proof.Machine

/-! ## The audit (R46 to R48) -/

/-- What the audit leaves of a ledger whose elements all balance: elements, window and broken marks. -/
def AuditQuiet (s t : State) : Prop := SameExcept [.events, .faults, .ledger] s t ∧ t.ledger.els = s.ledger.els ∧ t.ledger.broken = s.ledger.broken

theorem AuditQuiet.refl (s : State) : AuditQuiet s s := ⟨.refl _ s, rfl, rfl⟩

theorem AuditQuiet.trans {s t u : State} (h : AuditQuiet s t) (k : AuditQuiet t u) : AuditQuiet s u :=
  ⟨h.1.trans k.1, k.2.1.trans h.2.1, k.2.2.trans h.2.2⟩

theorem AuditQuiet.foldl {α : Type} {f : State → α → State} (h : ∀ s a, AuditQuiet s (f s a)) (l : List α) (s : State) :
    AuditQuiet s (l.foldl f s) := by
  induction l generalizing s with
  | nil => exact .refl s
  | cons a l ih => exact (h s a).trans (ih _)

theorem AuditQuiet.ite {s t u : State} {p : Prop} [Decidable p] (h : AuditQuiet s t) (k : AuditQuiet s u) : AuditQuiet s (if p then t else u) := by
  split
  · exact h
  · exact k

/-- R47: drift is reported, and a skipped window counted; no element changes. -/
theorem compareDrift_quiet (us : Nat) (meas : AuditMeas) (s : State) (k : Nat) : AuditQuiet s (compareDrift us meas s k) := by
  have hfault : ∀ ctx, AuditQuiet s (fault 14 (elementNo k) 0 2 ctx s) := fun ctx =>
    have hframe := fault_frame_own (n := 14) rfl (elementNo k) 0 2 ctx s
    ⟨hframe.mono (by decide), congrArg Ledger.els (hframe .ledger (by decide)), congrArg Ledger.broken (hframe .ledger (by decide))⟩
  have hskip : ∀ f, (∀ l, (f l).els = l.els ∧ (f l).broken = l.broken) → AuditQuiet s (s.modLedger f) := fun f hf =>
    ⟨(modLedger_frame s f).mono (by decide), (hf s.ledger).1, (hf s.ledger).2⟩
  unfold compareDrift
  split
  · exact .refl s
  · split
    · exact hskip _ fun _ => ⟨rfl, rfl⟩
    · simp only
      split
      · exact .refl s
      · exact .ite (.refl s) (hfault _)

theorem foldl_id {α : Type} {f : State → α → State} {l : List α} {s : State} (h : ∀ a ∈ l, f s a = s) : l.foldl f s = s := by
  induction l with
  | nil => rfl
  | cons a l ih => rw [List.foldl_cons, h a List.mem_cons_self, ih fun b hb => h b (List.mem_cons_of_mem a hb)]

theorem audit_of_balanced {meas : AuditMeas} {cs : Clamps} {s : State} (hkeys : ∀ k ∈ allKeys, balanced s k = true)
    (htokens : s.lead = true → tokensBalanced s = true) (hvents : ∀ c, c < 6 → ventBalanced s c = true) :
    ∃ ks, audit meas cs s = (allKeys.foldl (compareDrift (s.devtime - s.ledger.windowAt) meas) s).modLedger fun l =>
      { l with drawingUs := [], windowAt := s.devtime, windowSkips := ks } := by
  have hbalanced : (allKeys ++ [sysKey]).foldl (checkBalance cs) s = s := foldl_id fun k hk => by
    have hconserves : conserves s k = true := by
      by_cases hsys : k = sysKey
      · simp only [conserves, hsys, if_true, Bool.or_eq_true, Bool.not_eq_true']
        exact (Bool.eq_false_or_eq_true s.lead).symm.imp_right htokens
      · have hkey : k ∈ allKeys := by simpa [hsys] using hk
        simp only [conserves, hsys, if_false, hkeys k hkey]
    simp only [checkBalance, hconserves, Bool.true_or, if_true]
  have hvented : ∀ f : State → Nat → State, (∀ t c, ventBalanced t c = true → f t c = t) → (List.range 6).foldl f s = s := fun f hf =>
    foldl_id fun c hc => hf s c (hvents c (List.mem_range.mp hc))
  unfold audit
  simp only
  rw [hbalanced, hvented _ fun t c hc => if_pos hc]
  exact ⟨_, rfl⟩

theorem audit_quiet {meas : AuditMeas} {cs : Clamps} {s : State} (hkeys : ∀ k ∈ allKeys, balanced s k = true)
    (htokens : s.lead = true → tokensBalanced s = true) (hvents : ∀ c, c < 6 → ventBalanced s c = true) :
    ∃ t ks, AuditQuiet s t ∧ audit meas cs s = t.modLedger fun l => { l with drawingUs := [], windowAt := s.devtime, windowSkips := ks } :=
  let ⟨ks, haudit⟩ := audit_of_balanced (meas := meas) (cs := cs) hkeys htokens hvents
  ⟨_, ks, AuditQuiet.foldl (compareDrift_quiet (s.devtime - s.ledger.windowAt) meas) allKeys s, haudit⟩

/-! ## Derating (R2, R45) -/

theorem freeOf_pkgKey (s : State) : freeOf s pkgKey = s.ledger.packagePool + (ledgerEl s pkgKey).freeBelowPool := rfl

/-- Withholding alone: `now` credits of the package's FREE are withheld, `back` returned, `due` awaited (R45). -/
def withhold (derated : Bool) (now back due : Nat) (s : State) : State :=
  (modEl s pkgKey fun e => { e with freeBelowPool := e.freeBelowPool - now + back }).modLedger fun l =>
    { l with derated := derated, withheld := l.withheld + now - back, withholdDue := due }

theorem ledgerEl_withhold (derated : Bool) (now back due : Nat) (s : State) (k : Nat) : ledgerEl (withhold derated now back due s) k =
    if k = pkgKey then { ledgerEl s pkgKey with freeBelowPool := (ledgerEl s pkgKey).freeBelowPool - now + back } else ledgerEl s k :=
  ledgerEl_modEl s k pkgKey fun e => { e with freeBelowPool := e.freeBelowPool - now + back }

theorem freeOf_withhold (derated : Bool) (now back due : Nat) (s : State) :
    freeOf (withhold derated now back due s) pkgKey = freeOf s pkgKey - now + back := by
  rw [freeOf_pkgKey, freeOf_pkgKey, ledgerEl_withhold, if_pos rfl]
  change ((s.ledger.packagePool : Nat) : Int) + _ = _
  simp only
  omega

theorem withhold_frame (derated : Bool) (now back due : Nat) (s : State) : SameExcept [.ledger] s (withhold derated now back due s) :=
  (modEl_frame _ _ s).trans (modLedger_frame _ _)

theorem setPool_eq (derated : Bool) (want : Nat) (s : State) (hwant : (if derated then s.ledger.packagePool - deratedPool else 0) = want) :
    setPool s.ledger.packagePool derated s = withhold derated
      (min (want - (s.ledger.withheld + s.ledger.withholdDue)) (freeOf s pkgKey).toNat)
      (s.ledger.withheld + s.ledger.withholdDue - want - min (s.ledger.withheld + s.ledger.withholdDue - want) s.ledger.withholdDue)
      (s.ledger.withholdDue + (want - (s.ledger.withheld + s.ledger.withholdDue)
          - min (want - (s.ledger.withheld + s.ledger.withholdDue)) (freeOf s pkgKey).toNat)
        - min (s.ledger.withheld + s.ledger.withholdDue - want) s.ledger.withholdDue) s := by
  unfold setPool
  simp only
  rw [hwant]
  rfl

/-- R45: derating withholds what the pool has beyond 1400 credits, from FREE as far as it reaches. -/
theorem setPool_derate {s : State} (hheld : s.ledger.withheld = 0) (hdue : s.ledger.withholdDue = 0) :
    setPool s.ledger.packagePool true s = withhold true (min (s.ledger.packagePool - 1400) (freeOf s pkgKey).toNat) 0
      (s.ledger.packagePool - 1400 - min (s.ledger.packagePool - 1400) (freeOf s pkgKey).toNat) s := by
  have hwant : (if true then s.ledger.packagePool - deratedPool else 0) = s.ledger.packagePool - 1400 := by simp [deratedPool]
  generalize s.ledger.packagePool - 1400 = want at hwant ⊢
  rw [setPool_eq true want s hwant, hheld, hdue]
  simp

/-- R45: the end of derating gives back what was withheld. -/
theorem setPool_underate (s : State) : setPool s.ledger.packagePool false s = withhold false 0 s.ledger.withheld 0 s := by
  rw [setPool_eq false 0 s rfl]
  simp

/-- What a withholding leaves in the ledger under the fault that reports it (R2). -/
structure Withheld (derated : Bool) (now back due : Nat) (s t : State) : Prop where
  derated : t.ledger.derated = derated
  withheld : t.ledger.withheld = s.ledger.withheld + now - back
  due : t.ledger.withholdDue = due
  free : freeOf t pkgKey = freeOf s pkgKey - now + back
  others : ∀ k, k ≠ pkgKey → ledgerEl t k = ledgerEl s k
  raised : Raised 14 0 1 1 s t
  only : Only [.ledger] s t

theorem withheld_settle (derated : Bool) (now back due : Nat) (s0 s : State) :
    Withheld derated now back due s (settle s0 (fault 14 0 1 1 0 (withhold derated now back due s))) := by
  have hframe := withhold_frame derated now back due s
  have hend := (fault_frame_own (n := 14) rfl 0 1 1 0 (withhold derated now back due s)).append (settle_frame s0 _)
  have hledger : _ = (withhold derated now back due s).ledger := hend .ledger (by decide)
  have hel : ∀ k, ledgerEl (settle s0 (fault 14 0 1 1 0 (withhold derated now back due s))) k = ledgerEl (withhold derated now back due s) k :=
    fun k => by rw [ledgerEl, ledgerEl, hledger]
  refine ⟨congrArg Ledger.derated hledger, congrArg Ledger.withheld hledger, congrArg Ledger.withholdDue hledger, ?_,
    fun k hk => (hel k).trans ((ledgerEl_withhold derated now back due s k).trans (if_neg hk)), ?_, (hframe.append hend).mono (by decide)⟩
  · rw [← freeOf_withhold, freeOf_pkgKey, freeOf_pkgKey, hel, hledger]
  · exact ((raised_fault 14 0 1 1 0 _).of_before hframe (by decide)).settle s0

/-- Settles O25: a balanced ledger is left as it stands; derating is one move between FREE and what is withheld. -/
theorem auditAndDerating : Obligations.AuditAndDerating := by
  unfold Obligations.AuditAndDerating
  refine ⟨fun meas cs => ?_, fun dc hdc => ?_, fun dc hdc => ?_, fun dc hdc => ?_⟩
  · refine .of_settle (fun s => followLoops (if auditDue s then audit meas cs s else s))
      (fun τ s _ => by unfold exec execLedgerAudit atOut; exact at_next _ _ _)
      fun s0 s hpre => ?_
    obtain ⟨hdue, hkeys, htokens, hvents⟩ := hpre
    obtain ⟨u, ks, ⟨hframe, hels, hbroken⟩, haudit⟩ := audit_quiet (meas := meas) (cs := cs) hkeys htokens hvents
    rw [if_pos hdue, haudit]
    have hend := (followLoops_frame (u.modLedger fun l => { l with drawingUs := [], windowAt := s.devtime, windowSkips := ks })).append
      (settle_frame s0 _)
    have hledger := hend .ledger (by decide)
    have hall := (hframe.append (modLedger_frame u _)).append hend
    exact ⟨(congrArg Ledger.els hledger).trans hels, congrArg Ledger.drawingUs hledger, congrArg Ledger.windowAt hledger,
      (congrArg Ledger.broken hledger).trans hbroken, hall .vents (by decide), hall.mono (by decide)⟩
  · refine .of_settle (derate dc) (fun τ s _ => by unfold exec; exact at_next _ _ _) fun s0 s ⟨hvariant, hnot, hheld, hdue⟩ => ?_
    have hderate : derate dc s = fault 14 0 1 1 0 (setPool s.ledger.packagePool true s) := by simp [derate, hvariant, hnot, hdc]
    rw [hderate, setPool_derate hheld hdue]
    obtain ⟨hderated, hwithheld, hleft, hfree, hothers, hraised, honly⟩ := withheld_settle true
      (min (s.ledger.packagePool - 1400) (freeOf s pkgKey).toNat) 0
      (s.ledger.packagePool - 1400 - min (s.ledger.packagePool - 1400) (freeOf s pkgKey).toNat) s0 s
    rw [hheld] at hwithheld
    refine ⟨hderated, by rw [hwithheld, hleft]; omega, by rw [hwithheld]; omega, by rw [hfree, hwithheld]; omega, hothers, hraised, honly⟩
  · refine .of_settle (derate dc) (fun τ s _ => by unfold exec; exact at_next _ _ _) fun s0 s _ => ?_
    have hderate : derate dc s = s := by simp [derate, hdc]
    rw [hderate]
    exact (SameExcept.refl [] s).only_settle s0
  · refine .of_settle (underate dc) (fun τ s _ => by unfold exec; exact at_next _ _ _) fun s0 s hderated => ?_
    have hunderate : underate dc s = fault 14 0 1 1 0 (setPool s.ledger.packagePool false s) := by
      simp [underate, show s.ledger.derated = true from hderated, hdc]
    rw [hunderate, setPool_underate]
    obtain ⟨hnot, hwithheld, hdue, hfree, hothers, hraised, honly⟩ := withheld_settle false 0 s.ledger.withheld 0 s0 s
    exact ⟨hnot, by rw [hwithheld]; omega, hdue, by rw [hfree]; omega, hothers, hraised, honly⟩

end Sys2Proof.Machine
end

section
/-! Navigation's own rows: measurements, pages, corrections, solutions, retention (R66 to R88, R102 to R104). -/

namespace Sys2Proof.Machine

/-! ## When a row acts -/

theorem SameExcept.nav {bs : List Bank} {s t : State} (h : SameExcept bs s t) (hb : .nav ∉ bs) : t.nav = s.nav := h .nav hb

/-- R22: a row of a core that serves is done at once. -/
theorem byCore_of_serves {k : Nat} {self : Instr} {f : State → State} {s : State} (hserves : serves k s = true) : byCore k self f s = f s := by
  simp only [serves, Bool.and_eq_true, Bool.not_eq_true'] at hserves
  obtain ⟨⟨htaking, hcore⟩, hqueue⟩ := hserves
  simp only [byCore, htaking, hcore, hqueue, Bool.or_self, Bool.false_eq_true, if_false]

/-- A navigation row where navigation runs. -/
theorem Does.of_nav {c : Nat → Instr} {pre : State → Prop} {post : State → State → Prop} (f : State → State)
    (hexec : ∀ τ s, exec (c τ) s = atNav τ f s) (hruns : ∀ s, pre s → navRuns s = true)
    (hpost : ∀ s0 s, pre s → post s (settle s0 (f s))) : Does c pre post :=
  .of_settle f (fun τ s hpre => by rw [hexec, atNav, at_next, if_pos (hruns _ hpre)]) hpost

/-- A navigation row of a core that serves. -/
theorem Does.of_navCore {c : Nat → Instr} {k : Nat} {self : Nat → Instr} {pre : State → Prop} {post : State → State → Prop} (f : State → State)
    (hexec : ∀ τ s, exec (c τ) s = atNav τ (byCore k (self τ) f) s) (hserves : ∀ s, pre s → serves k s = true ∧ navRuns s = true)
    (hpost : ∀ s0 s, pre s → post s (settle s0 (f s))) : Does c pre post :=
  .of_settle f (fun τ s hpre => by
    obtain ⟨hcore, hruns⟩ := hserves _ hpre
    rw [hexec, atNav, at_next, if_pos hruns, byCore_of_serves hcore]) hpost

theorem follower_of_navRuns {s : State} (h : navRuns s = true) : s.follower = false := by
  simp only [navRuns, Bool.and_eq_true, Bool.not_eq_true'] at h
  exact h.1.2

theorem follower_of_tracking {s : State} (h : tracking s = true) : s.follower = false := by
  simp only [tracking, Bool.or_eq_true, Bool.and_eq_true, Bool.not_eq_true'] at h
  exact h.elim follower_of_navRuns And.right

/-! ## Retention (R102, R104) -/

theorem bitAt_six_warm (w : Nat) : bitAt (if bitAt w 6 then w else w + 64) 6 = true := by
  unfold bitAt
  split
  case isTrue h => exact h
  case isFalse h =>
    simp only [beq_iff_eq] at h ⊢
    omega

theorem loadNav_frame (s : State) : SameExcept [.nav] s (loadNav s) := by
  unfold loadNav
  split
  · exact .refl _ s
  · exact modNav_frame s _

/-- R102: what navigation takes up is what retention kept. -/
theorem loadNav_nav {s t : State} (h : t.nav = s.nav) : (loadNav t).nav = (loadNav s).nav := by
  unfold loadNav
  rw [h]
  cases keptNav s.nav with
  | none => exact h
  | some k =>
    change _ = (s.modNav _).nav
    simp [h]

/-- R104: the alarm of keep-warm in PARK begins a refresh. -/
theorem warm_of_due {s : State} (hpark : s.power.state = .park) (hkeeps : s.cfg.nav.keepWarm = true)
    (hdue : s.power.warmFrom + 60000000 * s.cfg.nav.keepWarmMin ≤ s.devtime) : warm s = loadNav (s.modPower fun p =>
      { p with state := .refresh, refreshEnd := some (s.devtime + 20000000), warmFrom := s.devtime, corePwrEn := true, tcxoEn := true,
               pll := 2, wakeBits := if bitAt p.wakeBits 6 then p.wakeBits else p.wakeBits + 64 }) := by
  simp [warm, hpark, hkeeps, hdue]

/-- R104: a refresh that has lasted ends in PARK, with what it brought kept. -/
theorem endRefresh_of_due {e : Nat} {s : State} (hrefresh : s.power.state = .refresh) (hend : s.power.refreshEnd = some e) (hdue : e ≤ s.devtime) :
    endRefresh s = ((trimNow (saveNav s)).modPower fun p =>
      { p with state := .park, refreshEnd := none, refreshed := true, corePwrEn := false, tcxoEn := false, pll := 0 }).modNav navAfterReset := by
  simp [endRefresh, hrefresh, hend, elapsed, hdue]

theorem trimNow_frame (s : State) : SameExcept [.power] s (trimNow s) := modPower_frame s _

/-- Settles O29: a save keeps what navigation holds; a refresh begins and ends in PARK. -/
theorem retentionAndRefresh : Obligations.RetentionAndRefresh := by
  unfold Obligations.RetentionAndRefresh
  refine ⟨?_, ?_, ?_, fun e => ?_⟩
  · refine .of_nav (fun s => if s.nav.retentionAt + 600000000 ≤ s.devtime then saveNav s else s) (fun τ s => by unfold exec; rfl)
      (fun s hpre => hpre.1) fun s0 s ⟨_, hdue⟩ => ?_
    rw [if_pos hdue]
    exact ⟨(settle_frame s0 _).nav (by decide), (modNav_frame s _).only_settle s0⟩
  · refine .of_settle (fun s => if navRuns s then (if s.nav.retentionAt + 600000000 ≤ s.devtime then saveNav s else s) else s)
      (fun τ s _ => by unfold exec; exact at_next _ _ _) fun s0 s hearly => ?_
    have hnot : ¬s.nav.retentionAt + 600000000 ≤ s.devtime := Nat.not_le.mpr hearly
    simp only [hnot, if_false, ite_self]
    exact (SameExcept.refl [] s).only_settle s0
  · refine .of_settle warm (fun τ s _ => by unfold exec; exact at_next _ _ _) fun s0 s ⟨hpark, hkeeps, hdue⟩ => ?_
    rw [warm_of_due hpark hkeeps hdue]
    have hloaded := (loadNav_frame (s.modPower fun p =>
      { p with state := .refresh, refreshEnd := some (s.devtime + 20000000), warmFrom := s.devtime, corePwrEn := true, tcxoEn := true,
               pll := 2, wakeBits := if bitAt p.wakeBits 6 then p.wakeBits else p.wakeBits + 64 })).append (settle_frame s0 _)
    have hpower := hloaded.power (by decide)
    refine ⟨congrArg PowerSt.state hpower, congrArg PowerSt.refreshEnd hpower, congrArg PowerSt.corePwrEn hpower, congrArg PowerSt.warmFrom hpower,
      ?_, ?_, ((modPower_frame s _).append hloaded).mono (by decide)⟩
    · rw [congrArg PowerSt.wakeBits hpower]
      exact bitAt_six_warm s.power.wakeBits
    · exact ((settle_frame s0 _).nav (by decide)).trans (loadNav_nav rfl)
  · refine .of_settle endRefresh (fun τ s _ => by unfold exec; exact at_next _ _ _) fun s0 s ⟨hrefresh, hend, hdue⟩ => ?_
    rw [endRefresh_of_due hrefresh hend hdue]
    have hpower := ((modNav_frame ((trimNow (saveNav s)).modPower fun p =>
      { p with state := .park, refreshEnd := none, refreshed := true, corePwrEn := false, tcxoEn := false, pll := 0 }) navAfterReset).append
        (settle_frame s0 _)).power (by decide)
    refine ⟨congrArg PowerSt.state hpower, congrArg PowerSt.refreshEnd hpower, congrArg PowerSt.corePwrEn hpower, congrArg PowerSt.refreshed hpower,
      (settle_frame s0 _).nav (by decide), ?_⟩
    exact ((((modNav_frame s _).append (trimNow_frame _)).append (modPower_frame _ _)).append (modNav_frame _ _)).only_settle_of s0 (by decide)

end Sys2Proof.Machine
end

section
/-! Corrections and position solutions (R77 to R84, R88). -/

namespace Sys2Proof.Machine

/-! ## The fix type (source 32, R80, R493) -/

theorem setFix_nav (fix : Nat) (s : State) : (setFix fix s).nav =
    if s.nav.fix = fix then s.nav else { s.nav with fix := fix, drSince := if fix = 5 then some s.devtime else none } := by
  unfold setFix
  split
  · rfl
  · have hedge : (edge 32 fix 0 (s.modNav fun n => { n with fix := fix, drSince := if fix = 5 then some s.devtime else none })).nav
        = { s.nav with fix := fix, drSince := if fix = 5 then some s.devtime else none } := (edge_frame_own rfl).nav (by decide)
    simp only
    split
    · exact ((offerOne_frame _ _ _ _).nav (by decide)).trans hedge
    · exact hedge

/-- What a change of the fix type touches. -/
theorem setFix_frame (fix : Nat) (s : State) : SameExcept [.nav, .events, .recorder] s (setFix fix s) := by
  have hedge : SameExcept [.nav, .events] s (edge 32 fix 0 (s.modNav fun n => { n with fix := fix, drSince := if fix = 5 then some s.devtime else none })) :=
    (modNav_frame s _).append (edge_frame_own rfl)
  unfold setFix
  simp only
  split
  · exact .refl _ s
  · split
    · exact hedge.append (offerOne_frame _ _ _ _)
    · exact hedge.mono (by decide)

theorem setFix_asserted {fix : Nat} {s : State} (hnew : s.nav.fix ≠ fix) : Asserted 32 s (setFix fix s) := by
  have hedge : Asserted 32 s (edge 32 fix 0 (s.modNav fun n => { n with fix := fix, drSince := if fix = 5 then some s.devtime else none })) :=
    edge_asserted (n := 32) rfl fix 0 (s.modNav _)
  unfold setFix
  rw [if_neg hnew]
  simp only
  split
  · exact hedge.kept (EventsGrow.of_events ((offerOne_frame _ _ _ _) .events (by decide))).kept
  · exact hedge

theorem setFix_activeKept (fix : Nat) (s : State) : ActiveKept s (setFix fix s) := by
  have hedge : ∀ f, ActiveKept s (edge 32 fix 0 (s.modNav f)) := fun f =>
    have hset : ActiveKept s (s.modNav f) := .of_events rfl
    hset.trans (edge_activeKept (n := 32) rfl)
  unfold setFix
  simp only
  split
  · exact .refl s
  · split
    · exact (hedge _).trans (.of_events ((offerOne_frame _ _ _ _) .events (by decide)))
    · exact hedge _

/-! ## Level sources that the end of a step leaves alone -/

/-- A source that is neither a reply ring's nor a receive buffer's. -/
def steadySource (k : Nat) : Bool := !(decide (16 ≤ k) && decide (k < 20)) && !(decide (228 ≤ k) && decide (k < 232))

theorem settle_active {k : Nat} (hk : steadySource k = true) (s0 s : State) : ((settle s0 s).src k).active = (s.src k).active := by
  simp only [steadySource, Bool.and_eq_true, Bool.not_eq_true', Bool.and_eq_false_iff, decide_eq_false_iff_not] at hk
  have hring : ¬∃ n ∈ [0, 1, 2, 3], k = 16 + n := by
    simp only [List.mem_cons, List.not_mem_nil, or_false, exists_eq_or_imp, exists_eq_left]
    omega
  have hgate : ¬∃ n ∈ [0, 1, 2, 3], k = 228 + n := by
    simp only [List.mem_cons, List.not_mem_nil, or_false, exists_eq_or_imp, exists_eq_left]
    omega
  have hrings : ∀ t : State, ((ringLevels t).src k).active = (t.src k).active := fun t => by
    cases hruns : t.events.stopped
    · rw [ringLevels_active hruns, if_neg hring]
    · simp only [ringLevels, hruns, if_true]
  have hgates : ∀ t : State, ((gatewayLevels t).src k).active = (t.src k).active := fun t => by
    cases hruns : t.events.stopped
    · rw [gatewayLevels_active hruns, if_neg hgate]
    · simp only [gatewayLevels, hruns, if_true]
  have hwatch : (tokenWatch (controlChange s)).events = s.events :=
    (tokenWatch_frame _ .events (by decide)).trans (controlChange_frame s .events (by decide))
  have hclosed : ((closeCleared (tokenWatch (controlChange s))).src k).active = (s.src k).active := by
    rw [(closeCleared_activeKept _).active, State.src, hwatch]
    rfl
  have hsettled : ((settle s0 s).src k).active = ((isobusRecords (levelsFollow s)).src k).active := by
    rw [State.src, settle_events, State.src]
  rw [hsettled, (isobusRecords_activeKept _).active, levelsFollow, (signals_activeKept _).active, hgates, hrings, hclosed]

/-! ## Correction frames (R77 to R79, R82) -/

/-- R77: the stream of a frame's source keeps what no frame has taken. -/
def keepStream (f : RtcmFrame) (rest : List Byte) (s : State) : State :=
  s.modNav fun n => if f.uart0 then { n with uartStream := rest } else { n with rtcmStream := rest }

theorem keepStream_nav (f : RtcmFrame) (rest : List Byte) (s : State) :
    (keepStream f rest s).nav = if f.uart0 then { s.nav with uartStream := rest } else { s.nav with rtcmStream := rest } := rfl

theorem takeRtcm_of_frame {f : RtcmFrame} {p r : List Byte} {ok : Bool} {s : State} (hsource : f.uart0 = s.cfg.nav.rtcmUart0)
    (hnext : rtcmNext (rtcmInput f s) = some (p, ok, r)) : takeRtcm f s = if ok then useRtcm p f.epochUs (keepStream f r s)
      else (keepStream f r s).modNav fun n => { n with rtcmCrc := (n.rtcmCrc + 1) % 4294967296 } := by
  have hsame : (f.uart0 != s.cfg.nav.rtcmUart0) = false := by simp [hsource]
  simp only [takeRtcm, hsame, Bool.false_eq_true, if_false, hnext]
  rfl

/-- R77: taking a frame out of its stream changes neither what was decoded before nor the fix. -/
theorem keepStream_keeps (f : RtcmFrame) (r : List Byte) (s : State) : (keepStream f r s).nav.corrAt = s.nav.corrAt
    ∧ (keepStream f r s).nav.arp = s.nav.arp ∧ (keepStream f r s).nav.fix = s.nav.fix ∧ (keepStream f r s).nav.rtkNone = s.nav.rtkNone
    ∧ (keepStream f r s).nav.rtcmIgnored = s.nav.rtcmIgnored ∧ (keepStream f r s).nav.rtcmCrc = s.nav.rtcmCrc := by
  rw [keepStream_nav]
  split <;> exact ⟨rfl, rfl, rfl, rfl, rfl, rfl⟩

theorem keepStream_frame (f : RtcmFrame) (r : List Byte) (s : State) : SameExcept [.nav] s (keepStream f r s) := modNav_frame s _

/-- R82: the reference point that a moved base gives. -/
theorem takeArp_of_moved {p q : Int × Int × Int} {s : State} (harp : s.nav.arp = some q) (hmoved : baseMoved q p = true) :
    ∃ t, SameExcept [.nav, .events, .faults] s t ∧ t.nav = { s.nav with arp := some p, solFix := 3, badEpochs := 0 }
      ∧ Raised 44 0 0 1 s t ∧ takeArp p s = if t.nav.fix = 4 then setFix 3 t else t := by
  have hfault := fault_frame_own (n := 44) rfl 0 0 1 0
    ((s.modNav fun n => { n with arp := some p }).modNav fun n => { n with solFix := 3, badEpochs := 0 })
  have hset := (modNav_frame s fun n => { n with arp := some p }).trans (modNav_frame _ fun n => { n with solFix := 3, badEpochs := 0 })
  refine ⟨_, (hset.append hfault).mono (by decide), hfault.nav (by decide), (raised_fault 44 0 0 1 0 _).of_before hset (by decide), ?_⟩
  simp only [takeArp, harp, hmoved, Bool.not_true, Bool.false_eq_true, if_false]

theorem takeMsm_frame (e : Nat) (s : State) : SameExcept [.nav, .events] s (takeMsm e s) ∧ (takeMsm e s).nav = { s.nav with corrAt := some e, rtkNone := false } := by
  have hset := modNav_frame s fun n => { n with corrAt := some e, rtkNone := false }
  unfold takeMsm
  simp only
  split
  · exact ⟨hset.append (setLevel_frame _ _ _ _), (setLevel_frame _ _ _ _).nav (by decide)⟩
  · exact ⟨hset.mono (by decide), rfl⟩

/-- R79: corrections older than the limit end RTK. -/
theorem ageOut_of_due {e : Nat} {s : State} (hnone : s.nav.rtkNone = false) (hcorr : s.nav.corrAt = some e)
    (hold : e + 100000 * s.cfg.nav.ageLimitDs < s.devtime) (hfix : s.nav.fix = 3 ∨ s.nav.fix = 4) :
    ∃ u, SameExcept [.nav, .events] s u ∧ u.nav = { s.nav with rtkNone := true, badEpochs := 0, solFix := if s.nav.sol.any (·.sbas) then 2 else 1 }
      ∧ (u.src 45).active = true ∧ ageOut s = setFix (if s.nav.sol.any (·.sbas) then 2 else 1) u := by
  have hset := modNav_frame s fun n => { n with rtkNone := true, badEpochs := 0 }
  have hlevel := setLevel_frame 45 0 true (s.modNav fun n => { n with rtkNone := true, badEpochs := 0 })
  have hnav := hlevel.nav (by decide)
  have hactive := setLevel_active 45 0 true (s.modNav fun n => { n with rtkNone := true, badEpochs := 0 }) 45
  have hage : ageOut s = setFix (if s.nav.sol.any (·.sbas) then 2 else 1)
      ((setLevel 45 0 true (s.modNav fun n => { n with rtkNone := true, badEpochs := 0 })).modNav fun n =>
        { n with solFix := if s.nav.sol.any (·.sbas) then 2 else 1 }) := by
    simp [ageOut, hnone, hcorr, hold, hnav, hfix]
  refine ⟨_, (hset.append hlevel).trans ((modNav_frame _ _).mono (by decide)) |>.mono (by decide), ?_, ?_, hage⟩
  · simp [hnav]
  · simpa using hactive

/-- R80, R88: what a solution sets before the fix type follows and it is reported. -/
theorem takeSolution_of_usable {sol : RtkSolution} {s : State} (hhost : sol.galileo.all (usable s 1) = true) :
    ∃ u, SameExcept [.nav] s u ∧ u.nav.sol = some sol ∧ u.nav.badEpochs = (solutionFix s sol).2 ∧ u.nav.lastSolAt = some s.devtime
      ∧ u.nav.nsv = sol.nsv ∧ u.nav.e = s.nav.e ∧ u.nav.fix = s.nav.fix
      ∧ SameExcept [.courses, .events] (setFix (solutionFix s sol).1 u) (takeSolution sol s) := by
  have hset : ∀ f, SameExcept [.nav] s (((noteReturn sol s).modNav f).modNav fun n => { n with osnmaAuth := osnmaAll n }) := fun f =>
    ((modNav_frame s _).trans (modNav_frame _ f)).trans (modNav_frame _ _)
  have hreported : ∀ (p : Prop) [Decidable p] (v : State) bs, SameExcept [.courses, .events] v (if p then notify 1 33538 bs v else v) :=
    fun p _ v bs => .ite (notify_frame _ _ _ v) (.refl _ v)
  unfold takeSolution
  simp only [hhost, Bool.not_true, Bool.false_eq_true, if_false]
  exact ⟨_, hset _, rfl, rfl, rfl, rfl, rfl, rfl, hreported _ _ _⟩

/-! ## The statement -/

/-- Settles O27: a frame, an age, a solution and a baseline each set what they bring; the fix type follows in one place. -/
theorem corrections : Obligations.Corrections := by
  unfold Obligations.Corrections
  refine ⟨fun f => ?_, fun f p r => ?_, fun f p r hunused => ?_, fun f p r hused hother => ?_, fun f p r hdescriptors => ?_,
    fun f p r q harp => ?_, fun e => ?_, fun sol => ?_, ?_, fun v f g hlevel => ?_, ?_⟩
  · refine .of_nav (takeRtcm f) (fun τ s => by unfold exec; rfl) (fun s hpre => hpre.1) fun s0 s ⟨_, hother⟩ => ?_
    have hwrong : (f.uart0 != s.cfg.nav.rtcmUart0) = true := by simpa using hother
    have htaken : takeRtcm f s = s.modNav fun n => { n with rtcmWrongSource := (n.rtcmWrongSource + f.bytes.length) % 4294967296 } := by
      simp only [takeRtcm, hwrong, if_true]
    rw [htaken]
    have hnav := (settle_frame s0 (s.modNav fun n => { n with rtcmWrongSource := (n.rtcmWrongSource + f.bytes.length) % 4294967296 })).nav (by decide)
    rw [hnav]
    exact ⟨rfl, rfl, (modNav_frame s _).only_settle s0⟩
  · refine .of_nav (takeRtcm f) (fun τ s => by unfold exec; rfl) (fun s hpre => hpre.1) fun s0 s ⟨_, hsource, hnext⟩ => ?_
    obtain ⟨hcorr, -, -, -, -, hcrc⟩ := keepStream_keeps f r s
    rw [takeRtcm_of_frame hsource hnext, if_neg Bool.false_ne_true]
    have hnav := (settle_frame s0 ((keepStream f r s).modNav fun n => { n with rtcmCrc := (n.rtcmCrc + 1) % 4294967296 })).nav (by decide)
    rw [hnav, ← hcorr, ← hcrc]
    exact ⟨rfl, rfl, ((keepStream_frame f r s).trans (modNav_frame _ _)).only_settle s0⟩
  · refine .of_nav (takeRtcm f) (fun τ s => by unfold exec; rfl) (fun s hpre => hpre.1) fun s0 s ⟨_, hsource, hnext⟩ => ?_
    obtain ⟨hcorr, -, -, -, hignored, -⟩ := keepStream_keeps f r s
    have hcounted : useRtcm p f.epochUs (keepStream f r s)
        = (keepStream f r s).modNav fun n => { n with rtcmIgnored := (n.rtcmIgnored + 1) % 4294967296 } := by
      have hcontains : rtcmUsed.contains (rtcmMsg p) = false := by simpa using hunused
      simp only [useRtcm, hcontains, Bool.not_false, if_true]
    rw [takeRtcm_of_frame hsource hnext, if_pos rfl, hcounted]
    have hnav := (settle_frame s0 ((keepStream f r s).modNav fun n => { n with rtcmIgnored := (n.rtcmIgnored + 1) % 4294967296 })).nav (by decide)
    rw [hnav, ← hcorr, ← hignored]
    exact ⟨rfl, rfl, ((keepStream_frame f r s).trans (modNav_frame _ _)).only_settle s0⟩
  · refine .of_nav (takeRtcm f) (fun τ s => by unfold exec; rfl) (fun s hpre => hpre.1) fun s0 s ⟨_, hsource, hnext⟩ => ?_
    obtain ⟨-, harp, -, -, -, -⟩ := keepStream_keeps f r s
    have hmsm : useRtcm p f.epochUs (keepStream f r s) = takeMsm f.epochUs (keepStream f r s) := by
      simp only [List.mem_cons, List.not_mem_nil, or_false, not_or] at hother
      obtain ⟨h5, h6, h33⟩ := hother
      simp [useRtcm, hused, h5, h6, h33]
    rw [takeRtcm_of_frame hsource hnext, if_pos rfl, hmsm]
    obtain ⟨hframe, hset⟩ := takeMsm_frame f.epochUs (keepStream f r s)
    have hnav := (settle_frame s0 (takeMsm f.epochUs (keepStream f r s))).nav (by decide)
    rw [hnav, hset, ← harp]
    exact ⟨rfl, rfl, rfl, ((keepStream_frame f r s).append hframe).only_settle_of s0 (by decide)⟩
  · refine .of_nav (takeRtcm f) (fun τ s => by unfold exec; rfl) (fun s hpre => hpre.1) fun s0 s ⟨_, hsource, hnext⟩ => ?_
    obtain ⟨hcorr, -, -, -, -, -⟩ := keepStream_keeps f r s
    have hkept : useRtcm p f.epochUs (keepStream f r s) = (keepStream f r s).modNav fun n => { n with descriptors := p } := by
      simp [useRtcm, hdescriptors, rtcmUsed]
    rw [takeRtcm_of_frame hsource hnext, if_pos rfl, hkept]
    have hnav := (settle_frame s0 ((keepStream f r s).modNav fun n => { n with descriptors := p })).nav (by decide)
    rw [hnav, ← hcorr]
    exact ⟨rfl, rfl, ((keepStream_frame f r s).trans (modNav_frame _ _)).only_settle s0⟩
  · refine .of_nav (takeRtcm f) (fun τ s => by unfold exec; rfl) (fun s hpre => hpre.1) fun s0 s ⟨_, hsource, hnext, hold, hmoved⟩ => ?_
    obtain ⟨-, hkeptArp, hkeptFix, -⟩ := keepStream_keeps f r s
    obtain ⟨u, hframe, hnav, hraised, htaken⟩ := takeArp_of_moved (s := keepStream f r s) (hkeptArp.trans hold) hmoved
    have huse : useRtcm p f.epochUs (keepStream f r s) = takeArp (rtcmArp p) (keepStream f r s) := by
      simp only [List.mem_cons, List.not_mem_nil, or_false] at harp
      obtain h | h := harp <;> simp [useRtcm, h, rtcmUsed]
    rw [takeRtcm_of_frame hsource hnext, if_pos rfl, huse, htaken]
    have hfix : u.nav.fix = s.nav.fix := by rw [hnav]; exact hkeptFix
    have hfixed : SameExcept [.nav, .events, .recorder] u (if u.nav.fix = 4 then setFix 3 u else u) :=
      .ite (setFix_frame 3 u) (.refl _ u)
    have hraised' := (hraised.of_before (keepStream_frame f r s) (by decide)).unchanged hfixed (by decide)
    have hend := (settle_frame s0 (if u.nav.fix = 4 then setFix 3 u else u)).nav (by decide)
    rw [hend]
    refine ⟨?_, fun h4 => ?_, fun h4 => ?_, hraised'.settle s0,
      (((keepStream_frame f r s).append hframe).append hfixed).only_settle_of s0 (by decide)⟩
    · split
      · rw [setFix_nav]
        split <;> simp [hnav]
      · simp [hnav]
    · rw [if_pos (hfix.trans h4), setFix_nav]
      split
      case isTrue h3 => exact h3
      case isFalse => rfl
    · rw [if_neg fun h => h4 (hfix.symm.trans h), hfix]
  · refine .of_nav ageOut (fun τ s => by unfold exec; rfl) (fun s hpre => hpre.1) fun s0 s ⟨_, hnone, hcorr, hold, hfix⟩ => ?_
    obtain ⟨u, hframe, hnav, hactive, hage⟩ := ageOut_of_due hnone hcorr hold hfix
    generalize (if s.nav.sol.any (·.sbas) then 2 else 1) = fix at hnav hage ⊢
    rw [hage]
    have hend := (settle_frame s0 (setFix fix u)).nav (by decide)
    rw [hend, setFix_nav, settle_active rfl, (setFix_activeKept _ u).active]
    refine ⟨?_, ?_, hactive, (hframe.append (setFix_frame _ u)).only_settle_of s0 (by decide)⟩
    · have hlimit : u.nav.rtkNone = true := by rw [hnav]
      split
      · exact hlimit
      · exact hlimit
    · split
      case isTrue h => exact h
      case isFalse => rfl
  · refine .of_navCore (takeSolution sol) (k := 2) (fun τ s => by unfold exec; rfl) (fun s hpre => ⟨hpre.1, hpre.2.1⟩) fun s0 s ⟨_, hruns, husable⟩ => ?_
    obtain ⟨u, hframe, hsol, hbad, hlast, hnsv, he, hfix, hreported⟩ := takeSolution_of_usable husable
    have hend := (hreported.append (settle_frame s0 _)).nav (by decide)
    have hkept : ∀ {α : Type} (g : NavSt → α), (∀ (n : NavSt) x d, g { n with fix := x, drSince := d } = g n) →
        g (settle s0 (takeSolution sol s)).nav = g u.nav := fun g hg => by
      rw [hend, setFix_nav]
      split
      · rfl
      · exact hg _ _ _
    refine ⟨(hkept (·.sol) fun _ _ _ => rfl).trans hsol, ?_, (hkept (·.badEpochs) fun _ _ _ => rfl).trans hbad,
      (hkept (·.lastSolAt) fun _ _ _ => rfl).trans hlast, (hkept (·.nsv) fun _ _ _ => rfl).trans hnsv,
      (hkept (·.e) fun _ _ _ => rfl).trans he, ?_⟩
    · rw [hend, setFix_nav]
      split
      case isTrue h => exact h
      case isFalse => rfl
    · exact ((hframe.append (setFix_frame _ u)).append hreported).only_settle_of s0 (by decide)
  · refine .of_nav (fun s => if s.nav.fix != 0 && s.nav.fix != 5 && elapsed s s.nav.lastSolAt 200000 then
        setFix 5 (s.modNav fun n => { n with solFix := 5, badEpochs := 0 }) else s) (fun τ s => by unfold exec; rfl) (fun s hpre => hpre.1)
      fun s0 s ⟨_, hzero, hfive, helapsed⟩ => ?_
    have hdue : (s.nav.fix != 0 && s.nav.fix != 5 && elapsed s s.nav.lastSolAt 200000) = true := by simp [hzero, hfive, helapsed]
    rw [if_pos hdue]
    have hset := modNav_frame s fun n => { n with solFix := 5, badEpochs := 0 }
    have hnew : (s.modNav fun n => { n with solFix := 5, badEpochs := 0 }).nav.fix ≠ 5 := hfive
    have hend := (settle_frame s0 (setFix 5 (s.modNav fun n => { n with solFix := 5, badEpochs := 0 }))).nav (by decide)
    rw [hend, setFix_nav, if_neg hnew]
    refine ⟨rfl, rfl, rfl, ?_, (hset.append (setFix_frame _ _)).only_settle_of s0 (by decide)⟩
    exact (setFix_asserted hnew).kept (settle_kept s0 _)
  · refine .of_navCore (takeBaseline v f g) (k := 2) (fun τ s => by unfold exec; rfl) (fun s hpre => ⟨hpre.1, hpre.2.1⟩) fun s0 s ⟨_, _, husable⟩ => ?_
    have hhorizontal : (v.1 != 0 || v.2.1 != 0) = true := by simpa using hlevel
    have hend := (settle_frame s0 (takeBaseline v f g s)).nav (by decide)
    simp only [takeBaseline, husable, Bool.not_true, Bool.false_eq_true, if_false] at hend ⊢
    rw [hend]
    refine ⟨rfl, ?_, ?_, fun hbad => ?_, fun hgood => ?_, (modNav_frame s _).only_settle s0⟩
    · exact if_pos hhorizontal
    · simp [hhorizontal]
    · exact if_pos hbad
    · exact if_neg (Nat.not_lt.mpr hgood)
  · refine .of_nav (fun s => if !s.nav.baseMark && elapsed s s.nav.baseBadSince 1000000 then
        fault 44 0 1 2 0 (s.modNav fun n => { n with baseMark := true, headingValid := false }) else s) (fun τ s => by unfold exec; rfl)
      (fun s hpre => hpre.1) fun s0 s ⟨_, hmark, helapsed⟩ => ?_
    have hdue : (!s.nav.baseMark && elapsed s s.nav.baseBadSince 1000000) = true := by simp [hmark, helapsed]
    rw [if_pos hdue]
    have hset := modNav_frame s fun n => { n with baseMark := true, headingValid := false }
    have hfault := fault_frame_own (n := 44) rfl 0 1 2 0 (s.modNav fun n => { n with baseMark := true, headingValid := false })
    have hnav := (hfault.append (settle_frame s0 _)).nav (by decide)
    rw [hnav]
    exact ⟨rfl, rfl, ((raised_fault 44 0 1 2 0 _).of_before hset (by decide)).settle s0, (hset.append hfault).only_settle_of s0 (by decide)⟩

end Sys2Proof.Machine
end

section
/-! Measurement channels, interference, navigation pages and antennas (R66 to R76, R87). -/

namespace Sys2Proof.Machine

/-! ## Measurements (R67, R87, R98) -/

/-- A step of navigation that keeps channels, delays, position and fix. -/
def ChannelsStand (s t : State) : Prop := SameExcept [.nav, .courses, .events] s t ∧ t.nav.channels = s.nav.channels
  ∧ t.nav.delayNs = s.nav.delayNs ∧ t.nav.e = s.nav.e ∧ t.nav.fix = s.nav.fix

theorem ChannelsStand.refl (s : State) : ChannelsStand s s := ⟨.refl _ s, rfl, rfl, rfl, rfl⟩

theorem ChannelsStand.trans {s t u : State} (h : ChannelsStand s t) (k : ChannelsStand t u) : ChannelsStand s u := by
  obtain ⟨hframe, hchannels, hdelay, he, hfix⟩ := h
  obtain ⟨kframe, kchannels, kdelay, ke, kfix⟩ := k
  exact ⟨hframe.trans kframe, kchannels.trans hchannels, kdelay.trans hdelay, ke.trans he, kfix.trans hfix⟩

theorem ChannelsStand.ite {s t u : State} {p : Prop} [Decidable p] (h : ChannelsStand s t) (k : ChannelsStand s u) :
    ChannelsStand s (if p then t else u) := by
  split
  · exact h
  · exact k

theorem ChannelsStand.of_frame {bs : List Bank} {s t : State} (h : SameExcept bs s t) (hb : ∀ b ∈ bs, b = .courses ∨ b = .events) :
    ChannelsStand s t := by
  have hnav : .nav ∉ bs := fun hmem => by simpa using hb _ hmem
  rw [ChannelsStand, h.nav hnav]
  exact ⟨h.mono fun b hmem => by obtain rfl | rfl := hb b hmem <;> decide, rfl, rfl, rfl, rfl⟩

theorem modNav_stands (s : State) (f : NavSt → NavSt) (hf : ∀ n, (f n).channels = n.channels ∧ (f n).delayNs = n.delayNs ∧ (f n).e = n.e
    ∧ (f n).fix = n.fix) : ChannelsStand s (s.modNav f) := ⟨(modNav_frame s f).mono (by decide), hf s.nav⟩

theorem antennaBack_stands (a : Nat) (s : State) : ChannelsStand s (antennaBack a s) := by
  have hset := modNav_stands s (fun n => { n with antLost := if a = 0 then (false, n.antLost.2) else (n.antLost.1, false) })
    fun _ => ⟨rfl, rfl, rfl, rfl⟩
  exact hset.trans (.of_frame (setLevel_frame _ _ _ _) (by decide))

theorem setQuality_stands (q : Nat) (s : State) : ChannelsStand s (setQuality q s) := by
  have hset := modNav_stands s (fun n => { n with quality := q, everLocked := n.everLocked || q == 1 }) fun _ => ⟨rfl, rfl, rfl, rfl⟩
  exact .ite (.refl s) ((hset.trans (.of_frame (notify_frame _ _ _ _) (by decide))).trans (.of_frame (edge_frame_own rfl) (by decide)))

theorem exec_measurementEpoch (τ : Nat) (meas : List ChannelMeas) (sats : List (Nat × Nat)) (s : State) :
    exec (.measurementEpoch τ meas sats) s = execMeasurementEpoch τ meas sats s := by
  unfold exec
  rfl

theorem takeMeasurements_stands (meas : List ChannelMeas) (sats : List (Nat × Nat)) (s : State) : ∃ u, SameExcept [.nav] s u
    ∧ u.nav.channels = assignChannels s.cfg.nav s.devtime meas s.nav.channels ∧ u.nav.delayNs = (antennaDelay s.cfg.nav 0, antennaDelay s.cfg.nav 1)
    ∧ u.nav.e = s.nav.e ∧ u.nav.fix = s.nav.fix ∧ ChannelsStand u (takeMeasurements meas sats s) := by
  have hback : ∀ (p : Prop) [Decidable p] a u v, ChannelsStand u v → ChannelsStand u (if p then antennaBack a v else v) := fun p _ a u v h =>
    .ite (h.trans (antennaBack_stands a v)) h
  have hquality : ∀ (p : Prop) [Decidable p] q u v, ChannelsStand u v → ChannelsStand u (if p then setQuality q v else v) := fun p _ q u v h =>
    .ite (h.trans (setQuality_stands q v)) h
  unfold takeMeasurements
  exact ⟨_, modNav_frame s _, rfl, rfl, rfl, rfl, hquality _ _ _ _ (hback _ _ _ _ (hback _ _ _ _ (.refl _)))⟩

/-! ## Interference (R69 to R71) -/

theorem mem_insertBy {α : Type} (lt : α → α → Bool) (a : α) (l : List α) : a ∈ insertBy lt a l := by
  induction l with
  | nil => simp [insertBy]
  | cons b l ih =>
    rw [insertBy]
    split <;> simp [ih]

theorem length_insertBy {α : Type} (lt : α → α → Bool) (a : α) (l : List α) : (insertBy lt a l).length = l.length + 1 := by
  induction l with
  | nil => rfl
  | cons b l ih =>
    rw [insertBy]
    split <;> simp [ih]

/-- R69: the notches of an antenna and band once an interferer was judged. -/
def notchesWith (f l : Nat) (old : List (Nat × Nat)) : List (Nat × Nat) :=
  if l < 10 then old.filter (fun x => x.1 != f) else (insertBy (fun a b => decide (b.2 < a.2)) (f, l) (old.filter fun x => x.1 != f)).take 3

theorem engageNotch_of_near {a b f l : Nat} {s : State} (hlow : bandCentreKhz b ≤ f + 12000) (hhigh : f ≤ bandCentreKhz b + 12000) :
    engageNotch a b f l s = s.modNav fun n => { n with notches := tset n.notches (2 * a + b) (notchesWith f l (tget s.nav.notches [] (2 * a + b))) } := by
  have hnear : ¬(f + 12000 < bandCentreKhz b || bandCentreKhz b + 12000 < f) := by simp; omega
  rw [engageNotch, if_neg hnear]
  rfl

/-- R69: of fewer than three, the interferer's notch stays. -/
theorem mem_notchesWith {f l : Nat} {old : List (Nat × Nat)} (hstrong : 10 ≤ l) (hfew : old.length < 3) : (f, l) ∈ notchesWith f l old := by
  have hlength : (insertBy (fun a b => decide (b.2 < a.2)) (f, l) (old.filter fun x => x.1 != f)).length ≤ 3 := by
    rw [length_insertBy]
    exact Nat.lt_of_le_of_lt (List.length_filter_le _ _) hfew
  rw [notchesWith, if_neg (Nat.not_lt.mpr hstrong), List.take_of_length_le hlength]
  exact mem_insertBy _ _ _

/-- A row about one antenna and band. -/
theorem Does.of_band {c : Nat → Instr} {a b : Nat} {pre : State → Prop} {post : State → State → Prop} (f : State → State)
    (ha : a < 2) (hb : b < 2) (hexec : ∀ τ s, exec (c τ) s = atBand τ a b f s) (hruns : ∀ s, pre s → navRuns s = true)
    (hpost : ∀ s0 s, pre s → post s (settle s0 (f s))) : Does c pre post := by
  refine .of_nav f (fun τ s => ?_) hruns hpost
  rw [hexec, atBand, if_neg (Nat.not_le.mpr ha), if_neg (Nat.not_le.mpr hb)]

/-- A tracking row of a core that serves. -/
theorem Does.of_track {c : Nat → Instr} {k : Nat} {self : Nat → Instr} {pre : State → Prop} {post : State → State → Prop} (f : State → State)
    (hexec : ∀ τ s, exec (c τ) s = atTrack τ (byCore k (self τ) f) s) (hserves : ∀ s, pre s → serves k s = true ∧ tracking s = true)
    (hpost : ∀ s0 s, pre s → post s (settle s0 (f s))) : Does c pre post :=
  .of_settle f (fun τ s hpre => by
    obtain ⟨hcore, htracking⟩ := hserves _ hpre
    rw [hexec, atTrack, at_next, if_pos htracking, byCore_of_serves hcore]) hpost

theorem offerExtreme_frame (q : Nat) (isMax : Bool) (key inst : Nat) (v : Int) (s : State) :
    SameExcept [.recorder] s (offerExtreme q isMax key inst v s) := accumulate_frame _ s

/-- R71: J is taken; it raises its band's event unless the one before still stands. -/
theorem judgeJam_reports (k j : Nat) (s : State) : ∃ u, SameExcept [.nav, .recorder] s u ∧ u.nav.jam = tset s.nav.jam k j
    ∧ (160 ≤ j → (tget s.nav.jamBand {} k).jammed = none → judgeJam k j s = fault (39 + k) j 1 2 0 u)
    ∧ (64 ≤ j → j < 160 → (tget s.nav.jamBand {} k).warn = none → judgeJam k j s = fault (39 + k) j 0 1 0 u)
    ∧ (judgeJam k j s = u ∨ ∃ code sev, judgeJam k j s = fault (39 + k) j code sev 0 u) := by
  have hset : ∀ f, SameExcept [.nav, .recorder] s (offerExtreme 6 true k k ((j : Nat) : Int) (s.modNav f)) := fun f =>
    (modNav_frame s f).append (offerExtreme_frame _ _ _ _ _ _)
  have hnav : ∀ f, (offerExtreme 6 true k k ((j : Nat) : Int) (s.modNav f)).nav = f s.nav := fun f => (offerExtreme_frame _ _ _ _ _ _).nav (by decide)
  have hcases : ∀ (p q : Prop) [Decidable p] [Decidable q] (u : State), (if p then fault (39 + k) j 1 2 0 u else if q then fault (39 + k) j 0 1 0 u else u) = u
      ∨ ∃ code sev, (if p then fault (39 + k) j 1 2 0 u else if q then fault (39 + k) j 0 1 0 u else u) = fault (39 + k) j code sev 0 u := by
    intro p q _ _ u
    split
    · exact .inr ⟨1, 2, rfl⟩
    · split
      · exact .inr ⟨0, 1, rfl⟩
      · exact .inl rfl
  unfold judgeJam
  refine ⟨_, hset _, congrArg NavSt.jam (hnav _), fun hsevere hnone => ?_, fun hwarns hbelow hnone => ?_, hcases _ _ _⟩
  · simp [hsevere, hnone]
  · have hnot : ¬160 ≤ j := Nat.not_le.mpr hbelow
    simp [hwarns, hbelow, hnot, hnone]

/-! ## Level faults of sources that no power die owns (R463, R482) -/

theorem faultLevel_of_own {n : Nat} (hown : dieOfSource n = none) (inst code sev : Nat) (s : State) : faultLevel n inst code sev s
    = intakePut { cls := classOf n code, inst := inst, severity := sev, source := n, time := s.devtime } (setLevel n (evtWord inst code sev) true s) := by
  simp [faultLevel, hown]

theorem faultLevel_frame_own {n : Nat} (hown : dieOfSource n = none) (inst code sev : Nat) (s : State) :
    SameExcept [.events, .faults] s (faultLevel n inst code sev s) := by
  rw [faultLevel_of_own hown]
  exact (setLevel_frame _ _ _ _).append (intakePut_frame _ _)

theorem faultLevel_active {n : Nat} (hown : dieOfSource n = none) (inst code sev : Nat) (s : State) :
    ((faultLevel n inst code sev s).src n).active = true := by
  have hevents : ∀ e u, (intakePut e u).src n = u.src n := fun e u => by simp [intakePut]
  rw [faultLevel_of_own hown, hevents, setLevel_active, if_pos rfl]

theorem raised_faultLevel {n : Nat} (hown : dieOfSource n = none) (inst code sev : Nat) (s : State) :
    Raised n inst code sev s (faultLevel n inst code sev s) := by
  rw [faultLevel_of_own hown]
  refine fun _ hroom => ⟨{ cls := classOf n code, inst := inst, severity := sev, source := n, time := s.devtime }, ?_, rfl, rfl, rfl, rfl, rfl⟩
  rw [← (setLevel_frame n (evtWord inst code sev) true s .faults (by decide) : _ = s.faults)] at hroom
  exact mem_intake_intakePut_self hroom

/-! ## Pages (R72 to R76) -/

theorem osnmaFail_frame (svid : Nat) (s : State) : SameExcept [.nav, .events, .faults] s (osnmaFail svid s) := by
  unfold osnmaFail
  exact (modNav_frame s _).append (fault_frame_own (n := 43) rfl _ _ _ _ _)

theorem osnmaFail_raises (svid : Nat) (s : State) : Raised 43 svid 0 2 s (osnmaFail svid s) := by
  unfold osnmaFail
  exact (raised_fault 43 svid 0 2 0 _).of_before (modNav_frame s _) (by decide)

/-- R75: a satellite whose check has failed is no longer authenticated, and excluded where authentication is required. -/
theorem osnmaFail_nav (svid : Nat) (s : State) : svid ∉ (osnmaFail svid s).nav.osnmaAuthed
    ∧ (s.cfg.nav.osnmaRequire = true → svid ∈ (osnmaFail svid s).nav.osnmaExcluded) := by
  unfold osnmaFail
  rw [(fault_frame_own (n := 43) rfl _ _ _ _ _).nav (by decide)]
  refine ⟨fun hmem => ?_, fun hrequire => ?_⟩
  · simpa using (List.mem_filter.mp hmem).2
  · by_cases hold : svid ∈ s.nav.osnmaExcluded <;> simp [hrequire, hold]

theorem usePage_of_bad {p : NavPage} {s : State} (hbad : pageOk p = false) : usePage p s = s := by simp [usePage, hbad]

/-- R73: after its use a page goes out, or it does not. -/
theorem takePage_frame (p : NavPage) (s : State) : SameExcept [.courses, .events] (usePage p s) (takePage p s) := by
  unfold takePage
  exact .ite (notify_frame _ _ _ _) (.refl _ _)

/-- R74: a signature that is not 64 bytes long fails its check. -/
theorem usePage_of_kroot {p : NavPage} {m sg : List Byte} {r : List Byte} {s : State} (hgood : pageOk p = true) (hosnma : osnmaPage p = true)
    (hdata : p.data = []) (hitems : p.osnma = [.kroot true m sg r]) (hlength : sg.length ≠ 64) (hsafe : timeUnsafe s = false) :
    usePage p s = (osnmaFail p.svid s).modNav fun n => { n with osnmaAuth := osnmaAll n } := by
  have hunsigned : ∀ key, signed key m sg = false := fun key => by simp [signed, hlength]
  simp [usePage, hgood, hdata, runOsnma, hosnma, hsafe, hitems, takeOsnma, hunsigned]

/-- R72, R75: new ephemerides of a Galileo satellite replace the old ones and wait to be authenticated. -/
theorem usePage_of_ephemeris {p : NavPage} {d : List Byte} {s : State} (hgood : pageOk p = true) (hconst : p.const = 1) (hitems : p.osnma = [])
    (hdata : p.data = [.ephemeris d]) (hnew : (tget s.nav.data.ephemerides {} (satKey 1 p.svid)).data ≠ d) :
    SameExcept [.nav] s (usePage p s) ∧ tget (usePage p s).nav.data.ephemerides {} (satKey 1 p.svid) = { data := d, at_ := s.devtime }
      ∧ p.svid ∉ (usePage p s).nav.osnmaAuthed := by
  have hdiffers : (((tfind s.nav.data.ephemerides (satKey 1 p.svid)).map (·.data)) == some d) = false := by
    cases hfound : tfind s.nav.data.ephemerides (satKey 1 p.svid) with
    | none => rfl
    | some e =>
      rw [tget_of_tfind hfound] at hnew
      simpa using hnew
  have hquiet : ∀ t, runOsnma p t = t := fun t => by simp [runOsnma, hitems]
  have huse : usePage p s = (takeDatum p (.ephemeris d) s).modNav fun n => { n with osnmaAuth := osnmaAll n } := by
    simp [usePage, hgood, hdata, hquiet]
  rw [huse]
  simp only [takeDatum, hconst, hdiffers, Bool.false_eq_true, if_false]
  refine ⟨(modNav_frame s _).trans (modNav_frame _ _), ?_, ?_⟩
  · exact tget_tmod_self s.nav.data.ephemerides {} (satKey 1 p.svid) fun _ => { data := d, at_ := s.devtime }
  · simp

/-! ## The statement -/

/-- Settles O26: each row sets what it measures; a page or an interferer that fails its check raises its fault. -/
theorem measurements : Obligations.Measurements := by
  unfold Obligations.Measurements
  refine ⟨fun meas n => ?_, fun meas n => ?_, fun a b f l ha hb => ?_, fun a b f l ha hb hl => ?_, fun a b g n ha hb => ?_, fun p hbad => ?_,
    fun p m sg r hgood hosnma hdata hitems hlength => ?_, fun p d hgood hconst hitems hdata => ?_, fun a ha => ?_⟩
  · refine .of_settle (takeMeasurements meas n) (fun τ s hpre => ?_) fun s0 s hpre => ?_
    · obtain ⟨hserves, htracking, hrf⟩ := hpre
      rw [exec_measurementEpoch, execMeasurementEpoch, atTrack, at_next, if_pos htracking, if_pos hrf, byCore_of_serves hserves]
    · obtain ⟨u, hframe, hchannels, hdelay, he, hfix, kframe, kchannels, kdelay, ke, kfix⟩ := takeMeasurements_stands meas n s
      rw [(settle_frame s0 _).nav (by decide)]
      exact ⟨kchannels.trans hchannels, kdelay.trans hdelay, ke.trans he, kfix.trans hfix, (hframe.append kframe).only_settle_of s0 (by decide)⟩
  · refine .of_settle id (fun τ s hrf => ?_) fun s0 s _ => (SameExcept.refl [] s).only_settle s0
    simp only [exec_measurementEpoch, execMeasurementEpoch, atTrack, at_next, hrf, Bool.false_eq_true, if_false, ite_self, id]
  · refine .of_band (engageNotch a b f l) ha hb (fun τ s => by unfold exec; rfl) (fun s hpre => hpre.1) fun s0 s ⟨_, hstrong, hlow, hhigh, hfew⟩ => ?_
    rw [engageNotch_of_near hlow hhigh, (settle_frame s0 _).nav (by decide)]
    refine ⟨?_, fun k hk => ?_, (modNav_frame s _).only_settle s0⟩
    · simpa using mem_notchesWith hstrong hfew
    · exact tget_tset_of_ne _ _ _ hk
  · refine .of_band (engageNotch a b f l) ha hb (fun τ s => by unfold exec; rfl) (fun s hpre => hpre.1) fun s0 s ⟨_, hlow, hhigh⟩ => ?_
    rw [engageNotch_of_near hlow hhigh, (settle_frame s0 _).nav (by decide)]
    refine ⟨fun x hx => ?_, fun k hk => ?_, (modNav_frame s _).only_settle s0⟩
    · simp only [State.modNav_nav_self, tget_tset_self, notchesWith, hl, if_true] at hx
      simpa using (List.mem_filter.mp hx).2
    · exact tget_tset_of_ne _ _ _ hk
  · refine .of_band (judgeJam (2 * a + b) (jamIndex g n)) ha hb (fun τ s => by unfold exec; rfl) (fun s hpre => hpre) fun s0 s _ => ?_
    have hown : dieOfSource (39 + (2 * a + b)) = none := by interval_cases a <;> interval_cases b <;> rfl
    obtain ⟨u, hframe, hjam, hjammed, hwarned, hcases⟩ := judgeJam_reports (2 * a + b) (jamIndex g n) s
    have hraised : ∀ code sev, Raised (39 + (2 * a + b)) (jamIndex g n) code sev s (fault (39 + (2 * a + b)) (jamIndex g n) code sev 0 u) :=
      fun code sev => (raised_fault _ _ code sev 0 u).of_before hframe (by decide)
    have hafter : SameExcept [.events, .faults] u (judgeJam (2 * a + b) (jamIndex g n) s) := by
      obtain h | ⟨code, sev, h⟩ := hcases <;> rw [h]
      · exact .refl _ u
      · exact fault_frame_own hown _ _ _ _ _
    rw [(hafter.append (settle_frame s0 _)).nav (by decide), hjam]
    refine ⟨tget_tset_self _ _ _ _, fun hsevere hnone => ?_, fun hwarns hbelow hnone => ?_, fun k hk => tget_tset_of_ne _ _ _ hk,
      (hframe.append hafter).only_settle_of s0 (by decide)⟩
    · rw [hjammed hsevere hnone]
      exact (hraised 1 2).settle s0
    · rw [hwarned hwarns hbelow hnone]
      exact (hraised 0 1).settle s0
  · refine .of_track (k := 1) (takePage p) (fun τ s => by unfold exec; rfl) (fun s hpre => ⟨hpre.1, hpre.2.1⟩) fun s0 s hpre => ?_
    obtain ⟨_, htracking, hselected, hantenna, hnone, hroom⟩ := hpre
    have htaken : takePage p s = putMsg 1 33541 0 (pagePayload s s p) s := by
      simp only [takePage, usePage_of_bad hbad, hselected, hantenna, Bool.and_self, if_true]
      exact notify_of_room (follower_of_tracking htracking) hnone hroom
    rw [htaken]
    exact ⟨told_settle_putMsg _ _ _ s0 s, (putMsg_frame _ _ _ _ s).only_settle s0⟩
  · refine .of_track (k := 1) (takePage p) (fun τ s => by unfold exec; rfl) (fun s hpre => ⟨hpre.1, hpre.2.1⟩) fun s0 s ⟨_, _, hsafe⟩ => ?_
    have huse := usePage_of_kroot hgood hosnma hdata hitems hlength hsafe
    obtain ⟨hauthed, hexcluded⟩ := osnmaFail_nav p.svid s
    have hset := modNav_frame (osnmaFail p.svid s) fun n => { n with osnmaAuth := osnmaAll n }
    have hsent : SameExcept [.courses, .events] ((osnmaFail p.svid s).modNav fun n => { n with osnmaAuth := osnmaAll n }) (takePage p s) :=
      huse ▸ takePage_frame p s
    rw [(hsent.append (settle_frame s0 _)).nav (by decide)]
    exact ⟨hauthed, hexcluded, (((osnmaFail_raises p.svid s).unchanged hset (by decide)).unchanged hsent (by decide)).settle s0,
      (((osnmaFail_frame p.svid s).append hset).append hsent).only_settle_of s0 (by decide)⟩
  · refine .of_track (k := 1) (takePage p) (fun τ s => by unfold exec; rfl) (fun s hpre => ⟨hpre.1, hpre.2.1⟩) fun s0 s ⟨_, _, hnew⟩ => ?_
    obtain ⟨hframe, hdata', hauthed⟩ := usePage_of_ephemeris hgood hconst hitems hdata hnew
    rw [((takePage_frame p s).append (settle_frame s0 _)).nav (by decide)]
    exact ⟨hdata', hauthed, (hframe.append (takePage_frame p s)).only_settle_of s0 (by decide)⟩
  · refine .of_band (a := a) (b := 0) (fun s => if !(if a = 0 then s.nav.antLost.1 else s.nav.antLost.2)
        && elapsed s (if a = 0 then s.nav.lossSince.1 else s.nav.lossSince.2) 1000000 then loseAntenna a s else s) ha (by decide)
      (fun τ s => by unfold exec; rfl) (fun s hpre => hpre.1) fun s0 s ⟨_, hpresent, hdue⟩ => ?_
    have hown : dieOfSource (37 + a) = none := by interval_cases a <;> rfl
    have hsteady : steadySource (37 + a) = true := by interval_cases a <;> rfl
    rw [hpresent, hdue, settle_active hsteady]
    simp only [Bool.not_false, Bool.and_self, if_true, loseAntenna]
    have hset := modNav_frame s fun n => { n with antLost := if a = 0 then (true, n.antLost.2) else (n.antLost.1, true) }
    have hfault := faultLevel_frame_own hown 0 0 2 (s.modNav fun n => { n with antLost := if a = 0 then (true, n.antLost.2) else (n.antLost.1, true) })
    rw [(hfault.append (settle_frame s0 _)).nav (by decide)]
    refine ⟨?_, ?_, faultLevel_active hown _ _ _ _, ((raised_faultLevel hown 0 0 2 _).of_before hset (by decide)).settle s0,
      (hset.append hfault).only_settle_of s0 (by decide)⟩
    · interval_cases a <;> rfl
    · interval_cases a <;> rfl

end Sys2Proof.Machine
end

section
/-! The units' motion (R130): what a command, a stroke and the writer leave of it. -/

namespace Sys2Proof.Machine

/-- No unit's motion changes. -/
def MotionKept (s t : State) : Prop := ∀ u, (t.unit u).motion = (s.unit u).motion

theorem MotionKept.refl (s : State) : MotionKept s s := fun _ => rfl

theorem MotionKept.trans {s t u : State} (h : MotionKept s t) (k : MotionKept t u) : MotionKept s u := fun v => (k v).trans (h v)

theorem MotionKept.ite {s t u : State} {p : Prop} [Decidable p] (h : MotionKept s t) (k : MotionKept s u) :
    MotionKept s (if p then t else u) := by
  split
  · exact h
  · exact k

theorem MotionKept.foldl {α : Type} (f : State → α → State) (hf : ∀ s a, MotionKept s (f s a)) (l : List α) (s : State) :
    MotionKept s (l.foldl f s) := by
  induction l generalizing s with
  | nil => exact .refl s
  | cons a l ih => exact (hf s a).trans (ih _)

theorem MotionKept.of_frame {bs : List Bank} {s t : State} (h : SameExcept bs s t) (hb : Bank.units ∉ bs := by decide) : MotionKept s t := by
  intro u
  have hunits : t.units = s.units := h .units hb
  rw [State.unit, State.unit, hunits]

/-- A change of a unit that keeps its motion. -/
theorem modUnit_motion (s : State) (u : Nat) (f : UnitSt → UnitSt) (hf : ∀ x, (f x).motion = x.motion) : MotionKept s (s.modUnit u f) := by
  intro v
  by_cases hv : v = u
  · subst hv
    rw [State.modUnit_unit_self, hf]
  · rw [State.modUnit_unit_of_ne _ _ _ hv]

theorem modDrive_motion (s : State) (u : Nat) (f : Drive → Drive) : MotionKept s (s.modDrive u f) := modUnit_motion s u _ fun _ => rfl

theorem modLearn_motion (s : State) (u : Nat) (f : Learn → Learn) : MotionKept s (s.modLearn u f) := modUnit_motion s u _ fun _ => rfl

theorem modValve_motion (s : State) (u : Nat) (f : ValveCounters → ValveCounters) : MotionKept s (s.modValve u f) :=
  modUnit_motion s u _ fun _ => rfl

theorem modSect_motion (s : State) (u : Nat) (f : SectionSt → SectionSt) : MotionKept s (s.modSect u f) := modUnit_motion s u _ fun _ => rfl

section
variable (u : Nat) (s : State)

theorem drawBase_motion (toDrawing : Bool) : MotionKept s (drawBase u toDrawing s) := by
  unfold drawBase
  simp only
  exact .ite (.refl s) ((MotionKept.of_frame (ledgerMove_frame _ _ s)).trans (modUnit_motion _ u _ fun _ => rfl))

theorem releaseBase_motion : MotionKept s (releaseBase u s) := by
  unfold releaseBase
  simp only
  have hreleased : ∀ reserved cs (f : Drive → Drive), MotionKept s ((ledgerRelease reserved cs s).modDrive u f) := fun reserved cs f =>
    (MotionKept.of_frame (ledgerRelease_frame reserved cs s)).trans (modUnit_motion _ u _ fun _ => rfl)
  refine .ite (.refl s) (.ite (hreleased _ _ _) ?_)
  exact (hreleased _ _ _).trans (.of_frame ((ledgerRelease_frame _ _ _).append (modCluster_frame _ _ _)))

theorem settleBase_motion : MotionKept s (settleBase u s) := by
  unfold settleBase
  exact .ite (.refl s) (.ite (drawBase_motion u s false) (releaseBase_motion u s))

theorem enterRise_motion : MotionKept s (enterRise u s) := by
  have hbegun : ∀ (t : State) (f : Drive → Drive) (g : ValveCounters → ValveCounters), MotionKept t ((t.modDrive u f).modValve u g) := fun t f g =>
    (modDrive_motion t u f).trans (modValve_motion _ u g)
  exact (((drawBase_motion u s true).trans (.of_frame (takeSlot_frame u _))).trans (hbegun _ _ _)).trans
    (.of_frame ((addTotal_frame _ _ _).append (updateRail_frame _ _)))

theorem passSlot_motion (c : Nat) (us : List Nat) (s : State) : MotionKept s (passSlot c us s) := by
  induction us generalizing s with
  | nil => exact .of_frame (modCluster_frame s c _)
  | cons u rest ih =>
    have hleft := MotionKept.of_frame ((learnWait_frame c (s.devtime - (s.unit u).drive.askedAt) s).append
      (modCluster_frame _ c fun x => { x with queue := rest }))
    unfold passSlot
    simp only
    split
    · refine MotionKept.trans ?_ (ih _)
      exact (((hleft.trans (drawBase_motion u _ true)).trans (modDrive_motion _ u _)).trans (modLearn_motion _ u _)).trans
        (settleBase_motion u _)
    · split
      · exact ((hleft.trans (modValve_motion _ u _)).trans (modDrive_motion _ u _)).trans (enterRise_motion u _)
      · exact (hleft.trans (modValve_motion _ u _)).trans (enterRise_motion u _)

theorem yieldSlot_motion : MotionKept s (yieldSlot u s) := by
  unfold yieldSlot
  exact .ite (((MotionKept.of_frame (freeSlot_frame u s)).trans (passSlot_motion _ _ _)).trans (.of_frame (updateRail_frame _ _))) (.refl s)

theorem endHold_motion (ppm : Nat) : MotionKept s (endHold u ppm s) := by
  unfold endHold
  simp only
  split
  · exact .refl s
  · split
    · exact modLearn_motion s u _
    · exact modLearn_motion s u _

theorem turnOff_motion : MotionKept s (turnOff u s) :=
  ((((((endHold_motion u s _).trans (modDrive_motion _ u _)).trans (modLearn_motion _ u _)).trans
    (yieldSlot_motion u _)).trans (settleBase_motion u _))).trans (.of_frame (updateRail_frame _ _))

theorem applyOff_motion : MotionKept s (applyOff u s) := by
  unfold applyOff
  split
  · exact .refl s
  · exact .refl s
  · exact (modDrive_motion s u _).trans (modLearn_motion _ u _)
  · exact turnOff_motion u s
  · exact turnOff_motion u s
  · exact turnOff_motion u s
  · exact turnOff_motion u s
  · exact modValve_motion s u _

theorem regrid_motion (c : Nat) : MotionKept s (regrid c s) := .foldl _ (fun s u => modDrive_motion s u _) _ s

theorem pwmOff_motion : MotionKept s (pwmOff u s) := by
  have hstopped : ∀ f : Drive → Drive, MotionKept s (regrid (clusterOf u) (applyOff u (s.modDrive u f))) := fun f =>
    ((modDrive_motion s u f).trans (applyOff_motion u _)).trans (regrid_motion _ _)
  unfold pwmOff
  exact .ite (modDrive_motion s u _) (hstopped _)

theorem commandOff_motion : MotionKept s (commandOff u s) := by
  unfold commandOff
  split
  · exact pwmOff_motion u s
  · exact applyOff_motion u s
  · exact modValve_motion s u _
  · exact .refl s

theorem followDirection_motion : MotionKept s (followDirection u s) := modUnit_motion s u _ fun _ => rfl

end

end Sys2Proof.Machine
end

section
/-! The fused epoch: odometry's choice, navigation's state, the units' motion, the writer and the emulation (R85 to R101, R126 to R133, R169). -/

namespace Sys2Proof.Machine

/-! ## Odometry at an epoch (R120, R127, R128) -/

theorem takeDoppler_frame (d : Option Int) (s : State) : SameExcept [.odo] s (takeDoppler d s) := by
  unfold takeDoppler
  exact (modOdo_frame s _).trans (.foldl _ (fun s (p : Nat × ChannelCfg) => .ite (modChan_frame s p.1 _) (.refl _ s)) _ _)

theorem trackPairs_frame (s : State) : SameExcept [.odo] s (trackPairs s) := modOdo_frame s _

theorem trackStop_frame (av : List (Nat × SpeedSource × Int)) (prim : Option Int) (s : State) (p : SpeedSource × Nat) :
    SameExcept [.odo, .events, .faults] s (trackStop av prim s p) := by
  unfold trackStop
  simp only
  split
  · exact (modOdo_frame s _).mono (by decide)
  · exact .ite ((modOdo_frame s _).append (fault_frame_own (n := 202) rfl _ _ _ _ _)) ((modOdo_frame s _).mono (by decide))

theorem trackStops_frame (s : State) : SameExcept [.odo, .events, .faults] s (trackStops s) := .foldl _ (trackStop_frame _ _) _ s

theorem choosePrimary_frame (s : State) : SameExcept [.odo, .events, .faults] s (choosePrimary s) := by
  have hchanged : SameExcept [.odo, .events, .faults] s (changePrimary s) := by
    unfold changePrimary
    simp only
    exact .ite (.refl _ s) (.ite ((modOdo_frame s _).mono (by decide)) ((modOdo_frame s _).append (fault_frame_own (n := 202) rfl _ _ _ _ _)))
  exact hchanged.trans ((modOdo_frame _ _).mono (by decide))

/-! ## Navigation at an epoch (R85 to R95) -/

/-- The banks that an epoch's own rules may touch. -/
def epochBanks : List Bank := [.nav, .odo] ++ driveBanks

/-- A part of an epoch that keeps the supply voltage that the epoch brought. -/
def EpochStep (s t : State) : Prop := SameExcept epochBanks s t ∧ t.nav.vbatMv = s.nav.vbatMv

theorem EpochStep.trans {s t u : State} (h : EpochStep s t) (k : EpochStep t u) : EpochStep s u := ⟨h.1.trans k.1, k.2.trans h.2⟩

theorem EpochStep.refl (s : State) : EpochStep s s := ⟨.refl _ s, rfl⟩

theorem EpochStep.ite {s t u : State} {p : Prop} [Decidable p] (h : EpochStep s t) (k : EpochStep s u) : EpochStep s (if p then t else u) := by
  split
  · exact h
  · exact k

theorem EpochStep.of_frame {bs : List Bank} {s t : State} (h : SameExcept bs s t) (hb : (∀ b ∈ bs, b ∈ epochBanks) ∧ Bank.nav ∉ bs := by decide) :
    EpochStep s t := ⟨h.mono hb.1, congrArg NavSt.vbatMv (h.nav hb.2)⟩

/-- A change of navigation's state that keeps the supply voltage. -/
theorem modNav_epochStep (s : State) (f : NavSt → NavSt) (hf : ∀ n, (f n).vbatMv = n.vbatMv) : EpochStep s (s.modNav f) :=
  ⟨(modNav_frame s f).mono (by decide), hf s.nav⟩

theorem takeReturn_epochStep (s : State) : EpochStep s (takeReturn s) := by
  unfold takeReturn
  split
  · exact .refl s
  · exact modNav_epochStep s _ fun _ => rfl

theorem fuseHeading_epochStep (f : Fusion) (dt : Nat) (s : State) : EpochStep s (fuseHeading f dt s) := by
  unfold fuseHeading
  simp only
  refine .ite ?_ (.ite ?_ (.ite ?_ ?_)) <;> exact modNav_epochStep s _ fun _ => rfl

theorem publish_epochStep (f : Fusion) (s : State) : EpochStep s (publish f s) := by
  have hset : ∀ f g, (∀ n, (f n).vbatMv = n.vbatMv) → (∀ n, (g n).vbatMv = n.vbatMv) → EpochStep s ((s.modNav f).modNav g) := fun f g hf hg =>
    (modNav_epochStep s f hf).trans (modNav_epochStep _ g hg)
  unfold publish
  refine hset _ _ ?_ ?_
  · exact fun _ => rfl
  · exact fun _ => rfl

theorem blendEpoch_epochStep (up : Int) (dist uncH : Nat) (s : State) : EpochStep s (blendEpoch up dist uncH s) := by
  have hstepped : ∀ f op p, (∀ n, (f n).vbatMv = n.vbatMv) → EpochStep s (edge 34 0 0 (notify 0 op p (s.modNav f))) := fun f op p hf =>
    ((modNav_epochStep s f hf).trans (.of_frame (notify_frame _ _ _ _))).trans (.of_frame (edge_frame_own (n := 34) rfl))
  unfold blendEpoch
  simp only
  refine .ite (.refl s) (.ite (hstepped _ _ _ ?_) (modNav_epochStep s _ ?_))
  · exact fun _ => rfl
  · exact fun _ => rfl

theorem crossing_epochStep (s : State) : EpochStep s (crossing s) := by
  have hdropped : EpochStep s (s.sectionUnits.foldl (fun s u => dropDevice u Fret.onKind s) s) :=
    .of_frame (.foldl _ (fun s u => dropDevice_drives u s _) _ s)
  have hset : ∀ t, EpochStep t (t.modNav fun n => { n with uncertain := true, withinUm := 0, holdActive := decide (n.holdLeft ≠ 0) }) := fun t =>
    modNav_epochStep t _ fun _ => rfl
  exact (hdropped.trans (hset _)).trans (.of_frame (faultLevel_frame _ _ _ _ _))

theorem uncertaintyPolicy_epochStep (dist : Nat) (s : State) : EpochStep s (uncertaintyPolicy dist s) := by
  have hcounted : EpochStep s (s.modNav fun n => if n.uncertain then (if n.holdActive then { n with holdLeft := n.holdLeft - dist } else n)
      else { n with withinUm := n.withinUm + dist }) := modNav_epochStep s _ fun n => by split_ifs <;> rfl
  have hended : ∀ t f, (∀ n, (f n).vbatMv = n.vbatMv) → EpochStep t (setLevel 33 0 false (t.modNav f)) := fun t f hf =>
    (modNav_epochStep t f hf).trans (.of_frame (setLevel_frame _ _ _ _))
  unfold uncertaintyPolicy
  simp only
  refine .ite (hcounted.trans (crossing_epochStep _)) (.ite (hcounted.trans (hended _ _ ?_)) hcounted)
  exact fun _ => rfl

/-! ## The units' motion (R130 to R134) -/

/-- R130: the speed of a unit at an epoch. -/
def unitSpeed (v w : Int) (still : Bool) (u : Nat) (s : State) : Int := if still then 0 else v - lateral w (s.unitCfg u).yMm

theorem moveUnit_drives (v a w alpha : Int) (still : Bool) (u : Nat) (s : State) : SameExcept driveBanks s (moveUnit v a w alpha still u s) := by
  have hmoved : ∀ f, SameExcept driveBanks s (s.modUnit u f) := modUnit_drives u s
  have hfollowed : ∀ f, SameExcept driveBanks s (followDirection u (s.modUnit u f)) := fun f => (hmoved f).trans (modUnit_drives u _ _)
  unfold moveUnit
  simp only
  refine .ite (hmoved _) (.ite (.ite ?_ ?_) (hfollowed _))
  · exact ((hfollowed _).trans (modUnit_drives u _ _)).trans (commandOff_drives u _)
  · exact (hfollowed _).trans (modUnit_drives u _ _)

/-- Of one unit's epoch only its own motion moves, to its own speed. -/
theorem moveUnit_motion (v a w alpha : Int) (still : Bool) (u : Nat) (s : State) (j : Nat) : ((moveUnit v a w alpha still u s).unit j).motion.vUm =
    if j = u then unitSpeed v w still u s else (s.unit j).motion.vUm := by
  have hmoved : ∀ au back, ((s.modUnit u fun x => { x with motion := { x.motion with vUm := unitSpeed v w still u s, aUm := au, backward := back } }).unit j).motion.vUm
      = if j = u then unitSpeed v w still u s else (s.unit j).motion.vUm := fun au back => by
    by_cases hj : j = u
    · subst hj
      simp
    · rw [State.modUnit_unit_of_ne _ _ _ hj, if_neg hj]
  have hkept : ∀ {t t' : State}, MotionKept t t' → (t'.unit j).motion.vUm = (t.unit j).motion.vUm := fun h => congrArg Motion.vUm (h j)
  have hturned : ∀ (t : State) f, (∀ x, (f x).motion = x.motion) → MotionKept t ((followDirection u t).modUnit u f) := fun t f hf =>
    (followDirection_motion u t).trans (modUnit_motion _ u f hf)
  have hspeed : (if still = true then (0 : Int) else v - lateral w (s.unitCfg u).yMm) = unitSpeed v w still u s := rfl
  unfold moveUnit
  simp only [hspeed]
  generalize unitSpeed v w still u s = vu at hmoved ⊢
  generalize (if still = true then (0 : Int) else a - lateral alpha (s.unitCfg u).yMm) = au
  split
  · exact hmoved _ _
  · split
    · split
      · refine (hkept ((hturned _ _ ?_).trans (commandOff_motion u _))).trans (hmoved _ _)
        exact fun _ => rfl
      · refine (hkept (hturned _ _ ?_)).trans (hmoved _ _)
        exact fun _ => rfl
    · exact (hkept (followDirection_motion u _)).trans (hmoved _ _)

theorem moveUnits_drives (v a w alpha : Int) (still : Bool) (s : State) : SameExcept driveBanks s (moveUnits v a w alpha still s) :=
  .foldl _ (fun s u => moveUnit_drives v a w alpha still u s) _ s

/-- Every unit of a list has its own speed once the list is done. -/
theorem moved_of_mem (v a w alpha : Int) (still : Bool) {u : Nat} (us : List Nat) (s : State)
    (h : u ∈ us ∨ (s.unit u).motion.vUm = unitSpeed v w still u s) :
    ((us.foldl (fun s u => moveUnit v a w alpha still u s) s).unit u).motion.vUm = unitSpeed v w still u s := by
  induction us generalizing s with
  | nil => exact h.resolve_left List.not_mem_nil
  | cons j us ih =>
    have hcfg : (moveUnit v a w alpha still j s).cfg = s.cfg := (moveUnit_drives v a w alpha still j s) .cfg (by decide)
    have hspeed : ∀ x, unitSpeed v w still x (moveUnit v a w alpha still j s) = unitSpeed v w still x s := fun x => by
      rw [unitSpeed, unitSpeed, State.unitCfg, State.unitCfg, hcfg]
    rw [List.foldl_cons, ← hspeed]
    refine ih _ ?_
    rw [moveUnit_motion, hspeed]
    by_cases hj : u = j
    · subst hj
      exact .inr (if_pos rfl)
    · rw [if_neg hj]
      exact h.imp (fun hmem => (List.mem_cons.mp hmem).resolve_left hj) id

end Sys2Proof.Machine
end

section
/-! What a fused epoch leaves, and the writer, the emulation and the lead's STATE after it (R85, R137, R169, R452). -/

namespace Sys2Proof.Machine

/-! ## Up to the units' motion -/

/-- What navigation holds once an epoch is fused. -/
def EpochTaken (f : Fusion) (s t : State) : Prop := SameExcept epochBanks s t ∧ t.nav.epoch = some s.devtime ∧ t.nav.odoStale = false
  ∧ t.nav.fretsLive = true ∧ t.nav.firstEpoch = false ∧ t.nav.vbatMv = f.vbatMv

theorem EpochTaken.after {f : Fusion} {bs : List Bank} {s t u : State} (h : EpochTaken f s t) (k : SameExcept bs t u)
    (hb : (∀ b ∈ bs, b ∈ epochBanks) ∧ Bank.nav ∉ bs := by decide) : EpochTaken f s u := by
  obtain ⟨hframe, htaken⟩ := h
  obtain ⟨hbanks, hnav⟩ := hb
  rw [EpochTaken, k.nav hnav]
  exact ⟨hframe.trans (k.mono hbanks), htaken⟩

theorem EpochTaken.modNav {f : Fusion} {s t : State} (h : EpochTaken f s t) (g : NavSt → NavSt) (hg : ∀ n, (g n).epoch = n.epoch
    ∧ (g n).odoStale = n.odoStale ∧ (g n).fretsLive = n.fretsLive ∧ (g n).firstEpoch = n.firstEpoch ∧ (g n).vbatMv = n.vbatMv) :
    EpochTaken f s (t.modNav g) := by
  obtain ⟨hframe, hepoch, hstale, hlive, hfirst, hvbat⟩ := h
  obtain ⟨gepoch, gstale, glive, gfirst, gvbat⟩ := hg t.nav
  exact ⟨hframe.trans ((modNav_frame t g).mono (by decide)), gepoch.trans hepoch, gstale.trans hstale, glive.trans hlive, gfirst.trans hfirst,
    gvbat.trans hvbat⟩

/-- The time since the epoch before. -/
def epochSpan (s : State) : Nat :=
  match s.nav.epoch with
  | some e => s.devtime - e
  | none => 0

/-- R85, R86, R127: what an epoch publishes, before it is judged. -/
def epochPublished (f : Fusion) (s : State) : State :=
  publish f (fuseHeading f (epochSpan s) (takeReturn (choosePrimary (trackStops (trackPairs (takeDoppler f.doppler
    (s.modNav fun n => { n with vbatMv := f.vbatMv, gridMc := f.gridMc, dutyPpm := f.dutyPpm, dutyAt := s.devtime })))))))

/-- R90 to R95: an epoch after its judgement of the uncertainty, `dist` µm on. -/
def epochJudged (up : Int) (dist : Nat) (s : State) : State :=
  (uncertaintyPolicy dist (blendEpoch up dist s.nav.uncH s)).modNav fun n => { n with firstEpoch := false }

/-- R85, R131: a judged epoch takes its place in time. -/
def epochPlaced (t : Nat) (v w : Int) (acc : Int × Int) (along : Int) (s : State) : State :=
  (s.modNav fun n =>
    { n with epoch := some t, accUm := acc.1, alpha := acc.2, recent := keepRecent t v w n.recent, odoStale := false,
             staleBase := t, fretsLive := true,
             history := ((t, reportedE s, reportedN s, n.heading, n.uncertain) :: n.history).take 1024 }).modOdo fun o => { o with along := along }

/-- R88: an epoch in its place, with what N_POS says of it. -/
def epochDated (t : Nat) (v w : Int) (acc : Int × Int) (along : Int) (s : State) : State :=
  let s1 := epochPlaced t v w acc along s
  let s2 := if s1.cov.opened.isSome then offerOne 11 0 ((s1.nav.uncH : Nat) : Int) s1 else s1
  s2.modNav fun n => { n with posMsg := posPayload s2, posFlags := posFlags s2 }

/-- R130: the units' part of an epoch. -/
def epochMoved (t : Nat) (along : Int) (dist : Nat) (s : State) : State :=
  let v := if s.odo.standstill then 0 else s.odo.speed
  let acc := accelerations t v s.nav.yawRate s.nav.recent
  let u := epochDated t v s.nav.yawRate acc along s
  addTotal totDist dist (moveUnits v acc.1 s.nav.yawRate acc.2 (u.odo.standstill || u.odo.primary.isNone) u)

theorem fuse_eq (f : Fusion) (s : State) : ∃ up along dist, fuse f s = epochMoved s.devtime along dist (epochJudged up dist (epochPublished f s)) :=
  ⟨_, _, _, rfl⟩

theorem epochPublished_step (f : Fusion) (s : State) : SameExcept epochBanks s (epochPublished f s) ∧ (epochPublished f s).nav.vbatMv = f.vbatMv := by
  have hstep : ∀ t dt, EpochStep t (publish f (fuseHeading f dt (takeReturn (choosePrimary (trackStops (trackPairs (takeDoppler f.doppler t))))))) :=
    fun t dt => ((((((EpochStep.of_frame (takeDoppler_frame f.doppler t)).trans (.of_frame (trackPairs_frame _))).trans
      (.of_frame (trackStops_frame _))).trans (.of_frame (choosePrimary_frame _))).trans (takeReturn_epochStep _)).trans
      (fuseHeading_epochStep f _ _)).trans (publish_epochStep f _)
  obtain ⟨hframe, hvbat⟩ := hstep (s.modNav fun n => { n with vbatMv := f.vbatMv, gridMc := f.gridMc, dutyPpm := f.dutyPpm, dutyAt := s.devtime })
    (epochSpan s)
  exact ⟨((modNav_frame s _).mono (by decide)).trans hframe, hvbat⟩

theorem epochJudged_step (up : Int) (dist : Nat) (s : State) : EpochStep s (epochJudged up dist s) ∧ (epochJudged up dist s).nav.firstEpoch = false :=
  ⟨((blendEpoch_epochStep _ _ _ s).trans (uncertaintyPolicy_epochStep _ _)).trans (modNav_epochStep _ _ fun _ => rfl), rfl⟩

/-- An epoch in its place: the banks that this touches, and what stands. -/
theorem epochDated_step (t : Nat) (v w : Int) (acc : Int × Int) (along : Int) (s : State) :
    SameExcept [.nav, .odo, .recorder] s (epochDated t v w acc along s)
    ∧ (epochDated t v w acc along s).nav.epoch = some t ∧ (epochDated t v w acc along s).nav.odoStale = false
    ∧ (epochDated t v w acc along s).nav.fretsLive = true ∧ (epochDated t v w acc along s).nav.firstEpoch = s.nav.firstEpoch
    ∧ (epochDated t v w acc along s).nav.vbatMv = s.nav.vbatMv ∧ (epochDated t v w acc along s).nav.yawRate = s.nav.yawRate
    ∧ (epochDated t v w acc along s).odo = { s.odo with along := along } := by
  have hplaced : SameExcept [.nav, .odo] s (epochPlaced t v w acc along s) := (modNav_frame s _).append (modOdo_frame _ _)
  have hoffered : ∀ (p : Prop) [Decidable p] (u : State) x, SameExcept [.recorder] u (if p then offerOne 11 0 x u else u) := fun p _ u x =>
    .ite (offerOne_frame _ _ _ u) (.refl _ u)
  have hset : ∀ (u : State) g, (u.modNav g).odo = u.odo := fun u g => modNav_frame u g .odo (by decide)
  unfold epochDated
  simp only [State.modNav_nav_self, hset]
  have h := hoffered ((epochPlaced t v w acc along s).cov.opened.isSome = true) (epochPlaced t v w acc along s) ((epochPlaced t v w acc along s).nav.uncH : Nat)
  have hodo := h .odo (by decide)
  have hnav := h.nav (by decide)
  refine ⟨((hplaced.append h).append (modNav_frame _ _)).mono (by decide), ?_, ?_, ?_, ?_, ?_, ?_, hodo⟩ <;> rw [hnav] <;> rfl



/-- R130: every used unit has its own speed of the epoch in `t`. -/
def UnitsMoved (s t : State) : Prop := ∀ p ∈ s.cfg.units.units, p.2.used = true → (t.unit p.1).motion.vUm =
  if t.odo.standstill || t.odo.primary.isNone then 0 else t.odo.speed - lateral t.nav.yawRate (s.unitCfg p.1).yMm

/-- R130: the units' speeds stand while no motion, no speed source and no yaw rate changes. -/
theorem UnitsMoved.kept {s t u : State} (h : UnitsMoved s t) (hmotion : MotionKept t u) (hspeed : u.odo.speed = t.odo.speed)
    (hstill : u.odo.standstill = t.odo.standstill) (hprimary : u.odo.primary = t.odo.primary) (hyaw : u.nav.yawRate = t.nav.yawRate) :
    UnitsMoved s u := by
  intro p hp hused
  rw [hmotion, hspeed, hstill, hprimary, hyaw]
  exact h p hp hused

theorem UnitsMoved.of_frame {bs : List Bank} {s t u : State} (h : UnitsMoved s t) (hmotion : MotionKept t u) (hframe : SameExcept bs t u)
    (hb : Bank.odo ∉ bs ∧ Bank.nav ∉ bs) : UnitsMoved s u := by
  have hodo : u.odo = t.odo := hframe .odo hb.1
  have hnav := hframe.nav hb.2
  exact h.kept hmotion (by rw [hodo]) (by rw [hodo]) (by rw [hodo]) (by rw [hnav])

/-- R130: the units' part of an epoch. -/
theorem epochMoved_moves (t : Nat) (along : Int) (dist : Nat) {s0 s : State} (hcfg : s.cfg = s0.cfg) :
    SameExcept epochBanks s (epochMoved t along dist s) ∧ (epochMoved t along dist s).nav.epoch = some t
    ∧ (epochMoved t along dist s).nav.odoStale = false ∧ (epochMoved t along dist s).nav.fretsLive = true
    ∧ (epochMoved t along dist s).nav.firstEpoch = s.nav.firstEpoch ∧ (epochMoved t along dist s).nav.vbatMv = s.nav.vbatMv
    ∧ UnitsMoved s0 (epochMoved t along dist s) := by
  unfold epochMoved
  generalize hv : (if s.odo.standstill then 0 else s.odo.speed) = v
  simp only
  generalize accelerations t v s.nav.yawRate s.nav.recent = acc
  obtain ⟨hframe, hepoch, hstale, hlive, hfirst, hvbat, hyaw, hodo⟩ := epochDated_step t v s.nav.yawRate acc along s
  generalize epochDated t v s.nav.yawRate acc along s = u at *
  have hucfg : u.cfg = s0.cfg := (hframe.cfg (by decide)).trans hcfg
  generalize hstill : (u.odo.standstill || u.odo.primary.isNone) = still
  have hdrives := moveUnits_drives v acc.1 s.nav.yawRate acc.2 still u
  have htotal := addTotal_frame totDist dist (moveUnits v acc.1 s.nav.yawRate acc.2 still u)
  have hafter := hdrives.append htotal
  have hnav := hafter.nav (by decide)
  have hodo' := hafter .odo (by decide)
  rw [hnav]
  refine ⟨(hframe.append hafter).mono (by decide), hepoch, hstale, hlive, hfirst, hvbat, fun p hp hused => ?_⟩
  have hmoved : ((moveUnits v acc.1 s.nav.yawRate acc.2 still u).unit p.1).motion.vUm = unitSpeed v s.nav.yawRate still p.1 u := by
    refine moved_of_mem v acc.1 s.nav.yawRate acc.2 still _ u (.inl (List.mem_filterMap.mpr ⟨p, ?_, by rw [if_pos hused]⟩))
    rw [hucfg]
    exact hp
  have hspeed : u.odo.standstill = true ∨ v = u.odo.speed := by
    rw [hodo, ← hv]
    cases s.odo.standstill
    · exact .inr rfl
    · exact .inl rfl
  rw [congrArg UnitSt.motion (htotal.unit (by decide) p.1), hmoved, hnav, hodo', hyaw, unitSpeed, State.unitCfg, State.unitCfg, hucfg, hstill]
  split
  · rfl
  · obtain hs | hs := hspeed
    · simp [hs] at hstill
      contradiction
    · rw [hs]

/-- R85: a fused epoch is taken, and every unit moves by it. -/
theorem fuse_taken (f : Fusion) (s : State) : EpochTaken f s (fuse f s) ∧ UnitsMoved s (fuse f s) := by
  obtain ⟨up, along, dist, heq⟩ := fuse_eq f s
  obtain ⟨hpublished, hvbat⟩ := epochPublished_step f s
  obtain ⟨⟨hjudged, hjvbat⟩, hfirst⟩ := epochJudged_step up dist (epochPublished f s)
  have hframe := hpublished.trans hjudged
  obtain ⟨hmoved, hepoch, hstale, hlive, hmfirst, hmvbat, hunits⟩ := epochMoved_moves s.devtime along dist (hframe.cfg (by decide))
  rw [heq]
  exact ⟨⟨hframe.trans hmoved, hepoch, hstale, hlive, hmfirst.trans hfirst, (hmvbat.trans hjvbat).trans hvbat⟩, hunits⟩

end Sys2Proof.Machine
end

section
/-! The coverage writer, the emulation and the lead's STATE at an epoch; the time pulse (R96 to R100, R137, R169, R452). -/

namespace Sys2Proof.Machine

/-! ## The writer (R168 to R174) -/

/-- The banks of a write to the map. -/
def writeBanks : List Bank := [.cov, .recorder, .events, .faults]

theorem credit7_frame (fid u p : Nat) (d : Area) (s : State) : SameExcept writeBanks s (credit7 fid u p d s) :=
  ((modField_frame s fid _).append (addTotal_frame _ _ _)).mono (by decide)

theorem missCell_frame (fe : FieldEntry) (u p : Nat) (i j : Int) (prov : Bool) (s : State) : SameExcept writeBanks s (missCell fe u p i j prov s) := by
  have hheld : ∀ f, SameExcept writeBanks s (s.modCov f) := fun f => (modCov_frame s f).mono (by decide)
  have hlost : ∀ f, SameExcept writeBanks s (fault 66 0 2 2 0 ((unwritten fe.fieldId u p (fe.cell * fe.cell) s).modCov f)) := fun f =>
    (((unwritten_frame _ _ _ _ s).append (modCov_frame _ f)).append (fault_frame_own (n := 66) rfl _ _ _ _ _)).mono (by decide)
  unfold missCell
  split
  · exact hheld _
  · exact .ite (hheld _) (.ite (hlost _) ((unwritten_frame _ _ _ _ s).mono (by decide)))

theorem writeCell_frame (fe : FieldEntry) (u p : Nat) (prov : Bool) (s : State) (ij : Int × Int) : SameExcept writeBanks s (writeCell fe u p prov s ij) := by
  have happlied : ∀ t, SameExcept writeBanks s (applyCell fe t u p ij.1 ij.2 prov s) := fun t =>
    ((modCov_frame s _).mono (by decide)).trans (credit7_frame _ _ _ _ _)
  unfold writeCell
  simp only
  split
  · exact .refl _ s
  · split
    · exact .ite (happlied _) (missCell_frame _ _ _ _ _ _ _)
    · exact missCell_frame _ _ _ _ _ _ _

theorem sweepInterval_frame (fe : FieldEntry) (u : Nat) (a b : Track) (s : State) : SameExcept writeBanks s (sweepInterval fe u a b s) :=
  .foldl _ (fun s _ => .ite (.refl _ s) (((modCov_frame s _).mono (by decide)).trans (writeCell_frame _ _ _ _ _ _))) _ s

theorem sweepAlong_frame (fe : FieldEntry) (u : Nat) (l : List Track) (a : Track) (s : State) : SameExcept writeBanks s (sweepAlong fe u a l s) := by
  induction l generalizing a s with
  | nil => exact .refl _ s
  | cons b l ih =>
    rw [sweepAlong]
    exact SameExcept.trans (.ite (.refl _ s) (sweepInterval_frame fe u a b s)) (ih b _)

theorem advanceStroke_frame (fe : FieldEntry) (u : Nat) (k : Stroke) (s : State) : SameExcept writeBanks s (advanceStroke fe u k s).1 := by
  have hlost : ∀ (p : Prop) [Decidable p] fid v q n, SameExcept writeBanks s (if p then unwritten fid v q n s else s) := fun p _ fid v q n =>
    .ite ((unwritten_frame _ _ _ _ s).mono (by decide)) (.refl _ s)
  unfold advanceStroke
  simp only
  split
  all_goals
    split
    · exact .refl _ s
    · split
      · exact (hlost _ _ _ _ _).trans (sweepAlong_frame _ _ _ _ _)
      · exact hlost _ _ _ _ _

/-- A fold that carries a state and more. -/
theorem SameExcept.foldl_fst {α β : Type} {bs : List Bank} (f : State × β → α → State × β) (h : ∀ x a, SameExcept bs x.1 (f x a).1) (l : List α)
    (x : State × β) : SameExcept bs x.1 (l.foldl f x).1 := by
  induction l generalizing x with
  | nil => exact .refl _ _
  | cons a l ih => exact (h x a).trans (ih _)

/-- Writing a unit's strokes keeps every motion. -/
theorem advanceStrokes_step (fe : FieldEntry) (u : Nat) (s : State) : SameExcept (.units :: writeBanks) s (advanceStrokes fe u s)
    ∧ MotionKept s (advanceStrokes fe u s) := by
  have hended : ∀ (p : Prop) [Decidable p], SameExcept (.units :: writeBanks) s (if p then strokeEndedThere u s else s)
      ∧ MotionKept s (if p then strokeEndedThere u s else s) := fun p _ =>
    ⟨.ite ((modUnit_frame s u _).mono (by decide)) (.refl _ s), .ite (modSect_motion s u _) (.refl s)⟩
  have hwritten : ∀ (l : List Stroke) (x : State × List Stroke), SameExcept writeBanks x.1 (l.foldl (fun (acc : State × List Stroke) k =>
      let x := advanceStroke fe u k acc.1
      if x.2.2 then (x.1.modCov fun c => { c with strokeCells := c.strokeCells.filter fun m => m.1 != u }, acc.2) else (x.1, acc.2 ++ [x.2.1])) x).1 := by
    refine SameExcept.foldl_fst _ fun x k => ?_
    have hstroke := advanceStroke_frame fe u k x.1
    simp only
    split
    · exact hstroke.trans ((modCov_frame _ _).mono (by decide))
    · exact hstroke
  unfold advanceStrokes
  simp only
  obtain ⟨hframe, hmotion⟩ := hended ((if u < 128 then !(s.unit u).drive.cycling && (s.unit u).drive.openWinEnd.isNone
    && (s.unit u).drive.closeWinEnd.isNone && !driven (s.unit u).drive else !(s.unit u).sect.commanded) = true)
  exact ⟨(hframe.trans ((hwritten _ _).mono (by decide))).trans ((modUnit_frame _ u _).mono (by decide)),
    (hmotion.trans (.of_frame (hwritten _ _))).trans (modSect_motion _ u _)⟩

theorem writeCoverage_step (s : State) : SameExcept (.units :: writeBanks) s (writeCoverage s) ∧ MotionKept s (writeCoverage s) := by
  unfold writeCoverage
  split
  · exact ⟨.refl _ s, .refl s⟩
  · split
    · exact ⟨.refl _ s, .refl s⟩
    · exact ⟨.foldl _ (fun s u => (advanceStrokes_step _ u s).1) _ s, .foldl _ (fun s u => (advanceStrokes_step _ u s).2) _ s⟩

/-! ## The emulation and STATE (R137, R452) -/

theorem emuEpoch_frame (s : State) : SameExcept [.odo, .outputs] s (emuEpoch s) := by
  unfold emuEpoch
  simp only
  split
  · exact .refl _ s
  · split
    · exact (modOdo_frame s _).mono (by decide)
    · exact .ite ((modOdo_frame s _).append (modFo_frame _ _ _)) ((modOdo_frame s _).mono (by decide))

/-- R137: the emulation leaves the vehicle's own speed alone. -/
theorem emuEpoch_odo (s : State) : (emuEpoch s).odo.speed = s.odo.speed ∧ (emuEpoch s).odo.standstill = s.odo.standstill
    ∧ (emuEpoch s).odo.primary = s.odo.primary := by
  unfold emuEpoch
  simp only
  split
  · exact ⟨rfl, rfl, rfl⟩
  · split
    · exact ⟨rfl, rfl, rfl⟩
    · split
      · exact ⟨rfl, rfl, rfl⟩
      · exact ⟨rfl, rfl, rfl⟩

theorem sendState_frame (s : State) : SameExcept [.can, .zither] s (sendState s) := by
  unfold sendState
  exact .ite (.refl _ s) (sendZ_frame _ _ _ s)

/-- R85: what follows from an epoch leaves it, and the units' speeds, as they are. -/
theorem fusedEpoch_taken (f : Fusion) (s : State) : SameExcept (.cov :: .outputs :: epochBanks) s (fusedEpoch f s)
    ∧ (fusedEpoch f s).nav.epoch = some s.devtime ∧ (fusedEpoch f s).nav.odoStale = false ∧ (fusedEpoch f s).nav.fretsLive = true
    ∧ (fusedEpoch f s).nav.firstEpoch = false ∧ (fusedEpoch f s).nav.vbatMv = f.vbatMv ∧ UnitsMoved s (fusedEpoch f s) := by
  obtain ⟨⟨hframe, htaken⟩, hmoved⟩ := fuse_taken f s
  obtain ⟨hwriter, hmotion⟩ := writeCoverage_step (fuse f s)
  have hemu := emuEpoch_frame (writeCoverage (fuse f s))
  obtain ⟨hspeed, hstill, hprimary⟩ := emuEpoch_odo (writeCoverage (fuse f s))
  have hsent := sendState_frame (emuEpoch (writeCoverage (fuse f s)))
  have hnav := ((hwriter.append hemu).append hsent).nav (by decide)
  have hmoved' := (hmoved.of_frame hmotion hwriter (by decide)).kept (.of_frame hemu) hspeed hstill hprimary (congrArg NavSt.yawRate (hemu.nav (by decide)))
  unfold fusedEpoch
  rw [hnav]
  exact ⟨(((hframe.append hwriter).append hemu).append hsent).mono (by decide), htaken.1, htaken.2.1, htaken.2.2.1, htaken.2.2.2.1, htaken.2.2.2.2,
    hmoved'.of_frame (.of_frame hsent) hsent (by decide)⟩

end Sys2Proof.Machine
end

section
/-! Pulses, N_POS, NMEA and the hold of an uncertain position (R88 to R101). -/

namespace Sys2Proof.Machine

/-! ## The hold (R92) -/

/-- The banks of a command OFF. -/
def unitOffBanks : List Bank := [.units, .clusters, .ledger, .recorder, .can, .zither]

theorem applyOff_frame (u : Nat) (s : State) : SameExcept unitOffBanks s (applyOff u s) := by
  have hturned : SameExcept unitOffBanks s (turnOff u s) := (turnOff_frame u s).mono (by decide)
  unfold applyOff
  split
  · exact .refl _ s
  · exact .refl _ s
  · exact ((modUnit_frame s u _).trans (modUnit_frame _ u _)).mono (by decide)
  · exact hturned
  · exact hturned
  · exact hturned
  · exact hturned
  · exact (modUnit_frame s u _).mono (by decide)

theorem commandOff_frame (u : Nat) (s : State) : SameExcept unitOffBanks s (commandOff u s) := by
  have hunit : ∀ (t : State) f, SameExcept unitOffBanks t (t.modUnit u f) := fun t f => (modUnit_frame t u f).mono (by decide)
  have hstopped : ∀ f : Drive → Drive, SameExcept unitOffBanks s (regrid (clusterOf u) (applyOff u (s.modDrive u f))) := fun f =>
    ((hunit s _).trans (applyOff_frame u _)).trans ((regrid_frame _ _).mono (by decide))
  unfold commandOff
  split
  · exact .ite (hunit s _) (hstopped _)
  · exact applyOff_frame u s
  · exact hunit s _
  · exact .refl _ s

theorem dropDevice_frame (u : Nat) (p : Fret → Bool) (s : State) : SameExcept unitOffBanks s (dropDevice u p s) := by
  have hremote : ∀ q, SameExcept unitOffBanks s (cancelRemote u q s) := fun q =>
    .ite (.refl _ s) (.foldl _ (fun s _ => (sendZ_frame _ _ _ s).mono (by decide)) _ s)
  exact (hremote _).trans ((cancelFrets_frame u _ _).mono (by decide))

theorem immediate_off_frame (u : Nat) (s : State) : SameExcept unitOffBanks s (immediate u false s) := by
  have hgiven : ∀ t, SameExcept unitOffBanks t (giveCommand u false t) := fun t => by
    unfold giveCommand
    simp only [Bool.not_false, if_true]
    exact .ite (((sendZ_frame _ _ _ t).mono (by decide)).trans ((modUnit_frame _ u _).mono (by decide)))
      ((commandOff_frame u t).trans ((modUnit_frame _ u _).mono (by decide)))
  have hdropped : ∀ (p : Prop) [Decidable p] q, SameExcept unitOffBanks s (if p then dropDevice u q s else giveCommand u false (dropDevice u q s)) :=
    fun p _ q => .ite (dropDevice_frame u q s) ((dropDevice_frame u q s).trans (hgiven _))
  unfold immediate
  simp only
  exact .ite (hdropped _ _) ((hdropped _ _).trans ((modUnit_frame _ u _).mono (by decide)))

/-! ## Pulses (R96 to R100) -/

theorem notify_eventsGrow (n op : Nat) (p : List Byte) (s : State) : EventsGrow s (notify n op p s) := by
  have hput : EventsGrow s (putMsg n op 0 p s) := .of_events (putMsg_frame n op 0 p s .events (by decide))
  have hset : ∀ f, EventsGrow s (s.modCourse n f) := fun f => .of_events rfl
  have hpending : EventsGrow s (addPending n op p s) := by
    unfold addPending
    simp only
    split
    · exact hset _
    · split
      · exact (hset _).trans (edge_grows _ _ _ _)
      · exact hset _
  unfold notify
  split
  · exact .refl s
  · split
    · exact hput
    · exact hpending

theorem thaw_eventsGrow (s : State) : EventsGrow s (thaw s) := by
  unfold thaw
  split
  · exact .refl s
  · have hcounted : EventsGrow s (countTime s) := .of_events (countTime_frame s .events (by decide))
    have hstored : ∀ f g l, EventsGrow (countTime s) (((l : List RecRecord).foldl (fun s p => store p s) ((countTime s).modRec f)).modRec g) :=
      fun f g l => .of_events (((modRec_frame _ f).trans ((SameExcept.foldl _ (fun s p => store_frame p s) l _).trans (modRec_frame _ g))) .events (by decide))
    exact (hcounted.trans (hstored _ _ _)).trans (setLevel_grows _ _ _ _)

theorem closeRecord_eventsGrow (kind : Nat) (isPartial byReset : Bool) (s : State) : EventsGrow s (closeRecord kind isPartial byReset s) := by
  have hcounted : EventsGrow s (countTime s) := .of_events (countTime_frame s .events (by decide))
  have hthawed : ∀ (p : Prop) [Decidable p], EventsGrow s (if p then thaw (countTime s) else countTime s) := fun p _ => by
    split
    · exact hcounted.trans (thaw_eventsGrow _)
    · exact hcounted
  have hset : ∀ (t : State) f, EventsGrow t (t.modRec f) := fun t f => .of_events (modRec_frame t f .events (by decide))
  have hstored : ∀ (t : State) e f, EventsGrow t (store e (t.modRec f)) := fun t e f =>
    (hset t f).trans (.of_events (store_frame e _ .events (by decide)))
  unfold closeRecord
  simp only
  have h := hthawed (((countTime s).recorder.frozenAt.isSome && decide (8 ≤ (countTime s).recorder.pending.length)) = true)
  generalize (if ((countTime s).recorder.frozenAt.isSome && decide (8 ≤ (countTime s).recorder.pending.length)) = true then thaw (countTime s)
    else countTime s) = t at h ⊢
  split
  · exact h
  · split
    · exact h.trans (hset t _)
    · exact h.trans (hstored t _ _)

theorem hourAfterSet_eventsGrow (s : State) : EventsGrow s (hourAfterSet s) := by
  unfold hourAfterSet
  split
  · exact (closeRecord_eventsGrow _ _ _ s).trans (.of_events (((countTime_frame _).trans (modRec_frame _ _)) .events (by decide)))
  · exact .refl s

theorem setQuality_step (q : Nat) (s : State) : SameExcept [.nav, .courses, .events] s (setQuality q s) ∧ EventsGrow s (setQuality q s)
    ∧ (setQuality q s).nav = { s.nav with quality := q, everLocked := if s.nav.quality = q then s.nav.everLocked else s.nav.everLocked || q == 1 } := by
  unfold setQuality
  split
  case isTrue h =>
    subst h
    exact ⟨.refl _ s, .refl s, rfl⟩
  case isFalse h =>
    simp only
    have hset := modNav_frame s fun n => { n with quality := q, everLocked := n.everLocked || q == 1 }
    generalize hu : (s.modNav fun n => { n with quality := q, everLocked := n.everLocked || q == 1 }) = u at *
    have htold := (notify_frame 1 33540 (timePayload u) u).append (edge_frame_own (n := 36) (inst := q) (code := 0) rfl)
    refine ⟨(hset.append htold).mono (by decide), ?_, ?_⟩
    · exact ((EventsGrow.of_events (hset .events (by decide))).trans (notify_eventsGrow _ _ _ u)).trans (edge_grows _ _ _ _)
    · rw [htold.nav (by decide), ← hu]
      rfl

/-- A pulse shows and is told. -/
def pulseShown (s : State) : State := notify 1 33540 (timePayload s) (edge 35 0 0 s)

theorem pulseShown_step (s : State) : SameExcept [.courses, .events] s (pulseShown s) ∧ Asserted 35 s (pulseShown s) :=
  ⟨((edge_frame_own (n := 35) (inst := 0) (code := 0) rfl).append (notify_frame 1 33540 (timePayload s) _)).mono (by decide),
    (edge_asserted (n := 35) rfl 0 0 s).kept (notify_eventsGrow _ _ _ _).kept⟩

theorem Asserted.of_grown {n : Nat} {s t u : State} (h : Asserted n t u) (k : EventsGrow s t) : Asserted n s u :=
  lt_of_le_of_lt (k.kept.asserted n) h



/-- R97: a correction leaves the time quality alone. -/
theorem correct_quality (err : Int) (first : Bool) (n : NavSt) : (correct err first n).1.quality = n.quality := by
  unfold correct
  split_ifs <;> rfl

/-- A step of time's events, which changes no bank but theirs. -/
theorem timeEdges_step (p q : Prop) [Decidable p] [Decidable q] (k : Nat) (s : State) :
    SameExcept [.events] s (if q then edge 46 0 1 (if p then edge 36 k 1 s else s) else if p then edge 36 k 1 s else s)
    ∧ EventsGrow s (if q then edge 46 0 1 (if p then edge 36 k 1 s else s) else if p then edge 36 k 1 s else s) := by
  have hfirst : SameExcept [.events] s (if p then edge 36 k 1 s else s) ∧ EventsGrow s (if p then edge 36 k 1 s else s) := by
    split
    · exact ⟨edge_frame_own rfl, edge_grows _ _ _ s⟩
    · exact ⟨.refl _ s, .refl s⟩
  obtain ⟨hframe, hgrow⟩ := hfirst
  split
  · exact ⟨hframe.trans (edge_frame_own rfl), hgrow.trans (edge_grows _ _ _ _)⟩
  · exact ⟨hframe, hgrow⟩

/-- R96, R97: a LOCKED pulse takes its time over, shows and is told, and sets the RTC. -/
theorem lockedPulse_shows (p : TimeSolution) (s : State) : ∃ u, SameExcept [.nav, .courses, .events] s u ∧ EventsGrow s u
    ∧ u.nav.ppsAt = some s.devtime ∧ u.nav.quality = 1 ∧ u.nav.utcS = (if p.leapActive && s.nav.ppsAt.isSome then s.nav.utcS else p.utcS)
    ∧ u.nav.gpsTow = p.gpsTow ∧ u.nav.errBound = p.errBoundNs
    ∧ lockedPulse p s = setRtc (if p.leapActive && s.nav.ppsAt.isSome then s.nav.utcS else p.utcS) (pulseShown u) := by
  obtain ⟨hframe, hgrow, hnav⟩ := setQuality_step 1 (s.modNav fun n => { n with boundFromRtc := false })
  have hquality := correct_quality (pulseError s p) s.nav.ppsAt.isNone (setQuality 1 (s.modNav fun n => { n with boundFromRtc := false })).nav
  rw [hnav] at hquality
  unfold lockedPulse
  simp only
  rw [hnav]
  have hset := modNav_frame s fun n => { n with boundFromRtc := false }
  generalize setQuality 1 (s.modNav fun n => { n with boundFromRtc := false }) = s1 at *
  generalize correct (pulseError s p) s.nav.ppsAt.isNone _ = c at hquality ⊢
  have hedges : ∀ g (P Q : Prop) [Decidable P] [Decidable Q] k,
      SameExcept [.nav, .courses, .events] s (if Q then edge 46 0 1 (if P then edge 36 k 1 (s1.modNav g) else s1.modNav g)
        else if P then edge 36 k 1 (s1.modNav g) else s1.modNav g)
      ∧ EventsGrow s (if Q then edge 46 0 1 (if P then edge 36 k 1 (s1.modNav g) else s1.modNav g)
        else if P then edge 36 k 1 (s1.modNav g) else s1.modNav g)
      ∧ (if Q then edge 46 0 1 (if P then edge 36 k 1 (s1.modNav g) else s1.modNav g)
        else if P then edge 36 k 1 (s1.modNav g) else s1.modNav g).nav = g s1.nav := fun g P Q _ _ k => by
    obtain ⟨kframe, kgrow⟩ := timeEdges_step P Q k (s1.modNav g)
    exact ⟨(((hset.append hframe).append (modNav_frame s1 g)).append kframe).mono (by decide),
      (((EventsGrow.of_events (hset .events (by decide))).trans hgrow).trans (.of_events (modNav_frame s1 g .events (by decide)))).trans kgrow,
      kframe.nav (by decide)⟩
  refine ⟨_, (hedges _ _ _ _).1, (hedges _ _ _ _).2.1, ?_, ?_, ?_, ?_, ?_, rfl⟩
  · exact congrArg NavSt.ppsAt (hedges _ _ _ _).2.2
  · exact (congrArg NavSt.quality (hedges _ _ _ _).2.2).trans hquality
  · exact congrArg NavSt.utcS (hedges _ _ _ _).2.2
  · exact congrArg NavSt.gpsTow (hedges _ _ _ _).2.2
  · exact congrArg NavSt.errBound (hedges _ _ _ _).2.2

/-- R98: a pulse in holdover counts on from the one before. -/
theorem holdoverPulse_shows {p : TimeSolution} {s : State} (hleap : p.leapActive = false) : ∃ u, SameExcept [.nav, .courses, .events] s u ∧ EventsGrow s u
    ∧ u.nav.ppsAt = some s.devtime ∧ u.nav.quality = (if s.nav.quality = 1 then 2 else s.nav.quality)
    ∧ u.nav.utcS = s.nav.utcS + max 1 ((s.devtime - s.nav.ppsAt.getD s.devtime + 500000) / 1000000) ∧ holdoverPulse p s = pulseShown u := by
  have hdegraded : SameExcept [.nav, .courses, .events] s (if s.nav.quality = 1 then setQuality 2 s else s)
      ∧ EventsGrow s (if s.nav.quality = 1 then setQuality 2 s else s)
      ∧ (if s.nav.quality = 1 then setQuality 2 s else s).nav.quality = (if s.nav.quality = 1 then 2 else s.nav.quality)
      ∧ (if s.nav.quality = 1 then setQuality 2 s else s).nav.utcS = s.nav.utcS := by
    obtain ⟨hframe, hgrow, hnav⟩ := setQuality_step 2 s
    split
    · rw [hnav]
      exact ⟨hframe, hgrow, rfl, rfl⟩
    · exact ⟨.refl _ s, .refl s, rfl, rfl⟩
  obtain ⟨hframe, hgrow, hquality, hutc⟩ := hdegraded
  unfold holdoverPulse
  simp only [hleap, Bool.false_eq_true, if_false]
  generalize (if s.nav.quality = 1 then setQuality 2 s else s) = s1 at *
  have hset : ∀ g, SameExcept [.nav, .courses, .events] s (s1.modNav g) ∧ EventsGrow s (s1.modNav g) := fun g =>
    ⟨hframe.trans ((modNav_frame s1 g).mono (by decide)), hgrow.trans (.of_events (modNav_frame s1 g .events (by decide)))⟩
  refine ⟨_, (hset _).1, (hset _).2, ?_, ?_, ?_, rfl⟩
  · rfl
  · exact hquality
  · simp [hutc, bit]

/-- R349: setting the RTC leaves navigation alone. -/
theorem setRtc_step (utc : Nat) (s : State) : SameExcept [.power, .recorder, .events] s (setRtc utc s) ∧ EventsGrow s (setRtc utc s)
    ∧ (setRtc utc s).power = { s.power with rtcMs := 1000 * utc, rtcAt := s.devtime, rtcSet := true, rtcErrUs := 1000 } := by
  have hset := modPower_frame s fun p => { p with rtcMs := 1000 * utc, rtcAt := s.devtime, rtcSet := true, rtcErrUs := 1000 }
  have hhour := hourAfterSet_frame (s.modPower fun p => { p with rtcMs := 1000 * utc, rtcAt := s.devtime, rtcSet := true, rtcErrUs := 1000 })
  exact ⟨(hset.append hhour).mono (by decide), (EventsGrow.of_events (hset .events (by decide))).trans (hourAfterSet_eventsGrow _), hhour.power (by decide)⟩

/-! ## The statement -/

/-- Settles O28: a fused epoch moves the units (`fusedEpoch_taken`); a pulse takes its time over and shows. -/
theorem epochsAndPulses : Obligations.EpochsAndPulses := by
  unfold Obligations.EpochsAndPulses
  refine ⟨fun f => ?_, ?_, ?_, ?_, fun p hlocked => ?_, fun p hunlocked hleap => ?_, fun p hunlocked => ?_, ?_⟩
  · refine .of_nav (fun s => if coreOut s 2 then s else fusedEpoch f s) (fun τ s => by unfold exec; rfl) (fun s hpre => hpre.2) fun s0 s ⟨hcore, _⟩ => ?_
    obtain ⟨hframe, hepoch, hstale, hlive, hfirst, hvbat, hmoved⟩ := fusedEpoch_taken f s
    simp only [hcore, Bool.false_eq_true, if_false]
    generalize fusedEpoch f s = t at *
    have hend := settle_frame s0 t
    have hnav := hend.nav (by decide)
    exact ⟨(congrArg NavSt.epoch hnav).trans hepoch, (congrArg NavSt.odoStale hnav).trans hstale, (congrArg NavSt.fretsLive hnav).trans hlive,
      (congrArg NavSt.firstEpoch hnav).trans hfirst, (congrArg NavSt.vbatMv hnav).trans hvbat, hmoved.of_frame (.of_frame hend) hend (by decide),
      hframe.only_settle_of s0 (by decide)⟩
  · refine .of_nav holdUsedUp (fun τ s => by unfold exec; rfl) (fun s hpre => hpre.1) fun s0 s ⟨_, huncertain, hactive, hleft⟩ => ?_
    have hused : holdUsedUp s = (s.sectionUnits.foldl (fun s u => if (s.unit u).sect.hostMode = 0 then immediate u false s else s) s).modNav
        fun n => { n with holdActive := false } := by simp [holdUsedUp, huncertain, hactive, hleft]
    have hoff : SameExcept unitOffBanks s (s.sectionUnits.foldl (fun s u => if (s.unit u).sect.hostMode = 0 then immediate u false s else s) s) :=
      .foldl _ (fun s u => .ite (immediate_off_frame u s) (.refl _ s)) _ s
    rw [hused]
    refine ⟨((settle_frame s0 _).nav (by decide)).trans ?_, (hoff.append (modNav_frame _ _)).only_settle_of s0 (by decide)⟩
    rw [State.modNav_nav_self, hoff.nav (by decide)]
  · refine .of_nav (fun s => if !s.nav.uncertain && s.nav.everFix && decide (5000000 ≤ s.nav.withinUm) then
        s.modNav fun n => { n with holdLeft := 1000 * s.cfg.package.holdDistMm } else s) (fun τ s => by unfold exec; rfl) (fun s hpre => hpre.1)
      fun s0 s ⟨_, hcertain, hfix, hwithin⟩ => ?_
    have hdue : (!s.nav.uncertain && s.nav.everFix && decide (5000000 ≤ s.nav.withinUm)) = true := by simp [hcertain, hfix, hwithin]
    rw [if_pos hdue]
    exact ⟨(settle_frame s0 _).nav (by decide), (modNav_frame s _).only_settle s0⟩
  · refine .of_nav (fun s => if posDue s then notify 1 33537 s.nav.posMsg (s.modNav fun n => { n with posAt := some s.devtime }) else s)
      (fun τ s => by unfold exec; rfl) (fun s hpre => hpre.1) fun s0 s ⟨hruns, hdue, hnone, hroom⟩ => ?_
    rw [if_pos hdue, notify_of_room (s := s.modNav fun n => { n with posAt := some s.devtime }) (follower_of_navRuns hruns) hnone hroom]
    have hput := putMsg_frame 1 33537 0 s.nav.posMsg (s.modNav fun n => { n with posAt := some s.devtime })
    exact ⟨(hput.append (settle_frame s0 _)).nav (by decide), told_settle_putMsg _ _ _ s0 _, ((modNav_frame s _).append hput).only_settle_of s0 (by decide)⟩
  · refine .of_settle (fun s => if awake s && s.start.configActive && !s.follower then takePulse p s else s)
      (fun τ s _ => by unfold exec; exact at_next _ _ _) fun s0 s hruns => ?_
    have hdue : (awake s && s.start.configActive && !s.follower) = true := by
      simp only [navRuns, Bool.and_eq_true, Bool.not_eq_true'] at hruns ⊢
      exact ⟨hruns.1.1.1, hruns.1.2⟩
    obtain ⟨u, hframe, hgrow, hpps, hquality, hutc, htow, hbound, heq⟩ := lockedPulse_shows p s
    have hpulse : takePulse p s = lockedPulse p s := by simp [takePulse, hlocked, hruns]
    rw [if_pos hdue, hpulse, heq]
    generalize (if p.leapActive && s.nav.ppsAt.isSome then s.nav.utcS else p.utcS) = utc at *
    obtain ⟨kframe, hasserted⟩ := pulseShown_step u
    obtain ⟨rframe, rgrow, rpower⟩ := setRtc_step utc (pulseShown u)
    have hend := settle_frame s0 (setRtc utc (pulseShown u))
    have hnav := ((kframe.append rframe).append hend).nav (by decide)
    have hall := (hframe.append kframe).append rframe
    have hpower := (hframe.append kframe).power (by decide)
    rw [hnav, hend.power (by decide), rpower, hpower, hutc, (hframe.append kframe).devtime (by decide)]
    exact ⟨hpps, hquality, rfl, htow, hbound, rfl, ((hasserted.of_grown hgrow).kept rgrow.kept).settle s0, hall.only_settle_of s0 (by decide)⟩
  · refine .of_settle (fun s => if awake s && s.start.configActive && !s.follower then takePulse p s else s)
      (fun τ s _ => by unfold exec; exact at_next _ _ _) fun s0 s ⟨hawake, hactive, hlead, hpps⟩ => ?_
    have hdue : (awake s && s.start.configActive && !s.follower) = true := by simp [hawake, hactive, hlead]
    obtain ⟨u, hframe, hgrow, hat, hquality, hutc, heq⟩ := holdoverPulse_shows (s := s) hleap
    have hpulse : takePulse p s = holdoverPulse p s := by simp [takePulse, hunlocked, hpps]
    rw [if_pos hdue, hpulse, heq]
    obtain ⟨kframe, hasserted⟩ := pulseShown_step u
    rw [(kframe.append (settle_frame s0 (pulseShown u))).nav (by decide)]
    exact ⟨hat, hutc, hquality, (hasserted.of_grown hgrow).settle s0, (hframe.append kframe).only_settle_of s0 (by decide)⟩
  · refine .of_settle (fun s => if awake s && s.start.configActive && !s.follower then takePulse p s else s)
      (fun τ s _ => by unfold exec; exact at_next _ _ _) fun s0 s hnone => ?_
    have hquiet : takePulse p s = s := by simp [takePulse, hunlocked, hnone]
    rw [hquiet, ite_self]
    exact (SameExcept.refl [] s).only_settle s0
  · refine .of_nav nmea (fun τ s => by unfold exec; rfl) (fun s hpre => hpre.1) fun s0 s ⟨_, hdue⟩ => ?_
    have hsent : nmea s = s.modNav fun n => { n with nmea := some (s.devtime, nmeaBlock s) } := by
      unfold nmea
      cases hlast : s.nav.nmea with
      | none => rfl
      | some x => simp [hdue x hlast]
    rw [hsent]
    exact ⟨(settle_frame s0 _).nav (by decide), (modNav_frame s _).only_settle s0⟩

end Sys2Proof.Machine
end

section
/-! Statements about the journal that fail in a state that their premises leave open. -/

namespace Sys2Proof.Machine

/-! ## A commit of the map whose partition has stopped (R498, R502) -/

/-- A journal commit is due, the map has a change to write, and writes to its partition have stopped. -/
def stoppedMap : State :=
  { devtime := 100000, power := { supplies := true, state := .run }, start := { ready := true }, storage := { stopped := [7] },
    cov := { delta := [{}] } }

theorem exec_journalCommit_stopped : ∃ t, exec (.journalCommit 100000 true) stoppedMap = .next t ∧ t.cov = stoppedMap.cov := by
  refine ⟨_, by change execJournalCommit 100000 true stoppedMap = _; rw [execJournalCommit, at_next], ?_⟩
  exact (settle_frame _ _ .cov (by decide)).trans (by rfl)

/-- Refutes O32: its clause on JOURNAL_COMMIT empties the map's delta whatever partition has stopped; where writes to the map's partition have
stopped, that part of the commit waits (R502). -/
theorem not_decisionsAndJournal : ¬Obligations.DecisionsAndJournal := by
  unfold Obligations.DecisionsAndJournal
  rintro ⟨-, -, -, -, -, hcommit, -⟩
  obtain ⟨t, ht, hcov⟩ := exec_journalCommit_stopped
  obtain ⟨-, -, hdelta, -⟩ := hcommit.of_next (by decide) ht
  rw [hcov] at hdelta
  exact absurd hdelta (by decide)

/-! ## A second sample of one instant (R263) -/

/-- Loop 0 has been sampled at this instant, and the host has set its mode since. -/
def sampledLoop : State :=
  { power := { supplies := true, state := .run }, start := { configActive := true }, cfg := { loops := [(0, {})] },
    loops := [(0, { newMode := some .hold, sampledAt := some 0 })] }

theorem exec_loopSample_sampled : ∃ t, exec (.loopSample 0 0 none) sampledLoop = .next t ∧ (t.loop 0).newMode = some .hold := by
  refine ⟨_, by change execLoopSample 0 0 none sampledLoop = _; rw [execLoopSample, if_pos (by decide), atOut, at_next], ?_⟩
  exact congrArg (fun ls => (tget ls {} 0).newMode) (settle_frame _ _ .loops (by decide))

/-- Refutes O39: its clause on a mode that the host set takes a second sample at one instant for a sample; the equation is evaluated once per
period (R263). -/
theorem not_loopEvents : ¬Obligations.LoopEvents := by
  unfold Obligations.LoopEvents
  rintro ⟨-, -, hmode, -⟩
  obtain ⟨t, ht, hstays⟩ := exec_loopSample_sampled
  obtain ⟨-, hnew, -⟩ := (hmode 0 none (by decide)).of_next (by decide) ht
  exact absurd (hstays.symm.trans hnew) (by decide)

end Sys2Proof.Machine
end

section
/-! Statements about power moves that fail in a state that their premises leave open. -/

namespace Sys2Proof.Machine

/-! ## A wake source in RUN with the target of an entry sequence left over (R337, R340) -/

/-- A device in RUN that still holds the target of an entry sequence. -/
def leftEntry : State := { power := { supplies := true, state := .run, entry := some (.nap, .run) } }

theorem exec_wakeSource_left : ∃ t, exec (.wakeSource 0 0 {}) leftEntry = .next t ∧ t.power.wakeBits = 1 := by
  refine ⟨_, by change execWakeSource 0 0 {} leftEntry = _; rw [execWakeSource, about_next (by decide)], ?_⟩
  rw [(settle_frame _ _).power (by decide)]
  rfl

/-- Refutes O47: its clause on a wake source in RUN leaves open that the target of an entry sequence is still held; the source then acts by that
target, and its bit of WAKE is set. -/
theorem not_powerMoves : ¬Obligations.PowerMoves := by
  unfold Obligations.PowerMoves
  rintro ⟨-, -, hrun, -⟩
  obtain ⟨t, ht, hbits⟩ := exec_wakeSource_left
  have honly := (hrun 0 {} (by decide)).of_next (by decide) ht
  have hpower : t.power = leftEntry.power := (SameExcept.power honly (by decide)).trans (by rfl)
  exact absurd (hbits.symm.trans (congrArg PowerSt.wakeBits hpower)) (by decide)

end Sys2Proof.Machine
end

section
/-! Statements about CAN and Zither that fail in a state that their premises leave open. -/

namespace Sys2Proof.Machine

/-! ## A CAN_SP period at the controller of the host link (R260, R407) -/

/-- A host link over controller 0, on which no ISO 11783 runs, with a signal to the host and a CAN_SP frame that is due. -/
def linkedController : State :=
  { devtime := 300000, power := { supplies := true, state := .run }, start := { configActive := true },
    cfg := { host := { link := .isobus 0 0 }, loops := [(0, { out := .canSp 0 5 0 8 1 1 })] },
    loops := [(0, { spAt := some 0 })], can := [(0, { addr := some 1, claiming := some (1, 0), hostAddr := some 2 })],
    events := { stopped := true, targets := [(9, { ne := true })] } }

theorem exec_canSpPeriod_linked : ∃ t, exec (.canSpPeriod 300000 0) linkedController = .next t ∧ (t.canOf 0).sent.length = 2 := by
  refine ⟨_, by change execCanSpPeriod 300000 0 linkedController = _; rw [execCanSpPeriod, about_next (by decide)], ?_⟩
  rfl

/-- Refutes O49: its last clause takes a controller that carries the host link without ISO 11783; records of the host queue may go out after the
CAN_SP frame (R407). -/
theorem not_iso11783 : ¬Obligations.Iso11783 := by
  unfold Obligations.Iso11783
  rintro ⟨-, -, -, -, -, -, -, -, -, -, -, -, -, hsp⟩
  obtain ⟨t, ht, htwo⟩ := exec_canSpPeriod_linked
  obtain ⟨-, -, hsent, -⟩ := (hsp 0 0 5 0 8 1 1 0 (by decide) (by decide)).of_next (by decide) ht
  exact absurd ((congrArg List.length hsent).symm.trans htwo) (by decide)

/-! ## A FOLLOW_UP before the one that came last (R451) -/

/-- A welcomed follower whose last FOLLOW_UP is dated after now. -/
def datedAhead : State :=
  { power := { supplies := true, state := .run }, start := { configActive := true },
    cfg := { package := { member := true, pkgIndex := 1 } },
    zither := { welcomed := true, joined := some 0, offsetNs := some 0, followAt := some 1 } }

/-- Refutes O50: its clause on slewing bounds the change of the offset by the time since the last FOLLOW_UP also where that lies ahead of now;
no change is then small enough. -/
theorem not_zitherTimeMotionFrets : ¬Obligations.ZitherTimeMotionFrets := by
  unfold Obligations.ZitherTimeMotionFrets
  rintro ⟨-, -, hslew, -⟩
  obtain ⟨-, -, ⟨d, -, habove, hbelow⟩, -⟩ :=
    hslew 0 0 0 1 { t := 0, src := 0, epoch := 0, seq := 0 } datedAhead (by decide) (by decide) (by decide)
  have habove' : 100 * d ≤ (0 : Int) - 1 := habove
  have hbelow' : -(100 * d) ≤ (0 : Int) - 1 := hbelow
  omega

end Sys2Proof.Machine
end

section
/-! Calibrations after the start (R361 to R365). -/

namespace Sys2Proof.Machine

/-! ## Regions and deferred elements (R362, R363) -/

theorem calFail_frame (inst : Nat) (s : State) : SameExcept [.events, .faults] s (calFail inst s) := fault_frame_own rfl _ _ _ _ s

theorem setGain_frame (wake : Bool) (s : State) (u : Nat) : SameExcept [.units] s (setGain wake s u) := modUnit_frame _ _ _

theorem setGains_frame (wake : Bool) (us : List Nat) (s : State) : SameExcept [.units] s (us.foldl (setGain wake) s) :=
  .foldl _ (fun t u => setGain_frame wake t u) us s

/-- R362: the one unit of a region that fails is unavailable, and reported. -/
theorem calibrateRegion_of_unit {r u : Nat} {s : State} (hu : u < 128) (hready : s.start.ready = true) (hwaits : r ∈ s.start.uncalibrated)
    (hgroup : tget s.power.groups false r = true) (hregion : regionOf (clusterOf u) = r) :
    u ∈ (calibrateRegion r [u] [] [] [] s).start.badUnits ∧ r ∉ (calibrateRegion r [u] [] [] [] s).start.uncalibrated
      ∧ Raised 15 u 5 3 s (calibrateRegion r [u] [] [] [] s)
      ∧ SameExcept [.start, .units, .events, .faults, .ledger] s (calibrateRegion r [u] [] [] [] s) := by
  have hunits : (([u] ++ ([] : List Nat).flatMap unitsOfCluster).eraseDups).filter (fun v => regionOf (clusterOf v) == r && decide (v < 128)) = [u] := by
    simp [List.eraseDups_cons, hu, hregion]
  have hruns : ¬(!s.start.ready || !s.start.uncalibrated.contains r || !tget s.power.groups false r) = true := by simp [hready, hwaits, hgroup]
  rw [calibrateRegion, if_neg hruns]
  simp only [hunits, List.eraseDups_nil, List.filter_nil, ite_self, List.append_nil, List.foldl_cons, List.foldl_nil]
  generalize hmarked : s.modStart _ = s1
  have hstart : SameExcept [.start] s s1 := hmarked ▸ modStart_frame s _
  have hgains := setGains_frame false (measuredUnits s r) s1
  have hfail := calFail_frame u ((measuredUnits s r).foldl (setGain false) s1)
  have hskip := skipDrift_frame (calFail u ((measuredUnits s r).foldl (setGain false) s1)) (driftOfRegion r)
  have hkept := ((hgains.append hfail).append hskip) .start (by decide)
  refine ⟨?_, ?_, ((raised_fault 15 u 5 3 0 _).of_before (hstart.append hgains) (by decide)).mono fun e he => ?_,
    (((hstart.append hgains).append hfail).append hskip).mono (by decide)⟩
  · rw [hkept, ← hmarked]
    simp
  · rw [hkept, ← hmarked]
    simp
  · rwa [hskip .faults (by decide)]

/-- R363: a deferred element that has been off for 5 ms, once it is taken off the list. -/
def undeferred (kind element : Nat) (s : State) : State :=
  skipDrift (driftOfLine (deferredLine kind element)) (s.modStart fun x => { x with deferred := x.deferred.filter (· != (kind, element)) })

theorem undeferred_frame (kind element : Nat) (s : State) : SameExcept [.start, .ledger] s (undeferred kind element s) :=
  by
  unfold undeferred
  exact (modStart_frame s fun x => { x with deferred := x.deferred.filter (· != (kind, element)) }).append (skipDrift_frame _ _)

theorem undeferred_start (kind element : Nat) (s : State) :
    (undeferred kind element s).start = { s.start with deferred := s.start.deferred.filter (· != (kind, element)) } := rfl

section
variable {kind element : Nat} {s : State} (hready : s.start.ready = true) (hdeferred : (kind, element) ∈ s.start.deferred)
  (hoff : lineOff s (deferredLine kind element) = true) (hdue : s.start.readyAt + 5000 ≤ s.devtime)
include hready hdeferred hoff hdue

theorem not_calibrationWaits : ¬(!s.start.ready || !s.start.deferred.contains (kind, element) || !lineOff s (deferredLine kind element)
    || decide (s.devtime < s.start.readyAt + 5000)) = true := by simp [hready, hdeferred, hoff, hdue]

theorem calibrateDeferred_of_pass : calibrateDeferred kind element true s
    = if kind = 0 then setGain false (undeferred kind element s) element else undeferred kind element s := by
  rw [calibrateDeferred, if_neg (not_calibrationWaits hready hdeferred hoff hdue)]
  exact if_pos rfl

end

theorem calibrateDeferred_switch_of_fail {e : Nat} {s : State} (hready : s.start.ready = true) (hdeferred : (1, e) ∈ s.start.deferred)
    (hoff : lineOff s (.switch e) = true) (hdue : s.start.readyAt + 5000 ≤ s.devtime) : calibrateDeferred 1 e false s
    = calFail e ((undeferred 1 e s).modStart fun x => { x with badSwitches := x.badSwitches ++ [e] }) := by
  rw [calibrateDeferred, if_neg (not_calibrationWaits hready hdeferred hoff hdue)]
  exact if_neg (by decide)

/-! ## Front ends (R365) -/

theorem antennaBack_frame (a : Nat) (s : State) : SameExcept [.nav, .events] s (antennaBack a s) := by
  unfold antennaBack
  exact (modNav_frame s _).append (setLevel_frame _ _ _ _)

theorem calibrateFrontEnd_of_awake {a : Nat} {s : State} (hawake : awake s = true) (hbad : a ∈ s.start.rfBad) :
    calibrateFrontEnd a false s = fault 15 a 7 2 0 (s.modPower fun p => { p with vddRf := true }) := by
  simp [calibrateFrontEnd, hawake, hbad]

/-- R365: a front end that passes is in use again, and its antenna is not lost. -/
theorem calibrateFrontEnd_of_pass {a : Nat} {s : State} (hawake : awake s = true) (hbad : a ∈ s.start.rfBad) :
    (calibrateFrontEnd a true s).power.vddRf = true ∧ a ∉ (calibrateFrontEnd a true s).start.rfBad
      ∧ (if a = 0 then (calibrateFrontEnd a true s).nav.antLost.1 else (calibrateFrontEnd a true s).nav.antLost.2) = false
      ∧ SameExcept [.power, .start, .nav, .events] s (calibrateFrontEnd a true s) := by
  have hruns : ¬(!awake s || !s.start.rfBad.contains a) = true := by simp [hawake, hbad]
  rw [calibrateFrontEnd, if_neg hruns, if_pos rfl]
  generalize hcalibrated : (s.modPower fun p => { p with vddRf := true }).modStart _ = s1
  have hframe : SameExcept [.power, .start] s s1 := hcalibrated ▸ (modPower_frame s _).append (modStart_frame _ _)
  have hpower : s1.power.vddRf = true := by rw [← hcalibrated]; rfl
  have hstart : a ∉ s1.start.rfBad := by rw [← hcalibrated]; simp
  generalize hlost : (if a = 0 then s.nav.antLost.1 else s.nav.antLost.2) = lost
  cases lost
  case true =>
    have hback := antennaBack_frame a s1
    refine ⟨(congrArg PowerSt.vddRf (hback.power (by decide))).trans hpower, fun hmem => hstart ?_, ?_, hframe.append hback⟩
    · exact (hback .start (by decide) : _ = s1.start) ▸ hmem
    · simp only [if_true, antennaBack, (setLevel_frame _ _ _ _).nav (bs := [.events]) (by decide)]
      by_cases ha : a = 0 <;> simp [ha]
  case false =>
    exact ⟨hpower, hstart, (congrArg (fun n : NavSt => if a = 0 then n.antLost.1 else n.antLost.2) (hframe.nav (by decide))).trans hlost,
      hframe.mono (by decide)⟩

/-! ## The statement -/

/-- Settles O46: what was not calibrated at the start leaves its list, and a failure is marked and reported. -/
theorem calibration : Obligations.Calibration := by
  unfold Obligations.Calibration
  refine ⟨fun r u hr hu => ?_, fun r us cls sws fos hr => ?_, fun k e => ?_, fun e => ?_, fun a ha => ?_, fun a ha => ?_⟩
  · refine .of_settle (calibrateRegion r [u] [] [] []) (fun τ s _ => by unfold exec; exact about_next hr) fun s0 s hpre => ?_
    obtain ⟨hready, hwaits, hgroup, hregion⟩ := hpre
    obtain ⟨hbad, hgone, hraised, hframe⟩ := calibrateRegion_of_unit hu hready hwaits hgroup hregion
    rw [settle_frame s0 _ .start (by decide)]
    exact ⟨hbad, hgone, hraised.settle s0, hframe.only_settle_of s0 (by decide)⟩
  · refine .of_settle (calibrateRegion r us cls sws fos) (fun τ s _ => by unfold exec; exact about_next hr) fun s0 s hpre => ?_
    have hstays : calibrateRegion r us cls sws fos s = s := by simp [calibrateRegion, hpre]
    rw [hstays]
    exact (SameExcept.refl [] s).only_settle s0
  · refine .of_settle (calibrateDeferred k e true) (fun τ s _ => by unfold exec; exact at_next _ _ _) fun s0 s hpre => ?_
    obtain ⟨hready, hdeferred, hoff, hdue⟩ := hpre
    have hafter : SameExcept [.units] (undeferred k e s) (calibrateDeferred k e true s) := by
      rw [calibrateDeferred_of_pass hready hdeferred hoff hdue]
      exact .ite (setGain_frame _ _ _) (.refl _ _)
    rw [settle_frame s0 _ .start (by decide), hafter .start (by decide), undeferred_start]
    exact ⟨by simp, rfl, ((undeferred_frame k e s).append hafter).only_settle s0⟩
  · refine .of_settle (calibrateDeferred 1 e false) (fun τ s _ => by unfold exec; exact at_next _ _ _) fun s0 s hpre => ?_
    obtain ⟨hready, hdeferred, hoff, hdue⟩ := hpre
    rw [calibrateDeferred_switch_of_fail hready hdeferred hoff hdue]
    have hframe := (undeferred_frame 1 e s).trans ((modStart_frame (undeferred 1 e s) fun x => { x with badSwitches := x.badSwitches ++ [e] }).mono (by decide))
    have hfail := calFail_frame e ((undeferred 1 e s).modStart fun x => { x with badSwitches := x.badSwitches ++ [e] })
    rw [settle_frame s0 _ .start (by decide), hfail .start (by decide)]
    exact ⟨by simp [undeferred_start], rfl, ((raised_fault 15 e 5 3 0 _).of_before hframe (by decide)).settle s0,
      (hframe.append hfail).only_settle_of s0 (by decide)⟩
  · refine .of_settle (calibrateFrontEnd a false) (fun τ s _ => by unfold exec; exact about_next ha) fun s0 s hpre => ?_
    obtain ⟨hawake, hbad⟩ := hpre
    rw [calibrateFrontEnd_of_awake hawake hbad]
    have hframe := modPower_frame s fun p => { p with vddRf := true }
    have hfail := fault_frame_own (n := 15) rfl a 7 2 0 (s.modPower fun p => { p with vddRf := true })
    rw [(settle_frame s0 _).power (by decide), settle_frame s0 _ .start (by decide), hfail.power (by decide), hfail .start (by decide)]
    exact ⟨rfl, rfl, ((raised_fault 15 a 7 2 0 _).of_before hframe (by decide)).settle s0, (hframe.append hfail).only_settle_of s0 (by decide)⟩
  · refine .of_settle (calibrateFrontEnd a true) (fun τ s _ => by unfold exec; exact about_next ha) fun s0 s hpre => ?_
    obtain ⟨hawake, hbad⟩ := hpre
    obtain ⟨hpower, hgone, hback, hframe⟩ := calibrateFrontEnd_of_pass hawake hbad
    rw [(settle_frame s0 _).power (by decide), settle_frame s0 _ .start (by decide), (settle_frame s0 _).nav (by decide)]
    exact ⟨hpower, hgone, hback, hframe.only_settle_of s0 (by decide)⟩

end Sys2Proof.Machine
end

section
/-! SENT frames and the standing of the speed sources (R122 to R127). -/

namespace Sys2Proof.Machine

theorem SameExcept.sentOf {bs : List Bank} {s t : State} (h : SameExcept bs s t) (hb : .odo ∉ bs) (k : Nat) : t.sentOf k = s.sentOf k :=
  congrArg (fun o : OdoSt => tget o.sent {} k) (h .odo hb)

/-! ## SENT channels (R123, R124) -/

section
variable {ch : Nat} {s : State}

theorem loseSent_frame : SameExcept [.odo, .events, .dies, .faults] s (loseSent ch s) := by
  unfold loseSent
  exact .ite (.refl _ s) (((modSent_frame s ch _).append (fault_frame (200 + ch) 0 0 2 0 _)).mono (by decide))

theorem loseSent_of_held (hheld : (s.sentOf ch).lost = false) : loseSent ch s
    = fault (200 + ch) 0 0 2 0 (s.modSent ch fun x => { x with lost := true, loss := (x.loss + 1) % 4294967296, goodRun := 0 }) := by
  simp [loseSent, hheld]

theorem loseSent_raises (hheld : (s.sentOf ch).lost = false) : Raised (200 + ch) 0 0 2 s (loseSent ch s) := by
  rw [loseSent_of_held hheld]
  exact (raised_fault (200 + ch) 0 0 2 0 _).of_before (modSent_frame s ch _) (by decide)

theorem loseSent_sentOf (hheld : (s.sentOf ch).lost = false) :
    (loseSent ch s).sentOf ch = { s.sentOf ch with lost := true, loss := ((s.sentOf ch).loss + 1) % 4294967296, goodRun := 0 } := by
  rw [loseSent_of_held hheld, (fault_frame (200 + ch) 0 0 2 0 _).sentOf (by decide), State.modSent_sentOf_self]

/-- R123: the channel after a discarded frame, before it may be lost. -/
def SentSt.discarding (x : SentSt) (crcGood formed : Bool) (calNs : Nat) : SentSt :=
  { x with crc := (x.crc + bit !crcGood) % 4294967296, format := (x.format + bit !formed) % 4294967296, badRun := x.badRun + 1,
           goodRun := 0, lastCal := some calNs }

variable {c : SentCfg} {f : SentFrame} (hcfg : tfind s.cfg.odo.sent ch = some c)
include hcfg

theorem takeSent_of_discarded (hbad : (sentFormed c (s.sentOf ch).lastCal f && sentCrcGood c f) = false) : takeSent ch f s
    = if 10 ≤ (s.sentOf ch).badRun + 1 then
        loseSent ch (s.modSent ch fun x => x.discarding (sentCrcGood c f) (sentFormed c (s.sentOf ch).lastCal f) f.calNs)
      else s.modSent ch fun x => x.discarding (sentCrcGood c f) (sentFormed c (s.sentOf ch).lastCal f) f.calNs := by
  have hmarked : ∀ g h : SentSt → SentSt, (s.modSent ch g).modSent ch h = s.modSent ch fun x => h (g x) := fun g h => by
    simp [State.modSent, State.modOdo]
  rw [takeSent, hcfg]
  simp only [hbad, Bool.false_eq_true, if_false, badSent, hmarked, State.modSent_sentOf_self]
  rfl

theorem takeSent_of_good (hformed : sentFormed c (s.sentOf ch).lastCal f = true) (hgood : sentCrcGood c f = true) :
    takeSent ch f s = goodSent ch c f (s.modSent ch fun x => { x with lastCal := some f.calNs }) := by
  rw [takeSent, hcfg]
  simp only [hformed, hgood, Bool.and_self, if_true]

theorem sentTimeout_of_late {l : Nat} (hlast : (s.sentOf ch).lastAt = some l) (hlate : l + 10 * c.periodUs ≤ s.devtime) :
    sentTimeout ch s = loseSent ch s := by
  rw [sentTimeout, hcfg]
  simp only [hlast, Option.getD_some, hlate, if_true]

end

/-- A row about a frame that D4 samples (R527). -/
theorem Does.of_sampled {c : Nat → Instr} {kind : String} {k n : Nat} {pre : State → Prop} {post : State → State → Prop} (f : State → State)
    (hk : k < n) (hexec : ∀ τ s, exec (c τ) s = about kind k n τ (sampled f) s) (hfed : ∀ s, pre s → dieFed s 4 = true)
    (hpost : ∀ s0 s, pre s → post s (settle s0 (f s))) : Does c pre post :=
  .of_settle f (fun τ s hpre => by rw [hexec, about_next hk, sampled, if_pos (hfed _ hpre)]) hpost

/-! ## Sources (R127) -/

theorem repick_standing (s : State) : (repick s).odo.pairs = s.odo.pairs ∧ (repick s).odo.sources = s.odo.sources := by
  unfold repick
  split
  · exact ⟨rfl, rfl⟩
  · unfold changePrimary
    simp only
    split
    · exact ⟨rfl, rfl⟩
    · split
      · exact ⟨rfl, rfl⟩
      · rw [fault_odo]
        exact ⟨rfl, rfl⟩

theorem loneSource_of_few {ranks : List Nat} (hfew : ranks.length ≤ 2) (s : State) (r : Nat) : loneSource s ranks r = false := by
  have hnot : ¬3 ≤ ranks.length := by omega
  simp [loneSource, hnot]

/-- R127: two sources that have disagreed for 2 s, of at most two available, raise it once. -/
theorem implausible_of_pair {a b t0 : Nat} {s : State} (hlower : a < b) (hb : b < 16) (hpairs : s.odo.pairs = [(16 * a + b, (t0, false))])
    (hdue : t0 + 2000000 ≤ s.devtime) (hfew : (availableSources s).length ≤ 2) :
    implausible s = repick (fault 202 (sourceId (nth (speedSources s) .gnss a)) 1 2 (sourceId (nth (speedSources s) .gnss b))
      (s.modOdo fun o => { o with pairs := [(16 * a + b, (t0, true))] })) := by
  have hranks : ((availableSources s).map (·.1)).length ≤ 2 := by simpa using hfew
  have halone := loneSource_of_few hranks
  have hkept : ∀ rs qs : List Nat, qs.length ≤ 2 → rs.foldl (fun s r => if loneSource s qs r then excludeSource r s else s) s = s := by
    intro rs qs hqs
    induction rs with
    | nil => rfl
    | cons r rs ih => rw [List.foldl_cons, loneSource_of_few hqs, if_neg (by decide), ih]
  have hfirst : (16 * a + b) / 16 = a := by omega
  have hsecond : (16 * a + b) % 16 = b := by omega
  have hdisagree : disagree s a b = true := by
    simp [disagree, hpairs, tfind, Nat.min_eq_left hlower.le, Nat.max_eq_right hlower.le, hdue]
  unfold implausible
  simp only [hkept _ _ hranks, hpairs, List.map_cons, List.map_nil, List.foldl_cons, List.foldl_nil]
  simp [judgePair, hfirst, hsecond, hdisagree, hpairs, halone, tget, tmod, tset, State.modOdo]

theorem rejoin_of_due {r a : Nat} {s : State} (hout : (tget s.odo.sources {} r).excluded = true)
    (hsince : (tget s.odo.sources {} r).agreeSince = some a) (hdue : a + 10000000 ≤ s.devtime) :
    rejoin r s = repick (s.modOdo fun o =>
      { o with sources := tset o.sources r { tget s.odo.sources {} r with excluded := false, agreeSince := none, stoppedSince := none } }) := by
  simp [rejoin, hout, hsince, hdue]

/-! ## The statement -/

/-- Settles O31: a frame counts as discarded or gives its values, and a run of bad ones or silence loses the channel; the standing of pairs and
sources outlives the choice of the primary that follows. -/
theorem sentAndSources : Obligations.SentAndSources := by
  unfold Obligations.SentAndSources
  refine ⟨fun ch c f hch hcrc => ?_, fun ch c f hch => ?_, fun ch c f hch hcrc => ?_, fun ch c l hch => ?_, fun a b t0 hlower hb => ?_,
    fun r a hr => ?_⟩
  · refine .of_sampled (takeSent ch f) hch (fun τ s => by unfold exec; rfl) (fun s hpre => hpre.1) fun s0 s ⟨_, hcfg, hrun, hformed⟩ => ?_
    have hfew : ¬10 ≤ (s.sentOf ch).badRun + 1 := by omega
    rw [takeSent_of_discarded hcfg (by rw [hcrc, Bool.and_false]), if_neg hfew, settle_sentOf, State.modSent_sentOf_self]
    exact ⟨by simp [SentSt.discarding, hcrc, hformed, bit], (modSent_frame s ch _).only_settle s0⟩
  · refine .of_sampled (takeSent ch f) hch (fun τ s => by unfold exec; rfl) (fun s hpre => hpre.1) fun s0 s hpre => ?_
    obtain ⟨_, hcfg, hrun, hheld, hformed⟩ := hpre
    have hmany : 10 ≤ (s.sentOf ch).badRun + 1 := by omega
    rw [takeSent_of_discarded hcfg (by rw [hformed, Bool.false_and]), if_pos hmany, settle_sentOf]
    generalize hmarked : s.modSent ch _ = s1
    have hframe : SameExcept [.odo] s s1 := hmarked ▸ modSent_frame s ch _
    have hsent : s1.sentOf ch = (s.sentOf ch).discarding (sentCrcGood c f) (sentFormed c (s.sentOf ch).lastCal f) f.calNs := by
      rw [← hmarked, State.modSent_sentOf_self]
    have hheld1 : (s1.sentOf ch).lost = false := hsent ▸ hheld
    rw [loseSent_sentOf hheld1, hsent]
    exact ⟨by simp [SentSt.discarding, hformed, bit], rfl, rfl, ((loseSent_raises hheld1).of_before hframe (by decide)).settle s0,
      (hframe.append loseSent_frame).only_settle_of s0 (by decide)⟩
  · refine .of_sampled (takeSent ch f) hch (fun τ s => by unfold exec; rfl) (fun s hpre => hpre.1) fun s0 s ⟨_, hcfg, hformed⟩ => ?_
    rw [takeSent_of_good hcfg hformed hcrc]
    refine ⟨?_, ?_, ?_, ?_, ?_, ?_, fun hten => ?_, fun k hk => ?_, ?_⟩
    case refine_7 =>
      have hnot : ¬(s.sentOf ch).goodRun + 1 < 10 := Nat.not_lt.mpr hten
      simp [goodSent, hnot]
    case refine_8 => simp [goodSent, hk]
    case refine_9 =>
      exact ((modSent_frame s ch _).trans (modSent_frame _ ch _)).only_settle s0
    all_goals simp [goodSent]
  · refine .of_settle (sentTimeout ch) (fun τ s _ => by unfold exec; exact about_next hch) fun s0 s hpre => ?_
    obtain ⟨hcfg, hlast, hlate, hheld⟩ := hpre
    rw [sentTimeout_of_late hcfg hlast hlate, settle_sentOf, loseSent_sentOf hheld]
    exact ⟨rfl, rfl, (loseSent_raises hheld).settle s0, loseSent_frame.only_settle_of s0 (by decide)⟩
  · refine .of_settle implausible (fun τ s _ => by unfold exec; exact at_next _ _ _) fun s0 s hpre => ?_
    obtain ⟨hpairs, hdue, hfew⟩ := hpre
    rw [implausible_of_pair hlower hb hpairs hdue hfew, settle_odo]
    have hframe := modOdo_frame s fun o => { o with pairs := [(16 * a + b, (t0, true))] }
    generalize hx : sourceId (nth (speedSources s) .gnss b) = ctx
    have hfault := fault_frame_own (n := 202) rfl (sourceId (nth (speedSources s) .gnss a)) 1 2 ctx
      (s.modOdo fun o => { o with pairs := [(16 * a + b, (t0, true))] })
    refine ⟨?_, ((raised_fault 202 _ 1 2 ctx _).of_before hframe (by decide)).mono (fun e he => mem_intake_repick he) |>.settle s0,
      ((hframe.append hfault).append (repick_frame _)).only_settle_of s0 (by decide)⟩
    rw [(repick_standing _).1, fault_odo]
    rfl
  · refine .of_settle (rejoin r) (fun τ s _ => by unfold exec; exact about_next hr) fun s0 s hpre => ?_
    obtain ⟨hout, hsince, hdue⟩ := hpre
    rw [rejoin_of_due hout hsince hdue, settle_odo, (repick_standing _).2]
    refine ⟨?_, fun k hk => tget_tset_of_ne _ _ _ hk, ((modOdo_frame s _).append (repick_frame _)).only_settle_of s0 (by decide)⟩
    simp

end Sys2Proof.Machine
end

section
/-! Field inputs (R307 to R314, R339), after the rule that an event before a fault leaves the fault's entry in the intake. -/

namespace Sys2Proof.Machine

/-! ## Steps that leave the error intake as it stands (R482) -/

/-- A fault after this step is raised as it would be before it. -/
structure IntakeStands (s t : State) : Prop where
  stopped : t.events.stopped = s.events.stopped
  faults : t.faults = s.faults
  devtime : t.devtime = s.devtime

theorem IntakeStands.refl (s : State) : IntakeStands s s := ⟨rfl, rfl, rfl⟩

theorem IntakeStands.trans {s t u : State} (h : IntakeStands s t) (k : IntakeStands t u) : IntakeStands s u :=
  ⟨k.stopped.trans h.stopped, k.faults.trans h.faults, k.devtime.trans h.devtime⟩

theorem IntakeStands.of_frame {bs : List Bank} {s t : State} (h : SameExcept bs s t)
    (hb : Bank.events ∉ bs ∧ Bank.faults ∉ bs ∧ Bank.time ∉ bs) : IntakeStands s t :=
  ⟨congrArg Events.stopped (h .events hb.1), h .faults hb.2.1, h .time hb.2.2⟩

theorem IntakeStands.ite {s t u : State} {p : Prop} [Decidable p] (h : IntakeStands s t) (k : IntakeStands s u) :
    IntakeStands s (if p then t else u) := by
  split
  · exact h
  · exact k

theorem IntakeStands.foldl {α : Type} {f : State → α → State} (h : ∀ s a, IntakeStands s (f s a)) (l : List α) (s : State) :
    IntakeStands s (l.foldl f s) := by
  induction l generalizing s with
  | nil => exact .refl s
  | cons a l ih => exact (h s a).trans (ih _)

theorem Raised.of_stands {n inst code sev : Nat} {s t u : State} (h : Raised n inst code sev t u) (k : IntakeStands s t) :
    Raised n inst code sev s u := fun hrun hroom => by
  obtain ⟨e, he, hsource, hcls, hinst, hsev, htime⟩ := h (k.stopped.trans hrun) (k.faults ▸ hroom)
  exact ⟨e, he, hsource, hcls, hinst, hsev, htime.trans k.devtime⟩

theorem edge_intakeStands (n inst code : Nat) (s : State) : IntakeStands s (edge n inst code s) where
  stopped := by
    unfold edge edgeAt
    split
    · split
      · rfl
      · rfl
    · exact (assertSource_activeKept _ _ _ _ _).stopped
  faults := edge_frame n inst code s .faults (by decide)
  devtime := edge_frame n inst code s .time (by decide)

theorem notify_intakeStands (n op : Nat) (p : List Byte) (s : State) : IntakeStands s (notify n op p s) where
  stopped := by
    have hput : (putMsg n op 0 p s).events.stopped = s.events.stopped := congrArg Events.stopped (putMsg_frame n op 0 p s .events (by decide))
    have hpending : (addPending n op p s).events.stopped = s.events.stopped := by
      unfold addPending
      simp only
      split
      · rfl
      · split
        · exact (edge_intakeStands _ _ _ _).stopped
        · rfl
    unfold notify
    split
    · rfl
    · split
      · exact hput
      · exact hpending
  faults := notify_frame n op p s .faults (by decide)
  devtime := notify_frame n op p s .time (by decide)

/-! ## Digital inputs and wire-break (R307 to R310) -/

/-- R309: an input's class as it is taken. -/
def classed (i cls : Nat) (low : Bool) (s : State) : State :=
  s.modFi i fun x => { x with cls := cls, lowR := low && cls == 1, breaks := x.breaks + bit (cls == 3 && (s.fi i).cls != 3) }

/-- R307: a DIGITAL input's state follows its class. -/
def restated (i : Nat) (s : State) : State :=
  if (s.fiCfg i).mode = .digital then s.modFi i fun x => { x with state := logical s i x.raw } else s

theorem restated_frame (i : Nat) (s : State) : SameExcept [.inputs] s (restated i s) := .ite (modFi_frame s i _) (.refl _ s)

theorem restated_fi (i : Nat) (s : State) : (∃ v, (restated i s).fi i = { s.fi i with state := v }) ∧ ∀ k, k ≠ i → (restated i s).fi k = s.fi k := by
  unfold restated
  split
  · exact ⟨⟨_, State.modFi_fi_self _ _ _⟩, fun k hk => State.modFi_fi_of_ne _ _ _ hk⟩
  · exact ⟨⟨(s.fi i).state, rfl⟩, fun _ _ => rfl⟩

section
variable {i cls : Nat} {s : State} (low : Bool) (hwatched : (s.fiCfg i).wb = true) (hclass : 0 < cls ∧ cls ≤ 3) (hnew : (s.fi i).cls ≠ cls)
  (hslow : (s.fiCfg i).mode ≠ .fast)
include hwatched hclass hnew hslow

theorem takeClass_of_new : takeClass i cls low s = restated i
    (if cls == 3 && (s.fi i).cls != 3 && !muted s (.fi i) then fault 205 i 0 2 0 (classed i cls low s) else classed i cls low s) := by
  obtain ⟨hpos, hmax⟩ := hclass
  have htaken : ¬(!(s.fiCfg i).wb || decide (cls = 0) || decide (3 < cls) || ((s.fi i).cls == cls && (s.fi i).lowR == (low && cls == 1))) = true := by
    simp [hwatched, hnew]; omega
  have hcfg : ∀ u : State, u.cfg = s.cfg → u.fiCfg i = s.fiCfg i := fun u hu => by rw [State.fiCfg, hu, State.fiCfg]
  have hfaulted : ∀ (p : Prop) [Decidable p], (if p then fault 205 i 0 2 0 (classed i cls low s) else classed i cls low s).cfg = s.cfg := by
    intro p _
    split
    · exact fault_frame 205 i 0 2 0 _ .cfg (by decide)
    · rfl
  rw [takeClass, if_neg htaken, restated, hcfg _ (hfaulted _)]
  simp [hslow, classed]

theorem takeClass_fi : ((takeClass i cls low s).fi i).cls = cls ∧ ((takeClass i cls low s).fi i).lowR = (low && cls == 1)
    ∧ ((takeClass i cls low s).fi i).breaks = (s.fi i).breaks + bit (cls == 3 && (s.fi i).cls != 3)
    ∧ ∀ k, k ≠ i → (takeClass i cls low s).fi k = s.fi k := by
  have hfi : ∀ (p : Prop) [Decidable p] k, (if p then fault 205 i 0 2 0 (classed i cls low s) else classed i cls low s).fi k = (classed i cls low s).fi k := by
    intro p _ k
    split
    · exact (fault_frame 205 i 0 2 0 _).fi (by decide) k
    · rfl
  rw [takeClass_of_new low hwatched hclass hnew hslow]
  obtain ⟨⟨v, hself⟩, hother⟩ := restated_fi i
    (if cls == 3 && (s.fi i).cls != 3 && !muted s (.fi i) then fault 205 i 0 2 0 (classed i cls low s) else classed i cls low s)
  rw [hself, hfi, classed, State.modFi_fi_self]
  exact ⟨rfl, rfl, rfl, fun k hk => ((hother k hk).trans (hfi _ k)).trans (State.modFi_fi_of_ne _ _ _ hk)⟩

theorem takeClass_frame : SameExcept [.inputs, .events, .dies, .faults] s (takeClass i cls low s)
    ∧ (cls ≠ 3 → SameExcept [.inputs] s (takeClass i cls low s)) := by
  have hset : SameExcept [.inputs] s (classed i cls low s) := modFi_frame s i _
  rw [takeClass_of_new low hwatched hclass hnew hslow]
  refine ⟨?_, fun hother => ?_⟩
  · have hfault := (hset.append (fault_frame 205 i 0 2 0 (classed i cls low s))).mono (by decide : ∀ b, b ∈ _ → b ∈ [Bank.inputs, .events, .dies, .faults])
    exact (SameExcept.ite hfault (hset.mono (by decide))).trans ((restated_frame i _).mono (by decide))
  · rw [if_neg (by simp [hother])]
    exact hset.trans (restated_frame i _)

end

theorem takeClass_raises {i : Nat} {s : State} (low : Bool) (hwatched : (s.fiCfg i).wb = true) (hwhole : (s.fi i).cls ≠ 3)
    (hslow : (s.fiCfg i).mode ≠ .fast) (hheard : muted s (.fi i) = false) : Raised 205 i 0 2 s (takeClass i 3 low s) := by
  rw [takeClass_of_new low hwatched (by decide) hwhole hslow, if_pos (by simp [hwhole, hheard])]
  exact ((raised_fault 205 i 0 2 0 _).of_before (modFi_frame s i _) (by decide)).unchanged (restated_frame i _) (by decide)

/-! ## Operator inputs (R311, R312, R339) -/

theorem rearmBy_frame (i : Nat) (s : State) : SameExcept [.groups] s (rearmBy i s) := by
  have hset : ∀ s g, SameExcept [.groups] s (rearm g s) := fun s g => by
    intro b hb; cases b <;> simp_all [Bank.same, rearm, setGroup]
  exact .foldl _ (fun s g => .ite (hset s g) (.refl _ s)) _ s

/-- R311: an operator input's change is told before its event and the groups that it arms. -/
theorem operatorChange_step (i : Nat) (v : Bool) (first : Nat) (s : State) :
    ∃ u, u = notify 0 34562 (le 1 i ++ le 1 (bit v) ++ le 2 0 ++ le 8 first) (s.modFi i fun x => { x with state := v })
      ∧ SameExcept [.events, .dies, .groups] u (operatorChange i v first s) ∧ IntakeStands s (operatorChange i v first s) := by
  have hedge : ∀ u, SameExcept [.events, .dies, .groups] u (edge 204 i 0 u) := fun u => (edge_frame 204 i 0 u).mono (by decide)
  have harm : ∀ u, SameExcept [.events, .dies, .groups] u (if v then rearmBy i u else u) := fun u => .ite ((rearmBy_frame i u).mono (by decide)) (.refl _ u)
  have hstands : ∀ u, IntakeStands u (if v then rearmBy i u else u) := fun u => .ite (.of_frame (rearmBy_frame i u) (by decide)) (.refl u)
  unfold operatorChange
  exact ⟨_, rfl, (hedge _).trans (harm _),
    (((IntakeStands.of_frame (modFi_frame s i _) (by decide)).trans (notify_intakeStands _ _ _ _)).trans (edge_intakeStands _ _ _ _)).trans (hstands _)⟩

theorem operatorChange_frame (i : Nat) (v : Bool) (first : Nat) (s : State) :
    SameExcept [.inputs, .courses, .events, .dies, .groups] s (operatorChange i v first s) := by
  obtain ⟨u, rfl, hafter, -⟩ := operatorChange_step i v first s
  exact (((modFi_frame s i _).append (notify_frame _ _ _ _)).append hafter).mono (by decide)

theorem operatorChange_fi (i : Nat) (v : Bool) (first : Nat) (s : State) (k : Nat) :
    (operatorChange i v first s).fi k = (s.modFi i fun x => { x with state := v }).fi k := by
  obtain ⟨u, rfl, hafter, -⟩ := operatorChange_step i v first s
  exact (hafter.fi (by decide) k).trans ((notify_frame _ _ _ _).fi (by decide) k)

theorem notify_of_linked {n op : Nat} {p : List Byte} {s : State} (hlinked : (s.start.configActive && s.cfg.host.link == .none && s.follower) = false)
    (hnone : (s.course n).pendingNotif = []) (hroom : hasRoom s n p.length (keptFree s n) = true) : notify n op p s = putMsg n op 0 p s := by
  simp [notify, hlinked, hnone, hroom]

theorem operatorChange_tells {i first : Nat} (v : Bool) {s : State} (hlinked : (s.start.configActive && s.cfg.host.link == .none && s.follower) = false)
    (hnone : (s.course 0).pendingNotif = []) (hroom : hasRoom s 0 16 (keptFree s 0) = true) :
    Told 0 34562 (le 1 i ++ le 1 (bit v) ++ le 2 0 ++ le 8 first) (operatorChange i v first s) := by
  have hlength : (le 1 i ++ le 1 (bit v) ++ le 2 0 ++ le 8 first).length ≤ 16 := by simp [le_length]
  have hput : notify 0 34562 (le 1 i ++ le 1 (bit v) ++ le 2 0 ++ le 8 first) (s.modFi i fun x => { x with state := v })
      = putMsg 0 34562 0 (le 1 i ++ le 1 (bit v) ++ le 2 0 ++ le 8 first) (s.modFi i fun x => { x with state := v }) :=
    notify_of_linked hlinked hnone (hasRoom_mono hlength hroom)
  obtain ⟨u, rfl, hafter, -⟩ := operatorChange_step i v first s
  rw [hput] at hafter
  exact (CoursesGrow.of_frame hafter (by decide)).told (putMsg_mem 0 34562 _ _)

/-- R311: an operator input that has stayed for DEBOUNCE is taken; the key input then moves the key. -/
theorem takeOperator_of_new {i first : Nat} {closed : Bool} {s : State} (hmode : (s.fiCfg i).mode = .operator)
    (hstayed : first + 1000 * (s.fiCfg i).debounceMs ≤ s.devtime) (hnew : (s.fi i).state ≠ logical s i closed) :
    takeOperator i closed first s
      = if i = 0 && (s.fiCfg i).keyOn then
          keyMoves (closed && (s.fi i).cls != 3) (operatorChange i (logical s i closed) first (s.modFi i fun x => { x with raw := closed }))
        else operatorChange i (logical s i closed) first (s.modFi i fun x => { x with raw := closed }) := by
  have htaken : ¬((s.fiCfg i).mode != .operator || decide (s.devtime < first + 1000 * (s.fiCfg i).debounceMs)) = true := by
    simp [hmode, hstayed]
  have hchanged : ¬((s.fi i).state == logical s i closed) = true := by simpa using hnew
  rw [takeOperator, if_neg htaken, if_neg hchanged]

/-! ## Analog inputs (R313, R314) -/

theorem SameExcept.ai {bs : List Bank} {s t : State} (h : SameExcept bs s t) (hb : .analogs ∉ bs) (k : Nat) : t.ai k = s.ai k := by
  have hanalogs : t.analogs = s.analogs := h .analogs hb
  rw [State.ai, State.ai, hanalogs]

/-- R314: whether a reading counts as valid. -/
def readingValid (c : AnalogCfg) (x : AnalogSt) : Bool :=
  !x.wireBreak && !x.overRange && decide (c.validLo ≤ x.value) && decide (x.value ≤ c.validHi)

section
variable (a : Nat) (s : State)

theorem judgeAnalog_frame : SameExcept [.analogs, .events, .dies, .faults] s (judgeAnalog a s) := by
  unfold judgeAnalog
  exact .ite ((modAi_frame s a _).append (fault_frame 206 a 1 2 0 _)) ((modAi_frame s a _).mono (by decide))

theorem judgeAnalog_ai (k : Nat) : (judgeAnalog a s).ai k = (s.modAi a fun x => { x with valid := readingValid (s.aiCfg a) (s.ai a) }).ai k := by
  unfold judgeAnalog
  simp only
  split
  · exact (fault_frame 206 a 1 2 0 _).ai (by decide) k
  · rfl

theorem mem_intake_judgeAnalog {e : IntakeEntry} (he : e ∈ s.faults.intake) : e ∈ (judgeAnalog a s).faults.intake := by
  unfold judgeAnalog
  simp only
  split
  · exact mem_intake_fault (s := s.modAi a _) he _ _ _ _ _
  · exact he

theorem judgeAnalog_raises (hvalid : (s.ai a).valid = true) (hbad : readingValid (s.aiCfg a) (s.ai a) = false) (hwhole : (s.ai a).wireBreak = false) :
    Raised 206 a 1 2 s (judgeAnalog a s) := by
  have hraises : ((s.ai a).valid && !readingValid (s.aiCfg a) (s.ai a) && !((s.ai a).wireBreak && muted s (.ai a))) = true := by
    simp [hvalid, hbad, hwhole]
  have hjudged : judgeAnalog a s = fault 206 a 1 2 0 (s.modAi a fun x => { x with valid := readingValid (s.aiCfg a) (s.ai a) }) := if_pos hraises
  rw [hjudged]
  exact (raised_fault 206 a 1 2 0 _).of_before (modAi_frame s a _) (by decide)

end

/-- R313: an input's reading, before it is judged. -/
def readAnalog (c : AnalogCfg) (raw : Nat) (x : AnalogSt) : AnalogSt :=
  { x with raw := raw, value := scaled c raw, overRange := overRange c.mode raw,
           wireBreak := c.mode == .ma20 && decide (24000 * raw < 3600 * 4096) }

theorem takeAnalog_of_used {a raw : Nat} {s : State} (hused : (s.aiCfg a).used = true) (hburden : (s.ai a).burdenOpen = false) :
    takeAnalog a raw s = judgeAnalog a (s.modAi a (readAnalog (s.aiCfg a) raw)) := by
  have htaken : ¬(!(s.aiCfg a).used || (s.ai a).burdenOpen) = true := by simp [hused, hburden]
  exact if_neg htaken

theorem takeAnalog_frame {a raw : Nat} {s : State} (hused : (s.aiCfg a).used = true) (hburden : (s.ai a).burdenOpen = false) :
    SameExcept [.analogs, .events, .dies, .faults] s (takeAnalog a raw s) := by
  rw [takeAnalog_of_used hused hburden]
  exact ((modAi_frame s a _).append (judgeAnalog_frame a _)).mono (by decide)

theorem takeAnalog_ai {a raw : Nat} {s : State} (hused : (s.aiCfg a).used = true) (hburden : (s.ai a).burdenOpen = false) :
    (takeAnalog a raw s).ai a = { readAnalog (s.aiCfg a) raw (s.ai a) with valid := readingValid (s.aiCfg a) (readAnalog (s.aiCfg a) raw (s.ai a)) }
      ∧ ∀ k, k ≠ a → (takeAnalog a raw s).ai k = s.ai k := by
  rw [takeAnalog_of_used hused hburden]
  refine ⟨?_, fun k hk => ?_⟩
  · rw [judgeAnalog_ai, State.modAi_ai_self, State.modAi_ai_self]
    rfl
  · rw [judgeAnalog_ai, State.modAi_ai_of_ne _ _ _ hk, State.modAi_ai_of_ne _ _ _ hk]

theorem openBurden_of_closed {a : Nat} {s : State} (hused : (s.aiCfg a).used = true) (hmode : (s.aiCfg a).mode = .ma20)
    (hburden : (s.ai a).burdenOpen = false) : openBurden a s = judgeAnalog a (fault 206 a 0 2 0
      (s.modAi a fun x => { x with burdenOpen := true, burdenAt := s.devtime, wireBreak := true, overRange := false })) := by
  have htaken : ¬(!(s.aiCfg a).used || (s.aiCfg a).mode != .ma20 || (s.ai a).burdenOpen) = true := by simp [hused, hmode, hburden]
  exact if_neg htaken

section
variable {a ua : Nat} {s : State} (hopen : (s.ai a).burdenOpen = true) (hdue : (s.ai a).burdenAt + 100000 ≤ s.devtime)
include hopen hdue

theorem burdenTest_of_due : burdenTest a ua s = if 25000 < ua then s.modAi a fun x => { x with burdenAt := s.devtime }
    else takeAnalog a (min 4095 (ua * 4096 / 24000)) (s.modAi a fun x => { x with burdenOpen := false }) := by
  have htaken : ¬(!(s.ai a).burdenOpen || decide (s.devtime < (s.ai a).burdenAt + 100000)) = true := by simp [hopen, hdue]
  exact if_neg htaken

end

/-! ## The statement -/

/-- Settles O43: an input takes its contact or its class, an operator input is told, the key starts its delay, and an analog reading is scaled and
judged. -/
theorem fieldInputs : Obligations.FieldInputs := by
  unfold Obligations.FieldInputs
  refine ⟨fun i closed hi => ?_, fun i closed hi => ?_, fun i low hi => ?_, fun i low hi => ?_, fun i closed first hpos hi => ?_, fun first => ?_,
    fun a ha => ?_, fun a ua ha hlow => ?_, fun a ua ha hhigh => ?_, fun a raw ha => ?_⟩
  · refine .of_sampled (takeDigital i closed) hi (fun τ s => by unfold exec; rfl) (fun s hpre => hpre.1) fun s0 s ⟨_, hmode⟩ => ?_
    have htaken : takeDigital i closed s = s.modFi i fun x => { x with raw := closed, state := logical s i closed } := by simp [takeDigital, hmode]
    rw [htaken]
    refine ⟨?_, fun k hk => ?_, (modFi_frame s i _).only_settle s0⟩
    · rw [settle_fi, State.modFi_fi_self]
      rfl
    · rw [settle_fi, State.modFi_fi_of_ne _ _ _ hk]
  · refine .of_settle (sampled (takeDigital i closed)) (fun τ s _ => by unfold exec; exact about_next hi) fun s0 s hmode => ?_
    have hstays : sampled (takeDigital i closed) s = s := by simp [sampled, takeDigital, hmode]
    rw [hstays]
    exact (SameExcept.refl [] s).only_settle s0
  · refine .of_sampled (takeClass i 3 low) hi (fun τ s => by unfold exec; rfl) (fun s hpre => hpre.1) fun s0 s ⟨_, hwatched, hwhole, hslow⟩ => ?_
    obtain ⟨hcls, _, hbreaks, hother⟩ := takeClass_fi low hwatched (by decide) hwhole hslow
    rw [settle_fi, hcls, hbreaks]
    exact ⟨rfl, by simp [hwhole, bit], fun hheard => (takeClass_raises low hwatched hwhole hslow hheard).settle s0,
      fun k hk => (settle_fi s0 _ k).trans (hother k hk), (takeClass_frame low hwatched (by decide) hwhole hslow).1.only_settle_of s0 (by decide)⟩
  · refine .of_sampled (takeClass i 2 low) hi (fun τ s => by unfold exec; rfl) (fun s hpre => hpre.1) fun s0 s ⟨_, hwatched, hnew, hslow⟩ => ?_
    obtain ⟨hcls, hlow, hbreaks, hother⟩ := takeClass_fi low hwatched (by decide) hnew hslow
    rw [settle_fi, hcls, hlow, hbreaks]
    exact ⟨rfl, by simp, by simp [bit], fun k hk => (settle_fi s0 _ k).trans (hother k hk),
      ((takeClass_frame low hwatched (by decide) hnew hslow).2 (by decide)).only_settle s0⟩
  · refine .of_sampled (takeOperator i closed first) hi (fun τ s => by unfold exec; rfl) (fun s hpre => hpre.1) fun s0 s hpre => ?_
    obtain ⟨_, hmode, hstayed, hnew, hnone, hroom, hlinked⟩ := hpre
    rw [takeOperator_of_new hmode hstayed hnew, if_neg (by simp [hpos.ne'])]
    have hframe := (modFi_frame s i fun x => { x with raw := closed }).append
      (operatorChange_frame i (logical s i closed) first (s.modFi i fun x => { x with raw := closed }))
    refine ⟨?_, ?_, fun k hk => ?_, hframe.only_settle_of s0 (by decide)⟩
    · rw [settle_fi, operatorChange_fi, State.modFi_fi_self, State.modFi_fi_self]
    · exact (CoursesGrow.of_courses (settle_courses s0 _)).told (operatorChange_tells (logical s i closed) hlinked hnone hroom)
    · rw [settle_fi, operatorChange_fi, State.modFi_fi_of_ne _ _ _ hk, State.modFi_fi_of_ne _ _ _ hk]
  · refine .of_sampled (takeOperator 0 false first) (Nat.zero_lt_succ 31) (fun τ s => by unfold exec; rfl) (fun s hpre => hpre.1) fun s0 s hpre => ?_
    obtain ⟨_, hmode, hkey, hstayed, hnew, hpark⟩ := hpre
    rw [takeOperator_of_new hmode hstayed hnew, if_pos (by simp [hkey])]
    have hset := modFi_frame s 0 fun x => { x with raw := false }
    have hframe := hset.append (operatorChange_frame 0 (logical s 0 false) first (s.modFi 0 fun x => { x with raw := false }))
    obtain ⟨-, -, -, hstands⟩ := operatorChange_step 0 (logical s 0 false) first (s.modFi 0 fun x => { x with raw := false })
    generalize operatorChange 0 (logical s 0 false) first (s.modFi 0 fun x => { x with raw := false }) = u at *
    have hpark1 : u.cfg.host.autoPark = true := by rw [hframe.cfg (by decide), hpark]
    have hmoved : keyMoves (false && (s.fi 0).cls != 3) u
        = (fault 2 0 0 1 0 u).modPower fun p => { p with keyOffEnd := some (u.devtime + 1000000 * u.cfg.host.keyOffDelayS), keyOffDue := false } := by
      simp [keyMoves, hpark1]
    have hfault := fault_frame_own (n := 2) rfl 0 0 1 0 u
    rw [hmoved, settle_power, hframe.devtime (by decide), hframe.cfg (by decide)]
    exact ⟨rfl, rfl, (((raised_fault 2 0 0 1 0 u).of_stands ((IntakeStands.of_frame hset (by decide)).trans hstands)).unchanged (modPower_frame _ _)
      (by decide)).settle s0, ((hframe.append hfault).append (modPower_frame _ _)).only_settle_of s0 (by decide)⟩
  · refine .of_sampled (openBurden a) ha (fun τ s => by unfold exec; rfl) (fun s hpre => hpre.1) fun s0 s ⟨_, hused, hmode, hburden⟩ => ?_
    rw [openBurden_of_closed hused hmode hburden]
    generalize hopened : (s.modAi a fun x => { x with burdenOpen := true, burdenAt := s.devtime, wireBreak := true, overRange := false }) = u
    have hset : SameExcept [.analogs] s u := hopened ▸ modAi_frame s a _
    have hfault := fault_frame 206 a 0 2 0 u
    have hself : (fault 206 a 0 2 0 u).ai a = { s.ai a with burdenOpen := true, burdenAt := s.devtime, wireBreak := true, overRange := false } := by
      rw [hfault.ai (by decide), ← hopened, State.modAi_ai_self]
    refine ⟨?_, ?_, ?_, ?_, fun k hk => ?_, ((hset.append hfault).append (judgeAnalog_frame a _)).only_settle_of s0 (by decide)⟩
    case refine_4 =>
      exact (((raised_fault 206 a 0 2 0 u).of_before hset (by decide)).mono fun e he => mem_intake_judgeAnalog a _ he).settle s0
    case refine_5 =>
      rw [settle_ai, judgeAnalog_ai, State.modAi_ai_of_ne _ _ _ hk, hfault.ai (by decide), ← hopened, State.modAi_ai_of_ne _ _ _ hk]
    case refine_3 =>
      rw [settle_ai, judgeAnalog_ai, State.modAi_ai_self, hself]
      simp [readingValid]
    all_goals rw [settle_ai, judgeAnalog_ai, State.modAi_ai_self, hself]
  · refine .of_sampled (burdenTest a ua) ha (fun τ s => by unfold exec; rfl) (fun s hpre => hpre.1) fun s0 s ⟨_, hused, hopen, hdue⟩ => ?_
    rw [burdenTest_of_due hopen hdue, if_neg (Nat.not_lt.mpr hlow)]
    have hset := modAi_frame s a fun x => { x with burdenOpen := false }
    have hclosed : ((s.modAi a fun x => { x with burdenOpen := false }).ai a).burdenOpen = false := by rw [State.modAi_ai_self]
    obtain ⟨hself, hother⟩ := takeAnalog_ai (raw := min 4095 (ua * 4096 / 24000)) (s := s.modAi a fun x => { x with burdenOpen := false }) hused hclosed
    rw [settle_ai, hself, State.modAi_ai_self]
    refine ⟨rfl, rfl, fun k hk => ?_, (hset.append (takeAnalog_frame hused hclosed)).only_settle_of s0 (by decide)⟩
    rw [settle_ai, hother k hk, State.modAi_ai_of_ne _ _ _ hk]
  · refine .of_sampled (burdenTest a ua) ha (fun τ s => by unfold exec; rfl) (fun s hpre => hpre.1) fun s0 s ⟨_, hopen, hdue⟩ => ?_
    rw [burdenTest_of_due hopen hdue, if_pos hhigh]
    refine ⟨?_, fun k hk => ?_, (modAi_frame s a _).only_settle s0⟩
    · rw [settle_ai, State.modAi_ai_self]
    · rw [settle_ai, State.modAi_ai_of_ne _ _ _ hk]
  · refine .of_sampled (takeAnalog a raw) ha (fun τ s => by unfold exec; rfl) (fun s hpre => hpre.1) fun s0 s ⟨_, hused, hburden⟩ => ?_
    obtain ⟨hself, hother⟩ := takeAnalog_ai (raw := raw) hused hburden
    rw [settle_ai, hself]
    refine ⟨rfl, rfl, rfl, fun hbad hvalid hwhole => ?_, fun k hk => (settle_ai s0 _ k).trans (hother k hk),
      (takeAnalog_frame hused hburden).only_settle_of s0 (by decide)⟩
    rw [takeAnalog_of_used hused hburden]
    have hread : (s.modAi a (readAnalog (s.aiCfg a) raw)).ai a = readAnalog (s.aiCfg a) raw (s.ai a) := State.modAi_ai_self _ _ _
    exact ((judgeAnalog_raises a _ (hread ▸ hvalid) (hread ▸ hbad) (hread ▸ hwhole)).of_before (modAi_frame s a _) (by decide)).settle s0

end Sys2Proof.Machine
end

section
/-! Dips, knees and waits for the slot (R206 to R213, R239 to R242). -/

namespace Sys2Proof.Machine

/-! ## Samples (R206 to R213) -/

/-- Of a unit, only what it learns and its samples' counters have changed. -/
structure LearntOnly (u : Nat) (s t : State) : Prop where
  frame : SameExcept [.units, .recorder, .events, .faults] s t
  others : OthersKept u s t
  unit : ∃ l f, t.unit u = { s.unit u with learn := l, fret := f }

theorem LearntOnly.refl (u : Nat) (s : State) : LearntOnly u s s := ⟨.refl _ s, .refl u s, _, _, rfl⟩

theorem LearntOnly.trans {u : Nat} {s t w : State} (h : LearntOnly u s t) (k : LearntOnly u t w) : LearntOnly u s w := by
  obtain ⟨hframe, hothers, l, f, hunit⟩ := h
  obtain ⟨kframe, kothers, m, g, kunit⟩ := k
  exact ⟨hframe.trans kframe, hothers.trans kothers, m, g, by rw [kunit, hunit]⟩

theorem LearntOnly.ite {u : Nat} {s t w : State} {p : Prop} [Decidable p] (h : LearntOnly u s t) (k : LearntOnly u s w) :
    LearntOnly u s (if p then t else w) := by
  split
  · exact h
  · exact k

theorem LearntOnly.of_frame {bs : List Bank} {s t : State} (u : Nat) (h : SameExcept bs s t)
    (hb : ∀ b, b ∈ bs → b = .recorder ∨ b = .events ∨ b = .faults) : LearntOnly u s t := by
  have hunits : .units ∉ bs := fun hmem => by simpa using hb _ hmem
  refine ⟨h.mono fun b hmem => ?_, .of_frame h hunits, _, _, h.unit hunits u⟩
  obtain rfl | rfl | rfl := hb b hmem <;> decide

section
variable (u : Nat) (s : State)

theorem modLearn_learnt (f : Learn → Learn) : LearntOnly u s (s.modLearn u f) :=
  ⟨(modUnit_frame s u _).mono (by decide), modUnit_others u s _, _, _, State.modUnit_unit_self _ _ _⟩

theorem modFretCnt_learnt (f : FretCounters → FretCounters) : LearntOnly u s (s.modFretCnt u f) :=
  ⟨(modUnit_frame s u _).mono (by decide), modUnit_others u s _, _, _, State.modUnit_unit_self _ _ _⟩

theorem modLat_learnt (closing : Bool) (b : Nat) (f : LatBin → LatBin) : LearntOnly u s (modLat u closing b f s) := modLearn_learnt u s _

theorem latencyFault_learnt (code ctx : Nat) : LearntOnly u s (fault 73 (s.sysUnit u) code 2 ctx s) :=
  .of_frame u (fault_frame_own rfl _ _ _ _ s) (by decide)

theorem judgeRange_learnt (closing : Bool) (bin : Nat) : LearntOnly u s (judgeRange u closing bin s) := by
  unfold judgeRange
  simp only
  exact .ite (.refl u s) (.ite ((modLat_learnt u s closing bin _).trans (latencyFault_learnt u _ 0 _)) (modLat_learnt u s closing bin _))

theorem learnSample_learnt (closing : Bool) (bin x : Nat) : LearntOnly u s (learnSample u closing bin x s) := by
  have hshift : ∀ t, LearntOnly u t (shiftBin u closing bin t) := fun t => (modLat_learnt u t _ _ _).trans (latencyFault_learnt u _ 1 _)
  unfold learnSample
  simp only
  exact .ite (.ite ((modFretCnt_learnt u s _).trans (hshift _)) ((modFretCnt_learnt u s _).trans (modLat_learnt u _ _ _ _)))
    ((modLat_learnt u s _ _ _).trans (judgeRange_learnt u _ _ _))

theorem endSample_learnt (closing : Bool) (m : EdgeMark) : LearntOnly u s (endSample u closing m s) := by
  have hrecorded : ∀ x, LearntOnly u s (recordLatency u closing x s) := fun x =>
    .of_frame u ((accumulate_frame _ s).trans (offerOne_frame _ _ _ _)) (by decide)
  unfold endSample
  exact .ite ((hrecorded _).trans (modFretCnt_learnt u _ _)) ((hrecorded _).trans (learnSample_learnt u _ _ _ _))

/-! ## Strokes (R168, R455) -/

/-- Of a unit, only its strokes have changed, and the lead may be told. -/
structure StrokesOnly (u : Nat) (s t : State) : Prop where
  frame : SameExcept [.units, .can, .zither] s t
  others : OthersKept u s t
  unit : ∃ x, t.unit u = { s.unit u with sect := x }

theorem StrokesOnly.refl : StrokesOnly u s s := ⟨.refl _ s, .refl u s, _, rfl⟩

theorem modSect_strokes (f : SectionSt → SectionSt) : StrokesOnly u s (s.modSect u f) :=
  ⟨(modUnit_frame s u _).mono (by decide), modUnit_others u s _, _, State.modUnit_unit_self _ _ _⟩

theorem strokeEvent_strokes (kind : Nat) : StrokesOnly u s (strokeEvent u kind s) := by
  have hopened : StrokesOnly u s (strokeOpen u s.devtime s) := by
    unfold strokeOpen
    split
    · exact .refl u s
    · split
      · exact modSect_strokes u s _
      · exact modSect_strokes u s _
  unfold strokeEvent
  split
  · exact .refl u s
  · split
    · have hsent := sendZ_frame 7 0 [(s.sysUnit u : Nat), kind, (s.devtime : Int) + (s.zither.offsetNs.getD 0) / 1000] s
      exact ⟨hsent.mono (by decide), .of_frame hsent (by decide), _, hsent.unit (by decide) u⟩
    · split
      · exact hopened
      · split
        · split
          · exact modSect_strokes u s _
          · exact .refl u s
        · exact modSect_strokes u s _

/-! ## Misses (R170, R241, R242, R248) -/

/-- R241: a stroke without a dip, before it is judged. -/
def dipMissed : State :=
  let s1 := (s.modDrive u fun d => { d with openWinEnd := none }).modLearn u fun l =>
    { l with openEdge := none, closeEdge := l.closeEdge.map fun m => { m with excluded := true } }
  excludeSample u (((if (s.unit u).drive.mode == .pwm then strokeEndedThere u s1 else s1).modValve u
    fun v => { v with dipsMissed := v.dipsMissed + 1 }).modDrive u fun d => { d with missedDips := (s.unit u).drive.missedDips + 1 })

theorem dipMissed_frame : SameExcept [.units] s (dipMissed u s) := by
  have hended : ∀ (p : Prop) [Decidable p] t, SameExcept [.units] t (if p then strokeEndedThere u t else t) := fun p _ t =>
    .ite (modUnit_frame t u _) (.refl _ t)
  exact (((((modUnit_frame s u _).trans (modUnit_frame _ u _)).trans (hended _ _)).trans (modUnit_frame _ u _)).trans (modUnit_frame _ u _)).trans
    (modUnit_frame _ u _)

theorem dipMissed_others : OthersKept u s (dipMissed u s) := by
  have hended : ∀ (p : Prop) [Decidable p] t, OthersKept u t (if p then strokeEndedThere u t else t) := fun p _ t =>
    .ite (modUnit_others u t _) (.refl u t)
  exact (((((modUnit_others u s _).trans (modUnit_others u _ _)).trans (hended _ _)).trans (modUnit_others u _ _)).trans (modUnit_others u _ _)).trans
    (modUnit_others u _ _)

theorem dipMissed_unit : ((dipMissed u s).unit u).drive = { (s.unit u).drive with openWinEnd := none, missedDips := (s.unit u).drive.missedDips + 1 }
    ∧ ((dipMissed u s).unit u).valve.dipsMissed = (s.unit u).valve.dipsMissed + 1 := by
  have hended : ∀ (p : Prop) [Decidable p] t, ((if p then strokeEndedThere u t else t).unit u).drive = (t.unit u).drive
      ∧ ((if p then strokeEndedThere u t else t).unit u).valve = (t.unit u).valve := fun p _ t => by
    split <;> simp [strokeEndedThere]
  simp [dipMissed, excludeSample, hended]

theorem missDip_of_fresh {u : Nat} {s : State} (hfresh : ∀ m, (s.unit u).learn.openEdge = some m → m.restrike = false) :
    missDip u s = if (s.unit u).drive.missedDips + 1 = (s.profile u).noMotionN then
        fault (diagSrc u 1) u 3 2 0 ((dipMissed u s).modDrive u fun d => { d with noMotion := true })
      else dipMissed u s := by
  unfold missDip
  cases hedge : (s.unit u).learn.openEdge with
  | none => rfl
  | some m =>
    simp only [hfresh m hedge]
    rfl

/-- R242: a stroke without a knee, before it is judged. -/
def kneeMissed : State :=
  updateRail (clusterOf u) (excludeSample u (((s.modDrive u fun d =>
    { d with closeWinEnd := none, missedKnees := (s.unit u).drive.missedKnees + 1, phase := if d.phase == .turnOff then .off else d.phase }).modLearn u
      fun l => { l with closeEdge := none }).modValve u fun v => { v with kneesMissed := v.kneesMissed + 1 }))

theorem kneeMissed_frame : SameExcept [.units, .clusters] s (kneeMissed u s) :=
  ((((modUnit_frame s u _).trans (modUnit_frame _ u _)).trans (modUnit_frame _ u _)).trans (modUnit_frame _ u _)).append (updateRail_frame _ _)

theorem kneeMissed_others : OthersKept u s (kneeMissed u s) :=
  ((((modUnit_others u s _).trans (modUnit_others u _ _)).trans (modUnit_others u _ _)).trans (modUnit_others u _ _)).trans
    (.of_frame (updateRail_frame _ _) (by decide))

theorem kneeMissed_unit : ((kneeMissed u s).unit u).drive = { (s.unit u).drive with
      closeWinEnd := none, missedKnees := (s.unit u).drive.missedKnees + 1,
      phase := if (s.unit u).drive.phase = .turnOff then .off else (s.unit u).drive.phase }
    ∧ ((kneeMissed u s).unit u).valve.kneesMissed = (s.unit u).valve.kneesMissed + 1 := by
  rw [kneeMissed, (updateRail_frame _ _).unit (by decide)]
  simp [excludeSample]

theorem missKnee_eq : missKnee u s = if (s.unit u).drive.missedKnees + 1 = (s.profile u).noReleaseN then
      fault (diagSrc u 1) u 4 3 0 ((kneeMissed u s).modDrive u fun d => { d with noRelease := true })
    else kneeMissed u s := rfl

end

/-! ## Dips and knees (R239 to R242) -/

/-- R240: a dip that ends the opening window. -/
def dipTaken (u : Nat) (s : State) : State :=
  (s.modDrive u fun d => { d with dipSeen := true, openWinEnd := none, missedDips := 0, noMotion := false }).modLearn u
    fun l => { l with openEdge := none }

/-- R242: a knee that ends the closing window. -/
def kneeTaken (u : Nat) (s : State) : State :=
  (s.modDrive u fun d => { d with closeWinEnd := none, missedKnees := 0, noRelease := false,
                                  phase := if d.phase == .turnOff then .off else d.phase }).modLearn u fun l => { l with closeEdge := none }

theorem dipSeen_of_window {u e : Nat} {s : State} (hwindow : (s.unit u).drive.openWinEnd = some e) (hinside : s.devtime ≤ e)
    (hfirst : (s.unit u).drive.dipSeen = false) (hmode : (s.unit u).drive.mode ≠ .prop) (hphase : (s.unit u).drive.phase ≠ .slotWait) :
    ∃ v, LearntOnly u s v ∧ dipSeen u s = strokeEvent u 0 (dipTaken u v) := by
  have htaken : ¬(!inWindow (s.unit u).drive.openWinEnd s.devtime || (s.unit u).drive.dipSeen || (s.unit u).drive.mode == .prop
      || (s.unit u).drive.phase == .slotWait) = true := by simp [hwindow, inWindow, hinside, hfirst, hmode, hphase]
  unfold dipSeen
  rw [if_neg htaken]
  cases (s.unit u).learn.openEdge with
  | none => exact ⟨s, .refl u s, rfl⟩
  | some m => exact ⟨_, .ite (.refl u s) (endSample_learnt u s false m), rfl⟩

theorem kneeSeen_of_window {u e : Nat} {s : State} (hwindow : (s.unit u).drive.closeWinEnd = some e) (hinside : s.devtime ≤ e) :
    ∃ v, LearntOnly u s v ∧ kneeSeen u s = strokeEvent u 1 (updateRail (clusterOf u) (kneeTaken u v)) := by
  have htaken : ¬(!inWindow (s.unit u).drive.closeWinEnd s.devtime) = true := by simp [hwindow, inWindow, hinside]
  unfold kneeSeen
  rw [if_neg htaken]
  cases (s.unit u).learn.closeEdge with
  | none => exact ⟨s, .refl u s, rfl⟩
  | some m => exact ⟨_, endSample_learnt u s true _, rfl⟩

/-! ## Crowding (R239) -/

/-- R239: a wait of more than 3 ms is counted once for its edge. -/
def crowdCounted (u : Nat) (s : State) : State :=
  (s.modDrive u fun d => { d with crowdedSeen := true }).modCluster (clusterOf u) fun x => { x with crowdedEdges := (x.crowdedEdges + 1) % 4294967296 }

/-- R239: the cluster's crowding was not raised within the last second. -/
def crowdDue (c : Nat) (s : State) : Bool :=
  match (s.cluster c).crowdedAt with
  | some t => decide (t + 1000000 ≤ s.devtime)
  | none => true

/-- R239: the crowding that is raised now. -/
def crowdRaised (u : Nat) (s : State) : State :=
  (crowdCounted u s).modCluster (clusterOf u) fun x => { x with crowdedAt := some s.devtime }

theorem crowdCounted_frame (u : Nat) (s : State) : SameExcept [.units, .clusters] s (crowdCounted u s) :=
  (modUnit_frame s u _).append (modCluster_frame _ _ _)

theorem crowdRaised_frame (u : Nat) (s : State) : SameExcept [.units, .clusters] s (crowdRaised u s) :=
  (crowdCounted_frame u s).trans ((modCluster_frame _ _ _).mono (by decide))

theorem crowd_eq {u : Nat} {s : State} (hphase : (s.unit u).drive.phase = .slotWait) (hfirst : (s.unit u).drive.crowdedSeen = false)
    (hlate : (s.unit u).drive.askedAt + 3000 < s.devtime) :
    crowd u s = if crowdDue (clusterOf u) s then fault (diagSrc u 2) u 0 1 (clusterOf u) (crowdRaised u s) else crowdCounted u s := by
  have htaken : ¬((s.unit u).drive.phase != .slotWait || (s.unit u).drive.crowdedSeen || decide (s.devtime ≤ (s.unit u).drive.askedAt + 3000)) = true := by
    simp [hphase, hfirst, hlate]
  unfold crowd
  rw [if_neg htaken]
  rfl

theorem crowd_of_late {u : Nat} {s : State} (hphase : (s.unit u).drive.phase = .slotWait) (hfirst : (s.unit u).drive.crowdedSeen = false)
    (hlate : (s.unit u).drive.askedAt + 3000 < s.devtime) : SameExcept [.units, .clusters, .events, .dies, .faults] s (crowd u s)
      ∧ OthersKept u s (crowd u s) ∧ ((crowd u s).unit u).drive = { (s.unit u).drive with crowdedSeen := true }
      ∧ ((crowd u s).cluster (clusterOf u)).crowdedEdges = ((s.cluster (clusterOf u)).crowdedEdges + 1) % 4294967296
      ∧ ((s.cluster (clusterOf u)).crowdedAt = none → Raised (diagSrc u 2) u 0 1 s (crowd u s)) := by
  have hcounted : OthersKept u s (crowdCounted u s) := (modUnit_others u s _).trans (.of_frame (modCluster_frame _ _ _) (by decide))
  rw [crowd_eq hphase hfirst hlate]
  split
  case isTrue hdue =>
    have hfault := fault_frame (diagSrc u 2) u 0 1 (clusterOf u) (crowdRaised u s)
    rw [hfault.unit (by decide), hfault.cluster (by decide)]
    refine ⟨((crowdRaised_frame u s).append hfault).mono (by decide), ?_, ?_, ?_,
      fun _ => (raised_fault (diagSrc u 2) u 0 1 (clusterOf u) _).of_before (crowdRaised_frame u s) (by decide)⟩
    · exact hcounted.trans (.of_frame ((modCluster_frame _ _ _).append hfault) (by decide))
    · simp [crowdRaised, crowdCounted]
    · simp [crowdRaised, crowdCounted]
  case isFalse hrecent =>
    refine ⟨(crowdCounted_frame u s).mono (by decide), hcounted, ?_, ?_, fun hnone => absurd ?_ hrecent⟩
    · simp [crowdCounted]
    · simp [crowdCounted]
    · simp [crowdDue, hnone]

/-! ## The statement -/

/-- Settles O36: a detection ends its window and its sample, a window without one counts a miss, and a late wait is counted. -/
theorem strokeDetections : Obligations.StrokeDetections := by
  unfold Obligations.StrokeDetections
  refine ⟨fun u e hu => ?_, fun u hu => ?_, fun u e hu => ?_, fun u e hu => ?_, fun u e hu => ?_, fun u hu => ?_⟩
  · refine .of_settle (dipSeen u) (fun τ s _ => by unfold exec; exact about_next hu) fun s0 s hpre => ?_
    obtain ⟨hwindow, hinside, hfirst, hmode, hphase⟩ := hpre
    obtain ⟨v, ⟨hframe, hothers, l, f, hunit⟩, hseen⟩ := dipSeen_of_window hwindow hinside hfirst hmode hphase
    obtain ⟨kframe, kothers, x, kunit⟩ := strokeEvent_strokes u (dipTaken u v) 0
    have htaken : SameExcept [.units] v (dipTaken u v) := (modUnit_frame v u _).trans (modUnit_frame _ u _)
    have htold : OthersKept u v (dipTaken u v) := (modUnit_others u v _).trans (modUnit_others u _ _)
    rw [hseen]
    refine ⟨?_, ?_, fun w hw => ?_, ((hframe.append htaken).append kframe).only_settle_of s0 (by decide)⟩
    · rw [unit_settled, kunit]
      simp [dipTaken, hunit]
    · rw [unit_settled, kunit]
      simp [dipTaken]
    · rw [unit_settled]
      exact ((hothers.trans htold).trans kothers) w hw
  · refine .of_settle (dipSeen u) (fun τ s _ => by unfold exec; exact about_next hu) fun s0 s hpre => ?_
    have hstays : dipSeen u s = s := by simp [dipSeen, hpre, inWindow]
    rw [hstays]
    exact (SameExcept.refl [] s).only_settle s0
  · refine .of_settle (fun s => if timeDue (s.unit u).drive.openWinEnd s.devtime then missDip u s else s)
      (fun τ s _ => by unfold exec; exact about_next hu) fun s0 s hpre => ?_
    obtain ⟨hwindow, hdue, hfresh⟩ := hpre
    obtain ⟨hdrive, hvalve⟩ := dipMissed_unit u s
    have hframe := dipMissed_frame u s
    have hothers := dipMissed_others u s
    rw [if_pos (by simp [hwindow, timeDue, hdue]), missDip_of_fresh hfresh]
    split
    case isTrue hlast =>
      generalize hmarked : (dipMissed u s).modDrive u (fun d => { d with noMotion := true }) = v
      have hset : SameExcept [.units] s v := hmarked ▸ hframe.trans (modUnit_frame _ u _)
      have hv : (v.unit u).drive = { ((dipMissed u s).unit u).drive with noMotion := true } ∧ (v.unit u).valve = ((dipMissed u s).unit u).valve := by
        rw [← hmarked]; simp
      have hfault := fault_frame (diagSrc u 1) u 3 2 0 v
      rw [unit_settled, hfault.unit (by decide), hv.1, hv.2, hdrive]
      refine ⟨rfl, rfl, hvalve, fun _ => ⟨rfl, ((raised_fault (diagSrc u 1) u 3 2 0 v).of_before hset (by decide)).settle s0⟩, fun w hw => ?_,
        (hset.append hfault).only_settle_of s0 (by decide)⟩
      rw [unit_settled, hfault.unit (by decide), ← hmarked]
      exact (hothers.trans (modUnit_others u _ _)) w hw
    case isFalse hmore =>
      rw [unit_settled, hdrive]
      exact ⟨rfl, rfl, hvalve, fun hlast => absurd hlast hmore, fun w hw => (unit_settled s0 _ w).trans (hothers w hw),
        hframe.only_settle_of s0 (by decide)⟩
  · refine .of_settle (kneeSeen u) (fun τ s _ => by unfold exec; exact about_next hu) fun s0 s hpre => ?_
    obtain ⟨hwindow, hinside⟩ := hpre
    obtain ⟨v, ⟨hframe, hothers, l, f, hunit⟩, hseen⟩ := kneeSeen_of_window hwindow hinside
    have hrail := updateRail_frame (clusterOf u) (kneeTaken u v)
    obtain ⟨kframe, kothers, x, kunit⟩ := strokeEvent_strokes u (updateRail (clusterOf u) (kneeTaken u v)) 1
    have htaken : SameExcept [.units] v (kneeTaken u v) := (modUnit_frame v u _).trans (modUnit_frame _ u _)
    have htold : OthersKept u v (kneeTaken u v) := (modUnit_others u v _).trans (modUnit_others u _ _)
    rw [hseen]
    refine ⟨?_, ?_, fun w hw => ?_, (((hframe.append htaken).append hrail).append kframe).only_settle_of s0 (by decide)⟩
    · rw [unit_settled, kunit, hrail.unit (by decide)]
      simp [kneeTaken, hunit]
    · rw [unit_settled, kunit, hrail.unit (by decide)]
      simp [kneeTaken]
    · rw [unit_settled]
      exact (((hothers.trans htold).trans (.of_frame hrail (by decide))).trans kothers) w hw
  · refine .of_settle (fun s => if timeDue (s.unit u).drive.closeWinEnd s.devtime then strokeEvent u 2 (missKnee u s) else s)
      (fun τ s _ => by unfold exec; exact about_next hu) fun s0 s hpre => ?_
    obtain ⟨hwindow, hdue⟩ := hpre
    obtain ⟨hdrive, hvalve⟩ := kneeMissed_unit u s
    have hframe := kneeMissed_frame u s
    have hothers := kneeMissed_others u s
    obtain ⟨kframe, kothers, x, kunit⟩ := strokeEvent_strokes u (missKnee u s) 2
    rw [if_pos (by simp [hwindow, timeDue, hdue]), unit_settled, kunit]
    have hcases : SameExcept [.units, .clusters, .events, .dies, .faults] s (missKnee u s) ∧ OthersKept u s (missKnee u s)
        ∧ ((missKnee u s).unit u).valve.kneesMissed = (s.unit u).valve.kneesMissed + 1
        ∧ (∃ b, ((missKnee u s).unit u).drive = { ((kneeMissed u s).unit u).drive with noRelease := b }
          ∧ ((s.unit u).drive.missedKnees + 1 = (s.profile u).noReleaseN → b = true ∧ Raised (diagSrc u 1) u 4 3 s (missKnee u s))) := by
      rw [missKnee_eq]
      split
      case isTrue hlast =>
        generalize hmarked : (kneeMissed u s).modDrive u (fun d => { d with noRelease := true }) = v
        have hset : SameExcept [.units, .clusters] s v := hmarked ▸ hframe.trans ((modUnit_frame _ u _).mono (by decide))
        have hv : (v.unit u).drive = { ((kneeMissed u s).unit u).drive with noRelease := true } ∧ (v.unit u).valve = ((kneeMissed u s).unit u).valve := by
          rw [← hmarked]; simp
        have hfault := fault_frame (diagSrc u 1) u 4 3 0 v
        rw [hfault.unit (by decide), hv.1, hv.2]
        refine ⟨(hset.append hfault).mono (by decide), (OthersKept.trans ?_ (.of_frame hfault (by decide))), hvalve, true, rfl,
          fun _ => ⟨rfl, (raised_fault (diagSrc u 1) u 4 3 0 v).of_before hset (by decide)⟩⟩
        exact hmarked ▸ hothers.trans (modUnit_others u _ _)
      case isFalse hmore =>
        exact ⟨hframe.mono (by decide), hothers, hvalve, _, rfl, fun hlast => absurd hlast hmore⟩
    obtain ⟨mframe, mothers, mvalve, b, mdrive, mraised⟩ := hcases
    have hintake : ∀ e, e ∈ (missKnee u s).faults.intake → e ∈ (strokeEvent u 2 (missKnee u s)).faults.intake := fun e he =>
      (kframe .faults (by decide) : _ = (missKnee u s).faults) ▸ he
    refine ⟨?_, ?_, ?_, mvalve, fun hlast => ⟨?_, (((mraised hlast).2).mono hintake).settle s0⟩, fun w hw => ?_,
      (mframe.append kframe).only_settle_of s0 (by decide)⟩
    case refine_5 => rw [unit_settled]; exact (mothers.trans kothers) w hw
    all_goals simp only [mdrive, hdrive]
    exact (mraised hlast).1
  · refine .of_settle (crowd u) (fun τ s _ => by unfold exec; exact about_next hu) fun s0 s hpre => ?_
    obtain ⟨hphase, hfirst, hlate⟩ := hpre
    obtain ⟨hframe, hothers, hunit, hedges, hraised⟩ := crowd_of_late hphase hfirst hlate
    rw [unit_settled, settle_cluster]
    exact ⟨hunit, hedges, fun hnone => (hraised hnone).settle s0, fun v hv => (unit_settled s0 _ v).trans (hothers v hv),
      hframe.only_settle_of s0 (by decide)⟩

end Sys2Proof.Machine
end

section
/-! Cycles of a nozzle PWM unit (R229 to R232, R274, R275). -/

namespace Sys2Proof.Machine

/-! ## The duty stands through a cycle's start (R229, R274) -/

/-- What driving units touches. -/
def cycleBanks : List Bank := [.units, .clusters, .ledger, .recorder, .events, .dies, .faults]

/-- No unit's duty changes, and the error intake keeps its entries. -/
structure DutyKept (s t : State) : Prop where
  frame : SameExcept cycleBanks s t
  duty : ∀ v, (t.unit v).drive.duty = (s.unit v).drive.duty
  intake : ∀ e, e ∈ s.faults.intake → e ∈ t.faults.intake

theorem DutyKept.refl (s : State) : DutyKept s s := ⟨.refl _ s, fun _ => rfl, fun _ h => h⟩

theorem DutyKept.trans {s t u : State} (h : DutyKept s t) (k : DutyKept t u) : DutyKept s u :=
  ⟨h.frame.trans k.frame, fun v => (k.duty v).trans (h.duty v), fun e he => k.intake e (h.intake e he)⟩

theorem DutyKept.ite {s t u : State} {p : Prop} [Decidable p] (h : DutyKept s t) (k : DutyKept s u) : DutyKept s (if p then t else u) := by
  split
  · exact h
  · exact k

theorem DutyKept.of_frame {bs : List Bank} {s t : State} (h : SameExcept bs s t) (hb : (∀ b, b ∈ bs → b ∈ cycleBanks) ∧ .units ∉ bs ∧ .faults ∉ bs) :
    DutyKept s t := by
  obtain ⟨hbanks, hunits, hfaults⟩ := hb
  exact ⟨h.mono hbanks, fun v => by rw [h.unit hunits], fun e he => (h .faults hfaults : t.faults = s.faults) ▸ he⟩

theorem fault_duty (n inst code sev ctx : Nat) (s : State) : DutyKept s (fault n inst code sev ctx s) :=
  ⟨(fault_frame n inst code sev ctx s).mono (by decide), fun v => by rw [(fault_frame n inst code sev ctx s).unit (by decide)],
    fun _ he => mem_intake_fault he _ _ _ _ _⟩

theorem modUnit_duty (s : State) (u : Nat) (f : UnitSt → UnitSt) (hf : ∀ x, (f x).drive.duty = x.drive.duty) : DutyKept s (s.modUnit u f) := by
  refine ⟨(modUnit_frame s u f).mono (by decide), fun v => ?_, fun _ h => h⟩
  by_cases hv : v = u
  · subst hv
    rw [State.modUnit_unit_self, hf]
  · rw [State.modUnit_unit_of_ne _ _ _ hv]

theorem modDrive_duty (s : State) (u : Nat) (f : Drive → Drive) (hf : ∀ d, (f d).duty = d.duty) : DutyKept s (s.modDrive u f) :=
  modUnit_duty s u _ fun x => hf x.drive

theorem modLearn_duty (s : State) (u : Nat) (f : Learn → Learn) : DutyKept s (s.modLearn u f) := modUnit_duty s u _ fun _ => rfl

theorem modValve_duty (s : State) (u : Nat) (f : ValveCounters → ValveCounters) : DutyKept s (s.modValve u f) := modUnit_duty s u _ fun _ => rfl

theorem modSect_duty (s : State) (u : Nat) (f : SectionSt → SectionSt) : DutyKept s (s.modSect u f) := modUnit_duty s u _ fun _ => rfl

theorem modFretCnt_duty (s : State) (u : Nat) (f : FretCounters → FretCounters) : DutyKept s (s.modFretCnt u f) := modUnit_duty s u _ fun _ => rfl

section
variable (u : Nat) (s : State)

theorem drawBase_duty (toDrawing : Bool) : DutyKept s (drawBase u toDrawing s) := by
  unfold drawBase
  simp only
  refine .ite (.refl s) ((DutyKept.of_frame (ledgerMove_frame _ _ s) (by decide)).trans (modDrive_duty _ u _ ?_))
  exact fun _ => rfl

theorem releaseBase_duty : DutyKept s (releaseBase u s) := by
  unfold releaseBase
  simp only
  have hreleased : ∀ reserved cs (f : Drive → Drive), (∀ d, (f d).duty = d.duty) → DutyKept s ((ledgerRelease reserved cs s).modDrive u f) :=
    fun reserved cs f hf => (DutyKept.of_frame (ledgerRelease_frame reserved cs s) (by decide)).trans (modDrive_duty _ u _ hf)
  refine .ite (.refl s) (.ite (hreleased _ _ _ ?_) ((hreleased _ _ _ ?_).trans
    (.of_frame ((ledgerRelease_frame _ _ _).append (modCluster_frame _ _ _)) (by decide))))
  · exact fun _ => rfl
  · exact fun _ => rfl

theorem settleBase_duty : DutyKept s (settleBase u s) := by
  unfold settleBase
  exact .ite (.refl s) (.ite (drawBase_duty u s false) (releaseBase_duty u s))

theorem enterRise_duty : DutyKept s (enterRise u s) := by
  refine ((((drawBase_duty u s true).trans (.of_frame (takeSlot_frame u _) (by decide))).trans (modDrive_duty _ u _ ?_)).trans
    (modValve_duty _ u _)).trans (.of_frame ((addTotal_frame _ _ _).append (updateRail_frame _ _)) (by decide))
  exact fun _ => rfl

theorem passSlot_duty (c : Nat) (us : List Nat) (s : State) : DutyKept s (passSlot c us s) := by
  induction us generalizing s with
  | nil => exact .of_frame (modCluster_frame s c _) (by decide)
  | cons u rest ih =>
    have hleft := DutyKept.of_frame ((learnWait_frame c (s.devtime - (s.unit u).drive.askedAt) s).append
      (modCluster_frame _ c fun x => { x with queue := rest })) (by decide)
    unfold passSlot
    simp only
    split
    · refine DutyKept.trans ?_ (ih _)
      refine (((hleft.trans (drawBase_duty u _ true)).trans (modDrive_duty _ u _ ?_)).trans (modLearn_duty _ u _)).trans (settleBase_duty u _)
      exact fun _ => rfl
    · split
      · refine ((hleft.trans (modValve_duty _ u _)).trans (modDrive_duty _ u _ ?_)).trans (enterRise_duty u _)
        exact fun _ => rfl
      · exact (hleft.trans (modValve_duty _ u _)).trans (enterRise_duty u _)

theorem yieldSlot_duty : DutyKept s (yieldSlot u s) := by
  unfold yieldSlot
  exact .ite (((DutyKept.of_frame (freeSlot_frame u s) (by decide)).trans (passSlot_duty _ _ _)).trans (.of_frame (updateRail_frame _ _) (by decide))) (.refl s)

theorem endHold_duty (ppm : Nat) : DutyKept s (endHold u ppm s) := by
  unfold endHold
  simp only
  split
  · exact .refl s
  · split
    · exact modLearn_duty s u _
    · exact modLearn_duty s u _

theorem turnOff_duty : DutyKept s (turnOff u s) := by
  refine (((((endHold_duty u s _).trans (modDrive_duty _ u _ ?_)).trans (modLearn_duty _ u _)).trans (yieldSlot_duty u _)).trans
    (settleBase_duty u _)).trans (.of_frame (updateRail_frame _ _) (by decide))
  exact fun _ => rfl

theorem waitOff_duty : DutyKept s ((s.modDrive u fun d => { d with offWaiting := true, openWinEnd := none }).modLearn u fun l => { l with openEdge := none }) := by
  refine (modDrive_duty s u _ ?_).trans (modLearn_duty _ u _)
  exact fun _ => rfl

theorem applyOff_duty : DutyKept s (applyOff u s) := by
  unfold applyOff
  split
  · exact .refl s
  · exact .refl s
  · exact waitOff_duty u s
  · exact turnOff_duty u s
  · exact turnOff_duty u s
  · exact turnOff_duty u s
  · exact turnOff_duty u s
  · exact modValve_duty s u _

theorem missDip_duty : DutyKept s (missDip u s) := by
  have hended : ∀ (p : Prop) [Decidable p] t, DutyKept t (if p then strokeEndedThere u t else t) := fun p _ t => .ite (modSect_duty t u _) (.refl t)
  have hcounted : ∀ t f n, DutyKept t (excludeSample u ((t.modValve u f).modDrive u fun d => { d with missedDips := n })) := fun t f n => by
    refine ((modValve_duty t u f).trans (modDrive_duty _ u _ ?_)).trans (modFretCnt_duty _ u _)
    exact fun _ => rfl
  have hclosed : ∀ g, DutyKept s ((s.modDrive u fun d => { d with openWinEnd := none }).modLearn u g) := fun g => by
    refine (modDrive_duty s u _ ?_).trans (modLearn_duty _ u g)
    exact fun _ => rfl
  unfold missDip
  simp only
  refine .ite (hclosed _) (.ite ?_ (((hclosed _).trans (hended _ _)).trans (hcounted _ _ _)))
  refine ((((hclosed _).trans (hended _ _)).trans (hcounted _ _ _)).trans (modDrive_duty _ u _ ?_)).trans (fault_duty _ _ _ _ _ _)
  exact fun _ => rfl

theorem startStroke_duty (i : EdgeInfo) (again : Bool) : DutyKept s (startStroke u i again s) := by
  have hclosed : ∀ (p : Prop) [Decidable p], DutyKept s (if p then missDip u s else s) := fun p _ => .ite (missDip_duty u s) (.refl s)
  have hmarked : ∀ t f b (e c : Drive → Option Nat), DutyKept t ((t.modLearn u f).modDrive u fun d => { d with dipSeen := b, openWinEnd := e d, closeWinEnd := c d }) :=
    fun t f b e c => by
      refine (modLearn_duty t u f).trans (modDrive_duty _ u _ ?_)
      exact fun _ => rfl
  have hwaits : ∀ t f, DutyKept t (((drawBase u true t).modCluster (clusterOf u) f).modDrive u fun d =>
      { d with phase := .slotWait, askedAt := s.devtime, crowdedSeen := false, offWaiting := false }) := fun t f => by
    refine ((drawBase_duty u t true).trans (.of_frame (modCluster_frame _ _ f) (by decide))).trans (modDrive_duty _ u _ ?_)
    exact fun _ => rfl
  unfold startStroke
  simp only
  exact .ite (((hclosed _).trans (hmarked _ _ _ _ _)).trans (enterRise_duty u _)) (((hclosed _).trans (hmarked _ _ _ _ _)).trans (hwaits _ _))

theorem countClamped_duty : DutyKept s (countClamped u s) := .ite (modValve_duty s u _) (.refl s)

theorem dipOverdue_duty : DutyKept s (dipOverdue u s) := .ite (missDip_duty u s) (.refl s)

theorem startCycle_duty (duty : Nat) (i : EdgeInfo) : DutyKept s (startCycle u duty i s) := by
  have hbegun : ∀ n e, DutyKept s ((countClamped u s).modDrive u fun d => { d with dutyNow := n, cycleStart := s.devtime, onTimeEnd := e }) := fun n e => by
    refine (countClamped_duty u s).trans (modDrive_duty _ u _ ?_)
    exact fun _ => rfl
  unfold startCycle
  simp only
  split
  · exact (((hbegun _ _).trans (dipOverdue_duty u _)).trans (modSect_duty _ u _)).trans (startStroke_duty u _ _ _)
  · exact (((hbegun _ _).trans (modSect_duty _ u _)).trans (modValve_duty _ u _)).trans (startStroke_duty u _ _ _)
  · exact hbegun _ _

theorem cycleStarts_duty (i : EdgeInfo) (forced : Bool) : DutyKept s (cycleStarts u i forced s) := by
  have hzero : ∀ t, DutyKept t (t.modDrive u fun d => { d with dutyNow := 0 }) := fun t => by
    refine modDrive_duty t u _ ?_
    exact fun _ => rfl
  have hheld : ∀ n e, DutyKept s ((countClamped u s).modDrive u fun d => { d with dutyNow := n, cycleStart := s.devtime, onTimeEnd := e }) := fun n e => by
    refine (countClamped_duty u s).trans (modDrive_duty _ u _ ?_)
    exact fun _ => rfl
  have hagain : DutyKept s (wantAgain u s) := by
    refine (modDrive_duty s u _ ?_).trans (modLearn_duty _ u _)
    exact fun _ => rfl
  have hended : ∀ (p : Prop) [Decidable p], DutyKept s (if p then applyOff u s else s) := fun p _ => .ite (applyOff_duty u s) (.refl s)
  unfold cycleStarts
  simp only
  refine .ite (.ite ((applyOff_duty u s).trans (hzero _)) (hheld _ _)) (.ite (.refl s) (.ite (.ite hagain (.refl s)) (.ite ?_ ?_)))
  · exact ((hended _).trans (hzero _)).trans (modSect_duty _ u _)
  · exact (hended _).trans (startCycle_duty u _ _ _)

end

/-! ## A cycle's start (R229 to R231, R274) -/

/-- R230: the next nominal start is set before the duty is computed. -/
def cycleMarked (u : Nat) (s : State) : State :=
  s.modDrive u fun d => { d with nextCycle := some (nextStart s u), edgeMarked := false, forced := false }

theorem cycleMarked_others (u : Nat) (s : State) : OthersKept u s (cycleMarked u s) := modUnit_others u s _

theorem cycleMarked_frame (u : Nat) (s : State) : SameExcept [.units] s (cycleMarked u s) := modUnit_frame s u _

theorem cycleMarked_drive (u : Nat) (s : State) : ((cycleMarked u s).unit u).drive
    = { (s.unit u).drive with nextCycle := some (nextStart s u), edgeMarked := false, forced := false } := by simp [cycleMarked]

theorem rateStaged_cycleMarked (u : Nat) (s : State) : rateStaged (cycleMarked u s) u = rateStaged s u := by
  rw [rateStaged, cycleMarked_drive]
  rfl

theorem pwmCycleStart_of_due {u mp : Nat} {v : Bool} {s : State} (hdue : cycleDueNow s u = true) :
    pwmCycleStart u mp v s = cycleStarts u { late := (s.unit u).drive.edgeMarked } (s.unit u).drive.forced (stageFor u mp v (cycleMarked u s)) := by
  have htaken : ¬(!cycleDueNow s u) = true := by simp [hdue]
  exact if_neg htaken

theorem stageFor_of_host {u mp : Nat} {v : Bool} {s : State} (hhost : rateStaged s u = false) : stageFor u mp v s = s := by
  unfold stageFor
  split
  · rw [hhost]
    rfl
  · rfl

theorem effDuty_of_share {d : Nat} (hlow : 500 ≤ d) (hhigh : d < 10000) : effDuty d = d := by
  unfold effDuty
  split_ifs
  · omega
  · omega
  · omega

/-- R231: the end of the on-time of a cycle that starts now. -/
def shareEnd (u : Nat) (s : State) : Nat := s.devtime + (s.unit u).drive.duty * (1000000 / pwmHz s (clusterOf u)) / 10000

/-- R231: a cycle's duty and on-time. -/
def cycleBegun (u : Nat) (s : State) : State :=
  s.modDrive u fun d => { d with dutyNow := (s.unit u).drive.duty, cycleStart := s.devtime, onTimeEnd := some (shareEnd u s) }

theorem cycleBegun_drive (u : Nat) (s : State) : ((cycleBegun u s).unit u).drive
    = { (s.unit u).drive with dutyNow := (s.unit u).drive.duty, cycleStart := s.devtime, onTimeEnd := some (shareEnd u s) } := by simp [cycleBegun]

/-- R231: a cycle of a unit that is off starts its stroke once its on-time is set. -/
theorem cycleStarts_of_off {u : Nat} {i : EdgeInfo} {forced : Bool} {s : State} (hphase : (s.unit u).drive.phase = .off)
    (hlow : 500 ≤ (s.unit u).drive.duty) (hhigh : (s.unit u).drive.duty < 10000) : ∃ t, OthersKept u s t ∧ SameExcept [.units, .events, .dies, .faults] s t
      ∧ WindowsOnly u (cycleBegun u s) t ∧ cycleStarts u i forced s = startStroke u { i with cycle := true } false t := by
  have hnot : ¬(s.unit u).drive.duty < 500 := Nat.not_lt.mpr hlow
  have hzero : ¬(s.unit u).drive.duty = 0 := by omega
  have hunclamped : countClamped u s = s := by simp [countClamped, hnot]
  have hoff : inProfile (s.unit u).drive = false := by simp [inProfile, hphase]
  have hstart : cycleStarts u i forced s = startStroke u { i with cycle := true } false (strokeMayEnd u 0 s.devtime (dipOverdue u (cycleBegun u s))) := by
    simp only [cycleStarts, hoff, hphase, effDuty_of_share hlow hhigh, hzero, startCycle, hunclamped, hhigh]
    simp [cycleBegun, shareEnd, hphase, hunclamped]
  have hended : WindowsOnly u (dipOverdue u (cycleBegun u s)) (strokeMayEnd u 0 s.devtime (dipOverdue u (cycleBegun u s))) :=
    modUnit_windows u _ fun _ => by rfl
  refine ⟨_, ((modUnit_others u s _).trans (.ite (missDip_others u _) (.refl u _))).trans (modUnit_others u _ _), ?_, ?_, hstart⟩
  · exact (((modUnit_frame s u _).mono (by decide)).trans (.ite (missDip_frame u _) (.refl _ _))).trans ((modUnit_frame _ u _).mono (by decide))
  · exact (WindowsOnly.ite (missDip_windows u _) (.refl u _)).trans hended

theorem turnOff_frame_of_alone {u : Nat} {s : State} (halone : passesNoSlot u s) : SameExcept [.units, .clusters, .ledger] s (turnOff u s) := by
  have hcluster := (endHold_frame u (dutyOf s u) s).cluster (by decide) (clusterOf u)
  have hended : ∀ f g, SameExcept [.units, .clusters, .ledger] s
      (updateRail (clusterOf u) (settleBase u (yieldSlot u (((endHold u (dutyOf s u) s).modDrive u f).modLearn u g)))) := fun f g => by
    have hyield := yieldSlot_frame_of_alone (u := u) (s := ((endHold u (dutyOf s u) s).modDrive u f).modLearn u g)
      (by rw [passesNoSlot, State.modLearn_cluster, State.modDrive_cluster, hcluster]; exact halone)
    exact ((((((endHold_frame u _ s).trans (modUnit_frame _ u _)).trans (modUnit_frame _ u _)).append hyield).append (settleBase_frame u _)).append
      (updateRail_frame _ _)).mono (by decide)
  exact hended _ _

theorem onTimeEnds_of_hold {u ppm e : Nat} {s : State} (hend : (s.unit u).drive.onTimeEnd = some e) (hdue : e ≤ s.devtime)
    (hphase : (s.unit u).drive.phase = .hold) :
    onTimeEnds u ppm s = (turnOff u (senseDuty u ppm s)).modDrive u fun d => { d with onTimeEnd := none } := by
  have htaken : ¬(!timeDue (s.unit u).drive.onTimeEnd s.devtime || (s.unit u).drive.phase == .slotWait) = true := by
    simp [hend, timeDue, hdue, hphase]
  have hoff : applyOff u (senseDuty u ppm s) = turnOff u (senseDuty u ppm s) := by
    have hphase1 : ((senseDuty u ppm s).unit u).drive.phase = .hold := hphase
    rw [applyOff, hphase1]
  rw [onTimeEnds, if_neg htaken, hoff]

/-! ## The statement -/

/-- Settles O35: a cycle's start begins the stroke for the duty's share, a computed duty that fails stays as it was, and the on-time's end turns
the unit off. -/
theorem pwmCycles : Obligations.PwmCycles := by
  unfold Obligations.PwmCycles
  refine ⟨fun u mp v hu => ?_, fun u mp v hu => ?_, fun u mp x hu => ?_, fun u mp v hu => ?_, fun u ppm e hu => ?_⟩
  · refine .of_settle (pwmCycleStart u mp v) (fun τ s _ => by unfold exec; exact about_next hu) fun s0 s hpre => ?_
    obtain ⟨hdue, hhost, hlow, hhigh, hphase, hfree⟩ := hpre
    have hmarked := cycleMarked_drive u s
    have hduty : ((cycleMarked u s).unit u).drive.duty = (s.unit u).drive.duty := by rw [hmarked]
    rw [pwmCycleStart_of_due hdue, stageFor_of_host ((rateStaged_cycleMarked u s).trans hhost)]
    obtain ⟨t, hothers, hframe, hwindows, hstart⟩ := cycleStarts_of_off (u := u) (s := cycleMarked u s) (i := { late := (s.unit u).drive.edgeMarked })
      (forced := (s.unit u).drive.forced) (by rw [hmarked]; exact hphase) (hduty ▸ hlow) (hduty ▸ hhigh)
    have hslot : slotFree u t := by
      rw [slotFree, hframe.cluster (by decide)]
      exact hfree
    obtain ⟨kframe, kothers, ⟨y, b, r, hy, _, kunit⟩, kholder⟩ := startStroke_risen hslot { late := (s.unit u).drive.edgeMarked, cycle := true } false
    rw [hstart]
    have hkept : ∀ {α : Type} (g : Drive → α), (∀ x : UnitSt, g x.strokeless.drive = g x.drive) → g y.drive = g ((cycleBegun u (cycleMarked u s)).unit u).drive :=
      fun g hg => (hg y).symm.trans ((congrArg (fun x : UnitSt => g x.drive) (hy.trans hwindows)).trans (hg _))
    have hbegun := cycleBegun_drive u (cycleMarked u s)
    rw [unit_settled, settle_cluster, kunit]
    refine ⟨rfl, ?_, ?_, ?_, ?_, kholder, fun w hw => ?_, (((cycleMarked_frame u s).append hframe).append kframe).only_settle_of s0 (by decide)⟩
    · exact (hkept (·.cycleStart) fun _ => rfl).trans (congrArg Drive.cycleStart hbegun)
    · exact (hkept (·.dutyNow) fun _ => rfl).trans ((congrArg Drive.dutyNow hbegun).trans hduty)
    · refine (hkept (·.onTimeEnd) fun _ => rfl).trans ((congrArg Drive.onTimeEnd hbegun).trans ?_)
      rw [shareEnd, hduty]
      rfl
    · exact (hkept (·.nextCycle) fun _ => rfl).trans ((congrArg Drive.nextCycle hbegun).trans (congrArg Drive.nextCycle hmarked))
    · rw [unit_settled]
      exact (((cycleMarked_others u s).trans hothers).trans kothers) w hw
  · refine .of_settle (pwmCycleStart u mp v) (fun τ s _ => by unfold exec; exact about_next hu) fun s0 s hpre => ?_
    obtain ⟨hdue, hhost, hzero, hphase⟩ := hpre
    have hmarked := cycleMarked_drive u s
    have hoff : inProfile (s.unit u).drive = false := by simp [inProfile, hphase]
    have hended : cycleStarts u { late := (s.unit u).drive.edgeMarked } (s.unit u).drive.forced (cycleMarked u s)
        = strokeEndedThere u ((cycleMarked u s).modDrive u fun d => { d with dutyNow := 0 }) := by
      simp [cycleStarts, hmarked, inProfile, hphase, hzero, effDuty]
    rw [pwmCycleStart_of_due hdue, stageFor_of_host ((rateStaged_cycleMarked u s).trans hhost), hended]
    refine ⟨?_, ?_, fun w hw => ?_, (((cycleMarked_frame u s).trans (modUnit_frame _ u _)).trans (modUnit_frame _ u _)).only_settle s0⟩
    · rw [unit_settled]
      simp [strokeEndedThere, hmarked, hphase]
    · rw [unit_settled]
      simp [strokeEndedThere]
    · rw [unit_settled]
      exact (((cycleMarked_others u s).trans (modUnit_others u _ _)).trans (modUnit_others u _ _)) w hw
  · refine .of_settle (pwmCycleStart u mp false) (fun τ s _ => by unfold exec; exact about_next hu) fun s0 s hpre => ?_
    obtain ⟨hdue, hstaged, hsec, hfresh⟩ := hpre
    have hsec1 : (cycleMarked u s).secOf u = some x := hsec
    have hbad : (cycleMarked u s).pressureBad = s.pressureBad := rfl
    generalize hfailed : ({ (cycleMarked u s).modDrive u (fun d => { d with duty := d.dutyNow }) with pressureBad := s.pressureBad ++ [x.product] } : State) = t
    have hstage : stageFor u mp false (cycleMarked u s) = fault 219 x.product 1 2 0 t := by
      rw [stageFor, hsec1]
      simp only [rateStaged_cycleMarked, hstaged, if_true]
      rw [stage, if_pos (by simp)]
      simp only [State.modDrive_pressureBad, hbad, ← hfailed]
      rw [if_neg (by simpa using hfresh)]
    have hframe : SameExcept [.units, .rates] s t := by
      rw [← hfailed]
      refine ((cycleMarked_frame u s).trans (modUnit_frame _ u fun y => { y with drive := { y.drive with duty := y.drive.dutyNow } })).append (cs := [.rates]) ?_
      intro b hb
      cases b <;> simp_all [Bank.same]
      rfl
    have hduty : (t.unit u).drive.duty = (s.unit u).drive.dutyNow := by
      have hunit : t.unit u = ((cycleMarked u s).modDrive u (fun d => { d with duty := d.dutyNow })).unit u := by rw [← hfailed]; rfl
      rw [hunit, State.modDrive_unit_self]
      exact (congrArg Drive.dutyNow (cycleMarked_drive u s)).trans rfl
    have hfault := fault_frame 219 x.product 1 2 0 t
    have hkept := cycleStarts_duty u (fault 219 x.product 1 2 0 t) { late := (s.unit u).drive.edgeMarked } (s.unit u).drive.forced
    rw [pwmCycleStart_of_due hdue, hstage]
    refine ⟨?_, ?_, (((raised_fault 219 x.product 1 2 0 t).of_before hframe (by decide)).mono hkept.intake).settle s0,
      ((hframe.append hfault).append hkept.frame).only_settle_of s0 (by decide)⟩
    · rw [settle_pressureBad, (hkept.frame .rates (by decide)).2.2.2.1, (hfault .rates (by decide)).2.2.2.1, ← hfailed]
      exact List.mem_append_right _ (List.mem_singleton_self _)
    · rw [unit_settled, hkept.duty, hfault.unit (by decide), hduty]
  · refine .of_settle (pwmCycleStart u mp v) (fun τ s _ => by unfold exec; exact about_next hu) fun s0 s hpre => ?_
    have hstays : pwmCycleStart u mp v s = s := by simp [pwmCycleStart, hpre]
    rw [hstays]
    exact (SameExcept.refl [] s).only_settle s0
  · refine .of_settle (onTimeEnds u ppm) (fun τ s _ => by unfold exec; exact about_next hu) fun s0 s hpre => ?_
    obtain ⟨hend, hdue, hphase, hqueue⟩ := hpre
    have hsensed : SameExcept [.nav] s (senseDuty u ppm s) := modNav_frame s _
    have halone : passesNoSlot u (senseDuty u ppm s) := fun _ => hqueue
    obtain ⟨n, b, l, hunit⟩ := turnOff_unit_of_alone u (senseDuty u ppm s) halone
    have hothers := turnOff_others_of_alone u (senseDuty u ppm s) halone
    rw [onTimeEnds_of_hold hend hdue hphase]
    refine ⟨?_, ?_, ?_, fun w hw => ?_, ?_⟩
    case refine_4 =>
      rw [unit_settled]
      exact (((OthersKept.of_frame hsensed (by decide)).trans hothers).trans (modUnit_others u _ _)) w hw
    case refine_5 =>
      exact ((hsensed.append (turnOff_frame_of_alone halone)).append (modUnit_frame _ u _)).only_settle_of s0 (by decide)
    case refine_3 =>
      rw [unit_settled, State.modDrive_unit_self, hunit]
      rfl
    all_goals rw [unit_settled, State.modDrive_unit_self, hunit]

end Sys2Proof.Machine
end

section
/-! Faults of switch channels (R282, R283, R285 to R288, R293, R297). -/

namespace Sys2Proof.Machine

/-! ## Steps that may turn outputs off (R262) -/

theorem mem_intake_followOutput {e : IntakeEntry} {s : State} (he : e ∈ s.faults.intake) (l : Nat) : e ∈ (followOutput l s).faults.intake := by
  unfold followOutput
  simp only
  split
  · exact he
  · split
    · exact mem_intake_fault (s := s.modLoop l _) he _ _ _ _ _
    · exact he

theorem mem_intake_followLoops {e : IntakeEntry} {s : State} (he : e ∈ s.faults.intake) : e ∈ (followLoops s).faults.intake := by
  unfold followLoops
  generalize s.cfg.loops = ps
  induction ps generalizing s with
  | nil => exact he
  | cons p ps ih => exact ih (mem_intake_followOutput he _)

/-- A fault of a step stays raised through what the loops make of the step. -/
theorem raised_outs {n inst code sev : Nat} {s t : State} (h : Raised n inst code sev s t) (s0 : State) :
    Raised n inst code sev s (settle s0 (followLoops t)) :=
  (h.mono fun _ => mem_intake_followLoops).settle s0

/-- What a step that may turn outputs off leaves besides the loops bound to them. -/
theorem SameExcept.only_outs {bs cs : List Bank} {s t : State} (h : SameExcept bs s t) (s0 : State)
    (hbanks : ∀ b, b ∈ bs ++ [.loops, .events, .faults] → b ∈ cs ++ endBanks) : Only cs s (settle s0 (followLoops t)) :=
  (h.append ((followLoops_frame t).mono fun _ hb => hb)).only_settle_of s0 hbanks

/-- A row about a switch channel that the package has. -/
theorem Does.of_switch {c : Nat → Instr} {n : Nat} {pre : State → Prop} {post : State → State → Prop} (f : State → State) (hn : n < 24)
    (hexec : ∀ τ s, exec (c τ) s = aboutSwitch n τ f s) (hpost : ∀ s0 s, pre s → post s (settle s0 (followLoops (f s)))) : Does c pre post :=
  .of_settle (fun s => followLoops (f s)) (fun τ s _ => (hexec τ s).trans ((if_pos hn).trans (at_next _ _ _))) hpost

/-! ## A fault of a channel that is on (R287, R288) -/

/-- A channel that has tripped now on the fault `code`. -/
def SwitchSt.tripped (x : SwitchSt) (code now : Nat) : SwitchSt := { x with lastFault := code, tripAt := now, triedAt := now, onSince := now }

/-- R287: where a fault leaves a channel. -/
def tripState (x : SwitchSt) : SwState := if 0 < x.retryLeft then .backoff else .exhausted

/-- A channel's fault, counted and reported. -/
def faultNoted (n code : Nat) (s : State) : State := fault (160 + n) n code 3 0 (countSw n (code + 2) 1 (skipDrift (driftOfSw n) s))

/-- R287: the end of a channel's retries, reported and told. -/
def retriesEnd (n : Nat) (s : State) : State := swLocked n 4 false 0 0 etaNever (fault (160 + n) n 4 2 0 s)

/-- A channel's fault before its output goes off. -/
def tripBegun (n code : Nat) (s : State) : State :=
  (if 0 < (s.sw n).retryLeft then faultNoted n code s else retriesEnd n (faultNoted n code s)).modSw n fun x => x.tripped code s.devtime

/-- What a fault of channel `n` may touch. -/
def tripBanks : List Bank := [.switches, .vents, .ledger, .recorder, .courses, .events, .dies, .faults]

section
variable (n code : Nat) (s : State)

theorem swFault_eq (cs : Clamps) : swFault n code cs s = cutSw n (tripState (s.sw n)) cs (tripBegun n code s) := rfl

theorem counted_frame : SameExcept [.ledger, .switches] s (countSw n (code + 2) 1 (skipDrift (driftOfSw n) s)) :=
  (skipDrift_frame s _).append (countSw_frame n _ 1 _)

theorem faultNoted_frame : SameExcept [.ledger, .switches, .events, .dies, .faults] s (faultNoted n code s) :=
  (counted_frame n code s).append (fault_frame _ _ _ _ _ _)

theorem retriesEnd_frame : SameExcept [.courses, .events, .dies, .faults] s (retriesEnd n s) :=
  ((fault_frame _ _ _ _ _ s).append (swLocked_frame _ _ _ _ _ _ _)).mono (by decide)

theorem tripBegun_frame : SameExcept [.ledger, .switches, .courses, .events, .dies, .faults] s (tripBegun n code s) := by
  have hfault := (faultNoted_frame n code s).mono (cs := [.ledger, .switches, .courses, .events, .dies, .faults]) (by decide)
  exact (SameExcept.ite hfault (hfault.trans ((retriesEnd_frame n _).mono (by decide)))).trans ((modSw_frame _ n _).mono (by decide))

theorem faultNoted_kept : ChannelsKept n s (faultNoted n code s) :=
  ((ChannelsKept.of_frame (skipDrift_frame s _) (by decide)).trans (modSw_kept n _ _)).trans (.of_frame (fault_frame _ _ _ _ _ _) (by decide))

theorem tripBegun_kept : ChannelsKept n s (tripBegun n code s) :=
  (ChannelsKept.ite (faultNoted_kept n code s) ((faultNoted_kept n code s).trans (.of_frame (retriesEnd_frame n _) (by decide)))).trans (modSw_kept n _ _)

/-- A fault is counted at its channel, and changes nothing else of it. -/
theorem faultNoted_sw : ((faultNoted n code s).sw n).uncounted = (s.sw n).uncounted := by
  rw [faultNoted, (fault_frame _ _ _ _ _ _).sw (by decide) n, countSw, State.modSw_sw_self, (skipDrift_frame s _).sw (by decide) n]
  rfl

theorem tripBegun_sw : ((tripBegun n code s).sw n).uncounted = ((s.sw n).tripped code s.devtime).uncounted := by
  have hmarked : ∀ x : SwitchSt, (x.tripped code s.devtime).uncounted = x.uncounted.tripped code s.devtime := fun _ => rfl
  rw [tripBegun, State.modSw_sw_self, hmarked, hmarked]
  split
  · rw [faultNoted_sw]
  · rw [(retriesEnd_frame n _).sw (by decide) n, faultNoted_sw]

theorem faultNoted_raises : Raised (160 + n) n code 3 s (faultNoted n code s) := (raised_fault _ _ _ _ _ _).of_before (counted_frame n code s) (by decide)

theorem tripBegun_raises : Raised (160 + n) n code 3 s (tripBegun n code s) := by
  have hfault := faultNoted_raises n code s
  have hended : Raised (160 + n) n code 3 s (retriesEnd n (faultNoted n code s)) :=
    (hfault.mono fun _ he => mem_intake_fault he _ _ _ _ _).unchanged (swLocked_frame n 4 false 0 0 etaNever _) (by decide)
  unfold tripBegun
  split
  · exact hfault
  · exact hended

end

/-- What a fault of channel `n`, which was on, leaves. -/
structure Tripped (n code : Nat) (cs : Clamps) (s t : State) : Prop where
  frame : SameExcept tripBanks s t
  kept : ChannelsKept n s t
  sw : (t.sw n).uncounted = (((s.sw n).tripped code s.devtime).cut (tripState (s.sw n))).uncounted
  used : (t.vent (swClusterOf n)).used = (s.vent (swClusterOf n)).used + (clampOf cs n).1
  raised : Raised (160 + n) n code 3 s t

theorem uncounted_cut {x y : SwitchSt} (h : x.uncounted = y.uncounted) (next : SwState) : (x.cut next).uncounted = (y.cut next).uncounted := by
  have hcut : ∀ x : SwitchSt, (x.cut next).uncounted = x.uncounted.cut next := fun _ => rfl
  rw [hcut, hcut, h]

theorem swFault_tripped {n code : Nat} {cs : Clamps} {s : State} (hallowed : clampAllowed n cs s) : Tripped n code cs s (swFault n code cs s) := by
  have hbegun := tripBegun_frame n code s
  have hcfg := hbegun.cfg (by decide)
  have hclamp : clampAllowed n cs (tripBegun n code s) := by rw [clampAllowed, State.swCfg, hcfg]; exact hallowed
  have hoff := cutOff_frame n cs (tripBegun n code s) (tripState (s.sw n))
  rw [swFault_eq, cutSw_of_allowed hclamp]
  refine ⟨(hbegun.append hoff).mono (by decide), (tripBegun_kept n code s).trans (cutOff_kept n cs _ _), ?_, ?_, ?_⟩
  · exact (cutOff_sw n cs _ _).trans (uncounted_cut (tripBegun_sw n code s) _)
  · rw [cutOff_used, hbegun.vent (by decide)]
  · exact (tripBegun_raises n code s).unchanged hoff (by decide)

/-- The fields of a channel that no count touches. -/
theorem eq_of_uncounted {α : Type} {x y : SwitchSt} (h : x.uncounted = y.uncounted) (f : SwitchSt → α) (hf : ∀ x, f x.uncounted = f x) : f x = f y := by
  rw [← hf x, h, hf]

section
variable {n code : Nat} {cs : Clamps} {s t : State} (h : Tripped n code cs s t)
include h

theorem Tripped.state : (t.sw n).state = tripState (s.sw n) := eq_of_uncounted h.sw SwitchSt.state fun _ => rfl

theorem Tripped.base : (t.sw n).base = 0 := eq_of_uncounted h.sw SwitchSt.base fun _ => rfl

theorem Tripped.surcharge : (t.sw n).surcharge = 0 := eq_of_uncounted h.sw SwitchSt.surcharge fun _ => rfl

theorem Tripped.reserved : (t.sw n).ventReserved = 0 := eq_of_uncounted h.sw SwitchSt.ventReserved fun _ => rfl

theorem Tripped.lastFault : (t.sw n).lastFault = code := eq_of_uncounted h.sw SwitchSt.lastFault fun _ => rfl

theorem Tripped.tripAt : (t.sw n).tripAt = s.devtime := eq_of_uncounted h.sw SwitchSt.tripAt fun _ => rfl

theorem Tripped.latch : (t.sw n).latch = (s.sw n).latch := eq_of_uncounted h.sw SwitchSt.latch fun _ => rfl

theorem Tripped.latchAt : (t.sw n).latchAt = (s.sw n).latchAt := eq_of_uncounted h.sw SwitchSt.latchAt fun _ => rfl

end

/-! ## Disturbance windows (R297, R298) -/

/-- A neighbour's inrush window is extended once. -/
def extend (n : Nat) (s : State) (m : Nat) : State :=
  if m = n || (s.sw m).state != .inrush || (s.sw m).extended then s
  else s.modSw m fun x => { x with extended := true, inrushEnd := x.inrushEnd.map (· + 500) }

theorem disturb_eq (n : Nat) (s : State) : disturb n s =
    (channelsOfCluster (swClusterOf n)).foldl (extend n) (s.modVent (swClusterOf n) fun v => { v with disturbEnd := some (s.devtime + 500) }) := rfl

/-- Channel `n` stands, and every channel's state. -/
structure WindowsMoved (n : Nat) (s t : State) : Prop where
  frame : SameExcept [.switches] s t
  own : t.sw n = s.sw n
  states : ∀ m, (t.sw m).state = (s.sw m).state

theorem WindowsMoved.trans {n : Nat} {s t u : State} (h : WindowsMoved n s t) (k : WindowsMoved n t u) : WindowsMoved n s u :=
  ⟨h.frame.trans k.frame, k.own.trans h.own, fun m => (k.states m).trans (h.states m)⟩

theorem extend_moves (n m : Nat) (s : State) : WindowsMoved n s (extend n s m) := by
  unfold extend
  split
  · exact ⟨.refl _ s, rfl, fun _ => rfl⟩
  · next h =>
    have hm : n ≠ m := fun hn => h (by simp [hn])
    refine ⟨modSw_frame s m _, State.modSw_sw_of_ne _ _ _ hm, fun k => ?_⟩
    by_cases hk : k = m
    · subst hk; rw [State.modSw_sw_self]
    · rw [State.modSw_sw_of_ne _ _ _ hk]

theorem extends_move (n : Nat) (ms : List Nat) (s : State) : WindowsMoved n s (ms.foldl (extend n) s) := by
  induction ms generalizing s with
  | nil => exact ⟨.refl _ s, rfl, fun _ => rfl⟩
  | cons m ms ih => exact (extend_moves n m s).trans (ih _)

/-- R297: what the window of channel `n`'s cluster leaves. -/
theorem disturb_moves (n : Nat) (s : State) :
    SameExcept [.switches, .vents] s (disturb n s) ∧ (disturb n s).sw n = s.sw n ∧ (∀ m, ((disturb n s).sw m).state = (s.sw m).state)
      ∧ (disturb n s).vent (swClusterOf n) = { s.vent (swClusterOf n) with disturbEnd := some (s.devtime + 500) } := by
  have hopened := modVent_frame s (swClusterOf n) fun v => { v with disturbEnd := some (s.devtime + 500) }
  obtain ⟨hframe, hown, hstates⟩ := extends_move n (channelsOfCluster (swClusterOf n)) (s.modVent (swClusterOf n) fun v => { v with disturbEnd := some (s.devtime + 500) })
  rw [disturb_eq]
  exact ⟨(hopened.append hframe).mono (by decide), hown, hstates, by rw [hframe.vent (by decide)]; simp⟩

/-! ## The thermal latch (R286) -/

/-- A channel whose thermal latch has set. -/
def latched (n : Nat) (s : State) : State :=
  skipDrift (driftOfSw n) (s.modSw n fun x => { x with latch := true, latchAt := some s.devtime })

theorem latchSets_of_clear {n : Nat} {cs : Clamps} {s : State} (hclear : (s.sw n).latch = false) :
    latchSets n cs s = if swOn (s.sw n) then swFault n 2 cs (latched n s) else fault (160 + n) n 2 3 0 (countSw n 4 1 (latched n s)) := by
  unfold latchSets
  rw [if_neg (by simp [hclear])]
  rfl

theorem latched_frame (n : Nat) (s : State) : SameExcept [.switches, .ledger] s (latched n s) := (modSw_frame s n _).append (skipDrift_frame _ _)

theorem latched_kept (n : Nat) (s : State) : ChannelsKept n s (latched n s) := (modSw_kept n s _).trans (.of_frame (skipDrift_frame _ _) (by decide))

theorem latched_sw (n : Nat) (s : State) : (latched n s).sw n = { s.sw n with latch := true, latchAt := some s.devtime } := by
  rw [latched, (skipDrift_frame _ _).sw (by decide), State.modSw_sw_self]

/-! ## Open load (R285) -/

/-- A channel whose open load has set. -/
def openNoted (n : Nat) (s : State) : State := countSw n 5 1 (s.modSw n fun x => { x with openLoad := true, openAt := s.devtime })

theorem openNoted_frame (n : Nat) (s : State) : SameExcept [.switches] s (openNoted n s) := (modSw_frame s n _).trans (countSw_frame n 5 1 _)

/-! ## The statement -/

theorem shortTrip_tripped {n : Nat} {cs : Clamps} {s : State} (hon : swOn (s.sw n) = true) (hallowed : clampAllowed n cs s) :
    ∃ t, shortTrip n cs s = disturb n t ∧ Tripped n 0 cs s t := ⟨_, if_pos hon, swFault_tripped hallowed⟩

theorem swOn_of_on {x : SwitchSt} (h : x.state = .on) : swOn x = true := by simp [swOn, h]

/-- Settles O40: a fault of a channel that is on, then each row's own mark. -/
theorem switchFaults : Obligations.SwitchFaults := by
  unfold Obligations.SwitchFaults
  refine ⟨fun n cl hn => .of_switch _ hn (fun _ _ => rfl) fun s0 s ⟨hon, hleft, henergy, hfree⟩ => ?_,
    fun n cl hn => .of_switch _ hn (fun _ _ => rfl) fun s0 s ⟨hon, hleft, henergy, hfree⟩ => ?_,
    fun n cl hn => .of_switch _ hn (fun _ _ => rfl) fun s0 s ⟨hon, hcalm, hlate, hleft, henergy, hfree⟩ => ?_,
    fun n cl hn => .of_switch _ hn (fun _ _ => rfl) fun s0 s hrush => ?_,
    fun n cl hn => .of_switch _ hn (fun _ _ => rfl) fun s0 s ⟨hclear, hon, hleft, henergy, hfree⟩ => ?_,
    fun n cl hn => .of_switch _ hn (fun _ _ => rfl) fun s0 s ⟨hclear, hoff⟩ => ?_,
    fun n hn => .of_switch (latchClears n) hn (fun τ s => ?_) fun s0 s ⟨hset, hstate⟩ => ?_,
    fun n a hn => .of_switch _ hn (fun _ _ => rfl) fun s0 s ⟨hset, hdue⟩ => ?_,
    fun n hn => .of_switch _ hn (fun _ _ => rfl) fun s0 s ⟨hon, hload, hcalm, hlate⟩ => ?_,
    fun n hn => .of_switch _ hn (fun _ _ => rfl) fun s0 s ⟨hon, hlate, hopened⟩ => ?_⟩
  · obtain ⟨t, hshort, ht⟩ := shortTrip_tripped hon ⟨henergy, hfree⟩
    obtain ⟨hframe, hown, hstates, hvent⟩ := disturb_moves n t
    have hnow : t.devtime = s.devtime := ht.frame.devtime (by decide)
    rw [hshort]
    simp only [settle_sw, followLoops_sw, settle_vent, followLoops_vent, hown, hstates, hvent, hnow]
    refine ⟨by rw [ht.state, tripState, if_pos hleft], ht.base, ht.surcharge, ht.reserved, ht.lastFault, ht.tripAt, trivial, ht.used,
      fun m hm => by rw [ht.kept m hm], raised_outs (ht.raised.unchanged hframe (by decide)) s0, ?_⟩
    exact (ht.frame.append hframe).only_outs s0 (by decide)
  · obtain ⟨t, hshort, ht⟩ := shortTrip_tripped hon ⟨henergy, hfree⟩
    obtain ⟨hframe, hown, -, -⟩ := disturb_moves n t
    rw [hshort]
    simp only [settle_sw, followLoops_sw, hown]
    exact ⟨by rw [ht.state, tripState, if_neg (by omega)], ht.base, raised_outs (ht.raised.unchanged hframe (by decide)) s0,
      (ht.frame.append hframe).only_outs s0 (by decide)⟩
  · have ht := swFault_tripped (code := 1) (s := s) ⟨henergy, hfree⟩
    have htaken : overcurrent n cl s = swFault n 1 cl s := by
      unfold overcurrent
      exact if_neg (by simp [hon, hcalm]; omega)
    rw [htaken]
    simp only [settle_sw, followLoops_sw]
    exact ⟨by rw [ht.state, tripState, if_pos hleft], ht.base, ht.lastFault, ht.kept, raised_outs ht.raised s0, ht.frame.only_outs s0 (by decide)⟩
  · have hnone : overcurrent n cl s = s := by
      unfold overcurrent
      exact if_pos (by simp [hrush])
    rw [hnone]
    exact (SameExcept.refl [] s).only_outs s0 (by decide)
  · have hallowed : clampAllowed n cl (latched n s) := ⟨henergy, by rw [State.swCfg, (latched_frame n s).cfg (by decide)]; exact hfree⟩
    have ht := swFault_tripped (code := 2) hallowed
    rw [latchSets_of_clear hclear, if_pos hon]
    simp only [settle_sw, followLoops_sw]
    refine ⟨?_, by rw [ht.latch, latched_sw], by rw [ht.latchAt, latched_sw], (latched_kept n s).trans ht.kept,
      raised_outs (ht.raised.of_before (latched_frame n s) (by decide)) s0, ((latched_frame n s).append ht.frame).only_outs s0 (by decide)⟩
    rw [ht.state, latched_sw, tripState, if_pos hleft]
  · have hcounted := (latched_frame n s).append (countSw_frame n 4 1 (latched n s))
    have hfault := fault_frame (160 + n) n 2 3 0 (countSw n 4 1 (latched n s))
    rw [latchSets_of_clear hclear, if_neg (by simp [hoff])]
    simp only [settle_sw, followLoops_sw, hfault.sw (by decide : Bank.switches ∉ _)]
    exact ⟨by simp [countSw, latched_sw], by simp [countSw, latched_sw], raised_outs ((raised_fault _ _ _ _ _ _).of_before hcounted (by decide)) s0,
      (hcounted.append hfault).only_outs s0 (by decide)⟩
  · unfold exec execThermalLatchClear
    exact if_neg (by simp; omega)
  · have hcleared : latchClears n s = s.modSw n fun x => { x with latch := false, latchAt := none } := by
      simp [latchClears, hset, hstate]
    rw [hcleared]
    simp only [settle_sw, followLoops_sw]
    exact ⟨by simp, modSw_kept n s _, (modSw_frame s n _).only_outs s0 (by decide)⟩
  · have hlocked : thermalHold n s = lockSw n 1 (s.modSw n fun x => { x with latchAt := none }) := by
      unfold thermalHold
      exact if_neg (by simp [hset, timeDue, hdue])
    rw [hlocked, lockSw]
    simp only [settle_sw, followLoops_sw, (swLocked_frame n 1 false 0 0 etaNever _).sw (by decide : Bank.switches ∉ _)]
    refine ⟨by simp, by simp, by simp, (modSw_kept n s _).trans (modSw_kept n _ _), ?_⟩
    exact (((modSw_frame s n _).append (modSw_frame _ n _)).append (swLocked_frame n 1 false 0 0 etaNever _)).only_outs s0 (by decide)
  · have htaken : openLoadSets n s = if muted s (.switch n) then openNoted n s else fault (160 + n) n 3 2 0 (openNoted n s) := by
      unfold openLoadSets
      exact if_neg (by simp [hon, hload, hcalm]; omega)
    have hnoted := openNoted_frame n s
    have hfault := fault_frame (160 + n) n 3 2 0 (openNoted n s)
    have hframe : SameExcept [.switches, .events, .dies, .faults] s (openLoadSets n s) := by
      rw [htaken]
      exact .ite (hnoted.mono (by decide)) ((hnoted.append hfault).mono (by decide))
    have hsw : ∀ m, (openLoadSets n s).sw m = (openNoted n s).sw m := fun m => by
      rw [htaken]
      split
      · rfl
      · exact hfault.sw (by decide) m
    simp only [settle_sw, followLoops_sw, hsw]
    refine ⟨by simp [openNoted, countSw], by simp [openNoted, countSw, hon], fun hheard => raised_outs ?_ s0, fun m hm => by simp [openNoted, countSw, hm],
      hframe.only_outs s0 (by decide)⟩
    rw [htaken, if_neg (by simp [hheard])]
    exact (raised_fault _ _ _ _ _ _).of_before hnoted (by decide)
  · unfold openLoadClears
    simp only
    split
    · next h =>
      have hclosed : (s.sw n).openLoad = false := by
        have hlate' : ¬s.devtime < max (s.sw n).onSince (s.sw n).openAt + 100000 := by omega
        simpa [swOn_of_on hon, hlate'] using h
      simp only [settle_sw, followLoops_sw]
      exact ⟨by rw [← hclosed], fun _ _ => trivial, (SameExcept.refl [] s).only_outs s0 (by decide)⟩
    · simp only [settle_sw, followLoops_sw]
      exact ⟨by simp, modSw_kept n s _, (modSw_frame s n _).only_outs s0 (by decide)⟩

end Sys2Proof.Machine
end

section
/-! Timers of switch channels (R37, R284, R287, R288, R293, R294, R297, R298). -/

namespace Sys2Proof.Machine

/-! ## Restarts (R288) -/

/-- R288: a restart that nothing holds back. -/
structure RestartReady (n : Nat) (s : State) : Prop where
  own : (s.sw n).limp = false
  latch : (s.sw n).latch = false
  retries : 0 < (s.sw n).retryLeft
  vent : ventOk s n = true
  core : coreOut s 0 = false
  granted : refusal s (along (chainSw s n) (swBaseOf s n + swSurchargeOf s n)) = none

theorem tryRestart_of_ready {n : Nat} {s : State} (h : RestartReady n s) : TurnedOn n true s (tryRestart n s) := by
  obtain ⟨hown, hlatch, hleft, hvent, hcore, hgranted⟩ := h
  obtain ⟨c, hcharge, -, ht⟩ := turnedOn_of_granted (n := n) (by simp [limpDefaults, hown]) hgranted true
  have hstarted : tryRestart n s = startSw n true c := by
    simp [tryRestart, hlatch, hvent, hcore, hcharge, Nat.ne_of_gt hleft]
  rwa [hstarted]

theorem tryRestart_of_short {n : Nat} {s : State} (hlatch : (s.sw n).latch = false) (hleft : 0 < (s.sw n).retryLeft) (hvent : ventOk s n = false) :
    tryRestart n s = s.modSw n fun x => { x with ventWait := true, creditWait := false, triedAt := s.devtime } := by
  simp [tryRestart, hlatch, hvent, Nat.ne_of_gt hleft]

/-! ## Surcharges (R37, R298) -/

theorem releaseSurcharge_frame (n : Nat) (s : State) : SameExcept [.ledger, .switches] s (releaseSurcharge n s) :=
  (ledgerRelease_frame _ _ s).append (modSw_frame _ n _)

theorem releaseSurcharge_kept (n : Nat) (s : State) : ChannelsKept n s (releaseSurcharge n s) :=
  (ChannelsKept.of_frame (ledgerRelease_frame _ _ s) (by decide)).trans (modSw_kept n _ _)

theorem releaseSurcharge_sw (n : Nat) (s : State) : (releaseSurcharge n s).sw n = { s.sw n with surcharge := 0 } := by
  rw [releaseSurcharge, State.modSw_sw_self, (ledgerRelease_frame _ _ s).sw (by decide)]

/-! ## PWM periods (R284, R293) -/

theorem pwmOffEdge_of_allowed {n : Nat} {cs : Clamps} {s : State} (h : clampAllowed n cs s) : pwmOffEdge n cs s = clampEnergy n cs s := by
  unfold pwmOffEdge
  simp only
  exact if_neg (by simp [h.1, h.2])

theorem clampEnergy_swOn (n : Nat) (cs : Clamps) (s : State) : swOn ((clampEnergy n cs s).sw n) = swOn (s.sw n) :=
  eq_of_uncounted (clampEnergy_sw n cs s) swOn fun _ => rfl

theorem clampEnergy_duty (n : Nat) (cs : Clamps) (s : State) : ((clampEnergy n cs s).sw n).duty = (s.sw n).duty :=
  eq_of_uncounted (clampEnergy_sw n cs s) SwitchSt.duty fun _ => rfl

theorem clampEnergy_state (n : Nat) (cs : Clamps) (s : State) : ((clampEnergy n cs s).sw n).state = (s.sw n).state :=
  eq_of_uncounted (clampEnergy_sw n cs s) SwitchSt.state fun _ => rfl

/-! ## The statement -/

theorem ventNotice_frame (n : Nat) (cleared : Bool) (s : State) : SameExcept [.courses, .events] s (ventNotice n cleared s) := swLocked_frame _ _ _ _ _ _ _

/-- Settles O41: restarts by what a granted turn-on leaves, the other rows by the one thing that each of them sets. -/
theorem switchTimers : Obligations.SwitchTimers := by
  unfold Obligations.SwitchTimers
  refine ⟨fun n e f hn => .of_switch _ hn (fun _ _ => rfl) fun s0 s ⟨hstate, hend, hdue, hsur, hsurDue⟩ => ?_,
    fun n hn => .of_switch _ hn (fun _ _ => rfl) fun s0 s ⟨hstate, hlong⟩ => ?_,
    fun n hn => .of_switch _ hn (fun _ _ => rfl) fun s0 s ⟨hstate, hvw, hcw, hlimp, hdue, hlatch, hleft, hvent, hcore, hgranted⟩ => ?_,
    fun n hn => .of_switch _ hn (fun _ _ => rfl) fun s0 s ⟨hstate, hvw, hcw, hdue, hlatch, hleft, hvent⟩ => ?_,
    fun n hn => .of_switch _ hn (fun _ _ => rfl) fun s0 s ⟨hstate, hvw, hdue, hlimp, hlatch, hleft, hvent, hcore, hgranted⟩ => ?_,
    fun n hn => .of_switch _ hn (fun _ _ => rfl) fun s0 s ⟨hlocked, hvent⟩ => ?_,
    fun n hn => .of_switch _ hn (fun _ _ => rfl) fun s0 s hvent => ?_,
    fun c e hc => .of_settle (windowCloses c) (fun τ s _ => about_next hc) fun s0 s ⟨hopen, hdue⟩ => ?_,
    fun n cl hn => .of_switch _ hn (fun _ _ => rfl) fun s0 s ⟨hon, hpwm, hduty⟩ => ?_,
    fun n cl hn => .of_switch _ hn (fun _ _ => rfl) fun s0 s ⟨hon, hpwm, hpos, hpart, henergy, hfree⟩ => ?_⟩
  · have hdone : inrushEnds n s = ((releaseSurcharge n s).modSw n fun x => { x with surchargeEnd := none }).modSw n
        fun x => { x with state := .on, inrushEnd := none, onSince := s.devtime } := by
      simp [inrushEnds, timeDue, hstate, hend, hdue, hsur, hsurDue]
    rw [hdone]
    simp only [settle_sw, followLoops_sw]
    refine ⟨by simp [releaseSurcharge_sw], ((releaseSurcharge_kept n s).trans (modSw_kept n _ _)).trans (modSw_kept n _ _), ?_⟩
    exact (((releaseSurcharge_frame n s).append (modSw_frame _ n _)).append (modSw_frame _ n _)).only_outs s0 (by decide)
  · have hreset : retryReset n s = s.modSw n fun x => { x with retryLeft := retryN s n } := by simp [retryReset, hstate, hlong]
    rw [hreset]
    simp only [settle_sw, followLoops_sw]
    exact ⟨by simp, modSw_kept n s _, (modSw_frame s n _).only_outs s0 (by decide)⟩
  · have hends : backoffEnds n s = tryRestart n s := by simp [backoffEnds, hstate, hvw, hcw, hdue]
    have ht := tryRestart_of_ready ⟨hlimp, hlatch, hleft, hvent, hcore, hgranted⟩
    rw [hends]
    simp only [settle_sw, followLoops_sw]
    exact ⟨ht.state, ht.retries rfl, ht.base, ht.reserved, ht.kept, ht.frame.only_outs s0 (by decide)⟩
  · have hends : backoffEnds n s = tryRestart n s := by simp [backoffEnds, hstate, hvw, hcw, hdue]
    rw [hends, tryRestart_of_short hlatch hleft hvent]
    simp only [settle_sw, followLoops_sw]
    exact ⟨by simp, modSw_kept n s _, (modSw_frame s n _).only_outs s0 (by decide)⟩
  · have hagain : retryWait n s = tryRestart n s := by simp [retryWait, hstate, hvw, hdue]
    have ht := tryRestart_of_ready ⟨hlimp, hlatch, hleft, hvent, hcore, hgranted⟩
    rw [hagain]
    simp only [settle_sw, followLoops_sw]
    exact ⟨ht.state, ht.vents, ht.reserved, ht.kept, ht.frame.only_outs s0 (by decide)⟩
  · have hcleared : clearVentLock n s = ventNotice n true (s.modSw n fun x => { x with ventLocked := false }) := by simp [clearVentLock, hlocked, hvent]
    have hnoticed := ventNotice_frame n true (s.modSw n fun x => { x with ventLocked := false })
    rw [hcleared]
    simp only [settle_sw, followLoops_sw, hnoticed.sw (by decide : Bank.switches ∉ _)]
    exact ⟨by simp, modSw_kept n s _, ((modSw_frame s n _).append hnoticed).only_outs s0 (by decide)⟩
  · have hkept : clearVentLock n s = s := by simp [clearVentLock, hvent]
    rw [hkept]
    exact (SameExcept.refl [] s).only_outs s0 (by decide)
  · have hcloses : windowCloses c s = s.modVent c fun v => { v with disturbEnd := none } := by simp [windowCloses, timeDue, hopen, hdue]
    rw [hcloses]
    exact ⟨by simp, fun k hk => by simp [hk], (modVent_frame s c _).only_settle s0⟩
  · have hperiod : swPeriod n cl s = s.modSw n fun x => { x with dutyNow := x.duty } := by
      have hedge : ¬(decide (0 < (s.sw n).dutyNow) && decide ((s.sw n).dutyNow < 10000)) = true := by simp; omega
      unfold swPeriod
      simp only
      rw [if_neg (by simp [hon, hpwm]), if_neg hedge, if_pos hon]
    rw [hperiod]
    simp only [settle_sw, followLoops_sw]
    exact ⟨by simp, modSw_kept n s _, (modSw_frame s n _).only_outs s0 (by decide)⟩
  · have hperiod : swPeriod n cl s = (clampEnergy n cl s).modSw n fun x => { x with dutyNow := x.duty } := by
      have hedge : (if decide (0 < (s.sw n).dutyNow) && decide ((s.sw n).dutyNow < 10000) then pwmOffEdge n cl s else s) = clampEnergy n cl s := by
        rw [if_pos (by simp [hpos, hpart]), pwmOffEdge_of_allowed ⟨henergy, hfree⟩]
      unfold swPeriod
      simp only
      rw [if_neg (by simp [hon, hpwm]), hedge, if_pos (by rw [clampEnergy_swOn, hon])]
    rw [hperiod]
    simp only [settle_sw, followLoops_sw, settle_vent, followLoops_vent]
    exact ⟨by simp [clampEnergy_duty], by simp [clampEnergy_state], by simp [clampEnergy_used], (clampEnergy_kept n cl s).trans (modSw_kept n _ _),
      ((clampEnergy_frame n cl s).append (modSw_frame _ n _)).only_outs s0 (by decide)⟩

end Sys2Proof.Machine
end

section
/-! Limp home (R300 to R303, R523), after the rule that a fault only notes itself at the dies. -/

namespace Sys2Proof.Machine

/-! ## What a fault notes at a die (R479) -/

/-- At each die only the events that it latches have changed. -/
def DiesNoted (s t : State) : Prop := ∀ d, ∃ l e, t.die d = { s.die d with latched := l, excess := e }

theorem DiesNoted.refl (s : State) : DiesNoted s s := fun d => ⟨(s.die d).latched, (s.die d).excess, rfl⟩

theorem DiesNoted.trans {s t u : State} (h : DiesNoted s t) (k : DiesNoted t u) : DiesNoted s u := fun d => by
  obtain ⟨l, e, hd⟩ := h d
  obtain ⟨m, f, kd⟩ := k d
  exact ⟨m, f, by rw [kd, hd]⟩

theorem DiesNoted.ite {s t u : State} {p : Prop} [Decidable p] (h : DiesNoted s t) (k : DiesNoted s u) : DiesNoted s (if p then t else u) := by
  split
  · exact h
  · exact k

theorem DiesNoted.foldl {α : Type} {f : State → α → State} (h : ∀ s a, DiesNoted s (f s a)) (l : List α) (s : State) : DiesNoted s (l.foldl f s) := by
  induction l generalizing s with
  | nil => exact .refl s
  | cons a l ih => exact (h s a).trans (ih _)

theorem DiesNoted.of_frame {bs : List Bank} {s t : State} (h : SameExcept bs s t) (hb : .dies ∉ bs) : DiesNoted s t := fun d =>
  ⟨(s.die d).latched, (s.die d).excess, h.die hb d⟩

theorem latchEvent_noted (d n code inst sev : Nat) (s : State) : DiesNoted s (latchEvent d n code inst sev s) := fun k => by
  unfold latchEvent
  generalize (if n = 216 then inst else d) = m
  by_cases hk : k = m
  · subst hk
    rw [State.modDie_die_self]
    split
    · exact ⟨_, _, rfl⟩
    · split
      · exact ⟨_, _, rfl⟩
      · exact ⟨_, _, rfl⟩
  · rw [State.modDie_die_of_ne _ _ _ hk]
    exact ⟨_, _, rfl⟩

theorem edgeAt_noted (time n inst code sev : Nat) (late : Bool) (s : State) : DiesNoted s (edgeAt time n inst code sev late s) := by
  unfold edgeAt
  split
  · split
    · exact latchEvent_noted _ n code inst sev s
    · exact .of_frame (modSrc_frame s n _) (by decide)
  · exact .of_frame (assertSource_frame _ _ _ _ s) (by decide)

theorem fault_noted (n inst code sev ctx : Nat) (s : State) : DiesNoted s (fault n inst code sev ctx s) :=
  (edgeAt_noted s.devtime n inst code sev false s).trans (.ite (.refl _) (.of_frame (intakePut_frame _ _) (by decide)))

theorem cutSw_noted (n : Nat) (next : SwState) (cs : Clamps) (s : State) : DiesNoted s (cutSw n next cs s) := by
  have hlocked : ∀ (t : State) code ctx cause, DiesNoted t (lockSw n cause (fault (160 + n) n code 3 ctx t)) := fun t code ctx cause =>
    (fault_noted _ _ _ _ _ t).trans (.of_frame (lockSw_frame n cause _) (by decide))
  have hjudged : ∀ t, DiesNoted t (judgeClamp n cs t) := fun t => by
    unfold judgeClamp
    exact .ite (hlocked t _ _ _) (.ite (hlocked t _ _ _) (.refl t))
  exact (DiesNoted.of_frame (cutOff_frame n cs s next) (by decide)).trans (hjudged _)

theorem offSw_noted (n : Nat) (cs : Clamps) (s : State) : DiesNoted s (offSw n cs s) := by
  unfold offSw
  split
  · exact cutSw_noted n .off cs s
  · exact cutSw_noted n .off cs s
  · exact .of_frame (modSw_frame s n _) (by decide)
  · exact .of_frame (modSw_frame s n _) (by decide)
  · exact .refl s
  · exact .refl s
  · exact .refl s

theorem DiesNoted.solo {s t : State} (h : DiesNoted s t) (d : Nat) : (t.die d).solo = (s.die d).solo := by
  obtain ⟨l, e, hd⟩ := h d
  rw [hd]

theorem followLoops_noted (s : State) : DiesNoted s (followLoops s) := .of_frame (followLoops_frame s) (by decide)

/-! ## What turning off leaves of a channel in limp home -/

theorem judgeClamp_kept (n : Nat) (cs : Clamps) (s : State) : ChannelsKept n s (judgeClamp n cs s) := by
  have hlocked : ∀ code ctx cause, ChannelsKept n s (lockSw n cause (fault (160 + n) n code 3 ctx s)) := fun code ctx cause =>
    ((ChannelsKept.of_frame (fault_frame _ _ _ _ _ s) (by decide)).trans (modSw_kept n _ _)).trans (.of_frame (swLocked_frame _ _ _ _ _ _ _) (by decide))
  unfold judgeClamp
  exact .ite (hlocked _ _ _) (.ite (hlocked _ _ _) (.refl n s))

theorem judgeClamp_limp (n : Nat) (cs : Clamps) (s : State) : ((judgeClamp n cs s).sw n).limp = (s.sw n).limp := by
  have hlocked : ∀ code ctx cause, ((lockSw n cause (fault (160 + n) n code 3 ctx s)).sw n).limp = (s.sw n).limp := fun code ctx cause => by
    rw [lockSw, (swLocked_frame _ _ _ _ _ _ _).sw (by decide), State.modSw_sw_self, (fault_frame _ _ _ _ _ s).sw (by decide)]
  unfold judgeClamp
  simp only
  split
  · exact hlocked _ _ _
  · split
    · exact hlocked _ _ _
    · rfl

theorem cutSw_kept (n : Nat) (next : SwState) (cs : Clamps) (s : State) : ChannelsKept n s (cutSw n next cs s) :=
  (cutOff_kept n cs s next).trans (judgeClamp_kept n cs _)

theorem cutSw_limp (n : Nat) (next : SwState) (cs : Clamps) (s : State) : ((cutSw n next cs s).sw n).limp = (s.sw n).limp :=
  (judgeClamp_limp n cs _).trans (eq_of_uncounted (cutOff_sw n cs s next) SwitchSt.limp fun _ => rfl)

theorem offSw_kept (n : Nat) (cs : Clamps) (s : State) : ChannelsKept n s (offSw n cs s) := by
  unfold offSw
  split
  · exact cutSw_kept n .off cs s
  · exact cutSw_kept n .off cs s
  · exact modSw_kept n s _
  · exact modSw_kept n s _
  · exact .refl n s
  · exact .refl n s
  · exact .refl n s

theorem offSw_limp (n : Nat) (cs : Clamps) (s : State) : ((offSw n cs s).sw n).limp = (s.sw n).limp := by
  unfold offSw
  split
  · exact cutSw_limp n .off cs s
  · exact cutSw_limp n .off cs s
  · rw [State.modSw_sw_self]
  · rw [State.modSw_sw_self]
  · rfl
  · rfl
  · rfl

/-! ## Taking the mapped channels (R302) -/

/-- R302: one mapped channel, from what its state makes of it. -/
def limpFrom (cs : Clamps) (n : Nat) (x : SwState) (s : State) : State :=
  match x with
  | .inrush | .on | .backoff | .latchWait => offSw n cs s
  | .exhausted => s.modSw n fun x => { x with state := .off }
  | .off | .locked => s

theorem limpTakes_eq (cs : Clamps) (s : State) (m : Nat × Nat) : limpTakes cs s m =
    (limpFrom cs m.1 (s.sw m.1).state (s.modSw m.1 fun x => { x with limp := true, limpOn := false })).modSw m.1
      fun x => { x with retryLeft := m.2, ventWait := false, creditWait := false } := by
  cases hx : (s.sw m.1).state <;> simp only [limpTakes, limpFrom, hx]

section
variable (cs : Clamps) (n : Nat) (x : SwState) (s : State)

theorem limpFrom_frame : SameExcept tripBanks s (limpFrom cs n x s) := by
  have hoff := (offSw_frame n cs s).mono (cs := tripBanks) (by decide)
  have hset := fun f => (modSw_frame s n f).mono (cs := tripBanks) (by decide)
  cases x
  case inrush => exact hoff
  case on => exact hoff
  case backoff => exact hoff
  case latchWait => exact hoff
  case exhausted => exact hset _
  case off => exact .refl _ s
  case locked => exact .refl _ s

theorem limpFrom_noted : DiesNoted s (limpFrom cs n x s) := by
  have hoff := offSw_noted n cs s
  have hset := fun f => DiesNoted.of_frame (modSw_frame s n f) (by decide)
  cases x
  case inrush => exact hoff
  case on => exact hoff
  case backoff => exact hoff
  case latchWait => exact hoff
  case exhausted => exact hset _
  case off => exact .refl s
  case locked => exact .refl s

theorem limpFrom_kept : ChannelsKept n s (limpFrom cs n x s) := by
  have hoff := offSw_kept n cs s
  cases x
  case inrush => exact hoff
  case on => exact hoff
  case backoff => exact hoff
  case latchWait => exact hoff
  case exhausted => exact modSw_kept n s _
  case off => exact .refl n s
  case locked => exact .refl n s

theorem limpFrom_limp : ((limpFrom cs n x s).sw n).limp = (s.sw n).limp := by
  have hoff := offSw_limp n cs s
  cases x
  case inrush => exact hoff
  case on => exact hoff
  case backoff => exact hoff
  case latchWait => exact hoff
  case exhausted => simp [limpFrom]
  case off => rfl
  case locked => rfl

/-- A channel whose output is off has nothing to turn off. -/
theorem limpFrom_of_off (hoff : swOn { s.sw n with state := x } = false) (hstate : (s.sw n).state = x) :
    SameExcept [.switches] s (limpFrom cs n x s) ∧ swOn ((limpFrom cs n x s).sw n) = false := by
  subst hstate
  generalize hx : (s.sw n).state = x
  rw [hx] at hoff
  cases x
  case inrush => simp [swOn] at hoff
  case on => simp [swOn] at hoff
  case backoff => simp [limpFrom, offSw, hx, modSw_frame, swOn]
  case latchWait => simp [limpFrom, offSw, hx, modSw_frame, swOn]
  case exhausted => simp [limpFrom, modSw_frame, swOn]
  case off => simp [limpFrom, hx, SameExcept.refl, swOn]
  case locked => simp [limpFrom, hx, SameExcept.refl, swOn]

end

section
variable (cs : Clamps) (m : Nat × Nat) (s : State)

theorem limpTakes_frame : SameExcept tripBanks s (limpTakes cs s m) := by
  rw [limpTakes_eq]
  exact (((modSw_frame s _ _).mono (by decide)).trans (limpFrom_frame cs _ _ _)).trans ((modSw_frame _ _ _).mono (by decide))

theorem limpTakes_noted : DiesNoted s (limpTakes cs s m) := by
  rw [limpTakes_eq]
  exact ((DiesNoted.of_frame (modSw_frame s _ _) (by decide)).trans (limpFrom_noted cs _ _ _)).trans (.of_frame (modSw_frame _ _ _) (by decide))

theorem limpTakes_kept : ChannelsKept m.1 s (limpTakes cs s m) := by
  rw [limpTakes_eq]
  exact ((modSw_kept m.1 s _).trans (limpFrom_kept cs _ _ _)).trans (modSw_kept _ _ _)

theorem limpTakes_limp : ((limpTakes cs s m).sw m.1).limp = true := by
  rw [limpTakes_eq, State.modSw_sw_self]
  exact (limpFrom_limp cs _ _ _).trans (by rw [State.modSw_sw_self])

theorem limpTakes_of_off (hoff : swOn (s.sw m.1) = false) :
    SameExcept [.switches] s (limpTakes cs s m) ∧ ∀ n, swOn (s.sw n) = false → swOn ((limpTakes cs s m).sw n) = false := by
  have hfrom := limpFrom_of_off cs m.1 (s.sw m.1).state (s.modSw m.1 fun x => { x with limp := true, limpOn := false })
    (by rw [State.modSw_sw_self]; exact hoff) (by rw [State.modSw_sw_self])
  obtain ⟨hframe, hstill⟩ := hfrom
  refine ⟨?_, fun n hn => ?_⟩
  · rw [limpTakes_eq]
    exact ((modSw_frame s _ _).trans hframe).trans (modSw_frame _ _ _)
  · by_cases hm : n = m.1
    · subst hm
      rw [limpTakes_eq, State.modSw_sw_self]
      exact hstill
    · rw [limpTakes_kept cs m s n hm, hn]

end

/-- What taking the channels `ms` leaves. -/
structure LimpTaken (ms : List (Nat × Nat)) (s t : State) : Prop where
  frame : SameExcept tripBanks s t
  noted : DiesNoted s t
  limp : ∀ n, (s.sw n).limp = true ∨ n ∈ ms.map Prod.fst → (t.sw n).limp = true
  kept : ∀ n, n ∉ ms.map Prod.fst → t.sw n = s.sw n
  off : (∀ m ∈ ms, swOn (s.sw m.1) = false) → SameExcept [.switches] s t

theorem limpTaken (cs : Clamps) (ms : List (Nat × Nat)) (s : State) : LimpTaken ms s (ms.foldl (limpTakes cs) s) := by
  induction ms generalizing s with
  | nil => exact ⟨.refl _ s, .refl s, fun n h => by simpa using h, fun _ _ => rfl, fun _ => .refl _ s⟩
  | cons m ms ih =>
    obtain ⟨iframe, inoted, ilimp, ikept, ioff⟩ := ih (limpTakes cs s m)
    refine ⟨(limpTakes_frame cs m s).trans iframe, (limpTakes_noted cs m s).trans inoted, fun n hn => ilimp n ?_, fun n hn => ?_, fun hoff => ?_⟩
    · by_cases hm : n = m.1
      · subst hm; exact .inl (limpTakes_limp cs m s)
      · rw [limpTakes_kept cs m s n hm]
        exact hn.imp_right fun hmem => (List.mem_cons.1 hmem).resolve_left hm
    · obtain ⟨hm, hms⟩ := not_or.1 (List.mem_cons.not.1 hn)
      exact (ikept n hms).trans (limpTakes_kept cs m s n hm)
    · obtain ⟨hframe, hstill⟩ := limpTakes_of_off cs m s (hoff m List.mem_cons_self)
      exact hframe.trans (ioff fun k hk => hstill k.1 (hoff k (List.mem_cons_of_mem _ hk)))

/-! ## The die alone (R523) -/

theorem soloBegin_frame (d : Nat) (s : State) : SameExcept [.dies] s (soloBegin d s) := .ite (.refl _ s) (modDie_frame s d _)

theorem soloBegin_solo (d : Nat) (s : State) : ((soloBegin d s).die d).solo.isSome = true := by
  unfold soloBegin
  split
  · next h => exact h
  · simp

theorem soloEnd_frame (d : Nat) (s : State) : SameExcept [.ledger, .dies] s (soloEnd d s) := by
  unfold soloEnd
  split
  · exact .refl _ s
  · exact (((modEl_frame _ _ s).append (modLedger_frame _ _)).append (modDie_frame _ d _)).mono (by decide)

/-- R523: the end of a die's acting alone clears that, and nothing else of a die. -/
theorem soloEnd_die (d : Nat) (s : State) : (soloEnd d s).die d = { s.die d with solo := none } ∧ ∀ k, k ≠ d → (soloEnd d s).die k = s.die k := by
  have hset : ∀ (t : State) k, ((modEl t pkgKey k).die d = t.die d) := fun t k => (modEl_frame _ _ t).die (by decide) d
  unfold soloEnd
  split
  · next h => exact ⟨by rw [← h], fun _ _ => rfl⟩
  · refine ⟨by rw [State.modDie_die_self]; rfl, fun k hk => by rw [State.modDie_die_of_ne _ _ _ hk]; rfl⟩

/-! ## The channels that the fuse map names (R300) -/

theorem mem_upFrom_zero {n k : Nat} : k ∈ upFrom 0 n ↔ k < n := by simp [upFrom]

theorem limpEntry_mapped {s : State} {n : Nat} : n ∈ (mapped s).map Prod.fst ↔ n < 24 ∧ (limpEntry s n).isSome := by
  simp only [mapped, List.mem_map, List.mem_filterMap, Option.map_eq_some_iff]
  constructor
  · rintro ⟨-, ⟨k, hk, e, he, rfl⟩, rfl⟩
    exact ⟨mem_upFrom_zero.1 hk, by simp [he]⟩
  · rintro ⟨hn, he⟩
    obtain ⟨e, he⟩ := Option.isSome_iff_exists.1 he
    exact ⟨_, ⟨n, mem_upFrom_zero.2 hn, e, he, rfl⟩, rfl⟩

/-! ## Limp home's inputs (R302) -/

/-- A channel's limp input as it is taken. -/
def inputTaken (n : Nat) (high : Bool) (s : State) : State :=
  s.modSw n fun x => { x with limpOn := high, ventWait := x.ventWait && high, creditWait := x.creditWait && high }

/-- R302: the input of a channel that is off, ready and granted turns it on. -/
theorem limpTurnOn_of_granted {n : Nat} {s : State} (hlatch : (s.sw n).latch = false) (hregion : regionOff s (.switch n) = false)
    (havail : unavailable s (.switch n) = false) (hvent : ventOk s n = true) (htable : (s.die 4).tableOk = true)
    (hgranted : refusal s (along (chainSw s n) (swBaseOf s n + swSurchargeOf s n)) = none) :
    TurnedOn n false (inputTaken n true s) (limpTurnOn n (inputTaken n true s)) := by
  have hown : limpDefaults (inputTaken n true s) n = false := by
    simp [limpDefaults, inputTaken, State.modSw_die, htable]
  obtain ⟨c, hcharge, -, ht⟩ := turnedOn_of_granted (n := n) hown (s := inputTaken n true s) hgranted false
  have hready : limpReady (inputTaken n true s) n = true := by
    have hregion' : regionOff (inputTaken n true s) (.switch n) = false := hregion
    have havail' : unavailable (inputTaken n true s) (.switch n) = false := havail
    simp only [limpReady, hregion', havail']
    simp [inputTaken, hlatch]
  have hbudget : ventOk (inputTaken n true s) n = true := by
    have hfree := of_decide_eq_true hvent
    exact decide_eq_true (by simpa [inputTaken, ventFree] using hfree)
  have hstarted : limpTurnOn n (inputTaken n true s) = startSw n false c := by
    simp [limpTurnOn, hready, hbudget, hcharge]
  rwa [hstarted]

theorem inputTaken_kept (n : Nat) (high : Bool) (s : State) : ChannelsKept n s (inputTaken n high s) := modSw_kept n s _

theorem inputTaken_frame (n : Nat) (high : Bool) (s : State) : SameExcept [.switches] s (inputTaken n high s) := modSw_frame s n _

/-! ## The end of limp home (R303) -/

/-- R303: what the end of limp home makes of the channels that it drove. -/
def unlimped (ns : List Nat) (s : State) : State :=
  ns.foldl (fun s n => s.modSw n fun x => { x with limp := false, limpOn := false, ventWait := x.ventWait && x.state != .off }) s

theorem unlimped_frame (ns : List Nat) (s : State) : SameExcept [.switches] s (unlimped ns s) := .foldl _ (fun s n => modSw_frame s n _) ns s

theorem unlimped_sw (ns : List Nat) (s : State) (n : Nat) : ((unlimped ns s).sw n).state = (s.sw n).state
    ∧ (((s.sw n).limp = true → n ∈ ns) → ((unlimped ns s).sw n).limp = false) := by
  induction ns generalizing s with
  | nil => exact ⟨rfl, fun h => by simpa [unlimped] using h⟩
  | cons m ns ih =>
    obtain ⟨hstate, hlimp⟩ := ih (s.modSw m fun x => { x with limp := false, limpOn := false, ventWait := x.ventWait && x.state != .off })
    by_cases hm : n = m
    · subst hm
      exact ⟨hstate.trans (by rw [State.modSw_sw_self]), fun _ => hlimp (by rw [State.modSw_sw_self]; simp)⟩
    · rw [State.modSw_sw_of_ne _ _ _ hm] at hstate hlimp
      exact ⟨hstate, fun h => hlimp fun hn => (List.mem_cons.1 (h hn)).resolve_left hm⟩

/-- The channels that limp home drives. -/
def limpDriven (s : State) : List Nat := (upFrom 0 24).filter fun n => (s.sw n).limp

/-- R303: the end of limp home while none of its channels is on. -/
theorem limpEnds_of_off {cs : Clamps} {s : State} (hlimp : s.limp.isSome) (hlink : (s.die 4).silent = false)
    (hback : ∀ a, (s.die 4).backAt = some a → a + 10000 ≤ s.devtime) (hoff : ∀ n, n < 24 → (s.sw n).limp = true → swOn (s.sw n) = false) :
    limpEnds cs s = fault 190 0 1 2 0 (soloEnd 4 (unlimped (limpDriven s) { s with limp := none })) := by
  have hdone : ¬(s.limp.isNone || (s.die 4).silent || ((s.die 4).backAt.any fun a => decide (s.devtime < a + 10000))) = true := by
    obtain ⟨a, ha⟩ := Option.isSome_iff_exists.1 hlimp
    cases hb : (s.die 4).backAt with
    | none => simp [ha, hlink]
    | some b => simp [ha, hlink, hback b hb]
  have hnone : (limpDriven s).filter (fun n => swOn (s.sw n)) = [] := by
    rw [List.filter_eq_nil_iff]
    intro n hn
    obtain ⟨hmem, hdriven⟩ := List.mem_filter.1 hn
    simp [hoff n (mem_upFrom_zero.1 hmem) hdriven]
  unfold limpEnds
  rw [if_neg hdone]
  simp only
  rw [← limpDriven, hnone]
  rfl

/-! ## The statement -/

theorem limpEnters_of_fuse {cs : Clamps} {s : State} (hlimp : s.limp = none) (hfuse : s.start.fuseOk = true) :
    limpEnters cs s = fault 190 0 0 2 0 ((mapped s).foldl (limpTakes cs) (soloBegin 4 { s with limp := some s.devtime })) := by
  simp [limpEnters, hlimp, hfuse]

theorem limpSet_frame (s : State) (a : Option Nat) : SameExcept [.limp] s { s with limp := a } := by
  intro b hb; cases b <;> simp_all [Bank.same]

theorem limpFollows_of_driven {input n : Nat} {high : Bool} {cs : Clamps} {s : State} (hinput : limpChannel s input = some n) (hlimp : s.limp.isSome)
    (hdriven : (s.sw n).limp = true) :
    ((s.sw n).state = .off → high = true → limpFollows input high cs s = limpTurnOn n (inputTaken n true s))
      ∧ ((s.sw n).state = .on → high = false → limpFollows input high cs s = offSw n cs (inputTaken n false s)) := by
  obtain ⟨a, ha⟩ := Option.isSome_iff_exists.1 hlimp
  refine ⟨?_, ?_⟩
  · rintro hstate rfl
    simp [limpFollows, hinput, ha, hdriven, hstate, inputTaken]
  · rintro hstate rfl
    simp [limpFollows, hinput, ha, hdriven, hstate, inputTaken]

/-- What limp home is entered with (R301, R302, R523). -/
structure LimpEntered (s t : State) : Prop where
  frame : SameExcept (.limp :: tripBanks) s t
  limp : t.limp = some s.devtime
  solo : (t.die 4).solo.isSome
  taken : ∀ n, n < 24 → (limpEntry s n).isSome → (t.sw n).limp = true
  others : ∀ n, n < 24 → limpEntry s n = none → t.sw n = s.sw n
  raised : (∀ n, n < 24 → swOn (s.sw n) = false) → Raised 190 0 0 2 s t

theorem limpEnters_entered {cs : Clamps} {s : State} (hlimp : s.limp = none) (hfuse : s.start.fuseOk = true) : LimpEntered s (limpEnters cs s) := by
  have hbegun := (limpSet_frame s (some s.devtime)).append (soloBegin_frame 4 _)
  have hsolo := soloBegin_solo 4 { s with limp := some s.devtime }
  have hset : (soloBegin 4 { s with limp := some s.devtime }).limp = some s.devtime := soloBegin_frame 4 _ .limp (by decide)
  rw [limpEnters_of_fuse hlimp hfuse]
  generalize soloBegin 4 { s with limp := some s.devtime } = b at hbegun hsolo hset ⊢
  obtain ⟨hframe, hnoted, htaken, hkept, hquiet⟩ := limpTaken cs (mapped s) b
  generalize (mapped s).foldl (limpTakes cs) b = t at hframe hnoted htaken hkept hquiet ⊢
  have hfault := fault_frame 190 0 0 2 0 t
  have hsw : ∀ n, (fault 190 0 0 2 0 t).sw n = t.sw n := hfault.sw (by decide)
  refine ⟨((hbegun.append hframe).append hfault).mono (by decide), ?_, ?_, fun n hn he => ?_, fun n hn he => ?_, fun hstill => ?_⟩
  · exact ((hfault .limp (by decide)).trans (hframe .limp (by decide))).trans hset
  · rw [(hnoted.trans (fault_noted _ _ _ _ _ t)).solo]
    exact hsolo
  · rw [hsw]
    exact htaken n (.inr (limpEntry_mapped.2 ⟨hn, he⟩))
  · rw [hsw, hkept n fun hmem => by simpa [he] using (limpEntry_mapped.1 hmem).2, hbegun.sw (by decide)]
  · have hquiet' := hquiet fun m hm => by
      rw [hbegun.sw (by decide)]
      exact hstill m.1 (limpEntry_mapped.1 (List.mem_map_of_mem hm)).1
    exact (raised_fault _ _ _ _ _ _).of_before (hbegun.append hquiet') (by decide)

/-- What limp home is left with while none of its channels is on (R303, R523). -/
structure LimpLeft (s t : State) : Prop where
  frame : SameExcept [.limp, .switches, .ledger, .dies, .events, .faults] s t
  limp : t.limp = none
  solo : (t.die 4).solo = none
  channels : ∀ n, n < 24 → (t.sw n).limp = false ∧ (t.sw n).state = (s.sw n).state
  raised : Raised 190 0 1 2 s t

theorem limpEnds_left {cs : Clamps} {s : State} (hlimp : s.limp.isSome) (hlink : (s.die 4).silent = false)
    (hback : ∀ a, (s.die 4).backAt = some a → a + 10000 ≤ s.devtime) (hoff : ∀ n, n < 24 → (s.sw n).limp = true → swOn (s.sw n) = false) :
    LimpLeft s (limpEnds cs s) := by
  have hset := (limpSet_frame s none).append (unlimped_frame (limpDriven s) { s with limp := none })
  have hsw := unlimped_sw (limpDriven s) { s with limp := none }
  have hnone : (unlimped (limpDriven s) { s with limp := none }).limp = none := unlimped_frame _ _ .limp (by decide)
  rw [limpEnds_of_off hlimp hlink hback hoff]
  generalize unlimped (limpDriven s) { s with limp := none } = u at hset hsw hnone ⊢
  have hended := soloEnd_frame 4 u
  have hfault := fault_frame 190 0 1 2 0 (soloEnd 4 u)
  refine ⟨((hset.append hended).append hfault).mono (by decide), ?_, ?_, fun n hn => ?_, ?_⟩
  · exact ((hfault .limp (by decide)).trans (hended .limp (by decide))).trans hnone
  · rw [(fault_noted _ _ _ _ _ _).solo, (soloEnd_die 4 _).1]
  · obtain ⟨hstate, hfreed⟩ := hsw n
    rw [hfault.sw (by decide), hended.sw (by decide)]
    exact ⟨hfreed fun hown => List.mem_filter.2 ⟨mem_upFrom_zero.2 hn, hown⟩, hstate⟩
  · exact (raised_fault _ _ _ _ _ _).of_before (hset.append hended) (by decide)

/-- R302: an allowed turn-off by a limp input. -/
theorem offSw_inputTaken {n : Nat} {cs : Clamps} {s : State} (hon : (s.sw n).state = .on) (hallowed : clampAllowed n cs s) :
    offSw n cs (inputTaken n false s) = cutOff n cs (inputTaken n false s) .off := by
  have hstate : ((inputTaken n false s).sw n).state = .on := by simp [inputTaken, hon]
  have hclamp : clampAllowed n cs (inputTaken n false s) :=
    ⟨hallowed.1, by rw [State.swCfg, (inputTaken_frame n false s).cfg (by decide)]; exact hallowed.2⟩
  simp only [offSw, hstate]
  exact cutSw_of_allowed hclamp _

theorem limpFollows_of_none {input : Nat} {high : Bool} {cs : Clamps} {s : State} (hlimp : s.limp = none) : limpFollows input high cs s = s := by
  unfold limpFollows
  split
  · rfl
  · simp [hlimp]

/-- Settles O42: the fold over the mapped channels at the entry, a granted turn-on and an allowed turn-off at the inputs, and the fold over
the driven channels at the exit. -/
theorem limpHome : Obligations.LimpHome := by
  unfold Obligations.LimpHome
  refine ⟨fun cl => .of_settle (fun s => followLoops (limpEnters cl s)) (fun τ s _ => by unfold exec execLimpEnter atOut; exact at_next _ _ _)
      fun s0 s ⟨hlimp, hfuse⟩ => ?_,
    fun cl => .of_settle (fun s => followLoops (limpEnters cl s)) (fun τ s _ => by unfold exec execLimpEnter atOut; exact at_next _ _ _)
      fun s0 s hfuse => ?_,
    fun i n cl hi => .of_settle (fun s => followLoops (limpFollows i true cl s)) (fun τ s _ => (if_pos hi).trans (at_next _ _ _))
      fun s0 s ⟨hinput, hlimp, hdriven, hoff, hlatch, hregion, havail, hvent, htable, hgranted⟩ => ?_,
    fun i n cl hi => .of_settle (fun s => followLoops (limpFollows i false cl s)) (fun τ s _ => (if_pos hi).trans (at_next _ _ _))
      fun s0 s ⟨hinput, hlimp, hdriven, hon, henergy, hfree⟩ => ?_,
    fun i b cl hi => .of_settle (fun s => followLoops (limpFollows i b cl s)) (fun τ s _ => (if_pos hi).trans (at_next _ _ _))
      fun s0 s hlimp => ?_,
    fun cl => .of_settle (fun s => followLoops (limpEnds cl s)) (fun τ s _ => by unfold exec execLimpExit atOut; exact at_next _ _ _)
      fun s0 s ⟨hlimp, hlink, hback, hoff⟩ => ?_⟩
  · have ht := limpEnters_entered (cs := cl) hlimp hfuse
    generalize limpEnters cl s = t at ht ⊢
    simp only [settle_sw, followLoops_sw, settle_limp, settle_die, (followLoops_noted t).solo]
    exact ⟨(followLoops_frame t .limp (by decide)).trans ht.limp, ht.solo, ht.taken, ht.others, fun hstill => raised_outs (ht.raised hstill) s0,
      ht.frame.only_outs s0 (by decide)⟩
  · have hkept : limpEnters cl s = s := by simp [limpEnters, hfuse]
    rw [hkept]
    exact (SameExcept.refl [] s).only_outs s0 (by decide)
  · have ht := limpTurnOn_of_granted hlatch hregion havail hvent htable hgranted
    rw [(limpFollows_of_driven (cs := cl) hinput hlimp hdriven).1 hoff rfl]
    generalize limpTurnOn n (inputTaken n true s) = t at ht ⊢
    have hkept := (inputTaken_kept n true s).trans ht.kept
    have hframe := (inputTaken_frame n true s).append ht.frame
    simp only [settle_sw, followLoops_sw]
    exact ⟨ht.limpOn.trans (by simp [inputTaken]), ht.state, ht.reserved.trans (by simp [inputTaken]), hkept, hframe.only_outs s0 (by decide)⟩
  · have hsw := cutOff_sw n cl (inputTaken n false s) .off
    have hkept := (inputTaken_kept n false s).trans (cutOff_kept n cl _ .off)
    have hframe := (inputTaken_frame n false s).append (cutOff_frame n cl _ .off)
    rw [(limpFollows_of_driven (cs := cl) hinput hlimp hdriven).2 hon rfl, offSw_inputTaken hon ⟨henergy, hfree⟩]
    generalize cutOff n cl (inputTaken n false s) .off = t at hsw hkept hframe ⊢
    simp only [settle_sw, followLoops_sw]
    exact ⟨(eq_of_uncounted hsw SwitchSt.limpOn fun _ => rfl).trans (by simp [SwitchSt.cut, inputTaken]),
      eq_of_uncounted hsw SwitchSt.state fun _ => rfl, eq_of_uncounted hsw SwitchSt.base fun _ => rfl, hkept, hframe.only_outs s0 (by decide)⟩
  · rw [limpFollows_of_none hlimp]
    exact (SameExcept.refl [] s).only_outs s0 (by decide)
  · have ht := limpEnds_left (cs := cl) hlimp hlink hback hoff
    generalize limpEnds cl s = t at ht ⊢
    simp only [settle_sw, followLoops_sw, settle_limp, settle_die, (followLoops_noted t).solo]
    exact ⟨(followLoops_frame t .limp (by decide)).trans ht.limp, ht.solo, ht.channels, raised_outs ht.raised s0, ht.frame.only_outs s0 (by decide)⟩

end Sys2Proof.Machine
end

section
/-! The recorder's clock, storage errors and the ends of long checks (R357, R419, R490 to R497, R502). -/

namespace Sys2Proof.Machine

/-! ## The number of the next hourly record (R490) -/

/-- The number that the next hourly record takes is the same. -/
def HourlyKept (s t : State) : Prop := t.recorder.nextHourly = s.recorder.nextHourly

theorem HourlyKept.ite {s t u : State} {p : Prop} [Decidable p] (h : HourlyKept s t) (k : HourlyKept s u) : HourlyKept s (if p then t else u) := by
  split
  · exact h
  · exact k

theorem accumulate_hourly (f : RecRecord → RecRecord) (s : State) : HourlyKept s (accumulate f s) := by
  simp only [HourlyKept, accumulate, State.modRec_recorder_self]
  split <;> rfl

theorem countTime_hourly (s : State) : HourlyKept s (countTime s) := by
  unfold countTime
  simp only
  split
  · exact HourlyKept.ite (p := s.devtime - s.recorder.timedTo = 0) rfl (accumulate_hourly _ s)
  · rfl

theorem roomed_hourly {p : Prop} [Decidable p] (kind : Nat) (r : Recorder) : (if p then makeRoom kind r else r).nextHourly = r.nextHourly := by
  have hroom : (makeRoom kind r).nextHourly = r.nextHourly := by
    unfold makeRoom
    split <;> rfl
  split
  · exact hroom
  · rfl

theorem makeRoom_hour (kind : Nat) (r : Recorder) : (makeRoom kind r).nextHourly = r.nextHourly ∧ (makeRoom kind r).hour = r.hour := by
  unfold makeRoom
  split <;> exact ⟨rfl, rfl⟩

theorem store_hourly (r : RecRecord) (s : State) : HourlyKept s (store r s) := by
  unfold store
  split
  · rfl
  · simp only [HourlyKept, State.modRec_recorder_self]
    split <;> exact (makeRoom_hour _ _).1

theorem stores_hourly (rs : List RecRecord) (s : State) : HourlyKept s (rs.foldl (fun s r => store r s) s) := by
  induction rs generalizing s with
  | nil => rfl
  | cons r rs ih => exact (ih _).trans (store_hourly r s)

theorem thaw_hourly (s : State) : HourlyKept s (thaw s) := by
  unfold thaw
  split
  · rfl
  · rw [HourlyKept, setLevel_recorder]
    simp only [State.modRec_recorder_self, roomed_hourly]
    exact (stores_hourly _ _).trans (countTime_hourly s)

theorem closeRecord_hourly (kind : Nat) (isPartial byReset : Bool) (s : State) : HourlyKept s (closeRecord kind isPartial byReset s) := by
  have hthawed : ∀ (p : Prop) [Decidable p], HourlyKept s (if p then thaw (countTime s) else countTime s) := fun _ _ =>
    .ite ((thaw_hourly _).trans (countTime_hourly s)) (countTime_hourly s)
  unfold closeRecord
  simp only
  split
  · exact hthawed _
  · refine .ite ?_ ((store_hourly _ _).trans ?_)
    · simp only [HourlyKept, State.modRec_recorder_self]
      split <;> exact hthawed _
    · simp only [State.modRec_recorder_self]
      split <;> exact hthawed _

theorem openHourly_frame (s : State) : SameExcept [.recorder] s (openHourly s) := (countTime_frame s).trans (modRec_frame _ _)

theorem newHour_frame (s : State) : SameExcept [.recorder, .events] s (newHour s) :=
  ((closeRecord_frame 0 false false s).append (openHourly_frame _)).mono (by decide)

theorem SameExcept.rtcNow {bs : List Bank} {s t : State} (h : SameExcept bs s t) (hb : .power ∉ bs ∧ .time ∉ bs) : rtcNow t = rtcNow s := by
  have hpower : t.power = s.power := h .power hb.1
  have htime : t.devtime = s.devtime := h .time hb.2
  rw [Machine.rtcNow, Machine.rtcNow, hpower, htime]

theorem openHourly_hour (s : State) : (openHourly s).recorder.nextHourly = s.recorder.nextHourly + 1
    ∧ (openHourly s).recorder.hour = some (rtcNow s / 3600000) := by
  have hnow : rtcNow (countTime s) = rtcNow s := (countTime_frame s).rtcNow (by decide)
  have hnext : (countTime s).recorder.nextHourly = s.recorder.nextHourly := countTime_hourly s
  unfold openHourly
  simp only [State.modRec_recorder_self, hnow]
  split
  · exact ⟨congrArg (· + 1) hnext, rfl⟩
  · obtain ⟨hroom, hhour⟩ := makeRoom_hour 0 { (countTime s).recorder with nextHourly := (countTime s).recorder.nextHourly + 1, hour := some (rtcNow s / 3600000) }
    exact ⟨hroom.trans (congrArg (· + 1) hnext), hhour⟩

/-! ## Samples (R492, R493) -/

/-- The speed histogram of the lifetime record is the same. -/
def SpeedsKept (s t : State) : Prop := t.recorder.lifetime.histSpeed = s.recorder.lifetime.histSpeed

theorem SpeedsKept.trans {s t u : State} (h : SpeedsKept s t) (k : SpeedsKept t u) : SpeedsKept s u := Eq.trans k h

theorem accumulate_speeds (f : RecRecord → RecRecord) (hf : ∀ r, (f r).histSpeed = r.histSpeed) (s : State) : SpeedsKept s (accumulate f s) := by
  simp only [SpeedsKept, accumulate, State.modRec_recorder_self]
  split
  · rfl
  · exact hf _

theorem offerExtreme_speeds (q : Nat) (isMax : Bool) (key inst : Nat) (v : Int) (s : State) : SpeedsKept s (offerExtreme q isMax key inst v s) := by
  unfold offerExtreme
  simp only
  refine accumulate_speeds _ (fun r => ?_) s
  split
  · rfl
  · split <;> rfl

theorem offerBoth_speeds (q key inst : Nat) (v : Int) (s : State) : SpeedsKept s (offerBoth q key inst v s) :=
  (offerExtreme_speeds q false key inst v s).trans (offerExtreme_speeds q true key inst v _)

theorem SpeedsKept.foldl {α : Type} {f : State → α → State} (h : ∀ s a, SpeedsKept s (f s a)) (l : List α) (s : State) : SpeedsKept s (l.foldl f s) := by
  induction l generalizing s with
  | nil => rfl
  | cons a l ih => exact (h s a).trans (ih _)

/-- R493: extremes enter no histogram. -/
theorem sampleExtremes_speeds (x : RecSample) (s : State) : SpeedsKept s (sampleExtremes x s) :=
  ((((SpeedsKept.foldl (fun s _ => offerBoth_speeds _ _ _ _ s) x.vbatMv s).trans
    (.foldl (fun s _ => offerBoth_speeds _ _ _ _ s) x.junctionDc _)).trans (offerBoth_speeds _ _ _ _ _)).trans (offerExtreme_speeds _ _ _ _ _ _)).trans
    ((offerExtreme_speeds _ _ _ _ _ _).trans (offerExtreme_speeds _ _ _ _ _ _))

theorem offerBoth_frame (q key inst : Nat) (v : Int) (s : State) : SameExcept [.recorder] s (offerBoth q key inst v s) :=
  (offerExtreme_frame q false key inst v s).trans (offerExtreme_frame q true key inst v _)

theorem sampleExtremes_frame (x : RecSample) (s : State) : SameExcept [.recorder] s (sampleExtremes x s) :=
  ((((SameExcept.foldl _ (fun s _ => offerBoth_frame _ _ _ _ s) x.vbatMv s).trans
    (.foldl _ (fun s _ => offerBoth_frame _ _ _ _ s) x.junctionDc _)).trans (offerBoth_frame _ _ _ _ _)).trans (offerExtreme_frame _ _ _ _ _ _)).trans
    ((offerExtreme_frame _ _ _ _ _ _).trans (offerExtreme_frame _ _ _ _ _ _))

/-- What a sample that is taken leaves (R492). -/
def sampledNow (x : RecSample) (s : State) : State := takeSample x (s.modRec fun r => { r with sampledAt := some s.devtime })

theorem sampledNow_frame (x : RecSample) (s : State) : SameExcept [.recorder] s (sampledNow x s) := by
  have hmarked := modRec_frame s fun r => { r with sampledAt := some s.devtime }
  unfold sampledNow takeSample
  simp only
  split
  · exact hmarked.trans ((accumulate_frame _ _).trans (sampleExtremes_frame _ _))
  · exact hmarked.trans ((accumulate_frame _ _).trans (sampleExtremes_frame _ _))
  · exact hmarked
  · exact hmarked
  · exact hmarked
  · exact hmarked

theorem sampledNow_speed {x : RecSample} {s : State} (hrun : s.power.state = .run) (hlive : s.recorder.frozenAt = none) :
    tget (sampledNow x s).recorder.lifetime.histSpeed 0 (min 31 (mag s.odo.speed / 500000))
      = tget s.recorder.lifetime.histSpeed 0 (min 31 (mag s.odo.speed / 500000)) + 1 := by
  unfold sampledNow takeSample
  simp only [State.modRec_power, hrun]
  rw [sampleExtremes_speeds]
  simp [accumulate, hlive, sampleBins, State.modRec_odo]

theorem execHistogramSample_of_due {x : RecSample} {τ : Nat} {s : State} (hserves : serves 5 (s.advance τ) = true)
    (hruns : recorderRuns (s.advance τ) = true) (hdue : ∀ u, (s.advance τ).recorder.sampledAt = some u → u + 100000 ≤ (s.advance τ).devtime) :
    execHistogramSample τ x s = .next (settle s (sampledNow x (s.advance τ))) := by
  rw [execHistogramSample, at_next]
  generalize s.advance τ = u at hserves hruns hdue ⊢
  have htime : sampleTime u τ = u.devtime := by
    simp only [serves, Bool.and_eq_true, Bool.not_eq_true'] at hserves
    simp [sampleTime, hserves.1.1]
  have hlate : sampleDue u u.devtime = true := by
    unfold sampleDue
    split
    · next v hv => exact decide_eq_true (hdue v hv)
    · rfl
  simp only [recorderRuns, Bool.and_eq_true] at hruns
  rw [byCore_of_serves hserves]
  simp only [htime, hlate, hruns.1.1, hruns.1.2, Bool.and_self, if_true]
  rfl

theorem thawDue_of_due {f : Nat} {s : State} (hfrozen : s.recorder.frozenAt = some f) (hdue : f + 3600000000 ≤ s.devtime) : thawDue s = true := by
  simp [thawDue, hfrozen, hdue]

/-! ## Long ends (R357, R419, R497) -/

/-- R357: storage once a firmware image has been checked. -/
def fwChecked (s : State) (f : Firmware) (x : StorageSt) : StorageSt :=
  { x with fwCommitting := none, fwStaging := none, activeFw := if fwPasses s f then spareFw s else x.activeFw }

/-- R357: the slot that a checked image is in. -/
def checkedSlot (s : State) (f : Firmware) : FwSlot :=
  let bytes := (s.storage.fwStaging.map (·.2)).getD []
  { st := if fwPasses s f then 2 else 3, image := some f, bytes := bytes, size := bytes.length }

theorem finishFw_eq {s : State} {f : Firmware} (hchecked : s.storage.fwCommitting = some f) :
    finishFw s = endLong 2820 { result := if fwPasses s f then resOk else resDenied } (setFwSlot (spareFw s) (checkedSlot s f) (s.modStore (fwChecked s f))) := by
  simp only [finishFw, hchecked]
  rfl

theorem setFwSlot_storage (k : Nat) (c : FwSlot) (s : State) : (setFwSlot k c s).storage.fwCommitting = s.storage.fwCommitting
    ∧ (setFwSlot k c s).storage.fwStaging = s.storage.fwStaging ∧ (setFwSlot k c s).storage.activeFw = s.storage.activeFw := by
  unfold setFwSlot
  simp only [State.modStore_storage_self]
  split <;> exact ⟨rfl, rfl, rfl⟩

/-- What the end of a firmware check leaves. -/
structure FwEnded (s t : State) (f : Firmware) : Prop where
  frame : SameExcept [.storage, .courses] s t
  done : ∀ s0, LongDone 2820 { result := if fwPasses s f then resOk else resDenied } s (settle s0 t)
  committing : t.storage.fwCommitting = none
  staging : t.storage.fwStaging = none
  active : t.storage.activeFw = if fwPasses s f then spareFw s else s.storage.activeFw

theorem finishFw_ends {s : State} {f : Firmware} (hchecked : s.storage.fwCommitting = some f) : FwEnded s (finishFw s) f := by
  have hstored : SameExcept [.storage] s (setFwSlot (spareFw s) (checkedSlot s f) (s.modStore (fwChecked s f))) :=
    (modStore_frame s _).trans (setFwSlot_frame _ _ _)
  obtain ⟨hcommitting, hstaging, hactive⟩ := setFwSlot_storage (spareFw s) (checkedSlot s f) (s.modStore (fwChecked s f))
  have hreply := endLong_frame 2820 { result := if fwPasses s f then resOk else resDenied } (setFwSlot (spareFw s) (checkedSlot s f) (s.modStore (fwChecked s f)))
  have hstorage := hreply .storage (by decide)
  rw [finishFw_eq hchecked]
  exact ⟨hstored.append hreply, fun s0 => .of_endLong (.of_frame hstored (by decide)), by rw [hstorage, hcommitting]; rfl,
    by rw [hstorage, hstaging]; rfl, by rw [hstorage, hactive]; rfl⟩

/-- R497: what writing the partition table leaves. -/
def repartitioned (mib : Nat) (s : State) : State :=
  { (s.modStore fun x => { x with partitioning := none, tableOk := true, tephraMib := mib, cfgA := {}, cfgB := {}, activeCfg := 255, fwA := {}, fwB := {},
                                  staging := none, fwStaging := none, savedLatency := [], latencySavedAt := 0, stopped := [] }) with
    recorder := {}, cov := { slots := slotsOf mib } }

theorem finishPartition_eq {s : State} {mib : Nat} (hasked : s.storage.partitioning = some mib) :
    finishPartition s = endLong 2821 {} (repartitioned mib s) := by
  simp only [finishPartition, hasked]
  rfl

theorem repartitioned_frame (mib : Nat) (s : State) : SameExcept [.storage, .recorder, .cov] s (repartitioned mib s) := by
  intro b hb; cases b <;> simp_all [Bank.same, repartitioned]

/-! ## The statement -/

/-- Settles O55: a new hour and a thaw touch the recorder alone; a sample's speed is counted once; each long end by its reply's rule. -/
theorem recorderEvents : Obligations.RecorderEvents := by
  unfold Obligations.RecorderEvents
  refine ⟨.of_settle newHour (fun τ s ⟨hruns, hturns⟩ => (at_next _ _ _).trans (by simp [hruns, hturns])) fun s0 s ⟨hruns, hturns⟩ => ?_,
    .of_settle id (fun τ s hsame => (at_next _ _ _).trans (by simp [hsame])) fun s0 s _ => (SameExcept.refl [] s).only_settle s0,
    fun x => .of_settle (sampledNow x) (fun τ s ⟨hserves, hruns, _, _, hdue⟩ => execHistogramSample_of_due hserves hruns hdue)
      fun s0 s ⟨_, _, hrun, hlive, _⟩ => ?_,
    fun f => .of_settle thaw (fun τ s ⟨hruns, hfrozen, hdue, hwrites⟩ => (at_next _ _ _).trans (by simp [hruns, hwrites, thawDue_of_due hfrozen hdue]))
      fun s0 s ⟨hruns, hfrozen, hdue, hwrites⟩ => ?_,
    fun p hp => .of_settle (fun s => fault 249 p 0 3 0 (if 5 ≤ p then s.modStore fun x => { x with failing := p } else s))
      (fun τ s hawake => (about_next hp).trans (by simp [hawake])) fun s0 s _ => ?_,
    fun i => .of_settle finishVerify (fun τ s _ => at_next _ _ _) fun s0 s ⟨hchecking, hgood⟩ => ?_,
    fun f n d => .of_settle finishFw (fun τ s _ => at_next _ _ _) fun s0 s ⟨hchecked, hgood, hstaged, hslot⟩ => ?_,
    fun f => .of_settle finishFw (fun τ s _ => at_next _ _ _) fun s0 s ⟨hchecked, hbad⟩ => ?_,
    fun mib => .of_settle finishPartition (fun τ s _ => at_next _ _ _) fun s0 s hasked => ?_⟩
  · obtain ⟨hnext, hhour⟩ := openHourly_hour (closeRecord 0 false false s)
    rw [settle_recorder]
    exact ⟨hnext.trans (congrArg (· + 1) (closeRecord_hourly 0 false false s)),
      hhour.trans (by rw [(closeRecord_frame 0 false false s).rtcNow (by decide)]), (newHour_frame s).only_settle_of s0 (by decide)⟩
  · rw [settle_recorder]
    exact ⟨sampledNow_speed hrun hlive, (sampledNow_frame x s).only_settle s0⟩
  · rw [settle_recorder]
    exact ⟨(thaw_thawed (by simp [hfrozen])).1, (thaw_frame s).only_settle_of s0 (by decide)⟩
  · have hset : SameExcept [.storage] s (if 5 ≤ p then s.modStore fun x => { x with failing := p } else s) := .ite (modStore_frame s _) (.refl _ s)
    have hfault := fault_frame_own (n := 249) rfl p 0 3 0 (if 5 ≤ p then s.modStore fun x => { x with failing := p } else s)
    refine ⟨((raised_fault _ _ _ _ _ _).of_before hset (by decide)).settle s0, ?_, (hset.append hfault).only_settle_of s0 (by decide)⟩
    rw [settle_storage, hfault .storage (by decide)]
    split
    · simp
    · rfl
  · have hended : finishVerify s = endLong 515 {} (s.modStore fun x => { x with verifying := none }) := by simp [finishVerify, hchecking, hgood]
    have hset := modStore_frame s fun x => { x with verifying := none }
    have hreply := endLong_frame 515 {} (s.modStore fun x => { x with verifying := none })
    rw [hended]
    exact ⟨.of_endLong (.of_frame hset (by decide)), by rw [settle_storage, hreply .storage (by decide)]; simp, (hset.append hreply).only_settle_of s0 (by decide)⟩
  · obtain ⟨hframe, hdone, hcommitting, hstaging, hactive⟩ := finishFw_ends hchecked
    rw [if_pos hgood] at hactive
    simp only [hgood, if_true] at hdone
    rw [settle_storage]
    exact ⟨hdone s0, hcommitting, hstaging, hactive, hframe.only_settle_of s0 (by decide)⟩
  · obtain ⟨hframe, hdone, -, -, hactive⟩ := finishFw_ends hchecked
    simp only [hbad, Bool.false_eq_true, if_false] at hdone hactive
    rw [settle_storage]
    exact ⟨hdone s0, hactive, hframe.only_settle_of s0 (by decide)⟩
  · have hset := repartitioned_frame mib s
    have hreply := endLong_frame 2821 {} (repartitioned mib s)
    have hdone : LongDone 2821 {} s (settle s0 (endLong 2821 {} (repartitioned mib s))) := .of_endLong (.of_frame hset (by decide))
    rw [finishPartition_eq hasked]
    rw [settle_storage, settle_recorder, settle_cov, hreply .storage (by decide), hreply .recorder (by decide), hreply .cov (by decide)]
    exact ⟨hdone, rfl, rfl, rfl, rfl, rfl, (hset.append hreply).only_settle_of s0 (by decide)⟩

end Sys2Proof.Machine
end

section
/-! Zither: what a received frame's row answers, what the end of a step leaves of Zither, and the tokens' rules (R50, R53, R446 to R459). -/

namespace Sys2Proof.Machine

/-! ## Zither through the end of a step -/

/-- Zither without what sending a system frame, CONTROL and the watch on FREE touch. -/
def ZitherSt.quiet (z : ZitherSt) : ZitherSt := { z with seqOut := 0, sent := [], highSince := none, controlAt := none, controlFlags := 0 }

/-- The fields of Zither that sending does not touch. -/
theorem eq_of_quiet {α : Type} {y z : ZitherSt} (h : y.quiet = z.quiet) (f : ZitherSt → α) (hf : ∀ x, f x.quiet = f x) : f y = f z := by
  rw [← hf y, h, hf]

section
variable (type dst : Nat) (body : List Int) (s : State)

theorem modCans_zither (l : List Nat) (f : CanSt → CanSt) (s : State) : (l.foldl (fun s n => s.modCan n f) s).zither = s.zither :=
  SameExcept.foldl (bs := [.can]) _ (fun s n => modCan_frame s n f) l s .zither (by decide)

theorem sendZ_zither : (sendZ type dst body s).zither =
    { s.zither with seqOut := (s.zither.seqOut + 1) % 65536, sent := (type, dst, body) :: s.zither.sent } := by
  unfold sendZ
  simp only [State.modZ_zither_self, modCans_zither]

theorem sendZ_quiet : (sendZ type dst body s).zither.quiet = s.zither.quiet := by rw [sendZ_zither]; rfl

theorem mem_sendZ_sent_self : (type, dst, body) ∈ (sendZ type dst body s).zither.sent := by rw [sendZ_zither]; exact List.mem_cons_self

end

/-- What a change of CONTROL's flags sends. -/
theorem controlChange_zither (s : State) : (controlChange s).zither = s.zither ∨ (s.lead = true ∧ (controlChange s).zither.controlAt = some s.devtime
    ∧ (controlChange s).zither.sent = (14, 4, [((controlNow s : Nat) : Int)]) :: s.zither.sent ∧ (controlChange s).zither.quiet = s.zither.quiet) := by
  unfold controlChange
  split
  · next h =>
    simp only [Bool.and_eq_true] at h
    refine .inr ⟨h.1.1.1.1, ?_⟩
    unfold sendControl
    rw [sendZ_zither]
    exact ⟨rfl, rfl, rfl⟩
  · exact .inl rfl

theorem tokenWatch_zither (s : State) : ∃ h, (tokenWatch s).zither = { s.zither with highSince := h } := by
  unfold tokenWatch
  simp only
  generalize (if s.follower && decide ((s.cfg.package.retHigh : Int) < freeOf s pkgKey) then some (s.zither.highSince.getD s.devtime) else none) = high
  split
  · exact ⟨s.zither.highSince, rfl⟩
  · exact ⟨high, rfl⟩

/-- R450, R456: of Zither the end of a step changes CONTROL's own state and since when FREE is high. -/
theorem settle_zither (s0 s : State) : ∃ h, (settle s0 s).zither = { (controlChange s).zither with highSince := h } := by
  have hlevels : (isobusRecords (signals (gatewayLevels (ringLevels (closeCleared (tokenWatch (controlChange s))))))).zither
      = (tokenWatch (controlChange s)).zither := by
    rw [isobusRecords_frame _ .zither (by decide), signals_frame _ .zither (by decide), gatewayLevels_frame _ .zither (by decide),
      ringLevels_frame _ .zither (by decide), closeCleared_frame _ .zither (by decide)]
  obtain ⟨h, hwatch⟩ := tokenWatch_zither (controlChange s)
  refine ⟨h, ?_⟩
  unfold settle
  simp only
  split
  · exact hlevels.trans hwatch
  · exact hlevels.trans hwatch

theorem settle_quiet (s0 s : State) : (settle s0 s).zither.quiet = s.zither.quiet := by
  obtain ⟨h, hz⟩ := settle_zither s0 s
  have hquiet : (controlChange s).zither.quiet = s.zither.quiet := by
    obtain hsame | ⟨-, -, -, hsent⟩ := controlChange_zither s
    · rw [hsame]
    · exact hsent
  rw [hz]
  exact hquiet

theorem mem_sent_settle {x : Nat × Nat × List Int} {s : State} (hx : x ∈ s.zither.sent) (s0 : State) : x ∈ (settle s0 s).zither.sent := by
  obtain ⟨h, hz⟩ := settle_zither s0 s
  have hsent : x ∈ (controlChange s).zither.sent := by
    obtain hsame | ⟨-, -, hsent, -⟩ := controlChange_zither s
    · rwa [hsame]
    · rw [hsent]
      exact List.mem_cons_of_mem _ hx
  rw [hz]
  exact hsent

theorem settle_controlFlags {s : State} (hlead : s.lead = false) (s0 : State) : (settle s0 s).zither.controlFlags = s.zither.controlFlags := by
  obtain ⟨h, hz⟩ := settle_zither s0 s
  obtain hsame | ⟨htrue, -⟩ := controlChange_zither s
  · rw [hz, hsame]
  · simp [hlead] at htrue

theorem settle_controlAt {s : State} {now : Nat} (hnow : s.devtime = now) (hsent : s.zither.controlAt = some now) (s0 : State) :
    (settle s0 s).zither.controlAt = some now := by
  obtain ⟨h, hz⟩ := settle_zither s0 s
  rw [hz]
  obtain hsame | ⟨-, hat, -⟩ := controlChange_zither s
  · simp only [hsame, hsent]
  · simp only [hat, hnow]

theorem followLoops_zither (s : State) : (followLoops s).zither = s.zither := followLoops_frame s .zither (by decide)

theorem quiet_outs (s0 s : State) : (settle s0 (followLoops s)).zither.quiet = s.zither.quiet := by rw [settle_quiet, followLoops_zither]

theorem mem_sent_outs {x : Nat × Nat × List Int} {s : State} (hx : x ∈ s.zither.sent) (s0 : State) : x ∈ (settle s0 (followLoops s)).zither.sent :=
  mem_sent_settle (by rwa [followLoops_zither]) s0

theorem ledger_outs (s0 s : State) : (settle s0 (followLoops s)).ledger = s.ledger := by
  rw [settle_ledger, followLoops_frame s .ledger (by decide)]

/-! ## Rows (R22, R448, R459) -/

/-- A received frame, once Bus serves. -/
theorem Hears.of_row {c : ZHdr → Instr} {pre : ZHdr → State → Prop} {post : ZHdr → State → State → Prop} (f : ZHdr → State → State)
    (hexec : ∀ z s, exec (c z) s = zitherRow (c z) z (f z) s) (hpost : ∀ z s0 s, pre z s → post z s (settle s0 (followLoops (f z s)))) :
    Hears c pre post := fun z s hsrc hserves hpre => by
  refine ⟨_, (hexec z s).trans ((if_pos hsrc).trans (at_next _ _ _)), ?_⟩
  rw [byCore_of_serves hserves]
  exact hpost z s _ hpre

theorem fromLead_of_leadFrame {z : ZHdr} {f : State → State} {s : State} (h : leadFrame z s = true) : fromLead z f s = f (heard z s) := by
  simp only [leadFrame, Bool.and_eq_true, beq_iff_eq] at h
  obtain ⟨⟨⟨⟨hfresh, hfollower⟩, hsrc⟩, hwelcomed⟩, hjoined⟩ := h
  unfold fromLead
  rw [if_neg (by simp [hfresh, hfollower, hsrc, hwelcomed]), if_pos (by simp [hjoined])]

theorem fromFollower_of_followerFrame {z : ZHdr} {f : State → State} {s : State} (h : followerFrame z s = true) :
    fromFollower z f s = f (heard z s) := by
  simp only [followerFrame, Bool.and_eq_true, beq_iff_eq] at h
  obtain ⟨⟨⟨hfresh, hlead⟩, hdeclared⟩, hjoined⟩ := h
  unfold fromFollower
  rw [if_neg (by simp [hfresh, hlead, hdeclared, hjoined])]

/-- A frame of the lead that a welcomed follower takes. -/
theorem Hears.of_lead {c : ZHdr → Instr} {pre : ZHdr → State → Prop} {post : ZHdr → State → State → Prop} (f : ZHdr → State → State)
    (hexec : ∀ z s, exec (c z) s = zitherRow (c z) z (fromLead z (f z)) s) (hlead : ∀ z s, pre z s → leadFrame z s = true)
    (hpost : ∀ z s0 s, pre z s → post z s (settle s0 (followLoops (f z (heard z s))))) : Hears c pre post :=
  .of_row _ hexec fun z s0 s hpre => by
    rw [fromLead_of_leadFrame (hlead z s hpre)]
    exact hpost z s0 s hpre

/-- A frame of a declared follower that the lead takes. -/
theorem Hears.of_follower {c : ZHdr → Instr} {pre : ZHdr → State → Prop} {post : ZHdr → State → State → Prop} (f : ZHdr → State → State)
    (hexec : ∀ z s, exec (c z) s = zitherRow (c z) z (fromFollower z (f z)) s) (hfollower : ∀ z s, pre z s → followerFrame z s = true)
    (hpost : ∀ z s0 s, pre z s → post z s (settle s0 (followLoops (f z (heard z s))))) : Hears c pre post :=
  .of_row _ hexec fun z s0 s hpre => by
    rw [fromFollower_of_followerFrame (hfollower z s hpre)]
    exact hpost z s0 s hpre

/-- A member's own row. -/
theorem Does.of_zither {c : Nat → Instr} {pre : State → Prop} {post : State → State → Prop} (f : State → State)
    (hexec : ∀ τ s, exec (c τ) s = zitherTimer τ f s) (hruns : ∀ s, pre s → zitherRuns s = true)
    (hpost : ∀ s0 s, pre s → post s (settle s0 (f s))) : Does c pre post :=
  .of_settle f (fun τ s hpre => (hexec τ s).trans ((at_next _ _ _).trans (by rw [if_pos (hruns _ hpre)]))) hpost

theorem leadFrame_roles {z : ZHdr} {s : State} (h : leadFrame z s = true) : s.follower = true ∧ s.lead = false ∧ s.cfg.package.member = true := by
  simp only [leadFrame, Bool.and_eq_true] at h
  obtain ⟨⟨⟨⟨-, hfollower⟩, -⟩, -⟩, -⟩ := h
  have hroles := hfollower
  simp only [State.follower, Bool.and_eq_true, bne_iff_ne, ne_eq] at hroles
  exact ⟨hfollower, by simp [State.lead, hroles.2], hroles.1⟩

theorem followerFrame_roles {z : ZHdr} {s : State} (h : followerFrame z s = true) : s.lead = true ∧ s.follower = false := by
  simp only [followerFrame, Bool.and_eq_true] at h
  obtain ⟨⟨⟨-, hlead⟩, -⟩, -⟩ := h
  have hroles := hlead
  simp only [State.lead, Bool.and_eq_true, beq_iff_eq] at hroles
  exact ⟨hlead, by simp [State.follower, hroles.2]⟩

/-! ## Tokens of a package (R50) -/

theorem SameExcept.tok {bs : List Bank} {s t : State} (h : SameExcept bs s t) (hb : .ledger ∉ bs) (p : Nat) : tok t p = tok s p := by
  have hledger : t.ledger = s.ledger := h .ledger hb
  rw [Machine.tok, Machine.tok, hledger]

theorem tok_of_ledger {s t : State} (h : t.ledger = s.ledger) (p : Nat) : tok t p = tok s p := by rw [tok, tok, h]

section
variable (p : Nat) (f : TokenSt → TokenSt) (s : State)

theorem modTok_frame : SameExcept [.ledger] s (modTok p f s) := (modLedger_frame s _).trans (setPool_frame _ _ _)

theorem modTok_tok_self : tok (modTok p f s) p = f (tok s p) := tget_tmod_self _ _ _ _

theorem modTok_tok_of_ne {q : Nat} (h : q ≠ p) : tok (modTok p f s) q = tok s q := tget_tmod_of_ne _ _ _ h

theorem modTok_tokensFree : (modTok p f s).ledger.tokensFree = s.ledger.tokensFree := rfl

theorem modTok_pool (hown : p = ownPkg s) : (modTok p f s).ledger.packagePool
    = poolOfTokens s.cfg.package.member ((f (tok s p)).fixed + (f (tok s p)).granted) := by
  subst hown
  have htok : tok (s.modLedger fun l => { l with tokens := tmod l.tokens {} (ownPkg s) f }) (ownPkg s) = f (tok s (ownPkg s)) := tget_tmod_self _ _ _ _
  have hpool : ∀ pool d (t : State), (setPool pool d t).ledger.packagePool = pool := fun _ _ _ => rfl
  unfold modTok
  simp only [htok, hpool]

end

theorem tok_outs (s0 s : State) (p : Nat) : tok (settle s0 (followLoops s)) p = tok s p := tok_of_ledger (ledger_outs s0 s) p

theorem applied_outs (s0 s : State) (p tseq : Nat) : applied (settle s0 (followLoops s)) p tseq = applied s p tseq := by
  rw [applied, tok_outs, applied]

/-! ## Hearing a frame (R448, R459) -/

section
variable (z : ZHdr) (s : State)

theorem heard_frame : SameExcept [.ledger, .zither] s (heard z s) := ((modZ_frame s _).append (modTok_frame _ _ _)).mono (by decide)

theorem heard_tok (p : Nat) : ∃ a, tok (heard z s) p = { tok s p with heardAt := a } := by
  unfold heard
  simp only
  generalize (if s.lead then z.src else ownPkg s) = q
  by_cases hp : p = q
  · subst hp
    exact ⟨_, modTok_tok_self _ _ _⟩
  · exact ⟨(tok s p).heardAt, modTok_tok_of_ne _ _ _ hp⟩

theorem heard_tokensFree : (heard z s).ledger.tokensFree = s.ledger.tokensFree := rfl

theorem heard_zither : ∃ l, (heard z s).zither = { s.zither with seqTaken := l } :=
  ⟨_, (modTok_frame _ _ (s.modZ fun x => { x with seqTaken := tmod x.seqTaken [] z.src fun l => (z.seq :: l).take 64 })) .zither (by decide)⟩

theorem heard_ownPkg : ownPkg (heard z s) = ownPkg s := by rw [ownPkg, (heard_frame z s).cfg (by decide), ownPkg]

theorem heard_devtime : (heard z s).devtime = s.devtime := (heard_frame z s).devtime (by decide)

theorem heard_applied (p tseq : Nat) : applied (heard z s) p tseq = applied s p tseq := by
  obtain ⟨a, h⟩ := heard_tok z s p
  rw [applied, h, applied]

end

/-! ## Sending tokens (R457) -/

/-- The TSEQ of the next tokens that are sent. -/
def nextTseq (x : TokenSt) : Nat := (x.tseqSent + 1) % 65536

/-- `n` tokens have gone out under the next TSEQ of package `p`. -/
structure TokensSent (type p dst n : Nat) (s t : State) : Prop where
  frame : SameExcept [.ledger, .can, .zither] s t
  account : tok t p = { tok s p with tseqSent := nextTseq (tok s p), inTransit := (tok s p).inTransit ++ [(nextTseq (tok s p), n, s.devtime)] }
  tokensFree : t.ledger.tokensFree = s.ledger.tokensFree
  sent : (type, dst, [((nextTseq (tok s p) : Nat) : Int), ((n : Nat) : Int)]) ∈ t.zither.sent

theorem sendTokens_sends (type p dst n : Nat) (s : State) : TokensSent type p dst n s (sendTokens type p dst n s) := by
  have hmarked := modTok_frame p (fun t => { t with tseqSent := nextTseq (tok s p), inTransit := t.inTransit ++ [(nextTseq (tok s p), n, s.devtime)] }) s
  have hsent := sendZ_frame type dst [((nextTseq (tok s p) : Nat) : Int), ((n : Nat) : Int)]
    (modTok p (fun t => { t with tseqSent := nextTseq (tok s p), inTransit := t.inTransit ++ [(nextTseq (tok s p), n, s.devtime)] }) s)
  refine ⟨hmarked.append hsent, ?_, ?_, mem_sendZ_sent_self _ _ _ _⟩
  · exact (hsent.tok (by decide) p).trans (modTok_tok_self _ _ _)
  · have hledger : (sendTokens type p dst n s).ledger = _ := hsent .ledger (by decide)
    rw [hledger]
    rfl

end Sys2Proof.Machine
end

section
/-! Zither tokens (R50, R53, R456, R457). -/

namespace Sys2Proof.Machine

/-! ## Each token operation's one effect -/

section
variable {p tseq count : Nat} {s : State}

theorem grantTokens_of_free (hcount : 0 < count) (hfree : 0 < s.ledger.tokensFree) (hpresent : (tok s p).present = true) :
    grantTokens p count s = sendTokens 9 p p (min count s.ledger.tokensFree)
      (s.modLedger fun l => { l with tokensFree := l.tokensFree - min count s.ledger.tokensFree }) := by
  have hsome : ¬((min count s.ledger.tokensFree = 0 : Bool) || !(tok s p).present) = true := by simp [hpresent]; omega
  unfold grantTokens
  exact if_neg hsome

/-- R53: tokens that are applied under a TSEQ. -/
def TokenSt.granting (x : TokenSt) (count tseq : Nat) : TokenSt :=
  { x with granted := x.granted + count, tseqApplied := (tseq :: x.tseqApplied).take 64 }

/-- R53: tokens that are given back under a TSEQ. -/
def TokenSt.returning (x : TokenSt) (count tseq : Nat) : TokenSt :=
  { x with granted := x.granted - count, tseqApplied := (tseq :: x.tseqApplied).take 64 }

theorem takeGrant_of_new (hnew : applied s (ownPkg s) tseq = false) : takeGrant tseq count s =
    sendZ 11 0 [(tseq : Nat), 0] ((modTok (ownPkg s) (fun t => t.granting count tseq) s).modZ fun z => { z with tokenAskedAt := none }) := by
  unfold takeGrant
  simp only [hnew, Bool.false_eq_true, if_false]
  rfl

theorem takeGrant_of_applied (hold : applied s (ownPkg s) tseq = true) : takeGrant tseq count s = sendZ 11 0 [(tseq : Nat), 0] s := by
  unfold takeGrant
  simp only [hold, if_true]

theorem returnedTokens_of_new (hnew : applied s p tseq = false) (hheld : count ≤ (tok s p).granted) : returnedTokens p tseq count s =
    sendZ 11 p [(tseq : Nat), 1] ((modTok p (fun t => t.returning count tseq) s).modLedger fun l => { l with tokensFree := l.tokensFree + count }) := by
  unfold returnedTokens
  rw [if_neg (by simp [hnew]), if_neg (by omega)]
  rfl

/-- R457: what is acknowledged is no longer in transit. -/
def TokenSt.landed (x : TokenSt) (tseq : Nat) : TokenSt := { x with inTransit := x.inTransit.filter fun y => y.1 != tseq }

/-- R457: acknowledged tokens become GRANTED. -/
def TokenSt.accepted (x : TokenSt) (tseq : Nat) : TokenSt := { x.landed tseq with granted := x.granted + transitOf x tseq }

theorem takeAck_of_return (hrole : s.follower = true ∧ s.lead = false) : takeAck p tseq 1 s = modTok (ownPkg s) (fun t => t.landed tseq) s := by
  unfold takeAck
  simp only [hrole.1, hrole.2]
  rfl

theorem takeAck_of_grant (hlead : s.lead = true) : takeAck p tseq 0 s = modTok p (fun t => t.accepted tseq) s := by
  unfold takeAck
  simp only [hlead]
  rfl

theorem not_mem_landed (x : TokenSt) (tseq : Nat) : ∀ y ∈ (x.landed tseq).inTransit, y.1 ≠ tseq := fun y hy => by
  simpa using (List.mem_filter.1 hy).2

theorem applied_of_cons {t : State} {l : List Nat} (h : (tok t p).tseqApplied = (tseq :: l).take 64) : applied t p tseq = true := by
  simp [applied, h]

end

/-! ## Repeats and timers (R456, R457) -/

/-- R457: tokens sent again are in transit since now. -/
def TokenSt.resent (x : TokenSt) (now : Nat) : TokenSt :=
  { x with inTransit := x.inTransit.map fun y => if decide (y.2.2 + 5000 ≤ now) then (y.1, y.2.1, now) else y }

theorem repeatTokens_of_one {p q n at_ : Nat} {s : State} (hlead : s.lead = true) (hone : (tok s p).inTransit = [(q, n, at_)])
    (hdue : at_ + 5000 ≤ s.devtime) :
    repeatTokens p s = modTok p (fun t => t.resent s.devtime) (sendZ 9 p [(q : Nat), (n : Nat)] s) := by
  unfold repeatTokens
  simp only [hlead, if_true, hone, List.filter_cons, hdue, decide_true, List.filter_nil, List.foldl_cons, List.foldl_nil]
  rfl

theorem askTokens_of_wanted {s : State} (hrole : s.follower = true ∧ s.lead = false) (hwelcomed : s.zither.welcomed = true) (hwanted : 0 < tokensWanted s)
    (hasked : s.zither.tokenAskedAt = none) : askTokens s =
      sendZ 8 0 [(tokensWanted s : Nat)] (s.modZ fun z => { z with tokenAskedAt := some s.devtime, tokenShort := false }) := by
  unfold askTokens
  simp only
  rw [if_neg (by omega), if_neg (by simp [hrole.2]), if_neg (by simp [hwelcomed, hasked])]

/-- R456: how many tokens a follower gives back. -/
def surplus (s : State) : Nat := min (tok s (ownPkg s)).granted ((freeOf s pkgKey - s.cfg.package.reqTarget) / 20).toNat

theorem giveBack_of_high {at_ : Nat} {s : State} (hfollower : s.follower = true) (hwelcomed : s.zither.welcomed = true)
    (hhigh : s.zither.highSince = some at_) (hlong : at_ + 1000000 ≤ s.devtime) (hsome : 0 < surplus s) : giveBack s =
      sendTokens 10 (ownPkg s) 0 (surplus s) (modTok (ownPkg s) (fun t => { t with granted := t.granted - surplus s })
        (s.modZ fun z => { z with highSince := none })) := by
  have hnone : ¬(!s.follower || !s.zither.welcomed || !true || decide (surplus s = 0)) = true := by simp [hfollower, hwelcomed]; omega
  unfold giveBack
  simp only [hhigh, hlong, decide_true]
  exact if_neg hnone

/-! ## The statement -/

theorem followerOf_zitherRuns {s : State} (hfollower : s.follower = true) : s.lead = false := by
  simp only [State.follower, Bool.and_eq_true, bne_iff_ne, ne_eq] at hfollower
  simp [State.lead, hfollower.2]

/-- Settles O51: each frame by its one effect on the package's tokens, which the pool follows, and the frame that it sends. -/
theorem zitherTokens : Obligations.ZitherTokens := by
  unfold Obligations.ZitherTokens
  refine ⟨fun count => .of_follower (fun z => grantTokens z.src count) (fun _ _ => rfl) (fun z s h => h.1) fun z s0 s ⟨hframe, hpresent, hcount, hfree⟩ => ?_,
    fun tseq count => .of_lead (fun _ => takeGrant tseq count) (fun _ _ => rfl) (fun z s h => h.1) fun z s0 s ⟨hframe, hnew⟩ => ?_,
    fun tseq count => .of_lead (fun _ => takeGrant tseq count) (fun _ _ => rfl) (fun z s h => h.1) fun z s0 s ⟨hframe, hold⟩ => ?_,
    fun tseq count => .of_follower (fun z => returnedTokens z.src tseq count) (fun _ _ => rfl) (fun z s h => h.1)
      fun z s0 s ⟨hframe, hnew, hheld⟩ => ?_,
    fun tseq => .of_row _ (fun _ _ => rfl) fun z s0 s hframe => ?_,
    fun tseq => .of_row _ (fun _ _ => rfl) fun z s0 s hframe => ?_,
    fun p q n at_ hp => .of_zither (repeatTokens p) (fun τ s => if_pos hp) (fun s h => h.1) fun s0 s ⟨_, hlead, hone, hdue⟩ => ?_,
    .of_zither askTokens (fun _ _ => rfl) (fun s h => h.1) fun s0 s ⟨_, hfollower, hwelcomed, hwanted, hasked⟩ => ?_,
    fun at_ => .of_zither giveBack (fun _ _ => rfl) (fun s h => h.1) fun s0 s ⟨_, hfollower, hwelcomed, hhigh, hlong, hheld, hfree⟩ => ?_⟩
  · obtain ⟨a, hacc⟩ := heard_tok z s z.src
    have hnow := heard_devtime z s
    have hheard := heard_frame z s
    have hfreed := heard_tokensFree z s
    generalize heard z s = u at hacc hnow hheard hfreed ⊢
    rw [grantTokens_of_free hcount (by omega) (by rw [hacc]; exact hpresent), hfreed]
    have htaken := modLedger_frame u fun l => { l with tokensFree := l.tokensFree - min count s.ledger.tokensFree }
    have htok : tok (u.modLedger fun l => { l with tokensFree := l.tokensFree - min count s.ledger.tokensFree }) z.src = { tok s z.src with heardAt := a } := hacc
    obtain ⟨hsends, haccount, hleft, hsent⟩ := sendTokens_sends 9 z.src z.src (min count s.ledger.tokensFree)
      (u.modLedger fun l => { l with tokensFree := l.tokensFree - min count s.ledger.tokensFree })
    have hframes := (hheard.append htaken).append hsends
    rw [htok] at haccount hsent
    rw [State.modLedger_ledger_self, hfreed] at hleft
    rw [State.modLedger_devtime, hnow] at haccount
    generalize sendTokens 9 z.src z.src (min count s.ledger.tokensFree) (u.modLedger fun l => { l with tokensFree := l.tokensFree - min count s.ledger.tokensFree }) = t
      at haccount hleft hsent hframes ⊢
    simp only [tok_outs, ledger_outs, haccount, hleft]
    exact ⟨Nat.sub_add_cancel (Nat.min_le_right _ _), rfl, trivial, mem_sent_outs hsent s0, hframes.only_outs s0 (by decide)⟩
  · obtain ⟨hfollower, hlead, hmember⟩ := leadFrame_roles hframe
    obtain ⟨a, hacc⟩ := heard_tok z s (ownPkg s)
    have hheard := heard_frame z s
    have hown := heard_ownPkg z s
    have hmember' : (heard z s).cfg.package.member = true := by rw [hheard.cfg (by decide)]; exact hmember
    have hnew' : applied (heard z s) (ownPkg (heard z s)) tseq = false := by rw [hown, heard_applied]; exact hnew
    generalize heard z s = u at hacc hheard hown hmember' hnew' ⊢
    have hgranted := modTok_frame (ownPkg u) (fun t => t.granting count tseq) u
    have hasked := modZ_frame (modTok (ownPkg u) (fun t => t.granting count tseq) u) fun z => { z with tokenAskedAt := none }
    have hsends := sendZ_frame 11 0 [(tseq : Nat), 0] ((modTok (ownPkg u) (fun t => t.granting count tseq) u).modZ fun z => { z with tokenAskedAt := none })
    have hframes := ((hheard.append hgranted).append hasked).append hsends
    have hledger : (takeGrant tseq count u).ledger = (modTok (ownPkg u) (fun t => t.granting count tseq) u).ledger := by
      rw [takeGrant_of_new hnew', hsends .ledger (by decide)]
      rfl
    have haccount : tok (takeGrant tseq count u) (ownPkg s) = ({ tok s (ownPkg s) with heardAt := a } : TokenSt).granting count tseq := by
      rw [tok_of_ledger hledger, ← hown, modTok_tok_self, hown, hacc]
    have hpool := modTok_pool (ownPkg u) (fun t => t.granting count tseq) u rfl
    rw [← hledger, hmember', hown, hacc] at hpool
    have hmem : (11, 0, [(tseq : Int), 0]) ∈ (takeGrant tseq count u).zither.sent := by
      rw [takeGrant_of_new hnew']
      exact mem_sendZ_sent_self _ _ _ _
    rw [← takeGrant_of_new hnew'] at hframes
    generalize takeGrant tseq count u = t at hframes haccount hpool hmem ⊢
    simp only [tok_outs, applied_outs, ledger_outs]
    refine ⟨by rw [haccount]; rfl, applied_of_cons (by rw [haccount]; rfl), ?_, mem_sent_outs hmem s0, hframes.only_outs s0 (by decide)⟩
    rw [hpool]
    exact congrArg (fun n => min 2000 (20 * n)) (Nat.add_assoc _ _ _).symm
  · obtain ⟨a, hacc⟩ := heard_tok z s (ownPkg s)
    have hframes := (heard_frame z s).append (sendZ_frame 11 0 [(tseq : Nat), 0] (heard z s))
    rw [takeGrant_of_applied (by rw [heard_ownPkg, heard_applied]; exact hold)]
    have haccount := (sendZ_frame 11 0 [(tseq : Nat), 0] (heard z s)).tok (by decide) (ownPkg s)
    simp only [tok_outs, haccount, hacc]
    exact ⟨trivial, mem_sent_outs (mem_sendZ_sent_self _ _ _ _) s0, hframes.only_outs s0 (by decide)⟩
  · obtain ⟨a, hacc⟩ := heard_tok z s z.src
    have hnew' : applied (heard z s) z.src tseq = false := by rw [heard_applied]; exact hnew
    have hfreed := heard_tokensFree z s
    have hheard := heard_frame z s
    generalize heard z s = u at hacc hnew' hfreed hheard ⊢
    have hreturned := (modTok_frame z.src (fun t => t.returning count tseq) u).append (modLedger_frame (modTok z.src (fun t => t.returning count tseq) u)
      fun l => { l with tokensFree := l.tokensFree + count })
    have hsends := sendZ_frame 11 z.src [(tseq : Nat), 1] ((modTok z.src (fun t => t.returning count tseq) u).modLedger
      fun l => { l with tokensFree := l.tokensFree + count })
    have hledger : (returnedTokens z.src tseq count u).ledger = { (modTok z.src (fun t => t.returning count tseq) u).ledger with
        tokensFree := (modTok z.src (fun t => t.returning count tseq) u).ledger.tokensFree + count } := by
      rw [returnedTokens_of_new hnew' (by rw [hacc]; exact hheld), hsends .ledger (by decide)]
      rfl
    have haccount : tok (returnedTokens z.src tseq count u) z.src = ({ tok s z.src with heardAt := a } : TokenSt).returning count tseq := by
      rw [tok, hledger]
      exact (modTok_tok_self z.src (fun t => t.returning count tseq) u).trans (by rw [hacc])
    have hleft : (returnedTokens z.src tseq count u).ledger.tokensFree = s.ledger.tokensFree + count := by
      rw [hledger, ← hfreed]
      exact congrArg (· + count) (modTok_tokensFree _ _ _)
    have hmem : (11, z.src, [(tseq : Int), 1]) ∈ (returnedTokens z.src tseq count u).zither.sent := by
      rw [returnedTokens_of_new hnew' (by rw [hacc]; exact hheld)]
      exact mem_sendZ_sent_self _ _ _ _
    have hframes := (hheard.append hreturned).append hsends
    rw [← returnedTokens_of_new hnew' (by rw [hacc]; exact hheld)] at hframes
    generalize returnedTokens z.src tseq count u = t at haccount hleft hmem hframes ⊢
    simp only [tok_outs, applied_outs, ledger_outs]
    exact ⟨hleft, by rw [haccount]; exact Nat.sub_add_cancel hheld, applied_of_cons (by rw [haccount]; rfl), mem_sent_outs hmem s0,
      hframes.only_outs s0 (by decide)⟩
  · obtain ⟨hfollower, hlead, -⟩ := leadFrame_roles hframe
    obtain ⟨a, hacc⟩ := heard_tok z s (ownPkg s)
    have hroles : (heard z s).follower = true ∧ (heard z s).lead = false := by
      rw [State.follower, State.lead, (heard_frame z s).cfg (by decide)]
      exact ⟨hfollower, hlead⟩
    have hframes := (heard_frame z s).append (modTok_frame (ownPkg s) (fun t => t.landed tseq) (heard z s))
    rw [if_neg (by simp [hlead]), fromLead_of_leadFrame hframe, takeAck_of_return hroles, heard_ownPkg]
    simp only [tok_outs, modTok_tok_self, hacc]
    exact ⟨not_mem_landed _ tseq, rfl, hframes.only_outs s0 (by decide)⟩
  · obtain ⟨hlead, -⟩ := followerFrame_roles hframe
    obtain ⟨a, hacc⟩ := heard_tok z s z.src
    have hlead' : (heard z s).lead = true := by rw [State.lead, (heard_frame z s).cfg (by decide)]; exact hlead
    have hframes := (heard_frame z s).append (modTok_frame z.src (fun t => t.accepted tseq) (heard z s))
    rw [if_pos hlead, fromFollower_of_followerFrame hframe, takeAck_of_grant hlead']
    simp only [tok_outs, modTok_tok_self, hacc]
    exact ⟨not_mem_landed _ tseq, rfl, hframes.only_outs s0 (by decide)⟩
  · have hsends := sendZ_frame 9 p [(q : Nat), (n : Nat)] s
    have hmarks := modTok_frame p (fun t => t.resent s.devtime) (sendZ 9 p [(q : Nat), (n : Nat)] s)
    have haccount : tok (modTok p (fun t => t.resent s.devtime) (sendZ 9 p [(q : Nat), (n : Nat)] s)) p = (tok s p).resent s.devtime := by
      rw [modTok_tok_self, hsends.tok (by decide)]
    rw [repeatTokens_of_one hlead hone hdue]
    refine ⟨mem_sent_settle ?_ s0, ?_, (hsends.append hmarks).only_settle_of s0 (by decide)⟩
    · rw [hmarks .zither (by decide)]
      exact mem_sendZ_sent_self _ _ _ _
    · rw [tok_of_ledger (settle_ledger s0 _), haccount]
      simp [TokenSt.resent, hone, hdue]
  · have hsent := sendZ_quiet 8 0 [(tokensWanted s : Nat)] (s.modZ fun z => { z with tokenAskedAt := some s.devtime, tokenShort := false })
    have hmem := mem_sendZ_sent_self 8 0 [(tokensWanted s : Nat)] (s.modZ fun z => { z with tokenAskedAt := some s.devtime, tokenShort := false })
    have hframes := (modZ_frame s fun z => { z with tokenAskedAt := some s.devtime, tokenShort := false }).append (sendZ_frame 8 0 [(tokensWanted s : Nat)] _)
    rw [askTokens_of_wanted ⟨hfollower, followerOf_zitherRuns hfollower⟩ hwelcomed hwanted hasked]
    exact ⟨congrArg ZitherSt.tokenAskedAt ((settle_quiet s0 _).trans hsent), mem_sent_settle hmem s0, hframes.only_settle_of s0 (by decide)⟩
  · have hsome : 0 < surplus s := by unfold surplus; omega
    have hcleared := modZ_frame s fun z => { z with highSince := none }
    have hless := modTok_frame (ownPkg s) (fun t => { t with granted := t.granted - surplus s }) (s.modZ fun z => { z with highSince := none })
    obtain ⟨hsends, haccount, -, hmem⟩ := sendTokens_sends 10 (ownPkg s) 0 (surplus s)
      (modTok (ownPkg s) (fun t => { t with granted := t.granted - surplus s }) (s.modZ fun z => { z with highSince := none }))
    have hframes := (hcleared.append hless).append hsends
    rw [giveBack_of_high hfollower hwelcomed hhigh hlong hsome]
    refine ⟨surplus s, _, hsome, ?_, mem_sent_settle hmem s0, hframes.only_settle_of s0 (by decide)⟩
    rw [tok_of_ledger (settle_ledger s0 _), haccount, modTok_tok_self]
    exact Nat.sub_add_cancel (Nat.min_le_left _ _)

end Sys2Proof.Machine
end

section
/-! Forwarded requests (R458). -/

namespace Sys2Proof.Machine

/-! ## Segments -/

/-- Frames that go out in turn. -/
def sendAll (type dst : Nat) (bodies : List (List Int)) (s : State) : State := bodies.foldl (fun s b => sendZ type dst b s) s

theorem sendSegments_eq (type dst rseq : Nat) (bs : List Byte) (s : State) : sendSegments type dst rseq bs s =
    sendAll type dst ((segments bs).zipIdx.map fun p => [(rseq : Int), (p.2 : Nat), ((segments bs).length : Nat)] ++ bytesOut p.1) s := by
  rw [sendSegments, sendAll, List.foldl_map]

theorem sendAll_frame (type dst : Nat) (bodies : List (List Int)) (s : State) : SameExcept [.can, .zither] s (sendAll type dst bodies s) :=
  .foldl _ (fun s b => sendZ_frame type dst b s) bodies s

theorem sendAll_zither (type dst : Nat) (bodies : List (List Int)) (s : State) : (sendAll type dst bodies s).zither.quiet = s.zither.quiet
    ∧ (sendAll type dst bodies s).zither.sent.length = s.zither.sent.length + bodies.length := by
  induction bodies generalizing s with
  | nil => exact ⟨rfl, rfl⟩
  | cons b bodies ih =>
    obtain ⟨hquiet, hlength⟩ := ih (sendZ type dst b s)
    refine ⟨hquiet.trans (sendZ_quiet type dst b s), hlength.trans ?_⟩
    rw [sendZ_zither, List.length_cons, List.length_cons]
    omega

section
variable (type dst rseq : Nat) (bs : List Byte) (s : State)

theorem sendSegments_frame : SameExcept [.can, .zither] s (sendSegments type dst rseq bs s) := by
  rw [sendSegments_eq]
  exact sendAll_frame type dst _ s

theorem sendSegments_quiet : (sendSegments type dst rseq bs s).zither.quiet = s.zither.quiet := by
  rw [sendSegments_eq]
  exact (sendAll_zither type dst _ s).1

/-- A message has one segment at least. -/
theorem sendSegments_length : s.zither.sent.length < (sendSegments type dst rseq bs s).zither.sent.length := by
  have hsome : 0 < (segments bs).length := by simp [segments]
  rw [sendSegments_eq, (sendAll_zither type dst _ s).2, List.length_map, List.length_zipIdx]
  omega

end

theorem sent_length_outs (s0 s : State) : s.zither.sent.length ≤ (settle s0 (followLoops s)).zither.sent.length := by
  obtain ⟨h, hz⟩ := settle_zither s0 (followLoops s)
  rw [hz]
  change _ ≤ (controlChange (followLoops s)).zither.sent.length
  obtain hsame | ⟨-, -, hsent, -⟩ := controlChange_zither (followLoops s)
  · rw [hsame, followLoops_zither]
  · rw [hsent, followLoops_zither, List.length_cons]
    exact Nat.le_succ _

theorem fwdReplies_outs (s0 s : State) : (settle s0 (followLoops s)).zither.fwdReplies = s.zither.fwdReplies :=
  eq_of_quiet (quiet_outs s0 s) ZitherSt.fwdReplies fun _ => rfl

theorem fwdParts_outs (s0 s : State) : (settle s0 (followLoops s)).zither.fwdParts = s.zither.fwdParts := eq_of_quiet (quiet_outs s0 s) ZitherSt.fwdParts fun _ => rfl

theorem fwd_outs (s0 s : State) : (settle s0 (followLoops s)).zither.fwd = s.zither.fwd := eq_of_quiet (quiet_outs s0 s) ZitherSt.fwd fun _ => rfl

theorem sendSegments_fwdReplies (type dst rseq : Nat) (bs : List Byte) (s : State) :
    (sendSegments type dst rseq bs s).zither.fwdReplies = s.zither.fwdReplies := eq_of_quiet (sendSegments_quiet type dst rseq bs s) ZitherSt.fwdReplies fun _ => rfl

/-! ## Gathering and serving -/

/-- The first of two segments waits for the other. -/
theorem gather_first {r : Nat} {d : List Byte} {s : State} (hnone : s.zither.fwdParts = []) :
    gather r 0 2 d s = (s.modZ fun z => { z with fwdParts := [(r, 0, d)] }, none) := by
  have hparts : ¬(((List.range 2).map fun k => (([(r, 0, d)] : List (Nat × Nat × List Byte)).find? fun p => p.1 == r && p.2.1 == k).map (·.2.2)).all
      Option.isSome && decide (0 < 2)) = true := by simp [List.range_succ]
  unfold gather
  simp only [hnone, List.filter_nil, List.nil_append]
  exact if_neg hparts

/-- The only segment is the message. -/
theorem gather_only {r : Nat} {d : List Byte} {s : State} (hnone : s.zither.fwdParts = []) :
    gather r 0 1 d s = (s.modZ fun z => { z with fwdParts := [] }, some d) := by
  unfold gather
  simp only [hnone, List.filter_nil, List.nil_append]
  simp [List.range_succ]

/-- R458, Table 13-9: an opcode that no follower carries out. -/
theorem runForwarded_unknown (s : State) : runForwarded [0xFF, 0xFF, 0, 0] s = (s, { result := resUnknown }) := by
  have hop : leNat (([0xFF, 0xFF, 0, 0] : List Byte).take 2) = 65535 := by decide
  unfold runForwarded
  rw [hop]
  rfl

theorem takeFwdReq_of_kept {r seg nseg : Nat} {d bs : List Byte} {s : State} (hkept : (s.zither.fwdReplies.find? fun p => p.1 == r) = some (r, bs)) :
    takeFwdReq r seg nseg d s = sendSegments 16 0 r bs s := by
  unfold takeFwdReq
  simp only [hkept]

theorem takeFwdReq_first {r : Nat} {d : List Byte} {s : State} (hreplies : s.zither.fwdReplies = []) (hparts : s.zither.fwdParts = []) :
    takeFwdReq r 0 2 d s = s.modZ fun z => { z with fwdParts := [(r, 0, d)] } := by
  unfold takeFwdReq
  simp only [hreplies, List.find?_nil]
  rw [gather_first hparts]

/-- R458: a reply is kept and goes out in segments. -/
def keepReply (r : Nat) (out : List Byte) (s : State) : State :=
  sendSegments 16 0 r out (s.modZ fun z => { z with fwdParts := [], fwdReplies := [(r, out)] })

theorem takeFwdReq_unknown {r : Nat} {s : State} (hreplies : s.zither.fwdReplies = []) (hparts : s.zither.fwdParts = []) :
    takeFwdReq r 0 1 [0xFF, 0xFF, 0, 0] s = keepReply r (({ result := resUnknown } : Reply).payload false) s := by
  have hkept : ∀ u : State, u.zither.fwdReplies = [] → u.zither.fwdParts = [] →
      ((u.modZ fun z => { z with fwdParts := [] }).modZ fun z => { z with fwdReplies := ((r, ({ result := resUnknown } : Reply).payload false) :: z.fwdReplies).take 16 })
        = u.modZ fun z => { z with fwdParts := [], fwdReplies := [(r, ({ result := resUnknown } : Reply).payload false)] } := by
    rintro ⟨⟩ hr hp
    simp only [State.modZ] at hr hp ⊢
    rw [hr]
    rfl
  unfold takeFwdReq
  simp only [hreplies, List.find?_nil]
  rw [gather_only hparts]
  simp only
  rw [serveForwarded, runForwarded_unknown, hkept s hreplies hparts]
  rfl

theorem keepReply_kept (r : Nat) (out : List Byte) (s : State) : SameExcept [.can, .zither] s (keepReply r out s)
    ∧ (keepReply r out s).zither.fwdReplies = [(r, out)] :=
  ⟨((modZ_frame s _).append (sendSegments_frame 16 0 r out _)).mono (by decide), (sendSegments_fwdReplies 16 0 r out _).trans rfl⟩

/-! ## The answer to the host -/

section
variable {r : Nat} {h : Hdr} {op : Nat} {x : Reply} {s : State}

/-- What answers the host's forwarded request. -/
def forwardAnswered (h : Hdr) (op : Nat) (x : Reply) (s : State) : State :=
  sendReply h op x true ((s.modCourse h.course fun c => { c with long := none }).modZ fun z => { z with fwd := z.fwd.filter fun y => y.2.1 != h })

theorem replyForwarded_of_long (hlong : (s.course h.course).long = some (h, op)) : replyForwarded h op x s = forwardAnswered h op x s := by
  unfold replyForwarded
  simp only [hlong, if_true]
  rfl

/-- R458: the host's request is answered on the course that carried it; no segment is awaited for it any more. -/
theorem forwardAnswered_ends (honly : ∀ y ∈ s.zither.fwd, y.2.1 = h) : SameExcept [.courses, .zither] s (forwardAnswered h op x s)
    ∧ Replied h op x (forwardAnswered h op x s) ∧ ((forwardAnswered h op x s).course h.course).long = none
    ∧ (forwardAnswered h op x s).zither.fwd = [] := by
  have hsent := sendReply_frame h op x true ((s.modCourse h.course fun c => { c with long := none }).modZ fun z => { z with fwd := z.fwd.filter fun y => y.2.1 != h })
  refine ⟨(((modCourse_frame s _ _).append (modZ_frame _ _)).append hsent).mono (by decide), replied_sendReply _ _ _ _ _, ?_, ?_⟩
  · rw [forwardAnswered, course_long_sendReply]
    exact congrArg Course.long (State.modCourse_course_self s h.course fun c => { c with long := none })
  · rw [forwardAnswered, hsent .zither (by decide)]
    exact List.filter_eq_nil_iff.2 fun y hy => by simp [honly y hy]

theorem fwdLate_of_due {r at_ : Nat} (hfwd : s.zither.fwd = [(r, h, op, at_)]) (hdue : at_ + 20000 ≤ s.devtime) :
    fwdLate r s = replyForwarded h op { result := resNotReady } s := by
  simp [fwdLate, hfwd, hdue]

theorem fwd_settle (s0 s : State) : (settle s0 s).zither.fwd = s.zither.fwd := eq_of_quiet (settle_quiet s0 s) ZitherSt.fwd fun _ => rfl

/-- R458: the lead's state once a whole FWD_RPL has come. -/
def replyCome (s : State) : State := s.modZ fun z => { z with fwdParts := [], fwd := [] }

theorem takeFwdRpl_ok {r at_ : Nat} {d : List Byte} (hparts : s.zither.fwdParts = []) (hfwd : s.zither.fwd = [(r, h, op, at_)])
    (hlong : (s.course h.course).long = some (h, op)) :
    takeFwdRpl r 0 1 ([0, 0, 0, 0] ++ d) s = forwardAnswered h op { data := d } (replyCome s) := by
  have hcome : (s.modZ fun z => { z with fwdParts := [] }).modZ (fun z => { z with fwd := z.fwd.filter fun y => y.1 != r }) = replyCome s := by
    simp [replyCome, State.modZ, hfwd]
  have hresult : leNat (([0, 0, 0, 0] ++ d).take 1) = 0 := rfl
  have hdetail : leNat ((([0, 0, 0, 0] ++ d).drop 2).take 2) = 0 := rfl
  have hfound : ((s.modZ fun z => { z with fwdParts := [] }).zither.fwd.find? fun y => y.1 == r) = some (r, h, op, at_) := by
    change s.zither.fwd.find? _ = _
    simp [hfwd]
  unfold takeFwdRpl
  rw [gather_only hparts]
  simp only
  unfold endForwarded
  rw [hfound]
  simp only [hcome, hresult, hdetail]
  rw [if_neg (by simp [replyCome])]
  exact replyForwarded_of_long hlong

end

/-! ## The statement -/

/-- Settles O53: a kept reply is sent again, a segment waits, an unknown opcode has its reply; the lead's answer goes to the course that asked. -/
theorem forwarding : Obligations.Forwarding := by
  unfold Obligations.Forwarding
  refine ⟨fun r seg nseg d bs => .of_lead (fun _ => takeFwdReq r seg nseg d) (fun _ _ => rfl) (fun z s h => h.1) fun z s0 s ⟨hframe, hkept, hbytes⟩ => ?_,
    fun r d => .of_lead (fun _ => takeFwdReq r 0 2 d) (fun _ _ => rfl) (fun z s h => h.1) fun z s0 s ⟨hframe, hreplies, hparts⟩ => ?_,
    fun r => .of_lead (fun _ => takeFwdReq r 0 1 [0xFF, 0xFF, 0, 0]) (fun _ _ => rfl) (fun z s h => h.1) fun z s0 s ⟨hframe, hreplies, hparts⟩ => ?_,
    fun r h op at_ d => .of_follower (fun _ => takeFwdRpl r 0 1 ([0, 0, 0, 0] ++ d)) (fun _ _ => rfl) (fun z s h => h.1)
      fun z s0 s ⟨hframe, hparts, hfwd, hcourse, hlong⟩ => ?_,
    fun r h op at_ => .of_zither (fwdLate r) (fun _ _ => rfl) (fun s h => h.1) fun s0 s ⟨_, hfwd, hdue, hcourse, hlong⟩ => ?_⟩
  · have hheard := heard_frame z s
    obtain ⟨l, hz⟩ := heard_zither z s
    have hsame : (heard z s).zither.fwdReplies = s.zither.fwdReplies ∧ (heard z s).zither.sent = s.zither.sent := by rw [hz]; exact ⟨rfl, rfl⟩
    obtain ⟨hreplies, hsent⟩ := hsame
    generalize heard z s = u at hheard hreplies hsent ⊢
    rw [takeFwdReq_of_kept (bs := bs) (by rw [hreplies]; exact hkept)]
    refine ⟨?_, ?_, (hheard.append (sendSegments_frame 16 0 r bs u)).only_outs s0 (by decide)⟩
    · rw [fwdReplies_outs, sendSegments_fwdReplies, hreplies]
    · rw [← hsent]
      exact Nat.lt_of_lt_of_le (sendSegments_length 16 0 r bs u) (sent_length_outs s0 _)
  · have hheard := heard_frame z s
    obtain ⟨l, hz⟩ := heard_zither z s
    have hsame : (heard z s).zither.fwdReplies = [] ∧ (heard z s).zither.fwdParts = [] := by rw [hz]; exact ⟨hreplies, hparts⟩
    obtain ⟨hreplies', hparts'⟩ := hsame
    generalize heard z s = u at hheard hreplies' hparts' ⊢
    rw [takeFwdReq_first hreplies' hparts']
    refine ⟨?_, ?_, (hheard.append (modZ_frame u _)).only_outs s0 (by decide)⟩
    · rw [fwdParts_outs, State.modZ_zither_self]
    · rw [fwdReplies_outs, State.modZ_zither_self]
      exact hreplies'
  · have hheard := heard_frame z s
    obtain ⟨l, hz⟩ := heard_zither z s
    have hsame : (heard z s).zither.fwdReplies = [] ∧ (heard z s).zither.fwdParts = [] := by rw [hz]; exact ⟨hreplies, hparts⟩
    obtain ⟨hreplies', hparts'⟩ := hsame
    generalize heard z s = u at hheard hreplies' hparts' ⊢
    obtain ⟨hkept, hreply⟩ := keepReply_kept r (({ result := resUnknown } : Reply).payload false) u
    rw [takeFwdReq_unknown hreplies' hparts']
    exact ⟨by rw [fwdReplies_outs, hreply], (hheard.append hkept).only_outs s0 (by decide)⟩
  · have hheard := heard_frame z s
    obtain ⟨l, hz⟩ := heard_zither z s
    have hsame : (heard z s).zither.fwdParts = [] ∧ (heard z s).zither.fwd = [(r, h, op, at_)] := by rw [hz]; exact ⟨hparts, hfwd⟩
    obtain ⟨hparts', hfwd'⟩ := hsame
    have hlong' : ((heard z s).course h.course).long = some (h, op) := by rw [State.course, hheard .courses (by decide)]; exact hlong
    generalize heard z s = u at hheard hparts' hfwd' hlong' ⊢
    obtain ⟨hframes, hreplied, hfree, hleft⟩ := forwardAnswered_ends (h := h) (op := op) (x := { data := d }) (s := replyCome u) (by simp [replyCome])
    rw [takeFwdRpl_ok hparts' hfwd' hlong']
    refine ⟨?_, ?_, ?_, ((hheard.append (modZ_frame u _)).append hframes).only_outs s0 (by decide)⟩
    · exact (hreplied.of_courses (followLoops_frame _ .courses (by decide))).of_courses (settle_courses _ _)
    · rw [fwd_outs, hleft]
    · rw [settle_course, State.course, followLoops_frame _ .courses (by decide)]
      exact hfree
  · obtain ⟨hframes, hreplied, hfree, hleft⟩ := forwardAnswered_ends (h := h) (op := op) (x := { result := resNotReady }) (s := s) (by simp [hfwd])
    rw [fwdLate_of_due hfwd hdue, replyForwarded_of_long hlong]
    refine ⟨hreplied.of_courses (settle_courses _ _), ?_, ?_, hframes.only_settle_of s0 (by decide)⟩
    · rw [fwd_settle, hleft]
    · rw [settle_course, hfree]

end Sys2Proof.Machine
end

section
/-! Outputs in their safe state or off (R318, R321, R394, R396): what driving outputs touches, and what it leaves alone. -/

namespace Sys2Proof.Machine

/-! ## Steps of driving outputs -/

/-- The banks that driving a unit or a switch channel may touch. -/
def coilBanks : List Bank := [.units, .clusters, .ledger, .switches, .vents, .recorder, .courses, .events, .dies, .faults, .can, .zither]

/-- What driving outputs leaves alone within the banks that it touches: of the dies all but latched events, of the intake every entry, of the
sources each one's being active, of Zither all but what is sent. -/
structure DriveStep (bs : List Bank) (s t : State) : Prop where
  frame : SameExcept bs s t
  dies : DiesNoted s t
  intake : ∀ e, e ∈ s.faults.intake → e ∈ t.faults.intake
  active : ActiveKept s t
  grows : EventsGrow s t
  quiet : t.zither.quiet = s.zither.quiet
  flags : t.zither.controlFlags = s.zither.controlFlags

section
variable {bs : List Bank}

theorem DriveStep.refl (s : State) : DriveStep bs s s := ⟨.refl _ s, .refl s, fun _ h => h, .refl s, .refl s, rfl, rfl⟩

theorem DriveStep.trans {s t u : State} (h : DriveStep bs s t) (k : DriveStep bs t u) : DriveStep bs s u :=
  ⟨h.frame.trans k.frame, h.dies.trans k.dies, fun e he => k.intake e (h.intake e he), h.active.trans k.active, h.grows.trans k.grows,
    k.quiet.trans h.quiet, k.flags.trans h.flags⟩

theorem DriveStep.ite {s t u : State} {p : Prop} [Decidable p] (h : DriveStep bs s t) (k : DriveStep bs s u) :
    DriveStep bs s (if p then t else u) := by
  split
  · exact h
  · exact k

theorem DriveStep.foldl {α : Type} {f : State → α → State} (h : ∀ s a, DriveStep bs s (f s a)) (l : List α) (s : State) :
    DriveStep bs s (l.foldl f s) := by
  induction l generalizing s with
  | nil => exact .refl s
  | cons a l ih => exact (h s a).trans (ih _)

/-- A step within banks of the outputs alone. -/
theorem DriveStep.of_frame {cs : List Bank} {s t : State} (h : SameExcept cs s t)
    (hb : (∀ b, b ∈ cs → b ∈ bs) ∧ .dies ∉ cs ∧ .faults ∉ cs ∧ .events ∉ cs ∧ .zither ∉ cs := by decide) : DriveStep bs s t := by
  obtain ⟨hbanks, hdies, hfaults, hevents, hzither⟩ := hb
  have hz : t.zither = s.zither := h .zither hzither
  exact ⟨h.mono hbanks, .of_frame h hdies, fun e he => (h .faults hfaults : t.faults = s.faults) ▸ he, .of_events (h .events hevents),
    .of_events (h .events hevents), by rw [hz], by rw [hz]⟩

theorem DriveStep.widen {cs : List Bank} {s t : State} (h : DriveStep bs s t) (hb : ∀ b, b ∈ bs → b ∈ cs) : DriveStep cs s t :=
  { h with frame := h.frame.mono hb }

end

section
variable (u : Nat) (s : State)

theorem modUnit_step (f : UnitSt → UnitSt) : DriveStep coilBanks s (s.modUnit u f) := .of_frame (modUnit_frame s u f)

theorem modCluster_step (f : ClusterSt → ClusterSt) : DriveStep coilBanks s (s.modCluster u f) := .of_frame (modCluster_frame s u f)

theorem edgeAt_activeKept (time n inst code sev : Nat) (late : Bool) (s : State) : ActiveKept s (edgeAt time n inst code sev late s) := by
  unfold edgeAt
  split
  · split
    · exact .of_events rfl
    · refine modSrc_activeKept ?_ _ _
      exact fun _ => rfl
  · exact assertSource_activeKept _ _ _ _ _

theorem fault_activeKept (n inst code sev ctx : Nat) (s : State) : ActiveKept s (fault n inst code sev ctx s) := by
  have hput : ∀ x (t : State), ActiveKept t (intakePut x t) := fun x t => .of_events (intakePut_frame x t .events (by decide))
  unfold fault
  simp only
  split
  · exact edgeAt_activeKept _ _ _ _ _ _ s
  · exact (edgeAt_activeKept _ _ _ _ _ _ s).trans (hput _ _)

theorem fault_step (n inst code sev ctx : Nat) : DriveStep coilBanks s (fault n inst code sev ctx s) := by
  have hz : (fault n inst code sev ctx s).zither = s.zither := fault_frame n inst code sev ctx s .zither (by decide)
  exact ⟨(fault_frame n inst code sev ctx s).mono (by decide), fault_noted n inst code sev ctx s, fun _ he => mem_intake_fault he _ _ _ _ _,
    fault_activeKept n inst code sev ctx s, fault_grows n inst code sev ctx s, by rw [hz], by rw [hz]⟩

theorem notify_activeKept (n op : Nat) (p : List Byte) (s : State) : ActiveKept s (notify n op p s) := by
  have hput : ActiveKept s (putMsg n op 0 p s) := .of_events (putMsg_frame n op 0 p s .events (by decide))
  have hset : ∀ f, ActiveKept s (s.modCourse n f) := fun f => .of_events rfl
  have hpending : ActiveKept s (addPending n op p s) := by
    unfold addPending
    simp only
    split
    · exact hset _
    · split
      · exact (hset _).trans (edgeAt_activeKept _ _ _ _ _ _ _)
      · exact hset _
  unfold notify
  split
  · exact .refl s
  · split
    · exact hput
    · exact hpending

theorem notify_step (n op : Nat) (p : List Byte) : DriveStep coilBanks s (notify n op p s) := by
  have hframe := notify_frame n op p s
  have hz : (notify n op p s).zither = s.zither := hframe .zither (by decide)
  exact ⟨hframe.mono (by decide), .of_frame hframe (by decide), fun e he => (hframe .faults (by decide) : (notify n op p s).faults = s.faults) ▸ he,
    notify_activeKept n op p s, notify_eventsGrow n op p s, by rw [hz], by rw [hz]⟩

theorem sendZ_step (type dst : Nat) (body : List Int) : DriveStep coilBanks s (sendZ type dst body s) := by
  have hframe := sendZ_frame type dst body s
  exact ⟨hframe.mono (by decide), .of_frame hframe (by decide), fun e he => (hframe .faults (by decide) : (sendZ type dst body s).faults = s.faults) ▸ he,
    .of_events (hframe .events (by decide)), .of_events (hframe .events (by decide)), sendZ_quiet type dst body s, by rw [sendZ_zither]⟩

/-! ## Strokes -/

theorem missDip_step : DriveStep coilBanks s (missDip u s) := by
  unfold missDip
  simp only
  have hclosed : ∀ f g, DriveStep coilBanks s ((s.modDrive u f).modLearn u g) := fun f g => (modUnit_step u s _).trans (modUnit_step u _ _)
  have hcounted : ∀ {t} f g, DriveStep coilBanks s t → DriveStep coilBanks s (excludeSample u ((t.modValve u f).modDrive u g)) :=
    fun f g ht => ((ht.trans (modUnit_step u _ _)).trans (modUnit_step u _ _)).trans (modUnit_step u _ _)
  have hended : ∀ {p : Prop} [Decidable p] f g, DriveStep coilBanks s (if p then strokeEndedThere u ((s.modDrive u f).modLearn u g)
      else (s.modDrive u f).modLearn u g) := fun f g => .ite ((hclosed f g).trans (modUnit_step u _ _)) (hclosed f g)
  refine .ite (hclosed _ _) (.ite (((hcounted _ _ (hended _ _)).trans (modUnit_step u _ _)).trans (fault_step _ _ _ _ _ _)) ?_)
  exact hcounted _ _ (hended _ _)

theorem startStroke_step (i : EdgeInfo) (restrike : Bool) : DriveStep coilBanks s (startStroke u i restrike s) := by
  unfold startStroke
  simp only
  have hclosed : DriveStep coilBanks s (if ((s.unit u).drive.openWinEnd.isSome && !(s.unit u).drive.dipSeen) = true then missDip u s else s) :=
    .ite (missDip_step u s) (.refl s)
  have hmarked : ∀ f g, DriveStep coilBanks s (((if ((s.unit u).drive.openWinEnd.isSome && !(s.unit u).drive.dipSeen) = true
      then missDip u s else s).modLearn u f).modDrive u g) := fun f g => (hclosed.trans (modUnit_step u _ _)).trans (modUnit_step u _ _)
  refine .ite ((hmarked _ _).trans (.of_frame (enterRise_frame u _))) ?_
  exact (((hmarked _ _).trans (.of_frame (drawBase_frame u true _))).trans (modCluster_step _ _ _)).trans (modUnit_step u _ _)

/-! ## Commands -/

theorem restrike_step (i : EdgeInfo) : DriveStep coilBanks s (restrike u i s) := (modUnit_step u s _).trans (startStroke_step u _ i true)

theorem applyOn_step (i : EdgeInfo) : DriveStep coilBanks s (applyOn u i s) := by
  unfold applyOn
  split
  · exact startStroke_step u s i false
  · exact .refl s
  · exact modUnit_step u s _
  · exact modUnit_step u s _
  · exact modUnit_step u s _
  · exact modUnit_step u s _
  · exact restrike_step u s i
  · exact modUnit_step u s _

theorem startCycle_step (duty : Nat) (i : EdgeInfo) : DriveStep coilBanks s (startCycle u duty i s) := by
  have hclamped : DriveStep coilBanks s (countClamped u s) := .ite (modUnit_step u s _) (.refl s)
  have hbegun : ∀ f, DriveStep coilBanks s ((countClamped u s).modDrive u f) := fun f => hclamped.trans (modUnit_step u _ _)
  have hoverdue : ∀ t, DriveStep coilBanks t (dipOverdue u t) := fun t => .ite (missDip_step u t) (.refl t)
  unfold startCycle
  simp only
  split
  · exact (((hbegun _).trans (hoverdue _)).trans (modUnit_step u _ _)).trans (startStroke_step u _ _ _)
  · exact ((hbegun _).trans (modUnit_step u _ _)).trans (restrike_step u _ _)
  · exact hbegun _

theorem pwmOn_step (i : EdgeInfo) : DriveStep coilBanks s (pwmOn u i s) := by
  unfold pwmOn
  simp only
  have hcycling := modUnit_step u s fun x => { x with drive := { x.drive with cycling := true } }
  refine .ite (modUnit_step u s _) (.ite ?_ (.ite hcycling ?_))
  · exact (hcycling.trans (.of_frame (regrid_frame _ _))).trans (modUnit_step u _ _)
  · exact (hcycling.trans (startCycle_step u _ _ i)).trans (.of_frame (regrid_frame _ _))

theorem setDuty_step (duty : Nat) : DriveStep coilBanks s (setDuty u duty s) :=
  .ite (modUnit_step u s _) ((modUnit_step u s _).trans (.of_frame (regrid_frame _ _)))

theorem acquireBase_step {base : Nat} {reserved : Bool} {t : State} (hok : acquireBase u base reserved s = .ok t) : DriveStep coilBanks s t :=
  .of_frame (acquireBase_frame hok)

theorem enableMode_step {t : State} (hok : enableMode u s = .ok t) : DriveStep coilBanks s t := by
  unfold enableMode at hok
  simp only at hok
  split at hok
  · exact absurd hok (by simp)
  · next s1 hacquired =>
    obtain rfl := Except.ok.inj hok
    have hgranted := acquireBase_step u s hacquired
    exact (DriveStep.ite ((hgranted.trans (modUnit_step u _ _)).trans (.of_frame (regrid_frame _ _))) (hgranted.trans (modUnit_step u _ _))).trans
      (.of_frame (updateRail_frame _ _))

/-! ## Going off -/

theorem reportFret_step (f : Fret) (outcome : Nat) : DriveStep coilBanks s (reportFret u f outcome s) := .ite (sendZ_step s _ _ _) (.refl s)

theorem cancelFrets_step (p : Fret → Bool) : DriveStep coilBanks s (cancelFrets u p s) := by
  unfold cancelFrets
  simp only
  have hreported : ∀ f (fs : List Fret), DriveStep coilBanks s (fs.foldl (fun s f => reportFret u f 3 s) (s.modUnit u f)) := fun f fs =>
    (modUnit_step u s f).trans (.foldl (fun s f => reportFret_step u s f 3) _ _)
  exact .ite (.refl s) (.ite ((hreported _ _).trans (.of_frame (releaseBase_frame u _))) (hreported _ _))

theorem forceOff_step : DriveStep coilBanks s (forceOff u s) := by
  have hleft : DriveStep coilBanks s (leaveQueue u (cancelFrets u (fun _ => true) s)) := (cancelFrets_step u s _).trans (.of_frame (leaveQueue_frame u _))
  have hreleased : ∀ {t}, DriveStep coilBanks s t → ∀ f, DriveStep coilBanks s (releaseBase u (t.modDrive u f)) := fun ht f =>
    (ht.trans (modUnit_step u _ _)).trans (.of_frame (releaseBase_frame u _))
  unfold forceOff
  simp only
  refine DriveStep.trans (.ite ((hreleased ?phase _).trans (.of_frame (regrid_frame _ _))) (hreleased ?phase _)) (.of_frame (updateRail_frame _ _))
  case phase =>
    split
    · exact hleft.trans (.of_frame (turnOff_frame u _))
    · exact hleft.trans (.of_frame (turnOff_frame u _))
    · exact hleft.trans (.of_frame (turnOff_frame u _))
    · exact hleft.trans (.of_frame (turnOff_frame u _))
    · exact (hleft.trans (modUnit_step u _ _)).trans (modUnit_step u _ _)
    · exact hleft.trans (modUnit_step u _ _)
    · exact hleft
    · exact hleft

theorem swLocked_step (n reason : Nat) (cleared : Bool) (need : Nat) (free : Int) (eta : Nat) : DriveStep coilBanks s (swLocked n reason cleared need free eta s) :=
  notify_step s _ _ _

theorem cutSw_step (n : Nat) (next : SwState) (cs : Clamps) : DriveStep coilBanks s (cutSw n next cs s) := by
  have hlocked : ∀ (t : State) code ctx cause, DriveStep coilBanks t (lockSw n cause (fault (160 + n) n code 3 ctx t)) := fun t code ctx cause =>
    ((fault_step t _ _ _ _ _).trans (.of_frame (modSw_frame _ n _))).trans (swLocked_step _ _ _ _ _ _ _)
  have hjudged : ∀ t, DriveStep coilBanks t (judgeClamp n cs t) := fun t => by
    unfold judgeClamp
    exact .ite (hlocked t _ _ _) (.ite (hlocked t _ _ _) (.refl t))
  exact (DriveStep.of_frame (cutOff_frame n cs s next)).trans (hjudged _)

theorem offSw_step (n : Nat) (cs : Clamps) : DriveStep coilBanks s (offSw n cs s) := by
  unfold offSw
  split
  · exact cutSw_step s n .off cs
  · exact cutSw_step s n .off cs
  · exact .of_frame (modSw_frame s n _)
  · exact .of_frame (modSw_frame s n _)
  · exact .refl s
  · exact .refl s
  · exact .refl s

theorem offLine_step (cs : Clamps) (l : Line) : DriveStep offBanks s (offLine cs s l) := by
  cases l with
  | unit u => exact (forceOff_step u s).widen (by decide)
  | switch n => exact (DriveStep.ite (.refl s) (offSw_step s n cs)).widen (by decide)
  | fo o => exact .of_frame (offFo_frame o s)
  | fi i => exact .refl s
  | ai a => exact .refl s

/-! ## Safe-state codes (R321, R396) -/

theorem safeOnUnit_step : DriveStep coilBanks s (safeOnUnit u s) := by
  unfold safeOnUnit
  refine .ite (.refl s) ?_
  split
  · simp only
    refine .ite ((setDuty_step u s _).trans (pwmOn_step u _ _)) ?_
    split
    · next hok => exact ((setDuty_step u s _).trans (enableMode_step u _ hok)).trans (pwmOn_step u _ _)
    · exact setDuty_step u s _
  · refine .ite (applyOn_step u s _) ?_
    split
    · next hok => exact (acquireBase_step u s hok).trans (applyOn_step u _ _)
    · exact .refl s
  · exact .refl s
  · exact .refl s

theorem ledgerRequest_step {reserved : Bool} {cs : List Charge} {t : State} (hok : ledgerRequest reserved cs s = .ok t) : DriveStep coilBanks s t := by
  unfold ledgerRequest at hok
  split at hok
  · exact absurd hok (by simp)
  · obtain rfl := Except.ok.inj hok
    exact .of_frame (debits_frame s reserved cs)

theorem chargeSw_step {n : Nat} {t : State} (hok : chargeSw n s = .ok t) : DriveStep coilBanks s t := by
  have hmapped : ∀ {cs : List Charge} {f : State → SwitchSt → SwitchSt}, ((ledgerRequest false cs s).map fun s => s.modSw n (f s)) = .ok t →
      DriveStep coilBanks s t := by
    intro cs f hreq
    cases hgrant : ledgerRequest false cs s with
    | error l => simp [hgrant, Except.map] at hreq
    | ok v =>
      rw [hgrant] at hreq
      obtain rfl := Except.ok.inj hreq
      exact (ledgerRequest_step s hgrant).trans (.of_frame (modSw_frame v n _))
  unfold chargeSw at hok
  split at hok
  · exact hmapped (f := fun _ _ => _) hok
  · exact hmapped hok

theorem safeOnSw_step (n : Nat) : DriveStep coilBanks s (safeOnSw n s) := by
  unfold safeOnSw
  refine .ite (.refl s) ?_
  split
  · next hok => exact (chargeSw_step s hok).trans (.of_frame (startSw_frame n _ false))
  · exact .refl s

theorem safeOnFo_step (o : Nat) : DriveStep offBanks s (safeOnFo o s) := by
  have hon : ∀ {t}, onFo o s = .ok t → DriveStep offBanks s t := by
    intro t hok
    unfold onFo acquireFo at hok
    split at hok
    · obtain rfl := Except.ok.inj hok
      exact .refl s
    · cases hgrant : ledgerRequest false (along (chainFo s o) 10) s with
      | error l => simp [hgrant, Except.map] at hok
      | ok v =>
        rw [hgrant] at hok
        obtain rfl := Except.ok.inj hok
        exact (((ledgerRequest_step s hgrant).widen (by decide)).trans (.of_frame (modFo_frame v o _))).trans (.of_frame (modFo_frame _ o _))
  unfold safeOnFo
  refine .ite (.refl s) ?_
  split
  · next hok => exact hon hok
  · exact .refl s

end

/-- R321: a unit takes its code. -/
theorem safeLine_unit_step (cs : Clamps) (s : State) (u : Nat) : DriveStep coilBanks s (safeLine cs s (.unit u)) := by
  have hcancelled := cancelFrets_step u s fun _ => true
  have hoff := hcancelled.trans (forceOff_step u _)
  unfold safeLine
  simp only
  cases safeCode s (.unit u) with
  | on => exact hcancelled.trans (safeOnUnit_step u _)
  | holdLast => exact hcancelled
  | off => exact hoff
  | reserved => exact hoff

/-- R321: a switch channel takes its code; one that limp home drives follows limp. -/
theorem safeLine_switch_step (cs : Clamps) (s : State) (n : Nat) : DriveStep coilBanks s (safeLine cs s (.switch n)) := by
  have hoff : DriveStep coilBanks s (offLine cs s (.switch n)) := .ite (.refl s) (offSw_step s n cs)
  unfold safeLine
  simp only
  cases safeCode s (.switch n) with
  | on => exact .ite (.refl s) (safeOnSw_step s n)
  | holdLast => exact .refl s
  | off => exact hoff
  | reserved => exact hoff

/-- R321: an output takes its code. -/
theorem safeLine_step (cs : Clamps) (s : State) (l : Line) : DriveStep offBanks s (safeLine cs s l) := by
  cases l with
  | unit u => exact (safeLine_unit_step cs s u).widen (by decide)
  | switch n => exact (safeLine_switch_step cs s n).widen (by decide)
  | fo o =>
    have hoff := offLine_step s cs (.fo o)
    unfold safeLine
    simp only
    cases safeCode s (.fo o) with
    | on => exact safeOnFo_step s o
    | holdLast => exact .refl s
    | off => exact hoff
    | reserved => exact hoff
  | fi i =>
    unfold safeLine
    simp only
    cases safeCode s (.fi i) <;> exact .refl s
  | ai a =>
    unfold safeLine
    simp only
    cases safeCode s (.ai a) <;> exact .refl s

theorem safeDie_step (d : Nat) (cs : Clamps) (s : State) : DriveStep offBanks s (safeDie d cs s) :=
  .ite (.foldl (safeLine_step cs) _ s) (.foldl (fun s l => offLine_step s cs l) _ s)

end Sys2Proof.Machine
end

section
/-! The SAFE policy (R396, Table 13-11): the outputs in their safe state and disabled, the loops off or held, the section units at rest. -/

namespace Sys2Proof.Machine

/-- What the SAFE policy sets of the host's registers. -/
def safeHost (s : State) : State := s.modHost fun h => { h with outputsEnabled := false, safeLeft := true }

theorem safeLoop_frame {s : State} (hdisabled : s.host.outputsEnabled = false) (l : Nat) : SameExcept [.loops, .rates] s (safeLoop l s) := by
  unfold safeLoop
  split
  · exact setMode_frame hdisabled l _
  · exact setMode_frame hdisabled l _

theorem safeLoops_frame (ps : List (Nat × LoopCfg)) {s : State} (hdisabled : s.host.outputsEnabled = false) :
    SameExcept [.loops, .rates] s (ps.foldl (fun s p => safeLoop p.1 s) s) := by
  induction ps generalizing s with
  | nil => exact .refl _ s
  | cons p ps ih =>
    have hsafe := safeLoop_frame hdisabled p.1
    exact hsafe.trans (ih ((hsafe.outputsEnabled (by decide)).trans hdisabled))

theorem restSections_step (s : State) : DriveStep offBanks s (restSections s) :=
  .foldl (fun s u => (modUnit_step u s _).widen (by decide)) _ s

/-- What the SAFE policy leaves of `s`. -/
structure SafeLeft (s t : State) : Prop where
  frame : SameExcept (.loops :: .rates :: offBanks) (safeHost s) t
  intake : ∀ e, e ∈ s.faults.intake → e ∈ t.faults.intake
  grows : EventsGrow s t
  quiet : t.zither.quiet = s.zither.quiet
  flags : t.zither.controlFlags = s.zither.controlFlags

theorem safePolicy_leaves (cs : Clamps) (s : State) : SafeLeft s (safePolicy cs s) := by
  have hlines : DriveStep offBanks (safeHost s) ((usedOutputs (safeHost s)).foldl (fun s l => if linkDown s l then s else safeLine cs s l) (safeHost s)) :=
    .foldl (fun s l => .ite (.refl s) (safeLine_step cs s l)) _ _
  change SafeLeft s (restSections (((usedOutputs (safeHost s)).foldl (fun s l => if linkDown s l then s else safeLine cs s l) (safeHost s)).cfg.loops.foldl
    (fun s p => safeLoop p.1 s) ((usedOutputs (safeHost s)).foldl (fun s l => if linkDown s l then s else safeLine cs s l) (safeHost s))))
  generalize (usedOutputs (safeHost s)).foldl (fun s l => if linkDown s l then s else safeLine cs s l) (safeHost s) = t at hlines ⊢
  have hloops := safeLoops_frame t.cfg.loops ((hlines.frame.outputsEnabled (by decide)).trans rfl)
  generalize t.cfg.loops.foldl (fun s p => safeLoop p.1 s) t = u at hloops ⊢
  have hrest := restSections_step u
  have hdisabled : EventsGrow s (safeHost s) := .of_events rfl
  have hfaults : u.faults = t.faults := hloops .faults (by decide)
  have hzither : u.zither = t.zither := hloops .zither (by decide)
  exact ⟨((hlines.frame.append hloops).append hrest.frame).mono (by decide),
    fun e he => hrest.intake e (hfaults ▸ hlines.intake e he),
    (hdisabled.trans hlines.grows).trans ((EventsGrow.of_events (hloops .events (by decide))).trans hrest.grows),
    by rw [hrest.quiet, hzither, hlines.quiet]; rfl, by rw [hrest.flags, hzither, hlines.flags]; rfl⟩

theorem SafeLeft.host {s t : State} (h : SafeLeft s t) : t.host.registers = (safeHost s).host.registers := h.frame .session (by decide)

/-- R396: outputs are disabled, and left in their safe state. -/
theorem SafeLeft.disabled {s t : State} (h : SafeLeft s t) : t.host.outputsEnabled = false ∧ t.host.safeLeft = true :=
  ⟨registers_outputsEnabled h.host, registers_safeLeft h.host⟩

theorem SafeLeft.only {s t : State} (h : SafeLeft s t) : SameExcept (.session :: .loops :: .rates :: offBanks) s t :=
  ((modHost_frame s rfl rfl).append h.frame).mono (by decide)

end Sys2Proof.Machine
end

section
/-! Membership of a Zither system: joining, CONTROL, and either side's silence (R54, R449, R450, R459). -/

namespace Sys2Proof.Machine

/-! ## The lead's answer (R449) -/

/-- The account that a change of a package's tokens leaves, whatever of Zither changes after it. -/
theorem modTok_modZ_tok (p : Nat) (f : TokenSt → TokenSt) (g : ZitherSt → ZitherSt) (s : State) : tok ((modTok p f s).modZ g) p = f (tok s p) :=
  modTok_tok_self p f s

/-- R449: a package that the lead takes as a member. -/
def TokenSt.joined (x : TokenSt) (now : Nat) : TokenSt :=
  { x with present := true, granted := 0, inTransit := [], tseqApplied := [], heardAt := now }

/-- What the lead holds of a package that joins, before it says so. -/
def joinedState (p : Nat) (s : State) : State :=
  (modTok p (fun t => t.joined s.devtime) (sendZ 13 p [(s.cfg.package.systemId : Nat), 0] s)).modZ fun z =>
    { z with odo := z.odo.filter (fun q => q.1 != p), seqTaken := tmod z.seqTaken [] p (·.take 1) }

theorem answerJoin_of_good {p : Nat} {s : State} (hescrow : (tok s p).escrow = 0) (hdeclared : declared s p = true) (habsent : (tok s p).present = false) :
    answerJoin p s.cfg.package.systemId s = edge 237 p 1 (joinedState p s) := by
  have hgood : (s.cfg.package.systemId == s.cfg.package.systemId && declared s p && !(tok s p).present) = true := by simp [hdeclared, habsent]
  have hnow : (sendZ 13 p [(s.cfg.package.systemId : Nat), 0] s).devtime = s.devtime := (sendZ_frame _ _ _ s).devtime (by decide)
  unfold answerJoin joinedState TokenSt.joined
  simp only [hescrow, hgood]
  rfl

theorem joinedState_frame (p : Nat) (s : State) : SameExcept [.ledger, .can, .zither] s (joinedState p s) :=
  (((sendZ_frame _ _ _ s).append (modTok_frame _ _ _)).append (modZ_frame _ _)).mono (by decide)

theorem joinedState_tok (p : Nat) (s : State) : (tok (joinedState p s) p).present = true ∧ (tok (joinedState p s) p).granted = 0 := by
  rw [joinedState, modTok_modZ_tok]
  exact ⟨rfl, rfl⟩

theorem joinedState_sent (p : Nat) (s : State) : (13, p, [(s.cfg.package.systemId : Int), 0]) ∈ (joinedState p s).zither.sent := by
  have hsent := mem_sendZ_sent_self 13 p [(s.cfg.package.systemId : Nat), 0] s
  have hzither := modTok_frame p (fun t => t.joined s.devtime) (sendZ 13 p [(s.cfg.package.systemId : Nat), 0] s) .zither (by decide)
  rw [← (hzither : _ = _)] at hsent
  exact hsent

/-! ## The follower's part (R449, R54) -/

/-- R449: the account of a follower that is welcomed. -/
def TokenSt.welcomed (x : TokenSt) : TokenSt := { x with granted := 0, inTransit := [], tseqApplied := [], present := true }

/-- R449: what a WELCOME with RESULT 0 makes of Zither. -/
def ZitherSt.welcome (x : ZitherSt) (z : ZHdr) (now : Nat) : ZitherSt :=
  { x with welcomed := true, joined := some z.epoch, stepOffset := true, followAt := some now, timeLost := false, controlFlags := 0,
           tokenAskedAt := none, seqTaken := tset x.seqTaken 0 [z.seq] }

/-- The state that a WELCOME with RESULT 0 leaves before it is reported. -/
def welcomedState (z : ZHdr) (s : State) : State :=
  modTok (ownPkg s) TokenSt.welcomed
    ((heard z (s.modHost fun h => { h with outputsEnabled := false })).modZ fun x => x.welcome z s.devtime)

theorem takeWelcome_of_ok (z : ZHdr) (s : State) : takeWelcome z 0 s = edge 237 (ownPkg s) 1 (welcomedState z s) := rfl

theorem welcomedState_frame (z : ZHdr) (s : State) : SameExcept [.session, .ledger, .zither] s (welcomedState z s) :=
  ((((modHost_frame s rfl rfl).append (heard_frame z _)).append (modZ_frame _ _)).append (modTok_frame _ _ _)).mono (by decide)

theorem welcomedState_zither (z : ZHdr) (s : State) : ∃ x : ZitherSt, (welcomedState z s).zither = x.welcome z s.devtime :=
  ⟨_, modTok_frame _ _ _ .zither (by decide)⟩

theorem welcomedState_granted (z : ZHdr) (s : State) : (tok (welcomedState z s) (ownPkg s)).granted = 0 :=
  congrArg TokenSt.granted (modTok_tok_self (ownPkg s) TokenSt.welcomed _)

theorem welcomedState_disabled (z : ZHdr) (s : State) : (welcomedState z s).host.outputsEnabled = false := by
  have hkept := (((heard_frame z (s.modHost fun h => { h with outputsEnabled := false })).append (modZ_frame _ fun x => x.welcome z s.devtime)).append
    (modTok_frame (ownPkg s) TokenSt.welcomed _)) .session (by decide)
  exact registers_outputsEnabled hkept

theorem leadSilent_host (cs : Clamps) (s : State) : (leadSilent cs s).host.outputsEnabled = false ∧ (leadSilent cs s).host.safeLeft = true :=
  (safePolicy_leaves cs s).disabled

theorem leadSilent_granted (cs : Clamps) (s : State) : (tok (leadSilent cs s) (ownPkg s)).granted = 0 := by
  rw [leadSilent, modTok_modZ_tok]

/-! ## The lead's silence watch (R54) -/

/-- R54: the account of a follower that has been silent for too long: what it held is in ESCROW. -/
def TokenSt.lost (x : TokenSt) (at_ : Nat) : TokenSt :=
  { x with present := false, granted := 0, inTransit := [], escrowAt := some at_,
           escrow := x.escrow + x.granted + x.inTransit.foldl (fun a x => a + x.2.1) 0 }

theorem loseFollower_of_silent {p : Nat} {s : State} (hlead : s.lead = true) (hp : p ≠ 0) (hpresent : (tok s p).present = true)
    (hsilent : (tok s p).heardAt + silenceUs s ≤ s.devtime) :
    loseFollower p s = edge 237 p 2 (modTok p (fun t => t.lost ((tok s p).heardAt + silenceUs s)) s) := by
  have hdue : ¬s.devtime < (tok s p).heardAt + silenceUs s := by omega
  unfold loseFollower
  simp only [hlead, hp, hpresent, hdue, Bool.not_true, decide_false, Bool.or_false, Bool.false_eq_true, if_false]
  rfl

theorem releaseEscrow_of_due {p : Nat} {s : State} (hlead : s.lead = true) (hready : s.start.ready = true) (hdue : escrowDue s p = true) :
    releaseEscrow p s = (modTok p (fun t => { t with escrow := 0, escrowAt := none }) s).modLedger fun l =>
      { l with tokensFree := l.tokensFree + (tok s p).escrow } := by
  unfold releaseEscrow
  rw [if_neg (by simp [hlead, hready, hdue])]

/-- Of a package's account, ESCROW does not see the count of FREE tokens. -/
theorem modTok_modLedger_escrow (p n : Nat) (f : TokenSt → TokenSt) (s : State) :
    (tok ((modTok p f s).modLedger fun l => { l with tokensFree := l.tokensFree + n }) p).escrow = (tok (modTok p f s) p).escrow := rfl

/-! ## CONTROL (R450) -/

theorem sendJoin_of_due {s : State} (hfollower : s.follower = true) (hwelcomed : s.zither.welcomed = false) (haway : s.zither.turnedAway = false)
    (hnever : s.zither.joinAt = none) : sendJoin s =
      sendZ 12 0 [(s.cfg.package.systemId : Nat), (s.cfg.container.imageId : Nat), (s.zither.boots : Nat)]
        (s.modZ fun z => { z with joinAt := some s.devtime }) := by
  unfold sendJoin
  simp only [hfollower, hwelcomed, haway, hnever, Bool.not_true, Bool.or_false, Bool.false_eq_true, if_false]

theorem takeControl_of_enable {cs : Clamps} {s : State} (hoff : s.host.outputsEnabled = false) :
    takeControl 1 cs s = enableOutputs (s.modZ fun z => { z with controlFlags := 1 }) := by
  have hsafe : bitAt 1 2 = false := by decide
  have henable : bitAt 1 0 = true := by decide
  unfold takeControl
  simp only [hsafe, henable, State.modZ_host, hoff, Bool.false_and, Bool.false_eq_true, if_false, Bool.not_false, Bool.and_true, if_true]

theorem takeControl_of_safe {cs : Clamps} {s : State} (hwas : bitAt s.zither.controlFlags 2 = false) :
    takeControl 4 cs s = safePolicy cs (s.modZ fun z => { z with controlFlags := 4 }) := by
  have hsafe : bitAt 4 2 = true := by decide
  unfold takeControl
  simp only [hsafe, hwas, Bool.not_false, Bool.and_true, if_true]

/-! ## Through the end of a step -/

theorem lead_of_frame {bs : List Bank} {s t : State} (h : SameExcept bs s t) (hb : .cfg ∉ bs) : t.lead = s.lead := by
  rw [State.lead, State.lead, h.cfg hb]

theorem asserted_outs {n : Nat} {s t : State} (h : Asserted n s t) (s0 : State) : Asserted n s (settle s0 (followLoops t)) :=
  (h.kept (followLoops_grows t).kept).settle s0

/-- An event that is reported last is asserted, whatever other banks changed before it. -/
theorem edge_asserted_after {n : Nat} (hown : dieOfSource n = none) (inst code : Nat) {bs : List Bank} {s t : State} (h : SameExcept bs s t)
    (hb : .events ∉ bs) : Asserted n s (edge n inst code t) := (edge_asserted hown inst code t).of_grown (.of_events (h .events hb))

theorem outputsEnabled_outs (s0 s : State) : (settle s0 (followLoops s)).host.outputsEnabled = s.host.outputsEnabled :=
  ((followLoops_frame s).append (settle_frame s0 _)).outputsEnabled (by decide)

theorem safeLeft_outs (s0 s : State) : (settle s0 (followLoops s)).host.safeLeft = s.host.safeLeft :=
  registers_safeLeft (((followLoops_frame s).append (settle_frame s0 _)) .session (by decide))

theorem controlFlags_outs {s : State} (hlead : s.lead = false) (s0 : State) :
    (settle s0 (followLoops s)).zither.controlFlags = s.zither.controlFlags := by
  rw [settle_controlFlags ((lead_of_frame (followLoops_frame s) (by decide)).trans hlead), followLoops_zither]

/-! ## The statement -/

/-- What the lead's answer to a good JOIN leaves. -/
theorem joined_outs {z : ZHdr} {s : State} (hdeclared : declared s z.src = true) (habsent : (tok s z.src).present = false)
    (hescrow : (tok s z.src).escrow = 0) (s0 : State) :
    (tok (settle s0 (followLoops (answerJoin z.src s.cfg.package.systemId (heard z s)))) z.src).present = true
    ∧ (tok (settle s0 (followLoops (answerJoin z.src s.cfg.package.systemId (heard z s)))) z.src).granted = 0
    ∧ (13, z.src, [(s.cfg.package.systemId : Int), 0])
        ∈ (settle s0 (followLoops (answerJoin z.src s.cfg.package.systemId (heard z s)))).zither.sent
    ∧ Asserted 237 s (settle s0 (followLoops (answerJoin z.src s.cfg.package.systemId (heard z s))))
    ∧ Only [.ledger, .loops] s (settle s0 (followLoops (answerJoin z.src s.cfg.package.systemId (heard z s)))) := by
  obtain ⟨a, hacc⟩ := heard_tok z s z.src
  have hheard := heard_frame z s
  generalize heard z s = u at hacc hheard ⊢
  have hcfg : u.cfg = s.cfg := hheard.cfg (by decide)
  have hanswer := answerJoin_of_good (p := z.src) (s := u) (by rw [hacc]; exact hescrow) (by rw [declared, hcfg]; exact hdeclared)
    (by rw [hacc]; exact habsent)
  obtain ⟨hpresent, hgranted⟩ := joinedState_tok z.src u
  have hsent := joinedState_sent z.src u
  have hjoined := hheard.append (joinedState_frame z.src u)
  rw [hcfg] at hanswer hsent
  rw [hanswer]
  generalize joinedState z.src u = t at hpresent hgranted hsent hjoined ⊢
  have hedge : SameExcept [.events] t (edge 237 z.src 1 t) := edge_frame_own rfl
  have hzither : (edge 237 z.src 1 t).zither = t.zither := hedge .zither (by decide)
  rw [tok_outs, hedge.tok (by decide)]
  exact ⟨hpresent, hgranted, mem_sent_outs (by rwa [hzither]) s0, asserted_outs (edge_asserted_after rfl _ _ hjoined (by decide)) s0,
    (hjoined.append hedge).only_outs s0 (by decide)⟩

/-- What a good WELCOME leaves. -/
theorem welcomed_outs (z : ZHdr) (s0 s : State) :
    (settle s0 (followLoops (takeWelcome z 0 s))).zither.welcomed = true
    ∧ (settle s0 (followLoops (takeWelcome z 0 s))).zither.joined = some z.epoch
    ∧ (settle s0 (followLoops (takeWelcome z 0 s))).zither.stepOffset = true
    ∧ (settle s0 (followLoops (takeWelcome z 0 s))).host.outputsEnabled = false
    ∧ (tok (settle s0 (followLoops (takeWelcome z 0 s))) (ownPkg s)).granted = 0
    ∧ Asserted 237 s (settle s0 (followLoops (takeWelcome z 0 s)))
    ∧ Only [.session, .ledger, .loops] s (settle s0 (followLoops (takeWelcome z 0 s))) := by
  rw [takeWelcome_of_ok]
  obtain ⟨x, hx⟩ := welcomedState_zither z s
  have hgranted := welcomedState_granted z s
  have hdisabled := welcomedState_disabled z s
  have hwelcomed := welcomedState_frame z s
  generalize welcomedState z s = t at hx hgranted hdisabled hwelcomed ⊢
  have hedge : SameExcept [.events] t (edge 237 (ownPkg s) 1 t) := edge_frame_own rfl
  have hquiet : (settle s0 (followLoops (edge 237 (ownPkg s) 1 t))).zither.quiet = (x.welcome z s.devtime).quiet := by
    rw [quiet_outs, (hedge .zither (by decide) : _ = t.zither), hx]
  rw [outputsEnabled_outs, hedge.outputsEnabled (by decide), tok_outs, hedge.tok (by decide)]
  exact ⟨eq_of_quiet hquiet (·.welcomed) fun _ => rfl, eq_of_quiet hquiet (·.joined) fun _ => rfl,
    eq_of_quiet hquiet (·.stepOffset) fun _ => rfl, hdisabled, hgranted, asserted_outs (edge_asserted_after rfl _ _ hwelcomed (by decide)) s0,
    (hwelcomed.append hedge).only_outs s0 (by decide)⟩

/-- R54: what the system's silence leaves at a follower. -/
theorem systemSilence_leaves (cl : Clamps) : Does (fun τ => .systemSilence τ cl)
    (fun s => zitherRuns s = true ∧ s.follower = true ∧ s.zither.welcomed = true ∧ (tok s (ownPkg s)).heardAt + silenceUs s ≤ s.devtime)
    (fun s t => t.zither.welcomed = false ∧ t.zither.joined = none ∧ (tok t (ownPkg s)).granted = 0 ∧ t.host.outputsEnabled = false
      ∧ t.host.safeLeft = true) := by
  refine .of_settle (fun s => followLoops (if zitherRuns s && s.follower && s.zither.welcomed
      && decide ((tok s (ownPkg s)).heardAt + silenceUs s ≤ s.devtime) then leadSilent cl s else s))
    (fun τ s _ => by unfold exec execSystemSilence atOut; exact at_next _ _ _) fun s0 s ⟨hruns, hfollower, hwelcomed, hsilent⟩ => ?_
  rw [if_pos (by simp [hruns, hfollower, hwelcomed, hsilent]), outputsEnabled_outs, safeLeft_outs, tok_outs]
  obtain ⟨hdisabled, hleft⟩ := leadSilent_host cl s
  have hquiet := quiet_outs s0 (leadSilent cl s)
  exact ⟨eq_of_quiet hquiet (·.welcomed) fun _ => rfl, eq_of_quiet hquiet (·.joined) fun _ => rfl, leadSilent_granted cl s, hdisabled, hleft⟩

/-- Settles O52: each row by the one state that it leaves, read through the loops that follow and the end of the step. -/
theorem membership : Obligations.Membership := by
  unfold Obligations.Membership
  refine ⟨fun sid cid boots => .of_row _ (fun _ _ => rfl) fun z s0 s ⟨hfresh, hlead, hdeclared, hsid, habsent, hescrow⟩ => ?_,
    .of_zither sendJoin (fun _ _ => rfl) (fun s h => h.1) fun s0 s ⟨_, hfollower, hwelcomed, haway, hnever⟩ => ?_,
    fun sid => .of_row _ (fun _ _ => rfl) fun z s0 s ⟨hfresh, hfollower, hsrc, hwelcomed, haway, hsid⟩ => ?_,
    fun sid => .of_row _ (fun _ _ => rfl) fun z s0 s ⟨hfresh, hfollower, hsrc, hwelcomed, haway⟩ => ?_,
    fun cl => .of_lead (fun _ => takeControl 1 cl) (fun _ _ => rfl) (fun z s h => h.1) fun z s0 s ⟨hframe, hoff⟩ => ?_,
    fun cl => .of_lead (fun _ => takeControl 4 cl) (fun _ _ => rfl) (fun z s h => h.1) fun z s0 s ⟨hframe, hwas⟩ => ?_,
    .of_zither (fun s => if controlDue s then sendControl s else s) (fun _ _ => rfl) (fun s h => h.1) fun s0 s ⟨_, hdue⟩ => ?_,
    fun cl => systemSilence_leaves cl,
    fun p hp => .of_zither (loseFollower p) (fun τ s => if_pos hp) (fun s h => h.1) fun s0 s ⟨_, hlead, hne, hpresent, hempty, hsilent⟩ => ?_,
    fun p hp => .of_zither (releaseEscrow p) (fun τ s => if_pos hp) (fun s h => h.1) fun s0 s ⟨_, hlead, hready, hdue⟩ => ?_⟩
  · rw [if_neg (by simp [hfresh, hlead]), if_pos hdeclared, hsid]
    exact joined_outs hdeclared habsent hescrow s0
  · rw [sendJoin_of_due hfollower hwelcomed haway hnever]
    have hsent := mem_sendZ_sent_self 12 0 [(s.cfg.package.systemId : Nat), (s.cfg.container.imageId : Nat), (s.zither.boots : Nat)]
      (s.modZ fun z => { z with joinAt := some s.devtime })
    have hquiet := (settle_quiet s0 _).trans (sendZ_quiet 12 0 [(s.cfg.package.systemId : Nat), (s.cfg.container.imageId : Nat), (s.zither.boots : Nat)]
      (s.modZ fun z => { z with joinAt := some s.devtime }))
    exact ⟨eq_of_quiet hquiet (·.joinAt) fun _ => rfl, mem_sent_settle hsent s0,
      ((modZ_frame s _).append (sendZ_frame _ _ _ _)).only_settle_of s0 (by decide)⟩
  · rw [if_neg (by simp [hfresh, hfollower, hsrc]), if_neg (by simp [hwelcomed]), if_neg (by simp [haway]), if_neg (by simp [hsid])]
    exact welcomed_outs z s0 s
  · rw [if_neg (by simp [hfresh, hfollower, hsrc]), if_neg (by simp [hwelcomed]), if_neg (by simp [haway]), if_neg (by simp)]
    have hraised := raised_fault 237 (ownPkg s) 0 3 0 (s.modZ fun x => { x with turnedAway := true })
    have hframe := (modZ_frame s fun x => { x with turnedAway := true }).append (fault_frame_own (n := 237) rfl (ownPkg s) 0 3 0 _)
    have hzither : (fault 237 (ownPkg s) 0 3 0 (s.modZ fun x => { x with turnedAway := true })).zither = { s.zither with turnedAway := true } :=
      fault_frame_own (n := 237) rfl (ownPkg s) 0 3 0 _ .zither (by decide)
    have hquiet := quiet_outs s0 (fault 237 (ownPkg s) 0 3 0 (s.modZ fun x => { x with turnedAway := true }))
    rw [hzither] at hquiet
    exact ⟨eq_of_quiet hquiet (·.turnedAway) fun _ => rfl, (eq_of_quiet hquiet (·.welcomed) fun _ => rfl).trans hwelcomed,
      raised_outs (hraised.of_before (modZ_frame s _) (by decide)) s0, hframe.only_outs s0 (by decide)⟩
  · obtain ⟨-, hlead, -⟩ := leadFrame_roles hframe
    have hheard := heard_frame z s
    generalize heard z s = u at hheard ⊢
    have hmarked := modZ_frame u fun z => { z with controlFlags := 1 }
    rw [takeControl_of_enable ((hheard.outputsEnabled (by decide)).trans hoff)]
    obtain ⟨henabled, -⟩ := enableOutputs_sets (u.modZ fun z => { z with controlFlags := 1 })
    have hframe := enableOutputs_frame (u.modZ fun z => { z with controlFlags := 1 })
    have hzither : (enableOutputs (u.modZ fun z => { z with controlFlags := 1 })).zither = { u.zither with controlFlags := 1 } :=
      hframe .zither (by decide)
    rw [outputsEnabled_outs, controlFlags_outs ((lead_of_frame ((hheard.append hmarked).append hframe) (by decide)).trans hlead), hzither]
    exact ⟨henabled, rfl⟩
  · obtain ⟨-, hlead, -⟩ := leadFrame_roles hframe
    obtain ⟨l, hz⟩ := heard_zither z s
    have hheard := heard_frame z s
    generalize heard z s = u at hheard hz ⊢
    have hmarked := modZ_frame u fun z => { z with controlFlags := 4 }
    rw [takeControl_of_safe (by rw [hz]; exact hwas)]
    have hsafe := safePolicy_leaves cl (u.modZ fun z => { z with controlFlags := 4 })
    obtain ⟨hdisabled, hleft⟩ := hsafe.disabled
    rw [outputsEnabled_outs, safeLeft_outs, controlFlags_outs ((lead_of_frame ((hheard.append hmarked).append hsafe.only) (by decide)).trans hlead),
      hsafe.flags]
    exact ⟨hdisabled, hleft, rfl⟩
  · rw [if_pos hdue]
    have hsent := mem_sendZ_sent_self 14 4 [((controlNow s : Nat) : Int)] (s.modZ fun z => { z with controlAt := some s.devtime, controlFlags := controlNow s })
    have hframe := (modZ_frame s fun z => { z with controlAt := some s.devtime, controlFlags := controlNow s }).append
      (sendZ_frame 14 4 [((controlNow s : Nat) : Int)] _)
    have hat : (sendControl s).zither.controlAt = some s.devtime := by rw [sendControl, sendZ_zither]; rfl
    exact ⟨settle_controlAt (hframe.devtime (by decide)) hat s0, mem_sent_settle hsent s0, hframe.only_settle_of s0 (by decide)⟩
  · rw [loseFollower_of_silent hlead hne hpresent hsilent]
    have hlost := modTok_frame p (fun t => t.lost ((tok s p).heardAt + silenceUs s)) s
    have hedge : SameExcept [.events] (modTok p (fun t => t.lost ((tok s p).heardAt + silenceUs s)) s) _ := edge_frame_own (n := 237) (inst := p) (code := 2) rfl
    have hledger := (settle_ledger s0 (edge 237 p 2 (modTok p (fun t => t.lost ((tok s p).heardAt + silenceUs s)) s))).trans (hedge .ledger (by decide))
    rw [tok_of_ledger hledger, modTok_tok_self, hledger]
    refine ⟨rfl, rfl, ?_, rfl, (edge_asserted_after rfl _ _ hlost (by decide)).settle s0, (hlost.append hedge).only_settle_of s0 (by decide)⟩
    simp only [TokenSt.lost, hempty, List.foldl_nil, Nat.add_zero]
  · rw [releaseEscrow_of_due hlead hready hdue]
    have hfreed := (modTok_frame p (fun t => { t with escrow := 0, escrowAt := none }) s).append
      (modLedger_frame _ fun l => { l with tokensFree := l.tokensFree + (tok s p).escrow })
    rw [tok_of_ledger (settle_ledger s0 _), settle_ledger]
    exact ⟨by rw [modTok_modLedger_escrow, modTok_tok_self], rfl, hfreed.only_settle_of s0 (by decide)⟩

end Sys2Proof.Machine
end

section
/-! Host silence (R396 to R399). -/

namespace Sys2Proof.Machine

theorem registers_outs (s0 s : State) : (settle s0 (followLoops s)).host.registers = s.host.registers :=
  ((followLoops_frame s).append (settle_frame s0 _)) .session (by decide)

/-- R396: the host is marked as silent. -/
def silenced (s : State) : State := s.modHost fun h => { h with silent := true }

theorem silenced_beatAt (s : State) : (silenced s).host.beatAt = s.host.beatAt := rfl

theorem silenced_beatSeen (s : State) : (silenced s).host.beatSeen = s.host.beatSeen := rfl

theorem silenced_outputsEnabled (s : State) : (silenced s).host.outputsEnabled = s.host.outputsEnabled := rfl

/-- R396: the host is silent, which is reported, and the gateway's locks are gone (R439). -/
def heardNone (s : State) : State := clearLocks (fault 20 0 0 2 0 (silenced s))

theorem clearLocks_frame (s : State) : SameExcept [.can] s (clearLocks s) :=
  .foldl _ (fun s n => .foldl _ (fun s b => .ite (setLock_frame n b false s) (.refl _ s)) _ s) _ s

theorem heardNone_frame (s : State) :
    SameExcept [.events, .faults, .can] (silenced s) (heardNone s) :=
  ((fault_frame_own rfl 0 0 2 0 _).append (clearLocks_frame _)).mono (by decide)

/-- R396: the registers of a host that has fallen silent. -/
theorem heardNone_registers (s : State) : (heardNone s).host.registers = (silenced s).host.registers :=
  heardNone_frame s .session (by decide)

theorem heardNone_only (s : State) : SameExcept [.session, .events, .faults, .can] s (heardNone s) :=
  ((modHost_frame s rfl rfl).append (heardNone_frame s)).mono (by decide)

theorem heardNone_raised (s : State) : Raised 20 0 0 2 s (heardNone s) := by
  have hraised : Raised 20 0 0 2 s (fault 20 0 0 2 0 (silenced s)) := raised_fault 20 0 0 2 0 (silenced s)
  exact hraised.unchanged (clearLocks_frame _) (by decide)

theorem safeHost_silent (s : State) : (safeHost s).host.silent = s.host.silent := rfl

theorem safeHost_beatAt (s : State) : (safeHost s).host.beatAt = s.host.beatAt := rfl

theorem fallSilent_of_due {cs : Clamps} {s : State} (hdue : silenceDue s = true) :
    fallSilent cs s = if s.cfg.host.autonomous then autonomousPolicy (heardNone s) else safePolicy cs (heardNone s) := by
  have hcfg : (heardNone s).cfg = s.cfg := (heardNone_only s).cfg (by decide)
  unfold fallSilent
  unfold heardNone silenced at hcfg ⊢
  simp only [hdue, Bool.not_true, Bool.false_eq_true, if_false, hcfg]

/-! ## The AUTONOMOUS policy (Table 13-11, R398) -/

theorem autonomousPolicy_of_seen {s : State} (hseen : s.host.beatSeen = true) :
    autonomousPolicy s = s.modHost fun h => { h with masterAuto := true } := by
  unfold autonomousPolicy
  exact if_pos (by simp [hseen])

/-- The registers under which the device itself enables outputs (R398). -/
def selfEnabled (s : State) : State := s.modHost fun h => { h with masterAuto := true, outputsEnabled := true, safeLeft := false }

theorem autonomousPolicy_of_unseen {s : State} (hseen : s.host.beatSeen = false) (hactive : s.start.configActive = true) :
    autonomousPolicy s = openAuto (startEmulation (selfEnabled s)) := by
  unfold autonomousPolicy
  exact if_neg (by simp [hseen, hactive])

theorem openAuto_frame (s : State) : SameExcept [.cov] s (openAuto s) := by
  unfold openAuto
  split
  · exact .ite (.refl _ s) (beginField_frame _ _ _ _ _ _ s)
  · exact .refl _ s

theorem selfEnabled_frame (s : State) : SameExcept [.cov, .odo, .outputs, .ledger] (selfEnabled s) (openAuto (startEmulation (selfEnabled s))) :=
  ((startEmulation_only (selfEnabled s)).1.append (openAuto_frame _)).mono (by decide)

/-! ## Enabling a held die (R399) -/

theorem enableDie_of_enableable {d : Nat} {s : State} (h : enableable s d = true) :
    enableDie d s = s.modDie d fun x => { x with heldSafe := false, allOff := false, backAt := none } := if_pos h

theorem reenableDue_of_severe {s : State} (h : s.faults.opened.any (fun f => f.severity == 4) = true) (d : Nat) : reenableDue s d = false := by
  simp [reenableDue, h]

theorem die_outs (s0 s : State) (d : Nat) : (settle s0 (followLoops s)).die d = s.die d :=
  ((followLoops_frame s).append (settle_frame s0 _)).die (by decide) d

/-- Settles O21: what falls silent is reported before the policy acts, and neither policy takes an entry of the intake back. -/
theorem hostSilence : Obligations.HostSilence := by
  unfold Obligations.HostSilence
  refine ⟨fun cs => .of_settle (fun s => followLoops (fallSilent cs s)) (fun τ s _ => by unfold exec execHostSilent atOut; exact at_next _ _ _)
      fun s0 s ⟨hdue, hsafe⟩ => ?_,
    fun cs => .of_settle (fun s => followLoops (fallSilent cs s)) (fun τ s _ => by unfold exec execHostSilent atOut; exact at_next _ _ _)
      fun s0 s ⟨hdue, hauto, hseen⟩ => ?_,
    fun cs => .of_settle (fun s => followLoops (fallSilent cs s)) (fun τ s _ => by unfold exec execHostSilent atOut; exact at_next _ _ _)
      fun s0 s ⟨hdue, hauto, hseen, hactive⟩ => ?_,
    fun d hlo hhi => .of_settle (fun s => followLoops (if reenableDue s d then enableDie d s else s)) (fun τ s _ => ?_) fun s0 s ⟨hdue, henable⟩ => ?_,
    fun d hlo hhi => .of_settle (fun s => followLoops (if reenableDue s d then enableDie d s else s)) (fun τ s _ => ?_) fun s0 s hsevere => ?_⟩
  · rw [fallSilent_of_due hdue, hsafe, if_neg (by simp)]
    have honly := heardNone_only s
    have hregisters := heardNone_registers s
    have hraised := heardNone_raised s
    generalize heardNone s = u at honly hregisters hraised ⊢
    have hleft := safePolicy_leaves cs u
    have hend := (registers_outs s0 (safePolicy cs u)).trans hleft.host
    exact ⟨(registers_silent hend).trans ((safeHost_silent u).trans (registers_silent hregisters)), registers_outputsEnabled hend,
      registers_safeLeft hend, (registers_beatAt hend).trans ((safeHost_beatAt u).trans ((registers_beatAt hregisters).trans (silenced_beatAt s))), raised_outs (hraised.mono hleft.intake) s0,
      (honly.append hleft.only).only_outs s0 (by decide)⟩
  · rw [fallSilent_of_due hdue, hauto, if_pos rfl]
    have honly := heardNone_only s
    have hregisters := heardNone_registers s
    have hraised := heardNone_raised s
    generalize heardNone s = u at honly hregisters hraised ⊢
    rw [autonomousPolicy_of_seen ((registers_beatSeen hregisters).trans ((silenced_beatSeen s).trans hseen))]
    have hauto := modHost_frame u (f := fun h => { h with masterAuto := true }) rfl rfl
    have hend := registers_outs s0 (u.modHost fun h => { h with masterAuto := true })
    exact ⟨(registers_silent hend).trans (registers_silent hregisters), registers_masterAuto hend,
      (registers_outputsEnabled hend).trans ((registers_outputsEnabled hregisters).trans (silenced_outputsEnabled s)), raised_outs (hraised.unchanged hauto (by decide)) s0,
      (honly.append hauto).only_outs s0 (by decide)⟩
  · rw [fallSilent_of_due hdue, hauto, if_pos rfl]
    have honly := heardNone_only s
    have hregisters := heardNone_registers s
    have hraised := heardNone_raised s
    generalize heardNone s = u at honly hregisters hraised ⊢
    have hstart : u.start = s.start := honly .start (by decide)
    rw [autonomousPolicy_of_unseen ((registers_beatSeen hregisters).trans ((silenced_beatSeen s).trans hseen)) (hstart ▸ hactive)]
    have hset : SameExcept [.session] u (selfEnabled u) := modHost_frame u rfl rfl
    have hpolicy := selfEnabled_frame u
    have hend := (registers_outs s0 _).trans (hpolicy .session (by decide))
    have hkept := (((honly.append hset).append hpolicy).append (followLoops_frame _)).append (settle_frame s0 _)
    exact ⟨(registers_silent hend).trans (registers_silent hregisters), registers_masterAuto hend, registers_outputsEnabled hend, registers_safeLeft hend,
      raised_outs (hraised.unchanged (hset.append hpolicy) (by decide)) s0, hkept.power (by decide), hkept.cfg (by decide)⟩
  · unfold exec execAutonomousReenable atOut
    exact (if_pos (by simp [hlo, hhi])).trans (at_next _ _ _)
  · rw [if_pos hdue, enableDie_of_enableable henable]
    have hdie := modDie_frame s d fun x => { x with heldSafe := false, allOff := false, backAt := none }
    refine ⟨?_, ?_, fun k hk => ?_, hdie.only_outs s0 (by decide)⟩
    · rw [die_outs, State.modDie_die_self]
    · rw [die_outs, State.modDie_die_self]
    · rw [die_outs, State.modDie_die_of_ne _ _ _ hk]
  · unfold exec execAutonomousReenable atOut
    exact (if_pos (by simp [hlo, hhi])).trans (at_next _ _ _)
  · rw [reenableDue_of_severe hsevere, if_neg (by simp)]
    exact ⟨by rw [die_outs], (SameExcept.refl [] s).only_outs s0 (by decide)⟩

end Sys2Proof.Machine
end

section
/-! Silence of a bridge link (R19, R322 to R324, R523). -/

namespace Sys2Proof.Machine

/-- A row about a power die. -/
theorem Does.of_die {c : Nat → Instr} {pre : State → Prop} {post : State → State → Prop} {d : Nat} (hd : 2 ≤ d ∧ d < 5) (f : State → State)
    (hexec : ∀ τ s, exec (c τ) s = aboutDie d τ f s) (hpost : ∀ s0 s, pre s → post s (settle s0 (followLoops (f s)))) : Does c pre post :=
  .of_settle (fun s => followLoops (f s))
    (fun τ s _ => (hexec τ s).trans ((if_pos (by simp [hd])).trans (by unfold atOut; exact at_next _ _ _))) hpost

/-! ## A die that acts alone -/

/-- R322, R523: acting alone begins once, and touches nothing else of a die. -/
theorem soloBegin_die (d : Nat) (s : State) : ∃ x, (soloBegin d s).die d = { s.die d with solo := x } ∧ x.isSome = true := by
  have hsome := soloBegin_solo d s
  refine ⟨((soloBegin d s).die d).solo, ?_, hsome⟩
  unfold soloBegin
  split
  · rfl
  · rw [State.modDie_die_self]

/-- R322: a die whose link has just fallen silent. -/
def DieSt.silenced (x : DieSt) (now : Nat) : DieSt := { x with silent := true, silentAt := now, heldSafe := true, backAt := none }

/-- What a die's falling silent leaves (R322): its own account and the safe state of its outputs, in the banks that driving outputs touches. -/
structure WentSilent (d : Nat) (s t : State) : Prop where
  frame : SameExcept offBanks s t
  grows : EventsGrow s t
  silent : (t.die d).silent = true
  held : (t.die d).heldSafe = true
  since : (t.die d).silentAt = s.devtime
  solo : (t.die d).solo.isSome
  allOff : (s.die d).tableOk = false → (t.die d).allOff = true

/-- A die that has fallen silent and whose outputs have taken their codes. -/
theorem silencedDie_safe (d : Nat) (cs : Clamps) (s : State) :
    ∃ l e x, (safeDie d cs (soloBegin d (s.modDie d fun x => x.silenced s.devtime))).die d
        = { (s.die d).silenced s.devtime with solo := x, latched := l, excess := e } ∧ x.isSome = true
      ∧ SameExcept offBanks s (safeDie d cs (soloBegin d (s.modDie d fun x => x.silenced s.devtime)))
      ∧ EventsGrow s (safeDie d cs (soloBegin d (s.modDie d fun x => x.silenced s.devtime))) := by
  have hmarked := modDie_frame s d fun x => x.silenced s.devtime
  have hdie : (s.modDie d fun x => x.silenced s.devtime).die d = (s.die d).silenced s.devtime := State.modDie_die_self _ _ _
  generalize s.modDie d (fun x => x.silenced s.devtime) = u at hmarked hdie ⊢
  obtain ⟨x, hsolo, hsome⟩ := soloBegin_die d u
  have hbegun := hmarked.append (soloBegin_frame d u)
  generalize soloBegin d u = v at hsolo hbegun ⊢
  have hsafe := safeDie_step d cs v
  obtain ⟨l, e, hnoted⟩ := hsafe.dies d
  exact ⟨l, e, x, by rw [hnoted, hsolo, hdie], hsome, (hbegun.append hsafe.frame).mono (by decide),
    (EventsGrow.of_events (hbegun .events (by decide))).trans hsafe.grows⟩

theorem goSilent_went (d : Nat) (cs : Clamps) (s : State) : WentSilent d s (goSilent d cs s) := by
  obtain ⟨l, e, x, hdie, hsome, hframe, hgrows⟩ := silencedDie_safe d cs s
  change WentSilent d s (if (s.die d).tableOk then safeDie d cs (soloBegin d (s.modDie d fun x => x.silenced s.devtime))
    else (safeDie d cs (soloBegin d (s.modDie d fun x => x.silenced s.devtime))).modDie d fun x => { x with allOff := true })
  generalize safeDie d cs (soloBegin d (s.modDie d fun x => x.silenced s.devtime)) = t at hdie hframe hgrows ⊢
  split
  · next hok => exact ⟨hframe, hgrows, by rw [hdie]; rfl, by rw [hdie]; rfl, by rw [hdie]; rfl, by rw [hdie]; exact hsome, fun hbad => by simp [hok] at hbad⟩
  · have hoff : (t.modDie d fun x => { x with allOff := true }).die d = { t.die d with allOff := true } := State.modDie_die_self _ _ _
    refine ⟨(hframe.append (modDie_frame t d _)).mono (by decide), hgrows.trans (.of_events rfl), ?_, ?_, ?_, ?_, fun _ => ?_⟩
    · rw [hoff, hdie]; rfl
    · rw [hoff, hdie]; rfl
    · rw [hoff, hdie]; rfl
    · rw [hoff, hdie]; exact hsome
    · rw [hoff]

/-- The banks that a die's falling silent touches, the loops and the end of the step included. -/
theorem WentSilent.only {d : Nat} {s t : State} (h : WentSilent d s t) (s0 : State) :
    Only [.courses, .units, .clusters, .ledger, .switches, .vents, .outputs, .loops, .recorder, .dies] s (settle s0 (followLoops t)) :=
  h.frame.only_outs s0 (by decide)

theorem dieOff_step (d : Nat) (cs : Clamps) (s : State) : ∃ t, DriveStep offBanks s t ∧ dieOff d cs s = t.modDie d fun x => { x with allOff := true } :=
  ⟨_, .foldl (fun s l => offLine_step s cs l) _ s, rfl⟩

/-! ## A link that is back (R523) -/

/-- R523: a die whose link has just come back. -/
def DieSt.restored (x : DieSt) (now : Nat) : DieSt :=
  { x with silent := false, allOff := false, linked := true, lastFrameAt := now, backAt := some now }

/-- R479, R523: what the link's return leaves of the die, besides what it delivers. -/
theorem linkBack_of_silent {d : Nat} {s : State} (hsilent : (s.die d).silent = true) (hbeats : heartbeats s d = true) (hlimp : d = 4 → s.limp = none) :
    SameExcept [.ledger, .dies, .events, .faults] s (linkBack d s)
    ∧ ∃ l e, (linkBack d s).die d = { (s.die d).restored s.devtime with solo := none, latched := l, excess := e } := by
  have hmarked := modDie_frame s d fun x => x.restored s.devtime
  have hdie : (s.modDie d fun x => x.restored s.devtime).die d = (s.die d).restored s.devtime := State.modDie_die_self _ _ _
  have hback : linkBack d s = (if (if d = 4 && (soloEnd d (s.modDie d fun x => x.restored s.devtime)).limp.isSome
      then soloBegin 4 (soloEnd d (s.modDie d fun x => x.restored s.devtime)) else soloEnd d (s.modDie d fun x => x.restored s.devtime)).events.stopped
      then (if d = 4 && (soloEnd d (s.modDie d fun x => x.restored s.devtime)).limp.isSome
        then soloBegin 4 (soloEnd d (s.modDie d fun x => x.restored s.devtime)) else soloEnd d (s.modDie d fun x => x.restored s.devtime))
      else deliverLatched d (if d = 4 && (soloEnd d (s.modDie d fun x => x.restored s.devtime)).limp.isSome
        then soloBegin 4 (soloEnd d (s.modDie d fun x => x.restored s.devtime)) else soloEnd d (s.modDie d fun x => x.restored s.devtime))) :=
    if_neg (by simp [hsilent, hbeats])
  rw [hback]
  generalize s.modDie d (fun x => x.restored s.devtime) = u at hmarked hdie ⊢
  obtain ⟨hsolo, -⟩ := soloEnd_die d u
  have hended := hmarked.append (soloEnd_frame d u)
  have hlimp : (d = 4 && (soloEnd d u).limp.isSome) = false := by
    have hkept : (soloEnd d u).limp = s.limp := hended .limp (by decide)
    by_cases hd : d = 4
    · simp [hkept, hlimp hd]
    · simp [hd]
  simp only [hlimp, Bool.false_eq_true, if_false]
  generalize soloEnd d u = v at hsolo hended ⊢
  rw [hdie] at hsolo
  split
  · exact ⟨hended.mono (by decide), _, _, hsolo⟩
  · have hdelivered := deliverLatched_frame d v
    refine ⟨((hended.append (modDie_frame v d _)).append hdelivered).mono (by decide), [], [], ?_⟩
    rw [hdelivered.die (by decide), State.modDie_die_self, hsolo]

/-! ## The statement -/

theorem retrainFail_of_late {d : Nat} {s : State} (hlate : retrainLate s d = true) :
    retrainFail d s = goSilent d [] (edge (4 + (d - 2)) 0 1 (s.modDie d fun x => { x with retrain := none })) := if_neg (by simp [hlate])

/-- The events of a link are D0's own. -/
theorem dieOfSource_link {d : Nat} (hd : 2 ≤ d ∧ d < 5) : dieOfSource (4 + (d - 2)) = none := by
  obtain rfl | rfl | rfl : d = 2 ∨ d = 3 ∨ d = 4 := by omega
  · rfl
  · rfl
  · rfl

/-- Settles O23: what a die's falling silent leaves, in three of the four rows; the return clears it by the die's own account. -/
theorem linkSilence : Obligations.LinkSilence := by
  unfold Obligations.LinkSilence
  refine ⟨fun d cs hlo hhi => .of_die ⟨hlo, hhi⟩ _ (fun _ _ => rfl) fun s0 s hdue => ?_,
    fun d cs hlo hhi => .of_die ⟨hlo, hhi⟩ _ (fun _ _ => rfl) fun s0 s hdue => ?_,
    fun d hlo hhi => .of_die ⟨hlo, hhi⟩ (linkBack d) (fun _ _ => rfl) fun s0 s ⟨hsilent, hbeats, hlimp⟩ => ?_,
    fun d hlo hhi => .of_die ⟨hlo, hhi⟩ (retrainFail d) (fun _ _ => rfl) fun s0 s hlate => ?_⟩
  · rw [if_pos hdue]
    have hwent := goSilent_went d cs s
    rw [die_outs]
    exact ⟨hwent.silent, hwent.held, hwent.since, hwent.solo, hwent.allOff, hwent.only s0⟩
  · rw [if_pos hdue]
    obtain ⟨t, hoff, heq⟩ := dieOff_step d cs s
    obtain ⟨l, e, hnoted⟩ := hoff.dies d
    have hsilent : (s.die d).silent = true := by
      simp only [allOffDue, Bool.and_eq_true] at hdue
      exact hdue.1.1.1
    rw [heq, die_outs, State.modDie_die_self, hnoted]
    exact ⟨rfl, hsilent, (hoff.frame.append (modDie_frame t d _)).only_outs s0 (by decide)⟩
  · obtain ⟨hframe, l, e, hdie⟩ := linkBack_of_silent hsilent hbeats hlimp
    have honly := hframe.only_outs (cs := [.ledger, .loops, .dies]) s0 (by decide)
    rw [die_outs, hdie]
    exact ⟨rfl, rfl, rfl, rfl, rfl, rfl, honly .units (by decide), honly⟩
  · have hedge : SameExcept [.events] (s.modDie d fun x => { x with retrain := none }) _ :=
      edge_frame_own (n := 4 + (d - 2)) (inst := 0) (code := 1) (dieOfSource_link ⟨hlo, hhi⟩)
    have hasserted := edge_asserted_after (dieOfSource_link ⟨hlo, hhi⟩) 0 1 (modDie_frame s d fun x => { x with retrain := none }) (by decide)
    have hbefore := (modDie_frame s d fun x => { x with retrain := none }).append hedge
    rw [retrainFail_of_late hlate, die_outs]
    generalize edge (4 + (d - 2)) 0 1 (s.modDie d fun x => { x with retrain := none }) = u at hasserted hbefore ⊢
    have hwent := goSilent_went d [] u
    exact ⟨hwent.silent, hwent.held, asserted_outs (hasserted.kept hwent.grows.kept) s0, (hbefore.append hwent.frame).only_outs s0 (by decide)⟩

end Sys2Proof.Machine
end

section
/-! Cores that leave service and come back (R20, R21), and the loss and return of a VBAT group (R29, R527). -/

namespace Sys2Proof.Machine

theorem start_outs (s0 s : State) : (settle s0 (followLoops s)).start = s.start :=
  ((followLoops_frame s).append (settle_frame s0 _)) .start (by decide)

/-! ## Cores (R20, R21) -/

/-- A row about a core that may take outputs out of service. -/
theorem Does.of_coreRestart {c : Nat} {ok : Bool} {cs : Clamps} {pre : State → Prop} {post : State → State → Prop} (hc : c < 9)
    (hpost : ∀ s0 s, pre s → post s (settle s0 (followLoops (coreFails c ok cs s)))) : Does (fun τ => .coreRestart τ c ok cs) pre post :=
  .of_settle (fun s => followLoops (coreFails c ok cs s))
    (fun τ s _ => by unfold exec execCoreRestart atOut; exact (if_pos hc).trans (at_next _ _ _)) hpost

/-- R20, R21: a core is out of service since now; `cold` says how it comes back. -/
def coreOutNow (c : Nat) (cold : Bool) (s : State) : State := s.modStart fun x => { x with coresOut := x.coresOut ++ [(c, cold, s.devtime)] }

theorem coreOutNow_frame (c : Nat) (cold : Bool) (s : State) : SameExcept [.start] s (coreOutNow c cold s) := modStart_frame s _

section
variable {c : Nat} {cs : Clamps} {s : State}

theorem coreFails_of_checkpoint (hin : (s.start.coresOut.any fun x => x.1 == c) = false) (hkeeper : ¬(c = 0 ∧ s.start.keeperOut.isSome = true)) :
    coreFails c true cs s = fault 3 c 0 2 0 (coreOutNow c false s) := by
  unfold coreFails
  rw [if_neg (by simpa [hin] using hkeeper), if_pos rfl]
  rfl

/-- What a core that starts cold leaves before its die is held. -/
def coldReported (c : Nat) (s : State) : State := fault 3 c 1 3 0 (coreOutNow c true s)

theorem coreFails_of_cold (hne : c ≠ 0) (hin : (s.start.coresOut.any fun x => x.1 == c) = false) :
    coreFails c false cs s = match dieOfCore c with
      | some d => coldSafe d cs (coldReported c s)
      | none => coldReported c s := by
  unfold coreFails
  rw [if_neg (by simp [hin, hne]), if_neg (by simp), if_neg hne]
  rfl

theorem coreFails_of_keeper (hin : (s.start.coresOut.any fun x => x.1 == 0) = false) (hkeeper : s.start.keeperOut = none) :
    coreFails 0 false cs s = s.modStart fun x => { x with keeperOut := some s.devtime } := by
  unfold coreFails
  rw [if_neg (by simp [hin, hkeeper]), if_neg (by simp), if_pos rfl]

end

theorem coldReported_start (c : Nat) (s : State) : (coldReported c s).start.coresOut = s.start.coresOut ++ [(c, true, s.devtime)] := by
  have hfault : (coldReported c s).start = (coreOutNow c true s).start := fault_frame_own (n := 3) rfl c 1 3 0 _ .start (by decide)
  rw [hfault]
  rfl

theorem coldReported_frame (c : Nat) (s : State) : SameExcept [.start, .events, .faults] s (coldReported c s) :=
  ((coreOutNow_frame c true s).append (fault_frame_own (n := 3) rfl c 1 3 0 _)).mono (by decide)

theorem coldReported_raised (c : Nat) (s : State) : Raised 3 c 1 3 s (coldReported c s) :=
  (raised_fault 3 c 1 3 0 (coreOutNow c true s)).of_before (coreOutNow_frame c true s) (by decide)

/-- A core is in service again. -/
def coreInNow (c : Nat) (s : State) : State := s.modStart fun x => { x with coresOut := x.coresOut.filter fun y => y.1 != c }

theorem coreInNow_frame (c : Nat) (s : State) : SameExcept [.start] s (coreInNow c s) := modStart_frame s _

theorem coreBack_of_restart {c : Nat} {s : State} (hout : (s.start.coresOut.any fun x => x.1 == c && x.2.1 == false) = true) :
    coreBack c false s = coreInNow c s := by
  unfold coreBack
  rw [if_neg (by simpa using hout)]
  rfl

/-- R21, R399: a held die whose link is up is back since now. -/
theorem coreBack_of_cold {c d : Nat} {s : State} (hout : (s.start.coresOut.any fun x => x.1 == c && x.2.1 == true) = true)
    (hdie : dieOfCore c = some d) : coreBack c true s
      = (coreInNow c s).modDie d fun x => { x with backAt := if x.heldSafe && !x.silent then some s.devtime else x.backAt } := by
  unfold coreBack
  rw [if_neg (by simpa using hout), hdie]
  rfl

/-- Units and switch channels take their codes. -/
theorem safeCoils_step (cs : Clamps) {p : Line → Bool} (hp : ∀ l, p l = true → (∃ u, l = .unit u) ∨ ∃ n, l = .switch n) (ls : List Line) (s : State) :
    DriveStep coilBanks s ((ls.filter p).foldl (safeLine cs) s) := by
  induction ls generalizing s with
  | nil => exact .refl s
  | cons l ls ih =>
    rw [List.filter_cons]
    split
    · next hl =>
      obtain ⟨u, rfl⟩ | ⟨n, rfl⟩ := hp l hl
      · exact (safeLine_unit_step cs s u).trans (ih _)
      · exact (safeLine_switch_step cs s n).trans (ih _)
    · exact ih s

/-- R21: the die of a sequencer that starts cold is held, and its link is as it was. -/
theorem coldSafe_holds (d : Nat) (cs : Clamps) (s : State) :
    SameExcept coilBanks s (coldSafe d cs s) ∧ (∀ e, e ∈ s.faults.intake → e ∈ (coldSafe d cs s).faults.intake)
      ∧ ((coldSafe d cs s).die d).heldSafe = true ∧ ((coldSafe d cs s).die d).silent = (s.die d).silent := by
  have hmarked := modDie_frame s d fun x => { x with heldSafe := true, backAt := none }
  have hheld : ((s.modDie d fun x => { x with heldSafe := true, backAt := none }).die d).heldSafe = true := by rw [State.modDie_die_self]
  have hsilent : ((s.modDie d fun x => { x with heldSafe := true, backAt := none }).die d).silent = (s.die d).silent := by
    rw [State.modDie_die_self]
  have hsame : (s.modDie d fun x => { x with heldSafe := true, backAt := none }).faults = s.faults := rfl
  unfold coldSafe
  generalize s.modDie d (fun x => { x with heldSafe := true, backAt := none }) = u at hmarked hheld hsilent hsame ⊢
  have hsafe := safeCoils_step cs (p := fun l => match l with
    | .unit _ | .switch _ => true
    | .fi _ | .fo _ | .ai _ => false) (fun l hl => by cases l <;> simp_all) (outputsOfDie s d) u
  obtain ⟨l, e, hnoted⟩ := hsafe.dies d
  refine ⟨(hmarked.append hsafe.frame).mono (by decide), fun e he => hsafe.intake e (hsame ▸ he), ?_, ?_⟩
  · exact (congrArg DieSt.heldSafe hnoted).trans hheld
  · exact (congrArg DieSt.silent hnoted).trans hsilent

/-! ## VBAT groups (R29, R527) -/

theorem spoilUnits_step (us : List Nat) (s : State) : DriveStep coilBanks s (spoilUnits us s) := .foldl (fun s u => modUnit_step u s _) us s

theorem modClusters_step (cl : List Nat) (f : ClusterSt → ClusterSt) (s : State) :
    DriveStep coilBanks s (cl.foldl (fun s c => s.modCluster c f) s) := .foldl (fun s c => modCluster_step c s f) cl s

/-- R527: turning off a region's outputs is driving outputs. -/
theorem regionLost_step (g : Nat) (cs : Clamps) (s : State) : DriveStep offBanks s (regionLost g cs s) := by
  have hunits : ∀ (us : List Nat) (t : State), DriveStep coilBanks t (us.foldl (fun s u => forceOff u s) t) := fun us t => .foldl (fun s u => forceOff_step u s) us t
  have hclusters := modClusters_step (upFrom (4 * g) 4) fun x =>
    { x with holder := none, queue := [], highSide := false, boostRail := false, testAt := none }
  unfold regionLost
  refine .ite ?_ (.ite ?_ (.foldl (fun s o => .of_frame (offFo_frame o s)) _ s))
  · refine DriveStep.widen (bs := coilBanks) ?_ (by decide)
    exact ((((spoilUnits_step _ s).trans (modClusters_step _ _ _)).trans (hunits _ _)).trans (spoilUnits_step _ _)).trans (hclusters _)
  · exact .foldl (fun s n => (offSw_step s n cs).widen (by decide)) _ s

theorem unfeed_frame (d : Nat) (s : State) : SameExcept [.dies] s (unfeed d s) := .ite (.refl _ s) (modDie_frame s d _)

/-- What a level fault leaves, whichever end its source stands at. -/
theorem faultLevel_stands (n inst code sev : Nat) (s : State) : SameExcept [.events, .dies, .faults] s (faultLevel n inst code sev s)
    ∧ ((faultLevel n inst code sev s).src n).active = true ∧ Raised n inst code sev s (faultLevel n inst code sev s) := by
  unfold faultLevel
  simp only
  by_cases hheld : (s.events.stopped && (dieOfSource n).isSome) = true
  · have hmarked := modSrc_frame s n fun x => { x with active := true, payload := evtWord inst code sev }
    have hlatched := latchEvent_frame ((dieOfSource n).getD 4) n code inst sev (s.modSrc n fun x => { x with active := true, payload := evtWord inst code sev })
    have hsrc : ((s.modSrc n fun x => { x with active := true, payload := evtWord inst code sev }).src n).active = true := by simp
    generalize s.modSrc n (fun x => { x with active := true, payload := evtWord inst code sev }) = t at hmarked hlatched hsrc ⊢
    rw [if_pos hheld, if_pos hheld]
    refine ⟨(hmarked.append hlatched).mono (by decide), ?_, fun hrun => ?_⟩
    · rwa [State.src, hlatched .events (by decide)]
    · simp [hrun] at hheld
  · rw [if_neg hheld, if_neg hheld]
    have hlevel := setLevel_frame n (evtWord inst code sev) true s
    refine ⟨(hlevel.append (intakePut_frame _ _)).mono (by decide), ?_, fun _ hroom =>
      ⟨{ cls := classOf n code, inst := inst, severity := sev, source := n, time := s.devtime }, ?_, rfl, rfl, rfl, rfl, rfl⟩⟩
    · rw [State.src, intakePut_frame _ _ .events (by decide)]
      exact (setLevel_active n _ true s n).trans (if_pos rfl)
    · rw [← (hlevel .faults (by decide) : _ = s.faults)] at hroom
      exact mem_intake_intakePut_self hroom

theorem followLoops_activeKept (s : State) : ActiveKept s (followLoops s) := by
  unfold followLoops
  generalize s.cfg.loops = ps
  induction ps generalizing s with
  | nil => exact .refl s
  | cons p ps ih =>
    refine ActiveKept.trans ?_ (ih _)
    have hset : ∀ f, ActiveKept s (s.modLoop p.1 f) := fun f => .of_events rfl
    unfold followOutput
    simp only
    split
    · exact .refl s
    · split
      · exact (hset _).trans (fault_activeKept _ _ _ _ _ _)
      · exact hset _

theorem active_outs {n : Nat} (hsteady : steadySource n = true) (s0 s : State) :
    ((settle s0 (followLoops s)).src n).active = (s.src n).active := by
  rw [settle_active hsteady, (followLoops_activeKept s).active]

/-- A VBAT group's source is no ring's and no buffer's. -/
theorem steadySource_group {g : Nat} (hg : g < 7) : steadySource (7 + g) = true := by
  simp only [steadySource, Bool.and_eq_true, Bool.not_eq_true', Bool.and_eq_false_iff, decide_eq_false_iff_not]
  omega

/-- R29: the voltage that a group's row reports. -/
def groupRead (g mv : Nat) (s : State) : State := s.modNav fun n => { n with vbatMv := tset n.vbatMv g mv }

/-- R29: a group's fault state. -/
def groupSet (g : Nat) (on : Bool) (s : State) : State := s.modPower fun p => { p with groups := tset p.groups g on }

theorem Does.of_group {c : Nat → Instr} {pre : State → Prop} {post : State → State → Prop} {g mv : Nat} (hg : g < 7) (hmv : mv ≤ 36000)
    (f : State → State) (hexec : ∀ τ s, exec (c τ) s = atGroup τ g mv f s)
    (hpost : ∀ s0 s, pre s → post s (settle s0 (followLoops (f (groupRead g mv s))))) : Does c pre post :=
  .of_settle (fun s => followLoops (f (groupRead g mv s))) (fun τ s _ => (hexec τ s).trans
    ((if_neg (by omega)).trans ((if_neg (by omega)).trans (by unfold atOut; exact at_next _ _ _)))) hpost

/-- What the loss of a group leaves (R527). -/
theorem loseGroup_of_low {g mv : Nat} {cs : Clamps} {s : State} (hon : tget s.power.groups false g = true) (hlow : mv < 6000) :
    SameExcept offBanks (groupSet g false s) (loseGroup g mv cs s) ∧ ((loseGroup g mv cs s).src (7 + g)).active = true
      ∧ Raised (7 + g) g 0 3 s (loseGroup g mv cs s) := by
  have hlost : loseGroup g mv cs s = unfeed (dieOfRegion g) (regionLost g cs (faultLevel (7 + g) g 0 3 (groupSet g false s))) :=
    if_pos (by simp [hon, hlow])
  have hset : SameExcept [.power] s (groupSet g false s) := modPower_frame s _
  rw [hlost]
  generalize groupSet g false s = u at hset ⊢
  obtain ⟨hframe, hactive, hraised⟩ := faultLevel_stands (7 + g) g 0 3 u
  generalize faultLevel (7 + g) g 0 3 u = v at hframe hactive hraised ⊢
  have hregion := regionLost_step g cs v
  generalize regionLost g cs v = w at hregion ⊢
  have hunfed := unfeed_frame (dieOfRegion g) w
  refine ⟨((hframe.append hregion.frame).append hunfed).mono (by decide), ?_, ?_⟩
  · rw [State.src, hunfed .events (by decide)]
    exact (hregion.active.active _).trans hactive
  · exact ((hraised.mono hregion.intake).unchanged hunfed (by decide)).of_before hset (by decide)

/-! ## The statement -/

/-- The statement of a VBAT group's loss. -/
theorem groupLoss_leaves (g mv : Nat) (cs : Clamps) (hg : g < 7) : Does (fun τ => .vbatGroupLoss τ g mv cs)
    (fun s => tget s.power.groups false g = true ∧ mv < 6000)
    (fun s t => tget t.power.groups true g = false ∧ (∀ k, k ≠ g → tget t.power.groups false k = tget s.power.groups false k)
      ∧ tget t.nav.vbatMv 0 g = mv ∧ (t.src (7 + g)).active = true ∧ Raised (7 + g) g 0 3 s t
      ∧ Only [.power, .nav, .courses, .units, .clusters, .ledger, .switches, .vents, .outputs, .loops, .recorder, .dies] s t) := by
  by_cases hlow : mv < 6000
  · refine .of_group hg (by omega) (loseGroup g mv cs) (fun _ _ => rfl) fun s0 s ⟨hon, _⟩ => ?_
    have hread : SameExcept [.nav] s (groupRead g mv s) := modNav_frame s _
    have hmv : tget (groupRead g mv s).nav.vbatMv 0 g = mv := tget_tset_self _ _ _ _
    have hpower := hread.power (by decide)
    generalize groupRead g mv s = u at hread hmv hpower ⊢
    obtain ⟨hframe, hactive, hraised⟩ := loseGroup_of_low (cs := cs) (s := u) (by rw [hpower]; exact hon) hlow
    have hset : SameExcept [.power] u (groupSet g false u) := modPower_frame u _
    have hgroups : (groupSet g false u).power.groups = tset s.power.groups g false := by rw [← hpower]; rfl
    generalize groupSet g false u = v at hframe hset hgroups ⊢
    generalize loseGroup g mv cs u = w at hframe hactive hraised ⊢
    have hend := (hframe.append (followLoops_frame w)).append (settle_frame s0 _)
    have hkept := hset.append hend
    rw [hend.power (by decide), hgroups, hkept.nav (by decide), active_outs (steadySource_group hg)]
    exact ⟨tget_tset_self _ _ _ _, fun k hk => tget_tset_of_ne _ _ _ hk, hmv, hactive, raised_outs (hraised.of_before hread (by decide)) s0,
      ((hread.append hset).append hframe).only_outs s0 (by decide)⟩
  · exact fun τ s hpre => absurd hpre.2 hlow

theorem groupBack_of_high {g mv : Nat} {s : State} (hhigh : 6300 < mv) : groupBack g mv s = setLevel (7 + g) 0 false (groupSet g true s) := if_pos hhigh

/-- Settles O24: a core by its entry in the list of cores out of service, a group by the level of its source. -/
theorem coresAndGroups : Obligations.CoresAndGroups := by
  unfold Obligations.CoresAndGroups
  refine ⟨fun c cs hc => .of_coreRestart hc fun s0 s ⟨hin, hkeeper⟩ => ?_, fun c cs hc hne => .of_coreRestart (by omega) fun s0 s hin => ?_,
    fun c cs hlo hhi => .of_coreRestart hhi fun s0 s hin => ?_, fun cs => .of_coreRestart (by decide) fun s0 s ⟨hin, hkeeper⟩ => ?_,
    fun c hc => .of_settle _ (fun τ s _ => about_next hc) fun s0 s hout => ?_,
    fun c hlo hhi => .of_settle _ (fun τ s _ => about_next hhi) fun s0 s ⟨hout, hheld, hsilent⟩ => ?_,
    groupLoss_leaves,
    fun g mv hg hlo hhi => .of_group hg hhi (groupBack g mv) (fun _ _ => rfl) fun s0 s _ => ?_⟩
  · rw [coreFails_of_checkpoint hin hkeeper, start_outs, (fault_frame_own (n := 3) rfl c 0 2 0 _ .start (by decide) : _ = (coreOutNow c false s).start)]
    exact ⟨rfl, raised_outs ((raised_fault 3 c 0 2 0 _).of_before (coreOutNow_frame c false s) (by decide)) s0,
      ((coreOutNow_frame c false s).append (fault_frame_own (n := 3) rfl c 0 2 0 _)).only_outs s0 (by decide)⟩
  · have hnone : dieOfCore c = none := if_neg (by simp; omega)
    rw [coreFails_of_cold hne hin, hnone, start_outs]
    exact ⟨coldReported_start c s, raised_outs (coldReported_raised c s) s0, (coldReported_frame c s).only_outs s0 (by decide)⟩
  · have hdie : dieOfCore c = some (c - 4) := if_pos (by simp [hlo, hhi])
    rw [coreFails_of_cold (by omega) hin, hdie]
    have hreported := coldReported_frame c s
    have hraised := coldReported_raised c s
    have hstart := coldReported_start c s
    generalize coldReported c s = u at hreported hraised hstart ⊢
    obtain ⟨hframe, hintake, hheld, hsilent⟩ := coldSafe_holds (c - 4) cs u
    have hkept : (coldSafe (c - 4) cs u).start = u.start := hframe .start (by decide)
    simp only [start_outs, hkept, die_outs]
    exact ⟨hstart, raised_outs (hraised.mono hintake) s0, hheld, hsilent.trans (by rw [hreported.die (by decide)]),
      (hreported.append hframe).only_outs s0 (by decide)⟩
  · have hmarked := modStart_frame s fun x => { x with keeperOut := some s.devtime }
    rw [coreFails_of_keeper hin hkeeper, start_outs]
    exact ⟨rfl, rfl, hmarked.only_outs s0 (by decide)⟩
  · have hstart : (settle s0 (coreInNow c s)).start = (coreInNow c s).start := settle_frame s0 _ .start (by decide)
    rw [coreBack_of_restart hout, hstart]
    exact ⟨rfl, (coreInNow_frame c s).only_settle_of s0 (by decide)⟩
  · have hdie : dieOfCore c = some (c - 4) := if_pos (by simp [hlo, hhi])
    rw [coreBack_of_cold hout hdie]
    have hin := coreInNow_frame c s
    have hstart : (coreInNow c s).start.coresOut = s.start.coresOut.filter fun x => x.1 != c := rfl
    have hsame := hin.die (by decide) (c - 4)
    generalize coreInNow c s = u at hin hstart hsame ⊢
    have hback := modDie_frame u (c - 4) fun x => { x with backAt := if x.heldSafe && !x.silent then some s.devtime else x.backAt }
    have hend := hback.append (settle_frame s0 _)
    rw [(hend .start (by decide) : _ = u.start), (settle_frame s0 _).die (by decide), State.modDie_die_self, hsame]
    exact ⟨hstart, by simp [hheld, hsilent], hheld, (hin.append hback).only_settle_of s0 (by decide)⟩
  · rw [groupBack_of_high hlo]
    have hread : SameExcept [.nav] s (groupRead g mv s) := modNav_frame s _
    have hmv : tget (groupRead g mv s).nav.vbatMv 0 g = mv := tget_tset_self _ _ _ _
    generalize groupRead g mv s = u at hread hmv ⊢
    have hset : SameExcept [.power] u (groupSet g true u) := modPower_frame u _
    have hon : tget (groupSet g true u).power.groups false g = true := tget_tset_self _ _ _ _
    generalize groupSet g true u = v at hset hon ⊢
    have hend := ((setLevel_frame (7 + g) 0 false v).append (followLoops_frame _)).append (settle_frame s0 _)
    have hkept := (hread.append hset).append hend
    rw [hend.power (by decide), (hset.append hend).nav (by decide), active_outs (steadySource_group hg), setLevel_active, if_pos rfl]
    exact ⟨hon, hmv, rfl, hkept .units (by decide), ((hread.append hset).append (setLevel_frame (7 + g) 0 false v)).only_outs s0 (by decide)⟩

end Sys2Proof.Machine
end

section
/-! A CAN controller's frames, errors and bus states (R260, R431 to R438, R460). -/

namespace Sys2Proof.Machine

/-! ## A controller through the end of a step -/

theorem unsent_outs (s0 s : State) (n : Nat) : ((settle s0 (followLoops s)).canOf n).unsent = (s.canOf n).unsent :=
  (settle_sentOnly s0 _ n).trans (SentOnly.of_frame (followLoops_frame s) (by decide) n)

/-- The fields of a controller that sending does not touch. -/
theorem eq_of_unsent {α : Type} {c d : CanSt} (h : d.unsent = c.unsent) (f : CanSt → α) (hf : ∀ x, f x.unsent = f x) : f d = f c := by
  rw [← hf d, h, hf]

theorem gw_outs (s0 s : State) (n b : Nat) : (settle s0 (followLoops s)).gw n b = s.gw n b := by
  rw [settle_gw]
  exact (GatewaysKept.of_frame (P := fun _ => False) (followLoops_frame s) (by decide)).gw n b

/-- Frames handed to the bus stay handed to it. -/
def SentGrow (s t : State) : Prop := ∀ n f, f ∈ (s.canOf n).sent → f ∈ (t.canOf n).sent

theorem SentGrow.refl (s : State) : SentGrow s s := fun _ _ h => h

theorem SentGrow.trans {s t u : State} (h : SentGrow s t) (k : SentGrow t u) : SentGrow s u := fun n f hf => k n f (h n f hf)

theorem SentGrow.of_frame {bs : List Bank} {s t : State} (h : SameExcept bs s t) (hcan : .can ∉ bs) : SentGrow s t := fun n f hf => by
  rwa [State.canOf, (h .can hcan : t.can = s.can)]

theorem SentGrow.foldl {α : Type} {f : State → α → State} (h : ∀ s a, SentGrow s (f s a)) (l : List α) (s : State) : SentGrow s (l.foldl f s) := by
  induction l generalizing s with
  | nil => exact .refl s
  | cons a l ih => exact (h s a).trans (ih _)

/-- A frame goes out behind those that stand. -/
theorem modCan_sentGrow {f : CanSt → CanSt} (hf : ∀ x, ∃ fs, (f x).sent = x.sent ++ fs) (s : State) (n : Nat) : SentGrow s (s.modCan n f) := by
  intro k x hx
  by_cases hk : k = n
  · subst hk
    obtain ⟨fs, hsent⟩ := hf (s.canOf k)
    rw [State.modCan_canOf_self, hsent]
    exact List.mem_append_left _ hx
  · rwa [State.modCan_canOf_of_ne _ _ _ hk]

theorem sendZ_sentGrow (type dst : Nat) (body : List Int) (s : State) : SentGrow s (sendZ type dst body s) :=
  (SentGrow.foldl (fun s n => modCan_sentGrow (fun _ => ⟨_, rfl⟩) s n) _ s).trans (.of_frame (modZ_frame _ _) (by decide))

theorem controlChange_sentGrow (s : State) : SentGrow s (controlChange s) := by
  unfold controlChange
  split
  · exact (SentGrow.of_frame (modZ_frame s _) (by decide)).trans (sendZ_sentGrow _ _ _ _)
  · exact .refl s

theorem isobusRecords_sentGrow (s : State) : SentGrow s (isobusRecords s) := by
  have hsend : ∀ c kind course bs (t : State), SentGrow t (sendIsobus c kind course bs t) := fun c kind course bs t => by
    unfold sendIsobus
    split
    · exact modCan_sentGrow (fun _ => ⟨_, rfl⟩) t c
    · exact .refl t
  unfold isobusRecords
  split
  · exact .refl s
  · split
    · have hclaimed := fun k f g => ((claimRecords_frame 9 k s).trans (modTgt_frame _ 9 f)).trans (modEvents_frame _ g)
      exact ((SentGrow.of_frame (hclaimed _ _ _) (by decide)).trans (hsend _ _ _ _ _)).trans (.of_frame (signals_frame _) (by decide))
    · exact .refl s

theorem settle_sentGrow (s0 s : State) : SentGrow s (settle s0 s) := by
  have hlevels : SameExcept [.zither, .events, .faults] (controlChange s) (levelsFollow s) :=
    (tokenWatch_frame _).append (closeCleared_frame _) |>.append (ringLevels_frame _) |>.append (gatewayLevels_frame _)
      |>.append (signals_frame _) |>.mono (by decide)
  refine (((controlChange_sentGrow s).trans (.of_frame hlevels (by decide))).trans (isobusRecords_sentGrow _)).trans fun n f hf => ?_
  rwa [State.canOf, settle_can]

/-! ## The bus becomes idle (R433, R437) -/

/-- A controller's state beside its buffers, the bindings that wait, the frame that it offers and those that it has sent. -/
def CanSt.core (c : CanSt) : CanSt := { c with buffers := [], binds := [], offered := none, sent := [] }

theorem eq_of_core {α : Type} {c d : CanSt} (h : d.core = c.core) (f : CanSt → α) (hf : ∀ x, f x.core = f x) : f d = f c := by
  rw [← hf d, h, hf]

theorem core_of_unsent {c d : CanSt} (h : d.unsent = c.unsent) : d.core = c.core := by
  have hcore : ∀ x : CanSt, x.core = x.unsent.core := fun _ => rfl
  rw [hcore d, h, hcore c]

theorem core_outs (s0 s : State) (n : Nat) : ((settle s0 (followLoops s)).canOf n).core = (s.canOf n).core := core_of_unsent (unsent_outs s0 s n)

theorem modGw_core (s : State) (n b : Nat) (f : GwBuffer → GwBuffer) : ((s.modGw n b f).canOf n).core = (s.canOf n).core := by
  rw [State.modGw, State.modCan_canOf_self]
  rfl

theorem bindWaiting_core (n : Nat) (s : State) : ((bindWaiting n s).canOf n).core = (s.canOf n).core := by
  have hbound : ∀ (l : List (Nat × Nat × Nat × Nat)) (t : State),
      ((l.foldl (fun s b => bindBuffer n b.1 b.2.1 b.2.2.1 b.2.2.2 s) t).canOf n).core = (t.canOf n).core := by
    intro l
    induction l with
    | nil => exact fun _ => rfl
    | cons b l ih => exact fun t => (ih _).trans (modGw_core t n _ _)
  exact (hbound _ _).trans (by rw [State.modCan_canOf_self]; rfl)

theorem busIdle_core (n : Nat) (s : State) : ((busIdle n s).canOf n).core = (s.canOf n).core := by
  rw [busIdle, offerNext, State.modCan_canOf_self]
  exact bindWaiting_core n s

/-- Where no binding waits, the controller only offers its next frame. -/
theorem busIdle_of_free {n : Nat} {s : State} (hfree : (s.canOf n).binds = []) :
    busIdle n s = offerNext n (s.modCan n fun c => { c with binds := [] }) := by
  rw [busIdle, bindWaiting, hfree, List.foldl_nil]

theorem busIdle_buffers_of_free {n : Nat} {s : State} (hfree : (s.canOf n).binds = []) :
    ((busIdle n s).canOf n).buffers = (s.canOf n).buffers := by
  rw [busIdle_of_free hfree, (offerNext_gateways n _).buffers]
  exact (modCan_gateways (fun _ => by rfl) s n).buffers n

/-- R437: one binding that waited. -/
theorem busIdle_of_one {n b flags id mask : Nat} {s : State} (hone : (s.canOf n).binds = [(b, flags, id, mask)]) :
    busIdle n s = offerNext n (bindBuffer n b flags id mask (s.modCan n fun c => { c with binds := [] })) := by
  rw [busIdle, bindWaiting, hone, List.foldl_cons, List.foldl_nil]

theorem bindBuffer_gw (n b flags id mask : Nat) (s : State) : (bindBuffer n b flags id mask s).gw n b =
    { s.gw n b with enable := bitAt flags 0, filterExt := bitAt flags 1, tx := bitAt flags 2, filterId := id, filterMask := mask,
                    lock := false, full := false, pending := false, transmitted := false, txFailed := false, cancelled := false,
                    cancelLate := false, refused := false, shadow := none, retries := 0 } := modGw_gw_self _ _ _ _

theorem bindBuffer_gw_of_ne {n b k : Nat} (flags id mask : Nat) (s : State) (hk : k ≠ b) : (bindBuffer n b flags id mask s).gw n k = s.gw n k :=
  modGw_gw_of_ne _ _ _ _ hk

theorem bindBuffer_binds (n b flags id mask : Nat) (s : State) : ((bindBuffer n b flags id mask s).canOf n).binds = (s.canOf n).binds :=
  modGw_binds _ _ _ _

/-- A buffer that waits for the bus once it is idle waited before. -/
theorem busIdle_pending {n k : Nat} {s : State} (h : ((busIdle n s).gw n k).pending = true) : (s.gw n k).pending = true := by
  have hbound : ∀ (l : List (Nat × Nat × Nat × Nat)) (t : State),
      ((l.foldl (fun s b => bindBuffer n b.1 b.2.1 b.2.2.1 b.2.2.2 s) t).gw n k).pending = true → (t.gw n k).pending = true := by
    intro l
    induction l with
    | nil => exact fun _ h => h
    | cons b l ih =>
      intro t h
      have hbefore := ih _ h
      change ((bindBuffer n b.1 b.2.1 b.2.2.1 b.2.2.2 t).gw n k).pending = true at hbefore
      by_cases hk : k = b.1
      · rw [hk, bindBuffer_gw] at hbefore
        simp at hbefore
      · rwa [bindBuffer_gw_of_ne _ _ _ _ hk] at hbefore
  rw [busIdle, offerNext_gw, bindWaiting] at h
  have hbefore := hbound _ _ h
  rwa [(modCan_gateways (fun _ => by rfl) s n).gw] at hbefore

/-! ## Gateway transmissions -/

section
variable (n b : Nat) (late : Bool) (s : State)

theorem gwFailed_core : ((gwFailed n b late s).canOf n).core = (s.canOf n).core := by
  rw [gwFailed, busIdle_core, gwEnded_canOf]
  exact modGw_core s n b _

theorem gwSent_core : ((gwSent n b late s).canOf n).core = { (s.canOf n).core with txFrames := ((s.canOf n).txFrames + 1) % 4294967296 } := by
  rw [gwSent, busIdle_core, gwEnded_canOf, State.modCan_canOf_self, State.modGw, State.modCan_canOf_self]
  rfl

theorem gwFailed_pending {k : Nat} (h : ((gwFailed n b late s).gw n k).pending = true) : k ≠ b ∧ (s.gw n k).pending = true := by
  have hbefore := busIdle_pending h
  rw [gwEnded_gw] at hbefore
  by_cases hk : k = b
  · rw [hk, modGw_gw_self] at hbefore
    simp at hbefore
  · rw [modGw_gw_of_ne _ _ _ _ hk] at hbefore
    exact ⟨hk, hbefore⟩

theorem gwEnded_stands : IntakeStands s (gwEnded n b s) := edge_intakeStands _ _ _ s

theorem gwFailed_stands : IntakeStands s (gwFailed n b late s) :=
  ((IntakeStands.of_frame (modGw_frame s n b _) (by decide)).trans (gwEnded_stands n b _)).trans (.of_frame (busIdle_frame n _) (by decide))

end

/-! ## Bus-off (R435) -/

/-- R435: a pending transmission of a buffer ends as failed. -/
def failOne (n : Nat) (s : State) (b : Nat) : State := if (s.gw n b).pending then gwFailed n b false s else s

/-- R435: every pending transmission of the listed buffers ends as failed. -/
def failPending (n : Nat) (bs : List Nat) (s : State) : State := bs.foldl (failOne n) s

theorem failOne_core (n b : Nat) (s : State) : ((failOne n s b).canOf n).core = (s.canOf n).core := by
  unfold failOne
  split
  · exact gwFailed_core n b false s
  · rfl

theorem failOne_pending {n b k : Nat} {s : State} (h : ((failOne n s b).gw n k).pending = true) : k ≠ b ∧ (s.gw n k).pending = true := by
  unfold failOne at h
  split at h
  · exact gwFailed_pending n b false s h
  · next hidle => exact ⟨fun hk => hidle (hk ▸ h), h⟩

section
variable (n : Nat) (bs : List Nat) (s : State)

theorem failPending_frame : SameExcept [.can, .events] s (failPending n bs s) :=
  .foldl _ (fun s b => .ite (gwFailed_frame n b false s) (.refl _ s)) bs s

theorem failPending_stands : IntakeStands s (failPending n bs s) := .foldl (fun s b => .ite (gwFailed_stands n b false s) (.refl s)) bs s

theorem failPending_core : ((failPending n bs s).canOf n).core = (s.canOf n).core := by
  induction bs generalizing s with
  | nil => rfl
  | cons b bs ih => exact (ih _).trans (failOne_core n b s)

/-- What still waits was none of these. -/
theorem failPending_pending {k : Nat} (h : ((failPending n bs s).gw n k).pending = true) : k ∉ bs ∧ (s.gw n k).pending = true := by
  induction bs generalizing s with
  | nil => exact ⟨List.not_mem_nil, h⟩
  | cons b bs ih =>
    obtain ⟨hrest, hthen⟩ := ih _ h
    obtain ⟨hne, hbefore⟩ := failOne_pending hthen
    exact ⟨by simp [hne, hrest], hbefore⟩

end

/-- No power die owns the sources of a controller's bus states. -/
theorem dieOfSource_busState {n : Nat} (hn : n < 4) : dieOfSource (224 + n) = none := by
  obtain rfl | rfl | rfl | rfl : n = 0 ∨ n = 1 ∨ n = 2 ∨ n = 3 := by omega
  · rfl
  · rfl
  · rfl
  · rfl

end Sys2Proof.Machine
end

section
/-! The statement about a CAN controller (R260, R431 to R438, R460). -/

namespace Sys2Proof.Machine

/-! ## Rows -/

/-- A row about a controller, while D0 is awake. -/
theorem Does.of_can {c : Nat → Instr} {pre : State → Prop} {post : State → State → Prop} {n : Nat} (hn : n < 4) (f : State → State)
    (hexec : ∀ τ s, exec (c τ) s = aboutCan τ n f s) (hawake : ∀ s, pre s → awake s = true)
    (hpost : ∀ s0 s, pre s → post s (settle s0 (f s))) : Does c pre post :=
  .of_settle f (fun τ s h => (hexec τ s).trans ((about_next hn).trans (by simp only [hawake _ h, if_true]))) hpost

/-- A received frame, once Bus serves. -/
theorem Does.of_received {pre : State → Prop} {post : State → State → Prop} {n : Nat} {f : CanFrame} (hn : n < 4)
    (hserves : ∀ s, pre s → awake s = true ∧ serves 4 s = true) (hpost : ∀ s0 s, pre s → post s (settle s0 (followLoops (receiveFrame n f s)))) :
    Does (fun τ => .canFrameReceived τ n f) pre post :=
  .of_settle (fun s => followLoops (receiveFrame n f s)) (fun τ s h => by
    obtain ⟨hawake, hcore⟩ := hserves _ h
    unfold exec execCanFrameReceived atOut
    exact (if_pos hn).trans ((at_next _ _ _).trans (by simp only [hawake, if_true, byCore_of_serves hcore]))) hpost

/-! ## Reception (R431, R432, R438) -/

section
variable {n : Nat} {f : CanFrame} {s : State}

/-- R431: one more frame is counted as discarded. -/
def discardOne (n : Nat) (s : State) : State := s.modCan n fun c => { c with discarded := (c.discarded + 1) % 4294967296 }

theorem receiveFrame_of_remote (hon : (s.canOf n).st ≠ 2) (hremote : f.remote = true) : receiveFrame n f s = busIdle n (discardOne n s) := by
  unfold receiveFrame
  rw [if_neg hon, if_pos hremote]
  rfl

/-- R431, R432: the state in which a good data frame looks for its gateway buffer. -/
def heardFrame (n : Nat) (f : CanFrame) (s : State) : State :=
  let s1 := receivedGood n (s.modCan n fun c => { c with rxFrames := (c.rxFrames + 1) % 4294967296 })
  if s1.start.configActive && !s1.start.maint then isoFrame n f (busFeedback n f s1) else s1

theorem receiveFrame_of_data (hon : (s.canOf n).st ≠ 2) (hdata : f.remote = false) :
    receiveFrame n f s = busIdle n (match gwMatch (heardFrame n f s) n f with
      | some b => gwReceive n b f (heardFrame n f s)
      | none => heardFrame n f s) := by
  unfold receiveFrame
  rw [if_neg hon, if_neg (by simp [hdata])]
  rfl

theorem freeCount_frame (s : State) : SameExcept [.freeCount] s s.free.2 := fun b hb => by cases b <;> simp_all [Bank.same, State.free]

/-- The receive counter and the bus state follow a good frame; a free value may be drawn. -/
theorem receivedGood_counts (n : Nat) (s : State) : SameExcept [.freeCount, .can] s (receivedGood n s)
    ∧ (∀ b, (receivedGood n s).gw n b = s.gw n b) ∧ ((receivedGood n s).canOf n).rxFrames = (s.canOf n).rxFrames
    ∧ ((receivedGood n s).canOf n).binds = (s.canOf n).binds := by
  unfold receivedGood
  split
  · refine ⟨(freeCount_frame s).append (modCan_frame _ n _), fun b => ?_, ?_, ?_⟩
    · exact (modCan_gateways (fun _ => by rfl) s.free.2 n).gw n b
    · rw [State.modCan_canOf_self]; rfl
    · rw [State.modCan_canOf_self]; rfl
  · refine ⟨(modCan_frame s n _).mono (by decide), fun b => ?_, ?_, ?_⟩
    · exact (modCan_gateways (fun _ => by rfl) s n).gw n b
    · rw [State.modCan_canOf_self]
    · rw [State.modCan_canOf_self]

theorem busFeedback_frame (n : Nat) (f : CanFrame) (s : State) : SameExcept [.loops] s (busFeedback n f s) := by
  refine .foldl _ (fun s p => ?_) _ s
  split
  · split
    · exact modLoop_frame s _ _
    · exact .refl _ s
  · exact .refl _ s

theorem isoFrame_of_off (hoff : isobusOn s n = false) : isoFrame n f s = s := if_pos (by simp [hoff])

/-- What a good data frame leaves on a controller that runs no ISO 11783, before its gateway buffer. -/
theorem heardFrame_leaves (hoff : isobusOn s n = false) : SameExcept [.freeCount, .can, .loops] s (heardFrame n f s)
    ∧ (∀ b, (heardFrame n f s).gw n b = s.gw n b)
    ∧ ((heardFrame n f s).canOf n).rxFrames = ((s.canOf n).rxFrames + 1) % 4294967296
    ∧ ((heardFrame n f s).canOf n).binds = (s.canOf n).binds := by
  have hcounted := modCan_frame s n fun c => { c with rxFrames := (c.rxFrames + 1) % 4294967296 }
  have hgw := (modCan_gateways (f := fun c => { c with rxFrames := (c.rxFrames + 1) % 4294967296 }) (fun _ => by rfl) s n).gw n
  have hrx : ((s.modCan n fun c => { c with rxFrames := (c.rxFrames + 1) % 4294967296 }).canOf n)
      = { s.canOf n with rxFrames := ((s.canOf n).rxFrames + 1) % 4294967296 } := State.modCan_canOf_self _ _ _
  unfold heardFrame
  generalize s.modCan n (fun c => { c with rxFrames := (c.rxFrames + 1) % 4294967296 }) = u at hcounted hgw hrx ⊢
  obtain ⟨hgood, hbuffers, hframes, hbinds⟩ := receivedGood_counts n u
  generalize receivedGood n u = v at hgood hbuffers hframes hbinds ⊢
  have hbefore := hcounted.append hgood
  have hv : (v.canOf n).rxFrames = ((s.canOf n).rxFrames + 1) % 4294967296 ∧ (v.canOf n).binds = (s.canOf n).binds := by
    rw [hframes, hbinds, hrx]
    exact ⟨rfl, rfl⟩
  simp only
  split
  · have hfed := busFeedback_frame n f v
    have hcan : (busFeedback n f v).can = v.can := hfed .can (by decide)
    have hstill : isobusOn (busFeedback n f v) n = false := by
      rw [isobusOn, State.canCfg, (hbefore.append hfed).cfg (by decide)]
      exact hoff
    rw [isoFrame_of_off hstill, State.canOf, hcan]
    refine ⟨(hbefore.append hfed).mono (by decide), fun b => ?_, hv.1, hv.2⟩
    rw [State.gw, State.canOf, hcan]
    exact (hbuffers b).trans (hgw b)
  · exact ⟨hbefore.mono (by decide), fun b => (hbuffers b).trans (hgw b), hv.1, hv.2⟩

theorem gwMatch_of_gw {s t : State} (h : ∀ b, t.gw n b = s.gw n b) : gwMatch t n f = gwMatch s n f := by
  unfold gwMatch
  simp only [h]

theorem gwReceive_of_open {b : Nat} (hopen : (s.gw n b).lock = false) : gwReceive n b f s = gwWrite n b f s.devtime s := by
  unfold gwReceive
  simp only [hopen, Bool.false_eq_true, if_false]

end

/-! ## Transmission (R433, R434) -/

section
variable {n b : Nat} {s : State}

/-- R434, ISO 11898-1: the counters once an attempt has ended. -/
def attempted (n b : Nat) (ok : Bool) (s : State) : State :=
  s.modCan n fun c =>
    if ok then
      { c with tec := c.tec - 1, st := if c.st = 1 && c.tec - 1 < 128 && c.recCnt < 128 then 0 else c.st,
               txFrames := if b < 16 then c.txFrames else (c.txFrames + 1) % 4294967296 }
    else { c with tec := c.tec + 8, errors := (c.errors + 1) % 4294967296 }

theorem endTx_of_flight (hon : (s.canOf n).st ≠ 2) (hb : b < 16) (hflight : inFlight s n b = true) (ok : Bool) :
    endTx n b ok s = if ok then gwSent n b false (attempted n b ok s) else gwError n b (attempted n b ok s) := by
  unfold endTx
  rw [if_neg (by simp [hon, hflight])]
  exact if_pos hb

theorem attempted_gw (ok : Bool) (k : Nat) : (attempted n b ok s).gw n k = s.gw n k :=
  (modCan_gateways (fun x => by split <;> rfl) s n).gw n k

theorem attempted_binds (ok : Bool) : ((attempted n b ok s).canOf n).binds = (s.canOf n).binds := by
  rw [attempted, State.modCan_canOf_self]
  split <;> rfl

theorem attempted_frame (ok : Bool) : SameExcept [.can] s (attempted n b ok s) := modCan_frame s n _

theorem attempted_txFrames (hb : b < 16) : ((attempted n b true s).canOf n).txFrames = (s.canOf n).txFrames := by
  rw [attempted, State.modCan_canOf_self]
  exact if_pos hb

theorem attempted_errors : ((attempted n b false s).canOf n).errors = ((s.canOf n).errors + 1) % 4294967296 := by
  rw [attempted, State.modCan_canOf_self]
  rfl

end

theorem gwError_of_last {n b : Nat} {s : State} (h : (s.canCfg n).gwRetry ≤ (s.gw n b).retries) : gwError n b s = gwFailed n b false s := if_pos h

/-- R434: an attempt that is followed by another. -/
def tryAgain (n b : Nat) (s : State) : State := s.modGw n b fun g => { g with retries := g.retries + 1 }

theorem gwError_of_more {n b : Nat} {s : State} (h : (s.gw n b).retries < (s.canCfg n).gwRetry) : gwError n b s = busIdle n (tryAgain n b s) :=
  if_neg (by omega)

theorem pending_of_inFlight {s : State} {n b : Nat} (h : inFlight s n b = true) : (s.gw n b).pending = true := by
  simp only [inFlight, Bool.and_eq_true] at h
  exact h.1

theorem gwWrite_gw (n b : Nat) (f : CanFrame) (time : Nat) (s : State) : (gwWrite n b f time s).gw n b =
    { s.gw n b with frame := f, length := f.data.length, timeStamp := time, full := true, frames := ((s.gw n b).frames + 1) % 65536,
                    lost := if (s.gw n b).full then ((s.gw n b).lost + 1) % 65536 else (s.gw n b).lost } := modGw_gw_self _ _ _ _

theorem gwWrite_binds (n b : Nat) (f : CanFrame) (time : Nat) (s : State) : ((gwWrite n b f time s).canOf n).binds = (s.canOf n).binds :=
  modGw_binds _ _ _ _

/-! ## Bus states (R435) -/

/-- R435: a controller that has just gone bus-off. -/
def wentOff (n : Nat) (s : State) : State :=
  s.free.2.modCan n fun c => { c with st := 2, tec := if c.tec < 256 then 256 + (s.free.1 % 8).toNat else c.tec }

theorem wentOff_frame (n : Nat) (s : State) : SameExcept [.freeCount, .can] s (wentOff n s) := (freeCount_frame s).append (modCan_frame _ n _)

theorem busOff_of_on {n : Nat} {s : State} (hon : (s.canOf n).st ≠ 2) :
    busOff n s = fault (224 + n) n 0 2 0 (failPending n (upFrom 0 16) (wentOff n s)) := if_neg hon

/-- R435: a controller that has just come back. -/
def cameBack (n : Nat) (s : State) : State := offerNext n (s.modCan n fun c => { c with st := 0, tec := 0, recCnt := 0 })

theorem cameBack_frame (n : Nat) (s : State) : SameExcept [.can] s (cameBack n s) := (modCan_frame s n _).trans (offerNext_frame n _)

theorem busBack_of_off {n : Nat} {s : State} (hoff : (s.canOf n).st = 2) : busBack n s = fault (224 + n) n 1 1 0 (cameBack n s) :=
  if_neg (by simp [hoff])

/-- R435: a controller that has just become error-passive. -/
def wentPassive (n : Nat) (s : State) : State :=
  s.free.2.modCan n fun c => { c with st := 1, recCnt := if c.tec < 128 && c.recCnt < 128 then 128 + (s.free.1 % 8).toNat else c.recCnt }

theorem wentPassive_frame (n : Nat) (s : State) : SameExcept [.freeCount, .can] s (wentPassive n s) :=
  (freeCount_frame s).append (modCan_frame _ n _)

theorem busPassive_of_active {n : Nat} {s : State} (hactive : (s.canOf n).st = 0) : busPassive n s = fault (224 + n) n 2 1 0 (wentPassive n s) :=
  if_neg (by simp [hactive])

/-- A bus state that is reported last stands, with its fault, at the end of the step. -/
theorem reported_settle {n : Nat} (hn : n < 4) (code sev : Nat) {s t : State} (hstands : IntakeStands s t) (s0 : State) :
    ((settle s0 (fault (224 + n) n code sev 0 t)).canOf n).core = (t.canOf n).core
    ∧ (∀ b, (settle s0 (fault (224 + n) n code sev 0 t)).gw n b = t.gw n b)
    ∧ Raised (224 + n) n code sev s (settle s0 (fault (224 + n) n code sev 0 t)) := by
  have hfault : SameExcept [.events, .faults] t _ := fault_frame_own (dieOfSource_busState hn) n code sev 0 t
  refine ⟨core_of_unsent ((settle_sentOnly s0 _ n).trans (SentOnly.of_frame hfault (by decide) n)), fun b => ?_,
    ((raised_fault _ _ _ _ _ t).of_stands hstands).settle s0⟩
  rw [settle_gw]
  exact (GatewaysKept.of_frame (P := fun _ => False) hfault (by decide)).gw n b

/-! ## CAN_SP (R260) -/

theorem sendSp_of_due {l n ident off w p : Nat} {sc : Int} {s : State} (hout : (s.loopCfg l).out = .canSp n ident off w sc p)
    (hactive : s.start.configActive = true) (hnever : (s.loop l).spAt = none) (hon : (s.canOf n).st ≠ 2) (hplain : isobusOn s n = false) :
    sendSp l s = canSend n { id := ident, ext := decide (2048 ≤ ident), fdf := (s.canCfg n).fd, brs := (s.canCfg n).brs, data := spFrame s n ident }
      (s.modLoop l fun x => { x with spAt := some s.devtime }) := by
  unfold sendSp
  simp only [hout, hnever]
  rw [if_neg (by simp [hactive, hon, hplain])]

theorem canSend_sent (n : Nat) (f : CanFrame) (s : State) : f ∈ ((canSend n f s).canOf n).sent := by
  rw [canSend, State.modCan_canOf_self]
  simp

/-! ## The statement -/

/-- A discarded remote frame: its count, and the idle bus after it. -/
theorem discardOne_canOf (n : Nat) (s : State) :
    (discardOne n s).canOf n = { s.canOf n with discarded := ((s.canOf n).discarded + 1) % 4294967296 } := State.modCan_canOf_self _ _ _

theorem discardOne_frame (n : Nat) (s : State) : SameExcept [.can] s (discardOne n s) := modCan_frame s n _

theorem discardOne_gw (n b : Nat) (s : State) : (discardOne n s).gw n b = s.gw n b := (modCan_gateways (fun _ => by rfl) s n).gw n b

/-! ## The rows of the statement -/

theorem txFrames_of_core {c d : CanSt} {k : Nat} (h : d.core = { c.core with txFrames := k }) : d.txFrames = k :=
  congrArg CanSt.txFrames h

/-- A remote frame is discarded, and with no binding waiting the buffers stay (R431). -/
theorem remoteFrame_does (n f) (hn : n < 4) : Does (fun τ => .canFrameReceived τ n f)
    (fun s => awake s = true ∧ serves 4 s = true ∧ (s.canOf n).st ≠ 2 ∧ f.remote = true ∧ (s.canOf n).binds = [])
    (fun s t => (t.canOf n).discarded = ((s.canOf n).discarded + 1) % 4294967296 ∧ (t.canOf n).rxFrames = (s.canOf n).rxFrames
      ∧ (t.canOf n).buffers = (s.canOf n).buffers ∧ Only [.loops] s t) :=
  .of_received hn (fun s h => ⟨h.1, h.2.1⟩) fun s0 s ⟨_, _, hon, hremote, hfree⟩ => by
    rw [receiveFrame_of_remote hon hremote]
    have hcan := discardOne_canOf n s
    have hframe := discardOne_frame n s
    generalize discardOne n s = u at hcan hframe ⊢
    have hbuffers := busIdle_buffers_of_free (n := n) (s := u) (by rw [hcan]; exact hfree)
    have hcore := (core_outs s0 (busIdle n u) n).trans (busIdle_core n u)
    have hunsent := unsent_outs s0 (busIdle n u) n
    rw [hcan] at hcore hbuffers
    exact ⟨eq_of_core hcore (·.discarded) fun _ => rfl, eq_of_core hcore (·.rxFrames) fun _ => rfl,
      (eq_of_unsent hunsent (·.buffers) fun _ => rfl).trans hbuffers, (hframe.trans (busIdle_frame n u)).only_outs s0 (by decide)⟩

/-- A data frame goes into the buffer that matches it; a binding that waits for another buffer does not touch it (R432, R438). -/
theorem dataFrame_does (n f b) (hn : n < 4) : Does (fun τ => .canFrameReceived τ n f)
    (fun s => awake s = true ∧ serves 4 s = true ∧ (s.canOf n).st ≠ 2 ∧ f.remote = false ∧ isobusOn s n = false ∧ gwMatch s n f = some b
      ∧ (s.gw n b).lock = false ∧ ∀ x ∈ (s.canOf n).binds, x.1 ≠ b)
    (fun s t => (t.canOf n).rxFrames = ((s.canOf n).rxFrames + 1) % 4294967296 ∧ (t.gw n b).frame = f ∧ (t.gw n b).full = true
      ∧ (t.gw n b).timeStamp = s.devtime ∧ (t.gw n b).frames = ((s.gw n b).frames + 1) % 65536 ∧ Only [.freeCount, .loops] s t) :=
  .of_received hn (fun s h => ⟨h.1, h.2.1⟩) fun s0 s ⟨_, _, hon, hdata, hplain, hmatch, hopen, hbinds⟩ => by
    obtain ⟨hframe, hgw, hrx, hwaiting⟩ := heardFrame_leaves (f := f) hplain
    rw [receiveFrame_of_data hon hdata, gwMatch_of_gw hgw, hmatch]
    simp only
    generalize heardFrame n f s = u at hframe hgw hrx hwaiting ⊢
    rw [gwReceive_of_open (by rw [hgw]; exact hopen)]
    have hwritten := gwWrite_gw n b f u.devtime u
    have hbuffer := busIdle_gw (s := gwWrite n b f u.devtime u) (by rw [gwWrite_binds, hwaiting]; exact hbinds)
    have hcore := ((core_outs s0 _ n).trans (busIdle_core n (gwWrite n b f u.devtime u))).trans (modGw_core u n b _)
    rw [gw_outs, hbuffer, hwritten, hgw]
    exact ⟨(eq_of_core hcore (·.rxFrames) fun _ => rfl).trans hrx, rfl, rfl, hframe.devtime (by decide), rfl,
      ((hframe.append (modGw_frame u n b _)).append (busIdle_frame n _)).only_outs s0 (by decide)⟩

/-- A transmission that ends well frees its buffer, counts and asserts (R433, R460). -/
theorem txSent_does (n b) (hn : n < 4) (hb : b < 16) : Does (fun τ => .canTxEnd τ n b true)
    (fun s => awake s = true ∧ (s.canOf n).st ≠ 2 ∧ inFlight s n b = true ∧ ∀ x ∈ (s.canOf n).binds, x.1 ≠ b)
    (fun s t => (t.gw n b).pending = false ∧ (t.gw n b).transmitted = true ∧ (t.gw n b).timeStamp = s.devtime
      ∧ (t.canOf n).txFrames = ((s.canOf n).txFrames + 1) % 4294967296 ∧ Asserted (232 + n) s t ∧ Only [] s t) :=
  .of_can hn (endTx n b true) (fun _ _ => if_neg (by omega)) (fun s h => h.1) fun s0 s ⟨_, hon, hflight, hbinds⟩ => by
    rw [endTx_of_flight hon hb hflight, if_pos rfl]
    have hframe := attempted_frame (n := n) (b := b) (s := s) true
    have htx := attempted_txFrames (n := n) (s := s) hb
    have hwaiting := attempted_binds (n := n) (b := b) (s := s) true
    generalize attempted n b true s = u at hframe htx hwaiting ⊢
    have hgw := gwSent_gw (s := u) (by rw [hwaiting]; exact hbinds) false
    have hcore := (core_of_unsent (settle_sentOnly s0 (gwSent n b false u) n)).trans (gwSent_core n b false u)
    have hcounted := txFrames_of_core hcore
    rw [settle_gw, hgw, hcounted, htx]
    exact ⟨rfl, rfl, hframe.devtime (by decide), rfl,
      ((gwSent_asserted n b false u).of_grown (.of_events (hframe .events (by decide)))).settle s0,
      (hframe.append (gwSent_frame n b false u)).only_settle_of s0 (by decide)⟩

/-- A transmission out of retries fails and asserts (R433). -/
theorem txFailed_does (n b) (hn : n < 4) (hb : b < 16) : Does (fun τ => .canTxEnd τ n b false)
    (fun s => awake s = true ∧ (s.canOf n).st ≠ 2 ∧ inFlight s n b = true ∧ (s.canCfg n).gwRetry ≤ (s.gw n b).retries
      ∧ ∀ x ∈ (s.canOf n).binds, x.1 ≠ b)
    (fun s t => (t.gw n b).pending = false ∧ (t.gw n b).txFailed = true ∧ Asserted (232 + n) s t ∧ Only [] s t) :=
  .of_can hn (endTx n b false) (fun _ _ => if_neg (by omega)) (fun s h => h.1) fun s0 s ⟨_, hon, hflight, hlast, hbinds⟩ => by
    rw [endTx_of_flight hon hb hflight, if_neg (by simp)]
    have hframe := attempted_frame (n := n) (b := b) (s := s) false
    have hsame := attempted_gw (n := n) (b := b) (s := s) false b
    have hwaiting := attempted_binds (n := n) (b := b) (s := s) false
    generalize attempted n b false s = u at hframe hsame hwaiting ⊢
    have hcfg : u.canCfg n = s.canCfg n := by rw [State.canCfg, State.canCfg, hframe.cfg (by decide)]
    have hgw := gwFailed_gw (s := u) (by rw [hwaiting]; exact hbinds) false
    rw [gwError_of_last (by rw [hcfg, hsame]; exact hlast), settle_gw, hgw]
    exact ⟨rfl, rfl, ((gwFailed_asserted n b false u).of_grown (.of_events (hframe .events (by decide)))).settle s0,
      (hframe.append (gwFailed_frame n b false u)).only_settle_of s0 (by decide)⟩

/-- A transmission with retries left stays pending (R433). -/
theorem txAgain_does (n b) (hn : n < 4) (hb : b < 16) : Does (fun τ => .canTxEnd τ n b false)
    (fun s => awake s = true ∧ (s.canOf n).st ≠ 2 ∧ inFlight s n b = true ∧ (s.gw n b).retries < (s.canCfg n).gwRetry
      ∧ ∀ x ∈ (s.canOf n).binds, x.1 ≠ b)
    (fun s t => (t.gw n b).pending = true ∧ (t.gw n b).retries = (s.gw n b).retries + 1
      ∧ (t.canOf n).errors = ((s.canOf n).errors + 1) % 4294967296 ∧ Only [] s t) :=
  .of_can hn (endTx n b false) (fun _ _ => if_neg (by omega)) (fun s h => h.1) fun s0 s ⟨_, hon, hflight, hmore, hbinds⟩ => by
    rw [endTx_of_flight hon hb hflight, if_neg (by simp)]
    have hframe := attempted_frame (n := n) (b := b) (s := s) false
    have hsame := attempted_gw (n := n) (b := b) (s := s) false b
    have hwaiting := attempted_binds (n := n) (b := b) (s := s) false
    have herrors := attempted_errors (n := n) (b := b) (s := s)
    generalize attempted n b false s = u at hframe hsame hwaiting herrors ⊢
    have hcfg : u.canCfg n = s.canCfg n := by rw [State.canCfg, State.canCfg, hframe.cfg (by decide)]
    have hagain : (tryAgain n b u).gw n b = { u.gw n b with retries := (u.gw n b).retries + 1 } := modGw_gw_self _ _ _ _
    have hbuffer := busIdle_gw (s := tryAgain n b u) (by rw [tryAgain, modGw_binds, hwaiting]; exact hbinds)
    have hcore := ((core_of_unsent (settle_sentOnly s0 _ n)).trans (busIdle_core n (tryAgain n b u))).trans (modGw_core u n b _)
    rw [gwError_of_more (by rw [hcfg, hsame]; exact hmore), settle_gw, hbuffer, hagain, hsame]
    exact ⟨pending_of_inFlight hflight, rfl, (eq_of_core hcore (·.errors) fun _ => rfl).trans herrors,
      ((hframe.append (modGw_frame u n b _)).append (busIdle_frame n _)).only_settle_of s0 (by decide)⟩

/-- Bus-off fails every pending buffer and is reported (R434). -/
theorem busOff_does (n) (hn : n < 4) : Does (fun τ => .canBusOff τ n) (fun s => awake s = true ∧ (s.canOf n).st ≠ 2)
    (fun s t => (t.canOf n).st = 2 ∧ (∀ b, b < 16 → (t.gw n b).pending = false) ∧ Raised (224 + n) n 0 2 s t ∧ Only [.freeCount] s t) :=
  .of_can hn (busOff n) (fun _ _ => rfl) (fun s h => h.1) fun s0 s ⟨_, hon⟩ => by
    rw [busOff_of_on hon]
    have hframe := wentOff_frame n s
    have hst : ((wentOff n s).canOf n).st = 2 := by rw [wentOff, State.modCan_canOf_self]
    generalize wentOff n s = u at hframe hst ⊢
    have hfailed := failPending_frame n (upFrom 0 16) u
    have hstands := (IntakeStands.of_frame hframe (by decide)).trans (failPending_stands n (upFrom 0 16) u)
    obtain ⟨hcore, hgw, hraised⟩ := reported_settle hn 0 2 hstands s0
    refine ⟨(eq_of_core (hcore.trans (failPending_core n _ u)) (·.st) fun _ => rfl).trans hst, fun b hb => ?_, hraised,
      ((hframe.append hfailed).append (fault_frame_own (dieOfSource_busState hn) n 0 2 0 _)).only_settle_of s0 (by decide)⟩
    rw [hgw]
    exact Bool.eq_false_iff.2 fun hpending => (failPending_pending n _ u hpending).1 (mem_upFrom_zero.2 hb)

/-- Recovery starts the error counters anew and is reported (R434). -/
theorem busBack_does (n) (hn : n < 4) : Does (fun τ => .canBusBack τ n) (fun s => awake s = true ∧ (s.canOf n).st = 2)
    (fun s t => (t.canOf n).st = 0 ∧ (t.canOf n).tec = 0 ∧ (t.canOf n).recCnt = 0 ∧ Raised (224 + n) n 1 1 s t ∧ Only [] s t) :=
  .of_can hn (busBack n) (fun _ _ => rfl) (fun s h => h.1) fun s0 s ⟨_, hoff⟩ => by
    rw [busBack_of_off hoff]
    have hframe := cameBack_frame n s
    have hcan : (cameBack n s).canOf n = { s.canOf n with st := 0, tec := 0, recCnt := 0, offered := ((cameBack n s).canOf n).offered } := by
      simp only [cameBack, offerNext, State.modCan_canOf_self]
    generalize cameBack n s = u at hframe hcan ⊢
    obtain ⟨hcore, -, hraised⟩ := reported_settle hn 1 1 (.of_frame hframe (by decide)) s0
    rw [hcan] at hcore
    exact ⟨eq_of_core hcore (·.st) fun _ => rfl, eq_of_core hcore (·.tec) fun _ => rfl, eq_of_core hcore (·.recCnt) fun _ => rfl, hraised,
      (hframe.append (fault_frame_own (dieOfSource_busState hn) n 1 1 0 u)).only_settle_of s0 (by decide)⟩

/-- Error-passive is reported (R435). -/
theorem busPassive_does (n) (hn : n < 4) : Does (fun τ => .canPassive τ n) (fun s => awake s = true ∧ (s.canOf n).st = 0)
    (fun s t => (t.canOf n).st = 1 ∧ Raised (224 + n) n 2 1 s t ∧ Only [.freeCount] s t) :=
  .of_can hn (busPassive n) (fun _ _ => rfl) (fun s h => h.1) fun s0 s ⟨_, hactive⟩ => by
    rw [busPassive_of_active hactive]
    have hframe := wentPassive_frame n s
    have hst : ((wentPassive n s).canOf n).st = 1 := by rw [wentPassive, State.modCan_canOf_self]
    generalize wentPassive n s = u at hframe hst ⊢
    obtain ⟨hcore, -, hraised⟩ := reported_settle hn 2 1 (.of_frame hframe (by decide)) s0
    exact ⟨(eq_of_core hcore (·.st) fun _ => rfl).trans hst, hraised,
      (hframe.append (fault_frame_own (dieOfSource_busState hn) n 2 1 0 u)).only_settle_of s0 (by decide)⟩

/-- A CAN_SP frame that was never sent goes out (R260). -/
theorem spPeriod_does (l n ident off w sc p) (hl : l < 128) (_ : n < 4) : Does (fun τ => .canSpPeriod τ l)
    (fun s => awake s = true ∧ coreOut s 4 = false ∧ s.start.configActive = true ∧ (s.loopCfg l).out = .canSp n ident off w sc p
      ∧ ((s.canCfg n).zitherSystem = true → s.lead = false)
      ∧ (s.loop l).spAt = none ∧ (s.canOf n).st ≠ 2 ∧ isobusOn s n = false)
    (fun s t => (t.loop l).spAt = some s.devtime ∧ (∃ f ∈ (t.canOf n).sent, f.id = ident ∧ f.data = spFrame s n ident)
      ∧ Only [.loops] s t) :=
  .of_settle (fun s => if awake s && !coreOut s 4 then sendSp l s else s) (fun τ s _ => about_next hl)
      fun s0 s ⟨hawake, hcore, hactive, hout, _, hnever, hon, hplain⟩ => by
    rw [if_pos (by simp [hawake, hcore]), sendSp_of_due hout hactive hnever hon hplain]
    have hset := modLoop_frame s l fun x => { x with spAt := some s.devtime }
    have hspAt : ((s.modLoop l fun x => { x with spAt := some s.devtime }).loop l).spAt = some s.devtime := by rw [State.modLoop_loop_self]
    generalize s.modLoop l (fun x => { x with spAt := some s.devtime }) = u at hset hspAt ⊢
    have hsent := canSend_sent n { id := ident, ext := decide (2048 ≤ ident), fdf := (s.canCfg n).fd, brs := (s.canCfg n).brs, data := spFrame s n ident } u
    have hframe : SameExcept [.can] u (canSend n { id := ident, ext := decide (2048 ≤ ident), fdf := (s.canCfg n).fd, brs := (s.canCfg n).brs, data := spFrame s n ident } u) := modCan_frame u n _
    generalize canSend n { id := ident, ext := decide (2048 ≤ ident), fdf := (s.canCfg n).fd, brs := (s.canCfg n).brs, data := spFrame s n ident } u = v at hsent hframe ⊢
    have hloops : (settle s0 v).loops = u.loops := (hframe.append (settle_frame s0 v)) .loops (by decide)
    refine ⟨?_, ⟨_, settle_sentGrow s0 v n _ hsent, rfl, rfl⟩, (hset.append hframe).only_settle_of s0 (by decide)⟩
    rw [State.loop, hloops]
    exact hspAt

/-- The one binding that waited takes effect when the bus is idle again (R437). -/
theorem waitingBinding_does (n f buf flags id mask) (hn : n < 4) (_ : buf < 16) : Does (fun τ => .canFrameReceived τ n f)
    (fun s => awake s = true ∧ serves 4 s = true ∧ (s.canOf n).st ≠ 2 ∧ f.remote = true ∧ (s.canOf n).binds = [(buf, flags, id, mask)])
    (fun s t => (t.canOf n).binds = [] ∧ (t.gw n buf).enable = bitAt flags 0 ∧ (t.gw n buf).tx = bitAt flags 2
      ∧ (t.gw n buf).filterId = id ∧ (t.gw n buf).filterMask = mask ∧ (t.gw n buf).full = false
      ∧ (t.gw n buf).frames = (s.gw n buf).frames ∧ (t.gw n buf).lost = (s.gw n buf).lost ∧ Only [.loops] s t) :=
  .of_received hn (fun s h => ⟨h.1, h.2.1⟩) fun s0 s ⟨_, _, hon, hremote, hone⟩ => by
    rw [receiveFrame_of_remote hon hremote]
    have hcan := discardOne_canOf n s
    have hframe := discardOne_frame n s
    have hgw := discardOne_gw n buf s
    generalize discardOne n s = u at hcan hframe hgw ⊢
    rw [busIdle_of_one (by rw [hcan]; exact hone)]
    have hcleared := modCan_frame u n fun c => { c with binds := [] }
    have hgw' := (modCan_gateways (f := fun c => { c with binds := [] }) (fun _ => by rfl) u n).gw n buf
    have hbinds : ((u.modCan n fun c => { c with binds := [] }).canOf n).binds = [] := by rw [State.modCan_canOf_self]
    generalize u.modCan n (fun c => { c with binds := [] }) = v at hcleared hgw' hbinds ⊢
    have hbound := bindBuffer_gw n buf flags id mask v
    have hempty := (bindBuffer_binds n buf flags id mask v).trans hbinds
    have hset : SameExcept [.can] v (bindBuffer n buf flags id mask v) := modGw_frame v n buf _
    generalize bindBuffer n buf flags id mask v = w at hbound hempty hset ⊢
    have hoffered : ((offerNext n w).canOf n).binds = (w.canOf n).binds := by rw [offerNext, State.modCan_canOf_self]
    have hunsent := unsent_outs s0 (offerNext n w) n
    rw [gw_outs, offerNext_gw, hbound, hgw', hgw]
    exact ⟨((eq_of_unsent hunsent (·.binds) fun _ => rfl).trans hoffered).trans hempty, rfl, rfl, rfl, rfl, rfl, rfl, rfl,
      (((hframe.trans hcleared).trans hset).trans (offerNext_frame n w)).only_outs s0 (by decide)⟩

/-- Settles O48: its rows one by one. -/
theorem canController : Obligations.CanController :=
  ⟨remoteFrame_does, dataFrame_does, txSent_does, txFailed_does, txAgain_does,
    busOff_does, busBack_does, busPassive_does, spPeriod_does, waitingBinding_does⟩

end Sys2Proof.Machine
end

section
/-! What a reset of D0 leaves (R325, R326, R358, Table 12-4), and the steps of a start (R352 to R373). -/

namespace Sys2Proof.Machine

/-! ## Resets -/

/-- A row that resets D0. -/
theorem Does.of_reset {c : Nat → Instr} {pre : State → Prop} {post : State → State → Prop} (f : State → State)
    (hexec : ∀ τ s, exec (c τ) s = atReset τ f s) (hpost : ∀ s, pre s → post s (settle (f s) (f s))) : Does c pre post :=
  fun τ s hpre => ⟨_, hexec τ s, hpost _ hpre⟩

/-- The records of a D0 that resets are lossy or closed before anything is dropped (R56, R490). -/
theorem beforeDrop_frame (lostS : Nat) (s : State) : SameExcept [.recorder, .cov, .events] s (closeAtReset (lossyRestart lostS s)) :=
  ((lossyRestart_frame lostS s).append (closeAtReset_frame _)).mono (by decide)

section
variable (cause : Nat) (s : State)

theorem resetD0_outputs : (resetD0 cause s).outputs = s.outputs := by
  have hkept : ∀ n, (closeAtReset (lossyRestart n s)).outputs = s.outputs := fun n => beforeDrop_frame n s .outputs (by decide)
  exact hkept _

theorem resetD0_dies : (resetD0 cause s).dies = s.dies := by
  have hkept : ∀ n, (closeAtReset (lossyRestart n s)).dies = s.dies := fun n => beforeDrop_frame n s .dies (by decide)
  exact hkept _

theorem resetD0_tries : (resetD0 cause s).start.tries = s.start.tries := by
  have hkept : ∀ n, (closeAtReset (lossyRestart n s)).start.tries = s.start.tries := fun n =>
    congrArg StartSt.tries (beforeDrop_frame n s .start (by decide))
  exact hkept _

theorem resetD0_fuses : (resetD0 cause s).storage.fuses = s.storage.fuses := by
  have hkept : ∀ n, (closeAtReset (lossyRestart n s)).storage.fuses = s.storage.fuses := fun n =>
    congrArg StorageSt.fuses (beforeDrop_frame n s .storage (by decide))
  exact hkept _

theorem resetD0_keyHash : (resetD0 cause s).storage.keyHash = s.storage.keyHash := by
  have hkept : ∀ n, (closeAtReset (lossyRestart n s)).storage.keyHash = s.storage.keyHash := fun n =>
    congrArg StorageSt.keyHash (beforeDrop_frame n s .storage (by decide))
  exact hkept _

/-- A unit once a reset of D0 has taken what D0 keeps of it. -/
def UnitSt.dropped (x : UnitSt) : UnitSt :=
  { x with frets := [], sect := {}, motion := {}, nextTag := 32768, learn := { tempMc := x.learn.tempMc } }

theorem resetD0_units : (resetD0 cause s).units = s.units.map fun p => (p.1, p.2.dropped) := by
  have hkept : ∀ n, (closeAtReset (lossyRestart n s)).units = s.units := fun n => beforeDrop_frame n s .units (by decide)
  exact congrArg (fun t : Tbl UnitSt => t.map fun p => (p.1, p.2.dropped)) (hkept _)

/-- R326: a unit's drive goes on. -/
theorem resetD0_drive (u : Nat) : ((resetD0 cause s).unit u).drive = (s.unit u).drive := by
  have hunit : (resetD0 cause s).unit u = (s.unit u).dropped := by
    rw [State.unit, resetD0_units]
    exact tget_map s.units {} (fun _ x => x.dropped) u rfl
  rw [hunit]
  rfl

end

/-- R358: counting a reset touches the counter and the failing slots only. -/
theorem countTry_frame (slot : Nat) (s : State) : SameExcept [.start, .storage] s (countTry slot s) := by
  have hcounted := (modStart_frame s fun x => { x with tries := s.start.tries + 1 }).mono (cs := [.start, .storage]) (by decide)
  unfold countTry
  exact .ite (((modStart_frame s _).append (modStore_frame _ _))) hcounted

theorem countTry_start (slot : Nat) (s : State) : (countTry slot s).start = { s.start with tries := s.start.tries + 1 } := by
  unfold countTry
  simp only
  split <;> rfl

/-- What a reset of D0 leaves of the power dies and what they drive (R326). -/
structure DiesGoOn (s t : State) : Prop where
  switches : t.switches = s.switches
  outputs : t.outputs = s.outputs
  dies : t.dies = s.dies
  drives : ∀ u, (t.unit u).drive = (s.unit u).drive

theorem resetD0_diesGoOn (cause : Nat) (s : State) : DiesGoOn s (resetD0 cause s) :=
  ⟨resetD0_switches cause s, resetD0_outputs cause s, resetD0_dies cause s, resetD0_drive cause s⟩

theorem DiesGoOn.settle {s t : State} (h : DiesGoOn s t) (s0 : State) : DiesGoOn s (settle s0 t) := by
  have hend := settle_frame s0 t
  exact ⟨(hend .switches (by decide)).trans h.switches, (hend .outputs (by decide)).trans h.outputs, (hend .dies (by decide)).trans h.dies,
    fun u => (congrArg UnitSt.drive (hend.unit (by decide) u)).trans (h.drives u)⟩

/-! ## What the steps of a start leave alone -/

/-- Since `s` the clocks' and supplies' state, the running slot and the time are as they were. -/
structure Started (s t : State) : Prop where
  time : t.devtime = s.devtime
  state : t.power.state = s.power.state
  supplies : t.power.supplies = s.power.supplies
  pll : t.power.pll = s.power.pll
  slot : t.storage.runningFw = s.storage.runningFw

theorem Started.trans {s t u : State} (h : Started s t) (k : Started t u) : Started s u :=
  ⟨k.time.trans h.time, k.state.trans h.state, k.supplies.trans h.supplies, k.pll.trans h.pll, k.slot.trans h.slot⟩

theorem Started.refl (s : State) : Started s s := ⟨rfl, rfl, rfl, rfl, rfl⟩

theorem Started.of_frame {bs : List Bank} {s t : State} (h : SameExcept bs s t) (hb : .time ∉ bs ∧ .power ∉ bs ∧ .storage ∉ bs := by decide) :
    Started s t := by
  obtain ⟨htime, hpower, hstorage⟩ := hb
  have hp : t.power = s.power := h.power hpower
  have hs : t.storage = s.storage := h .storage hstorage
  exact ⟨h.devtime htime, by rw [hp], by rw [hp], by rw [hp], by rw [hs]⟩

theorem Started.foldl {α : Type} {f : State → α → State} (h : ∀ s a, Started s (f s a)) (l : List α) (s : State) : Started s (l.foldl f s) := by
  induction l generalizing s with
  | nil => exact .refl s
  | cons a l ih => exact (h s a).trans (ih _)

theorem Started.ite {s t u : State} {p : Prop} [Decidable p] (h : Started s t) (k : Started s u) : Started s (if p then t else u) := by
  split
  · exact h
  · exact k

section
variable (s : State)

theorem readDies_started : Started s (readDies s) := by
  have hels : ∀ t : State, SameExcept [.ledger] t (setPool 2000 s.ledger.derated (allKeys.foldl (fun s k => startEl k s) t)) := fun t =>
    (SameExcept.foldl _ (fun s k => modEl_frame k _ s) allKeys t).trans (setPool_frame _ _ _)
  have hread : ∀ t : State, Started s t → Started s (setPool 2000 s.ledger.derated (allKeys.foldl (fun s k => startEl k s) t)) := fun t ht =>
    ht.trans (.of_frame (hels t))
  exact hread _ ⟨rfl, rfl, rfl, rfl, rfl⟩

theorem deliverLatched_started (d : Nat) : Started s (deliverLatched d s) :=
  (Started.of_frame (modDie_frame s d _)).trans (.of_frame (deliverLatched_frame d s))

theorem beginNav_started (near : Bool) : Started s (beginNav near s) :=
  (Started.of_frame (loadNav_frame s)).trans (.of_frame (modNav_frame _ _))

theorem restoreLearning_started : Started s (restoreLearning s) := by
  refine .foldl (fun s p => ?_) _ s
  exact .of_frame (modUnit_frame s _ _)

theorem activate_started (img : Image) (slot : Nat) (start : Bool) : Started s (activate img slot start s) := by
  have hafter : ∀ anew (t : State), Started s t → Started s (activateEvents (activateTokens anew
      ([2, 3].foldl (fun s d => s.modBoost d fun b => { b with running := boostWanted s d && !b.fault }) t))) := fun anew t ht =>
    ((ht.trans (.of_frame (SameExcept.foldl _ (fun s d => modBoost_frame s d fun b => { b with running := boostWanted s d && !b.fault }) [2, 3] t))).trans
      (.of_frame (activateTokens_frame anew _))).trans (.of_frame (activateEvents_frame _))
  exact hafter _ _ ⟨rfl, rfl, rfl, rfl, rfl⟩

theorem fault_started (n inst code sev ctx : Nat) : Started s (fault n inst code sev ctx s) := .of_frame (fault_frame n inst code sev ctx s)

theorem setGain_started (wake : Bool) (u : Nat) : Started s (setGain wake s u) := .of_frame (modUnit_frame s u _)

theorem loseAntenna_started (a : Nat) : Started s (loseAntenna a s) :=
  (Started.of_frame (modNav_frame s _)).trans (.of_frame (faultLevel_stands (37 + a) 0 0 2 _).1)

end

theorem calibrate_started (wake : Bool) (x : StartTests) (s : State) : Started s (calibrate wake x s) := by
  have hfaults : ∀ (l : List Nat) (t : State), Started t (l.foldl (fun s k => calFail k s) t) := fun l t =>
    .foldl (fun s k => fault_started s _ _ _ _ _) l t
  have htables : ∀ (l : List Nat) (t : State), Started t (l.foldl (fun s d => fault 216 d 0 3 0 (s.modDie d fun x => { x with tableOk := true })) t) :=
    fun l t => .foldl (fun s d => (Started.of_frame (modDie_frame s d _)).trans (fault_started _ _ _ _ _ _)) l t
  have hself : ∀ (l : List Nat) (t : State), Started t (l.foldl (fun s n => fault 15 n 6 3 0 s) t) := fun l t =>
    .foldl (fun s n => fault_started s _ _ _ _ _) l t
  have hgains : ∀ (l : List Nat) (t : State), Started t (l.foldl (setGain wake) t) := fun l t => .foldl (fun s u => setGain_started s wake u) l t
  have hmap : ∀ t : State, Started t (if x.fuseMapOk then t else fault 15 0 8 3 0 t) := fun t => .ite (.refl t) (fault_started t _ _ _ _ _)
  unfold calibrate
  simp only
  refine .trans ?_ (htables _ _)
  refine .trans ?_ (hmap _)
  refine .trans ?_ (hself _ _)
  refine .trans ?_ (hfaults _ _)
  exact ((hgains _ s).trans (.of_frame (modStart_frame _ _))).trans (.of_frame (skipDrift_frame _ _))

theorem calibrateRf_started (x : StartTests) (s : State) : Started s (calibrateRf x s) := by
  have hone : ∀ (ok : Bool) (a : Nat) (t : State), Started t (if ok then t
      else loseAntenna a (fault 15 a 7 2 0 (t.modStart fun x => { x with rfBad := x.rfBad ++ [a] }))) := fun ok a t =>
    .ite (.refl t) (((Started.of_frame (modStart_frame t _)).trans (fault_started _ _ _ _ _ _)).trans (loseAntenna_started _ a))
  have hset : Started s ((s.modPower fun p => { p with vddRf := x.vddRf }).modStart fun x => { x with rfBad := [] }) := ⟨rfl, rfl, rfl, rfl, rfl⟩
  unfold calibrateRf
  simp only
  refine .ite ?_ ?_
  · exact ((hset.trans (.of_frame (modStart_frame _ _))).trans (loseAntenna_started _ 0)).trans (loseAntenna_started _ 1)
  · exact (hset.trans (hone _ 0 _)).trans (hone _ 1 _)

theorem restore_started (x : StartTests) (s : State) : Started s (restore x s) := by
  have htorn : ∀ t : State, Started t (if x.tornCommit then fault 248 0 0 2 0 t else t) := fun t => .ite (fault_started t _ _ _ _ _) (.refl t)
  unfold restore
  simp only
  refine .trans ?_ (.of_frame (addTotal_frame _ _ _))
  refine .trans ?_ (.of_frame (modRec_frame _ _))
  refine .trans ?_ (htorn _)
  exact .ite (.of_frame (modCov_frame s _)) ((Started.of_frame (modCov_frame s _)).trans (fault_started _ _ _ _ _ _))

end Sys2Proof.Machine
end

section
/-! The start sequence to READY, and the resets of D0 (R325, R326, R352 to R373, R508). -/

namespace Sys2Proof.Machine

/-! ## READY (R346, R366, R371) -/

/-- READY has been reached in `s`. -/
structure ReadyAt (now : Nat) (t : State) : Prop where
  ready : t.start.ready = true
  pin : t.start.readyPin = true
  at_ : t.start.readyAt = now
  tries : t.start.tries = 0

/-- What step 11 sets before it reports. -/
def readyState (s : State) : State :=
  { s with start := { s.start with ready := true, readyPin := true, readyAt := s.devtime, tries := 0 },
           host := { s.host with beatAt := some s.devtime, beatSeen := false },
           recorder := { s.recorder with timedTo := s.devtime, heldAt := s.devtime, histAt := s.devtime, sampledAt := none,
                                          lostIntervals := 0, lostMs := 0 } }

theorem readyState_started (s : State) : Started s (readyState s) := ⟨rfl, rfl, rfl, rfl, rfl⟩

/-- What READY reports touches neither the start's state nor supplies, storage or time. -/
theorem becomeReady_frame (fwBack cfgBack retLost wake : Bool) (x : StartTests) (s : State) :
    SameExcept [.courses, .events, .dies, .faults, .units, .clusters, .ledger, .zither] (readyState s)
      (becomeReady fwBack cfgBack retLost wake x s) := by
  have hraise : ∀ (on : Bool) code sev (t : State),
      SameExcept [.courses, .events, .dies, .faults, .units, .clusters, .ledger, .zither] t (if on then fault 15 0 code sev 0 t else t) :=
    fun on code sev t => .ite ((fault_frame 15 0 code sev 0 t).mono (by decide)) (.refl _ t)
  unfold becomeReady
  simp only
  refine .trans ?_ ((requestModes_frame _).mono (by decide))
  refine .trans ?_ (hraise _ 4 3 _)
  refine .trans ?_ (hraise _ 3 2 _)
  refine .trans ?_ (hraise _ 2 2 _)
  refine .trans ?_ (hraise _ 1 2 _)
  refine .trans ?_ (hraise _ 0 2 _)
  exact ((notify_frame _ _ _ _).append (edge_frame_own rfl)).mono (by decide)

theorem becomeReady_ready (fwBack cfgBack retLost wake : Bool) (x : StartTests) (s : State) :
    ReadyAt s.devtime (becomeReady fwBack cfgBack retLost wake x s) := by
  have hstart : (becomeReady fwBack cfgBack retLost wake x s).start = (readyState s).start := becomeReady_frame _ _ _ _ x s .start (by decide)
  exact ⟨by rw [hstart]; rfl, by rw [hstart]; rfl, by rw [hstart]; rfl, by rw [hstart]; rfl⟩

theorem becomeReady_started (fwBack cfgBack retLost wake : Bool) (x : StartTests) (s : State) :
    Started s (becomeReady fwBack cfgBack retLost wake x s) := (readyState_started s).trans (.of_frame (becomeReady_frame _ _ _ _ x s))

/-! ## Steps 5 to 11 -/

/-- The supplies, clocks and slot with which step 5 begins. -/
def bootedState (slot : Nat) (s : State) : State :=
  { s with storage := { s.storage with runningFw := slot, failedFw := [] },
           events := { s.events with stopped := false },
           start := { s.start with emmc := true },
           power := { s.power with supplies := true, corePwrEn := true, tcxoEn := true, pll := 2, state := .run } }

/-- Step 5 reads the dies and counts the start. -/
def diesRead (s : State) : State := addTotal (totStarts + s.start.cause) 1 (openHourly (thaw (readDies s)))

theorem diesRead_started (s : State) : Started s (diesRead s) :=
  (((readDies_started s).trans (.of_frame (thaw_frame _))).trans (.of_frame (openHourly_frame _))).trans (.of_frame (addTotal_frame _ _ _))

/-- Steps 5 and 9: what the dies latched is delivered, and navigation begins. -/
def navBegun (near : Bool) (s : State) : State := beginNav near ([2, 3, 4].foldl (fun s d => deliverLatched d s) s)

theorem navBegun_started (near : Bool) (s : State) : Started s (navBegun near s) :=
  (Started.foldl (fun s d => deliverLatched_started s d) [2, 3, 4] s).trans (beginNav_started _ near)

/-- R459: a lead's epoch at an activation. -/
theorem leadEpoch_started (t : State) : Started t (if t.lead then
    { t with storage := { t.storage with sysEpoch := (t.storage.sysEpoch + 1) % 256 },
             zither := { t.zither with joined := some ((t.storage.sysEpoch + 1) % 256) } } else t) := .ite ⟨rfl, rfl, rfl, rfl, rfl⟩ (.refl t)

/-- Step 6: the configuration that is loaded becomes active. -/
theorem activated_started (i : Image) (k : Nat) (s : State) : Started s (activate i k true (restoreLearning { s with cfg := i })) := by
  have hloaded : Started s { s with cfg := i } := ⟨rfl, rfl, rfl, rfl, rfl⟩
  exact (hloaded.trans (restoreLearning_started _)).trans (activate_started _ i k true)

/-- Steps 5 to 10, to the state in which READY is reached. -/
theorem runStart_becomes (slot : Nat) (back : Bool) (x : StartTests) (s : State) : ∃ u cfgBack retLost, Started (bootedState slot s) u
    ∧ runStart slot back false x s = becomeReady back cfgBack retLost false x u := by
  have hnav := (diesRead_started (bootedState slot s)).trans (navBegun_started x.navNear (diesRead (bootedState slot s)))
  refine ⟨_, _, _, ?_, rfl⟩
  refine .trans ?_ (restore_started x _)
  refine .trans ?_ (calibrateRf_started x _)
  refine .trans ?_ (calibrate_started false x _)
  refine .trans ?_ (leadEpoch_started _)
  split
  · exact hnav.trans (activated_started _ _ _)
  · exact hnav

theorem runStart_ready (slot : Nat) (back : Bool) (x : StartTests) (s : State) :
    Started (bootedState slot s) (runStart slot back false x s) ∧ ReadyAt s.devtime (runStart slot back false x s) := by
  obtain ⟨u, cfgBack, retLost, hstarted, heq⟩ := runStart_becomes slot back x s
  have hready := becomeReady_ready back cfgBack retLost false x u
  rw [heq]
  exact ⟨hstarted.trans (becomeReady_started _ _ _ _ x u), by rw [hstarted.time] at hready; exact hready⟩

/-! ## Supplies valid (R352, R360) -/

/-- A start has begun (R352). -/
def startBegun (s : State) : State :=
  { s with start := { s.start with begunAt := s.devtime, cause := s.start.cause },
           power := { s.power with supplies := true, tcxoEn := true, corePwrEn := true } }

theorem startUp_of_silentEmmc {x : StartTests} {s : State} (hsilent : x.emmcAnswers = false) :
    startUp false x s = enterMaintenance false (startBegun s) := if_pos (by simp [hsilent])

theorem startUp_of_slot {x : StartTests} {s : State} {slot : Nat} {back : Bool} (hanswers : x.emmcAnswers = true)
    (hslot : bootSlot s = some (slot, back)) (hfast : x.elapsedUs ≤ 1000000) :
    startUp false x s = runStart slot back false x ((startBegun s).advance (s.devtime + x.elapsedUs)) := by
  have hboot : bootSlot (startBegun s) = some (slot, back) := hslot
  unfold startBegun at hboot ⊢
  unfold startUp
  simp only [hanswers, Bool.not_true, Bool.false_eq_true, if_false] at hboot ⊢
  rw [hboot]
  exact if_neg (by omega)

/-- R352: the start sequence runs where D0 waits for it. -/
def suppliesRow (x : StartTests) (s : State) : State := if s.power.supplies || s.power.state == PowerState.park then s else startUp false x s

theorem exec_suppliesValid (x : StartTests) (τ : Nat) (s : State) :
    exec (.suppliesValid τ x) s = .next (settle s (suppliesRow x (s.advance τ))) := by
  change execSuppliesValid τ x s = _
  unfold execSuppliesValid suppliesRow
  exact at_next _ _ _

theorem suppliesRow_of_off {x : StartTests} {s : State} (hoff : s.power.supplies = false) (hawake : s.power.state ≠ .park) :
    suppliesRow x s = startUp false x s := if_neg (by simp [hoff, hawake])

theorem maintenance_frame (s : State) : SameExcept [.power, .start, .storage, .events] s (enterMaintenance false (startBegun s)) :=
  fun b hb => by cases b <;> simp_all [Bank.same, enterMaintenance, startBegun]

/-! ## Loss of VDD_RF (R325) -/

theorem loseAntenna_frame {a : Nat} (hown : dieOfSource (37 + a) = none) (s : State) : SameExcept [.nav, .events, .faults] s (loseAntenna a s) :=
  (modNav_frame s _).append (faultLevel_frame_own hown 0 0 2 _)

theorem loseAntenna_nav {a : Nat} (hown : dieOfSource (37 + a) = none) (s : State) : (loseAntenna a s).nav
    = { s.nav with antLost := if a = 0 then (true, s.nav.antLost.2) else (s.nav.antLost.1, true) } :=
  (faultLevel_frame_own hown 0 0 2 _).nav (by decide)

theorem mem_intake_faultLevel {n : Nat} (hown : dieOfSource n = none) {e : IntakeEntry} {s : State} (he : e ∈ s.faults.intake) (inst code sev : Nat) :
    e ∈ (faultLevel n inst code sev s).faults.intake := by
  rw [faultLevel_of_own hown]
  rw [← (setLevel_frame n (evtWord inst code sev) true s .faults (by decide) : _ = s.faults)] at he
  exact mem_intake_intakePut he _

/-- D1 is off: no front end measures, and no channel tracks. -/
def rfGone (s : State) : State :=
  stopTracking { s with power := { s.power with vddRf := false }, start := { s.start with rfBad := [0, 1] } }

theorem rfGone_frame (s : State) : SameExcept [.power, .start, .nav] s (rfGone s) := fun b hb => by
  cases b <;> simp_all [Bank.same, rfGone, stopTracking]

theorem loseRf_of_on {s : State} (hon : s.power.vddRf = true) : loseRf s = loseAntenna 1 (loseAntenna 0 (rfGone s)) := if_neg (by simp [hon])

/-! ## The watchdog (R356, R358) -/

theorem watch_of_slow {s : State} (hsupplies : s.power.supplies = true) (hunready : s.start.ready = false) (hmaint : s.start.maint = false)
    (hrun : s.power.state = .run) (hlate : s.start.begunAt + 1000000 ≤ s.devtime) : watch s = countTry (slotTried s) (resetD0 3 s) :=
  if_pos (by simp [hsupplies, hunready, hmaint, hrun, hlate])

theorem watch_of_lost {s : State} {t0 : Nat} (hready : s.start.ready = true) (hkeeper : s.start.keeperOut = some t0) (hlate : t0 + 30000 ≤ s.devtime) :
    watch s = countTry (slotTried s) (resetD0 4 s) :=
  (if_neg (by simp [hready])).trans (if_pos (by simp [hready, hkeeper, elapsed, hlate]))

/-- What a counted reset leaves at the end of its step. -/
theorem counted_settle (cause slot : Nat) (s : State) (s0 : State) :
    (settle s0 (countTry slot (resetD0 cause s))).start.cause = cause
    ∧ (settle s0 (countTry slot (resetD0 cause s))).start.tries = s.start.tries + 1
    ∧ (settle s0 (countTry slot (resetD0 cause s))).start.ready = false
    ∧ (settle s0 (countTry slot (resetD0 cause s))).power.supplies = false
    ∧ (settle s0 (countTry slot (resetD0 cause s))).switches = s.switches
    ∧ (settle s0 (countTry slot (resetD0 cause s))).dies = s.dies := by
  have hreset := resetD0_resets cause s
  have hon := resetD0_diesGoOn cause s
  have htries := resetD0_tries cause s
  generalize resetD0 cause s = u at hreset hon htries ⊢
  have hcounted := countTry_start slot u
  have hframe := (countTry_frame slot u).append (settle_frame s0 (countTry slot u))
  have hstart : (settle s0 (countTry slot u)).start = { u.start with tries := u.start.tries + 1 } :=
    (settle_frame s0 (countTry slot u) .start (by decide)).trans hcounted
  rw [hstart, hframe.power (by decide), (hframe .switches (by decide) : _ = u.switches), (hframe .dies (by decide) : _ = u.dies)]
  exact ⟨hreset.cause, by rw [htries], hreset.ready, hreset.supplies, hon.switches, hon.dies⟩

/-- What a reset of D0 without a count leaves at the end of its step. -/
theorem reset_settle (cause : Nat) (s : State) (s0 : State) :
    (settle s0 (resetD0 cause s)).start.cause = cause ∧ (settle s0 (resetD0 cause s)).start.ready = false
    ∧ (settle s0 (resetD0 cause s)).start.configActive = false ∧ (settle s0 (resetD0 cause s)).power.supplies = false
    ∧ (settle s0 (resetD0 cause s)).host.outputsEnabled = false ∧ (settle s0 (resetD0 cause s)).host.epoch = 0
    ∧ (settle s0 (resetD0 cause s)).switches = s.switches ∧ (settle s0 (resetD0 cause s)).outputs = s.outputs
    ∧ (settle s0 (resetD0 cause s)).dies = s.dies ∧ ∀ u, ((settle s0 (resetD0 cause s)).unit u).drive = (s.unit u).drive := by
  have hreset := (resetD0_resets cause s).settle s0
  have hon := (resetD0_diesGoOn cause s).settle s0
  exact ⟨hreset.cause, hreset.ready, hreset.active, hreset.supplies, hreset.outputs, hreset.epoch, hon.switches, hon.outputs, hon.dies, hon.drives⟩

/-! ## The statement -/

/-- Settles O45: the start by the steps that leave supplies, clocks, slot and time alone until READY is set; a reset by what it drops. -/
theorem resets : Obligations.Resets := by
  unfold Obligations.Resets
  refine ⟨fun x => .of_settle (suppliesRow x) (fun τ s _ => exec_suppliesValid x τ s) fun s0 s ⟨hoff, hawake, hsilent⟩ => ?_,
    fun x slot back => .of_settle (suppliesRow x) (fun τ s _ => exec_suppliesValid x τ s) fun s0 s ⟨hoff, hawake, hanswers, hslot, hfast⟩ => ?_,
    .of_reset powerOnReset (fun _ _ => rfl) fun s _ => ?_,
    .of_reset coreBrownout (fun _ _ => rfl) fun s ⟨hon, hawake⟩ => ?_,
    .of_reset coreBrownout (fun _ _ => rfl) fun s hpark => ?_,
    .of_reset (resetD0 2) (fun _ _ => rfl) fun s _ => reset_settle 2 s _,
    fun t0 => .of_reset watch (fun _ _ => rfl) fun s ⟨hready, hkeeper, hlate⟩ => ?_,
    .of_reset watch (fun _ _ => rfl) fun s ⟨hsupplies, hunready, hmaint, hrun, hlate⟩ => ?_,
    .of_settle loseRf (fun _ _ _ => at_next _ _ _) fun s0 s hon => ?_⟩
  · rw [suppliesRow_of_off hoff hawake, startUp_of_silentEmmc hsilent]
    have hframe := maintenance_frame s
    have hend := settle_frame s0 (enterMaintenance false (startBegun s))
    rw [hend.power (by decide), (hend .start (by decide) : _ = (enterMaintenance false (startBegun s)).start)]
    exact ⟨rfl, rfl, rfl, rfl, rfl, hframe.only_settle_of s0 (by decide)⟩
  · rw [suppliesRow_of_off hoff hawake, startUp_of_slot hanswers hslot hfast]
    have hnow : ((startBegun s).advance (s.devtime + x.elapsedUs)).devtime = s.devtime + x.elapsedUs :=
      (advance_devtime _ _).trans (Nat.max_eq_right (Nat.le_add_right _ _))
    generalize (startBegun s).advance (s.devtime + x.elapsedUs) = u at hnow ⊢
    obtain ⟨hstarted, hready⟩ := runStart_ready slot back x u
    generalize runStart slot back false x u = v at hstarted hready ⊢
    have hend := settle_frame s0 v
    rw [hend.power (by decide), (hend .start (by decide) : _ = v.start), (hend .storage (by decide) : _ = v.storage), ← hnow]
    exact ⟨hready.ready, hready.pin, hready.at_, hready.tries, hstarted.slot, hstarted.state, hstarted.supplies, hstarted.pll⟩
  · have hend := settle_frame (powerOnReset s) (powerOnReset s)
    rw [hend.devtime (by decide), hend.power (by decide), (hend .start (by decide) : _ = (powerOnReset s).start),
      (hend .switches (by decide) : _ = (powerOnReset s).switches), (hend .units (by decide) : _ = (powerOnReset s).units),
      (hend .session (by decide) : _ = (powerOnReset s).host.registers), (hend .storage (by decide) : _ = (powerOnReset s).storage),
      (hend .pending (by decide) : _ = (powerOnReset s).pending)]
    exact ⟨rfl, rfl, rfl, rfl, rfl, rfl, resetD0_fuses 0 s, resetD0_keyHash 0 s, rfl⟩
  · have hreset : coreBrownout s = resetD0 1 s := (if_neg (by simp [hawake])).trans (if_neg (by simp [hon]))
    rw [hreset]
    exact reset_settle 1 s _
  · have hstill : coreBrownout s = s := if_pos (by simp [hpark])
    rw [hstill]
    exact (SameExcept.refl [] s).only_settle_of s (by decide)
  · rw [watch_of_lost hready hkeeper hlate]
    exact counted_settle 4 _ s _
  · rw [watch_of_slow hsupplies hunready hmaint hrun hlate]
    obtain ⟨hcause, htries, -, hsupply, hswitches, hdies⟩ := counted_settle 3 (slotTried s) s (countTry (slotTried s) (resetD0 3 s))
    exact ⟨hcause, htries, hsupply, hswitches, hdies⟩
  · rw [loseRf_of_on hon]
    have hgone := rfGone_frame s
    have hpower : (rfGone s).power.vddRf = false ∧ (rfGone s).start.rfBad = [0, 1] ∧ (rfGone s).nav.channels = [] := ⟨rfl, rfl, rfl⟩
    have hraised : Raised 37 0 0 2 s (loseAntenna 0 (rfGone s)) :=
      ((raised_faultLevel (n := 37) rfl 0 0 2 _).of_before (modNav_frame (rfGone s) _) (by decide)).of_before hgone (by decide)
    generalize rfGone s = u at hgone hpower hraised ⊢
    have hfirst := loseAntenna_frame (a := 0) rfl u
    have hnav := loseAntenna_nav (a := 0) rfl u
    generalize loseAntenna 0 u = v at hfirst hnav hraised ⊢
    have hsecond := loseAntenna_frame (a := 1) rfl v
    have hnav' := loseAntenna_nav (a := 1) rfl v
    have hkept : ∀ e, e ∈ v.faults.intake → e ∈ (loseAntenna 1 v).faults.intake := fun e he =>
      mem_intake_faultLevel (n := 38) (s := v.modNav _) rfl he 0 0 2
    have hend := settle_frame s0 (loseAntenna 1 v)
    have hboth := (hfirst.append hsecond).append hend
    obtain ⟨hrf, hbad, hchannels⟩ := hpower
    rw [hboth.power (by decide), (hboth .start (by decide) : _ = u.start), hend.nav (by decide), hnav', hnav]
    exact ⟨hrf, hbad, rfl, hchannels, (hraised.mono hkept).settle s0, ((hgone.append hfirst).append hsecond).only_settle_of s0 (by decide)⟩

end Sys2Proof.Machine
end
